-- ==== Sys2Proof/Word.lean ====
section
/-!
DEFINITION. Sys2Proof/Word.lean: the word types, the finite index types and the map type the whole model uses.
-/

namespace Sys2Proof

/-- One byte. -/
abbrev Byte := BitVec 8

/-- One 32-bit register word (R11: registers are 32 bits wide and little-endian). -/
abbrev Word := BitVec 32

/-- A string of bytes as it stands on a wire or in a buffer, the first byte first. -/
abbrev Bytes := List Byte

/-- Sparse data by key: pairs of a key and a value, the keys rising when only the operations of
`Machine/Store.lean` built the list. -/
abbrev AMap (α : Type) := List (Nat × α)

/-- Memory: address and byte, in the canonical form that `Machine/Store.lean` keeps. -/
abbrev Memory := List Host.Cell

/-- R7: a channel, 0 to 15. -/
abbrev Chan := Fin 16
/-- R7: a loom, 0 to 15. -/
abbrev LoomId := Fin 16
/-- R7: a MAC port, 0 to 7. -/
abbrev PortId := Fin 8
/-- R7: a serial lane, 0 to 31. -/
abbrev LaneId := Fin 32
/-- R7: a quad, 0 to 7. -/
abbrev QuadId := Fin 8
/-- R7: an audio port, 0 to 7. -/
abbrev AudioPort := Fin 8
/-- R7: a PTP domain, 0 primary and 1 redundant. -/
abbrev DomainId := Fin 2
/-- R18: a fabric master, 0 to 39. -/
abbrev MasterId := Fin 40
/-- R73: a DMA ring, 0 to 63. -/
abbrev RingId := Fin 64
/-- R77: an MSI-X vector, 0 to 63. -/
abbrev VectorId := Fin 64
/-- R71: a mailbox slot, 0 to 3. -/
abbrev MailSlot := Fin 4
/-- R368: a Beam (DRAM) channel, 0 to 7. -/
abbrev BeamChan := Fin 8
/-- R25: a Bolt core, 0 to 7. -/
abbrev CoreId := Fin 8
/-- R248: a chain port, 0 upstream and 1 downstream. -/
abbrev ChainPort := Fin 2

/-- A natural number written in n bytes, the most significant byte first (R37). -/
def beBytes : Nat → Nat → Bytes
  | 0, _ => []
  | n + 1, v => BitVec.ofNat 8 (v / 256 ^ n) :: beBytes n v

/-- The number that bytes spell, the most significant byte first (R37). -/
def ofBeBytes (b : Bytes) : Nat := b.foldl (fun acc x => acc * 256 + x.toNat) 0

/-- A natural number written in n bytes, the least significant byte first (R11, R74). -/
def leBytes : Nat → Nat → Bytes
  | 0, _ => []
  | n + 1, v => BitVec.ofNat 8 v :: leBytes n (v / 256)

/-- The number that bytes spell, the least significant byte first. -/
def ofLeBytes : Bytes → Nat
  | [] => 0
  | b :: t => b.toNat + 256 * ofLeBytes t

end Sys2Proof
end

