-- ==== Sys2Proof/Machine/Store.lean ====
section
/-!
DEFINITION. Sys2Proof/Machine/Store.lean: the operations over sparse maps and over byte memory, and the small
arithmetic helpers (bit tests, masks, wrapping counts) that every family uses.
-/

namespace Sys2Proof.Machine

/-- The value a key has in a map, if any. -/
def AMap.find? {α : Type} : AMap α → Nat → Option α
  | [], _ => none
  | (k', v) :: t, k => if k' = k then some v else AMap.find? t k

/-- The value a key has in a map, or a default. -/
def AMap.getD {α : Type} (m : AMap α) (k : Nat) (d : α) : α := (AMap.find? m k).getD d

/-- A map with one key set. -/
def AMap.put {α : Type} : AMap α → Nat → α → AMap α
  | [], k, v => [(k, v)]
  | (k', v') :: t, k, v =>
    if k < k' then (k, v) :: (k', v') :: t
    else if k' = k then (k, v) :: t
    else (k', v') :: AMap.put t k v

/-- A map without one key. -/
def AMap.del {α : Type} (m : AMap α) (k : Nat) : AMap α := m.filter (fun e => e.1 != k)

/-- A map with one key changed by a function of its present value, or of a default where it has none. -/
def AMap.upd {α : Type} (m : AMap α) (k : Nat) (d : α) (f : α → α) : AMap α := AMap.put m k (f (AMap.getD m k d))

/-- The canonical form of a memory: addresses strictly rising, and no listed byte is the zero an unlisted
address reads as (log entry 2). -/
def Memory.wf : Memory → Bool
  | [] => true
  | [c] => c.2 != 0
  | c :: d :: t => c.2 != 0 && decide (c.1 < d.1) && Memory.wf (d :: t)

/-- One byte of memory; an unlisted address reads as 0 (log entry 2). -/
def Memory.read (m : Memory) (a : Nat) : Byte := AMap.getD m a 0

/-- One byte written; writing 0 removes the entry. -/
def Memory.write : Memory → Nat → Byte → Memory
  | [], a, b => if b = 0 then [] else [(a, b)]
  | (a', b') :: t, a, b =>
    if a < a' then (if b = 0 then (a', b') :: t else (a, b) :: (a', b') :: t)
    else if a' = a then (if b = 0 then t else (a, b) :: t)
    else (a', b') :: Memory.write t a b

/-- A run of bytes written from an address upwards. -/
def Memory.writeBytes : Memory → Nat → Bytes → Memory
  | m, _, [] => m
  | m, a, b :: t => Memory.writeBytes (Memory.write m a b) (a + 1) t

/-- A run of bytes read from an address upwards. -/
def Memory.readBytes (m : Memory) (a : Nat) : Nat → Bytes
  | 0 => []
  | n + 1 => Memory.read m a :: Memory.readBytes m (a + 1) n

/-- Bit i of a number. -/
def bit (v i : Nat) : Bool := v / 2 ^ i % 2 == 1

/-- A number with bit i set or cleared. -/
def setBit (v i : Nat) (b : Bool) : Nat :=
  if bit v i then (if b then v else v - 2 ^ i) else (if b then v + 2 ^ i else v)

/-- The field of a number from bit lo, n bits wide. -/
def field (v lo n : Nat) : Nat := v / 2 ^ lo % 2 ^ n

/-- A truth value as a number. -/
def b2n (b : Bool) : Nat := if b then 1 else 0

/-- The mask whose bit i is p i, for i below n. -/
def maskOf (n : Nat) (p : Nat → Bool) : Nat := (List.range n).foldl (fun acc i => acc + (if p i then 2 ^ i else 0)) 0

/-- The largest of a list of numbers, 0 for none. -/
def maxOf (l : List Nat) : Nat := l.foldl max 0

/-- A quotient rounded up. -/
def ceilDiv (a b : Nat) : Nat := (a + b - 1) / b

/-- An integer as an n-bit two's complement pattern. -/
def toPattern (n : Nat) (v : Int) : Nat := (v % (2 ^ n : Int)).toNat

/-- The integer that an n-bit two's complement pattern stands for. -/
def ofPattern (n : Nat) (v : Nat) : Int := if v < 2 ^ (n - 1) then (v : Int) else (v : Int) - 2 ^ n

/-- An integer limited to lo to hi. -/
def clampInt (lo hi v : Int) : Int := if v < lo then lo else if hi < v then hi else v

end Sys2Proof.Machine
end

