-- ==== Sys2Proof/Machine/Objs.lean ====
section
/-!
DEFINITION. Sys2Proof/Machine/Objs.lean: what an object of the Draft is (R36 to R38): its type, access codes, default,
range and place; the rows themselves stand in `Machine/ObjRows.lean`.
-/

namespace Sys2Proof.Machine

/-- R37: the type codes of object values. -/
inductive OType where
  | bool | i8 | i16 | i32 | u8 | u16 | u32 | f32 | str | octets | i64 | u64 | time80
  deriving DecidableEq, Repr

/-- R37: the code of a type. -/
def OType.code : OType → Nat
  | .bool => 0x01 | .i8 => 0x02 | .i16 => 0x03 | .i32 => 0x04 | .u8 => 0x05 | .u16 => 0x06 | .u32 => 0x07
  | .f32 => 0x08 | .str => 0x09 | .octets => 0x0A | .i64 => 0x0B | .u64 => 0x0C | .time80 => 0x0D

/-- R37: the size in bytes of a value of a type of fixed size; 0 for STR and OCTETS. -/
def OType.size : OType → Nat
  | .bool => 1 | .i8 => 1 | .i16 => 2 | .i32 => 4 | .u8 => 1 | .u16 => 2 | .u32 => 4
  | .f32 => 4 | .str => 0 | .octets => 0 | .i64 => 8 | .u64 => 8 | .time80 => 10

/-- R37: whether a value of the type is read as two's complement. -/
def OType.signed : OType → Bool
  | .i8 => true | .i16 => true | .i32 => true | .i64 => true
  | _ => false

/-- R38: the access codes. -/
inductive Acc where
  | no | const | ro | wo | rw | rwc
  deriving DecidableEq, Repr

/-- R38: the code of an access. -/
def Acc.code : Acc → Nat
  | .no => 0 | .const => 1 | .ro => 2 | .wo => 3 | .rw => 4 | .rwc => 5

/-- R38: whether the access gives reading. -/
def Acc.reads : Acc → Bool
  | .const => true | .ro => true | .rw => true | .rwc => true
  | _ => false

/-- R36: the four principals. -/
inductive Prin where
  | host | net | chain | selvedge
  deriving DecidableEq, Repr

/-- R38: the access of an object, one code per principal. -/
structure AccSet where
  host : Acc
  net : Acc
  chain : Acc
  selvedge : Acc
  deriving DecidableEq, Repr

/-- R38: the code that applies to a principal. -/
def AccSet.of (a : AccSet) : Prin → Acc
  | .host => a.host | .net => a.net | .chain => a.chain | .selvedge => a.selvedge

/-- R38: the 16-bit access word, Host in bits 3:0 up to Selvedge in bits 15:12. -/
def AccSet.word (a : AccSet) : Nat :=
  a.host.code + 16 * a.net.code + 256 * a.chain.code + 4096 * a.selvedge.code

/-- A value of an object: a number (F32 as its 32 bits, TIME80 as seconds × 2³² + nanoseconds), or bytes. -/
inductive Val where
  | int (v : Int)
  | oct (b : Bytes)
  deriving DecidableEq, Repr

/-- The number of a value; bytes have none and give 0. -/
def Val.toInt : Val → Int
  | .int v => v
  | .oct _ => 0

/-- The bytes of a value; a number has none. -/
def Val.toBytes : Val → Bytes
  | .int _ => []
  | .oct b => b

/-- The default of an object: a number, bytes, one number per subindex or per index of a repeated object, a value
that the object's chapter derives, or none (a write-only object). -/
inductive Dflt where
  | int (v : Int)
  | oct (b : Bytes)
  | perSub (l : List Int)
  | perIdx (base step : Int)
  | derived
  | none
  deriving DecidableEq, Repr

/-- The values a writable number may take: from lo to hi in multiples of step, or one of also. -/
structure Rng where
  lo : Int
  hi : Int
  step : Nat
  also : List Int
  deriving DecidableEq, Repr

/-- Whether a number lies in a range. -/
def Rng.holds (r : Rng) (v : Int) : Bool :=
  (decide (r.lo ≤ v) && decide (v ≤ r.hi) && decide (v % (r.step : Int) = 0)) || r.also.contains v

/-- R36: one row of the object tables. The object stands at idx + stride × i + stride2 × j for i below count and j below
count2, at subindexes sub to sub + subN − 1. -/
structure ObjDef where
  idx : Nat
  stride : Nat
  count : Nat
  stride2 : Nat
  count2 : Nat
  sub : Nat
  subN : Nat
  ty : OType
  /-- for OCTETS and STR, the shortest and the longest length -/
  minLen : Nat
  maxLen : Nat
  acc : AccSet
  dflt : Dflt
  rng : Option Rng
  deriving DecidableEq, Repr

/-! R54: the status codes. -/
def stOk : Nat := 0x0000
def stStaged : Nat := 0x0001
def stAccepted : Nat := 0x0002
def stApplied : Nat := 0x0003
def stSegmentHeld : Nat := 0x0004
def stNoSuchObject : Nat := 0x0101
def stNoSuchSubindex : Nat := 0x0102
def stTypeMismatch : Nat := 0x0103
def stLengthMismatch : Nat := 0x0104
def stOutOfRange : Nat := 0x0105
def stAccessDenied : Nat := 0x0106
def stTwillHeld : Nat := 0x0107
def stInconsistent : Nat := 0x0108
def stStagingFull : Nat := 0x0109
def stBusy : Nat := 0x010A
def stNotReady : Nat := 0x010B
def stNothingStaged : Nat := 0x010C
def stAdmissionRefused : Nat := 0x0201
def stLineBufferLimit : Nat := 0x0202
def stLoomAssignment : Nat := 0x0203
def stSlotDoesNotFit : Nat := 0x0204
def stAuthRequired : Nat := 0x0301
def stAuthFailed : Nat := 0x0302
def stReplayRejected : Nat := 0x0303
def stKeyScope : Nat := 0x0304

/-- The key of an object in a value store: index × 256 + subindex. -/
def objKey (idx sub : Nat) : Nat := idx * 256 + sub

/-- The index of a key. -/
def keyIdx (k : Nat) : Nat := k / 256
/-- The subindex of a key. -/
def keySub (k : Nat) : Nat := k % 256

/-- Whether an index is one of a row's indexes. -/
def ObjDef.hasIdx (d : ObjDef) (idx : Nat) : Bool :=
  decide (d.idx ≤ idx) &&
    (let o := idx - d.idx
     if d.stride2 = 0 then
       (if d.stride = 0 then o == 0 else decide (o % d.stride = 0) && decide (o / d.stride < d.count))
     else
       decide (o % d.stride / d.stride2 < d.count2) && decide (o % d.stride % d.stride2 = 0)
         && decide (o / d.stride < d.count))

/-- Whether a row holds an object. -/
def ObjDef.has (d : ObjDef) (idx sub : Nat) : Bool :=
  d.hasIdx idx && decide (d.sub ≤ sub) && decide (sub < d.sub + d.subN)

/-- The number i of a repeated object. -/
def ObjDef.rank (d : ObjDef) (idx : Nat) : Nat := if d.stride = 0 then 0 else (idx - d.idx) / d.stride

/-- The default that a row's table gives an object, where it is no derived one. -/
def ObjDef.tableDefault (d : ObjDef) (idx sub : Nat) : Val :=
  match d.dflt with
  | .int v => .int v
  | .oct b => .oct b
  | .perSub l => .int (l.getD (sub - d.sub) 0)
  | .perIdx b st => .int (b + st * (d.rank idx : Int))
  | .derived => if d.ty = .octets then .oct [] else .int 0
  | .none => if d.ty = .octets then .oct [] else .int 0

end Sys2Proof.Machine
end

