-- ==== Sys2Proof/Machine/StCtl.lean ====
section
/-!
DEFINITION. Sys2Proof/Machine/StCtl.lean: the parts of the state that belong to control: the clocks, the Draft and Shed, the
PCIe interface, the fabric and its freezes, start-up, flash and fuses, the update transfer, the Mending Log, the counters,
the Shuttle and the Governor. Every field is plain data; its docstring names the rule that gives it.
-/

namespace Sys2Proof.Machine

/-! ## Clocks -/

/-- R303: the clocks. Time is kept exactly in units of 1/(6 × 10⁹) ns, so that a TIME_CLK period of 25/6 ns and a
correction in parts per billion are whole numbers (log entry 4). -/
structure Clock where
  /-- R55 UptimeNs: TIME_CLK periods since the release of the last reset -/
  ticks : Nat := 0
  /-- R303: the primary domain clock, in units of 1/(6 × 10⁹) ns since the epoch -/
  primary : Int := 0
  /-- R303: the redundant domain clock -/
  redundant : Int := 0
  /-- R303: presented time -/
  presented : Int := 0
  /-- R320: presented time as TIME_NOW_LO last latched it, ns -/
  nowLatch : Nat := 0
  deriving DecidableEq, Repr

/-! ## The Draft -/

/-- R48: one staging set. -/
structure StageSet where
  /-- the staged values by key, an OCTETS value above 1,024 bytes standing for its large-value area too -/
  items : AMap Val := []
  /-- TIME_CLK count of the principal's last write or commit, for the 60 s of R48 -/
  lastWrite : Nat := 0
  deriving DecidableEq, Repr

/-- R41: a partial value under segment writes. -/
structure Partial where
  prin : Prin
  key : Nat
  data : Bytes
  deriving DecidableEq, Repr

/-- Where a commit came from. -/
inductive CommitKind where
  /-- a CommitTag write (R51) -/
  | tagged
  /-- a Selvedge write to one RWC object (R47) -/
  | oneObject
  /-- the boot commit (R424) -/
  | boot
  /-- a PatternLoadSlot commit (R427) -/
  | load
  deriving DecidableEq, Repr

/-- R51: one commit in the queue. -/
structure Commit where
  /-- its number among the commits that have entered the queue; the model's own, by which its outcome and its effects are followed -/
  id : Nat := 0
  prin : Prin
  tag : Nat
  kind : CommitKind
  items : AMap Val
  /-- whether its validation has begun (CommitStatus 2 Validating) -/
  validating : Bool := false
  deriving DecidableEq, Repr

/-- R50: what CommitStatus reports to one principal. -/
structure CommitStat where
  /-- the number of the commit that it reports -/
  id : Nat := 0
  lastTag : Nat := 0
  state : Nat := 0
  status : Nat := 0
  failIdx : Nat := 0
  failSub : Nat := 0
  failBudget : Nat := 0
  deriving DecidableEq, Repr

/-- R52: when an effect of an accepted commit takes place. -/
inductive When where
  /-- at channel c's next picture boundary -/
  | boundary (c : Nat)
  /-- R210: at channel c's first picture boundary that lies at or after the changeovers of these lists: port, and number of the list that
  the commit made pending there -/
  | after (c : Nat) (lists : List (Nat × Nat))
  /-- at port p's changeover cycle -/
  | changeover (p : Nat)
  /-- at port p's next token refill -/
  | refill (p : Nat)
  /-- at the next policer refill (R291) -/
  | policer
  /-- R209: at the picture boundary of channel c at which the offset in force reaches LatencyRows -/
  | latency (c : Nat)
  deriving DecidableEq, Repr

/-- R52: one effect of an accepted commit that has not taken place. -/
structure Effect where
  id : Nat
  when_ : When
  /-- values that come into force -/
  items : AMap Val
  /-- R46: functions whose Twill fields fall back to the values derived from Plain, first: f the whole function; f + 512 a port's
  shaper parameters alone; f + 1024 its gate list alone -/
  releases : List Nat
  deriving DecidableEq, Repr

/-- R58, R65: the path by which a message came and its reply returns. -/
inductive Path where
  /-- MAC port, with the sender's address (16 bytes) and UDP port, to which the reply goes -/
  | port (p : PortId) (addr : Bytes) (udp : Nat)
  | chain (d : ChainPort)
  | mailbox (s : MailSlot)
  deriving DecidableEq, Repr

/-- R65: a request that has gone on over the chain. -/
structure Route where
  /-- the chain port by which it left, and its type, TransactionId and SenderId -/
  side : Nat
  type : Nat
  tid : Nat
  sender : Nat
  /-- where it came from -/
  origin : Path
  deriving DecidableEq, Repr

/-- A message or control frame that waits for Bolt, or a message for the Fast Responder. -/
structure QMsg where
  path : Path
  bytes : Bytes
  /-- R415: 0 a Shed message; 1 an ARP or ND frame, its bytes the address that it tells of; 2 another control frame; 16 + c an RTCP packet
  for channel c -/
  kind : Nat := 0
  /-- TIME_CLK count at which it was accepted (R58) -/
  since : Nat
  /-- R58: the Fast Responder has already answered NotReady for it -/
  timedOut : Bool := false
  deriving DecidableEq, Repr

/-- R62: a replay window. -/
structure Replay where
  last : Nat := 0
  /-- the sequence numbers of the last 64 accepted messages, the newest first -/
  seen : List Nat := []
  deriving DecidableEq, Repr

/-- R64: an EventNotify that no EventAck has answered. -/
structure Unacked where
  tid : Nat
  bytes : Bytes
  resends : Nat := 0
  lastSent : Nat := 0
  deriving DecidableEq, Repr

/-- R62: a sliding count of refusals answered in one second on one port (R63). -/
structure RateWin where
  start : Nat := 0
  count : Nat := 0
  deriving DecidableEq, Repr

/-- The Draft and Shed. -/
structure DraftSt where
  host : StageSet := {}
  net : StageSet := {}
  chain : StageSet := {}
  partials : List Partial := []
  /-- R51: the commit queue, the oldest first -/
  queue : List Commit := []
  statHost : CommitStat := {}
  statNet : CommitStat := {}
  statChain : CommitStat := {}
  statSelv : CommitStat := {}
  /-- commits that have entered the queue so far, the source of Commit.id -/
  entered : Nat := 0
  effects : List Effect := []
  /-- R45: bit f set while function f is twill-held -/
  held : Nat := 0
  /-- R58, R415: the Bolt (boot) queues: 0 to 7 the ports, 8 the chain, 9 the mailbox; the oldest first -/
  boltQ : AMap (List QMsg) := []
  /-- R57: the Fast Responder's queues by port -/
  fastQ : AMap (List QMsg) := []
  /-- R62: replay windows, key slots 0 to 7, chain ports at 16 and 17 -/
  replay : AMap Replay := []
  /-- R62: m per key, slots 0 to 7 and the chain link key at 16 -/
  txCount : AMap Nat := []
  /-- R64: unacknowledged notifies by subscriber, the oldest first -/
  unacked : AMap (List Unacked) := []
  /-- R64: events counted as lost by subscriber -/
  notifyLost : AMap Nat := []
  nextTid : Nat := 1
  /-- R63: messages dropped as malformed, by path (ports 0 to 7, chain 8 and 9, mailbox 10) -/
  malformed : AMap Nat := []
  /-- R63: refusals counted and not answered, by path -/
  unanswered : AMap Nat := []
  /-- R63: refusals answered in the present second, by path -/
  refusals : AMap RateWin := []
  /-- R65: messages dropped for their HopLimit -/
  hopDrops : Nat := 0
  /-- R57: requests dropped at a full Fast Responder queue -/
  fastDrops : AMap Nat := []
  /-- R57: the TIME_CLK count from which the Fast Responder can take its next request -/
  fastFree : Nat := 0
  /-- R48: the DRAM address of the three large-value areas of 8 MiB, once Bolt has reserved them -/
  largeAreas : Option Nat := none
  /-- R65: the requests forwarded over the chain, the newest first, by which replies find their way back -/
  routes : List Route := []
  /-- per principal (0 host, 1 net, 2 chain, 3 Selvedge): 0x5800:01 FlowSelect, 0x7801:01 ReadSequence, 0x7C00:01 CounterSelect -/
  flowSelect : AMap Nat := []
  readSeq : AMap Nat := []
  ctrSelect : AMap Nat := []
  deriving DecidableEq, Repr

/-! ## PCIe -/

/-- R71: a mailbox slot. -/
structure MailSt where
  /-- the request buffer, 4,096 bytes; bytes not listed are 0 -/
  request : Memory := []
  /-- the response buffer -/
  response : Bytes := []
  /-- R71: cleared Done left the response buffer undefined; the free value that now fills it is number n -/
  responseFree : Option Nat := none
  busy : Bool := false
  done : Bool := false
  overrun : Bool := false
  submitCount : Nat := 0
  responseLength : Nat := 0
  /-- the reply that MAILBOX_DONE will deliver, once the request has been answered -/
  reply : Option Bytes := none
  /-- a request of fast objects only, answered when Done is set (R55) -/
  fastReq : Option Bytes := none
  deriving DecidableEq, Repr

/-- R74: a DMA descriptor. -/
structure Desc where
  hostAddr : Nat
  devAddr : Nat
  length : Nat
  irq : Bool
  endOfUnit : Bool
  userTag : Nat
  deriving DecidableEq, Repr

/-- R74: a DMA ring's registers, and the descriptors that the device has fetched. -/
structure RingSt where
  baseLo : Word := 0
  baseHi : Word := 0
  enable : Bool := false
  log2Size : Nat := 4
  tail : Nat := 0
  head : Nat := 0
  error : Bool := false
  stopped : Bool := false
  lastError : Nat := 0
  /-- R75: the 32-byte descriptors fetched and not yet completed, from Head on, at most 16 -/
  fetched : List Bytes := []
  deriving DecidableEq, Repr

/-- R66, R69: what the host sets in configuration space (log entry 114). -/
structure PcieConfig where
  /-- Max_Payload_Size and Max_Read_Request_Size as encoded: 128 × 2^n bytes -/
  maxPayload : Nat := 0
  maxRead : Nat := 2
  /-- ASPM Control -/
  aspm : Nat := 0
  /-- ASPM L1.1 enabled -/
  l11 : Bool := false
  msixEnable : Bool := false
  functionMask : Bool := false
  deriving DecidableEq, Repr

/-- R77, R78: one MSI-X vector. -/
structure VecSt where
  addrLo : Word := 0
  addrHi : Word := 0
  data : Word := 0
  masked : Bool := true
  pba : Bool := false
  /-- a cause raised within MinIntervalUs waits for the next message -/
  waiting : Bool := false
  /-- TIME_CLK count of the last message; none before the first -/
  lastSent : Option Nat := none
  deriving DecidableEq, Repr

/-- The PCIe interface. -/
structure PcieSt where
  mail : AMap MailSt := []
  rings : AMap RingSt := []
  vecs : AMap VecSt := []
  linkUp : Bool := false
  linkRate : Nat := 0
  linkWidth : Nat := 0
  config : PcieConfig := {}
  /-- R69: posted writes dropped while master 10 is frozen -/
  droppedWrites : Nat := 0
  /-- R75: bytes of the present unit of a ring already in place -/
  unitBytes : AMap Nat := []
  deriving DecidableEq, Repr

/-! ## Fabric, firewall and freezes -/

/-- R435: what a transaction addresses. -/
inductive Target where
  | dram | sram | ring
  deriving DecidableEq, Repr

/-- R435: the code of a target. -/
def Target.code : Target → Nat
  | .dram => 0 | .sram => 1 | .ring => 2

/-- R435: a firewall window. -/
structure Window where
  base : Nat
  size : Nat
  target : Target
  read : Bool
  write : Bool
  deriving DecidableEq, Repr

/-- R14, R15: a fabric transaction; wdata is none for a read. -/
structure Txn where
  master : Nat
  stream : Nat
  target : Target
  addr : Nat
  len : Nat
  wdata : Option Bytes
  /-- R368: a loom's reference read -/
  reference : Bool := false
  /-- R25: the layer context of the Press that fetches -/
  context : Nat := 0
  deriving DecidableEq, Repr

/-- R437: why a master is frozen. -/
inductive FreezeCause where
  | firewall | watchdog | ecc | command
  deriving DecidableEq, Repr

/-- R451 LastCause: the code of a cause. -/
def FreezeCause.code : FreezeCause → Nat
  | .firewall => 1 | .watchdog => 2 | .ecc => 3 | .command => 4

/-- R437, R439: the freeze of one master. -/
structure FreezeSt where
  cause : FreezeCause
  addr : Nat
  target : Nat
  /-- violations counted for the record -/
  violations : Nat
  /-- TIME_CLK count and presented time of t -/
  since : Nat
  time : Nat
  /-- the freeze record has been taken -/
  recorded : Bool := false
  /-- a ThawMaster write came before the record was taken -/
  thawAsked : Bool := false
  /-- a thaw is in progress -/
  thawing : Bool := false
  /-- three freezes in 60 s: only ThawMaster releases it -/
  heldFrozen : Bool := false
  deriving DecidableEq, Repr

/-- A transaction that holds a tag (R18, R25). -/
structure Flight where
  txn : Txn
  /-- the memory port has accepted it (R369) -/
  accepted : Bool := false
  /-- its data have come, or its write has been accepted: its tag may return -/
  done : Bool := false
  /-- data that a read has gathered -/
  data : Bytes := []
  deriving DecidableEq, Repr

/-- The data fabric and the firewall. -/
structure FabSt where
  /-- R437: bit m set while master m is frozen -/
  frozen : Nat := 0
  freezes : AMap FreezeSt := []
  /-- R439: TIME_CLK counts of each master's freezes, the newest first -/
  history : AMap (List Nat) := []
  /-- R435: windows beyond the fixed ones that the Selvedge has opened for a master -/
  windows : AMap (List Window) := []
  /-- R436: windows that close once the master's last transaction in them has completed -/
  closing : AMap (List Window) := []
  /-- R25: transactions that hold a tag, by number, the oldest first -/
  inflight : AMap Flight := []
  nextTxn : Nat := 0
  /-- R18: transactions that wait for a tag of their master, the oldest first -/
  stalled : List Txn := []
  /-- data that the last read of each master returned -/
  readData : AMap Bytes := []
  /-- R434: the Selvedge region is locked -/
  selvLocked : Bool := false
  /-- R412: the fixed windows have been programmed -/
  windowsOpen : Bool := false
  deriving DecidableEq, Repr

/-! ## Start-up, flash, fuses and update -/

/-- R444: one copy of the boot selector. -/
structure Selector where
  valid : Bool := true
  sequence : Nat := 0
  activeSlot : Nat := 0
  trialState : Nat := 0
  deriving DecidableEq, Repr

/-- R440: a stored key; `holds` says whether its record passes its GCM tag. -/
structure KeyRec where
  value : Bytes
  holds : Bool := true
  deriving DecidableEq, Repr

/-- R421: the flash. -/
structure Flash where
  /-- R420: the flash answers SFDP and is large enough -/
  present : Bool := true
  selA : Selector := {}
  selB : Selector := { valid := false }
  /-- R62: BootCount -/
  bootCount : Nat := 0
  /-- R440: key slots 0 to 7 and the chain link key at 16 -/
  keys : AMap KeyRec := []
  cfgA : Bytes := []
  cfgB : Bytes := []
  /-- firmware slots, 4 KiB blocks by number -/
  fwA : AMap Bytes := []
  fwB : AMap Bytes := []
  deriving DecidableEq, Repr

/-- R412, R440, R515: the fuses. -/
structure Fuses where
  serial : Nat
  romVersion : Nat
  /-- R515: the base of the block of eight MAC addresses -/
  macBase : Nat
  /-- R440: SHA-384 of the public key of signing slots 0 to 3 -/
  keyHash : AMap Bytes
  /-- R440: bit k set when slot k is revoked -/
  revoked : Nat
  /-- R445: fuses blown of the rollback thermometer -/
  rollback : Nat
  secret : Bytes
  /-- R500: the VDD_CORE value fused at test, mV -/
  coreMv : Nat
  deriving DecidableEq, Repr

/-- R449: the image transfer that a device receives. -/
structure Transfer where
  /-- 0 and 1 the chain ports -/
  from_ : Nat
  id : Nat
  slot : Nat
  header : Bytes
  blocks : Nat
  /-- blocks asked for and not yet stored: number, TIME_CLK count of the Request, failures so far -/
  outstanding : List (Nat × Nat × Nat)
  /-- lowest block not yet asked for -/
  nextAsk : Nat
  deriving DecidableEq, Repr

/-- Start-up and the stored configuration. -/
structure BootSt where
  /-- R412: points reached -/
  spindle : Bool := false
  /-- R23: the Spindle has lost lock in service: every clock that is divided from it stands still until a reset -/
  clocksLost : Bool := false
  fusesRead : Bool := false
  patternChosen : Bool := false
  earlySet : Bool := false
  fwVerified : Bool := false
  fastStarted : Bool := false
  dramTrained : Bool := false
  qualified : Bool := false
  boltReady : Bool := false
  /-- R412: the boot commit has had its outcome, or factory defaults were taken -/
  configured : Bool := false
  imageVerified : Bool := false
  /-- R419: StatusFlags bit 3 and the TIME_CLK count at which it was set -/
  configCommitted : Bool := false
  committedAt : Nat := 0
  gateOpen : Bool := false
  /-- StatusFlags bit 0 -/
  defaulted : Bool := false
  /-- R444: neither firmware slot is valid; the device stays in DeviceState 0 -/
  stayBooting : Bool := false
  /-- R421, R425: the chosen Pattern's check word holds and its Schema is known, so that the boot commit applies it -/
  hasPattern : Bool := false
  /-- R426: the image that the running save writes, and whether another save is asked for -/
  saving : Option Bytes := none
  saveAgain : Bool := false
  /-- R427: a supplied image that waits for the running save to end -/
  saveImage : Option Bytes := none
  /-- R410: TIME_CLK count at which a DeviceReset write was accepted -/
  resetAsked : Option Nat := none
  /-- R445: ActivateAt scheduled -/
  activation : Option Nat := none
  /-- R449: the transfer in progress -/
  transfer : Option Transfer := none
  /-- R417: offers held until ImageVerified, by chain port -/
  heldOffers : AMap Bytes := []
  /-- R417: image blocks dropped before ImageVerified -/
  blocksDropped : Nat := 0
  /-- R450: by chain port, the image offered there: slot, transfer, and whether the neighbour has accepted -/
  offered : AMap (Nat × Nat × Bool) := []
  /-- R447: the image being uploaded through ring 36: bytes so far -/
  upload : Bytes := []
  /-- R501: a fuse blow waits for VDD_FUSE: new rollback count and revocation bits -/
  blowAsked : Option (Nat × Nat) := none
  /-- R415: BootQueueOverflow already raised, by queue -/
  overflowRaised : Nat := 0
  /-- R65: the ID of the next transfer offered -/
  nextTransfer : Nat := 1
  deriving DecidableEq, Repr

/-! ## Events and the Mending Log -/

/-- R470: a log entry. -/
structure LogEntry where
  sequence : Nat
  time : Nat
  incident : Nat
  severity : Nat
  depth : Nat
  source : Nat
  flags : Nat
  stepEpoch : Nat
  code : Nat
  master : Nat
  unit : Nat
  detail : Nat
  deriving DecidableEq, Repr

/-- R469: a request for a log entry. -/
structure LogReq where
  source : Nat
  code : Nat
  master : Nat
  unit : Nat
  detail : Nat
  severity : Nat
  time : Nat
  stepEpoch : Nat
  /-- flags already known: Coalesced, FromAon -/
  flags : Nat := 0
  /-- R459: an entry of a handler's own action carries this incident and depth -/
  action : Option (Nat × Nat) := none
  deriving DecidableEq, Repr

/-- R459: a handler that has not completed. -/
structure Handler where
  source : Nat
  code : Nat
  master : Nat
  unit : Nat
  depth : Nat
  incident : Nat
  /-- TIME_CLK count at which its entry was written -/
  since : Nat
  deriving DecidableEq, Repr

/-- R462: a tracker. -/
structure Tracker where
  source : Nat
  code : Nat
  master : Nat
  unit : Nat
  /-- TIME_CLK count of the first occurrence -/
  start : Nat
  /-- occurrences that wrote an entry, 1 to 16 -/
  entries : Nat
  /-- later occurrences -/
  count : Nat
  severity : Nat
  /-- presented time and step epoch of the last occurrence -/
  lastTime : Nat
  lastEpoch : Nat
  deriving DecidableEq, Repr

/-- The Mending Log. -/
structure LogSt where
  /-- R474: bit i set while source i is pending -/
  pending : Nat := 0
  /-- R469: the intake, at most 64, the oldest first -/
  intake : List LogReq := []
  /-- R469: Error and Fatal requests that wait at their source -/
  waiting : List LogReq := []
  /-- R468: entries by slot (sequence mod 8,192) -/
  entries : AMap LogEntry := []
  newest : Nat := 0
  /-- R472 -/
  rdptr : Nat := 0
  /-- R457 source 628: LogWrapped raised since reset or since LOG_RDPTR last advanced -/
  wrapRaised : Bool := false
  trackers : List Tracker := []
  /-- R458 -/
  lastIncident : Nat := 0
  /-- R459: the handlers of the open incident, the running one first -/
  handlers : List Handler := []
  /-- number of the open incident; 0 when none is open -/
  openIncident : Nat := 0
  lastFatal : Nat := 0
  dropped : Nat := 0
  /-- TIME_CLK count of the last raise of an event that is limited to one in a second, by key -/
  lastRaise : AMap Nat := []
  /-- R464: device safe state, its cause and when it began -/
  safe : Bool := false
  safeCause : Nat := 0
  safeSince : Nat := 0
  /-- R470 TimeValid: the active domain has been Locked since reset -/
  timeValid : Bool := false
  deriving DecidableEq, Repr

/-! ## Counters and sampling -/

/-- R483: a sampling record, 32 bytes. -/
structure Sample where
  kind : Nat
  unit : Nat
  flags : Nat
  time : Nat
  /-- bytes 12 to 31 -/
  body : Bytes
  deriving DecidableEq, Repr

/-- The counter and sampling engine. -/
structure PmcSt where
  /-- R475: the counters -/
  counters : AMap Nat := []
  /-- R478: the value latched by each master's last LO read -/
  latch : AMap Nat := []
  /-- R479: the snapshot bank -/
  bank : AMap Nat := []
  snapAsked : Bool := false
  /-- R484: records in the units' holds, in the order in which the engine takes them -/
  holds : List (Nat × Sample) := []
  /-- R484: the buffer by slot -/
  buffer : AMap Sample := []
  writePtr : Nat := 0
  readPtr : Nat := 0
  level : Nat := 0
  lostPending : Nat := 0
  /-- R481: retired instructions that count towards the period, and the period, by core -/
  retired : AMap Nat := []
  period : AMap Nat := []
  deriving DecidableEq, Repr

/-! ## The Shuttle -/

/-- R391: the states of a thread. -/
inductive ThState where
  | free | blocked | ready | running | deferred | cancelled
  deriving DecidableEq, Repr

/-- R391: the code of a thread state. -/
def ThState.code : ThState → Nat
  | .free => 0 | .blocked => 1 | .ready => 2 | .running => 3 | .deferred => 4 | .cancelled => 5

/-- R390: a thread context. -/
structure Thread where
  state : ThState := .free
  priority : Nat := 0
  cls : Nat := 0
  affinity : Nat := 0
  lastCore : Nat := 0
  cancelPending : Bool := false
  wakeCount : Nat := 0
  entryPc : Nat := 0
  stackPointer : Nat := 0
  argument : Nat := 0
  saveArea : Nat := 0
  readySeq : Nat := 0
  boundSource : Nat := 0xFFFF
  runTimeTicks : Nat := 0
  dispatchCount : Nat := 0
  readyCount : Nat := 0
  deferCount : Nat := 0
  /-- TIME_CLK count at which it entered its present state (R397, R399) -/
  since : Nat := 0
  /-- R396: TIME_CLK count of a Cancel of the running thread, and whether CancelOverdue has been raised for it -/
  cancelSince : Nat := 0
  overdue : Bool := false
  /-- R399: released from Deferred by its limit, to be dispatched once whatever the gate -/
  released : Bool := false
  deriving DecidableEq, Repr

/-- R409: a Bolt core as the Shuttle sees it. -/
structure CoreSt where
  running : Option Nat := none
  resultDone : Bool := false
  resultCode : Nat := 0
  resultThread : Nat := 0
  nextValid : Bool := false
  nextPreempt : Bool := false
  nextThread : Nat := 0
  /-- TIME_CLK count of its last Shuttle command or dispatch, for WatchdogMs -/
  lastCommand : Nat := 0
  /-- R406 CoreBusyPermille: runs that ended within the last second, the newest first: first and last TIME_CLK count -/
  busy : List (Nat × Nat) := []
  deriving DecidableEq, Repr

/-- The Shuttle. -/
structure ShuttleSt where
  threads : AMap Thread := []
  /-- the ready list of each level, the head first -/
  ready : AMap (List Nat) := []
  cores : AMap CoreSt := []
  /-- event source to bound thread -/
  bound : AMap Nat := []
  /-- R394: the intake FIFO of threads to wake, at most 64, the oldest first -/
  intake : List Nat := []
  /-- R394: wakes that wait at their source -/
  stalled : List Nat := []
  nextSeq : Nat := 0
  deriving DecidableEq, Repr

/-! ## The Governor -/

/-- The Budget Governor. -/
structure GovSt where
  /-- E_l by loom -/
  effort : AMap Nat := []
  /-- R403: 0 Normal, 1 Target, 2 Floor, 3 Ceiling -/
  thermal : Nat := 0
  /-- R403: TIME_CLK count since which T_max has been at or above 105 °C in Floor -/
  ceilingSince : Option Nat := none
  /-- R403: TIME_CLK count since which two sensors have read 115 °C or more -/
  tripSince : Option Nat := none
  /-- R405: TIME_CLK count of the last fast cut -/
  fastCutAt : Option Nat := none
  fastCut : Bool := false
  /-- R400: samples of P_meas in the present period: sum and count, 0.1 W units -/
  sumPower : Nat := 0
  samples : Nat := 0
  lastSample : Nat := 0
  /-- R402: TIME_CLK count of the last period's end; P_meas of that period as a sum and a count -/
  lastPeriod : Nat := 0
  measSum : Nat := 0
  measN : Nat := 0
  /-- R400: each sensor's last reading -/
  lastTemp : AMap Int := []
  deriving DecidableEq, Repr

end Sys2Proof.Machine
end

