-- ==== Sys2Proof/Machine/StPhys.lean ====
section
/-!
DEFINITION. Sys2Proof/Machine/StPhys.lean: the parts of the state that belong to the lanes, the Beam, the audio ports, the
Timekeeper's domains, pulses and captures, and the power rails.
-/

namespace Sys2Proof.Machine

/-! ## Serial lanes -/

/-- R364: the states of a lane. -/
inductive LaneMode where
  | off | aligning | up | soak | fold | fault
  deriving DecidableEq, Repr

/-- R364: the code of a lane state. -/
def LaneMode.code : LaneMode → Nat
  | .off => 0 | .aligning => 1 | .up => 2 | .soak => 3 | .fold => 4 | .fault => 5

/-- One serial lane. -/
structure LaneSt where
  mode : LaneMode := .off
  cdrLock : Bool := false
  blockLock : Bool := false
  frameLock : Bool := false
  pllLock : Bool := false
  slipCount : Nat := 0
  alignCount : Nat := 0
  /-- R356: the receiver has seen SoakNotice -/
  noticeSeen : Bool := false
  /-- R353: header validity of the last blocks, the newest first, at most 64 -/
  headers : List Bool := []
  /-- R353: framing blocks missing or out of sequence in a row -/
  framingMisses : Nat := 0
  lastFrameSeq : Option Nat := none
  /-- blocks since the last framing block -/
  sinceFrame : Nat := 0
  /-- R347: the last 58 payload bits that came in, the newest as bit 57 -/
  scrambled : BitVec 58 := 0
  /-- TIME_CLK count of the last block, of the last burst in Soak, and of the entry into Fault -/
  lastBlock : Nat := 0
  lastBurst : Nat := 0
  faultSince : Nat := 0
  /-- R359: TIME_CLK count at which the running eye scan began, and its DwellMs -/
  scanSince : Option Nat := none
  scanDwell : Nat := 0
  /-- R343: which of the six SDI rates has been detected -/
  sdiRate : Nat := 0
  deriving DecidableEq, Repr

/-! ## The Beam -/

/-- R27, R369: a read entry of a Beam channel's queue, one per 64-byte access. -/
structure ReadEntry where
  /-- number of the fabric transaction it serves -/
  txn : Nat
  master : Nat
  unit : Nat
  addr : Nat
  len : Nat
  /-- it holds one of the 64 reserved reference entries -/
  reserved : Bool
  since : Nat
  seq : Nat
  /-- R369: issued to the DRAM, its data not yet returned -/
  issued : Bool := false
  /-- R369: data forwarded from a write entry -/
  forwarded : Option Bytes := none
  /-- R383: it has been read a second time -/
  retried : Bool := false
  deriving DecidableEq, Repr

/-- R369: a write entry: a 64-byte unit with the bytes its mask covers. -/
structure WriteEntry where
  master : Nat
  unit : Nat
  /-- (byte within the unit, value) -/
  data : List (Nat × Byte)
  since : Nat
  seq : Nat
  /-- R369: a partly covered read raised it to the read's class; nothing merges into it any more -/
  raised : Option Nat := none
  deriving DecidableEq, Repr

/-- A rank of one Beam channel. -/
structure RankSt where
  /-- R370 -/
  owed : Nat := 0
  powerDown : Bool := false
  /-- TIME_CLK count of the last command queued to it -/
  lastQueued : Nat := 0
  /-- R372: TIME_CLK count at which the last blocking event ended; none before the first -/
  lastBlock : Option Nat := none
  deriving DecidableEq, Repr

/-- One Beam channel. -/
structure BeamChSt where
  reads : List ReadEntry := []
  writes : List WriteEntry := []
  draining : Bool := false
  rank0 : RankSt := {}
  rank1 : RankSt := {}
  /-- open row by bank number (rank × 16 + bank group × 4 + bank) -/
  openRows : AMap Nat := []
  retraining : Bool := false
  attempts : Nat := 0
  failed : Bool := false
  /-- R377: TIME_CLK counts of uncorrectable errors in the last second -/
  eccTimes : List Nat := []
  /-- R370: the last tREFI, in 1/6 ns of UptimeNs -/
  refiAt : Nat := 0
  /-- R377: TIME_CLK count of the last margin check; a check is due at once (R379) -/
  marginAt : Nat := 0
  checkNow : Bool := false
  /-- R384: bytes in the present window -/
  readBytes : Nat := 0
  writeBytes : Nat := 0
  deriving DecidableEq, Repr

/-- R389: the states of the Beam. -/
inductive BeamMode where
  | training | normal | reduced | selfRefresh | switching | failed
  deriving DecidableEq, Repr

/-- R389: the code of a Beam state. -/
def BeamMode.code : BeamMode → Nat
  | .training => 0 | .normal => 1 | .reduced => 2 | .selfRefresh => 3 | .switching => 4 | .failed => 5

/-- The Beam. -/
structure BeamSt where
  trained : Bool := false
  failed : Bool := false
  /-- R382: TIME_CLK count at which beam-failed state was entered -/
  failedSince : Nat := 0
  selfRefresh : Bool := false
  setPoint : Nat := 0
  /-- R379: set points whose stored training is usable on every channel, bit s -/
  trainedMask : Nat := 0
  /-- R380: the return to a set point that runs: the target, the channels whose attempt has ended, and those that have passed -/
  returning : Option (Nat × Nat × Nat) := none
  /-- R379: the set point to which all channels are about to move -/
  switching : Option Nat := none
  ranks : Nat := 0
  densityGb : Nat := 0
  /-- R371: the MR4 refresh multiplier, and the TIME_CLK count of its last reading -/
  mr4 : Nat := 1
  mr4At : Nat := 0
  channels : AMap BeamChSt := []
  nextSeq : Nat := 0
  /-- R384: number of the last full window of 1 ms of presented time -/
  window : Nat := 0
  /-- R376: TIME_CLK count at which the Beam was last seen busy, and the count before which no margin check runs -/
  idleSince : Nat := 0
  resumeAt : Nat := 0
  /-- R381: channels in the order of the commit that last raised their DRAM cost, the newest first -/
  costOrder : List Nat := []
  deriving DecidableEq, Repr

/-! ## The Timekeeper -/

/-- R308: the states of a domain. -/
inductive DomState where
  | disabled | listening | acquiring | locked | holdover | freerun
  deriving DecidableEq, Repr

/-- R317: the code of a domain state. -/
def DomState.code : DomState → Nat
  | .disabled => 0 | .listening => 1 | .acquiring => 2 | .locked => 3 | .holdover => 4 | .freerun => 5

/-- R308: a foreign master's announced data set, as the best master clock algorithm compares it. -/
structure Foreign where
  port : Nat
  identity : Nat
  /-- IEEE 1588 priority1, class, accuracy, variance, priority2 and grandmaster identity, most significant first -/
  quality : List Nat
  gm : Nat
  stepsRemoved : Nat
  utcOffset : Int
  /-- log2 of the announce interval, s -/
  logInterval : Int
  lastSeen : Nat
  deriving DecidableEq, Repr

/-- One PTP domain. -/
structure DomainSt where
  state : DomState := .disabled
  foreign : List Foreign := []
  /-- the master chosen: its port and identity -/
  master : Option (Nat × Nat) := none
  /-- R306: receive timestamp of a two-step Sync that waits for its Follow_Up, by sequence number -/
  twoStep : Option (Nat × Int) := none
  /-- R306: own Delay_Req or Pdelay_Req in flight: sequence number and transmit time, ns -/
  delayReq : Option (Nat × Int) := none
  delaySeq : Nat := 0
  pathDelay : Int := 0
  /-- R308: the integrator of the servo, ppb, and the TIME_CLK count of the last Sync that it took -/
  integrator : Rat := 0
  syncAt : Nat := 0
  /-- R308: consecutive Sync messages within the threshold, and beyond four times it -/
  inLock : Nat := 0
  outLock : Nat := 0
  /-- R308: TIME_CLK periods spent in Locked since reset, and the count at entry -/
  lockedTicks : Nat := 0
  lockedAt : Option Nat := none
  /-- R308: TIME_CLK count of the last entry into Holdover from Locked -/
  holdoverAt : Option Nat := none
  /-- t2 − t1 − correction of the last Sync, ns, for the mean path delay -/
  syncDiff : Int := 0
  /-- R309: frequency corrections of the last 16 s in Locked, newest first: TIME_CLK periods in Locked so far, and correction -/
  freqHist : List (Nat × Int) := []
  lastAnnounce : Nat := 0
  /-- the clock has been set to a master's time since Acquiring was entered; its return to Acquiring never sets it again -/
  clockSet : Bool := false
  /-- R309: domain time of the external reference's last edge, in the clock's exact units -/
  extLast : Int := 0
  /-- R309: the interval between edges of the 10 MHz reference, in exact units, and the second phase of PPS, ns, that were learned while
  Locked -/
  extRatio : Int := 0
  extPhase : Int := 0
  deriving DecidableEq, Repr

/-- R316: a capture record. -/
structure CapRec where
  time : Nat
  rising : Bool
  stepEpoch : Nat
  deriving DecidableEq, Repr

/-- One capture input. -/
structure CapSt where
  fifo : List CapRec := []
  /-- R320: what the last read of LO gave, and HI and STAT as it latched them -/
  latchLo : Nat := 0
  latchHi : Nat := 0
  latchStat : Nat := 0
  deriving DecidableEq, Repr

/-- One time-pulse output. -/
structure PulseSt where
  /-- presented time after which the next leading edge lies, ns: that of the last edge, of a commit of the settings or of a step -/
  from_ : Nat := 0
  /-- a one-shot has fired -/
  fired : Bool := false
  deriving DecidableEq, Repr

/-- The Timekeeper. -/
structure TimeSt where
  dom0 : DomainSt := {}
  dom1 : DomainSt := {}
  /-- 0 primary, 1 redundant -/
  active : Nat := 0
  /-- R311: the slew limiter works -/
  slewing : Bool := false
  /-- R312: presented time before and after the last step, ns -/
  stepFrom : Nat := 0
  stepTo : Nat := 0
  /-- R312: no domain has reached its first Acquiring since reset -/
  firstAcquire : Bool := true
  caps : AMap CapSt := []
  pulses : AMap PulseSt := []
  /-- R309: the external reference in use has been dropped -/
  extDropped : Bool := false
  /-- R309: TIME_CLK count of the external reference's last edge -/
  extEdge : Nat := 0
  deriving DecidableEq, Repr

/-! ## Audio -/

/-- R328: one sample frame: one sample of each slot. -/
abbrev SFrame := List Int

/-- One audio port. -/
structure AudioSt where
  fifo : List SFrame := []
  /-- R328: the FIFO has not yet been filled to FifoCentre -/
  filling : Bool := true
  last : SFrame := []
  /-- R324: number of the last frame generated -/
  lastFrame : Option Nat := none
  /-- R323: presented time before which the port stays at rest, ns -/
  restAt : Option Nat := none
  /-- R329: consecutive frame syncs since the clock was lost -/
  syncRun : Nat := 0
  /-- TIME_CLK count of the last external frame sync -/
  lastSync : Nat := 0
  /-- R330: frame sync edges of the present second: count, first and last time, ns -/
  edges : Nat := 0
  firstEdge : Nat := 0
  lastEdge : Nat := 0
  /-- the whole second whose measurement was taken last -/
  measured : Option Nat := none
  /-- R342 LastSlip: 0 none, 1 drop, 2 repeat -/
  lastSlip : Nat := 0
  /-- the last frames captured, by number, for feeds and streams -/
  captured : AMap SFrame := []
  deriving DecidableEq, Repr

/-- One outbound audio stream. -/
structure AStreamSt where
  /-- encoded sample frames gathered for the present packet, the oldest first -/
  gathered : List Bytes := []
  /-- number of the first of them -/
  first : Nat := 0
  sequence : Nat := 0
  deriving DecidableEq, Repr

/-- One inbound audio binding. -/
structure ABindSt where
  /-- frames received, by frame number -/
  frames : AMap SFrame := []
  /-- R330: RTP timestamp and arrival of the first and the last packet of the present second -/
  packets : Nat := 0
  firstTs : Nat := 0
  firstAt : Nat := 0
  lastTs : Nat := 0
  lastAt : Nat := 0
  /-- R335: of a pair of flows, the first frames of the packets of which one copy has come in the last second -/
  seen : List Nat := []
  deriving DecidableEq, Repr

/-- The audio ports. -/
structure AudioAll where
  ports : AMap AudioSt := []
  streams : AMap AStreamSt := []
  binds : AMap ABindSt := []
  /-- R332: the decision of each aligned group: frame number, and 0 none, 1 repeat, 2 drop -/
  groupDec : AMap (Nat × Nat) := []
  deriving DecidableEq, Repr

/-! ## Power -/

/-- The rails, the AVSBus and the reset balls. -/
structure PowerSt where
  /-- R501: rails below and above their window, bit r -/
  low : Nat := 0
  high : Nat := 0
  /-- R501: TIME_CLK count at which each rail left its window -/
  outSince : AMap Nat := []
  /-- R500: the target, the setting last confirmed, and the last voltage read, mV -/
  targetMv : Nat := 850
  setMv : Nat := 850
  readMv : Nat := 0
  avsFailures : Nat := 0
  avsFailed : Bool := false
  lastStep : Option Nat := none
  /-- R500: TIME_CLK count at which a loom last began to leave clock gating -/
  gateAt : Option Nat := none
  /-- R503, R504: PORST_N is low -/
  inReset : Bool := false
  /-- R504: DDR_RESET_N is driven low -/
  ddrReset : Bool := true
  deriving DecidableEq, Repr

end Sys2Proof.Machine
end

