-- ==== Sys2Proof/Machine/StVideo.lean ====
section
/-!
DEFINITION. Sys2Proof/Machine/StVideo.lean: the parts of the state that belong to the video path: the Reed's synchronisers, the
Press's layers and hems, the looms, the channels they code, rate control, sweeps and qualification.
-/

namespace Sys2Proof.Machine

/-! ## The Reed -/

/-- R84: two neighbouring pixels of a 4:2:2 line, in the stored order of their samples, 10 bits each. -/
structure PixPair where
  cb : Nat
  y0 : Nat
  cr : Nat
  y1 : Nat
  deriving DecidableEq, Repr

/-- A line of a source picture. -/
abbrev SrcLine := List PixPair

/-- A line of 4:2:2 samples by component: Y, and Cb and Cr at even luma positions. -/
structure YccLine where
  y : List Nat
  cb : List Nat
  cr : List Nat
  deriving DecidableEq, Repr

/-- R85: the share of a source line that one link, or one flow of a pair, delivers: the luma position of its first pair of pixels, the
distance from one pair to the next (2 where they adjoin, 4 in a two-sample interleave) and the pairs. -/
structure SrcPart where
  link : Nat
  x : Nat
  step : Nat
  pairs : List PixPair
  deriving DecidableEq, Repr

/-- R87: a source picture in a synchroniser slot. -/
structure SrcPic where
  n : Nat
  /-- S_n, presented ns -/
  time : Option Nat := none
  /-- what has been received of each active line -/
  lines : AMap (List SrcPart) := []
  /-- R84: bytes of a host picture by offset, the newest first -/
  host : List (Nat × Bytes) := []
  /-- host pictures: EndOfUnit has completed -/
  done : Bool := false
  deriving DecidableEq, Repr

/-- The picture that a channel reads from T_k on, as it was read. -/
structure ReedPic where
  /-- k -/
  pic : Nat
  /-- the values of the objects in force from T_k on -/
  vals : AMap Val
  /-- RotatorDelay: it leaves the rotator from T_k + P -/
  rot : Bool := false
  /-- 0 successor or acquired, 1 repeat, 2 skip -/
  action : Nat := 0
  /-- R91: line from which it is taken from the picture before -/
  gapFrom : Option Nat := none
  /-- LossColour shows -/
  loss : Bool := false
  /-- R86: links lost at T_k, bit i for link i + 1 -/
  lost : Nat := 0
  /-- the source picture in its slot -/
  src : Option Nat := none
  /-- the lines read so far -/
  lines : AMap SrcLine := []
  /-- R259: strip lines used, 64 pixels each -/
  left : AMap YccLine := []
  right : AMap YccLine := []
  /-- R104, R105: MotionSad by row of the rows complete, and SceneCut -/
  sad : AMap Nat := []
  cut : Bool := false
  deriving DecidableEq, Repr

/-- R104: a row statistics record. -/
structure StatRec where
  row : Nat
  flags : Nat
  activity : Nat
  motionSad : Nat
  mvX : Int
  mvY : Int
  pictureCount : Nat
  deriving DecidableEq, Repr

/-- R259: a strip line that waits for its use: line, sent picture count, samples. -/
structure StripLine where
  pic : Nat
  line : Nat
  data : Bytes
  deriving DecidableEq, Repr

/-- R261: a row QP record as received. -/
structure QpRec where
  pic : Nat
  row : Nat
  qpRow : Int
  edgeQp : Int
  hold : Bool
  deriving DecidableEq, Repr

/-- R264: one side of a seam channel; its state code stands in its object. -/
structure SideSt where
  /-- consecutive boundaries whose Canvas record passed R253 -/
  matched : Nat := 0
  /-- the last boundary picture count whose record passed -/
  lastPass : Option Nat := none
  /-- TIME_CLK count of the last Canvas record -/
  lastCanvas : Nat := 0
  /-- R264: it turns Active at the next picture boundary -/
  rising : Bool := false
  /-- MismatchFlags that this side contributes -/
  flags : Nat := 0
  strips : List StripLine := []
  /-- strips dropped under R259 in the present picture whose lines have not come to their use -/
  dropped : Nat := 0
  qps : List QpRec := []
  /-- the neighbour's last Band record, 8 bytes -/
  band : Bytes := []
  deriving DecidableEq, Repr

/-- The synchroniser and the rotator of one channel. -/
structure ReedSt where
  /-- number of the last picture boundary reached; none before the first -/
  k : Option Nat := none
  /-- R87: at most four slots: the picture being read, the one before it and up to two newer, the oldest first -/
  slots : List SrcPic := []
  /-- the number of the next source picture, and of the one that arrives -/
  nextN : Nat := 1
  arriving : Option Nat := none
  /-- R90: the first source picture that acquisition may pick -/
  acqFrom : Nat := 0
  /-- the pictures read at the last boundaries, the newest first, at most four -/
  pics : List ReedPic := []
  /-- R88 last: the picture being read -/
  last : Option Nat := none
  acquired : Bool := false
  /-- R92 -/
  present : Bool := false
  /-- TIME_CLK count of the last complete source line -/
  lastLine : Nat := 0
  /-- R92: consecutive repeats while absent -/
  repeats : Nat := 0
  /-- LossColour in use -/
  lossShown : Bool := false
  /-- R89: ring c stalls until the next boundary -/
  hostStall : Bool := false
  /-- R99: the boundary repeats once because rotation starts -/
  rotRepeat : Bool := false
  /-- R85, R86: links lost, bit i for link i + 1; links that have returned and delivered a whole picture in step; the next line of such a
  picture by link -/
  linksLost : Nat := 0
  linksBack : Nat := 0
  linkNext : AMap Nat := []
  /-- R81: FormatMismatch holds the source absent -/
  mismatch : Bool := false
  /-- R109 LastAction -/
  lastAction : Nat := 0
  /-- R99: Rotation at the last boundary -/
  rotation : Nat := 0
  freqLocked : Bool := false
  rotDelay : Bool := false
  /-- R94: S_n of the last pictures picked, the newest first, at most 1,025: picture number and time -/
  history : List (Nat × Nat) := []
  /-- R104: the statistics queue, at most 16, the oldest first -/
  stats : List StatRec := []
  /-- next line to be read -/
  nextLine : Nat := 0
  left : SideSt := {}
  right : SideSt := {}
  deriving DecidableEq, Repr

/-! ## The Press -/

/-- R137: a decoded picture of a clip, 4:2:0, 10-bit samples by line. -/
structure ClipPic where
  width : Nat
  height : Nat
  y : List (List Nat)
  cb : List (List Nat)
  cr : List (List Nat)
  deriving DecidableEq, Repr

/-- R136: a decoded picture with its number in the clip's order of display, and whether it is concealed. -/
structure ClipShown where
  index : Nat
  concealed : Bool
  pic : ClipPic
  deriving DecidableEq, Repr

/-- What a layer shows in the present picture. -/
inductive Shows where
  | nothing
  | fallback
  | source
  deriving DecidableEq, Repr

/-- R115 to R118: a layer's own state beside its status objects. -/
structure LayerSt where
  /-- R116: boundaries since the layer last entered Live from Waiting -/
  sinceLive : Nat := 0
  /-- R116: a publication at or before this time has been counted at an update boundary -/
  countedTo : Nat := 0
  /-- the picture that the layer last took from its Unpicker -/
  clip : Option ClipShown := none
  /-- R117: source values at the last boundary: SourceKind, SourceRef, SurfaceBase, BufferStride -/
  source : List Int := []
  deriving DecidableEq, Repr

/-- R131, R132: a hem region's own state beside its status objects. -/
structure HemSt where
  alarm : Bool := false
  subst : Bool := false
  /-- consecutive matches since the alarm -/
  hits : Nat := 0
  deriving DecidableEq, Repr

/-- R130 to R134: a region in one picture. -/
structure HemPic where
  /-- the safe image is substituted -/
  subst : Bool := false
  /-- R130: signature states over the rows composed so far: composed and unsubstituted -/
  crc : Nat := 0
  live : Nat := 0
  /-- R132: the layer it names is Live -/
  layerLive : Bool := true
  /-- the Alarm flag of R134 -/
  alarmFlag : Bool := false
  deriving DecidableEq, Repr

/-- A picture of the Press's channel: what its boundary fixed, and what has been composed of it. -/
structure PressPic where
  pic : Nat
  /-- the values of the objects in force from T_k on -/
  vals : AMap Val
  /-- R120, R118, R137: by layer, what it shows, the buffer shown and the clip's picture -/
  shows : AMap Shows := []
  buffers : AMap Nat := []
  clips : AMap ClipPic := []
  /-- enabled regions -/
  hems : AMap HemPic := []
  /-- rows handed to the looms -/
  rows : List Nat := []
  /-- R121: the composed lines of the rows handed on -/
  lines : AMap YccLine := []
  deriving DecidableEq, Repr

/-- R136: an Unpicker's own state beside its status objects. -/
structure UnpSt where
  loaded : Bool := false
  enabled : Bool := false
  /-- R136: to start at the next boundary of MasterChannel -/
  armed : Bool := false
  /-- k0 of R136 -/
  start : Option Nat := none
  /-- pictures complete in DRAM and not yet shown -/
  ready : List ClipShown := []
  /-- index of the next picture to decode -/
  next : Nat := 0
  /-- R136: offset in the clip of the next access unit to read, and of the clip's first IRAP or GDR picture once met -/
  pos : Nat := 0
  first : Option Nat := none
  /-- R137: the most recent correctly decoded picture -/
  good : Option ClipPic := none
  concealing : Bool := false
  /-- the picture shown -/
  shown : Option ClipShown := none
  rejected : Bool := false
  /-- R136: the clip's number of pictures once its end has been met -/
  length : Option Nat := none
  deriving DecidableEq, Repr

/-- A channel of the Press. -/
structure PressSt where
  layers : AMap LayerSt := []
  hems : AMap HemSt := []
  /-- the last pictures, the newest first, at most four -/
  pics : List PressPic := []
  deriving DecidableEq, Repr

/-! ## Looms, rows and channels -/

/-- R164, R224: the kinds of NAL unit that a picture is emitted as. -/
inductive UnitKind where
  | aud | vps | sps | pps | aps | prefixSei | ph
  /-- slices: IDR_N_LP, TRAIL_R or TRAIL_NUT, GDR_NUT -/
  | idr | trail | gdr
  | suffixSei
  deriving DecidableEq, Repr

/-- Syntax elements by name with their values. -/
abbrev Elements := List (String × Int)

/-- R164 to R166, R223, R224: a NAL unit as the rules fix it: its kind, the values of the syntax elements that they name, and the payload
of a user-data message. -/
structure CodedUnit where
  kind : UnitKind
  elements : Elements := []
  payload : Bytes := []
  deriving DecidableEq, Repr

/-- R192, R282: one NAL unit of a row in Mangle staging. -/
structure Nal where
  /-- R281: decoding order number -/
  don : Nat
  bytes : Bytes
  /-- what the unit is -/
  content : CodedUnit := { kind := .trail }
  /-- its last byte is staged -/
  complete : Bool := false
  deriving DecidableEq, Repr

/-- R221: a motion vector: the list it stands in (0 or 1), how many pictures back its reference lies, and its components in sixteenths of a
luma sample. -/
structure MotionVec where
  list : Nat
  back : Nat
  x : Int
  y : Int
  deriving DecidableEq, Repr

/-- R222: how vectors come about: searched (an AMVP predictor plus a difference), a merge candidate (in VVC HMVP and the pairwise average
among them), or a merge candidate with an MMVD offset. -/
inductive VecSource where
  | searched
  | merge (index : Nat)
  | mmvd (index : Nat)
  deriving DecidableEq, Repr

/-- How a part of a coding unit is predicted. -/
inductive Prediction where
  /-- the direction as the codec numbers its modes (0 planar, 1 DC), and whether chroma is predicted by CCLM -/
  | intra (mode : Nat) (cclm : Bool)
  | pcm
  | inter (src : VecSource) (vecs : List MotionVec)
  deriving DecidableEq, Repr

/-- R160: the parts of a coding unit: 2N×2N, 2N×N, N×2N, the four of AMP (2N×nU, 2N×nD, nL×2N, nR×2N), N×N. -/
inductive CuShape where
  | whole | rows | columns
  | amp (n : Fin 4)
  | quarters
  deriving DecidableEq, Repr

/-- R160, R161, R170: tools that a coding unit's residual and vectors may use. -/
inductive CuTool where
  | transformSkip | bypass | bdpcm | mts | jccr | amvr
  deriving DecidableEq, Repr

/-- R160, R161: a coding unit: its luma rectangle in the picture, the depth of its binary and ternary splits, the prediction of each of its
parts, whether it has a residual, and its tools. -/
structure CodedBlock where
  x : Nat
  y : Nat
  w : Nat
  h : Nat
  mtt : Nat := 0
  shape : CuShape := .whole
  parts : List Prediction
  residual : Bool := false
  tools : List CuTool := []
  deriving DecidableEq, Repr

/-- A coding of a CTU: its bits after emulation prevention, its coding units, and whether SAO and ALF act on it. -/
structure CtuCoding where
  bits : Nat
  blocks : List CodedBlock
  sao : Bool := false
  alf : Bool := false
  deriving DecidableEq, Repr

/-- R220, R221: a reference picture as a row finds it when it starts: how many pictures back it lies, its clean edge E_p and Mg(p). -/
structure RefPic where
  back : Nat
  edge : Nat
  margin : Nat
  deriving DecidableEq, Repr

/-- R173: a reference unit of 64 × 4 luma samples with its chroma as it stands in a row slot: mode 0 raw or 1 compressed, and the bytes of
the sectors in use. -/
structure RefUnit where
  mode : Nat
  data : Bytes
  deriving DecidableEq, Repr

/-- R176, R177: the templates that Bolt keeps for a row: the P slice of skip CUs and the I slice of fill CTUs. -/
structure HoldTemplate where
  inter : CodedUnit
  intra : CodedUnit
  deriving DecidableEq, Repr

/-- How a row is coded. -/
inductive RowKind where
  | coded | hold | broken
  deriving DecidableEq, Repr

/-- A row that has started, or whose slot is open. -/
structure RowSt where
  chan : Nat
  pic : Nat
  row : Nat
  kind : RowKind
  loom : Option Nat := none
  /-- TIME_CLK count of start(j) -/
  startAt : Nat := 0
  /-- R202: grant, steering target, and whether the row is in picture floor mode -/
  grant : Nat := 0
  target : Nat := 0
  floorMode : Bool := false
  /-- R205 -/
  qRow : Int := 0
  qLast : Int := 0
  effort : Nat := 0
  /-- R203: bits staged, CTUs taken into intake and CTUs staged -/
  used : Nat := 0
  intake : Nat := 0
  staged : Nat := 0
  /-- R203: the codings of the CTUs that are decided and not staged, by CTU number -/
  codings : AMap CtuCoding := []
  /-- R147: the coding-block operations that those CTUs keep in flight -/
  ops : AMap Nat := []
  /-- R203: the phase's unsent backlog in bits just after the last CTU decided is staged, at an even flow, and that time, ns -/
  backlog : Rat := 0
  backlogAt : Rat := 0
  /-- R220 to R222, R235: CTU columns that are clean in this row, the reference pictures, and whether it codes a sequence's first picture,
  as they were when it started -/
  clean : Nat := 0
  refs : List RefPic := []
  qpSum : Int := 0
  qpCount : Nat := 0
  edgeQpLeft : Int := 0
  edgeQpRight : Int := 0
  /-- R258: activity of the edge CTUs -/
  edgeActLeft : Nat := 0
  edgeActRight : Nat := 0
  /-- R483: start(j) − t_press(j), ns; CTUs substituted and lossless; a bound of R261 applied -/
  lag : Nat := 0
  floorCtus : Nat := 0
  losslessCtus : Nat := 0
  bounded : Bool := false
  nals : List Nal := []
  /-- all its bytes are staged -/
  lastStaged : Bool := false
  /-- R189: slot open, slot closed -/
  opened : Bool := false
  closed : Bool := false
  phase : Nat := 0
  /-- R196: its unused grant has been returned -/
  returned : Bool := false
  /-- R282: NAL units and bytes of the next one already cut into frames -/
  cutNals : Nat := 0
  cutBytes : Nat := 0
  /-- bytes cut so far, bytes sent so far by port, and whether the last byte has been cut -/
  cut : Nat := 0
  sent : AMap Nat := []
  frames : Nat := 0
  /-- R212: breach already counted, cause -/
  breach : Nat := 0
  /-- ports on which the row is not sent (R284), bit p -/
  blocked : Nat := 0
  /-- R278: ports on which it is held to its next slot -/
  heldPorts : Nat := 0
  /-- R228: its band CTUs were coded as inter floor CTUs -/
  postponed : Bool := false
  deriving DecidableEq, Repr

/-- R196: the pool of one picture. -/
structure PicRate where
  pic : Nat
  pool : Nat := 0
  spent : Nat := 0
  inFlight : Nat := 0
  floor : Bool := false
  settled : Bool := false
  started : Nat := 0
  /-- per row: bits, and bits above its floor -/
  bits : AMap Nat := []
  above : AMap Nat := []
  qRows : AMap Int := []
  /-- R202: statistics read so far: MotionSad and Activity by row, and whether a record had SceneCut -/
  sad : AMap Nat := []
  act : AMap Nat := []
  cut : Bool := false
  qpSum : Int := 0
  qpCount : Nat := 0
  deriving DecidableEq, Repr

/-- R220: what the channel remembers of a picture. -/
structure PicSt where
  pic : Nat
  /-- position in its coded video sequence (R226) -/
  pos : Nat
  /-- b_k; none for a picture without a band -/
  band : Option Nat := none
  columns : Nat := 0
  forced : Bool := false
  postponed : Bool := false
  /-- E_k, luma samples -/
  edge : Nat := 0
  /-- first picture of a sweep -/
  sweepFirst : Bool := false
  /-- recovery count signalled -/
  recoveryCount : Nat := 0
  /-- R209: the offset of its slots, rows, and the offset planned for the next picture -/
  lat : Nat := 0
  latNext : Nat := 0
  /-- R210: SlotRate of its slots -/
  rate : Nat := 0
  /-- R188, R192: O(k, 0) and I, ns, exactly, and M, as the picture's boundary fixed them -/
  open0 : Rat := 0
  gap : Rat := 0
  m : Nat := 1
  /-- R282, R517: Pmax of the picture's packets -/
  pmax : Nat := 1443
  /-- rows and CTU columns of the picture -/
  rows : Nat := 0
  cols : Nat := 0
  /-- R281: DON of its first NAL unit, and the NAL units before its first slice -/
  don : Nat := 0
  prefix_ : Nat := 0
  /-- R223: luma x of its virtual boundary -/
  boundary : Option Nat := none
  /-- the values of the objects in force from T_k on -/
  vals : AMap Val := []
  /-- R176, R177: the templates of its hold rows -/
  templates : AMap HoldTemplate := []
  /-- R217: FloorMode has been raised for it -/
  floorShown : Bool := false
  /-- R167, R227: first picture of its coded video sequence -/
  first : Bool := false
  /-- R172: row map: the slot (0 to 3, 4 the grey slot) of each row -/
  map : AMap Nat := []
  /-- rows whose last byte has been staged or whose hold slot has closed -/
  finished : Nat := 0
  /-- rows whose slots have opened, bit j, and how many have closed -/
  opened : Nat := 0
  closed : Nat := 0
  bits : Nat := 0
  breached : Bool := false
  deriving DecidableEq, Repr

/-- R218 to R230: the sweep in progress. -/
structure Sweep where
  b : Nat
  columns : Nat
  postponed : Nat := 0
  /-- recovery count and the picture of the recovery point -/
  count : Nat
  recovery : Nat
  recovering : Bool := false
  trigger : Nat
  start : Nat
  deriving DecidableEq, Repr

/-- R233: a darn request. -/
structure DarnReq where
  /-- presented time of its arrival, ns -/
  arrived : Nat
  deriving DecidableEq, Repr

/-- R178: a loom position of a channel. -/
structure PosSt where
  loom : Nat
  /-- TIME_CLK count at which its loom stopped; none while it works -/
  stopped : Option Nat := none
  /-- R179: the stopped loom has passed and resumes at the next boundary -/
  resume : Bool := false
  deriving DecidableEq, Repr

/-- A coded channel. -/
structure ChanSt where
  encoding : Bool := false
  /-- picture number that began the coded video sequence -/
  seqStart : Nat := 0
  /-- R167: a new sequence begins at the next boundary -/
  newSequence : Bool := false
  positions : List PosSt := []
  /-- composed rows that no loom has started: picture, row -/
  toStart : List (Nat × Nat) := []
  /-- R157: assignment that takes effect at the next boundary -/
  nextPositions : Option (List Nat) := none
  pics : List PicSt := []
  sweep : Option Sweep := none
  /-- R235 -/
  spoiled : Bool := false
  waiting : Option DarnReq := none
  pendingReq : Option DarnReq := none
  /-- R231: picture of the last sweep's recovery point -/
  lastRecovery : Option Nat := none
  /-- R231: a periodic start is due -/
  periodicDue : Bool := false
  /-- R176: hold rows are being coded -/
  holding : Bool := false
  /-- R185: any row of the present picture was held -/
  heldNow : Bool := false
  rates : List PicRate := []
  carry : Nat := 0
  /-- R210: SlotRate of the present picture -/
  slotRate : Nat := 0
  /-- R281 -/
  don : Nat := 0
  /-- R192: phase of the next row, and the RTP packet count by phase -/
  nextPhase : Nat := 0
  seqs : AMap Nat := []
  /-- R285: continuity counters by phase × 4 + (0 PAT, 1 PMT, 2 video) -/
  continuity : AMap Nat := []
  /-- octets sent by phase, for sender reports -/
  octets : AMap Nat := []
  /-- packets sent by phase, and the TIME_CLK count of the last sender report -/
  packets : AMap Nat := []
  lastSr : AMap Nat := []
  /-- R212, R213: the last picture that had a breach, and whether its end has been reported -/
  breachPic : Option Nat := none
  breachOpen : Bool := false
  /-- R287: last FIR sequence by (sender SSRC, media SSRC), the newest first, at most 64 -/
  firs : List (Nat × Nat × Nat) := []
  rtcpWin : RateWin := {}
  /-- R172: pinned slot of each row -/
  pinned : AMap Nat := []
  /-- R173: the units in the row slots, by 4 × row + slot, each by 16 × CTU column + number; a unit that is not listed is not written -/
  refs : AMap (AMap RefUnit) := []
  /-- R177: W_pic and ChromaFormat for which the grey row slot is written -/
  grey : Option (Nat × Nat) := none
  /-- R176, R177: the hold-row store: the templates of the last commit, by row -/
  templates : AMap HoldTemplate := []
  /-- R381: halted because its DRAM cost does not fit the set point in force -/
  notFitting : Bool := false
  deriving DecidableEq, Repr

/-- A loom's own state beside its status objects. -/
structure LoomSt where
  /-- TIME_CLK count at which the loom is free (R151) -/
  freeAt : Nat := 0
  /-- channel, picture and row in intake -/
  row : Option (Nat × Nat × Nat) := none
  ctuCount : Nat := 0
  /-- R186: bit i: heddle lane i reported the fault that stopped the loom -/
  laneFault : Nat := 0
  /-- R145, R147: coding-block operations in flight by heddle lane -/
  lanes : AMap Nat := []
  /-- R172: by channel, the loom's copy of the row maps of pictures k − 2 to k -/
  maps : AMap (List (Nat × AMap Nat)) := []
  /-- R239: TIME_CLK count at which a qualification began; joint says in which mode -/
  qualSince : Option Nat := none
  joint : Bool := false
  /-- R240: this run is the immediate requalification -/
  second : Bool := false
  /-- R246 -/
  mismatch : Nat := 0
  runCount : Nat := 0
  /-- R405: effort cap by the Governor until its next period -/
  effort : Nat := 0
  deriving DecidableEq, Repr

/-- The video path. -/
structure VideoSt where
  reed : AMap ReedSt := []
  press : AMap PressSt := []
  unp : AMap UnpSt := []
  chans : AMap ChanSt := []
  looms : AMap LoomSt := []
  /-- rows that have started or whose slots are open, the oldest first -/
  rows : List RowSt := []
  /-- R198: carry of each bundle -/
  bundleCarry : AMap Nat := []
  /-- R241: looms that the running QualifyMask request still qualifies -/
  qualMask : Nat := 0
  /-- R118: publications by surface ring, the newest first: DeviceAddress and presented time of the descriptor's Status write, ns -/
  pubs : AMap (List (Nat × Nat)) := []
  /-- R96: the decision of each aligned group: picture number, and 0 none, 1 repeat, 2 skip -/
  groupDec : AMap (Nat × Nat) := []
  /-- coded-row bytes in Mangle staging (R200) -/
  stagingBytes : Nat := 0
  deriving DecidableEq, Repr

end Sys2Proof.Machine
end

