-- ==== Sys2Proof/Machine/StNet.lean ====
section
/-!
DEFINITION. Sys2Proof/Machine/StNet.lean: the parts of the state that belong to the Mangle and to the chain, and the record of
what has left the device.
-/

namespace Sys2Proof.Machine

/-- R276: one entry of a gate list. -/
structure GateEntry where
  interval : Nat
  gates : Nat
  rows : Nat
  deriving DecidableEq, Repr

/-- R276: a gate list with its cycle. -/
structure GateList where
  entries : List GateEntry
  cycle : Nat
  base : Nat
  twill : Bool := false
  deriving DecidableEq, Repr

/-- R277: a pending list. -/
structure PendingList where
  list : GateList
  /-- X, presented ns -/
  change : Nat
  deriving DecidableEq, Repr

/-- R270: a frame that the Mangle transmits. Addresses of IP version 4 are the IPv4-mapped form of 16 bytes. -/
structure TxFrame where
  port : Nat
  cls : Nat
  /-- R270: tagged, and the tag's VID and PCP -/
  tagged : Bool
  vid : Nat
  pcp : Nat
  /-- 0 none, 4 and 6 IP, with DSCP -/
  ip : Nat
  dscp : Nat
  dst : Bytes
  dport : Nat
  sport : Nat
  /-- UDP payload, or the frame body where there is no IP -/
  payload : Bytes
  /-- it has been counted as a frame that waited under R273 -/
  waited : Bool := false
  /-- R307: the domain and the sequence number of the Delay_Req or Pdelay_Req that it carries, whose departure is timestamped -/
  ptp : Option (Nat × Nat) := none
  deriving DecidableEq, Repr

/-- R274: a class 7 frame that has been built and waits for its turn. -/
structure RowFrame where
  frame : TxFrame
  chan : Nat
  pic : Nat
  row : Nat
  phase : Nat
  /-- first frame of its row -/
  opening : Bool
  lastOfRow : Bool
  /-- NAL bytes of the row up to and including this frame -/
  upTo : Nat
  deriving DecidableEq, Repr

/-- A MAC port. -/
structure PortSt where
  linkUp : Bool := false
  /-- Mb/s -/
  rate : Nat := 0
  list : GateList := { entries := [{ interval := 125000, gates := 0xFF, rows := 0 }], cycle := 125000, base := 0 }
  pending : Option PendingList := none
  /-- R210: lists made pending so far, and the number of the last one that took effect -/
  listNo : Nat := 0
  listDone : Nat := 0
  /-- buffer in force -/
  buffer : Nat := 0
  entry : Nat := 0
  cycles : Nat := 0
  /-- frames of classes 0 to 6 that wait, by class, the oldest first -/
  queues : AMap (List TxFrame) := []
  /-- R290: frames of classes 0 to 6 whose producer waits for a transmit descriptor, the oldest first -/
  stalled : List TxFrame := []
  /-- R290: receive media descriptors that frames hold -/
  rxMedia : Nat := 0
  rowFrames : List RowFrame := []
  /-- R273: TIME_CLK count at which the transmitter falls idle; `sending` names the class on the wire -/
  busyUntil : Nat := 0
  /-- TIME_CLK count at which the frame on the wire began -/
  txFrom : Nat := 0
  sending : Option Nat := none
  /-- R289: credit by class, in 1/(6 × 10⁶) bit, and the number of the last refill step, of 256 ns from the epoch -/
  credit : AMap Int := []
  refillAt : Nat := 0
  /-- R294: tokens of the control policer in 1/10⁹ frame, of the PTP limit likewise -/
  control : Nat := 256000000000
  ptp : Nat := 64000000000
  /-- R284: the next hops that Bolt has resolved: addresses of 16 bytes (log entry 14) -/
  resolved : List Bytes := []
  deriving DecidableEq, Repr

/-- R292: a flow's buckets, in units of 10⁻⁶ byte. -/
structure FlowSt where
  tc : Nat := 0
  tp : Nat := 0
  deriving DecidableEq, Repr

/-- R321 to R324: one sample frame at the balls of an audio port, in bit clocks from the frame's first WS edge. -/
structure SerialFrame where
  /-- the instant of the first WS edge at the ball, ns; 0 in compatibility mode, where the external pair gives it -/
  edge : Int := 0
  /-- WS in each bit clock, empty where the port does not drive it -/
  ws : List Bool := []
  /-- the data bits, empty on a receive port, and the bit clocks from the first WS edge to the first of them -/
  sd : List Bool := []
  lead : Nat := 0
  /-- R323: data is driven on the rising edge of the bit clock -/
  rising : Bool := false
  deriving DecidableEq, Repr

/-- What has left the device, the newest first: the model's record of its outputs (log entry 5). -/
inductive Sent where
  /-- a frame on a MAC port -/
  | frame (f : TxFrame)
  /-- a Shed message with its path -/
  | shed (path : Path) (bytes : Bytes)
  | msix (vector : Nat) (addr data : Nat)
  /-- bytes written to host memory by a DMA ring -/
  | host (addr : Nat) (bytes : Bytes)
  /-- a message on a chain port, with its class -/
  | chain (port : Nat) (cls : Nat) (bytes : Bytes)
  /-- weft blocks other than data on a lane: 1 SoakNotice, 2 the Wake blocks, 3 a burst of R356 -/
  | weft (lane : Nat) (kind : Nat)
  /-- R351: a line of a picture on a picture-role quad: quad, PictureCount, line, flags, the bytes of its data blocks -/
  | weftLine (quad pic line flags : Nat) (data : Bytes)
  /-- an edge of a time-pulse output: output, level, presented ns -/
  | pulse (n : Nat) (level : Bool) (time : Nat)
  /-- one sample frame on an audio port -/
  | audio (port : Nat) (frame : SerialFrame)
  /-- an AVSBus voltage command, mV -/
  | avs (mv : Nat)
  /-- R47: the reply to a principal's own write of one object: the object's key and a status code -/
  | reply (prin : Prin) (key status : Nat)
  /-- R69: Completer Abort, the answer to a non-posted request while master 10 is frozen -/
  | completerAbort
  deriving DecidableEq, Repr

/-- R250: a message that waits on a chain port. -/
structure ChainMsg where
  cls : Nat
  bytes : Bytes
  /-- bytes already sent -/
  sent : Nat := 0
  deriving DecidableEq, Repr

/-- One chain port. -/
structure ChainPortSt where
  up : Bool := false
  /-- the messages that hold a descriptor of the lane, at most 32 (R25) -/
  queue : List ChainMsg := []
  /-- R25: the messages whose producer waits for a descriptor, the oldest first -/
  stalled : List ChainMsg := []
  /-- R264, R355: TIME_CLK count since which the queue has been empty, or the link down -/
  idleSince : Nat := 0
  /-- link partner: its position and whether it is a ring head, as its control messages tell -/
  partner : Option (Nat × Bool) := none
  deriving DecidableEq, Repr

/-- The chain. -/
structure ChainSt where
  upPort : ChainPortSt := {}
  downPort : ChainPortSt := {}
  position : Nat := 0
  fault : Bool := false
  /-- R249: the ring has been whole since reset -/
  whole : Bool := false
  length : Nat := 1
  deriving DecidableEq, Repr

/-- The Mangle and the chain. -/
structure NetSt where
  ports : AMap PortSt := []
  /-- R292: buckets that are not full, by flow -/
  flows : AMap FlowSt := []
  /-- number of the last policer refill step, of 256 ns of UptimeNs -/
  policerAt : Nat := 0
  chain : ChainSt := {}
  sent : List Sent := []
  deriving DecidableEq, Repr

end Sys2Proof.Machine
end

