-- ==== Sys2Proof/Syntax.lean ====
section
/-!
DEFINITION. Sys2Proof/Syntax.lean: the commands and events that the block takes, with their operands. What the spec leaves to
the outside (picture content, coding results, readings of sensors, what a neighbour sends) comes in as an operand.
-/

namespace Sys2Proof

open Sys2Proof.Machine

/-- R410: what starts a warm reset. -/
inductive WarmCause where
  /-- WRST_N was low for so many nanoseconds -/
  | pin (lowNs : Nat)
  | deviceReset
  | selvedge
  deriving DecidableEq, Repr

/-- R480: what reads a counter over the Fabric: a master, or a thread of a Bolt core in user mode. -/
inductive Reader where
  | master (m : Nat)
  | userThread (core : CoreId)
  deriving DecidableEq, Repr

/-- The Fabric master (R11) by which a reader reads. -/
def Reader.masterNo : Reader → Nat
  | .master m => m
  | .userThread core => 2 + core.val

/-- Where a commit comes from: a CommitReq message, or a write of 0x1F00:01 by a principal. -/
inductive CommitSrc where
  | message (path : Path) (msg : Bytes)
  | object (prin : Prin) (tag : Nat)
  deriving DecidableEq, Repr

/-- R81: a picture format, as an ST 352 payload identifier or the measured raster gives it. -/
structure Raster where
  width : Nat
  height : Nat
  rateNum : Nat
  rateDen : Nat
  progressive : Bool := true
  /-- YCbCr 4:2:2, 10-bit -/
  ycc422 : Bool := true
  deriving DecidableEq, Repr

/-- R80, R81, R85: what the receiver of a link finds beside a line's samples: the ST 352 payload identifier, if the link carries one, the
measured raster, whether EDH and line CRC hold, and by how much the link lags the others, ns. -/
structure SourceFormat where
  payload : Option Raster
  raster : Raster
  crcOk : Bool := true
  lagNs : Nat := 0
  deriving DecidableEq, Repr

/-- R85: why a link is lost. -/
inductive LinkCause where
  | lock | lag
  deriving DecidableEq, Repr

/-- R135: what a clip's parameter sets say; profile and level as the codec's general_profile_idc and general_level_idc. -/
structure ClipParams where
  width : Nat
  height : Nat
  profile : Nat
  level : Nat
  chromaFormat : Nat
  bitDepth : Nat
  progressive : Bool := true
  /-- one layer, without subpictures and without an extension that R135 leaves out -/
  plain : Bool := true
  deriving DecidableEq, Repr

/-- R135 to R137: an access unit of a clip and what decoding it gave. -/
structure ClipPicture where
  /-- bytes of the clip that it takes -/
  length : Nat
  /-- the parameter sets that it brings -/
  params : Option ClipParams
  /-- an IRAP or a GDR picture -/
  entry : Bool
  /-- an IRAP picture, or the recovery point of a GDR picture -/
  recovers : Bool
  /-- it refers to a reference that was never decoded -/
  missing : Bool
  /-- the areas of slices with a syntax error: x, y, width, height in luma samples -/
  bad : List (Nat × Nat × Nat × Nat)
  /-- the decoded samples -/
  samples : ClipPic
  deriving DecidableEq, Repr

/-- What a heddle lane produces for a CTU: the chosen and the floor coding, and its activity (R203, R205). -/
structure CtuMeasure where
  chosen : CtuCoding
  floor : CtuCoding
  activity : Nat
  meanActivity : Nat
  /-- R147: coding-block operations that its heddle lane has in flight for it -/
  ops : Nat := 0
  deriving DecidableEq, Repr

/-- R282: a run of coded bytes of a row: it begins a NAL unit, or goes on with one, and may end it. -/
structure Piece where
  first : Bool
  bytes : Bytes
  last : Bool
  deriving DecidableEq, Repr

/-- R290, R295: a received frame, as the MAC reads it. Addresses are 16 bytes, IPv4 in mapped form, empty where there is no IP. -/
structure RxFrame where
  fcsOk : Bool
  /-- bytes from the destination address to the FCS -/
  length : Nat
  dstMac : Bytes
  etherType : Nat
  vid : Option Nat
  dei : Bool
  checksumOk : Bool
  fragment : Bool
  udpOk : Bool
  srcIp : Bytes
  dstIp : Bytes
  dscp : Nat
  /-- IP protocol: 17 UDP, 1 and 58 ICMP, 2 IGMP -/
  proto : Nat
  sport : Nat
  dport : Nat
  payload : Bytes
  deriving DecidableEq, Repr

/-- R287: one packet of a received RTCP compound. -/
inductive RtcpItem where
  | pli (media : Nat)
  | fir (sender media seq : Nat)
  | other
  deriving DecidableEq, Repr

/-- R233: the routes of a darn request. -/
inductive DarnRoute where
  | host | net | chain | rtcp
  deriving DecidableEq, Repr

/-- R248, R249: what the chain ports tell when positions are derived. -/
structure ChainView where
  /-- position of the upstream neighbour, where its port has a weft link partner -/
  upstream : Option Nat
  /-- R249: heads in the ring, devices in the chain, and the position that the ring gives this device -/
  heads : Nat
  length : Nat
  ringPosition : Nat
  upUp : Bool
  downUp : Bool
  deriving DecidableEq, Repr

/-- R306: a Sync, or the Follow_Up that completes it. -/
structure SyncMsg where
  port : Nat
  identity : Nat
  seq : Nat
  twoStep : Bool
  followUp : Bool
  /-- origin time, ns since the epoch, and correction, ns -/
  origin : Int
  correction : Int
  deriving DecidableEq, Repr

/-- R306: a Delay_Resp, or a Pdelay_Resp with its Follow_Up. -/
structure DelayMsg where
  seq : Nat
  /-- Delay_Resp: receive time at the master; peer: t2 and t3 -/
  receive : Int
  peerSend : Int
  peer : Bool
  correction : Int
  deriving DecidableEq, Repr

/-- R347, R348: a weft block. -/
inductive WeftBlock where
  /-- a header that is neither 01 nor 10 -/
  | invalid
  /-- LaneIndex within the link, FrameSeq, Role -/
  | framing (index seq role : Nat)
  | stuff
  | soakNotice
  | wake
  /-- PictureCount, line, flags; the line's samples come by SOURCE_LINE_RECEIVED -/
  | lineStart (pic line flags : Nat)
  /-- class, MessageId, length, LastSegment; what the segment brings comes by the message commands -/
  | segmentStart (cls id length : Nat) (last : Bool)
  /-- R348: a control block of an unknown type -/
  | unknown
  | data (word : BitVec 64)
  deriving DecidableEq, Repr

/-- R373, R377, R383: what the link check says of returned data. -/
inductive EccResult where
  | clean | corrected | uncorrected
  deriving DecidableEq, Repr

/-- R501: a rail monitor's reading. -/
inductive RailReading where
  | inside | below | above
  deriving DecidableEq, Repr

/-- R74, R75: a host's write of a ring's Tail, and the 32-byte descriptors that stand in the host's memory from the first that the ring has not
fetched. -/
structure TailWrite where
  tail : Nat
  host : List Bytes
  deriving DecidableEq, Repr

/-- R85: the SDI link that is lost, 0 for link 1, and why. -/
structure LostLink where
  link : Nat
  cause : LinkCause
  deriving DecidableEq, Repr

/-- R151, R173: what a coded CTU brings: its bytes for Mangle staging by NAL unit, and the reference units of its reconstruction, from its top
down. -/
structure StagedCtu where
  pieces : List Piece
  recon : List RefUnit
  deriving DecidableEq, Repr

/-- R347: a block as it arrives at a lane's pins, scrambled: its header and its payload. -/
structure WireBlock where
  header : BitVec 2
  payload : BitVec 64
  deriving DecidableEq, Repr

/-- R437, R19: the target that a master accessed when it was frozen, and the heddle lanes of a loom that reported the fault, bit n for lane n. -/
structure FreezeReport where
  target : Target
  lanes : Nat := 0
  deriving DecidableEq, Repr

/-- The commands and events of the block: one constructor per row of spec/opcode_table.json, in the table's order. -/
inductive Instr where
  /-- POWER_ON_RESET (R410). PORST_N rises after being held low; everything except fuses is reset and start-up runs from its start. -/
  | powerOnReset (lowNs : Nat)
  /-- WARM_RESET (R410). A warm reset from WRST_N, from DeviceReset or from the Selvedge resets all state except the Mending Log and the AON_CLK domain. -/
  | warmReset (cause : WarmCause)
  /-- SPINDLE_LOCK (R23). The Spindle PLL locks after the reference is valid, and the divided clocks start. -/
  | spindleLock
  /-- SPINDLE_UNLOCK (R23). The Spindle loses lock in service; every derived domain stops and the device enters device safe state. -/
  | spindleUnlock
  /-- FUSES_READ (R412). Fuses are read, identity is loaded into the Fast Responder and the VDD_CORE target is set. -/
  | fusesRead (flashOk : Bool) (badKeys : Nat)
  /-- PATTERN_CHOSEN (R421). The configuration slot with the higher Generation is chosen and its check word is verified. -/
  | patternChosen
  /-- EARLY_SET_APPLIED (R424). The Selvedge checks and applies the early set of a schema-5 Pattern. -/
  | earlySetApplied
  /-- ACTIVE_FIRMWARE_VERIFIED (R412). The active firmware slot is verified, Bolt code is copied, the Selvedge region is locked and the firewall windows are programmed. -/
  | activeFirmwareVerified
  /-- FAST_RESPONDER_START (R413). At t + 50 ms the Fast Responder begins answering fast objects and the queued fast-only requests. -/
  | fastResponderStart
  /-- DRAM_TRAINED (R412). The Beam finishes training all three set points and runs at the highest one allowed. -/
  | dramTrained (ok : Bool) (ranks : Nat) (densityGb : Nat) (points : Nat)
  /-- BOLT_READY (R415). Bolt becomes ready; the boot queues are handled oldest first and weft alignment starts. -/
  | boltReady
  /-- BOOT_COMMIT (R424). The boot commit of the Pattern is validated and, on acceptance, takes effect at once and sets ConfigCommitted. -/
  | bootCommit (windows : List (Nat × Window))
  /-- IMAGE_VERIFIED (R417). The inactive firmware slot is verified or found empty; ImageVerified is set and held chain offers are handled. -/
  | imageVerified
  /-- ENCODE_START_WAIT_EXPIRY (R419). EncodeStartWaitS seconds after ConfigCommitted pass, and the gate opens without PTP lock. -/
  | encodeStartWaitExpiry
  /-- READ_REQ (R61). A ReadReq message is taken; it is answered by the Fast Responder or queued for Bolt after framing, authentication and policing checks. -/
  | readReq (path : Path) (msg : Bytes)
  /-- WRITE_REQ (R47). A WriteReq message writes objects; RW and WO writes take effect at once and RWC writes are staged. -/
  | writeReq (path : Path) (msg : Bytes)
  /-- SEGMENT_WRITE_REQ (R41). A segment of a long OCTETS value is accepted, or the sequence is broken and the partial value discarded. -/
  | segmentWriteReq (path : Path) (msg : Bytes)
  /-- DESCRIBE_REQ (R61). A DescribeReq returns an object's type, access, flags, maximum length and default. -/
  | describeReq (path : Path) (msg : Bytes)
  /-- COMMIT (R51). A non-zero CommitTag write takes the writer's staging set into the commit queue, or is refused with Busy or NothingStaged. -/
  | commitReq (src : CommitSrc)
  /-- DISCARD (R50). A Discard write empties the writer's staging set. -/
  | discard (prin : Prin)
  /-- SELVEDGE_OBJECT_COMMIT (R47). A Selvedge write to an RWC object is queued and handled as a commit of that one object. -/
  | selvedgeObjectCommit (key : Nat) (val : Val)
  /-- COMMIT_VALIDATION_DONE (R51). Validation of a queued commit ends, and the commit is accepted or refused as a whole. -/
  | commitValidationDone (windows : List (Nat × Window))
  /-- STAGING_SET_TIMEOUT (R48). A Net or Chain staging set is discarded after 60 s without a write or commit. -/
  | stagingSetTimeout (prin : Prin)
  /-- BOLT_REQUEST_HANDLED (R58). Bolt takes a queued message and answers it. -/
  | boltRequestHandled (queue : Nat)
  /-- BOLT_REPLY_TIMEOUT (R58). Bolt has not answered 2 ms after accepting a message; the Fast Responder answers NotReady. -/
  | boltReplyTimeout (queue : Nat)
  /-- EVENT_ACK (R64). An EventAck ends the resending of its EventNotify. -/
  | eventAck (path : Path) (msg : Bytes)
  /-- EVENT_NOTIFY_RESEND (R64). An unacknowledged EventNotify is resent after 10 ms, up to three times, then counted as lost. -/
  | eventNotifyResend (sub : Nat) (tid : Nat)
  /-- MAILBOX_SUBMIT (R72). A write to DRFT_MBn_SUBMIT submits a request and sets Busy, or sets Overrun. -/
  | mailboxSubmit (slot : MailSlot) (length : Nat)
  /-- MAILBOX_DONE (R72). The whole response is in the response buffer; Done is set and Busy cleared. -/
  | mailboxDone (slot : MailSlot)
  /-- MAILBOX_CLEAR_DONE (R71). Writing Done to DRFT_MBn_CLEAR frees the slot. -/
  | mailboxClearDone (slot : MailSlot)
  /-- MAILBOX_CLEAR_OVERRUN (R71). Writing Overrun to DRFT_MBn_CLEAR clears Overrun. -/
  | mailboxClearOverrun (slot : MailSlot)
  /-- FUNCTION_LEVEL_RESET (R70). A PCIe function-level reset disables rings, empties mailbox slots, discards the Host staging set and clears MSI-X configuration. -/
  | functionLevelReset
  /-- PCIE_FUNDAMENTAL_RESET (R410). PERST# low resets the PCIe endpoint only, and the link retrains. -/
  | pcieFundamentalReset
  /-- PCIE_LINK_CHANGE (R457). The PCIe link goes up or down, or changes rate or width. -/
  | pcieLinkChange (up : Bool) (rate : Nat) (width : Nat)
  /-- BAR2_ACCESS (R68). A BAR2 request completes at the window offset in force, subject to master 10's firewall windows. -/
  | bar2Access (offset : Nat) (len : Nat) (wdata : Option Bytes)
  /-- RING_ENABLE (R75). Setting Enable of a DMA ring resets Head to Tail and starts fetching. -/
  | ringEnable (ring : RingId) (log2Size : Nat)
  /-- RING_DISABLE (R76). Clearing Enable of a ring ends its descriptors in flight with Aborted. -/
  | ringDisable (ring : RingId)
  /-- RING_TAIL_WRITE (R75). The host advances a ring's Tail, giving descriptors to the device and ringing its doorbell. -/
  | ringTailWrite (ring : RingId) (write : TailWrite)
  /-- RING_ERROR_CLEAR (R74). Writing 1 to the ring's Error bit clears it and restarts the ring. -/
  | ringErrorClear (ring : RingId)
  /-- DMA_DESCRIPTOR_COMPLETE (R75). A descriptor's transfer ends; its status is written, Head advances, and errors stop the ring. -/
  | dmaDescriptorComplete (ring : RingId) (host : List Bytes) (data : Bytes) (hostOk : Bool)
  /-- MSIX_UNMASK (R78). A masked vector with its PBA bit set is unmasked and sends its message. -/
  | msixUnmask (vec : VectorId)
  /-- MSIX_INTERVAL_EXPIRY (R78). MinIntervalUs ends and causes raised meanwhile are delivered in one message. -/
  | msixIntervalExpiry (vec : VectorId)
  /-- REGISTER_WRITE (R11). A write to a register that has no behaviour of its own stores its writable fields. -/
  | registerWrite (addr : Nat) (val : Word)
  /-- FABRIC_TRANSACTION (R17). A data-fabric transaction is checked against its master's windows and reaches its target, or is refused and freezes the master. -/
  | fabricTransaction (t : Txn)
  /-- FABRIC_TAG_RETURNED (R25). A transaction completes and its tag returns to its master's share, releasing a stalled issue. -/
  | fabricTagReturned (master : MasterId)
  /-- PICTURE_BOUNDARY (R88). A channel reaches T_k; the synchroniser picks the source picture, and layer states, commits and assignments take effect. -/
  | pictureBoundary (chan : Chan)
  /-- SOURCE_PICTURE_START (R89). A source picture begins to arrive; with all slots held, the older newer picture is discarded or the host ring stalls. -/
  | sourcePictureStart (chan : Chan)
  /-- SOURCE_LINE_RECEIVED (R87). A source line completes in the synchroniser, setting S_n for active line 0. -/
  | sourceLineReceived (chan : Chan) (line : Nat) (format : SourceFormat) (part : SrcPart)
  /-- SOURCE_ABSENT (R92). No complete line arrives for one picture period, and the source becomes absent. -/
  | sourceAbsent (chan : Chan)
  /-- SDI_LINK_LOST (R85). A link loses lock or lags by more than 8 lines and is treated as lost. -/
  | sdiLinkLost (chan : Chan) (lost : LostLink)
  /-- LINE_READ (R91). Line L is read at T_k + L × L_in; an incomplete line makes the rest of the picture an input gap. -/
  | lineRead (chan : Chan) (pic : Nat) (line : Nat) (count : Nat)
  /-- REED_ROW_COMPLETE (R103). Output row j is complete in the Press input, and its statistics record is written. -/
  | reedRowComplete (chan : Chan) (pic : Nat) (row : Nat)
  /-- PRESS_ROW_HANDOFF (R138). The Press composes row j of a channel and hands it to the looms. -/
  | pressRowHandoff (chan : Chan) (pic : Nat) (row : Nat)
  /-- UNPICKER_PICTURE_DECODED (R136). An Unpicker finishes decoding a picture, with concealment, rejection, looping or end of clip. -/
  | unpickerPictureDecoded (unp : Fin 2) (pic : ClipPicture)
  /-- LOOM_ROW_START (R151). A loom starts row j once it is composed and the loom is free. -/
  | loomRowStart (loom : LoomId)
  /-- CTU_INTAKE (R146). A loom takes the next CTU into intake every τ. -/
  | ctuIntake (loom : LoomId) (ctu : CtuMeasure)
  /-- CTU_CODED_STAGED (R151). The coded bytes of a CTU reach Mangle staging, and its reconstruction its row slot (R172, R173). -/
  | ctuCodedStaged (chan : Chan) (row : Nat) (coded : StagedCtu)
  /-- ROW_SLOT_OPEN (R275). At O(k, j) the opening frame of the row is built and sent. -/
  | rowSlotOpen (chan : Chan) (pic : Nat) (row : Nat)
  /-- ROW_SLOT_CLOSE (R189). At Z(k, j) the row's slot closes; a row of a portless channel leaves staging. -/
  | rowSlotClose (chan : Chan) (pic : Nat) (row : Nat)
  /-- TX_FRAME_SELECT (R274). The idle transmitter starts the first candidate frame that fits its gate. -/
  | txFrameSelect (port : PortId)
  /-- GATE_ENTRY_CHANGE (R276). A gate list advances to its next entry and applies its gate states. -/
  | gateEntryChange (port : PortId)
  /-- GATE_LIST_CHANGEOVER (R277). A pending list takes effect at a cycle boundary at or after X. -/
  | gateListChangeover (port : PortId)
  /-- SHAPER_REFILL (R289). Every 256 ns the credits of shaped classes are updated. -/
  | shaperRefill (port : PortId)
  /-- POLICER_REFILL (R292). Every 256 ns the policer buckets refill. -/
  | policerRefill
  /-- FRAME_RECEIVED (R290). A received frame is checked and directed to PTP, the flow table, control or dropped. -/
  | frameReceived (port : PortId) (frame : RxFrame)
  /-- RTCP_RECEIVED (R287). An RTCP packet for a channel becomes a darn request, is ignored or is policed. -/
  | rtcpReceived (port : PortId) (chan : Chan) (items : List RtcpItem)
  /-- RTCP_SENDER_REPORT (R287). A phase stream sends an RTCP sender report. -/
  | rtcpSenderReport (chan : Chan) (phase : Nat)
  /-- PORT_LINK_CHANGE (R301). A port's link goes up or down. -/
  | portLinkChange (port : PortId) (up : Bool) (rate : Nat)
  /-- DARN_REQUEST (R233). A darn request is accepted, coalesced or refused. -/
  | darnRequest (route : DarnRoute) (chan : Chan)
  /-- QUALIFY_MASK (R241). A QualifyMask write starts single-mode qualification. -/
  | qualifyMask (prin : Prin) (mask : Nat)
  /-- QUALIFICATION_DONE (R240). A qualification ends and each loom passes, fails or is quarantined. -/
  | qualificationDone (looms : Nat) (tiles : List Nat) (shaOk : Bool)
  /-- QUALIFICATION_TIMEOUT (R239). A loom has not finished within twice its bound and fails. -/
  | qualificationTimeout (loom : LoomId)
  /-- CHAIN_POSITION_DERIVE (R248). Chain positions are derived again after a chain link change. -/
  | chainPositionDerive (view : ChainView)
  /-- CHAIN_SEGMENT_SEND (R250). The chain engine sends the next segment by class priority. -/
  | chainSegmentSend (side : ChainPort)
  /-- STRIP_RECEIVED (R259). A Strip message is stored if it arrives in its window, or dropped. -/
  | stripReceived (side : ChainPort) (msg : Bytes)
  /-- ROW_QP_RECORD_RECEIVED (R261). A RowQp record is stored for bounding q_row. -/
  | rowQpRecordReceived (side : ChainPort) (msg : Bytes)
  /-- BAND_RECORD_RECEIVED (R258). A Band record from a neighbour is received. -/
  | bandRecordReceived (side : ChainPort) (msg : Bytes)
  /-- CANVAS_RECORD_RECEIVED (R253). A Canvas record is compared; the side becomes Mismatched or Active. -/
  | canvasRecordReceived (side : ChainPort) (msg : Bytes)
  /-- SEAM_SIDE_ABSENT (R264). Weft lock is lost for 10 µs or no Canvas record arrives for 3 periods. -/
  | seamSideAbsent (chan : Chan) (left : Bool)
  /-- PTP_SYNC (R308). A Sync or Follow_Up updates the domain clock and servo. -/
  | ptpSync (dom : DomainId) (msg : SyncMsg)
  /-- PTP_ANNOUNCE (R306). An Announce is handled and the master is chosen. -/
  | ptpAnnounce (dom : DomainId) (msg : Foreign)
  /-- PTP_DELAY_RESP (R306). A Delay_Resp or Pdelay_Resp updates the mean path delay. -/
  | ptpDelayResp (dom : DomainId) (msg : DelayMsg)
  /-- DELAY_REQ_SEND (R306). The domain sends its Delay_Req or Pdelay_Req. -/
  | delayReqSend (dom : DomainId)
  /-- ANNOUNCE_RECEIPT_TIMEOUT (R308). No Announce arrives in time; the domain goes to Holdover or Listening. -/
  | announceReceiptTimeout (dom : DomainId)
  /-- HOLDOVER_LIMIT (R308). HoldoverLimitS in Holdover passes and the domain enters Freerun. -/
  | holdoverLimit (dom : DomainId)
  /-- REVERT_HOLDOFF_EXPIRY (R311). Primary has been Locked for RevertHoldoffS and the active domain returns to primary. -/
  | revertHoldoffExpiry
  /-- SLEW_COMPLETE (R311). e reaches 0 and presented time follows the domain clock. -/
  | slewComplete
  /-- EXTERNAL_REF_LOST (R309). An external holdover reference absent for 3 s or out of range is dropped. -/
  | externalRefLost
  /-- PULSE_EDGE (R315). A time-pulse output places its leading edge. -/
  | pulseEdge (out : Nat)
  /-- CAPTURE_EDGE (R316). A capture input edge is timestamped into its FIFO, or dropped on overflow. -/
  | captureEdge (inp : Nat) (rising : Bool)
  /-- TIME_NOW_READ (R320). A read of TIME_NOW_LO latches presented time. -/
  | timeNowRead
  /-- CAPTURE_POP (R320). A read of TIME_CAPn_LO pops the oldest capture record. -/
  | capturePop (inp : Nat)
  /-- AUDIO_FRAME_INSTANT (R328). At a sample frame instant a port moves a frame and may slip. -/
  | audioFrameInstant (port : AudioPort) (samples : List Int)
  /-- AUDIO_EXT_FRAME_SYNC (R328). An external frame sync writes a frame into the compatibility FIFO. -/
  | audioExtFrameSync (port : AudioPort) (samples : List Int)
  /-- AUDIO_CLOCK_LOST (R329). No external frame sync for 4 frame periods makes the port Lost. -/
  | audioClockLost (port : AudioPort)
  /-- RATE_MEASUREMENT (R330). Each second the measured rate and class are updated. -/
  | rateMeasurement (port : AudioPort)
  /-- LANE_CDR_LOCK (R352). A lane gains clock recovery and alignment starts. -/
  | laneCdrLock (lane : LaneId)
  /-- LANE_ALIGNMENT_DONE (R352). Alignment ends with the lane Up or in Fault. -/
  | laneAlignmentDone (lane : LaneId) (slips : Nat)
  /-- LANE_ALIGN_RETRY (R352). A faulted lane retries alignment after 100 ms. -/
  | laneAlignRetry (lane : LaneId)
  /-- WEFT_BLOCK_RECEIVED (R348). A weft block is received and handled by its type. -/
  | weftBlockReceived (lane : LaneId) (block : WireBlock)
  /-- SOAK_IDLE_EXPIRY (R355). An idle chain lane enters Soak after SoakIdleUs. -/
  | soakIdleExpiry (lane : LaneId)
  /-- SOAK_EXIT (R356). A segment becomes ready and a Soak lane wakes. -/
  | soakExit (lane : LaneId)
  /-- SOAK_BURST (R356). A lane in Soak sends a burst every 1.0 ms. -/
  | soakBurst (lane : LaneId)
  /-- WEFT_RX_SILENCE_TIMEOUT (R356). No block for 2.0 ms and the link is declared down. -/
  | weftRxSilenceTimeout (lane : LaneId)
  /-- SCAN_START (R359). ScanStart begins an eye-scan point. -/
  | scanStart (lane : LaneId)
  /-- SCAN_DWELL_END (R359). DwellMs ends and the scan results are reported. -/
  | scanDwellEnd (lane : LaneId) (errors : Nat)
  /-- BEAM_REQUEST (R369). A memory port accepts a request into the Beam queues. -/
  | beamRequest (txn : Nat)
  /-- BEAM_COMMAND_SLOT (R368). A Beam channel issues the next allowed command. -/
  | beamCommandSlot (ch : BeamChan)
  /-- BEAM_READ_RETURN (R373). A read's data returns; latency and ECC are checked. -/
  | beamReadReturn (ch : BeamChan) (data : Bytes) (ecc : EccResult)
  /-- REFRESH_DUE (R370). tREFI elapses and a refresh is owed. -/
  | refreshDue (ch : BeamChan)
  /-- MR4_POLL (R370). Every 16 ms the Beam reads MR4. -/
  | mr4Poll (codes : List Nat)
  /-- POWER_DOWN_ENTRY (R375). An idle rank enters power-down. -/
  | powerDownEntry (ch : BeamChan) (rank : Nat)
  /-- SELF_REFRESH_ENTRY (R376). The Beam enters self-refresh. -/
  | selfRefreshEntry
  /-- MARGIN_CHECK (R377). A periodic margin check runs. -/
  | marginCheck (ch : BeamChan) (margin : Int)
  /-- RETRAIN_ATTEMPT_DONE (R378). A retraining attempt ends. -/
  | retrainAttemptDone (ch : BeamChan) (ok : Bool)
  /-- SET_POINT_CHANGE (R379). All Beam channels move to another set point. -/
  | setPointChange (point : Nat)
  /-- RETURN_TO_SET_POINT (R380). ReturnToSetPoint starts retraining of the highest set point. -/
  | returnToSetPoint
  /-- BANDWIDTH_WINDOW (R384). Each 1 ms the Beam reports bandwidth. -/
  | bandwidthWindow
  /-- CREATE (R392). Create takes a free thread context. -/
  | create (core : CoreId) (level : Nat) (cls : Nat) (mask : Nat)
  /-- WAKE (R393). A wake makes a thread Ready or counts it. -/
  | wake (core : CoreId) (thread : Nat)
  /-- BLOCK (R392). Block makes the issuing thread Blocked or consumes a wake. -/
  | block (core : CoreId)
  /-- YIELD (R392). Yield moves the thread to the tail of its level. -/
  | yield (core : CoreId)
  /-- EXIT (R392). Exit makes the issuing thread Cancelled. -/
  | exit (core : CoreId)
  /-- CANCEL (R396). Cancel ends a thread or marks it CancelPending. -/
  | cancel (core : CoreId) (thread : Nat)
  /-- SET_PRIORITY (R392). SetPriority moves a thread to a new level. -/
  | setPriority (core : CoreId) (thread : Nat) (level : Nat)
  /-- SET_CLASS (R392). SetClass sets EnergyClass and AffinityMask. -/
  | setClass (core : CoreId) (thread : Nat) (cls : Nat) (mask : Nat)
  /-- FREE (R392). Free returns a Cancelled thread. -/
  | free (core : CoreId) (thread : Nat)
  /-- BIND (R392). Bind binds an event source to a thread. -/
  | bind (core : CoreId) (thread : Nat) (source : Nat)
  /-- WAKE_INTAKE (R394). The intake FIFO delivers a wake. -/
  | wakeIntake
  /-- DISPATCH (R395). A thread is placed on a core. -/
  | dispatch (core : CoreId)
  /-- AFFINITY_HOLD_EXPIRY (R397). AffinityHoldNs ends and any core takes the thread. -/
  | affinityHoldExpiry (thread : Nat)
  /-- CANCEL_GRACE_EXPIRY (R396). CancelGraceUs passes and CancelOverdue is raised. -/
  | cancelGraceExpiry (thread : Nat)
  /-- DEFER_LIMIT_EXPIRY (R399). A Deferred thread is dispatched once after its limit. -/
  | deferLimitExpiry (thread : Nat)
  /-- GOVERNOR_SAMPLE (R400). Every 100 µs sensors and currents are sampled. -/
  | governorSample (sensors : List Int) (rails : List Nat)
  /-- GOVERNOR_PERIOD (R402). The Governor adjusts loom effort. -/
  | governorPeriod
  /-- THERMAL_CEILING_ENTRY (R403). T_max ≥ 105 °C for 10 ms enters Ceiling. -/
  | thermalCeilingEntry
  /-- THERMAL_TRIP (R403). Two sensors ≥ 115 °C for 1 ms: safe state. -/
  | thermalTrip
  /-- BOLT_WATCHDOG_EXPIRY (R437). A Bolt core's watchdog expires and it is frozen. -/
  | boltWatchdogExpiry (core : CoreId)
  /-- PATTERN_SAVE (R426). PatternSave takes a snapshot and starts a save. -/
  | patternSave
  /-- PATTERN_SAVE_DONE (R426). A save ends Done or Failed. -/
  | patternSaveDone (ok : Bool)
  /-- PATTERN_LOAD_SLOT (R427). PatternLoadSlot enters a slot as a commit. -/
  | patternLoadSlot (prin : Prin) (slot : Nat)
  /-- DEVICE_RESET (R410). DeviceReset schedules a warm reset 10 ms after the reply. -/
  | deviceReset (prin : Prin)
  /-- FREEZE (R437). A master is frozen; of a loom, with the heddle lanes that reported the fault (R148). -/
  | freeze (master : MasterId) (cause : FreezeCause) (addr : Nat) (report : FreezeReport)
  /-- FREEZE_RECORD (R437). The freeze record is taken and logged. -/
  | freezeRecord (master : MasterId)
  /-- FREEZE_MASTER (R439). FreezeMaster freezes a named master. -/
  | freezeMaster (prin : Prin) (master : Nat)
  /-- THAW_MASTER (R439). ThawMaster starts a thaw. -/
  | thawMaster (prin : Prin) (master : Nat)
  /-- AUTO_THAW (R439). 10 ms after a freeze an Auto master thaws. -/
  | autoThaw (master : MasterId)
  /-- THAW_COMPLETE (R439). A thaw finishes and the master is released. -/
  | thawComplete (master : MasterId)
  /-- KEY_WRITE (R440). A Shed or chain link key is written or erased. -/
  | keyWrite (prin : Prin) (slot : Nat) (key : Bytes)
  /-- ACTIVATE (R445). Activate schedules activation of the inactive slot. -/
  | activate (prin : Prin)
  /-- ACTIVATION_INSTANT (R445). At ActivateAt the Selvedge writes the selector and warm-resets. -/
  | activationInstant
  /-- CANCEL_ACTIVATION (R446). CancelActivation withdraws an activation. -/
  | cancelActivation (prin : Prin)
  /-- CONFIRM_IMAGE (R445). ConfirmImage confirms a trial and raises the rollback counter. -/
  | confirmImage (prin : Prin)
  /-- AUTO_CONFIRM_EXPIRY (R445). AutoConfirmS after ConfigCommitted confirms the trial. -/
  | autoConfirmExpiry
  /-- TRIAL_BOLT_READY_TIMEOUT (R445). No BoltReady 1,000 ms after a trial reset: warm reset. -/
  | trialBoltReadyTimeout
  /-- FUSE_BLOW (R501). A fuse blow is made once VDD_FUSE is in its window. -/
  | fuseBlow
  /-- OFFER (R449). An image Offer is accepted or declined. -/
  | offer (side : ChainPort) (msg : Bytes)
  /-- ACCEPT (R448). An Accept lets the sender serve requests. -/
  | accept (side : ChainPort) (msg : Bytes)
  /-- DECLINE (R448). A Decline ends the offer on that link. -/
  | decline (side : ChainPort) (msg : Bytes)
  /-- REQUEST (R450). A Request is served with Block messages. -/
  | request (side : ChainPort) (msg : Bytes)
  /-- BLOCK_MESSAGE (R449). An image Block is checked and written to flash. -/
  | blockMessage (side : ChainPort) (msg : Bytes)
  /-- DONE (R449). A Done message triggers validation of the slot. -/
  | done (side : ChainPort) (msg : Bytes)
  /-- BLOCK_REQUEST_TIMEOUT (R449). A block not arrived 100 ms after Request is requested again or the transfer abandoned. -/
  | blockRequestTimeout (block : Nat)
  /-- EVENT_RAISE (R456). An event sets pending, messages, wakes and requests a log entry. -/
  | eventRaise (source : Nat) (code : Nat) (master : Nat) (unit : Nat) (detail : Nat) (severity : Nat)
  /-- LOG_ENTRY_WRITE (R469). The Selvedge writes a log entry. -/
  | logEntryWrite
  /-- HANDLER_COMPLETE (R459). A handler completes and the incident depth falls. -/
  | handlerComplete
  /-- HANDLER_TIMEOUT (R461). A handler exceeds 1.0 ms and safe state is entered. -/
  | handlerTimeout
  /-- TRACKER_WINDOW_END (R462). A coalescing window ends with a Coalesced entry. -/
  | trackerWindowEnd (source : Nat) (code : Nat) (master : Nat) (unit : Nat)
  /-- SAFE_STATE_RESET_EXPIRY (R467). SafeStateResetS passes and the Selvedge warm-resets. -/
  | safeStateResetExpiry
  /-- LOG_PENDING_CLEAR (R474). A W1C write clears pending bits. -/
  | logPendingClear (word : Nat) (bits : Word)
  /-- LOG_RDPTR_WRITE (R472). A write to LOG_RDPTR sets the next entry for ring 34. -/
  | logRdptrWrite (val : Word)
  /-- COUNTER_LO_READ (R478). A read of PMC_CNTn_LO latches the counter. -/
  | counterLoRead (reader : Reader) (index : Nat)
  /-- SNAPSHOT_REQUEST (R479). SnapshotRequest asks for a counter snapshot. -/
  | snapshotRequest (prin : Prin)
  /-- SNAPSHOT_COPY (R479). All counters are copied into the snapshot bank. -/
  | snapshotCopy
  /-- INSTRUCTION_SAMPLE (R481). A core's count reaches its period and the instruction is sampled. -/
  | instructionSample (core : CoreId) (pc : Nat) (address : Nat)
  /-- SAMPLE_RECORD_TAKEN (R484). The engine takes a record into the buffer, or a Lost record. -/
  | sampleRecordTaken
  /-- SAMPLE_RDPTR_WRITE (R485). A PMC_SMP_RDPTR write frees sampling slots. -/
  | sampleRdptrWrite (val : Word)
  /-- SUPPLY_MONITOR (R501). A rail out of window for 10 µs raises SupplyMonitor. -/
  | supplyMonitor (rail : Nat) (reading : RailReading)
  /-- AON_UNDERVOLTAGE (R501). VDD_AON below 0.70 V for 1 µs causes a power-on reset. -/
  | aonUndervoltage
  /-- AVS_RECOMPUTE (R500). Every 100 ms the VDD_CORE target is recomputed. -/
  | avsRecompute (tempC : Int)
  /-- AVS_STEP (R500). A VDD_CORE step is sent and confirmed. -/
  | avsStep (confirmed : Bool)
  /-- POWER_DOWN (R503). PORST_N falls at power-down. -/
  | powerDown
  /-- LOCKSTEP_MISMATCH (R434). The two Selvedge cores' outputs differ in a CTL_CLK cycle, and the safe-state sequencer puts the device in device safe state with cause 3. -/
  | lockstepMismatch
  /-- HANDLER_FAULT (R461). A Selvedge handler faults while it runs, and the device enters device safe state with cause HandlerFault. -/
  | handlerFault
  /-- CDR_LOCK_LOSS (R352). A lane loses CdrLock; it leaves Up, its link goes down and alignment retries stop until lock returns. -/
  | cdrLockLoss (lane : LaneId)
  /-- EXTERNAL_REF_RETURN (R309). A dropped external holdover reference returns within range, holdover discipline resumes using it, and ExternalRefState is raised. -/
  | externalRefReturn
  /-- PCIE_ERROR (R457). The PCIe endpoint detects an AER correctable or uncorrectable error, and PcieError is raised. -/
  | pcieError (uncorrectable : Bool)
  deriving DecidableEq, Repr

end Sys2Proof
end

