-- ==== Sys2Proof/Decode.lean ====
section
/-!
DEFINITION. Sys2Proof/Decode.lean: the command that a table word spells. The rows of the opcode table give no bits, so no word
spells a command.
-/

namespace Sys2Proof

/-- The command that a word of nbits bits spells by the opcode table: no row gives bits, so none. -/
def decodeTableWord (_nbits _w : Nat) : Option Instr := none

end Sys2Proof
end

