-- ==== Sys2Proof/Config.lean ====
section
/-!
DEFINITION. Sys2Proof/Config.lean: what the spec leaves open and the model leaves free: constants with no body, of which nothing
can be proved but that they are functions. Log entry 3 lists them.
-/

namespace Sys2Proof.Config

/-- A fresh free value of 32 bits, by its number (values the spec calls undefined or random). -/
opaque freeWord : Nat → BitVec 32
/-- The response buffer after Done has been cleared (R71: undefined), byte by byte. -/
opaque freeByte : Nat → Nat → BitVec 8
/-- The binary32 pattern of a ratio of two numbers, rounded as the device rounds it (R358 states no rounding). -/
opaque ratioF32 : Nat → Nat → BitVec 32
/-- R360: whether a line rate that is not a whole number of Mb/s is rounded down (0) or up (1) in DetectedRateMbps. -/
opaque rateRounding : BitVec 1
/-- R359: the binary32 pattern of BerBound95 = (errors + 2√errors + 3) / bits, rounded as the device rounds it. -/
opaque boundF32 : Nat → Nat → BitVec 32
/-- R357: a transmit FIR tap of EqProfile 0 from ROM: line rate code, tap (0 pre, 1 main, 2 post). -/
opaque romFir : Nat → Nat → BitVec 6
/-- R159: whether the limits of a level and tier in Annex A of the codec's Recommendation are all met: codec, general_level_idc, tier, coded
width, coded height, luma samples in a second, slices, bit rate. -/
opaque levelMet : List Nat → BitVec 1
/-- R122: an entry of a ROM colour transform: transform, entry, component. -/
opaque romLut : Nat → Nat → Nat → BitVec 13
/-- R125: a ROM curve point for a space and an output transfer: pre (0) or post (1), space, output, component, point. -/
opaque romCurve : Nat → Nat → Nat → Nat → Nat → BitVec 13
/-- R125: a ROM matrix coefficient or offset: space, output, number 0 to 11. -/
opaque romMatrix : Nat → Nat → Nat → BitVec 16
/-- R100, R106: the ROM filter sets: set, axis (0 horizontal), byte. -/
opaque romFilter : Nat → Nat → Nat → BitVec 8
/-- R98: a chroma sample of a rotated 4:2:2 picture, which the spec does not site: rotation, x, y, the plane's lines. -/
opaque rotatedChroma : Nat → Nat → Nat → List (List Nat) → BitVec 10
/-- R119, R120: a 4:2:2 chroma component between two sites, where a layer is blended: the samples at its left and right. -/
opaque chromaBetween : Nat → Nat → BitVec 10
/-- R119, R137: a 4:2:0 chroma component of a clip at a luma position: x, y, the plane's lines. -/
opaque clipChroma : Nat → Nat → List (List Nat) → BitVec 10
/-- R104: a sample of the analysis copy, of the luma samples that it stands for. -/
opaque analysisSample : List Nat → BitVec 10
/-- R104: what the search for motion reads beyond the analysis copy of the previous picture: column, line. -/
opaque analysisBeyond : Int → Int → BitVec 10
/-- R104: which of so many vectors with the best SAD is taken. -/
opaque vectorTie : Nat → Nat
/-- R104: whether the median of an even number of components is the higher of the two in the middle. -/
opaque medianUpper : BitVec 1
/-- R104: whether Activity is rounded up where its mean × 16 is not a whole number. -/
opaque activityUp : BitVec 1
/-- R131: what a corrupt block of a safe image shows: x, y, component. -/
opaque corruptSafe : Nat → Nat → Nat → BitVec 12
/-- R308: the natural frequency of a servo's loop at a LoopBandwidthMilliHz, in 2^−32 rad/s. -/
opaque servoOmega : Nat → Nat
/-- R309: the correction in ppb that steers a domain clock towards its reference: the difference from what was learned, ns, and the
correction so far. -/
opaque refSteer : Int → Int → Int
/-- R481: the jitter of the next sampling period of a core. -/
opaque sampleJitter : Nat → Nat
/-- R62: a block of random bits for what the device draws by itself, such as the first RTP sequence number of a stream. -/
opaque random : Nat → Nat
/-- R164: whether pic_type of a picture whose row 0 is a hold row is 2: channel, picture. -/
opaque audType : Nat → Nat → BitVec 1
/-- R164, R176, R177: the bytes after its header of a NAL unit that the Mangle sends in a hold row, as the codec's Recommendation codes the
unit's elements: codec, nal_unit_type, channel, row, picture order count. -/
opaque unitBytes : Nat → Nat → Nat → Nat → Nat → Bytes

/-- R477: a counter that counts what no command shows (cycles, instructions, bus packets): counter, BootCount, TIME_CLK count. -/
opaque hiddenCounter : Nat → Nat → Nat → BitVec 48

end Sys2Proof.Config
end

