-- ==== Sys2Proof/Machine/Crypto.lean ====
section
/-!
DEFINITION. Sys2Proof/Machine/Crypto.lean: the functions that R62 and R443 name: SHA-256 and SHA-384 (FIPS 180-4), HMAC (FIPS 198-1) and the
verification of an ECDSA signature on P-384 (FIPS 186-5). Their arithmetic is those standards' (log entry 113).
-/

namespace Sys2Proof.Machine

/-! ## The Secure Hash Algorithm -/

/-- What tells one hash of the family from another: the bits of a word, the digest's words, the starting value, the round constants and the
amounts of the four mixing functions; the last amount of the two small ones is a shift. -/
structure Sha where
  bits : Nat
  words : Nat
  start : List Nat
  rounds : List Nat
  small0 : Nat × Nat × Nat
  small1 : Nat × Nat × Nat
  big0 : Nat × Nat × Nat
  big1 : Nat × Nat × Nat
  deriving DecidableEq, Repr

/-- The round constants of SHA-256: the cube roots of the first 64 primes. -/
def shaRounds256 : List Nat :=
  [0x428A2F98, 0x71374491, 0xB5C0FBCF, 0xE9B5DBA5, 0x3956C25B, 0x59F111F1, 0x923F82A4, 0xAB1C5ED5] ++
  [0xD807AA98, 0x12835B01, 0x243185BE, 0x550C7DC3, 0x72BE5D74, 0x80DEB1FE, 0x9BDC06A7, 0xC19BF174] ++
  [0xE49B69C1, 0xEFBE4786, 0x0FC19DC6, 0x240CA1CC, 0x2DE92C6F, 0x4A7484AA, 0x5CB0A9DC, 0x76F988DA] ++
  [0x983E5152, 0xA831C66D, 0xB00327C8, 0xBF597FC7, 0xC6E00BF3, 0xD5A79147, 0x06CA6351, 0x14292967] ++
  [0x27B70A85, 0x2E1B2138, 0x4D2C6DFC, 0x53380D13, 0x650A7354, 0x766A0ABB, 0x81C2C92E, 0x92722C85] ++
  [0xA2BFE8A1, 0xA81A664B, 0xC24B8B70, 0xC76C51A3, 0xD192E819, 0xD6990624, 0xF40E3585, 0x106AA070] ++
  [0x19A4C116, 0x1E376C08, 0x2748774C, 0x34B0BCB5, 0x391C0CB3, 0x4ED8AA4A, 0x5B9CCA4F, 0x682E6FF3] ++
  [0x748F82EE, 0x78A5636F, 0x84C87814, 0x8CC70208, 0x90BEFFFA, 0xA4506CEB, 0xBEF9A3F7, 0xC67178F2]

/-- The round constants of SHA-384: the cube roots of the first 80 primes. -/
def shaRounds512 : List Nat :=
  [0x428A2F98D728AE22, 0x7137449123EF65CD, 0xB5C0FBCFEC4D3B2F, 0xE9B5DBA58189DBBC, 0x3956C25BF348B538] ++
  [0x59F111F1B605D019, 0x923F82A4AF194F9B, 0xAB1C5ED5DA6D8118, 0xD807AA98A3030242, 0x12835B0145706FBE] ++
  [0x243185BE4EE4B28C, 0x550C7DC3D5FFB4E2, 0x72BE5D74F27B896F, 0x80DEB1FE3B1696B1, 0x9BDC06A725C71235] ++
  [0xC19BF174CF692694, 0xE49B69C19EF14AD2, 0xEFBE4786384F25E3, 0x0FC19DC68B8CD5B5, 0x240CA1CC77AC9C65] ++
  [0x2DE92C6F592B0275, 0x4A7484AA6EA6E483, 0x5CB0A9DCBD41FBD4, 0x76F988DA831153B5, 0x983E5152EE66DFAB] ++
  [0xA831C66D2DB43210, 0xB00327C898FB213F, 0xBF597FC7BEEF0EE4, 0xC6E00BF33DA88FC2, 0xD5A79147930AA725] ++
  [0x06CA6351E003826F, 0x142929670A0E6E70, 0x27B70A8546D22FFC, 0x2E1B21385C26C926, 0x4D2C6DFC5AC42AED] ++
  [0x53380D139D95B3DF, 0x650A73548BAF63DE, 0x766A0ABB3C77B2A8, 0x81C2C92E47EDAEE6, 0x92722C851482353B] ++
  [0xA2BFE8A14CF10364, 0xA81A664BBC423001, 0xC24B8B70D0F89791, 0xC76C51A30654BE30, 0xD192E819D6EF5218] ++
  [0xD69906245565A910, 0xF40E35855771202A, 0x106AA07032BBD1B8, 0x19A4C116B8D2D0C8, 0x1E376C085141AB53] ++
  [0x2748774CDF8EEB99, 0x34B0BCB5E19B48A8, 0x391C0CB3C5C95A63, 0x4ED8AA4AE3418ACB, 0x5B9CCA4F7763E373] ++
  [0x682E6FF3D6B2B8A3, 0x748F82EE5DEFB2FC, 0x78A5636F43172F60, 0x84C87814A1F0AB72, 0x8CC702081A6439EC] ++
  [0x90BEFFFA23631E28, 0xA4506CEBDE82BDE9, 0xBEF9A3F7B2C67915, 0xC67178F2E372532B, 0xCA273ECEEA26619C] ++
  [0xD186B8C721C0C207, 0xEADA7DD6CDE0EB1E, 0xF57D4F7FEE6ED178, 0x06F067AA72176FBA, 0x0A637DC5A2C898A6] ++
  [0x113F9804BEF90DAE, 0x1B710B35131C471B, 0x28DB77F523047D84, 0x32CAAB7B40C72493, 0x3C9EBE0A15C9BEBC] ++
  [0x431D67C49C100D4C, 0x4CC5D4BECB3E42B6, 0x597F299CFC657E2A, 0x5FCB6FAB3AD6FAEC, 0x6C44198C4A475817]

/-- SHA-256. -/
def sha256Alg : Sha :=
  { bits := 32, words := 8, rounds := shaRounds256, small0 := (7, 18, 3), small1 := (17, 19, 10), big0 := (2, 13, 22), big1 := (6, 11, 25),
    start := [0x6A09E667, 0xBB67AE85, 0x3C6EF372, 0xA54FF53A, 0x510E527F, 0x9B05688C, 0x1F83D9AB, 0x5BE0CD19] }

/-- SHA-384. -/
def sha384Alg : Sha :=
  { bits := 64, words := 6, rounds := shaRounds512, small0 := (1, 8, 7), small1 := (19, 61, 6), big0 := (28, 34, 39), big1 := (14, 18, 41),
    start := [0xCBBB9D5DC1059ED8, 0x629A292A367CD507, 0x9159015A3070DD17, 0x152FECD8F70E5939,
      0x67332667FFC00B31, 0x8EB44A8768581511, 0xDB0C2E0D64F98FA7, 0x47B5481DBEFA4FA4] }

/-- A word rotated to the right. -/
def Sha.rot (a : Sha) (x n : Nat) : Nat := (x >>> n ||| x <<< (a.bits - n)) % 2 ^ a.bits

/-- The mixing of the message schedule and of a round. -/
def Sha.small (a : Sha) (r : Nat × Nat × Nat) (x : Nat) : Nat := a.rot x r.1 ^^^ a.rot x r.2.1 ^^^ x >>> r.2.2
def Sha.big (a : Sha) (r : Nat × Nat × Nat) (x : Nat) : Nat := a.rot x r.1 ^^^ a.rot x r.2.1 ^^^ a.rot x r.2.2

/-- One round: the eight working words and the sixteen words of the schedule that follow. -/
def Sha.round (a : Sha) (st : List Nat × List Nat) (k : Nat) : List Nat × List Nat :=
  match st with
  | ([x0, x1, x2, x3, x4, x5, x6, x7], w) =>
    let m := 2 ^ a.bits
    let wt := w.getD 0 0
    let next := (a.small a.small1 (w.getD 14 0) + w.getD 9 0 + a.small a.small0 (w.getD 1 0) + wt) % m
    let ch := (x4 &&& x5) ^^^ ((m - 1 - x4) &&& x6)
    let maj := (x0 &&& x1) ^^^ (x0 &&& x2) ^^^ (x1 &&& x2)
    let t1 := x7 + a.big a.big1 x4 + ch + k + wt
    let t2 := a.big a.big0 x0 + maj
    ([(t1 + t2) % m, x0, x1, x2, (x3 + t1) % m, x4, x5, x6], w.drop 1 ++ [next])
  | _ => st

/-- A block of sixteen words is taken into the hash value. -/
def Sha.block (a : Sha) (h w : List Nat) : List Nat :=
  let r := (a.rounds.foldl a.round (h, w)).1
  (h.zip r).map fun e => (e.1 + e.2) % 2 ^ a.bits

/-- Bytes cut into n pieces of k. -/
def pieces (k : Nat) : Nat → Bytes → List Bytes
  | 0, _ => []
  | n + 1, b => b.take k :: pieces k n (b.drop k)

/-- The message with its padding: a byte 80H, zeros, and its length in bits. -/
def Sha.pad (a : Sha) (b : Bytes) : Bytes :=
  let size := 2 * a.bits
  let z := (size - (b.length + 1 + a.bits / 4) % size) % size
  b ++ [0x80] ++ List.replicate z 0 ++ beBytes (a.bits / 4) (8 * b.length)

/-- The digest of a message. -/
def Sha.hash (a : Sha) (b : Bytes) : Bytes :=
  let p := a.pad b
  let blocks := (pieces (2 * a.bits) (p.length / (2 * a.bits)) p).map fun x => (pieces (a.bits / 8) 16 x).map ofBeBytes
  ((blocks.foldl a.block a.start).take a.words).flatMap (beBytes (a.bits / 8))

/-- SHA-256 and SHA-384 of a message. -/
def sha256 (b : Bytes) : Bytes := sha256Alg.hash b
def sha384 (b : Bytes) : Bytes := sha384Alg.hash b

/-- HMAC-SHA-256 of a message under a key. -/
def hmacSha256 (key b : Bytes) : Bytes :=
  let k := if 64 < key.length then sha256 key else key
  let k := k ++ List.replicate (64 - k.length) 0
  sha256 (k.map (· ^^^ 0x5C) ++ sha256 (k.map (· ^^^ 0x36) ++ b))

/-! ## ECDSA on P-384 -/

/-- The field of P-384, the order of its base point, the constant of its equation and its base point. -/
def p384P : Nat := 2 ^ 384 - 2 ^ 128 - 2 ^ 96 + 2 ^ 32 - 1
def p384N : Nat :=
  0xFFFFFFFFFFFFFFFFFFFFFFFFFFFFFFFFFFFFFFFFFFFFFFFFC7634D81F4372DDF581A0DB248B0A77AECEC196ACCC52973
def p384B : Nat :=
  0xB3312FA7E23EE7E4988E056BE3F82D19181D9C6EFE8141120314088F5013875AC656398D8A2ED19D2A85C8EDD3EC2AEF
def p384G : Nat × Nat :=
  (0xAA87CA22BE8B05378EB1C71EF320AD746E1D3B628BA79B9859F741E082542A385502F25DBF55296C3A545E3872760AB7,
   0x3617DE4A96262C6F5D9E98BF9292DC29F8F41DBD289A147CE9DA3113B5F0B8C00A60B1CE1D7E819D7A431D7C90EA0E5F)

/-- A power modulo m, by so many bits of the exponent from the lowest. -/
def powMod (m : Nat) : Nat → Nat → Nat → Nat
  | 0, _, _ => 1 % m
  | n + 1, b, e => let r := powMod m n (b * b % m) (e / 2); if e % 2 = 1 then b * r % m else r

/-- The inverse modulo a prime of 384 bits. -/
def invMod (m x : Nat) : Nat := powMod m 384 (x % m) (m - 2)

/-- A difference modulo p. -/
def subP (a b : Nat) : Nat := (a + p384P - b % p384P) % p384P

/-- A point in Jacobian form; the third part 0 is the point at infinity. -/
structure JPoint where
  x : Nat
  y : Nat
  z : Nat
  deriving DecidableEq, Repr

/-- Twice a point. -/
def JPoint.double (a : JPoint) : JPoint :=
  if a.z = 0 || a.y = 0 then ⟨1, 1, 0⟩
  else
    let zz := a.z * a.z % p384P
    let yy := a.y * a.y % p384P
    let s := 4 * a.x * yy % p384P
    let m := 3 * subP a.x zz * (a.x + zz) % p384P
    let x := subP (m * m) (2 * s)
    ⟨x, subP (m * subP s x) (8 * yy * yy), 2 * a.y * a.z % p384P⟩

/-- The sum of two points. -/
def JPoint.add (a b : JPoint) : JPoint :=
  if a.z = 0 then b
  else if b.z = 0 then a
  else
    let za := a.z * a.z % p384P
    let zb := b.z * b.z % p384P
    let u1 := a.x * zb % p384P
    let u2 := b.x * za % p384P
    let s1 := a.y * zb * b.z % p384P
    let s2 := b.y * za * a.z % p384P
    if u1 = u2 then (if s1 = s2 then a.double else ⟨1, 1, 0⟩)
    else
      let h := subP u2 u1
      let r := subP s2 s1
      let hh := h * h % p384P
      let hhh := h * hh % p384P
      let v := u1 * hh % p384P
      let x := subP (r * r) (hhh + 2 * v)
      ⟨x, subP (r * subP v x) (s1 * hhh), a.z * b.z * h % p384P⟩

/-- A multiple of a point, by so many bits of the factor from the lowest. -/
def JPoint.mul : Nat → Nat → JPoint → JPoint
  | 0, _, _ => ⟨1, 1, 0⟩
  | n + 1, k, a =>
    let r := JPoint.mul n (k / 2) a.double
    if k % 2 = 1 then r.add a else r

/-- Whether a point lies on the curve. -/
def onCurve (x y : Nat) : Bool :=
  decide (x < p384P) && decide (y < p384P) && y * y % p384P == subP (x * x % p384P * x + p384B) (3 * x)

/-- Verification of a signature, r then s, on a digest under an uncompressed public key of 97 bytes (FIPS 186-5). -/
def ecdsaVerify (digest key sig : Bytes) : Bool :=
  let r := ofBeBytes (sig.take 48)
  let s := ofBeBytes ((sig.drop 48).take 48)
  let qx := ofBeBytes ((key.drop 1).take 48)
  let qy := ofBeBytes ((key.drop 49).take 48)
  if key.length != 97 || sig.length != 96 || key.head? != some 4 || r = 0 || p384N ≤ r || s = 0 || p384N ≤ s || !onCurve qx qy then false
  else
    let w := invMod p384N s
    let u1 := ofBeBytes (digest.take 48) * w % p384N
    let u2 := r * w % p384N
    let a := (JPoint.mul 384 u1 ⟨p384G.1, p384G.2, 1⟩).add (JPoint.mul 384 u2 ⟨qx, qy, 1⟩)
    if a.z = 0 then false
    else
      let zi := invMod p384P a.z
      a.x * (zi * zi % p384P) % p384P % p384N == r

end Sys2Proof.Machine
end

