-- ==== Sys2Proof/Machine/Keys.lean ====
section
/-!
DEFINITION. Sys2Proof/Machine/Keys.lean: the key of each object of the object tables, by name (index × 256 + subindex; a repeated
object takes the number of its channel, port, lane and so on, and an array the offset of its entry).
-/

namespace Sys2Proof.Machine.K

def fastPartNumber : Nat := objKey 0x1000 1
def fastStepping : Nat := objKey 0x1000 2
def fastSerialNumber : Nat := objKey 0x1000 3
def fastPciDeviceId : Nat := objKey 0x1000 4
def fastChainPosition : Nat := objKey 0x1000 5
def fastRomVersion : Nat := objKey 0x1000 6
def fastDeviceState : Nat := objKey 0x1001 1
def fastStatusFlags : Nat := objKey 0x1001 2
def fastLastIncident : Nat := objKey 0x1001 3
def fastActiveImageSlot : Nat := objKey 0x1001 4
def fastBoltVersion : Nat := objKey 0x1001 5
def fastUptimeNs : Nat := objKey 0x1001 6
def fastActiveDomain : Nat := objKey 0x1002 1
def fastActiveTime : Nat := objKey 0x1002 2
def fastPrimaryTime : Nat := objKey 0x1002 3
def fastRedundantTime : Nat := objKey 0x1002 4
def fastPrimaryOffsetNs : Nat := objKey 0x1002 5
def fastRedundantOffsetNs : Nat := objKey 0x1002 6
def shedShedUdpPort : Nat := objKey 0x1100 1
def shedShedTrafficClass : Nat := objKey 0x1100 2
def shedShedPortEnable : Nat := objKey 0x1100 3
def shedUnauthReadEnable : Nat := objKey 0x1100 4
def shedDestAddress (i : Nat) : Nat := objKey (0x1140 + i) 1
def shedUdpPort (i : Nat) : Nat := objKey (0x1140 + i) 2
def shedKeyId (i : Nat) : Nat := objKey (0x1140 + i) 3
def shedMinSeverity (i : Nat) : Nat := objKey (0x1140 + i) 4
def shedPort (i : Nat) : Nat := objKey (0x1140 + i) 5
def shedShedKey (i : Nat) : Nat := objKey (0x1180 + i) 1
def shedKeyScope (i : Nat) : Nat := objKey (0x1180 + i) 2
def shedLastSequence (i : Nat) : Nat := objKey (0x1180 + i) 3
def irqEventVector (i n : Nat) : Nat := objKey (0x1500 + i) (1 + n)
def irqRingVector (n : Nat) : Nat := objKey 0x1508 (1 + n)
def irqMailboxVector : Nat := objKey 0x1509 1
def irqCommitVector : Nat := objKey 0x1509 2
def irqFatalVector : Nat := objKey 0x1509 3
def irqMinIntervalUs (n : Nat) : Nat := objKey 0x150A (1 + n)
def irqBar2Window : Nat := objKey 0x1510 1
def bootPatternSave : Nat := objKey 0x1D00 1
def bootPatternLoadSlot : Nat := objKey 0x1D00 2
def bootAutoSave : Nat := objKey 0x1D00 3
def bootEncodeStartPolicy : Nat := objKey 0x1D00 4
def bootEncodeStartWaitS : Nat := objKey 0x1D00 5
def bootPatternImage : Nat := objKey 0x1D00 6
def bootDeviceReset : Nat := objKey 0x1D00 7
def bootPatternSlot : Nat := objKey 0x1D01 1
def bootPatternGeneration : Nat := objKey 0x1D01 2
def bootPatternSchema : Nat := objKey 0x1D01 3
def bootDefaultCause : Nat := objKey 0x1D01 4
def bootMigratedFrom : Nat := objKey 0x1D01 5
def bootMigrationDropped : Nat := objKey 0x1D01 6
def bootSaveState : Nat := objKey 0x1D01 7
def bootResetCause : Nat := objKey 0x1D01 8
def bootBootQueueDropped (n : Nat) : Nat := objKey 0x1D02 (1 + n)
def bootBoltReadyUs : Nat := objKey 0x1D03 1
def bootConfiguredUs : Nat := objKey 0x1D03 2
def bootEncodeGateUs : Nat := objKey 0x1D03 3
def holdHighestSub : Nat := objKey 0x1E80 0
def holdHoldBits (n : Nat) : Nat := objKey 0x1E80 (1 + n)
def commitHighestSub1F00 : Nat := objKey 0x1F00 0
def commitCommitTag : Nat := objKey 0x1F00 1
def commitDiscard : Nat := objKey 0x1F00 2
def commitStagedCount : Nat := objKey 0x1F00 3
def commitStagedBytes : Nat := objKey 0x1F00 4
def commitHighestSub1F01 : Nat := objKey 0x1F01 0
def commitLastTag : Nat := objKey 0x1F01 1
def commitState : Nat := objKey 0x1F01 2
def commitStatus : Nat := objKey 0x1F01 3
def commitFailingIndex : Nat := objKey 0x1F01 4
def commitFailingSub : Nat := objKey 0x1F01 5
def commitFailingBudget : Nat := objKey 0x1F01 6
def commitQueuedCommits : Nat := objKey 0x1F01 7
def reedSourceType (i : Nat) : Nat := objKey (0x2000 + 0x80 * i) 1
def reedSdiLinks (i : Nat) : Nat := objKey (0x2000 + 0x80 * i) 2
def reedSdiLanes (i : Nat) : Nat := objKey (0x2000 + 0x80 * i) 3
def reedSdiMapping (i : Nat) : Nat := objKey (0x2000 + 0x80 * i) 4
def reedFlowId (i : Nat) : Nat := objKey (0x2000 + 0x80 * i) 5
def reedFlowIdProtect (i : Nat) : Nat := objKey (0x2000 + 0x80 * i) 6
def reedWeftQuad (i : Nat) : Nat := objKey (0x2000 + 0x80 * i) 7
def reedWidth (i : Nat) : Nat := objKey (0x2000 + 0x80 * i) 8
def reedHeight (i : Nat) : Nat := objKey (0x2000 + 0x80 * i) 9
def reedRateNum (i : Nat) : Nat := objKey (0x2000 + 0x80 * i) 10
def reedRateDen (i : Nat) : Nat := objKey (0x2000 + 0x80 * i) 11
def reedTransfer (i : Nat) : Nat := objKey (0x2000 + 0x80 * i) 12
def reedSyncDelayNs (i : Nat) : Nat := objKey (0x2001 + 0x80 * i) 1
def reedRepeatCount (i : Nat) : Nat := objKey (0x2001 + 0x80 * i) 2
def reedSkipCount (i : Nat) : Nat := objKey (0x2001 + 0x80 * i) 3
def reedGapCount (i : Nat) : Nat := objKey (0x2001 + 0x80 * i) 4
def reedFreqOffsetPpb (i : Nat) : Nat := objKey (0x2001 + 0x80 * i) 5
def reedActiveLinks (i : Nat) : Nat := objKey (0x2001 + 0x80 * i) 6
def reedLastSlipTime (i : Nat) : Nat := objKey (0x2001 + 0x80 * i) 7
def reedSyncMarginLines (i : Nat) : Nat := objKey (0x2002 + 0x80 * i) 1
def reedAlignGroup (i : Nat) : Nat := objKey (0x2002 + 0x80 * i) 2
def reedLinkLossPolicy (i : Nat) : Nat := objKey (0x2002 + 0x80 * i) 3
def reedLossHoldPictures (i : Nat) : Nat := objKey (0x2002 + 0x80 * i) 4
def reedLossColour (i : Nat) : Nat := objKey (0x2002 + 0x80 * i) 5
def reedReadPhaseNs (i : Nat) : Nat := objKey (0x2002 + 0x80 * i) 6
def reedSyncHysteresisLines (i : Nat) : Nat := objKey (0xA002 + 0x80 * i) 1
def reedOutWidth (i : Nat) : Nat := objKey (0x2003 + 0x80 * i) 1
def reedOutHeight (i : Nat) : Nat := objKey (0x2003 + 0x80 * i) 2
def reedScalerFilter (i : Nat) : Nat := objKey (0x2003 + 0x80 * i) 3
def reedRotation (i : Nat) : Nat := objKey (0x2003 + 0x80 * i) 4
def reedHIncrement (i : Nat) : Nat := objKey (0xA003 + 0x80 * i) 1
def reedVIncrement (i : Nat) : Nat := objKey (0xA003 + 0x80 * i) 2
def reedHPhase0 (i : Nat) : Nat := objKey (0xA003 + 0x80 * i) 3
def reedVPhase0 (i : Nat) : Nat := objKey (0xA003 + 0x80 * i) 4
def reedCoefH (i : Nat) : Nat := objKey (0xA003 + 0x80 * i) 5
def reedCoefV (i : Nat) : Nat := objKey (0xA003 + 0x80 * i) 6
def reedSceneCutRatio (i : Nat) : Nat := objKey (0x2004 + 0x80 * i) 1
def reedSeamCanvas (i : Nat) : Nat := objKey (0x2005 + 0x80 * i) 1
def reedBandIndex (i : Nat) : Nat := objKey (0x2005 + 0x80 * i) 2
def reedBandCount (i : Nat) : Nat := objKey (0x2005 + 0x80 * i) 3
def reedCanvasX (i : Nat) : Nat := objKey (0x2005 + 0x80 * i) 4
def reedSourceX (i : Nat) : Nat := objKey (0x2005 + 0x80 * i) 5
def reedCanvasWidth (i : Nat) : Nat := objKey (0x2005 + 0x80 * i) 6
def reedSourceCanvasWidth (i : Nat) : Nat := objKey (0x2005 + 0x80 * i) 7
def reedLeftPort (i : Nat) : Nat := objKey (0x2005 + 0x80 * i) 8
def reedRightPort (i : Nat) : Nat := objKey (0x2005 + 0x80 * i) 9
def reedSeamRefreshOffset (i : Nat) : Nat := objKey (0x2005 + 0x80 * i) 10
def reedSeamQpSpread (i : Nat) : Nat := objKey (0xA005 + 0x80 * i) 1
def reedSeamEdgeQpDelta (i : Nat) : Nat := objKey (0xA005 + 0x80 * i) 2
def reedLeftState (i : Nat) : Nat := objKey (0x2006 + 0x80 * i) 1
def reedRightState (i : Nat) : Nat := objKey (0x2006 + 0x80 * i) 2
def reedMismatchFlags (i : Nat) : Nat := objKey (0x2006 + 0x80 * i) 3
def reedStripLateCount (i : Nat) : Nat := objKey (0x2006 + 0x80 * i) 4
def reedStripLostCount (i : Nat) : Nat := objKey (0x2006 + 0x80 * i) 5
def reedQpRecordsUsed (i : Nat) : Nat := objKey (0x2006 + 0x80 * i) 6
def reedEffectivePeriod (i : Nat) : Nat := objKey (0x2006 + 0x80 * i) 7
def reedCanvasBandColumn (i : Nat) : Nat := objKey (0x2006 + 0x80 * i) 8
def reedLastNeighbourLoss (i : Nat) : Nat := objKey (0x2006 + 0x80 * i) 9
def reedGGroupMode (n : Nat) : Nat := objKey 0x2F00 (1 + n)
def reedGGroupSlipCount (n : Nat) : Nat := objKey 0x2F01 (1 + n)
def reedGLineBufferPositions : Nat := objKey 0x2F02 1
def pressCanvasWidth (i : Nat) : Nat := objKey (0x3000 + 0x80 * i) 1
def pressCanvasHeight (i : Nat) : Nat := objKey (0x3000 + 0x80 * i) 2
def pressOutputTransfer (i : Nat) : Nat := objKey (0x3000 + 0x80 * i) 3
def pressBackgroundColour (i : Nat) : Nat := objKey (0x3000 + 0x80 * i) 4
def pressChannelContexts (i : Nat) : Nat := objKey (0x3001 + 0x80 * i) 1
def pressHemAlarmMask (i : Nat) : Nat := objKey (0x3001 + 0x80 * i) 2
def pressSafeMask (i : Nat) : Nat := objKey (0x3001 + 0x80 * i) 3
def layerEnable (i j : Nat) : Nat := objKey (0x3010 + 0x80 * i + j) 1
def layerSourceKind (i j : Nat) : Nat := objKey (0x3010 + 0x80 * i + j) 2
def layerSourceRef (i j : Nat) : Nat := objKey (0x3010 + 0x80 * i + j) 3
def layerDstX (i j : Nat) : Nat := objKey (0x3010 + 0x80 * i + j) 4
def layerDstY (i j : Nat) : Nat := objKey (0x3010 + 0x80 * i + j) 5
def layerSrcX (i j : Nat) : Nat := objKey (0x3010 + 0x80 * i + j) 6
def layerSrcY (i j : Nat) : Nat := objKey (0x3010 + 0x80 * i + j) 7
def layerSrcWidth (i j : Nat) : Nat := objKey (0x3010 + 0x80 * i + j) 8
def layerSrcHeight (i j : Nat) : Nat := objKey (0x3010 + 0x80 * i + j) 9
def layerLayerAlpha (i j : Nat) : Nat := objKey (0x3010 + 0x80 * i + j) 10
def layerNotReadyPolicy (i j : Nat) : Nat := objKey (0x3010 + 0x80 * i + j) 11
def layerFallbackColour (i j : Nat) : Nat := objKey (0x3010 + 0x80 * i + j) 12
def layerSolidColour (i j : Nat) : Nat := objKey (0x3010 + 0x80 * i + j) 13
def layerColourTransform (i j : Nat) : Nat := objKey (0x3010 + 0x80 * i + j) 14
def layerConcealPolicy (i j : Nat) : Nat := objKey (0x3010 + 0x80 * i + j) 15
def layerSurfaceFormat (i j : Nat) : Nat := objKey (0x3010 + 0x80 * i + j) 16
def layerSurfaceSpace (i j : Nat) : Nat := objKey (0x3010 + 0x80 * i + j) 17
def layerSurfaceBase (i j : Nat) : Nat := objKey (0x3010 + 0x80 * i + j) 18
def layerBufferStride (i j : Nat) : Nat := objKey (0x3010 + 0x80 * i + j) 19
def layerBuffers (i j : Nat) : Nat := objKey (0x3010 + 0x80 * i + j) 20
def layerPitch (i j : Nat) : Nat := objKey (0x3010 + 0x80 * i + j) 21
def layerSurfaceWidth (i j : Nat) : Nat := objKey (0x3010 + 0x80 * i + j) 22
def layerSurfaceHeight (i j : Nat) : Nat := objKey (0x3010 + 0x80 * i + j) 23
def layerMaxBytes (i j : Nat) : Nat := objKey (0x3010 + 0x80 * i + j) 24
def layerUpdateEvery (i j : Nat) : Nat := objKey (0x3010 + 0x80 * i + j) 25
def layerPreCurve (i j : Nat) : Nat := objKey (0xB010 + 0x80 * i + j) 1
def layerMatrix (i j : Nat) : Nat := objKey (0xB010 + 0x80 * i + j) 2
def layerOffset (i j : Nat) : Nat := objKey (0xB010 + 0x80 * i + j) 3
def layerPostCurve (i j : Nat) : Nat := objKey (0xB010 + 0x80 * i + j) 4
def layerLutSlotSelect (i j : Nat) : Nat := objKey (0xB010 + 0x80 * i + j) 5
def hemHemEnable (i j : Nat) : Nat := objKey (0x3020 + 0x80 * i + j) 1
def hemX (i j : Nat) : Nat := objKey (0x3020 + 0x80 * i + j) 2
def hemY (i j : Nat) : Nat := objKey (0x3020 + 0x80 * i + j) 3
def hemWidth (i j : Nat) : Nat := objKey (0x3020 + 0x80 * i + j) 4
def hemHeight (i j : Nat) : Nat := objKey (0x3020 + 0x80 * i + j) 5
def hemLossless (i j : Nat) : Nat := objKey (0x3020 + 0x80 * i + j) 6
def hemPublish (i j : Nat) : Nat := objKey (0x3020 + 0x80 * i + j) 7
def hemCompare (i j : Nat) : Nat := objKey (0x3020 + 0x80 * i + j) 8
def hemExpected (i j : Nat) : Nat := objKey (0x3020 + 0x80 * i + j) 9
def hemLayerRef (i j : Nat) : Nat := objKey (0x3020 + 0x80 * i + j) 10
def hemPolicy (i j : Nat) : Nat := objKey (0x3020 + 0x80 * i + j) 11
def hemSafeBase (i j : Nat) : Nat := objKey (0x3020 + 0x80 * i + j) 12
def hemSafeSignature (i j : Nat) : Nat := objKey (0x3020 + 0x80 * i + j) 13
def hemReturnMatches (i j : Nat) : Nat := objKey (0x3020 + 0x80 * i + j) 14
def layerStState (i j : Nat) : Nat := objKey (0x3030 + 0x80 * i + j) 1
def layerStRepeatCount (i j : Nat) : Nat := objKey (0x3030 + 0x80 * i + j) 2
def layerStHoldOffCount (i j : Nat) : Nat := objKey (0x3030 + 0x80 * i + j) 3
def layerStConcealCount (i j : Nat) : Nat := objKey (0x3030 + 0x80 * i + j) 4
def layerStFaultCount (i j : Nat) : Nat := objKey (0x3030 + 0x80 * i + j) 5
def layerStShownBuffer (i j : Nat) : Nat := objKey (0x3030 + 0x80 * i + j) 6
def hemStHemState (i j : Nat) : Nat := objKey (0x3040 + 0x80 * i + j) 1
def hemStLastSignature (i j : Nat) : Nat := objKey (0x3040 + 0x80 * i + j) 2
def hemStLiveSignature (i j : Nat) : Nat := objKey (0x3040 + 0x80 * i + j) 3
def hemStMismatchCount (i j : Nat) : Nat := objKey (0x3040 + 0x80 * i + j) 4
def hemStNotReadyCount (i j : Nat) : Nat := objKey (0x3040 + 0x80 * i + j) 5
def pressGContextsUsed : Nat := objKey 0x3F00 1
def pressGLutSlot (n : Nat) : Nat := objKey 0x3F01 (1 + n)
def pressGLutData (n : Nat) : Nat := objKey 0xBF01 (1 + n)
def unpEnable (i : Nat) : Nat := objKey (0x3F80 + i) 1
def unpCodec (i : Nat) : Nat := objKey (0x3F80 + i) 2
def unpClipBase (i : Nat) : Nat := objKey (0x3F80 + i) 3
def unpClipBytes (i : Nat) : Nat := objKey (0x3F80 + i) 4
def unpLoop (i : Nat) : Nat := objKey (0x3F80 + i) 5
def unpRateDivider (i : Nat) : Nat := objKey (0x3F80 + i) 6
def unpClipSpace (i : Nat) : Nat := objKey (0x3F80 + i) 7
def unpMasterChannel (i : Nat) : Nat := objKey (0x3F80 + i) 8
def unpStUnpickerState (i : Nat) : Nat := objKey (0x3F90 + i) 1
def unpStDecodedCount (i : Nat) : Nat := objKey (0x3F90 + i) 2
def unpStConcealCount (i : Nat) : Nat := objKey (0x3F90 + i) 3
def unpStClipWidth (i : Nat) : Nat := objKey (0x3F90 + i) 4
def unpStClipHeight (i : Nat) : Nat := objKey (0x3F90 + i) 5
def loomEncodeEnable (i : Nat) : Nat := objKey (0x4000 + 0x80 * i) 1
def loomCodec (i : Nat) : Nat := objKey (0x4000 + 0x80 * i) 2
def loomChromaFormat (i : Nat) : Nat := objKey (0x4000 + 0x80 * i) 3
def loomPictureHash (i : Nat) : Nat := objKey (0x4000 + 0x80 * i) 4
def loomLoomMask (i : Nat) : Nat := objKey (0xC000 + 0x80 * i) 1
def loomMaxEffort (i : Nat) : Nat := objKey (0x4001 + 0x80 * i) 1
def loomSearchRangeX (i : Nat) : Nat := objKey (0xC001 + 0x80 * i) 1
def loomSearchRangeY (i : Nat) : Nat := objKey (0xC001 + 0x80 * i) 2
def loomMaxRefs (i : Nat) : Nat := objKey (0xC001 + 0x80 * i) 3
def loomMaxMttDepth (i : Nat) : Nat := objKey (0xC001 + 0x80 * i) 4
def loomBetaOffsetDiv2 (i : Nat) : Nat := objKey (0xC001 + 0x80 * i) 5
def loomTcOffsetDiv2 (i : Nat) : Nat := objKey (0xC001 + 0x80 * i) 6
def loomSaoEnable (i : Nat) : Nat := objKey (0xC001 + 0x80 * i) 7
def loomAlfEnable (i : Nat) : Nat := objKey (0xC001 + 0x80 * i) 8
def loomMtsEnable (i : Nat) : Nat := objKey (0xC001 + 0x80 * i) 9
def loomDepQuantEnable (i : Nat) : Nat := objKey (0xC001 + 0x80 * i) 10
def loomLossyTransformSkip (i : Nat) : Nat := objKey (0xC001 + 0x80 * i) 11
def loomAssignedLooms (i : Nat) : Nat := objKey (0x4002 + 0x80 * i) 1
def loomProfileIdc (i : Nat) : Nat := objKey (0x4002 + 0x80 * i) 2
def loomLevelIdc (i : Nat) : Nat := objKey (0x4002 + 0x80 * i) 3
def loomTier (i : Nat) : Nat := objKey (0x4002 + 0x80 * i) 4
def loomCodedWidth (i : Nat) : Nat := objKey (0x4002 + 0x80 * i) 5
def loomCodedHeight (i : Nat) : Nat := objKey (0x4002 + 0x80 * i) 6
def loomPicturesCoded (i : Nat) : Nat := objKey (0x4002 + 0x80 * i) 7
def loomHoldRowCount (i : Nat) : Nat := objKey (0x4002 + 0x80 * i) 8
def loomBrokenRowCount (i : Nat) : Nat := objKey (0x4002 + 0x80 * i) 9
def loomLosslessCtus (i : Nat) : Nat := objKey (0x4002 + 0x80 * i) 10
def rateBitrate (i : Nat) : Nat := objKey (0x4010 + 0x80 * i) 1
def rateSlotFactor (i : Nat) : Nat := objKey (0x4010 + 0x80 * i) 2
def rateBundle (i : Nat) : Nat := objKey (0x4010 + 0x80 * i) 3
def rateQpMin (i : Nat) : Nat := objKey (0xC010 + 0x80 * i) 1
def rateQpMax (i : Nat) : Nat := objKey (0xC010 + 0x80 * i) 2
def rateQpStep (i : Nat) : Nat := objKey (0xC010 + 0x80 * i) 3
def rateQpSpread (i : Nat) : Nat := objKey (0xC010 + 0x80 * i) 4
def rateAqStrength (i : Nat) : Nat := objKey (0xC010 + 0x80 * i) 5
def rateBorrowEighths (i : Nat) : Nat := objKey (0xC010 + 0x80 * i) 6
def rateCarryPercent (i : Nat) : Nat := objKey (0xC010 + 0x80 * i) 7
def rateMinLatencyRows (i : Nat) : Nat := objKey (0x4012 + 0x80 * i) 1
def rateLatencyNs (i : Nat) : Nat := objKey (0x4012 + 0x80 * i) 2
def rateLatencyRows (i : Nat) : Nat := objKey (0x4012 + 0x80 * i) 3
def rateLatencyRowsInForce (i : Nat) : Nat := objKey (0x4012 + 0x80 * i) 4
def rateRowIntervalNs (i : Nat) : Nat := objKey (0x4014 + 0x80 * i) 1
def rateSlotPhases (i : Nat) : Nat := objKey (0x4014 + 0x80 * i) 2
def rateSlotRateKbps (i : Nat) : Nat := objKey (0x4014 + 0x80 * i) 3
def ratePhaseLagNs (i : Nat) : Nat := objKey (0x4014 + 0x80 * i) 4
def rateRowCapacityBits (i : Nat) : Nat := objKey (0x4014 + 0x80 * i) 5
def ratePictureFloorBits (i : Nat) : Nat := objKey (0x4014 + 0x80 * i) 6
def rateLastPictureBits (i : Nat) : Nat := objKey (0x4014 + 0x80 * i) 7
def rateMeanQp (i : Nat) : Nat := objKey (0x4014 + 0x80 * i) 8
def rateCarryBits (i : Nat) : Nat := objKey (0x4014 + 0x80 * i) 9
def rateFloorRowCount (i : Nat) : Nat := objKey (0x4014 + 0x80 * i) 10
def rateFloorCtuCount (i : Nat) : Nat := objKey (0x4014 + 0x80 * i) 11
def ratePostponedColumns (i : Nat) : Nat := objKey (0x4014 + 0x80 * i) 12
def rateLatencyBreachCount (i : Nat) : Nat := objKey (0x4014 + 0x80 * i) 13
def rateLastBreachCause (i : Nat) : Nat := objKey (0x4014 + 0x80 * i) 14
def rateLastBreachTime (i : Nat) : Nat := objKey (0x4014 + 0x80 * i) 15
def darnRefreshPeriod (i : Nat) : Nat := objKey (0x4020 + 0x80 * i) 1
def darnBandColumns (i : Nat) : Nat := objKey (0x4020 + 0x80 * i) 2
def darnDarnSources (i : Nat) : Nat := objKey (0x4020 + 0x80 * i) 3
def darnDarnRequest (i : Nat) : Nat := objKey (0x4020 + 0x80 * i) 4
def darnPostponeSlack (i : Nat) : Nat := objKey (0xC020 + 0x80 * i) 1
def darnStartOffset (i : Nat) : Nat := objKey (0xC020 + 0x80 * i) 2
def darnSweepState (i : Nat) : Nat := objKey (0x4021 + 0x80 * i) 1
def darnBandColumn (i : Nat) : Nat := objKey (0x4021 + 0x80 * i) 2
def darnRecoveryCount (i : Nat) : Nat := objKey (0x4021 + 0x80 * i) 3
def darnPostponedThisSweep (i : Nat) : Nat := objKey (0x4021 + 0x80 * i) 4
def darnRefreshFlags (i : Nat) : Nat := objKey (0x4021 + 0x80 * i) 5
def darnLastTrigger (i : Nat) : Nat := objKey (0x4021 + 0x80 * i) 6
def darnSweepStartTime (i : Nat) : Nat := objKey (0x4021 + 0x80 * i) 7
def darnSweepsCompleted (i : Nat) : Nat := objKey (0x4021 + 0x80 * i) 8
def darnSweepsSpoiled (i : Nat) : Nat := objKey (0x4021 + 0x80 * i) 9
def darnDarnRequests (i : Nat) : Nat := objKey (0x4021 + 0x80 * i) 10
def darnDarnCoalesced (i : Nat) : Nat := objKey (0x4021 + 0x80 * i) 11
def darnDarnRefused (i : Nat) : Nat := objKey (0x4021 + 0x80 * i) 12
def streamStreamFormat (i : Nat) : Nat := objKey (0x4030 + 0x80 * i) 1
def streamPortA (i : Nat) : Nat := objKey (0x4030 + 0x80 * i) 2
def streamPortB (i : Nat) : Nat := objKey (0x4030 + 0x80 * i) 3
def streamDestAddressA (i : Nat) : Nat := objKey (0x4030 + 0x80 * i) 4
def streamDestAddressB (i : Nat) : Nat := objKey (0x4030 + 0x80 * i) 5
def streamDestUdpPort (i : Nat) : Nat := objKey (0x4030 + 0x80 * i) 6
def streamSourceUdpPort (i : Nat) : Nat := objKey (0x4030 + 0x80 * i) 7
def streamSsrcBase (i : Nat) : Nat := objKey (0x4030 + 0x80 * i) 8
def streamPayloadType (i : Nat) : Nat := objKey (0x4030 + 0x80 * i) 9
def streamRtcpIntervalMs (i : Nat) : Nat := objKey (0x4030 + 0x80 * i) 10
def streamRowExtId (i : Nat) : Nat := objKey (0x4030 + 0x80 * i) 11
def streamPliCount (i : Nat) : Nat := objKey (0x4031 + 0x80 * i) 1
def streamFirCount (i : Nat) : Nat := objKey (0x4031 + 0x80 * i) 2
def streamRtcpIgnored (i : Nat) : Nat := objKey (0x4031 + 0x80 * i) 3
def streamRtcpPoliced (i : Nat) : Nat := objKey (0x4031 + 0x80 * i) 4
def loomGSparePolicy : Nat := objKey 0x4F00 1
def loomGLoomsInService : Nat := objKey 0x4F00 2
def loomGLoomsFrozen : Nat := objKey 0x4F00 3
def loomGLoomsQuarantined : Nat := objKey 0x4F00 4
def loomGActiveLumaRate : Nat := objKey 0x4F00 5
def loomGLoomState (n : Nat) : Nat := objKey 0x4F01 (1 + n)
def loomGLoomChannels (n : Nat) : Nat := objKey 0x4F02 (1 + n)
def loomGLoomEffort (n : Nat) : Nat := objKey 0x4F03 (1 + n)
def loomGLoomCodedLoad (n : Nat) : Nat := objKey 0x4F04 (1 + n)
def rateGBundleMinPercent (n : Nat) : Nat := objKey 0x4F40 (1 + n)
def rateGBundlePoolBits (n : Nat) : Nat := objKey 0x4F41 (1 + n)
def rateGStagingFloorBytes : Nat := objKey 0x4F42 1
def rateGStagingPeakBytes : Nat := objKey 0x4F42 2
def rateGStagingCapacity : Nat := objKey 0x4F42 3
def qualStaggerLimit : Nat := objKey 0x4F50 1
def qualQualifyMask : Nat := objKey 0x4F58 1
def qualQualResult (n : Nat) : Nat := objKey 0x4F59 (1 + n)
def qualQualFailCount (n : Nat) : Nat := objKey 0x4F5A (1 + n)
def qualQualTime (n : Nat) : Nat := objKey 0x4F5B (1 + n)
def portPortEnable (i : Nat) : Nat := objKey (0x5000 + 0x100 * i) 1
def portMacAddress (i : Nat) : Nat := objKey (0x5000 + 0x100 * i) 2
def portVlanId (i : Nat) : Nat := objKey (0x5000 + 0x100 * i) 3
def portIpv4Address (i : Nat) : Nat := objKey (0x5000 + 0x100 * i) 4
def portIpv4PrefixLength (i : Nat) : Nat := objKey (0x5000 + 0x100 * i) 5
def portIpv4Gateway (i : Nat) : Nat := objKey (0x5000 + 0x100 * i) 6
def portIpv6Address (i : Nat) : Nat := objKey (0x5000 + 0x100 * i) 7
def portMaxIpBytes (i : Nat) : Nat := objKey (0x5000 + 0x100 * i) 8
def portControlFramesPerSecond (i : Nat) : Nat := objKey (0x5000 + 0x100 * i) 9
def portCycleNs (i : Nat) : Nat := objKey (0x5001 + 0x100 * i) 1
def portBaseTime (i : Nat) : Nat := objKey (0x5001 + 0x100 * i) 2
def portGateList (i : Nat) : Nat := objKey (0xD001 + 0x100 * i) 1
def portGateCycleNs (i : Nat) : Nat := objKey (0xD001 + 0x100 * i) 2
def portGateBaseTime (i : Nat) : Nat := objKey (0xD001 + 0x100 * i) 3
def portChangeoverTime (i : Nat) : Nat := objKey (0xD001 + 0x100 * i) 4
def portClassPcp (i n : Nat) : Nat := objKey (0x5002 + 0x100 * i) (1 + n)
def portClassDscp (i n : Nat) : Nat := objKey (0x5003 + 0x100 * i) (1 + n)
def portShaperRateKbps (i n : Nat) : Nat := objKey (0x5004 + 0x100 * i) (1 + n)
def portHiCreditBytes (i n : Nat) : Nat := objKey (0xD004 + 0x100 * i) (1 + n)
def portLoCreditBytes (i n : Nat) : Nat := objKey (0xD006 + 0x100 * i) (1 + n)
def portLinkUp (i : Nat) : Nat := objKey (0x5008 + 0x100 * i) 1
def portLineRateMbps (i : Nat) : Nat := objKey (0x5008 + 0x100 * i) 2
def portListInForce (i : Nat) : Nat := objKey (0x5008 + 0x100 * i) 3
def portLastChangeover (i : Nat) : Nat := objKey (0x5008 + 0x100 * i) 4
def portPhaseCount (i : Nat) : Nat := objKey (0x5008 + 0x100 * i) 5
def portPortLoadKbps (i : Nat) : Nat := objKey (0x5008 + 0x100 * i) 6
def portRxDropMedia (i : Nat) : Nat := objKey (0x5008 + 0x100 * i) 7
def portRxDropControl (i : Nat) : Nat := objKey (0x5008 + 0x100 * i) 8
def portPtpPoliced (i : Nat) : Nat := objKey (0x5008 + 0x100 * i) 9
def portMalformedFrames (i : Nat) : Nat := objKey (0x5008 + 0x100 * i) 10
def portPauseIgnored (i : Nat) : Nat := objKey (0x5008 + 0x100 * i) 11
def portUnmatchedFrames (i : Nat) : Nat := objKey (0x5008 + 0x100 * i) 12
def flowFlowSelect : Nat := objKey 0x5800 1
def flowKind : Nat := objKey 0x5801 1
def flowPort : Nat := objKey 0x5801 2
def flowSrcAddress : Nat := objKey 0x5801 3
def flowDstAddress : Nat := objKey 0x5801 4
def flowDstUdpPort : Nat := objKey 0x5801 5
def flowVlanId : Nat := objKey 0x5801 6
def flowColourMode : Nat := objKey 0x5801 7
def flowCirKbps : Nat := objKey 0x5801 8
def flowCbsBytes : Nat := objKey 0x5801 9
def flowPirKbps : Nat := objKey 0x5801 10
def flowPbsBytes : Nat := objKey 0x5801 11
def flowYellowAction : Nat := objKey 0x5801 12
def flowGreenFrames : Nat := objKey 0x5802 1
def flowYellowFrames : Nat := objKey 0x5802 2
def flowRedFrames : Nat := objKey 0x5802 3
def flowLastRedTime : Nat := objKey 0x5802 4
def timeActiveDomainSelect : Nat := objKey 0x6000 1
def timeStepPolicy : Nat := objKey 0x6000 2
def timeStepThresholdNs : Nat := objKey 0x6000 3
def timeSlewLimitPpb : Nat := objKey 0x6000 4
def timeRevertHoldoffS : Nat := objKey 0x6000 5
def timeHoldoverReference : Nat := objKey 0x6000 6
def timeHoldoverPpsInput : Nat := objKey 0x6000 7
def timeHoldoverLimitS : Nat := objKey 0x6000 8
def timeSlewRemainingNs : Nat := objKey 0x6001 1
def timeStepCount : Nat := objKey 0x6001 2
def timeLastStepNs : Nat := objKey 0x6001 3
def timeLastStepTime : Nat := objKey 0x6001 4
def timeSwitchCount : Nat := objKey 0x6001 5
def timeLastSwitchTime : Nat := objKey 0x6001 6
def timeUtcOffsetS : Nat := objKey 0x6001 7
def tcorrIngressCorrNs (n : Nat) : Nat := objKey 0xE008 (1 + n)
def tcorrEgressCorrNs (n : Nat) : Nat := objKey 0xE009 (1 + n)
def domEnable (i : Nat) : Nat := objKey (0x6010 + i) 1
def domProfile (i : Nat) : Nat := objKey (0x6010 + i) 2
def domDomainNumber (i : Nat) : Nat := objKey (0x6010 + i) 3
def domPortMask (i : Nat) : Nat := objKey (0x6010 + i) 4
def domTransport (i : Nat) : Nat := objKey (0x6010 + i) 5
def domDelayReqLogInterval (i : Nat) : Nat := objKey (0x6010 + i) 6
def domAnnounceReceiptTimeout (i : Nat) : Nat := objKey (0x6010 + i) 7
def domLockThresholdNs (i : Nat) : Nat := objKey (0x6010 + i) 8
def domLoopBandwidthMilliHz (i : Nat) : Nat := objKey (0xE010 + i) 1
def domAsymmetryNs (i : Nat) : Nat := objKey (0xE010 + i) 2
def domMaxFreqAdjPpb (i : Nat) : Nat := objKey (0xE010 + i) 3
def domState (i : Nat) : Nat := objKey (0x6018 + i) 1
def domMasterIdentity (i : Nat) : Nat := objKey (0x6018 + i) 2
def domGmIdentity (i : Nat) : Nat := objKey (0x6018 + i) 3
def domMasterPort (i : Nat) : Nat := objKey (0x6018 + i) 4
def domOffsetNs (i : Nat) : Nat := objKey (0x6018 + i) 5
def domMeanPathDelayNs (i : Nat) : Nat := objKey (0x6018 + i) 6
def domFreqAdjPpb (i : Nat) : Nat := objKey (0x6018 + i) 7
def domLockedSince (i : Nat) : Nat := objKey (0x6018 + i) 8
def pulsePulseMode (i : Nat) : Nat := objKey (0x6080 + i) 1
def pulseStartTime (i : Nat) : Nat := objKey (0x6080 + i) 2
def pulsePeriodNs (i : Nat) : Nat := objKey (0x6080 + i) 3
def pulseWidthNs (i : Nat) : Nat := objKey (0x6080 + i) 4
def pulseActiveLow (i : Nat) : Nat := objKey (0x6080 + i) 5
def pulseChannel (i : Nat) : Nat := objKey (0x6080 + i) 6
def pulseOffsetNs (i : Nat) : Nat := objKey (0x6080 + i) 7
def pulsePulseLateCount (n : Nat) : Nat := objKey 0x6088 (1 + n)
def capCaptureEdge (i : Nat) : Nat := objKey (0x6090 + i) 1
def capCaptureOverflow (n : Nat) : Nat := objKey 0x6098 (1 + n)
def capLastCapture (n : Nat) : Nat := objKey 0x60A0 (1 + n)
def audEnable (i : Nat) : Nat := objKey (0x6400 + 0x10 * i) 1
def audDirection (i : Nat) : Nat := objKey (0x6400 + 0x10 * i) 2
def audFormat (i : Nat) : Nat := objKey (0x6400 + 0x10 * i) 3
def audSlots (i : Nat) : Nat := objKey (0x6400 + 0x10 * i) 4
def audSlotBits (i : Nat) : Nat := objKey (0x6400 + 0x10 * i) 5
def audSampleBits (i : Nat) : Nat := objKey (0x6400 + 0x10 * i) 6
def audSampleRate (i : Nat) : Nat := objKey (0x6400 + 0x10 * i) 7
def audClockMode (i : Nat) : Nat := objKey (0x6400 + 0x10 * i) 8
def audAudioGroup (i : Nat) : Nat := objKey (0x6400 + 0x10 * i) 9
def audFeed (i : Nat) : Nat := objKey (0x6400 + 0x10 * i) 10
def audEdgeOffsetNs (i : Nat) : Nat := objKey (0xE400 + 0x10 * i) 1
def audDataEdge (i : Nat) : Nat := objKey (0xE400 + 0x10 * i) 2
def audFifoCentre (i : Nat) : Nat := objKey (0xE400 + 0x10 * i) 3
def audFifoHysteresis (i : Nat) : Nat := objKey (0xE400 + 0x10 * i) 4
def audClockState (i : Nat) : Nat := objKey (0x6401 + 0x10 * i) 1
def audMeasuredRateMilliHz (i : Nat) : Nat := objKey (0x6401 + 0x10 * i) 2
def audFreqOffsetPpb (i : Nat) : Nat := objKey (0x6401 + 0x10 * i) 3
def audMeasuredClass (i : Nat) : Nat := objKey (0x6401 + 0x10 * i) 4
def audSlipDropCount (i : Nat) : Nat := objKey (0x6401 + 0x10 * i) 5
def audSlipRepeatCount (i : Nat) : Nat := objKey (0x6401 + 0x10 * i) 6
def audStepSlipCount (i : Nat) : Nat := objKey (0x6401 + 0x10 * i) 7
def audFifoLevel (i : Nat) : Nat := objKey (0x6401 + 0x10 * i) 8
def audLastSlipTime (i : Nat) : Nat := objKey (0x6401 + 0x10 * i) 9
def audGGroupMode (n : Nat) : Nat := objKey 0x6480 (1 + n)
def audGGroupSlipCount (n : Nat) : Nat := objKey 0x6481 (1 + n)
def astrEnable (i : Nat) : Nat := objKey (0x6500 + 0x10 * i) 1
def astrChannel (i : Nat) : Nat := objKey (0x6500 + 0x10 * i) 2
def astrPortA (i : Nat) : Nat := objKey (0x6500 + 0x10 * i) 3
def astrPortB (i : Nat) : Nat := objKey (0x6500 + 0x10 * i) 4
def astrDestAddressA (i : Nat) : Nat := objKey (0x6500 + 0x10 * i) 5
def astrDestAddressB (i : Nat) : Nat := objKey (0x6500 + 0x10 * i) 6
def astrDestUdpPort (i : Nat) : Nat := objKey (0x6500 + 0x10 * i) 7
def astrSourceUdpPort (i : Nat) : Nat := objKey (0x6500 + 0x10 * i) 8
def astrPayloadType (i : Nat) : Nat := objKey (0x6500 + 0x10 * i) 9
def astrEncoding (i : Nat) : Nat := objKey (0x6500 + 0x10 * i) 10
def astrPacketTimeUs (i : Nat) : Nat := objKey (0x6500 + 0x10 * i) 11
def astrChannelCount (i : Nat) : Nat := objKey (0x6500 + 0x10 * i) 12
def astrSsrc (i : Nat) : Nat := objKey (0x6500 + 0x10 * i) 13
def astrRoute (i n : Nat) : Nat := objKey (0x6508 + 0x10 * i) (1 + n)
def abindFlowId (i : Nat) : Nat := objKey (0x6600 + 0x10 * i) 1
def abindFlowIdProtect (i : Nat) : Nat := objKey (0x6600 + 0x10 * i) 2
def abindEncoding (i : Nat) : Nat := objKey (0x6600 + 0x10 * i) 3
def abindChannelCount (i : Nat) : Nat := objKey (0x6600 + 0x10 * i) 4
def abindSampleRate (i : Nat) : Nat := objKey (0x6600 + 0x10 * i) 5
def abindLinkOffsetUs (i : Nat) : Nat := objKey (0x6600 + 0x10 * i) 6
def abindGapFrames (i : Nat) : Nat := objKey (0x6601 + 0x10 * i) 1
def abindLateFrames (i : Nat) : Nat := objKey (0x6601 + 0x10 * i) 2
def abindEarlyDropped (i : Nat) : Nat := objKey (0x6601 + 0x10 * i) 3
def abindFreqOffsetPpb (i : Nat) : Nat := objKey (0x6601 + 0x10 * i) 4
def abindMeasuredClass (i : Nat) : Nat := objKey (0x6601 + 0x10 * i) 5
def laneLanePower (i : Nat) : Nat := objKey (0x6800 + 0x10 * i) 1
def laneTxInvert (i : Nat) : Nat := objKey (0x6800 + 0x10 * i) 2
def laneRxInvert (i : Nat) : Nat := objKey (0x6800 + 0x10 * i) 3
def laneEqProfile (i : Nat) : Nat := objKey (0x6800 + 0x10 * i) 4
def laneSoakIdleUs (i : Nat) : Nat := objKey (0x6800 + 0x10 * i) 5
def laneTxPre (i : Nat) : Nat := objKey (0xE800 + 0x10 * i) 1
def laneTxMain (i : Nat) : Nat := objKey (0xE800 + 0x10 * i) 2
def laneTxPost (i : Nat) : Nat := objKey (0xE800 + 0x10 * i) 3
def laneCtleBoostDb (i : Nat) : Nat := objKey (0xE800 + 0x10 * i) 4
def laneDfeMode (i : Nat) : Nat := objKey (0xE800 + 0x10 * i) 5
def laneLaneStateNow (i : Nat) : Nat := objKey (0x6801 + 0x10 * i) 1
def laneCodeErrors (i : Nat) : Nat := objKey (0x6801 + 0x10 * i) 2
def laneAlignFailCount (i : Nat) : Nat := objKey (0x6801 + 0x10 * i) 3
def laneSoakCount (i : Nat) : Nat := objKey (0x6801 + 0x10 * i) 4
def laneDetectedRateMbps (i : Nat) : Nat := objKey (0x6801 + 0x10 * i) 5
def chainChainMode : Nat := objKey 0x6A00 1
def chainChainHead : Nat := objKey 0x6A00 2
def chainUpLanes : Nat := objKey 0x6A00 3
def chainDownLanes : Nat := objKey 0x6A00 4
def chainUpState : Nat := objKey 0x6A01 1
def chainDownState : Nat := objKey 0x6A01 2
def chainChainLength : Nat := objKey 0x6A01 3
def chainSeamDroppedMalformed : Nat := objKey 0x6A01 4
def chainChainFaultCount : Nat := objKey 0x6A01 5
def scanScanStart (i : Nat) : Nat := objKey (0x6A80 + i) 1
def scanHOffset (i : Nat) : Nat := objKey (0x6A80 + i) 2
def scanVOffset (i : Nat) : Nat := objKey (0x6A80 + i) 3
def scanDwellMs (i : Nat) : Nat := objKey (0x6A80 + i) 4
def scanScanState (i : Nat) : Nat := objKey (0x6A80 + i) 5
def scanBitsCompared (i : Nat) : Nat := objKey (0x6A80 + i) 6
def scanErrors (i : Nat) : Nat := objKey (0x6A80 + i) 7
def scanBerEstimate (i : Nat) : Nat := objKey (0x6A80 + i) 8
def scanBerBound95 (i : Nat) : Nat := objKey (0x6A80 + i) 9
def quadQuadMode (i : Nat) : Nat := objKey (0x6B00 + i) 1
def quadLineRate (i : Nat) : Nat := objKey (0x6B00 + i) 2
def quadFecMode (i : Nat) : Nat := objKey (0x6B00 + i) 3
def quadWeftRole (i : Nat) : Nat := objKey (0x6B00 + i) 4
def quadWeftTxChannel (i : Nat) : Nat := objKey (0x6B00 + i) 5
def quadPortBinding (n : Nat) : Nat := objKey 0x6B10 (1 + n)
def beamMaxSetPoint : Nat := objKey 0x6C00 1
def beamSelfRefreshIdleUs : Nat := objKey 0x6C00 2
def beamPowerDownIdleNs : Nat := objKey 0x6C00 3
def beamReturnToSetPoint : Nat := objKey 0x6C00 4
def beamRefreshPostponeMax : Nat := objKey 0xEC00 1
def beamWriteHighWatermark : Nat := objKey 0xEC00 2
def beamWriteLowWatermark : Nat := objKey 0xEC00 3
def beamAgeLimitUs : Nat := objKey 0xEC00 4
def beamRetrainIntervalMs : Nat := objKey 0xEC00 5
def beamMinMarginSteps : Nat := objKey 0xEC00 6
def beamShedOrder (n : Nat) : Nat := objKey 0x6C01 (1 + n)
def beamBeamState : Nat := objKey 0x6C02 1
def beamSetPoint : Nat := objKey 0x6C02 2
def beamRanks : Nat := objKey 0x6C02 3
def beamDensityGb : Nat := objKey 0x6C02 4
def beamUsableMiB : Nat := objKey 0x6C02 5
def beamSustainedMBps : Nat := objKey 0x6C02 6
def beamBeamLoadPermille : Nat := objKey 0x6C02 7
def beamSetPointChanges : Nat := objKey 0x6C02 8
def beamLastSetPointChange : Nat := objKey 0x6C02 9
def beamNotFittingMask : Nat := objKey 0x6C02 10
def beamShedMask : Nat := objKey 0x6C02 11
def beamOutOfRange : Nat := objKey 0x6C02 12
def beamReadMBps (n : Nat) : Nat := objKey 0x6C03 (1 + n)
def beamWriteMBps (n : Nat) : Nat := objKey 0x6C04 (1 + n)
def beamRefLatencyMaxNs (n : Nat) : Nat := objKey 0x6C05 (1 + n)
def beamRefLatencyExceeded (n : Nat) : Nat := objKey 0x6C06 (1 + n)
def beamRetrainAttempts (n : Nat) : Nat := objKey 0x6C07 (1 + n)
def beamForwardedReads (n : Nat) : Nat := objKey 0x6C08 (1 + n)
def beamLinkEccCorrected (n : Nat) : Nat := objKey 0x6C09 (1 + n)
def beamLinkEccUncorrected (n : Nat) : Nat := objKey 0x6C0A (1 + n)
def beamMakeupBursts (n : Nat) : Nat := objKey 0x6C0B (1 + n)
def shtlDispatchPolicy : Nat := objKey 0x7000 1
def shtlAffinityHoldNs : Nat := objKey 0xF000 1
def shtlCancelGraceUs : Nat := objKey 0xF000 2
def shtlDeferLimitMs : Nat := objKey 0xF000 3
def shtlBulkDeferLimitMs : Nat := objKey 0xF000 4
def shtlThreadsInUse : Nat := objKey 0x7001 1
def shtlReadyThreads : Nat := objKey 0x7001 2
def shtlDeferredThreads : Nat := objKey 0x7001 3
def shtlWakesAfterCancel : Nat := objKey 0x7001 4
def shtlDeferReleases : Nat := objKey 0x7001 5
def shtlForeignCommands : Nat := objKey 0x7001 6
def shtlCreateRefused : Nat := objKey 0x7001 7
def shtlCoreBusyPermille (n : Nat) : Nat := objKey 0x7002 (1 + n)
def govBoardPowerLimit : Nat := objKey 0x7100 1
def govPowerMarginW : Nat := objKey 0x7100 2
def govThermalTargetC : Nat := objKey 0x7100 3
def govGovernorPeriodUs : Nat := objKey 0xF100 1
def govRaiseLevelsPerPeriod : Nat := objKey 0xF100 2
def govFastCutPercent : Nat := objKey 0xF100 3
def govDramLoadCeilingPermille : Nat := objKey 0xF100 4
def govPowerMeasured : Nat := objKey 0x7101 1
def govJunctionMax : Nat := objKey 0x7101 2
def govThermalState : Nat := objKey 0x7101 3
def govClassGate : Nat := objKey 0x7101 4
def govSensorsExcluded : Nat := objKey 0x7101 5
def govFastCutCount : Nat := objKey 0x7101 6
def govDramHeldLooms : Nat := objKey 0x7101 7
def govLoomEffortCap (n : Nat) : Nat := objKey 0xF101 (1 + n)
def govSensorTemp (n : Nat) : Nat := objKey 0x7102 (1 + n)
def govRailPower (n : Nat) : Nat := objKey 0x7103 (1 + n)
def selvAcceptChainUpdates : Nat := objKey 0x7400 1
def selvForwardUpdates : Nat := objKey 0x7400 2
def selvActivateAt : Nat := objKey 0x7400 3
def selvActivate : Nat := objKey 0x7400 4
def selvCancelActivation : Nat := objKey 0x7400 5
def selvConfirmImage : Nat := objKey 0x7400 6
def selvAutoConfirmS : Nat := objKey 0x7400 7
def selvSlotAState : Nat := objKey 0x7401 1
def selvSlotBState : Nat := objKey 0x7401 2
def selvSlotAVersion : Nat := objKey 0x7401 3
def selvSlotBVersion : Nat := objKey 0x7401 4
def selvRollbackCounter : Nat := objKey 0x7401 5
def selvRevokedKeys : Nat := objKey 0x7401 6
def selvBlocksReceived : Nat := objKey 0x7401 7
def selvBlockRetries : Nat := objKey 0x7401 8
def selvTransfersAbandoned : Nat := objKey 0x7401 9
def selvSignatureFailures : Nat := objKey 0x7401 10
def selvHostDramBase (i : Nat) : Nat := objKey (0x7410 + i) 1
def selvHostDramSize (i : Nat) : Nat := objKey (0x7410 + i) 2
def selvHostDramRights (i : Nat) : Nat := objKey (0x7410 + i) 3
def selvChainLinkKey : Nat := objKey 0x7440 1
def frzFrozenMask : Nat := objKey 0x7480 1
def frzWatchdogMs : Nat := objKey 0x7480 2
def frzFreezeMaster : Nat := objKey 0x7480 3
def frzThawMaster : Nat := objKey 0x7480 4
def frzThawPolicy (n : Nat) : Nat := objKey 0x7481 (1 + n)
def frzFreezeCount (n : Nat) : Nat := objKey 0x7482 (1 + n)
def frzLastMaster : Nat := objKey 0x7483 1
def frzLastCause : Nat := objKey 0x7483 2
def frzLastAddress : Nat := objKey 0x7483 3
def frzLastTarget : Nat := objKey 0x7483 4
def frzLastViolations : Nat := objKey 0x7483 5
def frzLastFreezeTime : Nat := objKey 0x7483 6
def frzLastIncident : Nat := objKey 0x7483 7
def logLogMinSeverity : Nat := objKey 0x7800 1
def logSafeStateResetS : Nat := objKey 0x7800 2
def logReadSequence : Nat := objKey 0x7801 1
def logEntry (n : Nat) : Nat := objKey 0x7802 (1 + n)
def logNewestSequence : Nat := objKey 0x7803 1
def logOldestSequence : Nat := objKey 0x7803 2
def logOpenDepth : Nat := objKey 0x7803 3
def logLogDropped : Nat := objKey 0x7803 4
def logTrackersInUse : Nat := objKey 0x7803 5
def logSafeCause : Nat := objKey 0x7803 6
def logLastFatalSequence : Nat := objKey 0x7803 7
def pmcCounterSelect : Nat := objKey 0x7C00 1
def pmcValue (n : Nat) : Nat := objKey 0x7C01 (1 + n)
def pmcNetReadGroups : Nat := objKey 0x7C02 1
def pmcUserReadGroups : Nat := objKey 0x7C02 2
def pmcSnapshotRequest : Nat := objKey 0x7C03 1
def pmcSnapshotSeq : Nat := objKey 0x7C03 2
def pmcSnapshotTime : Nat := objKey 0x7C03 3
def pmcSnapshotValue (n : Nat) : Nat := objKey 0x7C04 (1 + n)
def pmcInstrSampleCores : Nat := objKey 0x7C10 1
def pmcInstrPeriod : Nat := objKey 0x7C10 2
def pmcInstrJitterBits : Nat := objKey 0x7C10 3
def pmcSampleKernel : Nat := objKey 0x7C10 4
def pmcRowSampleChannels : Nat := objKey 0x7C11 1
def pmcRowPeriod : Nat := objKey 0x7C11 2
def pmcBufferLevel : Nat := objKey 0x7C12 1
def pmcSamplesLost : Nat := objKey 0x7C12 2

end Sys2Proof.Machine.K
end

