-- ==== Sys2Proof/Machine/ObjRows.lean ====
section
/-!
DEFINITION. Sys2Proof/Machine/ObjRows.lean: the rows of the object tables of spec/, chapter by chapter (R36), and finding the
row of an index and subindex.
-/

namespace Sys2Proof.Machine

/-- R38: access const/const/const/const (Host/Net/Chain/Selvedge). -/
def accConstConstConstConst : AccSet := ⟨.const, .const, .const, .const⟩
/-- R38: access ro/ro/ro/ro (Host/Net/Chain/Selvedge). -/
def accRoRoRoRo : AccSet := ⟨.ro, .ro, .ro, .ro⟩
/-- R38: access rw/no/no/rw (Host/Net/Chain/Selvedge). -/
def accRwNoNoRw : AccSet := ⟨.rw, .no, .no, .rw⟩
/-- R38: access rw/rw/no/rw (Host/Net/Chain/Selvedge). -/
def accRwRwNoRw : AccSet := ⟨.rw, .rw, .no, .rw⟩
/-- R38: access rw/rw/ro/rw (Host/Net/Chain/Selvedge). -/
def accRwRwRoRw : AccSet := ⟨.rw, .rw, .ro, .rw⟩
/-- R38: access rw/rw/rw/rw (Host/Net/Chain/Selvedge). -/
def accRwRwRwRw : AccSet := ⟨.rw, .rw, .rw, .rw⟩
/-- R38: access rwc/no/no/rw (Host/Net/Chain/Selvedge). -/
def accRwcNoNoRw : AccSet := ⟨.rwc, .no, .no, .rw⟩
/-- R38: access rwc/ro/ro/rw (Host/Net/Chain/Selvedge). -/
def accRwcRoRoRw : AccSet := ⟨.rwc, .ro, .ro, .rw⟩
/-- R38: access rwc/rwc/no/no (Host/Net/Chain/Selvedge). -/
def accRwcRwcNoNo : AccSet := ⟨.rwc, .rwc, .no, .no⟩
/-- R38: access rwc/rwc/ro/rw (Host/Net/Chain/Selvedge). -/
def accRwcRwcRoRw : AccSet := ⟨.rwc, .rwc, .ro, .rw⟩
/-- R38: access rwc/rwc/ro/rwc (Host/Net/Chain/Selvedge). -/
def accRwcRwcRoRwc : AccSet := ⟨.rwc, .rwc, .ro, .rwc⟩
/-- R38: access wo/no/no/rw (Host/Net/Chain/Selvedge). -/
def accWoNoNoRw : AccSet := ⟨.wo, .no, .no, .rw⟩
/-- R38: access wo/no/no/wo (Host/Net/Chain/Selvedge). -/
def accWoNoNoWo : AccSet := ⟨.wo, .no, .no, .wo⟩
/-- R38: access wo/wo/no/wo (Host/Net/Chain/Selvedge). -/
def accWoWoNoWo : AccSet := ⟨.wo, .wo, .no, .wo⟩
/-- R38: access wo/wo/wo/wo (Host/Net/Chain/Selvedge). -/
def accWoWoWoWo : AccSet := ⟨.wo, .wo, .wo, .wo⟩

/-- Object rows of 0x0000–0x1FFF, R55, R59, R64. -/
def rowsSystem0 : List ObjDef := [
  /- PartNumber -/ ⟨0x1000, 0x0, 1, 0, 1, 0x01, 1, .str, 0, 64, accConstConstConstConst, .oct [0x5A,0x53,0x2D,0x39,0x31,0x34,0x30], none⟩,
  /- Stepping -/ ⟨0x1000, 0x0, 1, 0, 1, 0x02, 1, .u8, 0, 0, accConstConstConstConst, .int 0xB1, none⟩,
  /- SerialNumber -/ ⟨0x1000, 0x0, 1, 0, 1, 0x03, 1, .u64, 0, 0, accConstConstConstConst, .derived, none⟩,
  /- PciDeviceId -/ ⟨0x1000, 0x0, 1, 0, 1, 0x04, 1, .u16, 0, 0, accConstConstConstConst, .int 0x9140, none⟩,
  /- ChainPosition -/ ⟨0x1000, 0x0, 1, 0, 1, 0x05, 1, .u8, 0, 0, accRoRoRoRo, .int 0, none⟩,
  /- RomVersion -/ ⟨0x1000, 0x0, 1, 0, 1, 0x06, 1, .u16, 0, 0, accConstConstConstConst, .derived, none⟩,
  /- DeviceState -/ ⟨0x1001, 0x0, 1, 0, 1, 0x01, 1, .u8, 0, 0, accRoRoRoRo, .int 0, none⟩,
  /- StatusFlags -/ ⟨0x1001, 0x0, 1, 0, 1, 0x02, 1, .u32, 0, 0, accRoRoRoRo, .int 0, none⟩,
  /- LastIncident -/ ⟨0x1001, 0x0, 1, 0, 1, 0x03, 1, .u32, 0, 0, accRoRoRoRo, .int 0, none⟩,
  /- ActiveImageSlot -/ ⟨0x1001, 0x0, 1, 0, 1, 0x04, 1, .u8, 0, 0, accRoRoRoRo, .int 0, none⟩,
  /- BoltVersion -/ ⟨0x1001, 0x0, 1, 0, 1, 0x05, 1, .u32, 0, 0, accRoRoRoRo, .int 0, none⟩,
  /- UptimeNs -/ ⟨0x1001, 0x0, 1, 0, 1, 0x06, 1, .u64, 0, 0, accRoRoRoRo, .int 0, none⟩,
  /- ActiveDomain -/ ⟨0x1002, 0x0, 1, 0, 1, 0x01, 1, .u8, 0, 0, accRoRoRoRo, .int 0, none⟩,
  /- ActiveTime -/ ⟨0x1002, 0x0, 1, 0, 1, 0x02, 1, .time80, 0, 0, accRoRoRoRo, .int 0, none⟩,
  /- PrimaryTime -/ ⟨0x1002, 0x0, 1, 0, 1, 0x03, 1, .time80, 0, 0, accRoRoRoRo, .int 0, none⟩,
  /- RedundantTime -/ ⟨0x1002, 0x0, 1, 0, 1, 0x04, 1, .time80, 0, 0, accRoRoRoRo, .int 0, none⟩,
  /- PrimaryOffsetNs -/ ⟨0x1002, 0x0, 1, 0, 1, 0x05, 1, .i32, 0, 0, accRoRoRoRo, .int 0, none⟩,
  /- RedundantOffsetNs -/ ⟨0x1002, 0x0, 1, 0, 1, 0x06, 1, .i32, 0, 0, accRoRoRoRo, .int 0, none⟩,
  /- ShedUdpPort -/ ⟨0x1100, 0x0, 1, 0, 1, 0x01, 1, .u16, 0, 0, accRwcRwcRoRw, .int 49140, none⟩,
  /- ShedTrafficClass -/ ⟨0x1100, 0x0, 1, 0, 1, 0x02, 1, .u8, 0, 0, accRwcRwcRoRw, .int 6, (some ⟨0, 7, 1, []⟩)⟩,
  /- ShedPortEnable -/ ⟨0x1100, 0x0, 1, 0, 1, 0x03, 1, .u8, 0, 0, accRwcRwcRoRw, .int 0xFF, none⟩,
  /- UnauthReadEnable -/ ⟨0x1100, 0x0, 1, 0, 1, 0x04, 1, .bool, 0, 0, accRwcRwcRoRw, .int 1, none⟩,
  /- DestAddress -/ ⟨0x1140, 0x1, 4, 0, 1, 0x01, 1, .octets, 16, 16, accRwcRwcNoNo, .oct (List.replicate 16 0), none⟩,
  /- UdpPort -/ ⟨0x1140, 0x1, 4, 0, 1, 0x02, 1, .u16, 0, 0, accRwcRwcNoNo, .int 0, none⟩,
  /- KeyId -/ ⟨0x1140, 0x1, 4, 0, 1, 0x03, 1, .u16, 0, 0, accRwcRwcNoNo, .int 0xFFFF, (some ⟨0, 7, 1, [65535]⟩)⟩,
  /- MinSeverity -/ ⟨0x1140, 0x1, 4, 0, 1, 0x04, 1, .u8, 0, 0, accRwcRwcNoNo, .int 0, (some ⟨0, 2, 1, []⟩)⟩,
  /- Port -/ ⟨0x1140, 0x1, 4, 0, 1, 0x05, 1, .u8, 0, 0, accRwcRwcNoNo, .int 0xFF, (some ⟨0, 7, 1, [255]⟩)⟩,
  /- ShedKey -/ ⟨0x1180, 0x1, 8, 0, 1, 0x01, 1, .octets, 0, 32, accWoNoNoRw, .oct [], none⟩,
  /- KeyScope -/ ⟨0x1180, 0x1, 8, 0, 1, 0x02, 1, .u8, 0, 0, accRwcRoRoRw, .int 0, (some ⟨0, 2, 1, []⟩)⟩,
  /- LastSequence -/ ⟨0x1180, 0x1, 8, 0, 1, 0x03, 1, .u64, 0, 0, accRoRoRoRo, .int 0, none⟩]

/-- Object rows of 0x0000–0x1FFF, R45, R50, R68, R78, R430, R431. -/
def rowsSystem1 : List ObjDef := [
  /- EventVector -/ ⟨0x1500, 0x1, 5, 0, 1, 0x01, 128, .u8, 0, 0, accRwNoNoRw, .derived, (some ⟨0, 63, 1, [255]⟩)⟩,
  /- RingVector -/ ⟨0x1508, 0x0, 1, 0, 1, 0x01, 64, .u8, 0, 0, accRwNoNoRw, .perSub ((List.range 64).map (fun r => (32 + (r % 32) : Nat))), (some ⟨0, 63, 1, [255]⟩)⟩,
  /- MailboxVector -/ ⟨0x1509, 0x0, 1, 0, 1, 0x01, 1, .u8, 0, 0, accRwNoNoRw, .int 0, (some ⟨0, 63, 1, [255]⟩)⟩,
  /- CommitVector -/ ⟨0x1509, 0x0, 1, 0, 1, 0x02, 1, .u8, 0, 0, accRwNoNoRw, .int 1, (some ⟨0, 63, 1, [255]⟩)⟩,
  /- FatalVector -/ ⟨0x1509, 0x0, 1, 0, 1, 0x03, 1, .u8, 0, 0, accRwNoNoRw, .int 2, (some ⟨0, 63, 1, [255]⟩)⟩,
  /- MinIntervalUs -/ ⟨0x150A, 0x0, 1, 0, 1, 0x01, 64, .u16, 0, 0, accRwNoNoRw, .int 0, none⟩,
  /- Bar2Window -/ ⟨0x1510, 0x0, 1, 0, 1, 0x01, 1, .u8, 0, 0, accRwNoNoRw, .int 0, (some ⟨0, 15, 1, []⟩)⟩,
  /- PatternSave -/ ⟨0x1D00, 0x0, 1, 0, 1, 0x01, 1, .bool, 0, 0, accWoWoNoWo, .none, none⟩,
  /- PatternLoadSlot -/ ⟨0x1D00, 0x0, 1, 0, 1, 0x02, 1, .u8, 0, 0, accWoWoNoWo, .none, (some ⟨0, 1, 1, []⟩)⟩,
  /- AutoSave -/ ⟨0x1D00, 0x0, 1, 0, 1, 0x03, 1, .bool, 0, 0, accRwcRwcRoRw, .int 0, none⟩,
  /- EncodeStartPolicy -/ ⟨0x1D00, 0x0, 1, 0, 1, 0x04, 1, .u8, 0, 0, accRwcRwcRoRw, .int 0, (some ⟨0, 1, 1, []⟩)⟩,
  /- EncodeStartWaitS -/ ⟨0x1D00, 0x0, 1, 0, 1, 0x05, 1, .u16, 0, 0, accRwcRwcRoRw, .int 30, (some ⟨0, 3600, 1, []⟩)⟩,
  /- PatternImage -/ ⟨0x1D00, 0x0, 1, 0, 1, 0x06, 1, .octets, 0, 4194304, accRwcNoNoRw, .oct [], none⟩,
  /- DeviceReset -/ ⟨0x1D00, 0x0, 1, 0, 1, 0x07, 1, .bool, 0, 0, accWoNoNoWo, .none, none⟩,
  /- PatternSlot -/ ⟨0x1D01, 0x0, 1, 0, 1, 0x01, 1, .u8, 0, 0, accRoRoRoRo, .int 0xFF, none⟩,
  /- PatternGeneration -/ ⟨0x1D01, 0x0, 1, 0, 1, 0x02, 1, .u32, 0, 0, accRoRoRoRo, .int 0, none⟩,
  /- PatternSchema -/ ⟨0x1D01, 0x0, 1, 0, 1, 0x03, 1, .u16, 0, 0, accRoRoRoRo, .int 0, none⟩,
  /- DefaultCause -/ ⟨0x1D01, 0x0, 1, 0, 1, 0x04, 1, .u8, 0, 0, accRoRoRoRo, .int 0, none⟩,
  /- MigratedFrom -/ ⟨0x1D01, 0x0, 1, 0, 1, 0x05, 1, .u16, 0, 0, accRoRoRoRo, .int 0, none⟩,
  /- MigrationDropped -/ ⟨0x1D01, 0x0, 1, 0, 1, 0x06, 1, .u32, 0, 0, accRoRoRoRo, .int 0, none⟩,
  /- SaveState -/ ⟨0x1D01, 0x0, 1, 0, 1, 0x07, 1, .u8, 0, 0, accRoRoRoRo, .int 0, none⟩,
  /- ResetCause -/ ⟨0x1D01, 0x0, 1, 0, 1, 0x08, 1, .u8, 0, 0, accRoRoRoRo, .int 0, none⟩,
  /- BootQueueDropped -/ ⟨0x1D02, 0x0, 1, 0, 1, 0x01, 9, .u32, 0, 0, accRoRoRoRo, .int 0, none⟩,
  /- BoltReadyUs -/ ⟨0x1D03, 0x0, 1, 0, 1, 0x01, 1, .u32, 0, 0, accRoRoRoRo, .int 0, none⟩,
  /- ConfiguredUs -/ ⟨0x1D03, 0x0, 1, 0, 1, 0x02, 1, .u32, 0, 0, accRoRoRoRo, .int 0, none⟩,
  /- EncodeGateUs -/ ⟨0x1D03, 0x0, 1, 0, 1, 0x03, 1, .u32, 0, 0, accRoRoRoRo, .int 0, none⟩,
  /- HighestSub -/ ⟨0x1E80, 0x0, 1, 0, 1, 0x00, 1, .u8, 0, 0, accRoRoRoRo, .int 8, none⟩,
  /- HoldBits -/ ⟨0x1E80, 0x0, 1, 0, 1, 0x01, 8, .u32, 0, 0, accRwcRwcRoRwc, .int 0, none⟩,
  /- HighestSub -/ ⟨0x1F00, 0x0, 1, 0, 1, 0x00, 1, .u8, 0, 0, accRoRoRoRo, .int 4, none⟩,
  /- CommitTag -/ ⟨0x1F00, 0x0, 1, 0, 1, 0x01, 1, .u32, 0, 0, accRwRwRwRw, .int 0, (some ⟨1, 4294967295, 1, []⟩)⟩]

/-- Object rows of 0x0000–0x1FFF, R50. -/
def rowsSystem2 : List ObjDef := [
  /- Discard -/ ⟨0x1F00, 0x0, 1, 0, 1, 0x02, 1, .bool, 0, 0, accWoWoWoWo, .none, none⟩,
  /- StagedCount -/ ⟨0x1F00, 0x0, 1, 0, 1, 0x03, 1, .u16, 0, 0, accRoRoRoRo, .int 0, none⟩,
  /- StagedBytes -/ ⟨0x1F00, 0x0, 1, 0, 1, 0x04, 1, .u32, 0, 0, accRoRoRoRo, .int 0, none⟩,
  /- HighestSub -/ ⟨0x1F01, 0x0, 1, 0, 1, 0x00, 1, .u8, 0, 0, accRoRoRoRo, .int 7, none⟩,
  /- LastTag -/ ⟨0x1F01, 0x0, 1, 0, 1, 0x01, 1, .u32, 0, 0, accRoRoRoRo, .int 0, none⟩,
  /- State -/ ⟨0x1F01, 0x0, 1, 0, 1, 0x02, 1, .u8, 0, 0, accRoRoRoRo, .int 0, none⟩,
  /- Status -/ ⟨0x1F01, 0x0, 1, 0, 1, 0x03, 1, .u16, 0, 0, accRoRoRoRo, .int 0x0, none⟩,
  /- FailingIndex -/ ⟨0x1F01, 0x0, 1, 0, 1, 0x04, 1, .u16, 0, 0, accRoRoRoRo, .int 0, none⟩,
  /- FailingSub -/ ⟨0x1F01, 0x0, 1, 0, 1, 0x05, 1, .u8, 0, 0, accRoRoRoRo, .int 0, none⟩,
  /- FailingBudget -/ ⟨0x1F01, 0x0, 1, 0, 1, 0x06, 1, .u8, 0, 0, accRoRoRoRo, .int 0, none⟩,
  /- QueuedCommits -/ ⟨0x1F01, 0x0, 1, 0, 1, 0x07, 1, .u8, 0, 0, accRoRoRoRo, .int 0, none⟩]

/-- Object rows of the Reed, R106. -/
def rowsReed0 : List ObjDef := [
  /- SourceType -/ ⟨0x2000, 0x80, 16, 0, 1, 0x01, 1, .u8, 0, 0, accRwcRwcRoRw, .int 0, (some ⟨0, 4, 1, []⟩)⟩,
  /- SdiLinks -/ ⟨0x2000, 0x80, 16, 0, 1, 0x02, 1, .u8, 0, 0, accRwcRwcRoRw, .int 1, (some ⟨1, 0, 1, [1, 2, 4]⟩)⟩,
  /- SdiLanes -/ ⟨0x2000, 0x80, 16, 0, 1, 0x03, 1, .u32, 0, 0, accRwcRwcRoRw, .int 0xFFFFFFFF, none⟩,
  /- SdiMapping -/ ⟨0x2000, 0x80, 16, 0, 1, 0x04, 1, .u8, 0, 0, accRwcRwcRoRw, .int 0, (some ⟨0, 1, 1, []⟩)⟩,
  /- FlowId -/ ⟨0x2000, 0x80, 16, 0, 1, 0x05, 1, .u16, 0, 0, accRwcRwcRoRw, .int 0xFFFF, (some ⟨0, 16383, 1, [65535]⟩)⟩,
  /- FlowIdProtect -/ ⟨0x2000, 0x80, 16, 0, 1, 0x06, 1, .u16, 0, 0, accRwcRwcRoRw, .int 0xFFFF, (some ⟨0, 16383, 1, [65535]⟩)⟩,
  /- WeftQuad -/ ⟨0x2000, 0x80, 16, 0, 1, 0x07, 1, .u8, 0, 0, accRwcRwcRoRw, .int 0xFF, (some ⟨0, 7, 1, [255]⟩)⟩,
  /- Width -/ ⟨0x2000, 0x80, 16, 0, 1, 0x08, 1, .u16, 0, 0, accRwcRwcRoRw, .int 3840, (some ⟨64, 8192, 2, []⟩)⟩,
  /- Height -/ ⟨0x2000, 0x80, 16, 0, 1, 0x09, 1, .u16, 0, 0, accRwcRwcRoRw, .int 2160, (some ⟨64, 4352, 1, []⟩)⟩,
  /- RateNum -/ ⟨0x2000, 0x80, 16, 0, 1, 0x0A, 1, .u32, 0, 0, accRwcRwcRoRw, .int 120, none⟩,
  /- RateDen -/ ⟨0x2000, 0x80, 16, 0, 1, 0x0B, 1, .u32, 0, 0, accRwcRwcRoRw, .int 1, (some ⟨1, 0, 1, [1, 1001]⟩)⟩,
  /- Transfer -/ ⟨0x2000, 0x80, 16, 0, 1, 0x0C, 1, .u8, 0, 0, accRwcRwcRoRw, .int 0, (some ⟨0, 2, 1, []⟩)⟩,
  /- SyncDelayNs -/ ⟨0x2001, 0x80, 16, 0, 1, 0x01, 1, .i64, 0, 0, accRoRoRoRo, .int 0, none⟩,
  /- RepeatCount -/ ⟨0x2001, 0x80, 16, 0, 1, 0x02, 1, .u32, 0, 0, accRoRoRoRo, .int 0, none⟩,
  /- SkipCount -/ ⟨0x2001, 0x80, 16, 0, 1, 0x03, 1, .u32, 0, 0, accRoRoRoRo, .int 0, none⟩,
  /- GapCount -/ ⟨0x2001, 0x80, 16, 0, 1, 0x04, 1, .u32, 0, 0, accRoRoRoRo, .int 0, none⟩,
  /- FreqOffsetPpb -/ ⟨0x2001, 0x80, 16, 0, 1, 0x05, 1, .i32, 0, 0, accRoRoRoRo, .int 0, none⟩,
  /- ActiveLinks -/ ⟨0x2001, 0x80, 16, 0, 1, 0x06, 1, .u8, 0, 0, accRoRoRoRo, .int 0, none⟩,
  /- LastSlipTime -/ ⟨0x2001, 0x80, 16, 0, 1, 0x07, 1, .time80, 0, 0, accRoRoRoRo, .int 0, none⟩,
  /- SyncMarginLines -/ ⟨0x2002, 0x80, 16, 0, 1, 0x01, 1, .u8, 0, 0, accRwcRwcRoRw, .int 8, (some ⟨4, 64, 1, []⟩)⟩,
  /- AlignGroup -/ ⟨0x2002, 0x80, 16, 0, 1, 0x02, 1, .u8, 0, 0, accRwcRwcRoRw, .int 0, (some ⟨0, 8, 1, []⟩)⟩,
  /- LinkLossPolicy -/ ⟨0x2002, 0x80, 16, 0, 1, 0x03, 1, .u8, 0, 0, accRwcRwcRoRw, .int 0, (some ⟨0, 2, 1, []⟩)⟩,
  /- LossHoldPictures -/ ⟨0x2002, 0x80, 16, 0, 1, 0x04, 1, .u16, 0, 0, accRwcRwcRoRw, .int 120, none⟩,
  /- LossColour -/ ⟨0x2002, 0x80, 16, 0, 1, 0x05, 1, .u32, 0, 0, accRwcRwcRoRw, .int 0x4040200, none⟩,
  /- ReadPhaseNs -/ ⟨0x2002, 0x80, 16, 0, 1, 0x06, 1, .u32, 0, 0, accRwcRwcRoRw, .int 0, none⟩,
  /- OutWidth -/ ⟨0x2003, 0x80, 16, 0, 1, 0x01, 1, .u16, 0, 0, accRwcRwcRoRw, .int 0, none⟩,
  /- OutHeight -/ ⟨0x2003, 0x80, 16, 0, 1, 0x02, 1, .u16, 0, 0, accRwcRwcRoRw, .int 0, none⟩,
  /- ScalerFilter -/ ⟨0x2003, 0x80, 16, 0, 1, 0x03, 1, .u8, 0, 0, accRwcRwcRoRw, .int 0, (some ⟨0, 2, 1, []⟩)⟩,
  /- Rotation -/ ⟨0x2003, 0x80, 16, 0, 1, 0x04, 1, .u8, 0, 0, accRwcRwcRoRw, .int 0, (some ⟨0, 3, 1, []⟩)⟩,
  /- SceneCutRatio -/ ⟨0x2004, 0x80, 16, 0, 1, 0x01, 1, .u8, 0, 0, accRwcRwcRoRw, .int 48, (some ⟨17, 255, 1, []⟩)⟩]

/-- Object rows of the Reed, R106, R266. -/
def rowsReed1 : List ObjDef := [
  /- SeamCanvas -/ ⟨0x2005, 0x80, 16, 0, 1, 0x01, 1, .u8, 0, 0, accRwcRwcRoRw, .int 0, (some ⟨0, 8, 1, []⟩)⟩,
  /- BandIndex -/ ⟨0x2005, 0x80, 16, 0, 1, 0x02, 1, .u8, 0, 0, accRwcRwcRoRw, .int 0, (some ⟨0, 15, 1, []⟩)⟩,
  /- BandCount -/ ⟨0x2005, 0x80, 16, 0, 1, 0x03, 1, .u8, 0, 0, accRwcRwcRoRw, .int 1, (some ⟨1, 16, 1, []⟩)⟩,
  /- CanvasX -/ ⟨0x2005, 0x80, 16, 0, 1, 0x04, 1, .u32, 0, 0, accRwcRwcRoRw, .int 0, (some ⟨0, 4294967295, 64, []⟩)⟩,
  /- SourceX -/ ⟨0x2005, 0x80, 16, 0, 1, 0x05, 1, .u32, 0, 0, accRwcRwcRoRw, .int 0, none⟩,
  /- CanvasWidth -/ ⟨0x2005, 0x80, 16, 0, 1, 0x06, 1, .u32, 0, 0, accRwcRwcRoRw, .int 0, (some ⟨0, 131072, 1, []⟩)⟩,
  /- SourceCanvasWidth -/ ⟨0x2005, 0x80, 16, 0, 1, 0x07, 1, .u32, 0, 0, accRwcRwcRoRw, .int 0, none⟩,
  /- LeftPort -/ ⟨0x2005, 0x80, 16, 0, 1, 0x08, 1, .u8, 0, 0, accRwcRwcRoRw, .int 0, (some ⟨0, 2, 1, []⟩)⟩,
  /- RightPort -/ ⟨0x2005, 0x80, 16, 0, 1, 0x09, 1, .u8, 0, 0, accRwcRwcRoRw, .int 0, (some ⟨0, 2, 1, []⟩)⟩,
  /- SeamRefreshOffset -/ ⟨0x2005, 0x80, 16, 0, 1, 0x0A, 1, .u16, 0, 0, accRwcRwcRoRw, .int 0, none⟩,
  /- LeftState -/ ⟨0x2006, 0x80, 16, 0, 1, 0x01, 1, .u8, 0, 0, accRoRoRoRo, .int 0, none⟩,
  /- RightState -/ ⟨0x2006, 0x80, 16, 0, 1, 0x02, 1, .u8, 0, 0, accRoRoRoRo, .int 0, none⟩,
  /- MismatchFlags -/ ⟨0x2006, 0x80, 16, 0, 1, 0x03, 1, .u16, 0, 0, accRoRoRoRo, .int 0, none⟩,
  /- StripLateCount -/ ⟨0x2006, 0x80, 16, 0, 1, 0x04, 1, .u32, 0, 0, accRoRoRoRo, .int 0, none⟩,
  /- StripLostCount -/ ⟨0x2006, 0x80, 16, 0, 1, 0x05, 1, .u32, 0, 0, accRoRoRoRo, .int 0, none⟩,
  /- QpRecordsUsed -/ ⟨0x2006, 0x80, 16, 0, 1, 0x06, 1, .u32, 0, 0, accRoRoRoRo, .int 0, none⟩,
  /- EffectivePeriod -/ ⟨0x2006, 0x80, 16, 0, 1, 0x07, 1, .u16, 0, 0, accRoRoRoRo, .int 0, none⟩,
  /- CanvasBandColumn -/ ⟨0x2006, 0x80, 16, 0, 1, 0x08, 1, .u16, 0, 0, accRoRoRoRo, .int 0xFFFF, none⟩,
  /- LastNeighbourLoss -/ ⟨0x2006, 0x80, 16, 0, 1, 0x09, 1, .time80, 0, 0, accRoRoRoRo, .int 0, none⟩,
  /- GroupMode -/ ⟨0x2F00, 0x0, 1, 0, 1, 0x01, 8, .u8, 0, 0, accRwcRwcRoRw, .int 0, (some ⟨0, 1, 1, []⟩)⟩,
  /- GroupSlipCount -/ ⟨0x2F01, 0x0, 1, 0, 1, 0x01, 8, .u32, 0, 0, accRoRoRoRo, .int 0, none⟩,
  /- LineBufferPositions -/ ⟨0x2F02, 0x0, 1, 0, 1, 0x01, 1, .u32, 0, 0, accConstConstConstConst, .int 49152, none⟩]

/-- Object rows of the Reed, R107, R267. -/
def rowsReedTwill0 : List ObjDef := [
  /- SyncHysteresisLines -/ ⟨0xA002, 0x80, 16, 0, 1, 0x01, 1, .u8, 0, 0, accRwcRwcRoRw, .int 2, (some ⟨0, 16, 1, []⟩)⟩,
  /- HIncrement -/ ⟨0xA003, 0x80, 16, 0, 1, 0x01, 1, .u32, 0, 0, accRwcRwcRoRw, .derived, none⟩,
  /- VIncrement -/ ⟨0xA003, 0x80, 16, 0, 1, 0x02, 1, .u32, 0, 0, accRwcRwcRoRw, .derived, none⟩,
  /- HPhase0 -/ ⟨0xA003, 0x80, 16, 0, 1, 0x03, 1, .i32, 0, 0, accRwcRwcRoRw, .derived, none⟩,
  /- VPhase0 -/ ⟨0xA003, 0x80, 16, 0, 1, 0x04, 1, .i32, 0, 0, accRwcRwcRoRw, .derived, none⟩,
  /- CoefH -/ ⟨0xA003, 0x80, 16, 0, 1, 0x05, 1, .octets, 1024, 1024, accRwcRwcRoRw, .derived, none⟩,
  /- CoefV -/ ⟨0xA003, 0x80, 16, 0, 1, 0x06, 1, .octets, 768, 768, accRwcRwcRoRw, .derived, none⟩,
  /- SeamQpSpread -/ ⟨0xA005, 0x80, 16, 0, 1, 0x01, 1, .u8, 0, 0, accRwcRwcRoRw, .int 3, (some ⟨0, 12, 1, []⟩)⟩,
  /- SeamEdgeQpDelta -/ ⟨0xA005, 0x80, 16, 0, 1, 0x02, 1, .u8, 0, 0, accRwcRwcRoRw, .int 2, (some ⟨0, 12, 1, []⟩)⟩]

/-- Object rows of the Press and the Unpickers, R139, R140. -/
def rowsPress0 : List ObjDef := [
  /- CanvasWidth -/ ⟨0x3000, 0x80, 16, 0, 1, 0x01, 1, .u16, 0, 0, accRwcRwcRoRw, .int 0, (some ⟨64, 8192, 2, [0]⟩)⟩,
  /- CanvasHeight -/ ⟨0x3000, 0x80, 16, 0, 1, 0x02, 1, .u16, 0, 0, accRwcRwcRoRw, .int 0, (some ⟨64, 4352, 1, [0]⟩)⟩,
  /- OutputTransfer -/ ⟨0x3000, 0x80, 16, 0, 1, 0x03, 1, .u8, 0, 0, accRwcRwcRoRw, .int 0, (some ⟨0, 2, 1, []⟩)⟩,
  /- BackgroundColour -/ ⟨0x3000, 0x80, 16, 0, 1, 0x04, 1, .u32, 0, 0, accRwcRwcRoRw, .int 0x4080200, none⟩,
  /- ChannelContexts -/ ⟨0x3001, 0x80, 16, 0, 1, 0x01, 1, .u8, 0, 0, accRoRoRoRo, .int 0, none⟩,
  /- HemAlarmMask -/ ⟨0x3001, 0x80, 16, 0, 1, 0x02, 1, .u16, 0, 0, accRoRoRoRo, .int 0, none⟩,
  /- SafeMask -/ ⟨0x3001, 0x80, 16, 0, 1, 0x03, 1, .u16, 0, 0, accRoRoRoRo, .int 0, none⟩,
  /- Enable -/ ⟨0x3010, 0x80, 16, 1, 16, 0x01, 1, .bool, 0, 0, accRwcRwcRoRw, .int 0, none⟩,
  /- SourceKind -/ ⟨0x3010, 0x80, 16, 1, 16, 0x02, 1, .u8, 0, 0, accRwcRwcRoRw, .int 0, (some ⟨0, 3, 1, []⟩)⟩,
  /- SourceRef -/ ⟨0x3010, 0x80, 16, 1, 16, 0x03, 1, .u8, 0, 0, accRwcRwcRoRw, .int 0, none⟩,
  /- DstX -/ ⟨0x3010, 0x80, 16, 1, 16, 0x04, 1, .i16, 0, 0, accRwcRwcRoRw, .int 0, none⟩,
  /- DstY -/ ⟨0x3010, 0x80, 16, 1, 16, 0x05, 1, .i16, 0, 0, accRwcRwcRoRw, .int 0, none⟩,
  /- SrcX -/ ⟨0x3010, 0x80, 16, 1, 16, 0x06, 1, .u16, 0, 0, accRwcRwcRoRw, .int 0, none⟩,
  /- SrcY -/ ⟨0x3010, 0x80, 16, 1, 16, 0x07, 1, .u16, 0, 0, accRwcRwcRoRw, .int 0, none⟩,
  /- SrcWidth -/ ⟨0x3010, 0x80, 16, 1, 16, 0x08, 1, .u16, 0, 0, accRwcRwcRoRw, .int 0, none⟩,
  /- SrcHeight -/ ⟨0x3010, 0x80, 16, 1, 16, 0x09, 1, .u16, 0, 0, accRwcRwcRoRw, .int 0, none⟩,
  /- LayerAlpha -/ ⟨0x3010, 0x80, 16, 1, 16, 0x0A, 1, .u8, 0, 0, accRwcRwcRoRw, .int 255, none⟩,
  /- NotReadyPolicy -/ ⟨0x3010, 0x80, 16, 1, 16, 0x0B, 1, .u8, 0, 0, accRwcRwcRoRw, .int 0, (some ⟨0, 1, 1, []⟩)⟩,
  /- FallbackColour -/ ⟨0x3010, 0x80, 16, 1, 16, 0x0C, 1, .u32, 0, 0, accRwcRwcRoRw, .int 0x4080200, none⟩,
  /- SolidColour -/ ⟨0x3010, 0x80, 16, 1, 16, 0x0D, 1, .u32, 0, 0, accRwcRwcRoRw, .int 0x4080200, none⟩,
  /- ColourTransform -/ ⟨0x3010, 0x80, 16, 1, 16, 0x0E, 1, .u8, 0, 0, accRwcRwcRoRw, .int 0, (some ⟨0, 1, 1, []⟩)⟩,
  /- ConcealPolicy -/ ⟨0x3010, 0x80, 16, 1, 16, 0x0F, 1, .u8, 0, 0, accRwcRwcRoRw, .int 0, (some ⟨0, 1, 1, []⟩)⟩,
  /- SurfaceFormat -/ ⟨0x3010, 0x80, 16, 1, 16, 0x10, 1, .u8, 0, 0, accRwcRwcRoRw, .int 2, (some ⟨0, 2, 1, []⟩)⟩,
  /- SurfaceSpace -/ ⟨0x3010, 0x80, 16, 1, 16, 0x11, 1, .u8, 0, 0, accRwcRwcRoRw, .int 0, (some ⟨0, 2, 1, []⟩)⟩,
  /- SurfaceBase -/ ⟨0x3010, 0x80, 16, 1, 16, 0x12, 1, .u64, 0, 0, accRwcRwcRoRw, .int 0, (some ⟨0, 18446744073709551615, 256, []⟩)⟩,
  /- BufferStride -/ ⟨0x3010, 0x80, 16, 1, 16, 0x13, 1, .u32, 0, 0, accRwcRwcRoRw, .int 0, (some ⟨0, 4294967295, 256, []⟩)⟩,
  /- Buffers -/ ⟨0x3010, 0x80, 16, 1, 16, 0x14, 1, .u8, 0, 0, accRwcRwcRoRw, .int 2, (some ⟨1, 3, 1, []⟩)⟩,
  /- Pitch -/ ⟨0x3010, 0x80, 16, 1, 16, 0x15, 1, .u32, 0, 0, accRwcRwcRoRw, .int 0, (some ⟨0, 4294967295, 256, []⟩)⟩,
  /- SurfaceWidth -/ ⟨0x3010, 0x80, 16, 1, 16, 0x16, 1, .u16, 0, 0, accRwcRwcRoRw, .int 0, (some ⟨0, 8192, 1, []⟩)⟩,
  /- SurfaceHeight -/ ⟨0x3010, 0x80, 16, 1, 16, 0x17, 1, .u16, 0, 0, accRwcRwcRoRw, .int 0, (some ⟨0, 4352, 1, []⟩)⟩]

/-- Object rows of the Press and the Unpickers, R139, R140, R141. -/
def rowsPress1 : List ObjDef := [
  /- MaxBytes -/ ⟨0x3010, 0x80, 16, 1, 16, 0x18, 1, .u32, 0, 0, accRwcRwcRoRw, .int 0, none⟩,
  /- UpdateEvery -/ ⟨0x3010, 0x80, 16, 1, 16, 0x19, 1, .u8, 0, 0, accRwcRwcRoRw, .int 0, (some ⟨0, 8, 1, []⟩)⟩,
  /- HemEnable -/ ⟨0x3020, 0x80, 16, 1, 16, 0x01, 1, .bool, 0, 0, accRwcRwcRoRw, .int 0, none⟩,
  /- X -/ ⟨0x3020, 0x80, 16, 1, 16, 0x02, 1, .u16, 0, 0, accRwcRwcRoRw, .int 0, none⟩,
  /- Y -/ ⟨0x3020, 0x80, 16, 1, 16, 0x03, 1, .u16, 0, 0, accRwcRwcRoRw, .int 0, none⟩,
  /- Width -/ ⟨0x3020, 0x80, 16, 1, 16, 0x04, 1, .u16, 0, 0, accRwcRwcRoRw, .int 8, none⟩,
  /- Height -/ ⟨0x3020, 0x80, 16, 1, 16, 0x05, 1, .u16, 0, 0, accRwcRwcRoRw, .int 8, none⟩,
  /- Lossless -/ ⟨0x3020, 0x80, 16, 1, 16, 0x06, 1, .bool, 0, 0, accRwcRwcRoRw, .int 0, none⟩,
  /- Publish -/ ⟨0x3020, 0x80, 16, 1, 16, 0x07, 1, .bool, 0, 0, accRwcRwcRoRw, .int 1, none⟩,
  /- Compare -/ ⟨0x3020, 0x80, 16, 1, 16, 0x08, 1, .bool, 0, 0, accRwcRwcRoRw, .int 1, none⟩,
  /- Expected -/ ⟨0x3020, 0x80, 16, 1, 16, 0x09, 1, .u64, 0, 0, accRwcRwcRoRw, .int 0, none⟩,
  /- LayerRef -/ ⟨0x3020, 0x80, 16, 1, 16, 0x0A, 1, .u8, 0, 0, accRwcRwcRoRw, .int 0xFF, (some ⟨0, 15, 1, [255]⟩)⟩,
  /- Policy -/ ⟨0x3020, 0x80, 16, 1, 16, 0x0B, 1, .u8, 0, 0, accRwcRwcRoRw, .int 0, (some ⟨0, 1, 1, []⟩)⟩,
  /- SafeBase -/ ⟨0x3020, 0x80, 16, 1, 16, 0x0C, 1, .u64, 0, 0, accRwcRwcRoRw, .int 0, none⟩,
  /- SafeSignature -/ ⟨0x3020, 0x80, 16, 1, 16, 0x0D, 1, .u64, 0, 0, accRwcRwcRoRw, .int 0, none⟩,
  /- ReturnMatches -/ ⟨0x3020, 0x80, 16, 1, 16, 0x0E, 1, .u8, 0, 0, accRwcRwcRoRw, .int 2, (some ⟨1, 255, 1, []⟩)⟩,
  /- State -/ ⟨0x3030, 0x80, 16, 1, 16, 0x01, 1, .u8, 0, 0, accRoRoRoRo, .int 0, none⟩,
  /- RepeatCount -/ ⟨0x3030, 0x80, 16, 1, 16, 0x02, 1, .u32, 0, 0, accRoRoRoRo, .int 0, none⟩,
  /- HoldOffCount -/ ⟨0x3030, 0x80, 16, 1, 16, 0x03, 1, .u32, 0, 0, accRoRoRoRo, .int 0, none⟩,
  /- ConcealCount -/ ⟨0x3030, 0x80, 16, 1, 16, 0x04, 1, .u32, 0, 0, accRoRoRoRo, .int 0, none⟩,
  /- FaultCount -/ ⟨0x3030, 0x80, 16, 1, 16, 0x05, 1, .u32, 0, 0, accRoRoRoRo, .int 0, none⟩,
  /- ShownBuffer -/ ⟨0x3030, 0x80, 16, 1, 16, 0x06, 1, .u8, 0, 0, accRoRoRoRo, .int 0xFF, none⟩,
  /- HemState -/ ⟨0x3040, 0x80, 16, 1, 16, 0x01, 1, .u8, 0, 0, accRoRoRoRo, .int 0, none⟩,
  /- LastSignature -/ ⟨0x3040, 0x80, 16, 1, 16, 0x02, 1, .u64, 0, 0, accRoRoRoRo, .int 0, none⟩,
  /- LiveSignature -/ ⟨0x3040, 0x80, 16, 1, 16, 0x03, 1, .u64, 0, 0, accRoRoRoRo, .int 0, none⟩,
  /- MismatchCount -/ ⟨0x3040, 0x80, 16, 1, 16, 0x04, 1, .u32, 0, 0, accRoRoRoRo, .int 0, none⟩,
  /- NotReadyCount -/ ⟨0x3040, 0x80, 16, 1, 16, 0x05, 1, .u32, 0, 0, accRoRoRoRo, .int 0, none⟩,
  /- ContextsUsed -/ ⟨0x3F00, 0x0, 1, 0, 1, 0x01, 1, .u8, 0, 0, accRoRoRoRo, .int 0, none⟩,
  /- LutSlot -/ ⟨0x3F01, 0x0, 1, 0, 1, 0x01, 8, .u8, 0, 0, accRoRoRoRo, .int 0xFF, none⟩,
  /- Enable -/ ⟨0x3F80, 0x1, 2, 0, 1, 0x01, 1, .bool, 0, 0, accRwcRwcRoRw, .int 0, none⟩]

/-- Object rows of the Press and the Unpickers, R141. -/
def rowsPress2 : List ObjDef := [
  /- Codec -/ ⟨0x3F80, 0x1, 2, 0, 1, 0x02, 1, .u8, 0, 0, accRwcRwcRoRw, .int 0, (some ⟨0, 1, 1, []⟩)⟩,
  /- ClipBase -/ ⟨0x3F80, 0x1, 2, 0, 1, 0x03, 1, .u64, 0, 0, accRwcRwcRoRw, .int 0, none⟩,
  /- ClipBytes -/ ⟨0x3F80, 0x1, 2, 0, 1, 0x04, 1, .u32, 0, 0, accRwcRwcRoRw, .int 0, none⟩,
  /- Loop -/ ⟨0x3F80, 0x1, 2, 0, 1, 0x05, 1, .bool, 0, 0, accRwcRwcRoRw, .int 1, none⟩,
  /- RateDivider -/ ⟨0x3F80, 0x1, 2, 0, 1, 0x06, 1, .u8, 0, 0, accRwcRwcRoRw, .int 1, (some ⟨1, 8, 1, []⟩)⟩,
  /- ClipSpace -/ ⟨0x3F80, 0x1, 2, 0, 1, 0x07, 1, .u8, 0, 0, accRwcRwcRoRw, .int 0, (some ⟨0, 2, 1, []⟩)⟩,
  /- MasterChannel -/ ⟨0x3F80, 0x1, 2, 0, 1, 0x08, 1, .u8, 0, 0, accRwcRwcRoRw, .int 0, (some ⟨0, 15, 1, []⟩)⟩,
  /- UnpickerState -/ ⟨0x3F90, 0x1, 2, 0, 1, 0x01, 1, .u8, 0, 0, accRoRoRoRo, .int 0, none⟩,
  /- DecodedCount -/ ⟨0x3F90, 0x1, 2, 0, 1, 0x02, 1, .u32, 0, 0, accRoRoRoRo, .int 0, none⟩,
  /- ConcealCount -/ ⟨0x3F90, 0x1, 2, 0, 1, 0x03, 1, .u32, 0, 0, accRoRoRoRo, .int 0, none⟩,
  /- ClipWidth -/ ⟨0x3F90, 0x1, 2, 0, 1, 0x04, 1, .u16, 0, 0, accRoRoRoRo, .int 0, none⟩,
  /- ClipHeight -/ ⟨0x3F90, 0x1, 2, 0, 1, 0x05, 1, .u16, 0, 0, accRoRoRoRo, .int 0, none⟩]

/-- Object rows of the Press and the Unpickers, R142. -/
def rowsPressTwill0 : List ObjDef := [
  /- PreCurve -/ ⟨0xB010, 0x80, 16, 1, 16, 0x01, 1, .octets, 1542, 1542, accRwcRwcRoRw, .derived, none⟩,
  /- Matrix -/ ⟨0xB010, 0x80, 16, 1, 16, 0x02, 1, .octets, 18, 18, accRwcRwcRoRw, .derived, none⟩,
  /- Offset -/ ⟨0xB010, 0x80, 16, 1, 16, 0x03, 1, .octets, 6, 6, accRwcRwcRoRw, .derived, none⟩,
  /- PostCurve -/ ⟨0xB010, 0x80, 16, 1, 16, 0x04, 1, .octets, 1542, 1542, accRwcRwcRoRw, .derived, none⟩,
  /- LutSlotSelect -/ ⟨0xB010, 0x80, 16, 1, 16, 0x05, 1, .u8, 0, 0, accRwcRwcRoRw, .int 0xFF, (some ⟨0, 7, 1, [255]⟩)⟩,
  /- LutData -/ ⟨0xBF01, 0x0, 1, 0, 1, 0x01, 8, .octets, 215622, 215622, accRwcRwcRoRw, .derived, none⟩]

/-- Object rows of the Loom, rate, darning and stream objects, R181, R182, R214, R215. -/
def rowsLoom0 : List ObjDef := [
  /- EncodeEnable -/ ⟨0x4000, 0x80, 16, 0, 1, 0x01, 1, .bool, 0, 0, accRwcRwcRoRw, .int 0, none⟩,
  /- Codec -/ ⟨0x4000, 0x80, 16, 0, 1, 0x02, 1, .u8, 0, 0, accRwcRwcRoRw, .int 1, (some ⟨0, 1, 1, []⟩)⟩,
  /- ChromaFormat -/ ⟨0x4000, 0x80, 16, 0, 1, 0x03, 1, .u8, 0, 0, accRwcRwcRoRw, .int 1, (some ⟨0, 1, 1, []⟩)⟩,
  /- PictureHash -/ ⟨0x4000, 0x80, 16, 0, 1, 0x04, 1, .u8, 0, 0, accRwcRwcRoRw, .int 0, (some ⟨0, 3, 1, []⟩)⟩,
  /- MaxEffort -/ ⟨0x4001, 0x80, 16, 0, 1, 0x01, 1, .u8, 0, 0, accRwcRwcRoRw, .int 7, (some ⟨0, 7, 1, []⟩)⟩,
  /- AssignedLooms -/ ⟨0x4002, 0x80, 16, 0, 1, 0x01, 1, .u16, 0, 0, accRoRoRoRo, .int 0, none⟩,
  /- ProfileIdc -/ ⟨0x4002, 0x80, 16, 0, 1, 0x02, 1, .u8, 0, 0, accRoRoRoRo, .int 0, none⟩,
  /- LevelIdc -/ ⟨0x4002, 0x80, 16, 0, 1, 0x03, 1, .u8, 0, 0, accRoRoRoRo, .int 0, none⟩,
  /- Tier -/ ⟨0x4002, 0x80, 16, 0, 1, 0x04, 1, .u8, 0, 0, accRoRoRoRo, .int 0, none⟩,
  /- CodedWidth -/ ⟨0x4002, 0x80, 16, 0, 1, 0x05, 1, .u16, 0, 0, accRoRoRoRo, .int 0, none⟩,
  /- CodedHeight -/ ⟨0x4002, 0x80, 16, 0, 1, 0x06, 1, .u16, 0, 0, accRoRoRoRo, .int 0, none⟩,
  /- PicturesCoded -/ ⟨0x4002, 0x80, 16, 0, 1, 0x07, 1, .u32, 0, 0, accRoRoRoRo, .int 0, none⟩,
  /- HoldRowCount -/ ⟨0x4002, 0x80, 16, 0, 1, 0x08, 1, .u32, 0, 0, accRoRoRoRo, .int 0, none⟩,
  /- BrokenRowCount -/ ⟨0x4002, 0x80, 16, 0, 1, 0x09, 1, .u32, 0, 0, accRoRoRoRo, .int 0, none⟩,
  /- LosslessCtus -/ ⟨0x4002, 0x80, 16, 0, 1, 0x0A, 1, .u16, 0, 0, accRoRoRoRo, .int 0, none⟩,
  /- Bitrate -/ ⟨0x4010, 0x80, 16, 0, 1, 0x01, 1, .u32, 0, 0, accRwcRwcRoRw, .int 200000000, (some ⟨10000000, 2400000000, 1, []⟩)⟩,
  /- SlotFactor -/ ⟨0x4010, 0x80, 16, 0, 1, 0x02, 1, .u8, 0, 0, accRwcRwcRoRw, .int 24, (some ⟨17, 128, 1, []⟩)⟩,
  /- Bundle -/ ⟨0x4010, 0x80, 16, 0, 1, 0x03, 1, .u8, 0, 0, accRwcRwcRoRw, .int 0, (some ⟨0, 8, 1, []⟩)⟩,
  /- MinLatencyRows -/ ⟨0x4012, 0x80, 16, 0, 1, 0x01, 1, .u8, 0, 0, accRoRoRoRo, .int 2, none⟩,
  /- LatencyNs -/ ⟨0x4012, 0x80, 16, 0, 1, 0x02, 1, .u32, 0, 0, accRoRoRoRo, .int 0, none⟩,
  /- LatencyRows -/ ⟨0x4012, 0x80, 16, 0, 1, 0x03, 1, .u8, 0, 0, accRwcRwcRoRw, .int 4, (some ⟨2, 16, 1, []⟩)⟩,
  /- LatencyRowsInForce -/ ⟨0x4012, 0x80, 16, 0, 1, 0x04, 1, .u8, 0, 0, accRoRoRoRo, .int 0, none⟩,
  /- RowIntervalNs -/ ⟨0x4014, 0x80, 16, 0, 1, 0x01, 1, .u32, 0, 0, accRoRoRoRo, .int 0, none⟩,
  /- SlotPhases -/ ⟨0x4014, 0x80, 16, 0, 1, 0x02, 1, .u8, 0, 0, accRoRoRoRo, .int 0, none⟩,
  /- SlotRateKbps -/ ⟨0x4014, 0x80, 16, 0, 1, 0x03, 1, .u32, 0, 0, accRoRoRoRo, .int 0, none⟩,
  /- PhaseLagNs -/ ⟨0x4014, 0x80, 16, 0, 1, 0x04, 1, .u32, 0, 0, accRoRoRoRo, .int 0, none⟩,
  /- RowCapacityBits -/ ⟨0x4014, 0x80, 16, 0, 1, 0x05, 1, .u32, 0, 0, accRoRoRoRo, .int 0, none⟩,
  /- PictureFloorBits -/ ⟨0x4014, 0x80, 16, 0, 1, 0x06, 1, .u32, 0, 0, accRoRoRoRo, .int 0, none⟩,
  /- LastPictureBits -/ ⟨0x4014, 0x80, 16, 0, 1, 0x07, 1, .u32, 0, 0, accRoRoRoRo, .int 0, none⟩,
  /- MeanQp -/ ⟨0x4014, 0x80, 16, 0, 1, 0x08, 1, .i8, 0, 0, accRoRoRoRo, .int 0, none⟩]

/-- Object rows of the Loom, rate, darning and stream objects, R215, R242, R243, R299. -/
def rowsLoom1 : List ObjDef := [
  /- CarryBits -/ ⟨0x4014, 0x80, 16, 0, 1, 0x09, 1, .u32, 0, 0, accRoRoRoRo, .int 0, none⟩,
  /- FloorRowCount -/ ⟨0x4014, 0x80, 16, 0, 1, 0x0A, 1, .u32, 0, 0, accRoRoRoRo, .int 0, none⟩,
  /- FloorCtuCount -/ ⟨0x4014, 0x80, 16, 0, 1, 0x0B, 1, .u32, 0, 0, accRoRoRoRo, .int 0, none⟩,
  /- PostponedColumns -/ ⟨0x4014, 0x80, 16, 0, 1, 0x0C, 1, .u32, 0, 0, accRoRoRoRo, .int 0, none⟩,
  /- LatencyBreachCount -/ ⟨0x4014, 0x80, 16, 0, 1, 0x0D, 1, .u32, 0, 0, accRoRoRoRo, .int 0, none⟩,
  /- LastBreachCause -/ ⟨0x4014, 0x80, 16, 0, 1, 0x0E, 1, .u8, 0, 0, accRoRoRoRo, .int 0, none⟩,
  /- LastBreachTime -/ ⟨0x4014, 0x80, 16, 0, 1, 0x0F, 1, .time80, 0, 0, accRoRoRoRo, .int 0, none⟩,
  /- RefreshPeriod -/ ⟨0x4020, 0x80, 16, 0, 1, 0x01, 1, .u16, 0, 0, accRwcRwcRoRw, .int 0, none⟩,
  /- BandColumns -/ ⟨0x4020, 0x80, 16, 0, 1, 0x02, 1, .u8, 0, 0, accRwcRwcRoRw, .int 2, (some ⟨1, 8, 1, []⟩)⟩,
  /- DarnSources -/ ⟨0x4020, 0x80, 16, 0, 1, 0x03, 1, .u8, 0, 0, accRwcRwcRoRw, .int 0xF, (some ⟨0, 15, 1, []⟩)⟩,
  /- DarnRequest -/ ⟨0x4020, 0x80, 16, 0, 1, 0x04, 1, .bool, 0, 0, accWoWoWoWo, .none, none⟩,
  /- SweepState -/ ⟨0x4021, 0x80, 16, 0, 1, 0x01, 1, .u8, 0, 0, accRoRoRoRo, .int 0, none⟩,
  /- BandColumn -/ ⟨0x4021, 0x80, 16, 0, 1, 0x02, 1, .u8, 0, 0, accRoRoRoRo, .int 0xFF, none⟩,
  /- RecoveryCount -/ ⟨0x4021, 0x80, 16, 0, 1, 0x03, 1, .u8, 0, 0, accRoRoRoRo, .int 0, none⟩,
  /- PostponedThisSweep -/ ⟨0x4021, 0x80, 16, 0, 1, 0x04, 1, .u8, 0, 0, accRoRoRoRo, .int 0, none⟩,
  /- RefreshFlags -/ ⟨0x4021, 0x80, 16, 0, 1, 0x05, 1, .u8, 0, 0, accRoRoRoRo, .int 0, none⟩,
  /- LastTrigger -/ ⟨0x4021, 0x80, 16, 0, 1, 0x06, 1, .u8, 0, 0, accRoRoRoRo, .int 0, none⟩,
  /- SweepStartTime -/ ⟨0x4021, 0x80, 16, 0, 1, 0x07, 1, .time80, 0, 0, accRoRoRoRo, .int 0, none⟩,
  /- SweepsCompleted -/ ⟨0x4021, 0x80, 16, 0, 1, 0x08, 1, .u32, 0, 0, accRoRoRoRo, .int 0, none⟩,
  /- SweepsSpoiled -/ ⟨0x4021, 0x80, 16, 0, 1, 0x09, 1, .u32, 0, 0, accRoRoRoRo, .int 0, none⟩,
  /- DarnRequests -/ ⟨0x4021, 0x80, 16, 0, 1, 0x0A, 1, .u32, 0, 0, accRoRoRoRo, .int 0, none⟩,
  /- DarnCoalesced -/ ⟨0x4021, 0x80, 16, 0, 1, 0x0B, 1, .u32, 0, 0, accRoRoRoRo, .int 0, none⟩,
  /- DarnRefused -/ ⟨0x4021, 0x80, 16, 0, 1, 0x0C, 1, .u32, 0, 0, accRoRoRoRo, .int 0, none⟩,
  /- StreamFormat -/ ⟨0x4030, 0x80, 16, 0, 1, 0x01, 1, .u8, 0, 0, accRwcRwcRoRw, .int 0, (some ⟨0, 1, 1, []⟩)⟩,
  /- PortA -/ ⟨0x4030, 0x80, 16, 0, 1, 0x02, 1, .u8, 0, 0, accRwcRwcRoRw, .int 0xFF, (some ⟨0, 7, 1, [255]⟩)⟩,
  /- PortB -/ ⟨0x4030, 0x80, 16, 0, 1, 0x03, 1, .u8, 0, 0, accRwcRwcRoRw, .int 0xFF, (some ⟨0, 7, 1, [255]⟩)⟩,
  /- DestAddressA -/ ⟨0x4030, 0x80, 16, 0, 1, 0x04, 1, .octets, 16, 16, accRwcRwcRoRw, .oct (List.replicate 16 0), none⟩,
  /- DestAddressB -/ ⟨0x4030, 0x80, 16, 0, 1, 0x05, 1, .octets, 16, 16, accRwcRwcRoRw, .oct (List.replicate 16 0), none⟩,
  /- DestUdpPort -/ ⟨0x4030, 0x80, 16, 0, 1, 0x06, 1, .u16, 0, 0, accRwcRwcRoRw, .perIdx 20000 32, (some ⟨0, 65535, 2, []⟩)⟩,
  /- SourceUdpPort -/ ⟨0x4030, 0x80, 16, 0, 1, 0x07, 1, .u16, 0, 0, accRwcRwcRoRw, .perIdx 20000 32, (some ⟨0, 65535, 2, []⟩)⟩]

/-- Object rows of the Loom, rate, darning and stream objects, R184, R214, R215, R242, R243, R299. -/
def rowsLoom2 : List ObjDef := [
  /- SsrcBase -/ ⟨0x4030, 0x80, 16, 0, 1, 0x08, 1, .u32, 0, 0, accRwcRwcRoRw, .derived, none⟩,
  /- PayloadType -/ ⟨0x4030, 0x80, 16, 0, 1, 0x09, 1, .u8, 0, 0, accRwcRwcRoRw, .int 96, (some ⟨96, 127, 1, [33]⟩)⟩,
  /- RtcpIntervalMs -/ ⟨0x4030, 0x80, 16, 0, 1, 0x0A, 1, .u16, 0, 0, accRwcRwcRoRw, .int 1000, none⟩,
  /- RowExtId -/ ⟨0x4030, 0x80, 16, 0, 1, 0x0B, 1, .u8, 0, 0, accRwcRwcRoRw, .int 1, (some ⟨1, 14, 1, []⟩)⟩,
  /- PliCount -/ ⟨0x4031, 0x80, 16, 0, 1, 0x01, 1, .u32, 0, 0, accRoRoRoRo, .int 0, none⟩,
  /- FirCount -/ ⟨0x4031, 0x80, 16, 0, 1, 0x02, 1, .u32, 0, 0, accRoRoRoRo, .int 0, none⟩,
  /- RtcpIgnored -/ ⟨0x4031, 0x80, 16, 0, 1, 0x03, 1, .u32, 0, 0, accRoRoRoRo, .int 0, none⟩,
  /- RtcpPoliced -/ ⟨0x4031, 0x80, 16, 0, 1, 0x04, 1, .u32, 0, 0, accRoRoRoRo, .int 0, none⟩,
  /- SparePolicy -/ ⟨0x4F00, 0x0, 1, 0, 1, 0x01, 1, .u8, 0, 0, accRwcRwcRoRw, .int 1, (some ⟨0, 1, 1, []⟩)⟩,
  /- LoomsInService -/ ⟨0x4F00, 0x0, 1, 0, 1, 0x02, 1, .u16, 0, 0, accRoRoRoRo, .int 0, none⟩,
  /- LoomsFrozen -/ ⟨0x4F00, 0x0, 1, 0, 1, 0x03, 1, .u16, 0, 0, accRoRoRoRo, .int 0, none⟩,
  /- LoomsQuarantined -/ ⟨0x4F00, 0x0, 1, 0, 1, 0x04, 1, .u16, 0, 0, accRoRoRoRo, .int 0, none⟩,
  /- ActiveLumaRate -/ ⟨0x4F00, 0x0, 1, 0, 1, 0x05, 1, .u32, 0, 0, accRoRoRoRo, .int 0, none⟩,
  /- LoomState -/ ⟨0x4F01, 0x0, 1, 0, 1, 0x01, 16, .u8, 0, 0, accRoRoRoRo, .int 0, none⟩,
  /- LoomChannels -/ ⟨0x4F02, 0x0, 1, 0, 1, 0x01, 16, .u16, 0, 0, accRoRoRoRo, .int 0xFFFF, none⟩,
  /- LoomEffort -/ ⟨0x4F03, 0x0, 1, 0, 1, 0x01, 16, .u8, 0, 0, accRoRoRoRo, .int 0, none⟩,
  /- LoomCodedLoad -/ ⟨0x4F04, 0x0, 1, 0, 1, 0x01, 16, .u16, 0, 0, accRoRoRoRo, .int 0, none⟩,
  /- BundleMinPercent -/ ⟨0x4F40, 0x0, 1, 0, 1, 0x01, 8, .u8, 0, 0, accRwcRwcRoRw, .int 50, (some ⟨0, 100, 1, []⟩)⟩,
  /- BundlePoolBits -/ ⟨0x4F41, 0x0, 1, 0, 1, 0x01, 8, .u32, 0, 0, accRoRoRoRo, .int 0, none⟩,
  /- StagingFloorBytes -/ ⟨0x4F42, 0x0, 1, 0, 1, 0x01, 1, .u32, 0, 0, accRoRoRoRo, .int 0, none⟩,
  /- StagingPeakBytes -/ ⟨0x4F42, 0x0, 1, 0, 1, 0x02, 1, .u32, 0, 0, accRoRoRoRo, .int 0, none⟩,
  /- StagingCapacity -/ ⟨0x4F42, 0x0, 1, 0, 1, 0x03, 1, .u32, 0, 0, accConstConstConstConst, .int 1966080, none⟩,
  /- StaggerLimit -/ ⟨0x4F50, 0x0, 1, 0, 1, 0x01, 1, .u8, 0, 0, accRwcRwcRoRw, .int 0, (some ⟨0, 16, 1, []⟩)⟩,
  /- QualifyMask -/ ⟨0x4F58, 0x0, 1, 0, 1, 0x01, 1, .u16, 0, 0, accRwRwRoRw, .int 0, none⟩,
  /- QualResult -/ ⟨0x4F59, 0x0, 1, 0, 1, 0x01, 16, .u8, 0, 0, accRoRoRoRo, .int 0, none⟩,
  /- QualFailCount -/ ⟨0x4F5A, 0x0, 1, 0, 1, 0x01, 16, .u16, 0, 0, accRoRoRoRo, .int 0, none⟩,
  /- QualTime -/ ⟨0x4F5B, 0x0, 1, 0, 1, 0x01, 16, .time80, 0, 0, accRoRoRoRo, .int 0, none⟩]

/-- Object rows of the Loom, rate, darning and stream objects, R183, R216, R244. -/
def rowsLoomTwill0 : List ObjDef := [
  /- LoomMask -/ ⟨0xC000, 0x80, 16, 0, 1, 0x01, 1, .u16, 0, 0, accRwcRwcRoRw, .int 0, none⟩,
  /- SearchRangeX -/ ⟨0xC001, 0x80, 16, 0, 1, 0x01, 1, .u16, 0, 0, accRwcRwcRoRw, .int 256, (some ⟨16, 256, 16, []⟩)⟩,
  /- SearchRangeY -/ ⟨0xC001, 0x80, 16, 0, 1, 0x02, 1, .u16, 0, 0, accRwcRwcRoRw, .int 128, (some ⟨16, 128, 16, []⟩)⟩,
  /- MaxRefs -/ ⟨0xC001, 0x80, 16, 0, 1, 0x03, 1, .u8, 0, 0, accRwcRwcRoRw, .int 2, (some ⟨1, 2, 1, []⟩)⟩,
  /- MaxMttDepth -/ ⟨0xC001, 0x80, 16, 0, 1, 0x04, 1, .u8, 0, 0, accRwcRwcRoRw, .int 3, (some ⟨0, 3, 1, []⟩)⟩,
  /- BetaOffsetDiv2 -/ ⟨0xC001, 0x80, 16, 0, 1, 0x05, 1, .i8, 0, 0, accRwcRwcRoRw, .int 0, (some ⟨(-6), 6, 1, []⟩)⟩,
  /- TcOffsetDiv2 -/ ⟨0xC001, 0x80, 16, 0, 1, 0x06, 1, .i8, 0, 0, accRwcRwcRoRw, .int 0, (some ⟨(-6), 6, 1, []⟩)⟩,
  /- SaoEnable -/ ⟨0xC001, 0x80, 16, 0, 1, 0x07, 1, .bool, 0, 0, accRwcRwcRoRw, .int 1, none⟩,
  /- AlfEnable -/ ⟨0xC001, 0x80, 16, 0, 1, 0x08, 1, .bool, 0, 0, accRwcRwcRoRw, .int 1, none⟩,
  /- MtsEnable -/ ⟨0xC001, 0x80, 16, 0, 1, 0x09, 1, .bool, 0, 0, accRwcRwcRoRw, .int 1, none⟩,
  /- DepQuantEnable -/ ⟨0xC001, 0x80, 16, 0, 1, 0x0A, 1, .bool, 0, 0, accRwcRwcRoRw, .int 1, none⟩,
  /- LossyTransformSkip -/ ⟨0xC001, 0x80, 16, 0, 1, 0x0B, 1, .bool, 0, 0, accRwcRwcRoRw, .int 1, none⟩,
  /- QpMin -/ ⟨0xC010, 0x80, 16, 0, 1, 0x01, 1, .i8, 0, 0, accRwcRwcRoRw, .int (-12), (some ⟨(-12), 63, 1, []⟩)⟩,
  /- QpMax -/ ⟨0xC010, 0x80, 16, 0, 1, 0x02, 1, .i8, 0, 0, accRwcRwcRoRw, .int 63, (some ⟨(-12), 63, 1, []⟩)⟩,
  /- QpStep -/ ⟨0xC010, 0x80, 16, 0, 1, 0x03, 1, .u8, 0, 0, accRwcRwcRoRw, .int 3, (some ⟨1, 12, 1, []⟩)⟩,
  /- QpSpread -/ ⟨0xC010, 0x80, 16, 0, 1, 0x04, 1, .u8, 0, 0, accRwcRwcRoRw, .int 8, (some ⟨0, 24, 1, []⟩)⟩,
  /- AqStrength -/ ⟨0xC010, 0x80, 16, 0, 1, 0x05, 1, .u8, 0, 0, accRwcRwcRoRw, .int 2, (some ⟨0, 4, 1, []⟩)⟩,
  /- BorrowEighths -/ ⟨0xC010, 0x80, 16, 0, 1, 0x06, 1, .u8, 0, 0, accRwcRwcRoRw, .int 16, (some ⟨8, 64, 1, []⟩)⟩,
  /- CarryPercent -/ ⟨0xC010, 0x80, 16, 0, 1, 0x07, 1, .u8, 0, 0, accRwcRwcRoRw, .int 25, (some ⟨0, 100, 1, []⟩)⟩,
  /- PostponeSlack -/ ⟨0xC020, 0x80, 16, 0, 1, 0x01, 1, .u8, 0, 0, accRwcRwcRoRw, .int 4, (some ⟨0, 15, 1, []⟩)⟩,
  /- StartOffset -/ ⟨0xC020, 0x80, 16, 0, 1, 0x02, 1, .u16, 0, 0, accRwcRwcRoRw, .int 0xFFFF, none⟩]

/-- Object rows of the ports and the flow window, R296, R297, R300. -/
def rowsMangle0 : List ObjDef := [
  /- PortEnable -/ ⟨0x5000, 0x100, 8, 0, 1, 0x01, 1, .bool, 0, 0, accRwcRwcRoRw, .int 0, none⟩,
  /- MacAddress -/ ⟨0x5000, 0x100, 8, 0, 1, 0x02, 1, .octets, 6, 6, accRwcRwcRoRw, .derived, none⟩,
  /- VlanId -/ ⟨0x5000, 0x100, 8, 0, 1, 0x03, 1, .u16, 0, 0, accRwcRwcRoRw, .int 0, (some ⟨0, 4094, 1, []⟩)⟩,
  /- Ipv4Address -/ ⟨0x5000, 0x100, 8, 0, 1, 0x04, 1, .u32, 0, 0, accRwcRwcRoRw, .int 0, none⟩,
  /- Ipv4PrefixLength -/ ⟨0x5000, 0x100, 8, 0, 1, 0x05, 1, .u8, 0, 0, accRwcRwcRoRw, .int 24, (some ⟨1, 31, 1, []⟩)⟩,
  /- Ipv4Gateway -/ ⟨0x5000, 0x100, 8, 0, 1, 0x06, 1, .u32, 0, 0, accRwcRwcRoRw, .int 0, none⟩,
  /- Ipv6Address -/ ⟨0x5000, 0x100, 8, 0, 1, 0x07, 1, .octets, 16, 16, accRwcRwcRoRw, .derived, none⟩,
  /- MaxIpBytes -/ ⟨0x5000, 0x100, 8, 0, 1, 0x08, 1, .u16, 0, 0, accRwcRwcRoRw, .int 1500, (some ⟨1280, 9000, 1, []⟩)⟩,
  /- ControlFramesPerSecond -/ ⟨0x5000, 0x100, 8, 0, 1, 0x09, 1, .u32, 0, 0, accRwcRwcRoRw, .int 200000, (some ⟨20000, 1000000, 1, []⟩)⟩,
  /- CycleNs -/ ⟨0x5001, 0x100, 8, 0, 1, 0x01, 1, .u32, 0, 0, accRwcRwcRoRw, .int 125000, (some ⟨1000, 1000000000, 1, []⟩)⟩,
  /- BaseTime -/ ⟨0x5001, 0x100, 8, 0, 1, 0x02, 1, .time80, 0, 0, accRwcRwcRoRw, .int 0, none⟩,
  /- ClassPcp -/ ⟨0x5002, 0x100, 8, 0, 1, 0x01, 8, .u8, 0, 0, accRwcRwcRoRw, .perSub [0,1,2,3,4,5,6,7], (some ⟨0, 7, 1, []⟩)⟩,
  /- ClassDscp -/ ⟨0x5003, 0x100, 8, 0, 1, 0x01, 8, .u8, 0, 0, accRwcRwcRoRw, .perSub [0,0,0,0,46,34,48,34], (some ⟨0, 63, 1, []⟩)⟩,
  /- ShaperRateKbps -/ ⟨0x5004, 0x100, 8, 0, 1, 0x01, 7, .u32, 0, 0, accRwcRwcRoRw, .int 0, none⟩,
  /- LinkUp -/ ⟨0x5008, 0x100, 8, 0, 1, 0x01, 1, .bool, 0, 0, accRoRoRoRo, .int 0, none⟩,
  /- LineRateMbps -/ ⟨0x5008, 0x100, 8, 0, 1, 0x02, 1, .u32, 0, 0, accRoRoRoRo, .int 0, none⟩,
  /- ListInForce -/ ⟨0x5008, 0x100, 8, 0, 1, 0x03, 1, .u8, 0, 0, accRoRoRoRo, .int 0, none⟩,
  /- LastChangeover -/ ⟨0x5008, 0x100, 8, 0, 1, 0x04, 1, .time80, 0, 0, accRoRoRoRo, .int 0, none⟩,
  /- PhaseCount -/ ⟨0x5008, 0x100, 8, 0, 1, 0x05, 1, .u8, 0, 0, accRoRoRoRo, .int 0, none⟩,
  /- PortLoadKbps -/ ⟨0x5008, 0x100, 8, 0, 1, 0x06, 1, .u32, 0, 0, accRoRoRoRo, .int 0, none⟩,
  /- RxDropMedia -/ ⟨0x5008, 0x100, 8, 0, 1, 0x07, 1, .u32, 0, 0, accRoRoRoRo, .int 0, none⟩,
  /- RxDropControl -/ ⟨0x5008, 0x100, 8, 0, 1, 0x08, 1, .u32, 0, 0, accRoRoRoRo, .int 0, none⟩,
  /- PtpPoliced -/ ⟨0x5008, 0x100, 8, 0, 1, 0x09, 1, .u32, 0, 0, accRoRoRoRo, .int 0, none⟩,
  /- MalformedFrames -/ ⟨0x5008, 0x100, 8, 0, 1, 0x0A, 1, .u32, 0, 0, accRoRoRoRo, .int 0, none⟩,
  /- PauseIgnored -/ ⟨0x5008, 0x100, 8, 0, 1, 0x0B, 1, .u32, 0, 0, accRoRoRoRo, .int 0, none⟩,
  /- UnmatchedFrames -/ ⟨0x5008, 0x100, 8, 0, 1, 0x0C, 1, .u32, 0, 0, accRoRoRoRo, .int 0, none⟩,
  /- FlowSelect -/ ⟨0x5800, 0x0, 1, 0, 1, 0x01, 1, .u16, 0, 0, accRwRwRoRw, .int 0, (some ⟨0, 16383, 1, []⟩)⟩,
  /- Kind -/ ⟨0x5801, 0x0, 1, 0, 1, 0x01, 1, .u8, 0, 0, accRwcRwcRoRw, .int 0, (some ⟨0, 4, 1, []⟩)⟩,
  /- Port -/ ⟨0x5801, 0x0, 1, 0, 1, 0x02, 1, .u8, 0, 0, accRwcRwcRoRw, .int 0xFF, (some ⟨0, 7, 1, [255]⟩)⟩,
  /- SrcAddress -/ ⟨0x5801, 0x0, 1, 0, 1, 0x03, 1, .octets, 16, 16, accRwcRwcRoRw, .oct (List.replicate 16 0), none⟩]

/-- Object rows of the ports and the flow window, R300. -/
def rowsMangle1 : List ObjDef := [
  /- DstAddress -/ ⟨0x5801, 0x0, 1, 0, 1, 0x04, 1, .octets, 16, 16, accRwcRwcRoRw, .oct (List.replicate 16 0), none⟩,
  /- DstUdpPort -/ ⟨0x5801, 0x0, 1, 0, 1, 0x05, 1, .u16, 0, 0, accRwcRwcRoRw, .int 0, none⟩,
  /- VlanId -/ ⟨0x5801, 0x0, 1, 0, 1, 0x06, 1, .u16, 0, 0, accRwcRwcRoRw, .int 0xFFFF, (some ⟨0, 4094, 1, [65535]⟩)⟩,
  /- ColourMode -/ ⟨0x5801, 0x0, 1, 0, 1, 0x07, 1, .u8, 0, 0, accRwcRwcRoRw, .int 0, (some ⟨0, 1, 1, []⟩)⟩,
  /- CirKbps -/ ⟨0x5801, 0x0, 1, 0, 1, 0x08, 1, .u32, 0, 0, accRwcRwcRoRw, .int 0, none⟩,
  /- CbsBytes -/ ⟨0x5801, 0x0, 1, 0, 1, 0x09, 1, .u32, 0, 0, accRwcRwcRoRw, .int 16384, none⟩,
  /- PirKbps -/ ⟨0x5801, 0x0, 1, 0, 1, 0x0A, 1, .u32, 0, 0, accRwcRwcRoRw, .int 0, none⟩,
  /- PbsBytes -/ ⟨0x5801, 0x0, 1, 0, 1, 0x0B, 1, .u32, 0, 0, accRwcRwcRoRw, .int 16384, none⟩,
  /- YellowAction -/ ⟨0x5801, 0x0, 1, 0, 1, 0x0C, 1, .u8, 0, 0, accRwcRwcRoRw, .int 0, (some ⟨0, 1, 1, []⟩)⟩,
  /- GreenFrames -/ ⟨0x5802, 0x0, 1, 0, 1, 0x01, 1, .u64, 0, 0, accRoRoRoRo, .int 0, none⟩,
  /- YellowFrames -/ ⟨0x5802, 0x0, 1, 0, 1, 0x02, 1, .u64, 0, 0, accRoRoRoRo, .int 0, none⟩,
  /- RedFrames -/ ⟨0x5802, 0x0, 1, 0, 1, 0x03, 1, .u64, 0, 0, accRoRoRoRo, .int 0, none⟩,
  /- LastRedTime -/ ⟨0x5802, 0x0, 1, 0, 1, 0x04, 1, .time80, 0, 0, accRoRoRoRo, .int 0, none⟩]

/-- Object rows of the ports and the flow window, R298. -/
def rowsMangleTwill0 : List ObjDef := [
  /- GateList -/ ⟨0xD001, 0x100, 8, 0, 1, 0x01, 1, .octets, 8, 8192, accRwcRwcRoRw, .derived, none⟩,
  /- GateCycleNs -/ ⟨0xD001, 0x100, 8, 0, 1, 0x02, 1, .u32, 0, 0, accRwcRwcRoRw, .derived, (some ⟨1000, 1000000000, 1, []⟩)⟩,
  /- GateBaseTime -/ ⟨0xD001, 0x100, 8, 0, 1, 0x03, 1, .time80, 0, 0, accRwcRwcRoRw, .derived, none⟩,
  /- ChangeoverTime -/ ⟨0xD001, 0x100, 8, 0, 1, 0x04, 1, .time80, 0, 0, accRwcRwcRoRw, .int 0, none⟩,
  /- HiCreditBytes -/ ⟨0xD004, 0x100, 8, 0, 1, 0x01, 7, .i32, 0, 0, accRwcRwcRoRw, .derived, none⟩,
  /- LoCreditBytes -/ ⟨0xD006, 0x100, 8, 0, 1, 0x01, 7, .i32, 0, 0, accRwcRwcRoRw, .derived, none⟩]

/-- Object rows of the Timekeeper and audio, R317. -/
def rowsTime0 : List ObjDef := [
  /- ActiveDomainSelect -/ ⟨0x6000, 0x0, 1, 0, 1, 0x01, 1, .u8, 0, 0, accRwcRwcRoRw, .int 0, (some ⟨0, 2, 1, []⟩)⟩,
  /- StepPolicy -/ ⟨0x6000, 0x0, 1, 0, 1, 0x02, 1, .u8, 0, 0, accRwcRwcRoRw, .int 0, (some ⟨0, 1, 1, []⟩)⟩,
  /- StepThresholdNs -/ ⟨0x6000, 0x0, 1, 0, 1, 0x03, 1, .u32, 0, 0, accRwcRwcRoRw, .int 1000000, (some ⟨1000, 4000000000, 1, []⟩)⟩,
  /- SlewLimitPpb -/ ⟨0x6000, 0x0, 1, 0, 1, 0x04, 1, .u32, 0, 0, accRwcRwcRoRw, .int 20000, (some ⟨1000, 500000, 1, []⟩)⟩,
  /- RevertHoldoffS -/ ⟨0x6000, 0x0, 1, 0, 1, 0x05, 1, .u16, 0, 0, accRwcRwcRoRw, .int 0, none⟩,
  /- HoldoverReference -/ ⟨0x6000, 0x0, 1, 0, 1, 0x06, 1, .u8, 0, 0, accRwcRwcRoRw, .int 0, (some ⟨0, 2, 1, []⟩)⟩,
  /- HoldoverPpsInput -/ ⟨0x6000, 0x0, 1, 0, 1, 0x07, 1, .u8, 0, 0, accRwcRwcRoRw, .int 0xFF, (some ⟨0, 7, 1, [255]⟩)⟩,
  /- HoldoverLimitS -/ ⟨0x6000, 0x0, 1, 0, 1, 0x08, 1, .u32, 0, 0, accRwcRwcRoRw, .int 600, none⟩,
  /- SlewRemainingNs -/ ⟨0x6001, 0x0, 1, 0, 1, 0x01, 1, .i64, 0, 0, accRoRoRoRo, .int 0, none⟩,
  /- StepCount -/ ⟨0x6001, 0x0, 1, 0, 1, 0x02, 1, .u32, 0, 0, accRoRoRoRo, .int 0, none⟩,
  /- LastStepNs -/ ⟨0x6001, 0x0, 1, 0, 1, 0x03, 1, .i64, 0, 0, accRoRoRoRo, .int 0, none⟩,
  /- LastStepTime -/ ⟨0x6001, 0x0, 1, 0, 1, 0x04, 1, .time80, 0, 0, accRoRoRoRo, .int 0, none⟩,
  /- SwitchCount -/ ⟨0x6001, 0x0, 1, 0, 1, 0x05, 1, .u32, 0, 0, accRoRoRoRo, .int 0, none⟩,
  /- LastSwitchTime -/ ⟨0x6001, 0x0, 1, 0, 1, 0x06, 1, .time80, 0, 0, accRoRoRoRo, .int 0, none⟩,
  /- UtcOffsetS -/ ⟨0x6001, 0x0, 1, 0, 1, 0x07, 1, .i16, 0, 0, accRoRoRoRo, .int 0, none⟩,
  /- Enable -/ ⟨0x6010, 0x1, 2, 0, 1, 0x01, 1, .bool, 0, 0, accRwcRwcRoRw, .perIdx 1 (-1), none⟩,
  /- Profile -/ ⟨0x6010, 0x1, 2, 0, 1, 0x02, 1, .u8, 0, 0, accRwcRwcRoRw, .int 2, (some ⟨0, 3, 1, []⟩)⟩,
  /- DomainNumber -/ ⟨0x6010, 0x1, 2, 0, 1, 0x03, 1, .u8, 0, 0, accRwcRwcRoRw, .int 127, none⟩,
  /- PortMask -/ ⟨0x6010, 0x1, 2, 0, 1, 0x04, 1, .u8, 0, 0, accRwcRwcRoRw, .perIdx 1 1, none⟩,
  /- Transport -/ ⟨0x6010, 0x1, 2, 0, 1, 0x05, 1, .u8, 0, 0, accRwcRwcRoRw, .int 0, (some ⟨0, 2, 1, []⟩)⟩,
  /- DelayReqLogInterval -/ ⟨0x6010, 0x1, 2, 0, 1, 0x06, 1, .i8, 0, 0, accRwcRwcRoRw, .int (-3), (some ⟨(-7), 4, 1, []⟩)⟩,
  /- AnnounceReceiptTimeout -/ ⟨0x6010, 0x1, 2, 0, 1, 0x07, 1, .u8, 0, 0, accRwcRwcRoRw, .int 3, (some ⟨2, 10, 1, []⟩)⟩,
  /- LockThresholdNs -/ ⟨0x6010, 0x1, 2, 0, 1, 0x08, 1, .u32, 0, 0, accRwcRwcRoRw, .int 100, (some ⟨10, 100000, 1, []⟩)⟩,
  /- State -/ ⟨0x6018, 0x1, 2, 0, 1, 0x01, 1, .u8, 0, 0, accRoRoRoRo, .int 0, none⟩,
  /- MasterIdentity -/ ⟨0x6018, 0x1, 2, 0, 1, 0x02, 1, .u64, 0, 0, accRoRoRoRo, .int 0, none⟩,
  /- GmIdentity -/ ⟨0x6018, 0x1, 2, 0, 1, 0x03, 1, .u64, 0, 0, accRoRoRoRo, .int 0, none⟩,
  /- MasterPort -/ ⟨0x6018, 0x1, 2, 0, 1, 0x04, 1, .u8, 0, 0, accRoRoRoRo, .int 0xFF, none⟩,
  /- OffsetNs -/ ⟨0x6018, 0x1, 2, 0, 1, 0x05, 1, .i32, 0, 0, accRoRoRoRo, .int 0, none⟩,
  /- MeanPathDelayNs -/ ⟨0x6018, 0x1, 2, 0, 1, 0x06, 1, .u32, 0, 0, accRoRoRoRo, .int 0, none⟩,
  /- FreqAdjPpb -/ ⟨0x6018, 0x1, 2, 0, 1, 0x07, 1, .i32, 0, 0, accRoRoRoRo, .int 0, none⟩]

/-- Object rows of the Timekeeper and audio, R317, R337. -/
def rowsTime1 : List ObjDef := [
  /- LockedSince -/ ⟨0x6018, 0x1, 2, 0, 1, 0x08, 1, .time80, 0, 0, accRoRoRoRo, .int 0, none⟩,
  /- PulseMode -/ ⟨0x6080, 0x1, 8, 0, 1, 0x01, 1, .u8, 0, 0, accRwcRwcRoRw, .int 0, (some ⟨0, 4, 1, []⟩)⟩,
  /- StartTime -/ ⟨0x6080, 0x1, 8, 0, 1, 0x02, 1, .time80, 0, 0, accRwcRwcRoRw, .int 0, none⟩,
  /- PeriodNs -/ ⟨0x6080, 0x1, 8, 0, 1, 0x03, 1, .u64, 0, 0, accRwcRwcRoRw, .int 1000000000, (some ⟨200, 1000000000000, 1, []⟩)⟩,
  /- WidthNs -/ ⟨0x6080, 0x1, 8, 0, 1, 0x04, 1, .u32, 0, 0, accRwcRwcRoRw, .int 1000, none⟩,
  /- ActiveLow -/ ⟨0x6080, 0x1, 8, 0, 1, 0x05, 1, .bool, 0, 0, accRwcRwcRoRw, .int 0, none⟩,
  /- Channel -/ ⟨0x6080, 0x1, 8, 0, 1, 0x06, 1, .u8, 0, 0, accRwcRwcRoRw, .int 0, (some ⟨0, 15, 1, []⟩)⟩,
  /- OffsetNs -/ ⟨0x6080, 0x1, 8, 0, 1, 0x07, 1, .i32, 0, 0, accRwcRwcRoRw, .int 0, none⟩,
  /- PulseLateCount -/ ⟨0x6088, 0x0, 1, 0, 1, 0x01, 8, .u32, 0, 0, accRoRoRoRo, .int 0, none⟩,
  /- CaptureEdge -/ ⟨0x6090, 0x1, 8, 0, 1, 0x01, 1, .u8, 0, 0, accRwcRwcRoRw, .int 0, (some ⟨0, 3, 1, []⟩)⟩,
  /- CaptureOverflow -/ ⟨0x6098, 0x0, 1, 0, 1, 0x01, 8, .u32, 0, 0, accRoRoRoRo, .int 0, none⟩,
  /- LastCapture -/ ⟨0x60A0, 0x0, 1, 0, 1, 0x01, 8, .time80, 0, 0, accRoRoRoRo, .int 0, none⟩,
  /- Enable -/ ⟨0x6400, 0x10, 8, 0, 1, 0x01, 1, .bool, 0, 0, accRwcRwcRoRw, .int 0, none⟩,
  /- Direction -/ ⟨0x6400, 0x10, 8, 0, 1, 0x02, 1, .u8, 0, 0, accRwcRwcRoRw, .int 0, (some ⟨0, 1, 1, []⟩)⟩,
  /- Format -/ ⟨0x6400, 0x10, 8, 0, 1, 0x03, 1, .u8, 0, 0, accRwcRwcRoRw, .int 0, (some ⟨0, 2, 1, []⟩)⟩,
  /- Slots -/ ⟨0x6400, 0x10, 8, 0, 1, 0x04, 1, .u8, 0, 0, accRwcRwcRoRw, .int 2, (some ⟨2, 16, 1, []⟩)⟩,
  /- SlotBits -/ ⟨0x6400, 0x10, 8, 0, 1, 0x05, 1, .u8, 0, 0, accRwcRwcRoRw, .int 32, (some ⟨1, 0, 1, [16, 24, 32]⟩)⟩,
  /- SampleBits -/ ⟨0x6400, 0x10, 8, 0, 1, 0x06, 1, .u8, 0, 0, accRwcRwcRoRw, .int 24, (some ⟨1, 0, 1, [16, 24]⟩)⟩,
  /- SampleRate -/ ⟨0x6400, 0x10, 8, 0, 1, 0x07, 1, .u32, 0, 0, accRwcRwcRoRw, .int 48000, (some ⟨1, 0, 1, [32000, 44100, 48000, 88200, 96000, 176400, 192000]⟩)⟩,
  /- ClockMode -/ ⟨0x6400, 0x10, 8, 0, 1, 0x08, 1, .u8, 0, 0, accRwcRwcRoRw, .int 0, (some ⟨0, 1, 1, []⟩)⟩,
  /- AudioGroup -/ ⟨0x6400, 0x10, 8, 0, 1, 0x09, 1, .u8, 0, 0, accRwcRwcRoRw, .int 0, (some ⟨0, 8, 1, []⟩)⟩,
  /- Feed -/ ⟨0x6400, 0x10, 8, 0, 1, 0x0A, 1, .u8, 0, 0, accRwcRwcRoRw, .int 0xFF, (some ⟨0, 7, 1, [16, 17, 18, 19, 20, 21, 22, 23, 24, 25, 26, 27, 28, 29, 30, 31, 255]⟩)⟩,
  /- ClockState -/ ⟨0x6401, 0x10, 8, 0, 1, 0x01, 1, .u8, 0, 0, accRoRoRoRo, .int 0, none⟩,
  /- MeasuredRateMilliHz -/ ⟨0x6401, 0x10, 8, 0, 1, 0x02, 1, .u32, 0, 0, accRoRoRoRo, .int 0, none⟩,
  /- FreqOffsetPpb -/ ⟨0x6401, 0x10, 8, 0, 1, 0x03, 1, .i32, 0, 0, accRoRoRoRo, .int 0, none⟩,
  /- MeasuredClass -/ ⟨0x6401, 0x10, 8, 0, 1, 0x04, 1, .u32, 0, 0, accRoRoRoRo, .int 0, none⟩,
  /- SlipDropCount -/ ⟨0x6401, 0x10, 8, 0, 1, 0x05, 1, .u32, 0, 0, accRoRoRoRo, .int 0, none⟩,
  /- SlipRepeatCount -/ ⟨0x6401, 0x10, 8, 0, 1, 0x06, 1, .u32, 0, 0, accRoRoRoRo, .int 0, none⟩,
  /- StepSlipCount -/ ⟨0x6401, 0x10, 8, 0, 1, 0x07, 1, .u32, 0, 0, accRoRoRoRo, .int 0, none⟩,
  /- FifoLevel -/ ⟨0x6401, 0x10, 8, 0, 1, 0x08, 1, .u8, 0, 0, accRoRoRoRo, .int 0, none⟩]

/-- Object rows of the Timekeeper and audio, R337, R338, R339. -/
def rowsTime2 : List ObjDef := [
  /- LastSlipTime -/ ⟨0x6401, 0x10, 8, 0, 1, 0x09, 1, .time80, 0, 0, accRoRoRoRo, .int 0, none⟩,
  /- GroupMode -/ ⟨0x6480, 0x0, 1, 0, 1, 0x01, 8, .u8, 0, 0, accRwcRwcRoRw, .int 0, (some ⟨0, 1, 1, []⟩)⟩,
  /- GroupSlipCount -/ ⟨0x6481, 0x0, 1, 0, 1, 0x01, 8, .u32, 0, 0, accRoRoRoRo, .int 0, none⟩,
  /- Enable -/ ⟨0x6500, 0x10, 16, 0, 1, 0x01, 1, .bool, 0, 0, accRwcRwcRoRw, .int 0, none⟩,
  /- Channel -/ ⟨0x6500, 0x10, 16, 0, 1, 0x02, 1, .u8, 0, 0, accRwcRwcRoRw, .int 0xFF, (some ⟨0, 15, 1, [255]⟩)⟩,
  /- PortA -/ ⟨0x6500, 0x10, 16, 0, 1, 0x03, 1, .u8, 0, 0, accRwcRwcRoRw, .int 0xFF, (some ⟨0, 7, 1, [255]⟩)⟩,
  /- PortB -/ ⟨0x6500, 0x10, 16, 0, 1, 0x04, 1, .u8, 0, 0, accRwcRwcRoRw, .int 0xFF, (some ⟨0, 7, 1, [255]⟩)⟩,
  /- DestAddressA -/ ⟨0x6500, 0x10, 16, 0, 1, 0x05, 1, .octets, 16, 16, accRwcRwcRoRw, .oct (List.replicate 16 0), none⟩,
  /- DestAddressB -/ ⟨0x6500, 0x10, 16, 0, 1, 0x06, 1, .octets, 16, 16, accRwcRwcRoRw, .oct (List.replicate 16 0), none⟩,
  /- DestUdpPort -/ ⟨0x6500, 0x10, 16, 0, 1, 0x07, 1, .u16, 0, 0, accRwcRwcRoRw, .perIdx 21000 2, (some ⟨0, 65535, 2, []⟩)⟩,
  /- SourceUdpPort -/ ⟨0x6500, 0x10, 16, 0, 1, 0x08, 1, .u16, 0, 0, accRwcRwcRoRw, .perIdx 21000 2, (some ⟨0, 65535, 2, []⟩)⟩,
  /- PayloadType -/ ⟨0x6500, 0x10, 16, 0, 1, 0x09, 1, .u8, 0, 0, accRwcRwcRoRw, .int 97, (some ⟨96, 127, 1, []⟩)⟩,
  /- Encoding -/ ⟨0x6500, 0x10, 16, 0, 1, 0x0A, 1, .u8, 0, 0, accRwcRwcRoRw, .int 0, (some ⟨0, 1, 1, []⟩)⟩,
  /- PacketTimeUs -/ ⟨0x6500, 0x10, 16, 0, 1, 0x0B, 1, .u16, 0, 0, accRwcRwcRoRw, .int 1000, (some ⟨1, 0, 1, [125, 1000]⟩)⟩,
  /- ChannelCount -/ ⟨0x6500, 0x10, 16, 0, 1, 0x0C, 1, .u8, 0, 0, accRwcRwcRoRw, .int 2, (some ⟨1, 16, 1, []⟩)⟩,
  /- Ssrc -/ ⟨0x6500, 0x10, 16, 0, 1, 0x0D, 1, .u32, 0, 0, accRwcRwcRoRw, .derived, none⟩,
  /- Route -/ ⟨0x6508, 0x10, 16, 0, 1, 0x01, 16, .u8, 0, 0, accRwcRwcRoRw, .int 0xFF, (some ⟨0, 127, 1, [255]⟩)⟩,
  /- FlowId -/ ⟨0x6600, 0x10, 16, 0, 1, 0x01, 1, .u16, 0, 0, accRwcRwcRoRw, .int 0xFFFF, (some ⟨0, 16383, 1, [65535]⟩)⟩,
  /- FlowIdProtect -/ ⟨0x6600, 0x10, 16, 0, 1, 0x02, 1, .u16, 0, 0, accRwcRwcRoRw, .int 0xFFFF, (some ⟨0, 16383, 1, [65535]⟩)⟩,
  /- Encoding -/ ⟨0x6600, 0x10, 16, 0, 1, 0x03, 1, .u8, 0, 0, accRwcRwcRoRw, .int 0, (some ⟨0, 1, 1, []⟩)⟩,
  /- ChannelCount -/ ⟨0x6600, 0x10, 16, 0, 1, 0x04, 1, .u8, 0, 0, accRwcRwcRoRw, .int 2, (some ⟨1, 16, 1, []⟩)⟩,
  /- SampleRate -/ ⟨0x6600, 0x10, 16, 0, 1, 0x05, 1, .u32, 0, 0, accRwcRwcRoRw, .int 48000, (some ⟨1, 0, 1, [48000, 96000]⟩)⟩,
  /- LinkOffsetUs -/ ⟨0x6600, 0x10, 16, 0, 1, 0x06, 1, .u16, 0, 0, accRwcRwcRoRw, .int 1000, (some ⟨125, 20000, 1, []⟩)⟩,
  /- GapFrames -/ ⟨0x6601, 0x10, 16, 0, 1, 0x01, 1, .u32, 0, 0, accRoRoRoRo, .int 0, none⟩,
  /- LateFrames -/ ⟨0x6601, 0x10, 16, 0, 1, 0x02, 1, .u32, 0, 0, accRoRoRoRo, .int 0, none⟩,
  /- EarlyDropped -/ ⟨0x6601, 0x10, 16, 0, 1, 0x03, 1, .u32, 0, 0, accRoRoRoRo, .int 0, none⟩,
  /- FreqOffsetPpb -/ ⟨0x6601, 0x10, 16, 0, 1, 0x04, 1, .i32, 0, 0, accRoRoRoRo, .int 0, none⟩,
  /- MeasuredClass -/ ⟨0x6601, 0x10, 16, 0, 1, 0x05, 1, .u32, 0, 0, accRoRoRoRo, .int 0, none⟩]

/-- Object rows of the Timekeeper and audio, R318, R340. -/
def rowsTimeTwill0 : List ObjDef := [
  /- IngressCorrNs -/ ⟨0xE008, 0x0, 1, 0, 1, 0x01, 8, .i16, 0, 0, accRwcRwcRoRw, .int 0, none⟩,
  /- EgressCorrNs -/ ⟨0xE009, 0x0, 1, 0, 1, 0x01, 8, .i16, 0, 0, accRwcRwcRoRw, .int 0, none⟩,
  /- LoopBandwidthMilliHz -/ ⟨0xE010, 0x1, 2, 0, 1, 0x01, 1, .u16, 0, 0, accRwcRwcRoRw, .int 125, (some ⟨10, 4000, 1, []⟩)⟩,
  /- AsymmetryNs -/ ⟨0xE010, 0x1, 2, 0, 1, 0x02, 1, .i32, 0, 0, accRwcRwcRoRw, .int 0, none⟩,
  /- MaxFreqAdjPpb -/ ⟨0xE010, 0x1, 2, 0, 1, 0x03, 1, .u32, 0, 0, accRwcRwcRoRw, .int 200000, (some ⟨1000, 500000, 1, []⟩)⟩,
  /- EdgeOffsetNs -/ ⟨0xE400, 0x10, 8, 0, 1, 0x01, 1, .i16, 0, 0, accRwcRwcRoRw, .int 0, (some ⟨(-1000), 1000, 1, []⟩)⟩,
  /- DataEdge -/ ⟨0xE400, 0x10, 8, 0, 1, 0x02, 1, .u8, 0, 0, accRwcRwcRoRw, .int 0, (some ⟨0, 1, 1, []⟩)⟩,
  /- FifoCentre -/ ⟨0xE400, 0x10, 8, 0, 1, 0x03, 1, .u8, 0, 0, accRwcRwcRoRw, .int 16, none⟩,
  /- FifoHysteresis -/ ⟨0xE400, 0x10, 8, 0, 1, 0x04, 1, .u8, 0, 0, accRwcRwcRoRw, .int 8, none⟩]

/-- Object rows of the lanes, the chain and the Beam, R268, R360, R361. -/
def rowsLane0 : List ObjDef := [
  /- LanePower -/ ⟨0x6800, 0x10, 32, 0, 1, 0x01, 1, .u8, 0, 0, accRwcRwcRoRw, .int 0, (some ⟨0, 3, 1, []⟩)⟩,
  /- TxInvert -/ ⟨0x6800, 0x10, 32, 0, 1, 0x02, 1, .bool, 0, 0, accRwcRwcRoRw, .int 0, none⟩,
  /- RxInvert -/ ⟨0x6800, 0x10, 32, 0, 1, 0x03, 1, .bool, 0, 0, accRwcRwcRoRw, .int 0, none⟩,
  /- EqProfile -/ ⟨0x6800, 0x10, 32, 0, 1, 0x04, 1, .u8, 0, 0, accRwcRwcRoRw, .int 0, (some ⟨0, 4, 1, []⟩)⟩,
  /- SoakIdleUs -/ ⟨0x6800, 0x10, 32, 0, 1, 0x05, 1, .u32, 0, 0, accRwcRwcRoRw, .int 100, (some ⟨10, 1000000, 1, []⟩)⟩,
  /- LaneStateNow -/ ⟨0x6801, 0x10, 32, 0, 1, 0x01, 1, .u8, 0, 0, accRoRoRoRo, .int 0, none⟩,
  /- CodeErrors -/ ⟨0x6801, 0x10, 32, 0, 1, 0x02, 1, .u32, 0, 0, accRoRoRoRo, .int 0, none⟩,
  /- AlignFailCount -/ ⟨0x6801, 0x10, 32, 0, 1, 0x03, 1, .u32, 0, 0, accRoRoRoRo, .int 0, none⟩,
  /- SoakCount -/ ⟨0x6801, 0x10, 32, 0, 1, 0x04, 1, .u32, 0, 0, accRoRoRoRo, .int 0, none⟩,
  /- DetectedRateMbps -/ ⟨0x6801, 0x10, 32, 0, 1, 0x05, 1, .u32, 0, 0, accRoRoRoRo, .int 0, none⟩,
  /- ChainMode -/ ⟨0x6A00, 0x0, 1, 0, 1, 0x01, 1, .u8, 0, 0, accRwcRwcRoRw, .int 0, (some ⟨0, 2, 1, []⟩)⟩,
  /- ChainHead -/ ⟨0x6A00, 0x0, 1, 0, 1, 0x02, 1, .bool, 0, 0, accRwcRwcRoRw, .int 0, none⟩,
  /- UpLanes -/ ⟨0x6A00, 0x0, 1, 0, 1, 0x03, 1, .u16, 0, 0, accRwcRwcRoRw, .int 0xFFFF, none⟩,
  /- DownLanes -/ ⟨0x6A00, 0x0, 1, 0, 1, 0x04, 1, .u16, 0, 0, accRwcRwcRoRw, .int 0xFFFF, none⟩,
  /- UpState -/ ⟨0x6A01, 0x0, 1, 0, 1, 0x01, 1, .u8, 0, 0, accRoRoRoRo, .int 0, none⟩,
  /- DownState -/ ⟨0x6A01, 0x0, 1, 0, 1, 0x02, 1, .u8, 0, 0, accRoRoRoRo, .int 0, none⟩,
  /- ChainLength -/ ⟨0x6A01, 0x0, 1, 0, 1, 0x03, 1, .u8, 0, 0, accRoRoRoRo, .int 1, none⟩,
  /- SeamDroppedMalformed -/ ⟨0x6A01, 0x0, 1, 0, 1, 0x04, 1, .u32, 0, 0, accRoRoRoRo, .int 0, none⟩,
  /- ChainFaultCount -/ ⟨0x6A01, 0x0, 1, 0, 1, 0x05, 1, .u32, 0, 0, accRoRoRoRo, .int 0, none⟩,
  /- ScanStart -/ ⟨0x6A80, 0x1, 32, 0, 1, 0x01, 1, .bool, 0, 0, accWoWoNoWo, .none, none⟩,
  /- HOffset -/ ⟨0x6A80, 0x1, 32, 0, 1, 0x02, 1, .i8, 0, 0, accRwRwNoRw, .int 0, (some ⟨(-32), 31, 1, []⟩)⟩,
  /- VOffset -/ ⟨0x6A80, 0x1, 32, 0, 1, 0x03, 1, .i8, 0, 0, accRwRwNoRw, .int 0, (some ⟨(-127), 127, 1, []⟩)⟩,
  /- DwellMs -/ ⟨0x6A80, 0x1, 32, 0, 1, 0x04, 1, .u32, 0, 0, accRwRwNoRw, .int 1000, (some ⟨1, 600000, 1, []⟩)⟩,
  /- ScanState -/ ⟨0x6A80, 0x1, 32, 0, 1, 0x05, 1, .u8, 0, 0, accRoRoRoRo, .int 0, none⟩,
  /- BitsCompared -/ ⟨0x6A80, 0x1, 32, 0, 1, 0x06, 1, .u64, 0, 0, accRoRoRoRo, .int 0, none⟩,
  /- Errors -/ ⟨0x6A80, 0x1, 32, 0, 1, 0x07, 1, .u64, 0, 0, accRoRoRoRo, .int 0, none⟩,
  /- BerEstimate -/ ⟨0x6A80, 0x1, 32, 0, 1, 0x08, 1, .f32, 0, 0, accRoRoRoRo, .int 0, none⟩,
  /- BerBound95 -/ ⟨0x6A80, 0x1, 32, 0, 1, 0x09, 1, .f32, 0, 0, accRoRoRoRo, .int 0, none⟩,
  /- QuadMode -/ ⟨0x6B00, 0x1, 8, 0, 1, 0x01, 1, .u8, 0, 0, accRwcRwcRoRw, .int 0, (some ⟨0, 4, 1, []⟩)⟩,
  /- LineRate -/ ⟨0x6B00, 0x1, 8, 0, 1, 0x02, 1, .u8, 0, 0, accRwcRwcRoRw, .int 0, (some ⟨0, 4, 1, []⟩)⟩]

/-- Object rows of the lanes, the chain and the Beam, R360, R385, R386. -/
def rowsLane1 : List ObjDef := [
  /- FecMode -/ ⟨0x6B00, 0x1, 8, 0, 1, 0x03, 1, .u8, 0, 0, accRwcRwcRoRw, .int 1, (some ⟨0, 2, 1, []⟩)⟩,
  /- WeftRole -/ ⟨0x6B00, 0x1, 8, 0, 1, 0x04, 1, .u8, 0, 0, accRwcRwcRoRw, .int 0, (some ⟨0, 1, 1, []⟩)⟩,
  /- WeftTxChannel -/ ⟨0x6B00, 0x1, 8, 0, 1, 0x05, 1, .u8, 0, 0, accRwcRwcRoRw, .int 0xFF, (some ⟨0, 15, 1, [255]⟩)⟩,
  /- PortBinding -/ ⟨0x6B10, 0x0, 1, 0, 1, 0x01, 8, .u8, 0, 0, accRwcRwcRoRw, .int 0xFF, none⟩,
  /- MaxSetPoint -/ ⟨0x6C00, 0x0, 1, 0, 1, 0x01, 1, .u8, 0, 0, accRwcRwcRoRw, .int 0, (some ⟨0, 2, 1, []⟩)⟩,
  /- SelfRefreshIdleUs -/ ⟨0x6C00, 0x0, 1, 0, 1, 0x02, 1, .u32, 0, 0, accRwcRwcRoRw, .int 1000, (some ⟨100, 10000000, 1, [0]⟩)⟩,
  /- PowerDownIdleNs -/ ⟨0x6C00, 0x0, 1, 0, 1, 0x03, 1, .u32, 0, 0, accRwcRwcRoRw, .int 1000, (some ⟨100, 1000000, 1, []⟩)⟩,
  /- ReturnToSetPoint -/ ⟨0x6C00, 0x0, 1, 0, 1, 0x04, 1, .bool, 0, 0, accWoWoNoWo, .none, none⟩,
  /- ShedOrder -/ ⟨0x6C01, 0x0, 1, 0, 1, 0x01, 16, .u8, 0, 0, accRwcRwcRoRw, .int 0xFF, (some ⟨0, 15, 1, [255]⟩)⟩,
  /- BeamState -/ ⟨0x6C02, 0x0, 1, 0, 1, 0x01, 1, .u8, 0, 0, accRoRoRoRo, .int 0, none⟩,
  /- SetPoint -/ ⟨0x6C02, 0x0, 1, 0, 1, 0x02, 1, .u8, 0, 0, accRoRoRoRo, .int 0, none⟩,
  /- Ranks -/ ⟨0x6C02, 0x0, 1, 0, 1, 0x03, 1, .u8, 0, 0, accRoRoRoRo, .int 0, none⟩,
  /- DensityGb -/ ⟨0x6C02, 0x0, 1, 0, 1, 0x04, 1, .u8, 0, 0, accRoRoRoRo, .int 0, none⟩,
  /- UsableMiB -/ ⟨0x6C02, 0x0, 1, 0, 1, 0x05, 1, .u32, 0, 0, accRoRoRoRo, .int 0, none⟩,
  /- SustainedMBps -/ ⟨0x6C02, 0x0, 1, 0, 1, 0x06, 1, .u32, 0, 0, accRoRoRoRo, .int 0, none⟩,
  /- BeamLoadPermille -/ ⟨0x6C02, 0x0, 1, 0, 1, 0x07, 1, .u16, 0, 0, accRoRoRoRo, .int 0, none⟩,
  /- SetPointChanges -/ ⟨0x6C02, 0x0, 1, 0, 1, 0x08, 1, .u32, 0, 0, accRoRoRoRo, .int 0, none⟩,
  /- LastSetPointChange -/ ⟨0x6C02, 0x0, 1, 0, 1, 0x09, 1, .time80, 0, 0, accRoRoRoRo, .int 0, none⟩,
  /- NotFittingMask -/ ⟨0x6C02, 0x0, 1, 0, 1, 0x0A, 1, .u16, 0, 0, accRoRoRoRo, .int 0, none⟩,
  /- ShedMask -/ ⟨0x6C02, 0x0, 1, 0, 1, 0x0B, 1, .u16, 0, 0, accRoRoRoRo, .int 0, none⟩,
  /- OutOfRange -/ ⟨0x6C02, 0x0, 1, 0, 1, 0x0C, 1, .u32, 0, 0, accRoRoRoRo, .int 0, none⟩,
  /- ReadMBps -/ ⟨0x6C03, 0x0, 1, 0, 1, 0x01, 8, .u32, 0, 0, accRoRoRoRo, .int 0, none⟩,
  /- WriteMBps -/ ⟨0x6C04, 0x0, 1, 0, 1, 0x01, 8, .u32, 0, 0, accRoRoRoRo, .int 0, none⟩,
  /- RefLatencyMaxNs -/ ⟨0x6C05, 0x0, 1, 0, 1, 0x01, 8, .u32, 0, 0, accRoRoRoRo, .int 0, none⟩,
  /- RefLatencyExceeded -/ ⟨0x6C06, 0x0, 1, 0, 1, 0x01, 8, .u32, 0, 0, accRoRoRoRo, .int 0, none⟩,
  /- RetrainAttempts -/ ⟨0x6C07, 0x0, 1, 0, 1, 0x01, 8, .u32, 0, 0, accRoRoRoRo, .int 0, none⟩,
  /- ForwardedReads -/ ⟨0x6C08, 0x0, 1, 0, 1, 0x01, 8, .u32, 0, 0, accRoRoRoRo, .int 0, none⟩,
  /- LinkEccCorrected -/ ⟨0x6C09, 0x0, 1, 0, 1, 0x01, 8, .u32, 0, 0, accRoRoRoRo, .int 0, none⟩,
  /- LinkEccUncorrected -/ ⟨0x6C0A, 0x0, 1, 0, 1, 0x01, 8, .u32, 0, 0, accRoRoRoRo, .int 0, none⟩,
  /- MakeupBursts -/ ⟨0x6C0B, 0x0, 1, 0, 1, 0x01, 8, .u32, 0, 0, accRoRoRoRo, .int 0, none⟩]

/-- Object rows of the lanes, the chain and the Beam, R362, R387. -/
def rowsLaneTwill0 : List ObjDef := [
  /- TxPre -/ ⟨0xE800, 0x10, 32, 0, 1, 0x01, 1, .u8, 0, 0, accRwcRwcRoRw, .derived, (some ⟨0, 15, 1, []⟩)⟩,
  /- TxMain -/ ⟨0xE800, 0x10, 32, 0, 1, 0x02, 1, .u8, 0, 0, accRwcRwcRoRw, .derived, (some ⟨24, 63, 1, []⟩)⟩,
  /- TxPost -/ ⟨0xE800, 0x10, 32, 0, 1, 0x03, 1, .u8, 0, 0, accRwcRwcRoRw, .derived, (some ⟨0, 31, 1, []⟩)⟩,
  /- CtleBoostDb -/ ⟨0xE800, 0x10, 32, 0, 1, 0x04, 1, .u8, 0, 0, accRwcRwcRoRw, .int 0xFF, (some ⟨0, 15, 1, [255]⟩)⟩,
  /- DfeMode -/ ⟨0xE800, 0x10, 32, 0, 1, 0x05, 1, .u8, 0, 0, accRwcRwcRoRw, .int 0, (some ⟨0, 2, 1, []⟩)⟩,
  /- RefreshPostponeMax -/ ⟨0xEC00, 0x0, 1, 0, 1, 0x01, 1, .u8, 0, 0, accRwcRwcRoRw, .int 8, (some ⟨1, 8, 1, []⟩)⟩,
  /- WriteHighWatermark -/ ⟨0xEC00, 0x0, 1, 0, 1, 0x02, 1, .u8, 0, 0, accRwcRwcRoRw, .int 48, (some ⟨16, 63, 1, []⟩)⟩,
  /- WriteLowWatermark -/ ⟨0xEC00, 0x0, 1, 0, 1, 0x03, 1, .u8, 0, 0, accRwcRwcRoRw, .int 16, (some ⟨0, 62, 1, []⟩)⟩,
  /- AgeLimitUs -/ ⟨0xEC00, 0x0, 1, 0, 1, 0x04, 1, .u16, 0, 0, accRwcRwcRoRw, .int 20, (some ⟨5, 10000, 1, []⟩)⟩,
  /- RetrainIntervalMs -/ ⟨0xEC00, 0x0, 1, 0, 1, 0x05, 1, .u16, 0, 0, accRwcRwcRoRw, .int 100, (some ⟨10, 1000, 1, []⟩)⟩,
  /- MinMarginSteps -/ ⟨0xEC00, 0x0, 1, 0, 1, 0x06, 1, .u8, 0, 0, accRwcRwcRoRw, .int 8, (some ⟨2, 32, 1, []⟩)⟩]

/-- Object rows of the Shuttle, the Governor, the Selvedge, the log and the counters, R406, R451. -/
def rowsCtl0 : List ObjDef := [
  /- DispatchPolicy -/ ⟨0x7000, 0x0, 1, 0, 1, 0x01, 1, .u8, 0, 0, accRwcRwcRoRw, .int 0, (some ⟨0, 1, 1, []⟩)⟩,
  /- ThreadsInUse -/ ⟨0x7001, 0x0, 1, 0, 1, 0x01, 1, .u16, 0, 0, accRoRoRoRo, .int 0, none⟩,
  /- ReadyThreads -/ ⟨0x7001, 0x0, 1, 0, 1, 0x02, 1, .u16, 0, 0, accRoRoRoRo, .int 0, none⟩,
  /- DeferredThreads -/ ⟨0x7001, 0x0, 1, 0, 1, 0x03, 1, .u16, 0, 0, accRoRoRoRo, .int 0, none⟩,
  /- WakesAfterCancel -/ ⟨0x7001, 0x0, 1, 0, 1, 0x04, 1, .u32, 0, 0, accRoRoRoRo, .int 0, none⟩,
  /- DeferReleases -/ ⟨0x7001, 0x0, 1, 0, 1, 0x05, 1, .u32, 0, 0, accRoRoRoRo, .int 0, none⟩,
  /- ForeignCommands -/ ⟨0x7001, 0x0, 1, 0, 1, 0x06, 1, .u32, 0, 0, accRoRoRoRo, .int 0, none⟩,
  /- CreateRefused -/ ⟨0x7001, 0x0, 1, 0, 1, 0x07, 1, .u32, 0, 0, accRoRoRoRo, .int 0, none⟩,
  /- CoreBusyPermille -/ ⟨0x7002, 0x0, 1, 0, 1, 0x01, 8, .u16, 0, 0, accRoRoRoRo, .int 0, none⟩,
  /- BoardPowerLimit -/ ⟨0x7100, 0x0, 1, 0, 1, 0x01, 1, .u16, 0, 0, accRwcRwcRoRw, .int 620, (some ⟨200, 800, 1, []⟩)⟩,
  /- PowerMarginW -/ ⟨0x7100, 0x0, 1, 0, 1, 0x02, 1, .u16, 0, 0, accRwcRwcRoRw, .int 10, (some ⟨0, 100, 1, []⟩)⟩,
  /- ThermalTargetC -/ ⟨0x7100, 0x0, 1, 0, 1, 0x03, 1, .u8, 0, 0, accRwcRwcRoRw, .int 95, (some ⟨70, 100, 1, []⟩)⟩,
  /- PowerMeasured -/ ⟨0x7101, 0x0, 1, 0, 1, 0x01, 1, .u16, 0, 0, accRoRoRoRo, .int 0, none⟩,
  /- JunctionMax -/ ⟨0x7101, 0x0, 1, 0, 1, 0x02, 1, .i16, 0, 0, accRoRoRoRo, .int 0, none⟩,
  /- ThermalState -/ ⟨0x7101, 0x0, 1, 0, 1, 0x03, 1, .u8, 0, 0, accRoRoRoRo, .int 0, none⟩,
  /- ClassGate -/ ⟨0x7101, 0x0, 1, 0, 1, 0x04, 1, .u8, 0, 0, accRoRoRoRo, .int 0, none⟩,
  /- SensorsExcluded -/ ⟨0x7101, 0x0, 1, 0, 1, 0x05, 1, .u32, 0, 0, accRoRoRoRo, .int 0, none⟩,
  /- FastCutCount -/ ⟨0x7101, 0x0, 1, 0, 1, 0x06, 1, .u32, 0, 0, accRoRoRoRo, .int 0, none⟩,
  /- DramHeldLooms -/ ⟨0x7101, 0x0, 1, 0, 1, 0x07, 1, .u16, 0, 0, accRoRoRoRo, .int 0, none⟩,
  /- SensorTemp -/ ⟨0x7102, 0x0, 1, 0, 1, 0x01, 24, .i16, 0, 0, accRoRoRoRo, .int 0, none⟩,
  /- RailPower -/ ⟨0x7103, 0x0, 1, 0, 1, 0x01, 8, .u16, 0, 0, accRoRoRoRo, .int 0, none⟩,
  /- AcceptChainUpdates -/ ⟨0x7400, 0x0, 1, 0, 1, 0x01, 1, .bool, 0, 0, accRwcRwcRoRw, .int 1, none⟩,
  /- ForwardUpdates -/ ⟨0x7400, 0x0, 1, 0, 1, 0x02, 1, .bool, 0, 0, accRwcRwcRoRw, .int 1, none⟩,
  /- ActivateAt -/ ⟨0x7400, 0x0, 1, 0, 1, 0x03, 1, .time80, 0, 0, accRwRwNoRw, .int 0, none⟩,
  /- Activate -/ ⟨0x7400, 0x0, 1, 0, 1, 0x04, 1, .bool, 0, 0, accWoWoNoWo, .none, none⟩,
  /- CancelActivation -/ ⟨0x7400, 0x0, 1, 0, 1, 0x05, 1, .bool, 0, 0, accWoWoNoWo, .none, none⟩,
  /- ConfirmImage -/ ⟨0x7400, 0x0, 1, 0, 1, 0x06, 1, .bool, 0, 0, accWoWoNoWo, .none, none⟩,
  /- AutoConfirmS -/ ⟨0x7400, 0x0, 1, 0, 1, 0x07, 1, .u16, 0, 0, accRwcRwcRoRw, .int 60, (some ⟨10, 3600, 1, [0]⟩)⟩,
  /- SlotAState -/ ⟨0x7401, 0x0, 1, 0, 1, 0x01, 1, .u8, 0, 0, accRoRoRoRo, .int 0, none⟩,
  /- SlotBState -/ ⟨0x7401, 0x0, 1, 0, 1, 0x02, 1, .u8, 0, 0, accRoRoRoRo, .int 0, none⟩]

/-- Object rows of the Shuttle, the Governor, the Selvedge, the log and the counters, R451, R473. -/
def rowsCtl1 : List ObjDef := [
  /- SlotAVersion -/ ⟨0x7401, 0x0, 1, 0, 1, 0x03, 1, .u32, 0, 0, accRoRoRoRo, .int 0, none⟩,
  /- SlotBVersion -/ ⟨0x7401, 0x0, 1, 0, 1, 0x04, 1, .u32, 0, 0, accRoRoRoRo, .int 0, none⟩,
  /- RollbackCounter -/ ⟨0x7401, 0x0, 1, 0, 1, 0x05, 1, .u8, 0, 0, accRoRoRoRo, .int 0, none⟩,
  /- RevokedKeys -/ ⟨0x7401, 0x0, 1, 0, 1, 0x06, 1, .u8, 0, 0, accRoRoRoRo, .int 0, none⟩,
  /- BlocksReceived -/ ⟨0x7401, 0x0, 1, 0, 1, 0x07, 1, .u32, 0, 0, accRoRoRoRo, .int 0, none⟩,
  /- BlockRetries -/ ⟨0x7401, 0x0, 1, 0, 1, 0x08, 1, .u32, 0, 0, accRoRoRoRo, .int 0, none⟩,
  /- TransfersAbandoned -/ ⟨0x7401, 0x0, 1, 0, 1, 0x09, 1, .u32, 0, 0, accRoRoRoRo, .int 0, none⟩,
  /- SignatureFailures -/ ⟨0x7401, 0x0, 1, 0, 1, 0x0A, 1, .u32, 0, 0, accRoRoRoRo, .int 0, none⟩,
  /- HostDramBase -/ ⟨0x7410, 0x1, 8, 0, 1, 0x01, 1, .u64, 0, 0, accRwcNoNoRw, .int 0, (some ⟨0, 18446744073709551615, 4096, []⟩)⟩,
  /- HostDramSize -/ ⟨0x7410, 0x1, 8, 0, 1, 0x02, 1, .u64, 0, 0, accRwcNoNoRw, .int 0, (some ⟨0, 18446744073709551615, 4096, []⟩)⟩,
  /- HostDramRights -/ ⟨0x7410, 0x1, 8, 0, 1, 0x03, 1, .u8, 0, 0, accRwcNoNoRw, .int 3, (some ⟨0, 3, 1, []⟩)⟩,
  /- ChainLinkKey -/ ⟨0x7440, 0x0, 1, 0, 1, 0x01, 1, .octets, 0, 32, accWoNoNoRw, .oct [], none⟩,
  /- FrozenMask -/ ⟨0x7480, 0x0, 1, 0, 1, 0x01, 1, .u64, 0, 0, accRoRoRoRo, .int 0, none⟩,
  /- WatchdogMs -/ ⟨0x7480, 0x0, 1, 0, 1, 0x02, 1, .u16, 0, 0, accRwcRwcRoRw, .int 50, (some ⟨10, 10000, 1, []⟩)⟩,
  /- FreezeMaster -/ ⟨0x7480, 0x0, 1, 0, 1, 0x03, 1, .u8, 0, 0, accWoWoNoWo, .none, (some ⟨0, 39, 1, []⟩)⟩,
  /- ThawMaster -/ ⟨0x7480, 0x0, 1, 0, 1, 0x04, 1, .u8, 0, 0, accWoWoNoWo, .none, (some ⟨0, 39, 1, []⟩)⟩,
  /- ThawPolicy -/ ⟨0x7481, 0x0, 1, 0, 1, 0x01, 40, .u8, 0, 0, accRwcRwcRoRw, .perSub ((List.range 40).map (fun m => if m = 39 then 0 else 1)), (some ⟨0, 1, 1, []⟩)⟩,
  /- FreezeCount -/ ⟨0x7482, 0x0, 1, 0, 1, 0x01, 40, .u32, 0, 0, accRoRoRoRo, .int 0, none⟩,
  /- LastMaster -/ ⟨0x7483, 0x0, 1, 0, 1, 0x01, 1, .u8, 0, 0, accRoRoRoRo, .int 0xFF, none⟩,
  /- LastCause -/ ⟨0x7483, 0x0, 1, 0, 1, 0x02, 1, .u8, 0, 0, accRoRoRoRo, .int 0, none⟩,
  /- LastAddress -/ ⟨0x7483, 0x0, 1, 0, 1, 0x03, 1, .u64, 0, 0, accRoRoRoRo, .int 0, none⟩,
  /- LastTarget -/ ⟨0x7483, 0x0, 1, 0, 1, 0x04, 1, .u8, 0, 0, accRoRoRoRo, .int 0, none⟩,
  /- LastViolations -/ ⟨0x7483, 0x0, 1, 0, 1, 0x05, 1, .u16, 0, 0, accRoRoRoRo, .int 0, none⟩,
  /- LastFreezeTime -/ ⟨0x7483, 0x0, 1, 0, 1, 0x06, 1, .time80, 0, 0, accRoRoRoRo, .int 0, none⟩,
  /- LastIncident -/ ⟨0x7483, 0x0, 1, 0, 1, 0x07, 1, .u32, 0, 0, accRoRoRoRo, .int 0, none⟩,
  /- LogMinSeverity -/ ⟨0x7800, 0x0, 1, 0, 1, 0x01, 1, .u8, 0, 0, accRwcRwcRoRw, .int 0, (some ⟨0, 2, 1, []⟩)⟩,
  /- SafeStateResetS -/ ⟨0x7800, 0x0, 1, 0, 1, 0x02, 1, .u16, 0, 0, accRwcRwcRoRw, .int 0, (some ⟨0, 3600, 1, []⟩)⟩,
  /- ReadSequence -/ ⟨0x7801, 0x0, 1, 0, 1, 0x01, 1, .u32, 0, 0, accRwRwRwRw, .int 1, none⟩,
  /- Entry -/ ⟨0x7802, 0x0, 1, 0, 1, 0x01, 32, .octets, 0, 32, accRoRoRoRo, .oct [], none⟩,
  /- NewestSequence -/ ⟨0x7803, 0x0, 1, 0, 1, 0x01, 1, .u32, 0, 0, accRoRoRoRo, .int 0, none⟩]

/-- Object rows of the Shuttle, the Governor, the Selvedge, the log and the counters, R473, R486. -/
def rowsCtl2 : List ObjDef := [
  /- OldestSequence -/ ⟨0x7803, 0x0, 1, 0, 1, 0x02, 1, .u32, 0, 0, accRoRoRoRo, .int 0, none⟩,
  /- OpenDepth -/ ⟨0x7803, 0x0, 1, 0, 1, 0x03, 1, .u8, 0, 0, accRoRoRoRo, .int 0, none⟩,
  /- LogDropped -/ ⟨0x7803, 0x0, 1, 0, 1, 0x04, 1, .u32, 0, 0, accRoRoRoRo, .int 0, none⟩,
  /- TrackersInUse -/ ⟨0x7803, 0x0, 1, 0, 1, 0x05, 1, .u8, 0, 0, accRoRoRoRo, .int 0, none⟩,
  /- SafeCause -/ ⟨0x7803, 0x0, 1, 0, 1, 0x06, 1, .u8, 0, 0, accRoRoRoRo, .int 0, none⟩,
  /- LastFatalSequence -/ ⟨0x7803, 0x0, 1, 0, 1, 0x07, 1, .u32, 0, 0, accRoRoRoRo, .int 0, none⟩,
  /- CounterSelect -/ ⟨0x7C00, 0x0, 1, 0, 1, 0x01, 1, .u16, 0, 0, accRwRwRwRw, .int 0, (some ⟨0, 767, 1, []⟩)⟩,
  /- Value -/ ⟨0x7C01, 0x0, 1, 0, 1, 0x01, 32, .u64, 0, 0, accRoRoRoRo, .int 0, none⟩,
  /- NetReadGroups -/ ⟨0x7C02, 0x0, 1, 0, 1, 0x01, 1, .u16, 0, 0, accRwcRoRoRw, .int 0x3FE, none⟩,
  /- UserReadGroups -/ ⟨0x7C02, 0x0, 1, 0, 1, 0x02, 1, .u16, 0, 0, accRwcNoNoRw, .int 0x7FF, none⟩,
  /- SnapshotRequest -/ ⟨0x7C03, 0x0, 1, 0, 1, 0x01, 1, .bool, 0, 0, accWoWoWoWo, .none, none⟩,
  /- SnapshotSeq -/ ⟨0x7C03, 0x0, 1, 0, 1, 0x02, 1, .u32, 0, 0, accRoRoRoRo, .int 0, none⟩,
  /- SnapshotTime -/ ⟨0x7C03, 0x0, 1, 0, 1, 0x03, 1, .time80, 0, 0, accRoRoRoRo, .int 0, none⟩,
  /- SnapshotValue -/ ⟨0x7C04, 0x0, 1, 0, 1, 0x01, 32, .u64, 0, 0, accRoRoRoRo, .int 0, none⟩,
  /- InstrSampleCores -/ ⟨0x7C10, 0x0, 1, 0, 1, 0x01, 1, .u8, 0, 0, accRwcNoNoRw, .int 0, none⟩,
  /- InstrPeriod -/ ⟨0x7C10, 0x0, 1, 0, 1, 0x02, 1, .u32, 0, 0, accRwcNoNoRw, .int 100000, (some ⟨1000, 1000000000, 1, []⟩)⟩,
  /- InstrJitterBits -/ ⟨0x7C10, 0x0, 1, 0, 1, 0x03, 1, .u8, 0, 0, accRwcNoNoRw, .int 8, (some ⟨0, 16, 1, []⟩)⟩,
  /- SampleKernel -/ ⟨0x7C10, 0x0, 1, 0, 1, 0x04, 1, .bool, 0, 0, accRwcNoNoRw, .int 0, none⟩,
  /- RowSampleChannels -/ ⟨0x7C11, 0x0, 1, 0, 1, 0x01, 1, .u16, 0, 0, accRwcRwcRoRw, .int 0, none⟩,
  /- RowPeriod -/ ⟨0x7C11, 0x0, 1, 0, 1, 0x02, 1, .u16, 0, 0, accRwcRwcRoRw, .int 64, (some ⟨1, 65535, 1, []⟩)⟩,
  /- BufferLevel -/ ⟨0x7C12, 0x0, 1, 0, 1, 0x01, 1, .u16, 0, 0, accRoRoRoRo, .int 0, none⟩,
  /- SamplesLost -/ ⟨0x7C12, 0x0, 1, 0, 1, 0x02, 1, .u32, 0, 0, accRoRoRoRo, .int 0, none⟩]

/-- Object rows of the Shuttle, the Governor, the Selvedge, the log and the counters, R407. -/
def rowsCtlTwill0 : List ObjDef := [
  /- AffinityHoldNs -/ ⟨0xF000, 0x0, 1, 0, 1, 0x01, 1, .u32, 0, 0, accRwcRwcRoRw, .int 2000, (some ⟨0, 1000000, 1, []⟩)⟩,
  /- CancelGraceUs -/ ⟨0xF000, 0x0, 1, 0, 1, 0x02, 1, .u32, 0, 0, accRwcRwcRoRw, .int 100, (some ⟨10, 100000, 1, []⟩)⟩,
  /- DeferLimitMs -/ ⟨0xF000, 0x0, 1, 0, 1, 0x03, 1, .u16, 0, 0, accRwcRwcRoRw, .int 100, (some ⟨10, 60000, 1, []⟩)⟩,
  /- BulkDeferLimitMs -/ ⟨0xF000, 0x0, 1, 0, 1, 0x04, 1, .u16, 0, 0, accRwcRwcRoRw, .int 1000, (some ⟨10, 60000, 1, []⟩)⟩,
  /- GovernorPeriodUs -/ ⟨0xF100, 0x0, 1, 0, 1, 0x01, 1, .u16, 0, 0, accRwcRwcRoRw, .int 1000, (some ⟨500, 10000, 1, []⟩)⟩,
  /- RaiseLevelsPerPeriod -/ ⟨0xF100, 0x0, 1, 0, 1, 0x02, 1, .u8, 0, 0, accRwcRwcRoRw, .int 1, (some ⟨1, 7, 1, []⟩)⟩,
  /- FastCutPercent -/ ⟨0xF100, 0x0, 1, 0, 1, 0x03, 1, .u8, 0, 0, accRwcRwcRoRw, .int 10, (some ⟨5, 50, 1, []⟩)⟩,
  /- DramLoadCeilingPermille -/ ⟨0xF100, 0x0, 1, 0, 1, 0x04, 1, .u16, 0, 0, accRwcRwcRoRw, .int 950, (some ⟨500, 1000, 1, []⟩)⟩,
  /- LoomEffortCap -/ ⟨0xF101, 0x0, 1, 0, 1, 0x01, 16, .u8, 0, 0, accRwcRwcRoRw, .int 7, (some ⟨0, 7, 1, []⟩)⟩]

/-- All object rows of 0x0000–0x1FFF. -/
def rowsSystem : List ObjDef := rowsSystem0 ++ rowsSystem1 ++ rowsSystem2
/-- All object rows of the Reed. -/
def rowsReed : List ObjDef := rowsReed0 ++ rowsReed1 ++ rowsReedTwill0
/-- All object rows of the Press and the Unpickers. -/
def rowsPress : List ObjDef := rowsPress0 ++ rowsPress1 ++ rowsPress2 ++ rowsPressTwill0
/-- All object rows of the Loom, rate, darning and stream objects. -/
def rowsLoom : List ObjDef := rowsLoom0 ++ rowsLoom1 ++ rowsLoom2 ++ rowsLoomTwill0
/-- All object rows of the ports and the flow window. -/
def rowsMangle : List ObjDef := rowsMangle0 ++ rowsMangle1 ++ rowsMangleTwill0
/-- All object rows of the Timekeeper and audio. -/
def rowsTime : List ObjDef := rowsTime0 ++ rowsTime1 ++ rowsTime2 ++ rowsTimeTwill0
/-- All object rows of the lanes, the chain and the Beam. -/
def rowsLane : List ObjDef := rowsLane0 ++ rowsLane1 ++ rowsLaneTwill0
/-- All object rows of the Shuttle, the Governor, the Selvedge, the log and the counters. -/
def rowsCtl : List ObjDef := rowsCtl0 ++ rowsCtl1 ++ rowsCtl2 ++ rowsCtlTwill0

/-- R39: the rows among which an index is looked for; a Twill index stands with its Plain one. -/
def rowsFor (idx : Nat) : List ObjDef :=
  let p := if idx < 0x8000 then idx else idx - 0x8000
  if p < 0x2000 then rowsSystem
  else if p < 0x3000 then rowsReed
  else if p < 0x4000 then rowsPress
  else if p < 0x5000 then rowsLoom
  else if p < 0x6000 then rowsMangle
  else if p < 0x6800 then rowsTime
  else if p < 0x7000 then rowsLane
  else rowsCtl

/-- All object rows. -/
def allRows : List ObjDef :=
  rowsSystem ++ rowsReed ++ rowsPress ++ rowsLoom ++ rowsMangle ++ rowsTime ++ rowsLane ++ rowsCtl

/-- The row of an object. -/
def findDef (idx sub : Nat) : Option ObjDef := (rowsFor idx).find? (fun d => d.has idx sub)

/-- R39: whether an index is allocated. -/
def indexKnown (idx : Nat) : Bool := (rowsFor idx).any (fun d => d.hasIdx idx)

/-- R9: the highest subindex of an index. -/
def highestSub (idx : Nat) : Nat := maxOf ((rowsFor idx).map (fun d => if d.hasIdx idx then d.sub + d.subN - 1 else 0))

end Sys2Proof.Machine
end

