-- ==== Sys2Proof/Machine/State.lean ====
section
/-!
DEFINITION. Sys2Proof/Machine/State.lean: the state of the block, the reasons for which a step ends without a next state, and
the state right after reset.
-/

namespace Sys2Proof.Machine

/-- Why the machine stops. -/
inductive Fault where
  /-- FABRIC_TRANSACTION: a transaction crosses a 256-byte boundary or is longer than a tag carries, which R14 says a master
  must not issue and for which no effect is given. Safe: the hardware may go on. -/
  | badTransaction
  /-- FABRIC_TRANSACTION: a transaction of master 0 or 1, which no window limits, to an address that does not exist: beyond the 64 MiB of
  SRAM (R24) or of the register ring (R67). Safe: the hardware may go on. -/
  | noSuchAddress
  deriving DecidableEq, Repr

/-- Why the model gives a command no meaning. -/
inductive Refusal where
  /-- an arm of exec that has no meaning yet. Safe. -/
  | notModelled (mnemonic : String)
  deriving DecidableEq, Repr

/-- The state of the block. -/
structure State where
  /-- the commands that wait, first in first out; the model's own -/
  pending : List Instr := []
  clk : Clock := {}
  /-- object values in force by key; an object that is not listed reads its default (R36) -/
  objs : AMap Val := []
  /-- object values as committed, where a commit has set them and they may not yet be in force (R49, R52) -/
  conf : AMap Val := []
  draft : DraftSt := {}
  pcie : PcieSt := {}
  fab : FabSt := {}
  flash : Flash := {}
  fuses : Fuses
  boot : BootSt := {}
  log : LogSt := {}
  pmc : PmcSt := {}
  shtl : ShuttleSt := {}
  gov : GovSt := {}
  lanes : AMap LaneSt := []
  beam : BeamSt := {}
  time : TimeSt := {}
  audio : AudioAll := {}
  power : PowerSt := {}
  video : VideoSt := {}
  net : NetSt := {}
  /-- usable DRAM by byte address -/
  dram : Memory := []
  /-- the 64 MiB of SRAM by byte address, in the order of R24 (log entry 6) -/
  sram : Memory := []
  /-- the number of the next free value; the model's own -/
  freeCtr : Nat := 0
  deriving DecidableEq, Repr

/-- The fuses of the device that the model runs (log entry 7: every value is the model's choice within R515 and R500). -/
def Fuses.sample : Fuses where
  serial := 1
  romVersion := 0x0100
  macBase := 0x0024C8000000
  keyHash := []
  revoked := 0
  rollback := 0
  secret := []
  coreMv := 750

/-- A device after a reset that has kept only its fuses, its flash and the commands that wait. -/
def State.fresh (pending : List Instr) (fuses : Fuses) (flash : Flash) : State :=
  { pending := pending, fuses := fuses, flash := flash }

/-- R410, R468: the machine right after a power-on reset: nothing has started, the first Mending Log entry, that of the reset
itself, is asked for, and its pending bit is set. The flash holds no Pattern and no image and BootCount is 1 (log entry 7). -/
def State.reset : State :=
  { State.fresh [] Fuses.sample { bootCount := 1 } with
    log := { pending := 1, intake := [{ source := 0, code := 0, master := 255, unit := 255, detail := 0, severity := 0, time := 0, stepEpoch := 0 }] } }

end Sys2Proof.Machine
end

