-- ==== Sys2Proof/Machine/Ops.lean ====
section
/-!
DEFINITION. Sys2Proof/Machine/Ops.lean: the named operations over the state that every family uses: the clocks, the objects,
the records of what leaves the device, MSI-X vectors, events and requests for log entries.
-/

namespace Sys2Proof.Machine

/-- The outcome of every step of this model. -/
abbrev Result := Host.Outcome State Fault Refusal

/-! ## Clocks -/

/-- Units of the exact clocks in one nanosecond (log entry 4). -/
def unitsPerNs : Nat := 6000000000

/-- Presented time, ns since the epoch, floored (R303, R314). -/
def nowNs (s : State) : Nat := (s.clk.presented / (unitsPerNs : Int)).toNat

/-- Nanoseconds since the release of the last reset (R55 UptimeNs). -/
def uptimeNs (s : State) : Nat := s.clk.ticks * 25 / 6

/-- Whether so many nanoseconds have passed since a TIME_CLK count. -/
def passed (s : State) (since ns : Nat) : Bool := decide (ns * 6 ≤ (s.clk.ticks - since) * 25)

/-- The time of a domain clock, ns. -/
def domainNs (s : State) (d : Nat) : Nat :=
  ((if d = 0 then s.clk.primary else s.clk.redundant) / (unitsPerNs : Int)).toNat

/-- A time in ns as a TIME80 value: seconds × 2³² + nanoseconds (R37). -/
def time80 (ns : Nat) : Int := ((ns / 1000000000 * 4294967296 + ns % 1000000000 : Nat) : Int)

/-- The ns of a TIME80 value. -/
def ofTime80 (v : Int) : Nat := v.toNat / 4294967296 * 1000000000 + v.toNat % 4294967296

/-! ## Objects -/

/-- A reading of objects: a key's value. -/
abbrev Look := Nat → Val

/-- The number of an object in a reading. -/
def Look.int (g : Look) (k : Nat) : Int := (g k).toInt
/-- The number of an object in a reading, as a natural number. -/
def Look.nat (g : Look) (k : Nat) : Nat := (g k).toInt.toNat
/-- The truth of an object in a reading. -/
def Look.flag (g : Look) (k : Nat) : Bool := (g k).toInt != 0
/-- The bytes of an object in a reading. -/
def Look.oct (g : Look) (k : Nat) : Bytes := (g k).toBytes

/-- R77: the vector that an event source has by default. -/
def defaultVector (src : Nat) : Nat :=
  if src < 32 then 31
  else if src < 96 then 4 + (src - 32) / 4
  else if src < 160 then 4 + (src - 96) / 4
  else if src < 288 then 4 + (src - 160) / 8
  else if src < 384 then 20 + (src - 288) / 12
  else if src < 448 then 28
  else if src < 544 then 29
  else if src < 608 then 30
  else 3

/-- The link-local IPv6 address that a MAC address gives by the modified EUI-64 rule (R296; the rule is the family's, log
entry 8). -/
def linkLocal (mac : Bytes) : Bytes :=
  match mac with
  | [a, b, c, d, e, f] => [0xFE, 0x80, 0, 0, 0, 0, 0, 0, a ^^^ 2, b, c, 0xFF, 0xFE, d, e, f]
  | _ => List.replicate 16 0

/-- The MAC address of a port by the fuses (R515). -/
def fusedMac (f : Fuses) (p : Nat) : Bytes := beBytes 6 (f.macBase + p)

/-- The value of an object that nothing has set: its table's default, or what its rule derives from the fuses, from the
numbering of sources or from the ROM (R36, R55, R77, R280, R296, R515). Defaults that follow from other objects stand in
`Machine/Operands.lean`. -/
def baseDefault (f : Fuses) (k : Nat) : Val :=
  let idx := keyIdx k
  let sub := keySub k
  match findDef idx sub with
  | none => .int 0
  | some d =>
    match d.dflt with
    | .derived =>
      if idx = 0x1000 then (if sub = 3 then .int f.serial else .int f.romVersion)
      else if 0x1500 ≤ idx && idx < 0x1505 then .int (defaultVector ((idx - 0x1500) * 128 + sub - 1))
      else if 0x4000 ≤ idx && idx < 0x4800 then .int ((f.serial % 2 ^ 24 * 256 + 16 * ((idx - 0x4000) / 0x80) : Nat) : Int)
      else if 0x5000 ≤ idx && idx < 0x5800 && sub = 2 then .oct (fusedMac f ((idx - 0x5000) / 0x100))
      else if 0x6500 ≤ idx && idx < 0x6600 then
        .int (((f.serial % 2 ^ 24) ^^^ 0x800000) * 256 + (idx - 0x6500) / 0x10 : Nat)
      else if 0xA003 ≤ idx && idx < 0xA800 then
        (if sub = 5 then .oct ((List.range 1024).map fun i => Config.romFilter 0 0 i)
         else if sub = 6 then .oct ((List.range 768).map fun i => Config.romFilter 0 1 i)
         else d.tableDefault idx sub)
      else d.tableDefault idx sub
    | _ => d.tableDefault idx sub

/-- A reading of a value store over the base defaults. -/
def look (f : Fuses) (m : AMap Val) : Look := fun k => (AMap.find? m k).getD (baseDefault f k)

/-- The values in force (R49). -/
def State.obj (s : State) : Look := look s.fuses s.objs

/-- The values as committed (R51: what the next commit is validated against). -/
def State.cfg (s : State) : Look := look s.fuses s.conf

/-- An object's number in force. -/
def State.int (s : State) (k : Nat) : Int := (s.obj k).toInt
/-- An object's number in force, as a natural number. -/
def State.nat (s : State) (k : Nat) : Nat := (s.obj k).toInt.toNat
/-- An object's truth in force. -/
def State.flag (s : State) (k : Nat) : Bool := (s.obj k).toInt != 0

/-- An object set in force. -/
def State.put (s : State) (k : Nat) (v : Val) : State := { s with objs := AMap.put s.objs k v }
/-- An object set to a number. -/
def State.set (s : State) (k : Nat) (v : Int) : State := { s with objs := AMap.put s.objs k (.int v) }
/-- An object set to a natural number. -/
def State.setN (s : State) (k v : Nat) : State := { s with objs := AMap.put s.objs k (.int v) }

/-- A wrapping count of 32 bits raised by n (the status tables: counts wrap). -/
def State.add (s : State) (k n : Nat) : State := s.setN k ((s.nat k + n) % 2 ^ 32)
/-- A wrapping count raised by 1. -/
def State.bump (s : State) (k : Nat) : State := s.add k 1

/-- R475: a counter advances by k, modulo 2⁴⁸. -/
def State.count (s : State) (n k : Nat) : State :=
  { s with pmc := { s.pmc with counters := AMap.upd s.pmc.counters n 0 fun v => (v + k) % 2 ^ 48 } }

/-- A fresh number for a free value. -/
def State.nextFree (s : State) : State := { s with freeCtr := s.freeCtr + 1 }

/-! ## What leaves the device -/

/-- The record of an output (log entry 5). -/
def State.emit (s : State) (o : Sent) : State := { s with net := { s.net with sent := o :: s.net.sent } }

/-- A port of the Mangle. -/
def State.port (s : State) (p : Nat) : PortSt := AMap.getD s.net.ports p {}
/-- A port of the Mangle set. -/
def State.setPort (s : State) (p : Nat) (v : PortSt) : State :=
  { s with net := { s.net with ports := AMap.put s.net.ports p v } }

/-- Whether an address of 16 bytes is IPv4-mapped (R270). -/
def isMapped (a : Bytes) : Bool := a.take 12 == [0, 0, 0, 0, 0, 0, 0, 0, 0, 0, 0xFF, 0xFF]

/-- R270: a frame that carries a UDP datagram, with the tag and the marking of its class. -/
def udpFrame (s : State) (p cls : Nat) (dst : Bytes) (dport sport : Nat) (payload : Bytes) : TxFrame :=
  { port := p, cls := cls, tagged := true, vid := s.nat (K.portVlanId p), pcp := s.nat (K.portClassPcp p cls),
    ip := if isMapped dst then 4 else 6, dscp := s.nat (K.portClassDscp p cls),
    dst := dst, dport := dport, sport := sport, payload := payload }

/-- R290: how many descriptors of the transmit pool of classes 0 to 6 are taken on a port: one for each frame that is queued. -/
def PortSt.taken (ps : PortSt) : Nat := (ps.queues.map fun e => e.2.length).sum

/-- R290: the transmit pool of classes 0 to 6 holds 128 descriptors. -/
def PortSt.full (ps : PortSt) : Bool := decide (128 ≤ ps.taken)

/-- R25, R290: a frame takes a descriptor and goes to the end of its class queue, or waits with its producer while the pool is full or an
earlier frame waits. -/
def PortSt.enqueue (ps : PortSt) (f : TxFrame) : PortSt :=
  if ps.full || !ps.stalled.isEmpty then { ps with stalled := ps.stalled ++ [f] }
  else { ps with queues := AMap.upd ps.queues f.cls [] (fun q => q ++ [f]) }

/-- R290: a descriptor that has come free goes to the oldest frame that waits. -/
def PortSt.takeWaiting (ps : PortSt) : PortSt :=
  match ps.stalled with
  | [] => ps
  | f :: rest => if ps.full then ps else { ps with stalled := rest, queues := AMap.upd ps.queues f.cls [] (fun q => q ++ [f]) }

/-- A frame put at the end of its class queue. R464: in device safe state no Bolt frame is queued. -/
def State.queueFrame (s : State) (f : TxFrame) : State :=
  if s.log.safe then s else s.setPort f.port ((s.port f.port).enqueue f)

/-- R25: a message takes one of the 32 descriptors of its lane, or waits with its producer until one completes. -/
def ChainPortSt.enqueue (x : ChainPortSt) (m : ChainMsg) : ChainPortSt :=
  if 32 ≤ x.queue.length || !x.stalled.isEmpty then { x with stalled := x.stalled ++ [m] } else { x with queue := x.queue ++ [m] }

/-- R25: descriptors that have come free go to the oldest messages that wait. -/
def ChainPortSt.takeWaiting (x : ChainPortSt) : ChainPortSt :=
  let n := 32 - x.queue.length
  { x with queue := x.queue ++ x.stalled.take n, stalled := x.stalled.drop n }

/-- R250: a message put into the queue of a chain port, 0 upstream and 1 downstream. -/
def State.queueChain (s : State) (side cls : Nat) (b : Bytes) : State :=
  let c := s.net.chain
  let m : ChainMsg := { cls := cls, bytes := b }
  { s with net := { s.net with chain :=
      if side = 0 then { c with upPort := c.upPort.enqueue m } else { c with downPort := c.downPort.enqueue m } } }

/-! ## MSI-X -/

/-- A vector's registers. -/
def State.vec (s : State) (v : Nat) : VecSt := AMap.getD s.pcie.vecs v {}
/-- A vector's registers set. -/
def State.setVec (s : State) (v : Nat) (x : VecSt) : State :=
  { s with pcie := { s.pcie with vecs := AMap.put s.pcie.vecs v x } }

/-- A vector's message is sent now. -/
def State.fireVec (s : State) (v : Nat) : State :=
  let x := s.vec v
  (s.setVec v { x with pba := false, waiting := false, lastSent := some s.clk.ticks }).emit
    (.msix v (x.addrHi.toNat * 2 ^ 32 + x.addrLo.toNat) x.data.toNat)

/-- R78: a cause on a vector: a masked vector sets its PBA bit, as every vector does under the Function Mask; while MSI-X is not enabled
no message is sent; a cause within MinIntervalUs of the last message waits for the next one, and any other sends; 0xFF sends none. -/
def State.vector (s : State) (v : Nat) : State :=
  if 64 ≤ v then s
  else
    let x := s.vec v
    if x.masked || s.pcie.config.functionMask then s.setVec v { x with pba := true }
    else if !s.pcie.config.msixEnable then s
    else
      match x.lastSent with
      | some t =>
        if passed s t (s.nat (K.irqMinIntervalUs v) * 1000) then s.fireVec v else s.setVec v { x with waiting := true }
      | none => s.fireVec v

/-! ## Keys, tags and Shed headers -/

/-- R440: the bytes of a key slot, 16 the chain link key; a record that fails its tag gives none. -/
def keyBytes (s : State) (slot : Nat) : Bytes :=
  match AMap.find? s.flash.keys slot with
  | some r => if r.holds then r.value else []
  | none => []

/-- R62: a message tag: the first 16 bytes of HMAC-SHA-256 under a key slot. -/
def tagOf (s : State) (slot : Nat) (body : Bytes) : Bytes :=
  ((hmacSha256 (keyBytes s slot) body) ++ List.replicate 16 0).take 16

/-- R60: the key slot of a KeyId. -/
def slotOfKeyId (keyId : Nat) : Nat := if keyId = 0xFFFE then 16 else keyId

/-- R60: a message header with MessageStatus; KeyId 0xFFFF makes an untagged one. -/
def shedHeader (type keyId seq tid payLen items status sender : Nat) (target hop : Nat) : Bytes :=
  beBytes 2 0x5A44 ++ [1, BitVec.ofNat 8 type] ++ beBytes 2 (if keyId = 0xFFFF then 0 else 1) ++ beBytes 2 keyId
    ++ beBytes 8 seq ++ beBytes 4 tid ++ beBytes 2 payLen ++ [BitVec.ofNat 8 items, BitVec.ofNat 8 target, BitVec.ofNat 8 hop, 0]
    ++ beBytes 2 status ++ beBytes 4 sender

/-- R62: a whole message of the device's own, tagged under KeyId with the device's next Sequence for that key where KeyId names
one. When m has reached 2³² − 1, BootCount is raised and m starts again at 1. -/
def State.shedMessage (s : State) (type keyId tid : Nat) (items : List Bytes) (status sender : Nat) : State × Bytes :=
  let pay := items.flatten
  if keyId = 0xFFFF then
    (s, shedHeader type keyId 0 tid pay.length items.length status sender 0xFF 0 ++ pay)
  else
    let slot := slotOfKeyId keyId
    let m0 := AMap.getD s.draft.txCount slot 0
    let wrap := decide (2 ^ 32 - 1 ≤ m0)
    let m := if wrap then 1 else m0 + 1
    let boot := if wrap then (s.flash.bootCount + 1) % 2 ^ 32 else s.flash.bootCount
    let s1 := { s with draft := { s.draft with txCount := AMap.put s.draft.txCount slot m },
                       flash := { s.flash with bootCount := boot } }
    let body := shedHeader type keyId (boot * 2 ^ 32 + m) tid pay.length items.length status sender 0xFF 0 ++ pay
    (s1, body ++ tagOf s1 slot body)

/-! ## Log entry requests -/

/-- R320: the step epoch. -/
def stepEpoch (s : State) : Nat := s.nat K.timeStepCount % 256

/-- R469: a request for a log entry: below LogMinSeverity none is made; a request below Error that finds no place is dropped and
counted; an Error or Fatal one that finds none waits. -/
def State.logAsk (s : State) (r : LogReq) : State :=
  if r.severity < s.nat K.logLogMinSeverity then s
  else if 3 ≤ r.severity then
    (if s.log.intake.length < 64 then { s with log := { s.log with intake := s.log.intake ++ [r] } }
     else { s with log := { s.log with waiting := s.log.waiting ++ [r] } })
  else if (s.log.intake.filter fun q => decide (q.severity < 3)).length < 48 && decide (s.log.intake.length < 64) then
    { s with log := { s.log with intake := s.log.intake ++ [r] } }
  else State.count { s with log := { s.log with dropped := (s.log.dropped + 1) % 2 ^ 32 } } 733 1

/-! ## Events -/

/-- R456: the doorbell sources, which only wake their threads. -/
def isDoorbell (src : Nat) : Bool := (decide (608 ≤ src) && decide (src ≤ 611)) || (decide (616 ≤ src) && decide (src ≤ 623))

/-- R457: the default severity of each source. -/
def defaultSeverity (src : Nat) : Nat :=
  if src < 32 then [0, 1, 4, 4, 3, 2, 1, 1, 2].getD src 0
  else if src < 96 then [2, 1, 2, 1].getD ((src - 32) % 4) 0
  else if src < 160 then [1, 2, 1, 2].getD ((src - 96) % 4) 0
  else if src < 288 then [2, 1, 2, 1, 0, 2, 1, 0].getD ((src - 160) % 8) 0
  else if src < 384 then [1, 0, 2, 2, 1, 1, 1, 1, 0, 2, 1, 0].getD ((src - 288) % 12) 0
  else if src < 416 then (if src < 400 then [1, 1, 2, 2, 0, 2, 1, 1, 1].getD (src - 384) 0 else if src < 408 then 1 else 2)
  else if src < 448 then [2, 1, 1, 1].getD ((src - 416) % 4) 0
  else if src < 512 then [1, 0].getD ((src - 448) % 2) 0
  else if src < 544 then (if src < 520 then 1 else [2, 2, 4, 3, 3, 0, 2].getD (src - 520) 0)
  else if src < 576 then [1, 3, 2, 0, 0, 1, 3, 2, 2, 1, 2, 4].getD (src - 544) 0
  else if src < 608 then [3, 1, 3, 0, 1, 2, 3, 1, 1, 3, 3, 4].getD (src - 576) 0
  else [0, 0, 0, 0, 1, 1, 2, 2, 0, 0, 0, 0, 0, 0, 0, 0, 1, 1, 2, 0, 1, 2, 0, 2, 0, 1].getD (src - 608) 0

/-- R457: the sources that exist; a reserved source is never raised. -/
def isSource (src : Nat) : Bool :=
  decide (src < 9) || (decide (32 ≤ src) && decide (src < 393)) || (decide (400 ≤ src) && decide (src < 527))
    || (decide (544 ≤ src) && decide (src < 556)) || (decide (576 ≤ src) && decide (src < 588))
    || (decide (608 ≤ src) && decide (src < 634))

/-- What an event says (R470): source, code, master, unit and detail, with the severity of the case where its chapter names a
higher one. -/
structure Ev where
  src : Nat
  code : Nat := 0
  master : Nat := 255
  unit : Nat := 255
  detail : Nat := 0
  sev : Nat := 0
  /-- R459: the incident and depth of the handler whose own action it is -/
  action : Option (Nat × Nat) := none
  deriving DecidableEq, Repr

/-- R455: an event's severity: its source's default, or a higher one. -/
def Ev.severity (e : Ev) : Nat := max e.sev (defaultSeverity e.src)

/-- R457 and R458: the number that an EventNotify carries as Incident: for an Error or Fatal event the open incident, or the one
it will open (log entry 9). -/
def incidentFor (s : State) (sev : Nat) : Nat :=
  if sev < 3 then 0 else if s.log.openIncident = 0 then s.log.lastIncident + 1 else s.log.openIncident

/-- R64: an EventNotify to one subscriber, if it is in use and the severity meets its least one. -/
def State.notifyOne (s : State) (i : Nat) (src sev : Nat) : State :=
  let addr := (s.obj (K.shedDestAddress i)).toBytes
  if addr.all (· == 0) || decide (sev < s.nat (K.shedMinSeverity i)) then s
  else
    let held := AMap.getD s.draft.unacked i []
    if 64 ≤ held.length then { s with draft := { s.draft with notifyLost := AMap.upd s.draft.notifyLost i 0 (· + 1) } }
    else
      let item := beBytes 2 src ++ [BitVec.ofNat 8 sev, 0] ++ beBytes 4 (incidentFor s sev)
        ++ beBytes 6 (nowNs s / 1000000000) ++ beBytes 4 (nowNs s % 1000000000) ++ beBytes 2 0
      let tid := s.draft.nextTid
      let (s1, msg) := s.shedMessage 0x06 (s.nat (K.shedKeyId i)) tid [item] 0 0
      let p := s.nat (K.shedPort i)
      let s2 := { s1 with draft := { s1.draft with
        nextTid := (tid + 1) % 2 ^ 32,
        unacked := AMap.put s1.draft.unacked i (held ++ [({ tid := tid, bytes := msg, lastSent := s.clk.ticks } : Unacked)]) } }
      s2.queueFrame (udpFrame s2 p (s.nat K.shedShedTrafficClass) addr (s.nat (K.shedUdpPort i)) (s.nat K.shedShedUdpPort) msg)

/-- R64: an event's messages to the four subscribers. -/
def State.notify (s : State) (src sev : Nat) : State :=
  (List.range 4).foldl (fun s i => s.notifyOne i src sev) s

/-- R456, R78: an event's MSI-X messages: on its mapped vector and, at fatal severity, on the fatal vector too; one message where the two
are one vector. -/
def State.eventVector (s : State) (src sev : Nat) : State :=
  let v := s.nat (K.irqEventVector (src / 128) (src % 128))
  let f := s.nat K.irqFatalVector
  if sev = 4 && f != v then (s.vector v).vector f else s.vector v

/-- R470 TimeValid as a flag. -/
def timeValidFlag (s : State) : Nat := if s.log.timeValid then 32 else 0

/-- The request for an event's entry. -/
def Ev.request (e : Ev) (s : State) : LogReq :=
  { source := e.src, code := e.code, master := e.master, unit := e.unit, detail := e.detail, severity := e.severity,
    time := nowNs s, stepEpoch := stepEpoch s, flags := timeValidFlag s, action := e.action }

/-- R462: an entry of an ended window with later occurrences. -/
def State.endTracker (s : State) (t : Tracker) : State :=
  let s := { s with log := { s.log with trackers := s.log.trackers.filter (fun u => u != t) } }
  if t.count = 0 then s
  else s.logAsk { source := t.source, code := t.code, master := t.master, unit := t.unit, detail := t.count, severity := t.severity,
                  time := t.lastTime, stepEpoch := t.lastEpoch, flags := 4 + timeValidFlag s }

/-- R462: whether a tracker counts an event. -/
def Tracker.counts (t : Tracker) (e : Ev) : Bool :=
  t.source == e.src && t.code == e.code && t.master == e.master && t.unit == e.unit

/-- R456, R462 without the wake and the entry: the pending bit and, unless coalesced, the messages; answers whether the occurrence
writes an entry. -/
def State.signal (s : State) (e : Ev) : State × Bool :=
  if !isSource e.src || isDoorbell e.src then (s, false)
  else
    let sev := e.severity
    let s := { s with log := { s.log with pending := setBit s.log.pending e.src true } }
    let s :=
      match s.log.trackers.find? (·.counts e) with
      | some t => if passed s t.start 1000000000 then s.endTracker t else s
      | none => s
    match s.log.trackers.find? (·.counts e) with
    | some t =>
      if t.entries < 16 then
        let s := { s with log := { s.log with trackers := s.log.trackers.map fun u => if u = t then { t with entries := t.entries + 1 } else u } }
        ((s.eventVector e.src sev).notify e.src sev, true)
      else
        ({ s with log := { s.log with trackers := s.log.trackers.map fun u => if u = t then { t with count := t.count + 1, lastTime := nowNs s, lastEpoch := stepEpoch s } else u } }, false)
    | none =>
      let s :=
        if s.log.trackers.length < 64 then
          { s with log := { s.log with trackers := s.log.trackers ++ [{ source := e.src, code := e.code, master := e.master, unit := e.unit, start := s.clk.ticks, entries := 1, count := 0, severity := sev, lastTime := nowNs s, lastEpoch := stepEpoch s }] } }
        else s
      ((s.eventVector e.src sev).notify e.src sev, true)

/-- R456 without the wake: an event with its messages and its request for an entry. -/
def State.raiseBase (s : State) (e : Ev) : State :=
  let (s, entry) := s.signal e
  if entry then s.logAsk (e.request s) else s

/-- An event that is raised at most once in a second of UptimeNs; key names the limit. -/
def State.raiseBaseLimited (s : State) (key : Nat) (e : Ev) : State :=
  match AMap.find? s.log.lastRaise key with
  | some t =>
    if passed s t 1000000000 then
      State.raiseBase { s with log := { s.log with lastRaise := AMap.put s.log.lastRaise key s.clk.ticks } } e
    else s
  | none => State.raiseBase { s with log := { s.log with lastRaise := AMap.put s.log.lastRaise key s.clk.ticks } } e

/-- R394: a wake that finds the intake FIFO full waits at its source. -/
def State.stallWake (s : State) (t : Nat) : State := { s with shtl := { s.shtl with stalled := s.shtl.stalled ++ [t] } }

/-- R394: a wake of a thread enters the intake FIFO, or waits at its source while the FIFO is full; WakeIntakeFull, at the first such
wait in a second, wakes the thread bound to it as any event does, and that wake waits too. -/
def State.wakeThread (s : State) (t : Nat) : State :=
  if s.shtl.intake.length < 64 then { s with shtl := { s.shtl with intake := s.shtl.intake ++ [t] } }
  else
    let u := State.raiseBaseLimited (s.stallWake t) 544 { src := 544 }
    match AMap.find? s.shtl.bound 544 with
    | some b => if u.log.lastRaise = s.log.lastRaise then u else u.stallWake b
    | none => u

/-- R393, R456: the thread bound to a source is woken. -/
def State.wakeSource (s : State) (src : Nat) : State :=
  match AMap.find? s.shtl.bound src with
  | some t => s.wakeThread t
  | none => s

/-- R456, R469, source 629: dropped entries are reported at most once in a second. -/
def State.reportDrops (s0 s : State) : State :=
  if s0.log.dropped = s.log.dropped then s
  else
    let t := s.raiseBaseLimited 629 { src := 629 }
    if t.log.lastRaise = s.log.lastRaise then t else t.wakeSource 629

/-- R301 DescriptorsFull, R456: the transmit pool of classes 0 to 6 of a port has filled with what s does beyond s0. -/
def State.reportPool (s0 s : State) (p : Nat) : State :=
  if !(s0.port p).full && (s.port p).full then (s.raiseBase { src := 288 + 12 * p + 3, unit := p }).wakeSource (288 + 12 * p + 3) else s

/-- R456: an event is raised. -/
def State.raise (s : State) (e : Ev) : State :=
  let s1 := s.raiseBase e
  let s2 := if isSource e.src || isDoorbell e.src then s1.wakeSource e.src else s1
  State.reportDrops s ((List.range 8).foldl (fun t p => State.reportPool s t p) s2)

/-- An event that is raised at most once in a second; key names the limit. -/
def State.raiseLimited (s : State) (key : Nat) (e : Ev) : State :=
  match AMap.find? s.log.lastRaise key with
  | some t =>
    if passed s t 1000000000 then State.raise { s with log := { s.log with lastRaise := AMap.put s.log.lastRaise key s.clk.ticks } } e
    else s
  | none => State.raise { s with log := { s.log with lastRaise := AMap.put s.log.lastRaise key s.clk.ticks } } e

/-- R290, R301: a frame that a producer other than an event queues; DescriptorsFull where it fills the pool. -/
def State.sendFrame (s : State) (f : TxFrame) : State :=
  let t := s.queueFrame f
  if !(s.port f.port).full && (t.port f.port).full then t.raise { src := 288 + 12 * f.port + 3, unit := f.port } else t

/-! ## Time -/

/-- The rate of a domain clock in units per TIME_CLK period: 25/6 ns with its correction in ppb (R303). -/
def domainRate (s : State) (d : Nat) : Int := 25000000000 + 25 * s.int (K.domFreqAdjPpb d)

/-- R311: presented time advances with the active domain and, while it differs from it, closes the difference by at most
SlewLimitPpb. -/
def nextPresented (s : State) (target : Int) (rate : Int) : Int :=
  let p := s.clk.presented + rate
  let lim : Int := 25 * s.int K.timeSlewLimitPpb
  if p < target then min target (p + lim) else max target (p - lim)

/-- R23: what a block that runs on a clock divided from the Spindle does: nothing from the loss of the Spindle in service to the next
reset. -/
def whenClocked (s : State) (r : Result) : Result := if s.boot.clocksLost then .next s else r

/-- One TIME_CLK period passes (log entry 1); TIME_CLK is one of the clocks that stand still once the Spindle is lost (R23). -/
def tick (s : State) : State :=
  if s.boot.clocksLost then s else
  let p := s.clk.primary + domainRate s 0
  let r := s.clk.redundant + domainRate s 1
  let target := if s.time.active = 0 then p else r
  { s with clk := { s.clk with ticks := s.clk.ticks + 1, primary := p, redundant := r, presented := nextPresented s target (domainRate s s.time.active) } }

/-! ## Views that depend on several parts -/

/-- A lane's, a channel's or a loom's own state. -/
def State.reed (s : State) (c : Nat) : ReedSt := AMap.getD s.video.reed c {}
def State.setReed (s : State) (c : Nat) (r : ReedSt) : State :=
  { s with video := { s.video with reed := AMap.put s.video.reed c r } }
def State.press (s : State) (c : Nat) : PressSt := AMap.getD s.video.press c {}
def State.setPress (s : State) (c : Nat) (r : PressSt) : State :=
  { s with video := { s.video with press := AMap.put s.video.press c r } }
def State.chan (s : State) (c : Nat) : ChanSt := AMap.getD s.video.chans c {}
def State.setChan (s : State) (c : Nat) (r : ChanSt) : State :=
  { s with video := { s.video with chans := AMap.put s.video.chans c r } }
def State.loom (s : State) (l : Nat) : LoomSt := AMap.getD s.video.looms l {}
def State.setLoom (s : State) (l : Nat) (r : LoomSt) : State :=
  { s with video := { s.video with looms := AMap.put s.video.looms l r } }
def State.unp (s : State) (u : Nat) : UnpSt := AMap.getD s.video.unp u {}
def State.setUnp (s : State) (u : Nat) (r : UnpSt) : State :=
  { s with video := { s.video with unp := AMap.put s.video.unp u r } }
def State.lane (s : State) (n : Nat) : LaneSt := AMap.getD s.lanes n {}
def State.setLane (s : State) (n : Nat) (r : LaneSt) : State := { s with lanes := AMap.put s.lanes n r }
def State.dom (s : State) (d : Nat) : DomainSt := if d = 0 then s.time.dom0 else s.time.dom1
def State.setDom (s : State) (d : Nat) (x : DomainSt) : State :=
  { s with time := if d = 0 then { s.time with dom0 := x } else { s.time with dom1 := x } }

/-- Whether a master is frozen (R437). -/
def State.isFrozen (s : State) (m : Nat) : Bool := bit s.fab.frozen m

/-- R464: whether the looms, the Press, the Reed and the Unpickers stand still. -/
def State.videoStopped (s : State) : Bool := s.log.safe

/-- The mask of the looms in a state (R184 LoomState): 0 Spare, 1 InService, 2 Frozen, 3 Qualifying, 4 Quarantined. -/
def loomMaskIn (s : State) (st : Nat) : Nat := maskOf 16 (fun l => s.nat (K.loomGLoomState l) == st)

/-- R178: the spare looms that can take a position, in ascending number. -/
def spareLooms (s : State) : List Nat :=
  (List.range 16).filter fun l => s.nat (K.loomGLoomState l) == 0 && !s.isFrozen (11 + l)
    && !((List.range 16).any fun c => match (s.chan c).nextPositions with | some ls => ls.contains l | none => false)

/-- R178, R381 ChannelNotFitting: NotFittingMask is not 0, or a channel has a position whose loom stopped and that no spare takes. -/
def notFittingFlag (s : State) : Bool :=
  s.nat K.beamNotFittingMask != 0 || (List.range 16).any fun c =>
      ((s.chan c).positions.any (fun p => p.stopped.isSome && !p.resume)
        && (s.nat K.loomGSparePolicy != 1 || (spareLooms s).isEmpty))

/-- R55 StatusFlags. -/
def statusFlags (s : State) : Nat :=
  b2n s.boot.defaulted + 2 * b2n s.boot.boltReady + 4 * b2n s.boot.imageVerified + 8 * b2n s.boot.configCommitted
    + 16 * b2n (s.time.dom0.state == .locked) + 32 * b2n (s.time.dom1.state == .locked)
    + 64 * b2n (s.draft.held != 0) + 128 * b2n (loomMaskIn s 4 != 0)
    + 256 * b2n (decide (s.nat K.beamMaxSetPoint < s.beam.setPoint) && s.beam.trained)
    + 512 * b2n (notFittingFlag s)
    + 1024 * b2n ((List.range 16).any fun c => (s.press c).hems.any fun h => h.2.alarm)

/-- R55 DeviceState: 6 in device safe state, 5 in beam-failed state, 0 until Bolt is ready, 1 until a configuration is committed,
2 while no channel encodes, 3 while one does, and 4 while one does and StatusFlags bit 7, 8 or 9 is set (log entry 10). -/
def deviceState (s : State) : Nat :=
  if s.log.safe then 6
  else if s.beam.failed then 5
  else if !s.boot.boltReady || !s.boot.qualified then 0
  else if !s.boot.configCommitted then 1
  else if !(List.range 16).any (fun c => (s.chan c).encoding) then 2
  else if statusFlags s / 128 % 8 != 0 then 4
  else 3

/-- R465, R467: a DeviceReset write takes effect: not in a safe state that only WRST_N or PORST_N leaves, nor in a thermal one that has not
cooled. -/
def resetTaken (s : State) : Bool :=
  !(s.log.safe && ((decide (2 ≤ s.log.safeCause) && decide (s.log.safeCause ≤ 4)) || (s.log.safeCause == 5 && decide (950 ≤ s.int K.govJunctionMax))))

/-- R457 source 1: DeviceState is followed, and a change of it is raised. -/
def State.follow (s : State) : State :=
  let d := deviceState s
  if s.nat K.fastDeviceState = d then s else (s.setN K.fastDeviceState d).raise { src := 1, code := d }

end Sys2Proof.Machine
end

