-- ==== Sys2Proof/Machine/Dram.lean ====
section
/-!
DEFINITION. Sys2Proof/Machine/Dram.lean: the DRAM as a read sees it: the queued writes of the Beam over what the DRAM holds (R15, R369).
-/

namespace Sys2Proof.Machine

/-- R366: the Beam channel of an address. -/
def beamChannel (a : Nat) : Nat := (a / 256 % 8) ^^^ (a / 2097152 % 8)

/-- A Beam channel. -/
def State.bch (s : State) (n : Nat) : BeamChSt := AMap.getD s.beam.channels n {}
/-- A Beam channel set. -/
def State.setBch (s : State) (n : Nat) (x : BeamChSt) : State :=
  { s with beam := { s.beam with channels := AMap.put s.beam.channels n x } }
/-- Every Beam channel changed alike. -/
def State.eachBch (s : State) (f : BeamChSt → BeamChSt) : State := (List.range 8).foldl (fun s n => s.setBch n (f (s.bch n))) s

/-- R369: the byte that a write entry holds for an address. -/
def WriteEntry.byte? (e : WriteEntry) (a : Nat) : Option Byte :=
  if a / 64 = e.unit then AMap.find? e.data (a % 64) else none

/-- R369: whether a write entry covers any byte of a run, and whether every one. -/
def WriteEntry.meets (e : WriteEntry) (a n : Nat) : Bool := (List.range n).any fun i => (e.byte? (a + i)).isSome
def WriteEntry.covers (e : WriteEntry) (a n : Nat) : Bool := (List.range n).all fun i => (e.byte? (a + i)).isSome

/-- R369: the newest write entry that meets a run of bytes. -/
def newestMeeting (ws : List WriteEntry) (a n : Nat) : Option WriteEntry :=
  (ws.filter fun e => e.meets a n).foldl (fun b e => match b with | none => some e | some x => if x.seq < e.seq then some e else b) none

/-- R15, R369: a byte of the DRAM as a read sees it: the newest queued write that holds it, or else the DRAM. -/
def dramByte (s : State) (a : Nat) : Byte :=
  match newestMeeting (s.bch (beamChannel a)).writes a 1 with
  | some w => (w.byte? a).getD 0
  | none => Memory.read s.dram a

/-- A run of bytes of the DRAM as a read sees it; in beam-failed state zeros (R382). -/
def dramRead (s : State) (addr len : Nat) : Bytes :=
  if s.beam.failed then List.replicate len 0 else (List.range len).map fun i => dramByte s (addr + i)

end Sys2Proof.Machine
end

