-- ==== Sys2Proof/Machine/Operands.lean ====
section
/-!
DEFINITION. Sys2Proof/Machine/Operands.lean: the quantities that rules derive from object values: sizes, line periods, row
schedules, slot phases, floor costs, reference storage. Each is a function of a view of the objects, so that admission uses it on
the values of a commit and a command on the values in force. Times are exact rationals in ns.
-/

namespace Sys2Proof.Machine

/-- A view of the objects: the fuses and the values that are set. -/
structure View where
  fuses : Fuses
  vals : AMap Val
  deriving DecidableEq, Repr

/-- An object in a view. -/
def View.look (v : View) : Look := Machine.look v.fuses v.vals
def View.int (v : View) (k : Nat) : Int := (v.look k).toInt
def View.nat (v : View) (k : Nat) : Nat := (v.look k).toInt.toNat
def View.flag (v : View) (k : Nat) : Bool := (v.look k).toInt != 0
def View.oct (v : View) (k : Nat) : Bytes := (v.look k).toBytes
/-- Whether an object is set in a view. -/
def View.has (v : View) (k : Nat) : Bool := (AMap.find? v.vals k).isSome

/-- The values in force. -/
def State.view (s : State) : View := { fuses := s.fuses, vals := s.objs }
/-- The values as committed. -/
def State.cview (s : State) : View := { fuses := s.fuses, vals := s.conf }

/-- ⌈a⌉ of a rational, as a natural number. -/
def ceilN (a : Rat) : Nat := a.ceil.toNat
/-- ⌊a⌋ of a rational, as a natural number. -/
def floorN (a : Rat) : Nat := a.floor.toNat
/-- A rational rounded to nearest, halves up. -/
def roundI (a : Rat) : Int := (a + 1 / 2).floor
/-- A natural number as a rational. -/
def q (n : Nat) : Rat := (n : Rat)

/-- τ at the nominal reference, ns, and at −50 ppm (R146). -/
def tau : Rat := 4000
def tauMax : Rat := 40002 / 10

/-! ## Picture sizes (R98, R100, R114, R150) -/

/-- P, the picture period of channel c, ns. -/
def pictureNs (v : View) (c : Nat) : Rat :=
  q (1000000000 * v.nat (K.reedRateDen c)) / q (max 1 (v.nat (K.reedRateNum c)))

/-- The picture rate. -/
def pictureRate (v : View) (c : Nat) : Rat := q (v.nat (K.reedRateNum c)) / q (max 1 (v.nat (K.reedRateDen c)))

/-- Whether a rotation turns width into height. -/
def turned (v : View) (c : Nat) : Bool := v.nat (K.reedRotation c) % 2 == 1

/-- W_in and H_in: the rotated picture's size. -/
def inWidth (v : View) (c : Nat) : Nat := if turned v c then v.nat (K.reedHeight c) else v.nat (K.reedWidth c)
def inHeight (v : View) (c : Nat) : Nat := if turned v c then v.nat (K.reedWidth c) else v.nat (K.reedHeight c)

/-- Whether an axis is scaled (R100). -/
def hScaled (v : View) (c : Nat) : Bool := v.nat (K.reedOutWidth c) != 0
def vScaled (v : View) (c : Nat) : Bool := v.nat (K.reedOutHeight c) != 0

/-- The Reed's output size (R100). -/
def outWidth (v : View) (c : Nat) : Nat :=
  if !hScaled v c then inWidth v c
  else if v.has (K.reedHIncrement c) then ceilDiv (65536 * inWidth v c) (max 1 (v.nat (K.reedHIncrement c)))
  else v.nat (K.reedOutWidth c)
def outHeight (v : View) (c : Nat) : Nat :=
  if !vScaled v c then inHeight v c
  else if v.has (K.reedVIncrement c) then ceilDiv (65536 * inHeight v c) (max 1 (v.nat (K.reedVIncrement c)))
  else v.nat (K.reedOutHeight c)

/-- R100, R255: Δh and Δv, and the initial phases, as the Plain values give them. -/
def derivedHInc (v : View) (c : Nat) : Int :=
  if v.nat (K.reedSeamCanvas c) != 0 && v.nat (K.reedCanvasWidth c) != 0 then
    roundI (q (65536 * v.nat (K.reedSourceCanvasWidth c)) / q (v.nat (K.reedCanvasWidth c)))
  else if hScaled v c then roundI (q (65536 * inWidth v c) / q (max 1 (v.nat (K.reedOutWidth c)))) else 65536
def derivedVInc (v : View) (c : Nat) : Int :=
  if vScaled v c then roundI (q (65536 * inHeight v c) / q (max 1 (v.nat (K.reedOutHeight c)))) else 65536
def derivedHPhase (v : View) (c : Nat) : Int :=
  let d := derivedHInc v c
  let x0 := (d - 65536) / 2
  if v.nat (K.reedSeamCanvas c) != 0 then
    x0 + v.nat (K.reedCanvasX c) * d - 65536 * v.nat (K.reedSourceX c)
  else x0
def derivedVPhase (v : View) (c : Nat) : Int := (derivedVInc v c - 65536) / 2

/-- R114: the canvas. -/
def canvasW (v : View) (c : Nat) : Nat := if v.nat (K.pressCanvasWidth c) = 0 then outWidth v c else v.nat (K.pressCanvasWidth c)
def canvasH (v : View) (c : Nat) : Nat := if v.nat (K.pressCanvasHeight c) = 0 then outHeight v c else v.nat (K.pressCanvasHeight c)

/-- R150: the coded picture, its rows and the CTUs of a row. -/
def picW (v : View) (c : Nat) : Nat := ceilDiv (canvasW v c) 8 * 8
def picH (v : View) (c : Nat) : Nat := ceilDiv (canvasH v c) 8 * 8
def rowCount (v : View) (c : Nat) : Nat := ceilDiv (picH v c) 64
def ctuCols (v : View) (c : Nat) : Nat := ceilDiv (picW v c) 64

/-! ## Line periods and row times (R103, R138, R187, R518) -/

/-- R518: the line periods of a picture of so many lines. -/
def vTotal (height : Nat) : Nat := max 1 (ceilDiv (25 * height) 24)

/-- R518: L_in of the read raster of channel c. -/
def readLine (v : View) (c : Nat) : Rat := pictureNs v c / q (vTotal (v.nat (K.reedHeight c)))

/-- R98, R103: the line period of the channel's rows: the rotated line period when rotation is on. -/
def rowLine (v : View) (c : Nat) : Rat :=
  if turned v c then readLine v c * q (v.nat (K.reedHeight c)) / q (max 1 (inHeight v c)) else readLine v c

/-- R103: r_v. -/
def vRatio (v : View) (c : Nat) : Rat := if vScaled v c then q (inHeight v c) / q (max 1 (outHeight v c)) else 1

/-- R138, R187: channels paced by their canvas. -/
def paced (v : View) (c : Nat) : Bool := v.nat (K.reedSourceType c) == 0 || v.nat (K.reedSourceType c) == 4

/-- R187: the line period and the ratio that the row schedule uses. -/
def schedLine (v : View) (c : Nat) : Rat :=
  if paced v c then pictureNs v c / q (vTotal (canvasH v c)) else rowLine v c
def schedRatio (v : View) (c : Nat) : Rat := if paced v c then 1 else vRatio v c

/-- R187: the row interval I, ns. -/
def rowInterval (v : View) (c : Nat) : Rat := 64 * schedRatio v c * schedLine v c

/-- R187: the rotator delay as the schedule counts it. -/
def schedRot (v : View) (c : Nat) (rot : Bool) : Rat := if rot && !paced v c then 1 else 0

/-- R103: t_row(j) after T_k with a line period. -/
def tRowBy (v : View) (c : Nat) (rot : Bool) (j : Nat) (line : Rat) : Rat :=
  let n := min (inHeight v c - 1) ((((q (64 * j) + 127 / 2) * vRatio v c - 1 / 2).floor.toNat) + 3)
  (if rot then pictureNs v c else 0) + q (n + 5) * line

/-- R103: t_row(j) after T_k. -/
def tRow (v : View) (c : Nat) (rot : Bool) (j : Nat) : Rat := tRowBy v c rot j (rowLine v c)

/-- R138: t_row of a channel that the Press paces. -/
def tRowPaced (v : View) (c j : Nat) : Rat := q (min (canvasH v c - 1) (64 * j + 66) + 5) * schedLine v c

/-- R113: the source rectangle's height of a Reed layer. -/
def layerHeight (v : View) (c i : Nat) : Nat :=
  let d := v.nat (K.layerSourceRef c i)
  if v.nat (K.layerSrcHeight c i) = 0 then outHeight v d - v.nat (K.layerSrcY c i) else v.nat (K.layerSrcHeight c i)

/-- R138: the last row of Reed channel d that layer i places in row j of channel c, if it places a line there. -/
def layerLastRow (v : View) (c i j : Nat) : Option Nat :=
  let dst := v.int (K.layerDstY c i)
  let first := max dst (64 * j : Nat)
  let last := min (dst + layerHeight v c i) (min (64 * (j + 1)) (canvasH v c) : Nat) - 1
  if last < first then none else some ((v.nat (K.layerSrcY c i) + (last - dst).toNat) / 64)

/-- R138: t_press(j) after T_k, with the line period of channel c throughout; rots says of each channel whether its rotator delay is in
force. -/
def tPress (v : View) (rots : Nat → Bool) (c j : Nat) : Rat :=
  let own := if paced v c then tRowPaced v c j else tRow v c (rots c) j
  let all := (List.range 16).foldl (fun (m : Rat) i =>
    if v.flag (K.layerEnable c i) && v.nat (K.layerSourceKind c i) == 1 then
      match layerLastRow v c i j with
      | some jd => max m (tRowBy v (v.nat (K.layerSourceRef c i)) (rots (v.nat (K.layerSourceRef c i))) jd (schedLine v c))
      | none => m
    else m) own
  all + 2 * schedLine v c

/-! ## Slots (R187 to R194) -/

/-- R187: A(k, j) after T_k. -/
def rowRef (v : View) (c : Nat) (rot : Bool) (j : Nat) : Rat := schedRot v c rot * pictureNs v c + q j * rowInterval v c

/-- R188: the encode latency for an offset of so many rows. -/
def latencyNs (v : View) (c : Nat) (rot : Bool) (rows : Nat) : Rat :=
  schedRot v c rot * pictureNs v c + q (rows * 64) * schedLine v c

/-- R209: Δ_step. -/
def latencyStep (v : View) (c : Nat) : Nat :=
  1 + floorN ((pictureNs v c - q (rowCount v c) * rowInterval v c) / rowInterval v c)

/-- R192: M. -/
def phases (v : View) (c : Nat) : Nat :=
  ceilN ((q (ctuCols v c - 1) * tauMax + 8000) / rowInterval v c) + 1

/-- R194: SlotRate, bit/s. -/
def slotRate (v : View) (c : Nat) : Nat := v.nat (K.rateBitrate c) * v.nat (K.rateSlotFactor c) / 16

/-- R194: r, bits in one ns, for a slot rate. -/
def phaseRate (v : View) (c rate : Nat) : Rat := q rate / q (max 1 (phases v c)) / 1000000000

/-- R194: Cap for a slot rate and a lag. -/
def slotCap (v : View) (c rate : Nat) (lag : Rat) : Nat :=
  floorN (phaseRate v c rate * (q (phases v c) * rowInterval v c - lag))

/-- R196: Bitrate × P in bits. -/
def pictureBits (v : View) (c : Nat) : Nat := floorN (q (v.nat (K.rateBitrate c)) * pictureNs v c / 1000000000)

/-! ## Ports (R272 to R282) -/

/-- The line rate of a port, Mb/s, by its binding (R279, R343, R345): 0 where nothing is bound. -/
def portRateMbps (v : View) (p : Nat) : Nat :=
  let b := v.nat (K.quadPortBinding p)
  if b = 0xFF then 0
  else
    if 0x40 ≤ b then (if b < 0x48 && v.nat (K.quadQuadMode (b - 0x40)) = 1 then 100000 else 0)
    else if b < 32 && v.nat (K.quadQuadMode (b / 4)) = 2 then
      (match v.nat (K.quadLineRate (b / 4)) with | 0 => 10000 | 2 => 25000 | 4 => 1000 | _ => 0)
    else 0

/-- Whether a port is enabled and bound. -/
def portUsable (v : View) (p : Nat) : Bool := v.flag (K.portPortEnable p) && portRateMbps v p != 0

/-- R273: t_max of a port, ns. -/
def tMax (v : View) (p : Nat) : Rat := q ((v.nat (K.portMaxIpBytes p) + 42) * 8 * 1000) / q (max 1 (portRateMbps v p))

/-- The ports that carry a channel: PortA and PortB, 0xFF left out. -/
def channelPorts (v : View) (c : Nat) : List Nat :=
  [v.nat (K.streamPortA c), v.nat (K.streamPortB c)].filter (fun p => decide (p < 8))

/-- Whether a channel is encoded in a view. -/
def encoded (v : View) (c : Nat) : Bool := v.flag (K.loomEncodeEnable c)

/-- R279: Q of a port. -/
def portPhases (v : View) (p : Nat) : Nat :=
  ((List.range 16).map fun c => if encoded v c then phases v c * ((channelPorts v c).filter (· == p)).length else 0).sum

/-- R282: the IP header bytes of a leg of channel c, 0 for A and 1 for B. -/
def legIpHeader (v : View) (c leg : Nat) : Nat :=
  if isMapped (v.oct (if leg = 0 then K.streamDestAddressA c else K.streamDestAddressB c)) then 20 else 40

/-- The port of a leg. -/
def legPort (v : View) (c leg : Nat) : Nat := if leg = 0 then v.nat (K.streamPortA c) else v.nat (K.streamPortB c)

/-- R282, R285: Pmax of a channel. -/
def pMax (v : View) (c : Nat) : Nat :=
  let legs := [0, 1].filter (fun l => decide (legPort v c l < 8))
  if v.nat (K.streamStreamFormat c) = 1 then 1288
  else match legs.map (fun l => v.nat (K.portMaxIpBytes (legPort v c l)) - legIpHeader v c l - 37) with
    | [] => 1443
    | a :: t => t.foldl min a

/-- R282, R285: W_c on a leg, bit/s. -/
def wireRate (v : View) (c leg : Nat) : Rat :=
  let pm := max 1 (pMax v c)
  let h := (if v.nat (K.streamStreamFormat c) = 1 then 450 else 79) + legIpHeader v c leg
  q (slotRate v c) * q (pm + h) / q pm + pictureRate v c * q ((2 * rowCount v c + 3) * 8 * h)

/-- R279: G_c for channel c on a gate list: the longest run, taken cyclically, of entries that keep its row gate closed. -/
def longestClosed (l : GateList) (c : Nat) : Nat :=
  let open_ (e : GateEntry) : Bool := bit e.gates 7 && bit e.rows c
  if l.entries.all (fun e => !open_ e) then l.cycle
  else
    let runs := (l.entries ++ l.entries).foldl (fun (acc : Nat × Nat) e =>
      if open_ e then (acc.1, 0) else (max acc.1 (acc.2 + e.interval), acc.2 + e.interval)) (0, 0)
    min runs.1 l.cycle

/-- R276: the automatic list of a port. -/
def automaticList (v : View) (p : Nat) : GateList :=
  { entries := [{ interval := v.nat (K.portCycleNs p), gates := 0xFF,
                  rows := maskOf 16 fun c => encoded v c && (channelPorts v c).contains p }],
    cycle := v.nat (K.portCycleNs p), base := ofTime80 (v.int (K.portBaseTime p)) }

/-- R276: the entries that a GateList value spells. -/
def parseEntries : Bytes → List GateEntry
  | b0 :: b1 :: b2 :: b3 :: g :: _ :: r0 :: r1 :: t =>
    { interval := ofBeBytes [b0, b1, b2, b3], gates := g.toNat, rows := ofBeBytes [r0, r1] } :: parseEntries t
  | _ => []

/-- R276: the bytes of a list of entries. -/
def entryBytes (l : List GateEntry) : Bytes :=
  (l.map fun e => beBytes 4 e.interval ++ [BitVec.ofNat 8 e.gates, 0] ++ beBytes 2 e.rows).flatten

/-- R276, R298: the list that a port's Twill values give. -/
def twillList (v : View) (p : Nat) : GateList :=
  let auto := automaticList v p
  let cycle := if v.has (K.portGateCycleNs p) then v.nat (K.portGateCycleNs p) else auto.cycle
  { entries := if v.has (K.portGateList p) then parseEntries (v.oct (K.portGateList p))
               else auto.entries.map fun e => { e with interval := cycle },
    cycle := cycle,
    base := if v.has (K.portGateBaseTime p) then ofTime80 (v.int (K.portGateBaseTime p)) else auto.base,
    twill := true }

/-- R279: the phase lag Λ of channel c on a port's list, ns; the largest over its ports is the channel's. -/
def phaseLag (v : View) (lists : Nat → GateList) (c : Nat) : Rat :=
  (channelPorts v c).foldl (fun (m : Rat) p =>
    max m (q (longestClosed (lists p) c) + q (portPhases v p + 2) * tMax v p)) 0

/-! ## Floor costs (R170, R171, R199) -/

/-- R171: bounds of a CTU's floor codings by chroma format (0 4:2:0, 1 4:2:2). -/
def losslessBits (chroma : Nat) : Nat := if chroma = 0 then 73728 else 98304
def intraBits (chroma : Nat) : Nat := if chroma = 0 then 1024 else 1280

/-- Whether an enabled hem region of channel c is lossless. -/
def hemLossless (v : View) (c h : Nat) : Bool := v.flag (K.hemHemEnable c h) && v.flag (K.hemLossless c h)

/-- R170: whether CTU (x, j) of channel c is lossless. -/
def isLossless (v : View) (c x j : Nat) : Bool :=
  (List.range 16).any fun h =>
    hemLossless v c h &&
    (let m : Nat := if v.nat (K.loomCodec c) = 1 then 8 else 0
     let x0 := v.nat (K.hemX c h) - m
     let y0 := v.nat (K.hemY c h) - m
     let x1 := min (v.nat (K.hemX c h) + v.nat (K.hemWidth c h) + m) (picW v c)
     let y1 := min (v.nat (K.hemY c h) + v.nat (K.hemHeight c h) + m) (picH v c)
     decide (x0 < 64 * (x + 1)) && decide (64 * x < x1) && decide (y0 < 64 * (j + 1)) && decide (64 * j < y1))

/-- R170: the CTU columns of row j that are lossless, as (first, end) runs per region, and whether there is any. -/
def losslessInRow (v : View) (c j : Nat) : List Bool :=
  if (List.range 16).any (hemLossless v c) then (List.range (ctuCols v c)).map fun x => isLossless v c x j
  else List.replicate (ctuCols v c) false

/-- 0x4002:0A LosslessCtus. -/
def losslessCount (v : View) (c : Nat) : Nat :=
  ((List.range (rowCount v c)).map fun j => ((losslessInRow v c j).filter (·)).length).sum

/-- R199: the units before the first CTU of row j, in bits. -/
def headBits (j : Nat) : Nat := 512 + (if j = 0 then 12288 else 0)

/-- R199: the units after the last CTU of row j, in bits. -/
def endBits (v : View) (c j : Nat) : Nat :=
  if j + 1 = rowCount v c then
    (if (List.range 16).any (fun h => v.flag (K.hemHemEnable c h) && v.flag (K.hemPublish c h)) then 4096 else 0)
      + (if v.nat (K.loomPictureHash c) = 0 then 0 else 512)
  else 0

/-- R199: f_x for a CTU that is lossless or not, in the band or not. -/
def ctuFloor (chroma : Nat) (lossless band : Bool) : Nat :=
  if lossless then losslessBits chroma else if band then intraBits chroma else 96

/-- R199: the per-CTU floors of row j with the band at columns b to b + w − 1. -/
def rowFloors (v : View) (c j b w : Nat) : List Nat :=
  (losslessInRow v c j).zipIdx.map fun (l, x) => ctuFloor (v.nat (K.loomChromaFormat c)) l (decide (b ≤ x) && decide (x < b + w))

/-- R199: F_j with the band at columns b to b + w − 1; w = 0 for none. -/
def rowFloorBits (v : View) (c j b w : Nat) : Nat := headBits j + (rowFloors v c j b w).sum + endBits v c j

/-- R229: F_j at the band position that gives the largest result. -/
def rowFloorWorst (v : View) (c j w : Nat) : Nat :=
  let l := losslessInRow v c j
  let n := l.length
  let base := headBits j + endBits v c j + (l.map fun b => ctuFloor (v.nat (K.loomChromaFormat c)) b false).sum
  let extra := intraBits (v.nat (K.loomChromaFormat c)) - 96
  base + extra * maxOf ((List.range n).map fun b => ((l.drop b).take w |>.filter (!·)).length)

/-- R199: the picture floor F at the worst band position. -/
def pictureFloor (v : View) (c : Nat) : Nat :=
  let w := v.nat (K.darnBandColumns c)
  let n := ctuCols v c
  let rows := (List.range (rowCount v c)).map (fun j => losslessInRow v c j)
  let base := ((List.range (rowCount v c)).map fun j => headBits j + endBits v c j).sum
    + ((rows.map fun l => (l.map fun b => ctuFloor (v.nat (K.loomChromaFormat c)) b false).sum)).sum
  let extra := intraBits (v.nat (K.loomChromaFormat c)) - 96
  base + extra * maxOf ((List.range n).map fun b => ((rows.map fun l => ((l.drop b).take w |>.filter (!·)).length)).sum)

/-! ## Looms (R153, R191) -/

/-- R153: the rows of a picture of channel c that position p of n takes. -/
def rowsAt (v : View) (c p n : Nat) : Nat := (rowCount v c + n - 1 - p) / n

/-- R153: coded samples in a second that position p of n carries for channel c. -/
def codedLoad (v : View) (c p n : Nat) : Rat :=
  pictureRate v c * q (64 * ctuCols v c * 64 * rowsAt v c p n)

/-- R153: active samples in a second, for the whole channel. -/
def activeRate (v : View) (c : Nat) : Rat := pictureRate v c * q (canvasW v c * canvasH v c)

/-- The looms of an assignment: for each channel its looms by position. -/
abbrev Assign := AMap (List Nat)

/-- R151, R152, R191: the state of the schedule of one loom: free times. The rows of picture k of a channel in the order of
t_press are run through their looms; answers D_min of channel c. `k0` pictures of each channel are run. -/
structure SchedRow where
  chan : Nat
  row : Nat
  press : Rat
  ref : Rat
  loom : Nat
  deriving DecidableEq, Repr

/-- R152: rows in order of t_press, the lower channel first. -/
def SchedRow.le (a b : SchedRow) : Bool := decide (a.press < b.press) || (a.press == b.press && decide (a.chan ≤ b.chan))

/-- R191: the rows of the first `pics` pictures of a channel. -/
def schedRows (v : View) (rots : Nat → Bool) (a : Assign) (c pics : Nat) : List SchedRow :=
  let ls := AMap.getD a c []
  let rows := (List.range (rowCount v c)).map fun j => (j, tPress v rots c j, rowRef v c (rots c) j)
  ((List.range pics).map fun k =>
    let t := q k * pictureNs v c + q (v.nat (K.reedReadPhaseNs c))
    rows.map fun (j, pr, rf) =>
      ({ chan := c, row := j, press := t + pr, ref := t + rf, loom := ls.getD (j % max 1 ls.length) 0 } : SchedRow)).flatten

/-- R191: the larger of D_min so far and what the rows give, with the looms' free times. -/
def runSched (v : View) (c : Nat) (rows : List SchedRow) : Rat :=
  (rows.foldl (fun (acc : AMap Rat × Rat) r =>
    let free := AMap.getD acc.1 r.loom 0
    let st := max r.press free
    (AMap.put acc.1 r.loom (st + q (ctuCols v r.chan) * tauMax),
     if r.chan = c then max acc.2 (st + tauMax + 2000 - r.ref) else acc.2)) (([] : AMap Rat), (0 : Rat))).2

/-- The greatest common divisor of two positive rationals. -/
def ratGcd (a b : Rat) : Rat := ((Int.gcd (a.num * b.den) (b.num * a.den) : Nat) : Rat) / q (a.den * b.den)

/-- R191: D_min of channel c. A channel that shares its loom is run over one hyperperiod of the two rasters after a first one, so that the
looms' free times are those of the steady state; any other over two pictures. -/
def dMin (v : View) (rots : Nat → Bool) (a : Assign) (c : Nat) : Rat :=
  let mine := AMap.getD a c []
  let other := (List.range 16).find? fun d => d != c && ((AMap.getD a d []).any fun l => mine.contains l)
  match other with
  | none => runSched v c (schedRows v rots a c 2)
  | some d =>
    let pc := pictureNs v c
    let pd := pictureNs v d
    let g := ratGcd pc pd
    let rows := (schedRows v rots a c (2 * floorN (pd / g)) ++ schedRows v rots a d (2 * floorN (pc / g))).mergeSort SchedRow.le
    runSched v c rows

/-- R191: MinLatencyRows. -/
def minLatency (v : View) (rots : Nat → Bool) (a : Assign) (c : Nat) : Nat :=
  max 2 (ceilN (dMin v rots a c / (64 * schedLine v c)))

/-! ## Sweeps (R219, R231, R262) -/

/-- R219: S. -/
def sweepLength (v : View) (c : Nat) : Nat := ceilDiv (ctuCols v c) (max 1 (v.nat (K.darnBandColumns c)))

/-- R262: the effective period n of a seam channel; of any other channel RefreshPeriod. -/
def effectivePeriod (v : View) (c : Nat) : Nat :=
  if v.nat (K.reedSeamCanvas c) = 0 then v.nat (K.darnRefreshPeriod c)
  else if v.nat (K.darnRefreshPeriod c) != 0 then v.nat (K.darnRefreshPeriod c)
  else ceilDiv (ceilDiv (v.nat (K.reedCanvasWidth c)) 64) (max 1 (v.nat (K.darnBandColumns c))) + v.nat (K.darnPostponeSlack c)

/-- R232: the first transmitting port of a channel. -/
def firstPort (v : View) (c : Nat) : Nat :=
  if v.nat (K.streamPortA c) = 0xFF then v.nat (K.streamPortB c) else v.nat (K.streamPortA c)

/-- R232: the stagger set of channel c, ascending; empty for a channel that belongs to none. -/
def staggerSet (v : View) (c : Nat) : List Nat :=
  if !encoded v c || firstPort v c == 0xFF || v.nat (K.darnRefreshPeriod c) == 0 || v.nat (K.reedSeamCanvas c) != 0 then []
  else (List.range 16).filter fun d =>
    encoded v d && firstPort v d == firstPort v c && v.nat (K.reedRateNum d) == v.nat (K.reedRateNum c)
      && v.nat (K.reedRateDen d) == v.nat (K.reedRateDen c) && v.nat (K.darnRefreshPeriod d) == v.nat (K.darnRefreshPeriod c)
      && v.nat (K.reedSeamCanvas d) == 0

/-- R231, R232, R262: the offset of periodic sweeps. -/
def periodOffset (v : View) (c : Nat) : Nat :=
  let n := effectivePeriod v c
  if v.nat (K.reedSeamCanvas c) != 0 then
    (v.nat (K.reedSeamRefreshOffset c) + v.nat (K.reedCanvasX c) / 64 / max 1 (v.nat (K.darnBandColumns c))) % max 1 n
  else if v.nat (K.darnStartOffset c) != 0xFFFF then v.nat (K.darnStartOffset c)
  else
    let set := staggerSet v c
    match set.zipIdx.find? (·.1 == c) with
    | some (_, i) => i * n / set.length
    | none => 0

/-! ## Surfaces (R118, R126 to R128) -/

/-- R127: the worst-case bytes of a pressed surface of a size. -/
def pressedBytes (w h : Nat) : Nat :=
  let b := ceilDiv w 16 * ceilDiv h 16
  ceilDiv (8 * b) 256 * 256 + 1280 * b

/-- R118: the size of buffer 0 where BufferStride is 0, and the bytes that admission counts (R128). -/
def surfaceBytes (v : View) (c i : Nat) : Nat :=
  if v.nat (K.layerSurfaceFormat c i) = 2 then
    pressedBytes (v.nat (K.layerSurfaceWidth c i)) (v.nat (K.layerSurfaceHeight c i))
  else v.nat (K.layerPitch c i) * v.nat (K.layerSurfaceHeight c i)

/-- R118: the span of a buffer. -/
def bufferSpan (v : View) (c i : Nat) : Nat :=
  if v.nat (K.layerBufferStride c i) = 0 then surfaceBytes v c i else v.nat (K.layerBufferStride c i)

/-- R118: the buffer of layer (c, i) in which an address lies. -/
def bufferOf (v : View) (c i addr : Nat) : Option Nat :=
  (List.range (v.nat (K.layerBuffers c i))).find? fun b =>
    let lo := v.nat (K.layerSurfaceBase c i) + b * v.nat (K.layerBufferStride c i)
    decide (lo ≤ addr) && decide (addr < lo + bufferSpan v c i)

/-- R29: bytes in a picture that a DRAM-sourced layer adds. -/
def layerBytes (v : View) (c i : Nat) : Nat :=
  if !v.flag (K.layerEnable c i) then 0
  else if v.nat (K.layerSourceKind c i) = 2 then
    (if v.nat (K.layerSurfaceFormat c i) = 2 && v.nat (K.layerMaxBytes c i) != 0 then v.nat (K.layerMaxBytes c i)
     else surfaceBytes v c i)
  else if v.nat (K.layerSourceKind c i) = 3 then
    (let w := if v.nat (K.layerSrcWidth c i) = 0 then 3840 else min 3840 (v.nat (K.layerSrcWidth c i))
     let h := if v.nat (K.layerSrcHeight c i) = 0 then 2160 else min 2160 (v.nat (K.layerSrcHeight c i))
     w * h * 5 / 2)
  else 0

/-- R131: bytes in a picture that the safe images of a channel add. -/
def safeBytes (v : View) (c : Nat) : Nat :=
  ((List.range 16).map fun h =>
    if v.flag (K.hemHemEnable c h) && v.nat (K.hemPolicy c h) == 1 then
      pressedBytes (v.nat (K.hemWidth c h)) (v.nat (K.hemHeight c h)) else 0).sum

/-- R29: the DRAM cost of channel c in bytes a second with so many references searched: its Reed's terms, its canvas and its
DRAM-sourced layers. -/
def dramCost (v : View) (rots : Nat → Bool) (c refs : Nat) : Rat :=
  let f := pictureRate v c
  let reed : Rat :=
    if v.nat (K.reedSourceType c) = 0 then 0
    else q (4 * (1 + b2n (rots c))) * q (v.nat (K.reedWidth c) * v.nat (K.reedHeight c))
      + 1 / 32 * q (outWidth v c * outHeight v c)
  let out : Rat := if v.nat (K.loomChromaFormat c) = 0 then 3 / 2 else 2
  let loom : Rat := if encoded v c then q (1 + refs) * out * q (canvasW v c * canvasH v c) else 0
  let layers := ((List.range 16).map fun i => layerBytes v c i).sum + safeBytes v c
  f * (5 / 4 * (reed + loom) + q layers)

/-- R30: the sustained bandwidth of a set point, bytes a second (0 is 8533 MT/s): 80 % of 8 × 4 bytes × rate; the table's figures are
rounded. -/
def sustained (point : Nat) : Rat :=
  [(218444800000 : Rat), 192000000000, 163840000000].getD point 163840000000

/-! ## Logarithms to base 2, rounded (R198, R205) -/

/-- round(e × log2(a / b)) for positive e, a and b: the n with 2^(2n − 1) ≤ (a / b)^(2e) < 2^(2n + 1), by search; 0 where a
quantity is 0. -/
def roundLog2 (e a b : Nat) : Int :=
  if a = 0 || b = 0 || e = 0 then 0
  else if b ≤ a then
    (((List.range 400).foldl (fun (m : Nat) i => if b ^ (2 * e) * 2 ^ (2 * i) ≤ a ^ (2 * e) * 2 then i else m) 0 : Nat) : Int)
  else
    -(((List.range 400).foldl (fun (m : Nat) i => if a ^ (2 * e) * 2 ^ (2 * i + 1) < b ^ (2 * e) then i + 1 else m) 0 : Nat) : Int)

/-! ## Weft links (R349, R352) -/

/-- Whether a lane carries blocks. -/
def LaneMode.works : LaneMode → Bool
  | .up => true | .soak => true | _ => false

/-- The quad of a lane. -/
def quadMode (v : View) (n : Nat) : Nat := v.nat (K.quadQuadMode (n / 4))

/-- R349: the number of a lane's last block within the run of FrameSeq, once a Framing block has come. -/
def LaneSt.position (x : LaneSt) : Option Nat := x.lastFrameSeq.map fun n => n * 1024 + x.sinceFrame

/-- R349: whether the lanes of a link can be deskewed: none lags another by more than 64 blocks. -/
def deskewed (s : State) (ls : List Nat) : Bool :=
  let at_ := ls.filterMap fun n => (s.lane n).position
  at_.all fun a => at_.all fun b => decide ((a + 2 ^ 34 - b) % 2 ^ 34 ≤ 64) || decide ((b + 2 ^ 34 - a) % 2 ^ 34 ≤ 64)

/-- R352: whether a link is up: its lanes are, in weft mode, and their deskew succeeds. -/
def linkLanesUp (s : State) (ls : List Nat) : Bool :=
  (ls.all fun n => (s.lane n).mode.works && quadMode s.view n == 4) && deskewed s ls

/-- R351, R352: whether the picture link of quad x is up. -/
def pictureLinkUp (s : State) (x : Nat) : Bool :=
  s.nat (K.quadWeftRole x) == 1 && linkLanesUp s [4 * x, 4 * x + 1, 4 * x + 2, 4 * x + 3]

end Sys2Proof.Machine
end

