-- ==== Sys2Proof/Machine/Effects.lean ====
section
/-!
DEFINITION. Sys2Proof/Machine/Effects.lean: how the values of an accepted commit come into force (R46, R52, R53).
-/

namespace Sys2Proof.Machine

/-- R42: the function of a Plain index, and of a Twill index. -/
def functionOf (idx : Nat) : Nat := if 0x8000 ≤ idx then (idx - 0x8000) / 128 else idx / 128

/-- R42: whether an index is a Twill index. -/
def isTwill (idx : Nat) : Bool := decide (0x9100 ≤ idx) && decide (idx < 0x10000)

/-- R52: whether an index belongs to a part of a function: 0 any index; 1 the shaper parameters of a port, from 0xD004 on; 2 its gate
list, 0xD001. -/
def inPart (part idx : Nat) : Bool :=
  match part with
  | 0 => true
  | 1 => decide (4 ≤ idx % 256)
  | _ => decide (idx % 256 < 4)

/-- R46: a value store without the Twill values that a release code names. -/
def dropTwill (code : Nat) (m : AMap Val) : AMap Val :=
  m.filter fun e => !(isTwill (keyIdx e.1) && functionOf (keyIdx e.1) == code % 512 && inPart (code / 512) (keyIdx e.1))

/-- R46, R52: one effect on a value store: its releases first, then its values. -/
def applyTo (e : Effect) (m : AMap Val) : AMap Val :=
  e.items.foldl (fun m x => AMap.put m x.1 x.2) (e.releases.foldl (fun m f => dropTwill f m) m)

/-- R52: a commit whose last effect has taken place reports Applied. -/
def CommitStat.follow (x : CommitStat) (rest : List Effect) : CommitStat :=
  if x.state = 3 && !(rest.any fun e => e.id == x.id) then { x with state := 4, status := 0x0003 } else x

/-- R419, R381: EncodeEnable does not come into force while a channel may not encode; `old` holds the values before. -/
def gateEncodes (shut : Nat → Bool) (old m : AMap Val) : AMap Val :=
  (List.range 16).foldl (fun m c =>
    if shut c && ((AMap.find? old (K.loomEncodeEnable c)).getD (.int 0)).toInt == 0 && (AMap.find? m (K.loomEncodeEnable c)).isSome then AMap.put m (K.loomEncodeEnable c) (.int 0) else m) m

/-- Whether a channel may not encode: the encode gate has not opened, or the channel is shed. -/
def mayNotEncode (s : State) (c : Nat) : Bool := !s.boot.gateOpen || bit (s.nat K.beamShedMask) c

end Sys2Proof.Machine
end

