-- ==== Sys2Proof/Machine/Flags.lean ====
section
/-!
DEFINITION. Sys2Proof/Machine/Flags.lean: check codes and status words: CRC-64 of hem signatures, CRC-32C of records, and the
layout of the words that status registers show.
-/

namespace Sys2Proof.Machine

/-- One bit step of a CRC that is not reflected. -/
def crcStep (w poly : Nat) (c : Nat) : Nat := if bit c (w - 1) then ((c * 2) % 2 ^ w) ^^^ poly else (c * 2) % 2 ^ w

/-- Eight bit steps with a byte entering at the top. -/
def crcByte (w poly c : Nat) (b : Byte) : Nat :=
  (List.range 8).foldl (fun c _ => crcStep w poly c) (c ^^^ (b.toNat * 2 ^ (w - 8)))

/-- R130: the signature of a run of bytes, going on from a state. -/
def crc64 (c : Nat) (b : Bytes) : Nat := b.foldl (crcByte 64 0x42F0E1EBA9EA3693) c

/-- One byte of the reflected CRC-32C. -/
def crc32cByte (c : Nat) (b : Byte) : Nat :=
  (List.range 8).foldl (fun c _ => if c % 2 = 1 then (c / 2) ^^^ 0x82F63B78 else c / 2) (c ^^^ b.toNat)

/-- R422: CRC-32C of a run of bytes. -/
def crc32c (b : Bytes) : Nat := (b.foldl crc32cByte 0xFFFFFFFF) ^^^ 0xFFFFFFFF

/-- R130: a 10-bit sample as it enters a signature. -/
def sampleBytes (v : Nat) : Bytes := beBytes 2 (v % 1024)

/-- A register word of a number. -/
def word (v : Nat) : Word := BitVec.ofNat 32 v

end Sys2Proof.Machine
end

