-- ==== Sys2Proof/Machine/Values.lean ====
section
/-!
DEFINITION. Sys2Proof/Machine/Values.lean: object values as bytes, the checks of type, length and range that every write passes (R37,
R40, R47), and the flags of an object (R36, R423).
-/

namespace Sys2Proof.Machine

/-! ## Bytes (R37) -/

/-- R37: a value as bytes. -/
def encodeVal (ty : OType) (v : Val) : Bytes :=
  match ty with
  | .str => v.toBytes
  | .octets => v.toBytes
  | _ => beBytes ty.size (toPattern (8 * ty.size) v.toInt)

/-- R37: the value that bytes of the right length spell. -/
def decodeVal (ty : OType) (b : Bytes) : Val :=
  match ty with
  | .str => .oct b
  | .octets => .oct b
  | _ => .int (if ty.signed then ofPattern (8 * ty.size) (ofBeBytes b) else (ofBeBytes b : Int))

/-- R37: whether bytes are UTF-8: n bytes of a character are still to come, the first of them between lo and hi. -/
def utf8Tail : Bytes → Nat → Nat → Nat → Bool
  | [], n, _, _ => n == 0
  | b :: t, 0, _, _ =>
    let x := b.toNat
    if x < 0x80 then utf8Tail t 0 0 0
    else if 0xC2 ≤ x && x < 0xE0 then utf8Tail t 1 0x80 0xBF
    else if x = 0xE0 then utf8Tail t 2 0xA0 0xBF
    else if x = 0xED then utf8Tail t 2 0x80 0x9F
    else if 0xE1 ≤ x && x < 0xF0 then utf8Tail t 2 0x80 0xBF
    else if x = 0xF0 then utf8Tail t 3 0x90 0xBF
    else if 0xF1 ≤ x && x < 0xF4 then utf8Tail t 3 0x80 0xBF
    else if x = 0xF4 then utf8Tail t 3 0x80 0x8F
    else false
  | b :: t, n + 1, lo, hi => decide (lo ≤ b.toNat) && decide (b.toNat ≤ hi) && utf8Tail t n 0x80 0xBF

/-- R37: whether a value is one of its type's encodings. -/
def encodingOk (ty : OType) (b : Bytes) : Bool :=
  match ty with
  | .bool => decide (ofBeBytes b < 2)
  | .f32 => decide (ofBeBytes b / 2 ^ 23 % 256 < 255)
  | .time80 => decide (ofBeBytes b % 2 ^ 32 < 1000000000)
  | .str => utf8Tail b 0 0 0
  | _ => true

/-- 16-bit numbers, big-endian, of a string of bytes, each within bounds. -/
def allWithin (lo hi : Int) : Bytes → Bool
  | a :: b :: t => (let x := ofPattern 16 (a.toNat * 256 + b.toNat); decide (lo ≤ x) && decide (x ≤ hi)) && allWithin lo hi t
  | _ => true

/-- The limits that chapters put on the content of OCTETS values: R101 coefficients, R123 LUT entries, R125 curve points and offsets, R515
unicast MAC addresses. -/
def contentOk (idx sub : Nat) (b : Bytes) : Bool :=
  let p := idx % 0x8000
  if 0xA000 ≤ idx && idx < 0xA800 && p % 0x80 = 3 then allWithin (-512) 1535 b
  else if 0xB000 ≤ idx && idx < 0xB800 && decide (0x10 ≤ p % 0x80) && decide (p % 0x80 < 0x20) then
    (if sub = 1 || sub = 4 then allWithin 0 4096 b else if sub = 3 then allWithin (-4096) 4096 b else true)
  else if idx = 0xBF01 then allWithin 0 4096 b
  else if 0x5000 ≤ idx && idx < 0x5800 && idx % 0x100 = 0 && sub = 2 then (match b with | x :: _ => x.toNat % 2 == 0 | [] => true)
  else true

/-! ## Objects (R36, R40, R42, R423) -/

/-- R423: whether an object is Persistent: its Host access is RWC, and it is no key slot, no Commit object and not PatternImage. -/
def persistent (d : ObjDef) (idx sub : Nat) : Bool :=
  d.acc.host == .rwc && !(decide (0x1180 ≤ idx) && decide (idx < 0x1188)) && idx != 0x1F00 && objKey idx sub != K.bootPatternImage

/-- R61: the flags of an object: bit 0 Fast, 1 Twill, 2 Persistent, 3 Resizable (no object of the tables is Resizable). -/
def flagsOf (d : ObjDef) (idx sub : Nat) : Nat :=
  b2n (decide (0x1000 ≤ idx) && decide (idx < 0x1100)) + 2 * b2n (isTwill idx) + 4 * b2n (persistent d idx sub)

/-- R36: the maximum length of an object's value. -/
def maxLength (d : ObjDef) : Nat := if d.ty.size = 0 then d.maxLen else d.ty.size

/-- R40: subindex 0 of an index whose table gives it none of its own: U8, read-only, the highest subindex. -/
def subZero (idx : Nat) : ObjDef := ⟨idx, 0, 1, 0, 1, 0, 1, .u8, 0, 0, accRoRoRoRo, .int (highestSub idx), none⟩

/-- R39, R40: the row of an index and subindex, or the status that refuses it. -/
def lookup (idx sub : Nat) : Except Nat ObjDef :=
  match findDef idx sub with
  | some d => .ok d
  | none => if !indexKnown idx then .error stNoSuchObject else if sub = 0 then .ok (subZero idx) else .error stNoSuchSubindex

/-- R47: the value of a write, validated for type, length and range. -/
def checkValue (d : ObjDef) (idx sub : Nat) (ty : Nat) (b : Bytes) : Except Nat Val :=
  if ty != d.ty.code then .error stTypeMismatch
  else if d.ty.size = 0 then
    (if decide (b.length < d.minLen) || decide (d.maxLen < b.length) then .error stLengthMismatch
     else if !encodingOk d.ty b || !contentOk idx sub b then .error stOutOfRange
     else .ok (.oct b))
  else if b.length != d.ty.size then .error stLengthMismatch
  else if !encodingOk d.ty b then .error stOutOfRange
  else
    let v := decodeVal d.ty b
    match d.rng with
    | some r => if r.holds v.toInt then .ok v else .error stOutOfRange
    | none => .ok v

/-- R428: the same checks for a value already decoded. -/
def valueOk (d : ObjDef) (idx sub : Nat) (v : Val) : Bool :=
  match checkValue d idx sub d.ty.code (encodeVal d.ty v) with
  | .ok w => w == v
  | .error _ => false

end Sys2Proof.Machine
end

