-- ==== Sys2Proof/Machine/Pattern.lean ====
section
/-!
DEFINITION. Sys2Proof/Machine/Pattern.lean: stored Patterns: their header, records and check word (R421, R422), what a save writes (R423,
R426), and the migration of older schemas (R428, R429).
-/

namespace Sys2Proof.Machine

/-! ## The format (R422) -/

/-- R422: a field of a Pattern, n bytes from an offset, big-endian. -/
def patField (b : Bytes) (at_ n : Nat) : Nat := ofBeBytes ((b.drop at_).take n)

/-- R422: a Pattern's Length. -/
def patLength (b : Bytes) : Nat := patField b 12 4

/-- R421: whether a slot is a candidate: Magic, Seal, and a Length within the slot. -/
def patCandidate (b : Bytes) : Bool :=
  patField b 0 4 == 0x5A535054 && patField b 60 4 == 0 && decide (68 ≤ patLength b) && decide (patLength b ≤ 4194304)
    && decide (patLength b ≤ b.length)

/-- R422: whether the check word holds: CRC-32C over bytes 0 to 59 and every record. -/
def patCheck (b : Bytes) : Bool :=
  let n := patLength b
  decide (68 ≤ n) && decide (n ≤ b.length) && crc32c (b.take 60 ++ (b.take (n - 4)).drop 64) == patField b (n - 4) 4

/-- R422: the records of a Pattern: key, type code and value bytes; at most `fuel` of them. -/
def patRecords : Nat → Bytes → List (Nat × Nat × Bytes)
  | 0, _ => []
  | fuel + 1, b =>
    if b.length < 8 then []
    else
      let len := patField b 4 4
      (objKey (patField b 0 2) (patField b 2 1), patField b 3 1, (b.drop 8).take len) :: patRecords fuel (b.drop (8 + ceilDiv len 4 * 4))

/-- R422: all records of a Pattern whose Length and RecordCount its header gives. -/
def patAll (b : Bytes) : List (Nat × Nat × Bytes) := patRecords (patField b 16 4) ((b.take (patLength b - 4)).drop 64)

/-- The value of a record by the type code that it carries. -/
def recordVal (ty : Nat) (b : Bytes) : Val :=
  match [OType.bool, .i8, .i16, .i32, .u8, .u16, .u32, .f32, .str, .octets, .i64, .u64, .time80].find? fun t => t.code == ty with
  | some t => decodeVal t b
  | none => .oct b

/-- A Pattern's records as values by key. -/
def patValues (b : Bytes) : AMap Val := (patAll b).foldl (fun m r => AMap.put m r.1 (recordVal r.2.1 r.2.2)) []

/-! ## What a save writes (R423, R426) -/

/-- A record of a value. -/
def patRecord (k : Nat) (ty : OType) (v : Val) : Bytes :=
  let b := encodeVal ty v
  beBytes 2 (keyIdx k) ++ [BitVec.ofNat 8 (keySub k), BitVec.ofNat 8 ty.code] ++ beBytes 4 b.length ++ b
    ++ List.replicate (ceilDiv b.length 4 * 4 - b.length) 0

/-- R422: a whole Pattern of values by key, ascending, with its Generation; sealed or not. -/
def patImage (s : State) (generation : Nat) (vals : AMap Val) (sealed : Bool) : Bytes :=
  let recs := vals.filterMap fun e => (findDef (keyIdx e.1) (keySub e.1)).map fun d => patRecord e.1 d.ty e.2
  let body := recs.flatten
  let now := time80 (nowNs s)
  let head := beBytes 4 0x5A535054 ++ beBytes 2 5 ++ beBytes 2 64 ++ beBytes 4 generation ++ beBytes 4 (68 + body.length)
    ++ beBytes 4 recs.length ++ beBytes 2 0x9140 ++ [0xB1, 0] ++ beBytes 10 now.toNat ++ beBytes 8 s.fuses.serial ++ List.replicate 18 0
  head ++ (if sealed then [0, 0, 0, 0] else [0xFF, 0xFF, 0xFF, 0xFF]) ++ body ++ beBytes 4 (crc32c (head ++ body))

/-- R423: the Persistent values in force that differ from their defaults, with HoldBits. Flow contexts (keys from 2²⁴) have no record: a
record names an index and a subindex only. -/
def snapshot (s : State) : AMap Val :=
  let kept := s.objs.filter fun e =>
    decide (e.1 < 2 ^ 24) &&
      (match findDef (keyIdx e.1) (keySub e.1) with
       | some d => persistent d (keyIdx e.1) (keySub e.1) && (e.2 != baseDefault s.fuses e.1 || isTwill (keyIdx e.1))
       | none => false)
  (List.range 8).foldl (fun m n =>
    let w : Nat := s.draft.held / 2 ^ (32 * n) % 2 ^ 32
    if w = 0 then AMap.del m (K.holdHoldBits n) else AMap.put m (K.holdHoldBits n) (.int (w : Nat))) kept

/-- R426: the slot, 0 A and 1 B, that is not the chosen one, and the Generation after the chosen Pattern's. -/
def saveSlot (s : State) : Nat := if s.nat K.bootPatternSlot = 0 then 1 else 0
def nextGeneration (s : State) : Nat := (s.nat K.bootPatternGeneration + 1) % 2 ^ 32

/-- R426: an image with its Generation set afresh, and its check word with it. -/
def withGeneration (b : Bytes) (g : Nat) (sealed : Bool) : Bytes :=
  let b := b.take (patLength b)
  let head := b.take 8 ++ beBytes 4 g ++ (b.take 60).drop 12
  let body := (b.take (b.length - 4)).drop 64
  head ++ (if sealed then [0, 0, 0, 0] else [0xFF, 0xFF, 0xFF, 0xFF]) ++ body ++ beBytes 4 (crc32c (head ++ body))

/-- R427: a supplied image: Magic, Schema and check word. -/
def imageOk (b : Bytes) : Bool :=
  patField b 0 4 == 0x5A535054 && decide (1 ≤ patField b 4 2) && decide (patField b 4 2 ≤ 5) && patCheck b

/-! ## Migration (R428, R429) -/

/-- A migration's records so far, and how many it has dropped. -/
structure Migr where
  recs : AMap Val
  dropped : Nat := 0
  deriving DecidableEq, Repr

/-- R428, 1 → 2: 0x2040–0x204F + 0x80 × c move to 0x6400 + 0x10 × c. -/
def migrate12 (m : Migr) : Migr :=
  { m with recs := m.recs.foldl (fun r e =>
      let i := keyIdx e.1
      let o := (i - 0x2000) % 0x80
      if 0x2000 ≤ i && i < 0x2200 && 0x40 ≤ o && o < 0x50 then AMap.put r (objKey (0x6400 + 0x10 * ((i - 0x2000) / 0x80)) (keySub e.1)) e.2
      else AMap.put r e.1 e.2) [] }

/-- R429: what one schema-2 record becomes; none where it is dropped. -/
def map6120 (m : AMap Val) (k : Nat) (v : Val) : List (Nat × Val) :=
  let i := keyIdx k
  let u := keySub k
  let c := i % 0x1000 / 0x80
  let o := i % 0x80
  if 0x2000 ≤ i && i < 0x2200 then (if o = 0 && 8 ≤ u && u ≤ 0x0C then [(k, v)] else [])
  else if 0x4000 ≤ i && i < 0x4200 then
    (if o = 0 && u = 1 then [(k, .int 0)]
     else if o = 0 && u = 2 then [(k, .int 0)]
     else if o = 0 && u = 3 then [(k, v)]
     else if o = 0x10 && u = 1 then [(k, .int (clampInt 10000000 2400000000 v.toInt))]
     else if o = 0x11 && u = 1 then [(K.rateLatencyRows c, .int 16)]
     else if o = 0x11 && u = 2 then [(K.loomMaxEffort c, .int (([1, 3, 5, 7] : List Int).getD v.toInt.toNat 7))]
     else if o = 0x11 && u = 3 then
       (let w := ((AMap.find? m (K.reedWidth c)).getD (.int 3840)).toInt.toNat
        let s := ceilDiv (ceilDiv w 64) 2
        [(K.darnRefreshPeriod c, .int (if (s : Int) + 4 ≤ v.toInt then v.toInt else 0))])
     else [])
  else if 0x6400 ≤ i && i < 0x6480 && i % 0x10 = 0 && 2 ≤ u && u ≤ 7 then [(k, v), (K.audClockMode ((i - 0x6400) / 0x10), .int 1)]
  else if (i = 0x5000 || i = 0x5100) && 2 ≤ u && u ≤ 8 then [(k, v)]
  else if i = 0x6010 && (u = 2 || u = 3) then [(k, v)]
  else []

/-- R428, 2 → 3. -/
def migrate23 (m : Migr) : Migr :=
  m.recs.foldl (fun r e =>
    match map6120 m.recs e.1 e.2 with
    | [] => { r with dropped := r.dropped + 1 }
    | l => { r with recs := l.foldl (fun x y => AMap.put x y.1 y.2) r.recs }) { recs := [], dropped := m.dropped }

/-- R428, 3 → 4: BandColumns 1 for each channel without a record. -/
def migrate34 (m : Migr) : Migr :=
  { m with recs := (List.range 16).foldl (fun r c => if (AMap.find? r (K.darnBandColumns c)).isSome then r else AMap.put r (K.darnBandColumns c) (.int 1)) m.recs }

/-- R428, 4 → 5: entries of six bytes gain the mask of the channels that the port carries. -/
def widenEntries (mask : Nat) : Nat → Bytes → Bytes
  | 0, _ => []
  | fuel + 1, b => if b.length < 6 then [] else b.take 6 ++ beBytes 2 mask ++ widenEntries mask fuel (b.drop 6)

/-- R428, 4 → 5: the channels whose PortA or PortB is a port. -/
def carriedBy (m : AMap Val) (p : Nat) : Nat :=
  maskOf 16 fun c => ((AMap.find? m (K.streamPortA c)).getD (.int 0xFF)).toInt == p || ((AMap.find? m (K.streamPortB c)).getD (.int 0xFF)).toInt == p

/-- R428, 4 → 5. -/
def migrate45 (m : Migr) : Migr :=
  let r := (List.range 8).foldl (fun r p =>
    match AMap.find? r (K.portGateList p) with
    | some v => AMap.put r (K.portGateList p) (.oct (widenEntries (carriedBy m.recs p) v.toBytes.length v.toBytes))
    | none => r) m.recs
  { m with recs := if (AMap.find? r K.shedShedTrafficClass) == some (.int 7) then AMap.put r K.shedShedTrafficClass (.int 6) else r }

/-- R428: a record that names no object of schema 5, or whose value its object cannot hold, is dropped and counted. -/
def fitRecords (m : Migr) : Migr :=
  m.recs.foldl (fun r e =>
    match findDef (keyIdx e.1) (keySub e.1) with
    | some d =>
      if persistent d (keyIdx e.1) (keySub e.1) && valueOk d (keyIdx e.1) (keySub e.1) e.2 then { r with recs := AMap.put r.recs e.1 e.2 }
      else { r with dropped := r.dropped + 1 }
    | none => { r with dropped := r.dropped + 1 }) { recs := [], dropped := m.dropped }

/-- R428: records of a schema brought step by step to schema 5. -/
def migrate (schema : Nat) (recs : AMap Val) : Migr :=
  let m : Migr := { recs := recs }
  let m := if schema ≤ 1 then migrate12 m else m
  let m := if schema ≤ 2 then migrate23 m else m
  let m := if schema ≤ 3 then migrate34 m else m
  let m := if schema ≤ 4 then migrate45 m else m
  if schema ≤ 4 then fitRecords m else m

end Sys2Proof.Machine
end

