-- ==== Sys2Proof/Machine/Apply.lean ====
section
/-!
DEFINITION. Sys2Proof/Machine/Apply.lean: the effects of accepted commits taking place (R52, R53), and what follows from a commit that
has reached Applied: its message on the commit vector (R77) and, with AutoSave, a save (R426).
-/

namespace Sys2Proof.Machine

/-- A status object set where it differs. -/
def State.showVal (s : State) (k : Nat) (v : Val) : State := if s.obj k = v then s else s.put k v

/-- R421: a configuration slot of the flash, 0 A and 1 B. -/
def Flash.cfg (f : Flash) (slot : Nat) : Bytes := if slot = 0 then f.cfgA else f.cfgB
def Flash.setCfg (f : Flash) (slot : Nat) (b : Bytes) : Flash := if slot = 0 then { f with cfgA := b } else { f with cfgB := b }

/-- R426: a save of an image begins: the slot that is not the chosen one holds it unsealed. -/
def State.saveBegin (s : State) (b : Bytes) : State :=
  State.setN { s with boot := { s.boot with saving := some b }, flash := s.flash.setCfg (saveSlot s) b } K.bootSaveState 1

/-- R426: the image of a save of the values in force, and of a supplied Pattern, with Seal left open. -/
def snapshotImage (s : State) : Bytes := patImage s (nextGeneration s) (snapshot s) false
def suppliedImage (s : State) (b : Bytes) : Bytes := withGeneration b (nextGeneration s) false

/-- R426: a request for a save; while a save runs, requests are coalesced into one further save. -/
def State.saveAsk (s : State) : State :=
  if s.boot.saving.isSome then { s with boot := { s.boot with saveAgain := true } } else s.saveBegin (snapshotImage s)

/-- R427: a supplied Pattern is to be written; while a save runs, it is written when that one ends. -/
def State.saveSupplied (s : State) (b : Bytes) : State :=
  if s.boot.saving.isSome then { s with boot := { s.boot with saveImage := some b } } else s.saveBegin (suppliedImage s b)

/-- What follows when a commit has reached Applied. -/
def State.applied (s : State) : State :=
  let s := s.vector (s.nat K.irqCommitVector)
  if s.flag K.bootAutoSave then s.saveAsk else s

/-- R52, R53: the effects that a test picks take place, in commit order. -/
def State.applyEffects (s : State) (due : Effect → Bool) : State :=
  let now := s.draft.effects.filter due
  if now.isEmpty then s
  else
    let rest := s.draft.effects.filter fun e => !due e
    let d := s.draft
    let ids := ((now.map (·.id)).filter fun i => !(rest.any fun e => e.id == i)).eraseDups
    let s := { s with objs := gateEncodes (mayNotEncode s) s.objs (now.foldl (fun m e => applyTo e m) s.objs),
                      draft := { d with effects := rest, statHost := d.statHost.follow rest, statNet := d.statNet.follow rest,
                                        statChain := d.statChain.follow rest, statSelv := d.statSelv.follow rest } }
    ids.foldl (fun s _ => s.applied) s

end Sys2Proof.Machine
end

