-- ==== Sys2Proof/Machine/Pixel.lean ====
section
/-!
DEFINITION. Sys2Proof/Machine/Pixel.lean: the arithmetic on samples that the spec fixes: the scaler's positions and taps (R100,
R101), colour conversion and blending (R119 to R121), LUT interpolation (R124), curves and matrix (R125), alpha and component
widening (R126), the pressed-surface block format (R127, R128) and hem signatures over lines (R130).
-/

namespace Sys2Proof.Machine

/-! ## The scaler -/

/-- R100: the position, phase and first tap of output sample j. -/
def scalePos (x0 inc j : Int) : Int := x0 + j * inc
def scalePhase (x : Int) : Nat := (x / 1024 % 64).toNat
def scaleCentre (x : Int) : Int := x / 65536

/-- A sample of a line with the edge sample repeated beyond it (R100). -/
def edgeSample (line : List Nat) (i : Int) : Nat :=
  line.getD (clampInt 0 ((line.length : Int) - 1) i).toNat 0

/-- R101: coefficient of a phase and a tap, taps to a phase. -/
def coefficient (set : Bytes) (taps phase tap : Nat) : Int :=
  ofPattern 16 (ofBeBytes ((set.drop (2 * (taps * phase + tap))).take 2))

/-- R100, R101: one filtered sample at a position: 8 taps from ⌊x⌋ − 3 horizontally, 6 from ⌊y⌋ − 2 vertically, rounded to nearest
and limited to 10 bits (log entry 11). `sample` answers the input sample at a place, whether inside the picture or beyond it. -/
def scaleSample (set : Bytes) (taps back : Nat) (sample : Int → Nat) (x : Int) : Nat :=
  let sum := (List.range taps).foldl (fun (a : Int) t =>
    a + coefficient set taps (scalePhase x) t * sample (scaleCentre x - back + t)) 0
  (clampInt 0 1023 ((sum + 512) / 1024)).toNat

/-! ## Colour (R119, R121) -/

/-- R119: Kr and Kb of a space: 0 BT.709, otherwise BT.2100. -/
def kr (space : Nat) : Rat := if space = 0 then 2126 / 10000 else 2627 / 10000
def kb (space : Nat) : Rat := if space = 0 then 722 / 10000 else 593 / 10000

/-- Three components in units of 1/4,096. -/
structure Rgb where
  r : Int
  g : Int
  b : Int
  deriving DecidableEq, Repr

/-- R119: rounded to 1/4,096 and clipped to 0 to 4,096. -/
def unit4096 (x : Rat) : Int := clampInt 0 4096 (roundI (x * 4096))

/-- R119: narrow-range YCbCr of 10 bits into the blending format of a space. -/
def rgbOfYcc (space y cb cr : Nat) : Rgb :=
  let ey := ((y : Rat) - 64) / 876
  let eb := ((cb : Rat) - 512) / 896
  let er := ((cr : Rat) - 512) / 896
  let r := ey + 2 * (1 - kr space) * er
  let b := ey + 2 * (1 - kb space) * eb
  { r := unit4096 r, g := unit4096 ((ey - kr space * r - kb space * b) / (1 - kr space - kb space)), b := unit4096 b }

/-- R119: a 10-bit full-range component. -/
def full10 (v : Nat) : Int := roundI ((v : Rat) * 4096 / 1023)

/-- R119, R126: an 8-bit component or alpha widened to 10 bits, and a 2-bit alpha. -/
def widen8 (v : Nat) : Nat := v * 4 + v / 64
def widenAlpha2 (a : Nat) : Nat := [0, 341, 682, 1023].getD a 0

/-- R119: a colour object: Y in bits 29:20, Cb in 19:10, Cr in 9:0. -/
def colourRgb (space v : Nat) : Rgb := rgbOfYcc space (field v 20 10) (field v 10 10) (field v 0 10)

/-- R120: the blend of one component. -/
def blendComp (a s c : Int) : Int := (a * s + (4096 - a) * c + 2048) / 4096

/-- R120: the alpha that a pixel's alpha and LayerAlpha give. -/
def blendAlpha (aPix layerAlpha : Nat) : Int := roundI ((aPix * layerAlpha * 4096 : Nat) / ((1023 * 255 : Nat) : Rat))

/-- R120: a layer's sample over the composition so far. -/
def blend (a : Int) (s c : Rgb) : Rgb := { r := blendComp a s.r c.r, g := blendComp a s.g c.g, b := blendComp a s.b c.b }

/-- R121: a composed pixel as narrow-range YCbCr, before subsampling. -/
def yccOfRgb (space : Nat) (c : Rgb) : Nat × Nat × Nat :=
  let r : Rat := (c.r : Rat) / 4096
  let g : Rat := (c.g : Rat) / 4096
  let b : Rat := (c.b : Rat) / 4096
  let y := kr space * r + (1 - kr space - kb space) * g + kb space * b
  let lim (lo hi : Int) (x : Rat) : Nat := (clampInt lo hi (roundI x)).toNat
  (lim 64 940 (876 * y + 64), lim 64 960 (896 * (b - y) / (2 * (1 - kb space)) + 512),
   lim 64 960 (896 * (r - y) / (2 * (1 - kr space)) + 512))

/-- R121: horizontal chroma subsampling of a line. -/
def subsampleH (l : List Nat) : List Nat :=
  (List.range ((l.length + 1) / 2)).map fun (i : Nat) =>
    (edgeSample l (2 * (i : Int) - 1) + 2 * edgeSample l (2 * (i : Int)) + edgeSample l (2 * (i : Int) + 1) + 2) / 4

/-- R121: vertical chroma subsampling of two lines. -/
def subsampleV (a b : List Nat) : List Nat := List.zipWith (fun x y => (x + y + 1) / 2) a b

/-! ## Video-class transforms (R122 to R124) -/

/-- R122: the number of the ROM transform from one transfer to another. -/
def romTransform (src dst : Nat) : Option Nat :=
  if src = dst then none
  else if src = 1 && dst = 0 then some 0
  else if src = 2 && dst = 0 then some 1
  else if src = 0 && dst = 1 then some 2
  else if src = 0 && dst = 2 then some 3
  else if src = 1 && dst = 2 then some 4
  else some 5

/-- R123: a component of a LUT entry: of a ROM transform, or of raw data. -/
def romEntry (n : Nat) (ir ig ib comp : Nat) : Int := (Config.romLut n (1089 * ir + 33 * ig + ib) comp).toNat
def rawEntry (data : Bytes) (ir ig ib comp : Nat) : Int :=
  ofBeBytes ((data.drop (6 * (1089 * ir + 33 * ig + ib) + 2 * comp)).take 2)

/-- R124: tetrahedral interpolation of one output component. -/
def tetra (v : Nat → Nat → Nat → Int) (fr fg fb : Int) : Int :=
  let t :=
    if fr ≥ fg ∧ fg ≥ fb then 128 * v 0 0 0 + fr * (v 1 0 0 - v 0 0 0) + fg * (v 1 1 0 - v 1 0 0) + fb * (v 1 1 1 - v 1 1 0)
    else if fr ≥ fb ∧ fb > fg then 128 * v 0 0 0 + fr * (v 1 0 0 - v 0 0 0) + fb * (v 1 0 1 - v 1 0 0) + fg * (v 1 1 1 - v 1 0 1)
    else if fb > fr ∧ fr ≥ fg then 128 * v 0 0 0 + fb * (v 0 0 1 - v 0 0 0) + fr * (v 1 0 1 - v 0 0 1) + fg * (v 1 1 1 - v 1 0 1)
    else if fg > fr ∧ fr ≥ fb then 128 * v 0 0 0 + fg * (v 0 1 0 - v 0 0 0) + fr * (v 1 1 0 - v 0 1 0) + fb * (v 1 1 1 - v 1 1 0)
    else if fg ≥ fb ∧ fb > fr then 128 * v 0 0 0 + fg * (v 0 1 0 - v 0 0 0) + fb * (v 0 1 1 - v 0 1 0) + fr * (v 1 1 1 - v 0 1 1)
    else 128 * v 0 0 0 + fb * (v 0 0 1 - v 0 0 0) + fg * (v 0 1 1 - v 0 0 1) + fr * (v 1 1 1 - v 0 1 1)
  clampInt 0 4096 ((t + 64) / 128)

/-- R124: a sample through a LUT. -/
def lutSample (entry : Nat → Nat → Nat → Nat → Int) (p : Rgb) : Rgb :=
  let idx (x : Int) : Nat := min (x / 128).toNat 31
  let fr (x : Int) : Int := x - 128 * (idx x : Int)
  let out (comp : Nat) : Int :=
    tetra (fun x y z => entry (idx p.r + x) (idx p.g + y) (idx p.b + z) comp) (fr p.r) (fr p.g) (fr p.b)
  { r := out 0, g := out 1, b := out 2 }

/-! ## Graphics-class transforms (R125) -/

/-- R125: a curve of 257 points applied to a value. -/
def curve (point : Nat → Int) (p : Int) : Int :=
  let i := min (p / 16).toNat 255
  let f := p - 16 * (i : Int)
  (point i * (16 - f) + point (i + 1) * f + 8) / 16

/-- R125: the matrix with offsets, clipped. -/
def matrixSample (m o : Nat → Int) (p : Rgb) : Rgb :=
  let row (n : Nat) : Int :=
    clampInt 0 4096 ((m (3 * n) * p.r + m (3 * n + 1) * p.g + m (3 * n + 2) * p.b + 2048) / 4096 + o n)
  { r := row 0, g := row 1, b := row 2 }

/-- R125: point i of component comp in a stored curve, and entry i of stored coefficients. -/
def storedPoint (data : Bytes) (comp i : Nat) : Int := ofBeBytes ((data.drop (2 * (257 * comp + i))).take 2)
def storedCoef (data : Bytes) (i : Nat) : Int := ofPattern 16 (ofBeBytes ((data.drop (2 * i)).take 2))

/-- The transform of layer (c, i) from its source's space to the output space, as its objects in a view say. -/
def layerTransform (v : View) (c i : Nat) (p : Rgb) : Rgb :=
  let out := v.nat (K.pressOutputTransfer c)
  let kind := v.nat (K.layerSourceKind c i)
  let bypass := v.nat (K.layerColourTransform c i) == 1
  if kind = 1 then
    let slot := v.nat (K.layerLutSlotSelect c i)
    if slot < 8 then lutSample (rawEntry (v.oct (K.pressGLutData slot))) p
    else if bypass then p
    else match romTransform (v.nat (K.reedTransfer (v.nat (K.layerSourceRef c i)))) out with
      | some n => lutSample (romEntry n) p
      | none => p
  else
    let space := if kind = 3 then v.nat (K.unpClipSpace (v.nat (K.layerSourceRef c i))) else v.nat (K.layerSurfaceSpace c i)
    let same := bypass || space == out
    let ident (i : Nat) : Int := min 4096 (16 * (i : Int))
    let pre (comp j : Nat) : Int :=
      if v.has (K.layerPreCurve c i) then storedPoint (v.oct (K.layerPreCurve c i)) comp j
      else if same then ident j else (Config.romCurve 0 space out comp j).toNat
    let post (comp j : Nat) : Int :=
      if v.has (K.layerPostCurve c i) then storedPoint (v.oct (K.layerPostCurve c i)) comp j
      else if same then ident j else (Config.romCurve 1 space out comp j).toNat
    let m (n : Nat) : Int :=
      if v.has (K.layerMatrix c i) then storedCoef (v.oct (K.layerMatrix c i)) n
      else if same then (if n % 4 = 0 then 4096 else 0) else (Config.romMatrix space out n).toInt
    let o (n : Nat) : Int :=
      if v.has (K.layerOffset c i) then storedCoef (v.oct (K.layerOffset c i)) n
      else if same then 0 else (Config.romMatrix space out (9 + n)).toInt
    let p1 : Rgb := { r := curve (pre 0) p.r, g := curve (pre 1) p.g, b := curve (pre 2) p.b }
    let p2 := matrixSample m o p1
    { r := curve (post 0) p2.r, g := curve (post 1) p2.g, b := curve (post 2) p2.b }

/-- A layer's sample as its source gives it: 10-bit alpha and three components, R'G'B' of 10 bits (`ycc` false) or Y, Cb and Cr. -/
structure LayerPixel where
  alpha : Nat
  c0 : Nat
  c1 : Nat
  c2 : Nat
  ycc : Bool := false
  deriving DecidableEq, Repr

/-- R119, R122: the space in which a layer's YCbCr samples stand: the Reed channel's Transfer, or the output space under Bypass; a clip's
ClipSpace. -/
def layerSpace (v : View) (c i : Nat) : Nat :=
  if v.nat (K.layerSourceKind c i) = 1 then
    (if v.nat (K.layerColourTransform c i) = 1 then v.nat (K.pressOutputTransfer c) else v.nat (K.reedTransfer (v.nat (K.layerSourceRef c i))))
  else v.nat (K.unpClipSpace (v.nat (K.layerSourceRef c i)))

/-- R119: a layer's sample in the blending format, before its transform. -/
def layerRgb (v : View) (c i : Nat) (p : LayerPixel) : Rgb :=
  if p.ycc then rgbOfYcc (layerSpace v c i) p.c0 p.c1 p.c2 else { r := full10 p.c0, g := full10 p.c1, b := full10 p.c2 }

/-- R126: a word of a raw surface, format 0 or 1, with its components and alpha widened to 10 bits. -/
def rawPixel (format w : Nat) : LayerPixel :=
  if format = 0 then
    { alpha := widen8 (field w 24 8), c0 := widen8 (field w 16 8), c1 := widen8 (field w 8 8), c2 := widen8 (field w 0 8) }
  else { alpha := widenAlpha2 (field w 30 2), c0 := field w 20 10, c1 := field w 10 10, c2 := field w 0 10 }

/-! ## Pressed-surface blocks (R127, R128) -/

/-- R127: n bits of a bit stream from bit position pos, the first bit as bit 0. -/
def getBits (b : Bytes) (pos n : Nat) : Nat :=
  (List.range n).foldl (fun a i =>
    a + (if (b.getD ((pos + i) / 8) 0).toNat / 2 ^ ((pos + i) % 8) % 2 = 1 then 2 ^ i else 0)) 0

/-- R127: a pixel of a block: A, R, G, B. -/
abbrev Pixel4 := List Nat

/-- R127: raw mode: 256 pixels of 40 bits. -/
def rawBlock (b : Bytes) : List Pixel4 :=
  (List.range 256).map fun i =>
    [getBits b (40 * i + 30) 10, getBits b (40 * i + 20) 10, getBits b (40 * i + 10) 10, getBits b (40 * i) 10]

/-- R127, R173: one plane of pw × ph samples in compressed mode, in sub-blocks 4 wide and sh tall: samples by number in raster order, and
the bit position after it; none where a width code is above 10 or the stream ends beyond its bits. -/
def planeBits (b : Bytes) (limit pos pw ph sh : Nat) : Option (AMap Nat × Nat) :=
  let base := getBits b pos 10
  (List.range (pw / 4 * (ph / sh))).foldl (fun (acc : Option (AMap Nat × Nat)) sb =>
    match acc with
    | none => none
    | some (m, p) =>
      let w := getBits b p 4
      if 10 < w || decide (limit < p + 4 + 4 * sh * w) then none
      else
        some ((List.range (4 * sh)).foldl (fun (m : AMap Nat) i =>
          let x := 4 * (sb % (pw / 4)) + i % 4
          let y := sh * (sb / (pw / 4)) + i / 4
          let r := if w = 0 then 0 else ofPattern w (getBits b (p + 4 + w * i) w)
          let pred : Nat := if x != 0 then AMap.getD m (pw * y + x - 1) 0 else if y != 0 then AMap.getD m (pw * (y - 1) + x) 0 else base
          AMap.put m (pw * y + x) (((pred : Int) + r) % 1024).toNat) m, p + 4 + 4 * sh * w)) (some (([] : AMap Nat), pos + 10))

/-- R127: one component of a compressed block. -/
def component (b : Bytes) (limit pos : Nat) : Option (AMap Nat × Nat) := planeBits b limit pos 16 16 4

/-- R127: a compressed block's pixels; none where it is corrupt. -/
def compressedBlock (b : Bytes) : Option (List Pixel4) :=
  let lim := 8 * b.length
  (component b lim 0).bind fun (a, p1) =>
    (component b lim p1).bind fun (r, p2) =>
      (component b lim p2).bind fun (g, p3) =>
        (component b lim p3).map fun (bl, _) =>
          (List.range 256).map fun i => [AMap.getD a i 0, AMap.getD r i 0, AMap.getD g i 0, AMap.getD bl i 0]

/-- R127, R128: the pixels of block n of a buffer of a surface w × h, or none where the block is corrupt: mode 3, a number of
tiles outside 1 to 5, a bad stream, a tile beyond the buffer's span, or beyond MaxBytes. -/
def surfaceBlock (rd : Nat → Nat → Bytes) (base span maxBytes w h n : Nat) : Option (List Pixel4) :=
  let count := ceilDiv w 16 * ceilDiv h 16
  let head := ofLeBytes (rd (base + 8 * n) 8)
  let mode := field head 62 2
  let tiles := field head 59 3
  let start := ceilDiv (8 * count) 256 * 256 + 256 * field head 0 32
  let lim := if maxBytes = 0 then span else min span maxBytes
  if mode = 2 then
    some (List.replicate 256 [field head 30 10, field head 20 10, field head 10 10, field head 0 10])
  else if mode = 3 || tiles = 0 || 5 < tiles || lim < start + 256 * tiles then none
  else
    let b := rd (base + start) (256 * tiles)
    if mode = 0 then (if tiles = 5 then some (rawBlock b) else none) else compressedBlock b

/-! ## Composition of a row -/

/-- R121: a line of composed pixels. -/
def yccLine (space : Nat) (l : List Rgb) : YccLine :=
  let t := l.map (yccOfRgb space)
  { y := t.map (·.1), cb := subsampleH (t.map (·.2.1)), cr := subsampleH (t.map (·.2.2)) }

/-- R130: the samples x0 to x1 − 1 of a line as they enter a signature. -/
def sliceBytes (l : List Nat) (x0 x1 : Nat) : Bytes := (((l.drop x0).take (x1 - x0)).map sampleBytes).flatten

/-- R130: a signature taken on over the lines of a row in 4:2:2 that lie in a region; y is the number of the first line. -/
def hemOver422 (x w y0 y1 : Nat) (crc y : Nat) : List YccLine → Nat
  | [] => crc
  | l :: t =>
    let c :=
      if decide (y0 ≤ y) && decide (y < y1) then
        crc64 (crc64 (crc64 crc (sliceBytes l.y x (x + w))) (sliceBytes l.cb (x / 2) ((x + w) / 2))) (sliceBytes l.cr (x / 2) ((x + w) / 2))
      else crc
    hemOver422 x w y0 y1 c (y + 1) t

/-- R130: the same in 4:2:0: the chroma of two lines follows the luma of the second; y is even. -/
def hemOver420 (x w y0 y1 : Nat) (crc y : Nat) : List YccLine → Nat
  | l :: l2 :: t =>
    let c :=
      if decide (y0 ≤ y) && decide (y < y1) then
        let lum := crc64 (crc64 crc (sliceBytes l.y x (x + w))) (sliceBytes l2.y x (x + w))
        crc64 (crc64 lum (sliceBytes (subsampleV l.cb l2.cb) (x / 2) ((x + w) / 2))) (sliceBytes (subsampleV l.cr l2.cr) (x / 2) ((x + w) / 2))
      else crc
    hemOver420 x w y0 y1 c (y + 2) t
  | _ => crc

/-- R130: a signature taken on over the lines of a row. -/
def hemOver (chroma x w y0 y1 crc y : Nat) (l : List YccLine) : Nat :=
  if chroma = 0 then hemOver420 x w y0 y1 crc y l else hemOver422 x w y0 y1 crc y l

end Sys2Proof.Machine
end

