-- ==== Sys2Proof/Machine/Picture.lean ====
section
/-!
DEFINITION. Sys2Proof/Machine/Picture.lean: the samples of source pictures and of the Reed's output: stored lines (R84, R85), rotation
(R98), scaling (R100 to R102) and the measures of a row (R104, R105, R260). All of it is a function of the pictures that State holds.
-/

namespace Sys2Proof.Machine

/-! ## Stored lines (R84) -/

/-- R84: 10-bit samples packed least significant bit first, without padding. -/
def pack10 (l : List Nat) : Bytes := leBytes (ceilDiv (10 * l.length) 8) (l.foldr (fun v a => v % 1024 + 1024 * a) 0)

/-- R84: n samples of a packed run. -/
def unpack10 (n : Nat) (b : Bytes) : List Nat :=
  let w := ofLeBytes b
  (List.range n).map fun i => w / 1024 ^ i % 1024

/-- R84: the samples of a pair of pixels in their stored order. -/
def PixPair.samples (p : PixPair) : List Nat := [p.cb, p.y0, p.cr, p.y1]

/-- R84: the pairs of pixels that samples in the stored order spell. -/
def pairsOf : List Nat → SrcLine
  | cb :: y0 :: cr :: y1 :: t => { cb := cb, y0 := y0, cr := cr, y1 := y1 } :: pairsOf t
  | _ => []

/-- R84: a line as stored, without its padding. -/
def packLine (l : SrcLine) : Bytes := pack10 (l.flatMap (·.samples))

/-- R84: the bytes between lines of a stored picture of a width. -/
def storedStride (width : Nat) : Nat := ceilDiv (20 * width) 512 * 64

/-- R106: the pair of pixels of a colour object. -/
def colourPair (v : Nat) : PixPair := { cb := field v 10 10, y0 := field v 20 10, cr := field v 0 10, y1 := field v 20 10 }

/-- A line by component. -/
def yccOfPairs (l : SrcLine) : YccLine :=
  { y := l.flatMap fun p => [p.y0, p.y1], cb := l.map (·.cb), cr := l.map (·.cr) }

/-- R257: the 64 columns of a line from an even column on, as a Strip message carries them. -/
def stripBytes (l : YccLine) (x : Nat) : Bytes :=
  pack10 ((List.range 32).flatMap fun i =>
    [l.cb.getD (x / 2 + i) 0, l.y.getD (x + 2 * i) 0, l.cr.getD (x / 2 + i) 0, l.y.getD (x + 2 * i + 1) 0])

/-- R257: the line that a Strip message's payload holds. -/
def stripLine (b : Bytes) : YccLine := yccOfPairs (pairsOf (unpack10 128 b))

/-! ## Lines of a source picture (R82, R84 to R87) -/

/-- The i-th pair of pixels of a line, if a part brings it. -/
def SrcPart.pair (p : SrcPart) (i : Nat) : Option PixPair :=
  let st := max 1 (p.step / 2)
  if p.x / 2 ≤ i && (i - p.x / 2) % st == 0 then p.pairs[(i - p.x / 2) / st]? else none

/-- The i-th pair of pixels of line l, as received. -/
def SrcPic.pair (p : SrcPic) (l i : Nat) : Option PixPair := (AMap.getD p.lines l []).findSome? fun x => x.pair i

/-- R85: whether the source of channel c is a quad-link source in square division. -/
def squareDivision (v : View) (c : Nat) : Bool :=
  v.nat (K.reedSourceType c) == 1 && v.nat (K.reedSdiLinks c) == 4 && v.nat (K.reedSdiMapping c) == 0

/-- R85: the link, 0 to 3, whose quadrant holds the i-th pair of pixels of line l: link 1 the top left, link 2 the top right, link 3
the bottom left, link 4 the bottom right. -/
def quadrantLink (v : View) (c l i : Nat) : Nat :=
  b2n (decide (v.nat (K.reedWidth c) / 4 ≤ i)) + 2 * b2n (decide (v.nat (K.reedHeight c) / 2 ≤ l))

/-- R85: the place of a link's part in the picture: in square division a link counts lines and columns of its own quadrant. -/
def placePart (v : View) (c line : Nat) (p : SrcPart) : Nat × SrcPart :=
  if squareDivision v c then
    (line + p.link / 2 * (v.nat (K.reedHeight c) / 2), { p with x := p.x + p.link % 2 * (v.nat (K.reedWidth c) / 2) })
  else (line, p)

/-- R87: whether line l has been received, the share of lost links left out; where that share is not known by its place, any part of the
line will do. -/
def SrcPic.covers (p : SrcPic) (v : View) (c lost l : Nat) : Bool :=
  if lost != 0 && !squareDivision v c then !(AMap.getD p.lines l []).isEmpty
  else (List.range (v.nat (K.reedWidth c) / 2)).all fun i =>
    (p.pair l i).isSome || (lost != 0 && bit lost (quadrantLink v c l i))

/-- R84: a byte of a host picture; one that nothing has written reads as zero (log entry 119). -/
def SrcPic.hostByte (p : SrcPic) (a : Nat) : Byte :=
  (p.host.findSome? fun (o, b) => if o ≤ a && decide (a < o + b.length) then b[a - o]? else none).getD 0

/-- R84: line l of a host picture. -/
def SrcPic.hostLine (p : SrcPic) (v : View) (c l : Nat) : SrcLine :=
  let w := v.nat (K.reedWidth c)
  pairsOf (unpack10 (2 * w) ((List.range (ceilDiv (20 * w) 8)).map fun i => p.hostByte (l * storedStride w + i)))

/-- R106: a line of LossColour. -/
def lossLine (v : View) (c : Nat) : SrcLine := List.replicate (v.nat (K.reedWidth c) / 2) (colourPair (v.nat (K.reedLossColour c)))

/-- R86, R91: line l of a source picture as it is read, or none while it is not complete. `lost` are the links lost at the boundary and
`now` those lost at present; under a policy of 1 or 2 their quadrants hold what the picture before showed, or LossColour. -/
def SrcPic.readLine (p : SrcPic) (v : View) (c policy lost now : Nat) (before : SrcLine) (l : Nat) : Option SrcLine :=
  if p.done then some (p.hostLine v c l)
  else
    let loss := colourPair (v.nat (K.reedLossColour c))
    let at_ (i : Nat) : Option PixPair :=
      let lk := quadrantLink v c l i
      let stand := if policy = 2 then loss else before.getD i loss
      if policy != 0 && bit lost lk then some stand
      else match p.pair l i with
        | some x => some x
        | none => if policy != 0 && bit now lk then some stand else none
    let px := (List.range (v.nat (K.reedWidth c) / 2)).map at_
    if px.all (·.isSome) then some (px.map (·.getD loss)) else none

/-! ## Rotation (R98) -/

/-- The view of the objects that a picture was read under. -/
def ReedPic.view (p : ReedPic) (f : Fuses) : View := { fuses := f, vals := p.vals }

/-- Line l of the picture read; LossColour where none has been read. -/
def ReedPic.line (p : ReedPic) (v : View) (c l : Nat) : SrcLine := (AMap.find? p.lines l).getD (lossLine v c)

/-- R98: line l of the picture that leaves the rotator, clockwise by 90°, 180° or 270°. Luma is placed exactly; the spec does not site the
chroma of a rotated 4:2:2 picture, which is a free value. -/
def ReedPic.rotated (p : ReedPic) (v : View) (c l : Nat) : YccLine :=
  let w := v.nat (K.reedWidth c)
  let h := v.nat (K.reedHeight c)
  let luma (y x : Nat) : Nat := ((yccOfPairs (p.line v c y)).y).getD x 0
  let rot := v.nat (K.reedRotation c)
  if rot = 0 then yccOfPairs (p.line v c l)
  else
    let planes (f : YccLine → List Nat) : List (List Nat) := (List.range h).map fun y => f (yccOfPairs (p.line v c y))
    let chroma (f : YccLine → List Nat) : List Nat :=
      (List.range (ceilDiv (inWidth v c) 2)).map fun x => (Config.rotatedChroma rot x l (planes f)).toNat
    { y := if rot = 1 then (List.range h).map fun x => luma (h - 1 - x) l
           else if rot = 2 then (List.range w).map fun x => luma (h - 1 - l) (w - 1 - x)
           else (List.range h).map fun x => luma x (w - 1 - l),
      cb := chroma (·.cb), cr := chroma (·.cr) }

/-- R98, R103: the rotated lines that come with line l of the raster. -/
def rotatedLines (v : View) (c l : Nat) : List Nat :=
  let h := max 1 (v.nat (K.reedHeight c))
  let lo := ceilDiv (l * inHeight v c) h
  (List.range (ceilDiv ((l + 1) * inHeight v c) h - lo)).map (lo + ·)

/-! ## The scaler (R100 to R102) -/

/-- R107: the ROM filter set of a channel on an axis, as bytes. -/
def romFilterBytes (v : View) (c axis n : Nat) : Bytes := (List.range n).map fun i => Config.romFilter (v.nat (K.reedScalerFilter c)) axis i

/-- R101, R107: the coefficients in force on an axis, 0 horizontal and 1 vertical. -/
def filterSet (v : View) (c axis : Nat) : Bytes :=
  if axis = 0 then (if v.has (K.reedCoefH c) then v.oct (K.reedCoefH c) else romFilterBytes v c 0 1024)
  else if v.has (K.reedCoefV c) then v.oct (K.reedCoefV c) else romFilterBytes v c 1 768

/-- R100, R107: increments and initial phases in force; x0c = HPhase0 / 2, rounded down (log entry 12). -/
def hInc (v : View) (c : Nat) : Int := if v.has (K.reedHIncrement c) then v.int (K.reedHIncrement c) else derivedHInc v c
def vInc (v : View) (c : Nat) : Int := if v.has (K.reedVIncrement c) then v.int (K.reedVIncrement c) else derivedVInc v c
def hPhase (v : View) (c : Nat) (chroma : Bool) : Int :=
  let x0 := if v.has (K.reedHPhase0 c) then v.int (K.reedHPhase0 c) else derivedHPhase v c
  if chroma then x0 / 2 else x0
def vPhase (v : View) (c : Nat) : Int := if v.has (K.reedVPhase0 c) then v.int (K.reedVPhase0 c) else derivedVPhase v c

/-- R100, R255: the sample of a component at column x of a line between its strips; beyond them the last sample is repeated. -/
def bandSample (line left right : List Nat) (x : Int) : Nat :=
  if x < 0 && !left.isEmpty then edgeSample left (x + left.length)
  else if (line.length : Int) ≤ x && !right.isEmpty then edgeSample right (x - line.length)
  else edgeSample line x

/-- The components of a line. -/
inductive Comp where
  | y | cb | cr
  deriving DecidableEq, Repr
def YccLine.comp (l : YccLine) : Comp → List Nat
  | .y => l.y
  | .cb => l.cb
  | .cr => l.cr

/-- R100: the input sample of a component at column x and line l, the lines beyond the picture repeating its edge. -/
def ReedPic.sample (p : ReedPic) (v : View) (c : Nat) (k : Comp) (x l : Int) : Nat :=
  let n := (clampInt 0 ((inHeight v c : Int) - 1) l).toNat
  let strip (m : AMap YccLine) : List Nat := ((AMap.find? m n).map fun s => s.comp k).getD []
  bandSample ((p.rotated v c n).comp k) (strip p.left) (strip p.right) x

/-- R100, R102: an output sample of a component: column j, line y. The horizontal filter comes first when it reduces the width, the
vertical one otherwise; an axis that is not scaled is not filtered. -/
def ReedPic.scaled (p : ReedPic) (v : View) (c : Nat) (k : Comp) (j y : Int) : Nat :=
  let hor (f : Int → Nat) : Nat :=
    if hScaled v c then scaleSample (filterSet v c 0) 8 3 f (scalePos (hPhase v c (k != .y)) (hInc v c) j) else f j
  let ver (f : Int → Nat) : Nat := if vScaled v c then scaleSample (filterSet v c 1) 6 2 f (scalePos (vPhase v c) (vInc v c) y) else f y
  if decide (outWidth v c < inWidth v c) then ver fun l => hor fun x => p.sample v c k x l
  else hor fun x => ver fun l => p.sample v c k x l

/-- R100: output line y of the Reed. -/
def ReedPic.outLine (p : ReedPic) (v : View) (c y : Nat) : YccLine :=
  if !hScaled v c && !vScaled v c then p.rotated v c y
  else
    let run (k : Comp) (n : Nat) : List Nat := (List.range n).map fun (j : Nat) => p.scaled v c k j y
    { y := run .y (outWidth v c), cb := run .cb (ceilDiv (outWidth v c) 2), cr := run .cr (ceilDiv (outWidth v c) 2) }

/-- R100, R103: the rotated lines that output row j is made of: first and last. -/
def rowSpan (v : View) (c j : Nat) : Nat × Nat :=
  let top := (inHeight v c : Int) - 1
  let last : Int := min (64 * j + 63) (outHeight v c - 1) 
  if vScaled v c then
    ((clampInt 0 top (scaleCentre (scalePos (vPhase v c) (vInc v c) (64 * j)) - 2)).toNat,
     (clampInt 0 top (scaleCentre (scalePos (vPhase v c) (vInc v c) last) + 3)).toNat)
  else (64 * j, last.toNat)

/-- R98, R104: the source lines, first and last, and the source columns that output row j is made of. -/
def rowSource (v : View) (c j : Nat) : (Nat × Nat) × (Nat × Nat) :=
  let (lo, hi) := rowSpan v c j
  let w := v.nat (K.reedWidth c)
  let h := v.nat (K.reedHeight c)
  match v.nat (K.reedRotation c) with
  | 0 => ((lo, hi), (0, w - 1))
  | 1 => ((0, h - 1), (lo, hi))
  | 2 => ((h - 1 - hi, h - 1 - lo), (0, w - 1))
  | _ => ((0, h - 1), (w - 1 - hi, w - 1 - lo))

/-- R104: whether row j has lines that R91 took from the picture before, and whether it shows a lost quadrant under policy 1 or 2. -/
def ReedPic.rowGap (p : ReedPic) (v : View) (c j : Nat) : Bool :=
  match p.gapFrom with
  | some g => decide (g ≤ (rowSource v c j).1.2)
  | none => false
def ReedPic.rowHeld (p : ReedPic) (v : View) (c j : Nat) : Bool :=
  let ((l0, l1), (x0, x1)) := rowSource v c j
  let w := v.nat (K.reedWidth c) / 2
  let h := v.nat (K.reedHeight c) / 2
  squareDivision v c && v.nat (K.reedLinkLossPolicy c) != 0 && (List.range 4).any fun i =>
    bit p.lost i && (if i % 2 = 0 then decide (x0 < w) else decide (w ≤ x1)) && (if i < 2 then decide (l0 < h) else decide (h ≤ l1))

/-! ## Measures of a row (R104, R105, R260) -/

/-- The difference of two samples. -/
def absDiff (a b : Nat) : Nat := max a b - min a b

/-- R104, R260: sum and number of the differences along a line: neighbours, and the edge columns against a strip's nearest ones. -/
def lineDiffs (y : List Nat) (left right : Option Nat) : Nat × Nat :=
  let all := left.toList ++ y ++ right.toList
  ((List.zipWith absDiff all (all.drop 1)).sum, all.length - 1)

/-- R259, R260: the luma column next to the band on a side of output line y, where its strip has come. -/
def ReedPic.beside (p : ReedPic) (v : View) (c : Nat) (left : Bool) (y : Nat) : Option Nat :=
  let n := if vScaled v c then (clampInt 0 ((inHeight v c : Int) - 1) (scaleCentre (scalePos (vPhase v c) (vInc v c) y))).toNat else y
  if (AMap.find? (if left then p.left else p.right) n).isSome then
    some (p.scaled v c .y (if left then -1 else (outWidth v c : Int)) y)
  else none

/-- R104: Activity of a row: the mean of absolute horizontal and vertical luma differences within it, × 16, saturating. -/
def ReedPic.activity (p : ReedPic) (v : View) (c j : Nat) : Nat :=
  let ys := (List.range (min 64 (outHeight v c - 64 * j))).map (64 * j + ·)
  let lines := ys.map fun y => ((p.outLine v c y).y, p.beside v c true y, p.beside v c false y)
  let hor := lines.map fun l => lineDiffs l.1 l.2.1 l.2.2
  let ver := List.zipWith (fun a b => ((List.zipWith absDiff a.1 b.1).sum, a.1.length)) lines (lines.drop 1)
  let sum := ((hor ++ ver).map (·.1)).sum
  let n := max 1 ((hor ++ ver).map (·.2)).sum
  min 65535 ((16 * sum + (if Config.activityUp = 1 then n - 1 else 0)) / n)

/-- R104: the analysis copy: one sample for 8 × 8 luma samples of the Reed's output; its size. -/
def analysisSize (v : View) (c : Nat) : Nat × Nat := (ceilDiv (outWidth v c) 8, ceilDiv (outHeight v c) 8)
def ReedPic.analysis (p : ReedPic) (v : View) (c ax ay : Nat) : Nat :=
  let ys := (List.range (min 8 (outHeight v c - 8 * ay))).map (8 * ay + ·)
  (Config.analysisSample (ys.flatMap fun y => ((p.outLine v c y).y.drop (8 * ax)).take 8)).toNat

/-- R104: what the search reads of the analysis copy of the picture before. -/
def analysisBefore (prev : Option ReedPic) (f : Fuses) (c : Nat) (x y : Int) : Nat :=
  match prev with
  | some p =>
    let v := p.view f
    let (w, h) := analysisSize v c
    if 0 ≤ x && decide (x < w) && decide (0 ≤ y) && decide (y < h) then p.analysis v c x.toNat y.toNat
    else (Config.analysisBeyond x y).toNat
  | none => (Config.analysisBeyond x y).toNat

/-- R104: the vectors searched, ±16 analysis samples. -/
def searchVectors : List (Int × Int) :=
  (List.range 33).flatMap fun (y : Nat) => (List.range 33).map fun (x : Nat) => ((x : Int) - 16, (y : Int) - 16)

/-- R104: the best SAD of a block of the analysis copy and its vector. -/
def ReedPic.search (p : ReedPic) (prev : Option ReedPic) (f : Fuses) (c bx by_ : Nat) : Nat × (Int × Int) :=
  let v := p.view f
  let (w, h) := analysisSize v c
  let at_ := (List.range (min 8 (h - 8 * by_))).flatMap fun y => (List.range (min 8 (w - 8 * bx))).map fun x => (8 * bx + x, 8 * by_ + y)
  let sad (d : Int × Int) : Nat :=
    (at_.map fun e => absDiff (p.analysis v c e.1 e.2) (analysisBefore prev f c ((e.1 : Int) + d.1) ((e.2 : Int) + d.2))).sum
  let best := (searchVectors.map sad).foldl min (sad (0, 0))
  let ties := searchVectors.filter fun d => sad d == best
  (best, ties.getD (Config.vectorTie ties.length % max 1 ties.length) (0, 0))

/-- The median of integers. -/
def medianOf (l : List Int) : Int :=
  let t := l.mergeSort (fun a b => decide (a ≤ b))
  t.getD (if t.length % 2 = 0 && Config.medianUpper == 1 then t.length / 2 else (t.length - 1) / 2) 0

/-- R104: MotionSad, MvX and MvY of row j, the vectors in full-resolution luma samples. -/
def ReedPic.motion (p : ReedPic) (prev : Option ReedPic) (f : Fuses) (c j : Nat) : Nat × Int × Int :=
  let l := (List.range (ceilDiv (analysisSize (p.view f) c).1 8)).map fun bx => p.search prev f c bx j
  ((l.map (·.1)).sum, 8 * medianOf (l.map (·.2.1)), 8 * medianOf (l.map (·.2.2)))

/-- The sum of a per-row quantity over rows 0 to j. -/
def sumTo (m : AMap Nat) (j : Nat) : Nat := (m.map fun e => if e.1 ≤ j then e.2 else 0).sum

/-- R105: whether the sums of rows 0 to j make a scene cut: above the ratio of the picture before and above 4 per analysis sample. -/
def sceneCutAt (v : View) (c j : Nat) (sad before : AMap Nat) : Bool :=
  let cum := sumTo sad j
  let (w, h) := analysisSize v c
  decide (v.nat (K.reedSceneCutRatio c) * sumTo before j < 16 * cum) && decide (4 * (w * min h (8 * (j + 1))) < cum)

end Sys2Proof.Machine
end

