-- ==== Sys2Proof/Machine/Reed.lean ====
section
/-!
DEFINITION. Sys2Proof/Machine/Reed.lean: the Reed (R79 to R109): arrival of source pictures and lines, the choice at each
picture boundary, aligned groups, lines read, strips sent and used, and row statistics.
-/

namespace Sys2Proof.Machine

/-! ## The raster -/

/-- Presented time in ns, exactly. -/
def nowExact (s : State) : Rat := (s.clk.presented : Rat) / (unitsPerNs : Rat)

/-- T_k in ns, exactly. -/
def boundaryTime (v : View) (c k : Nat) : Rat := q k * pictureNs v c + q (v.nat (K.reedReadPhaseNs c))

/-- T_k in ns, floored at the final instant (R314). -/
def boundaryNs (v : View) (c k : Nat) : Nat := floorN (boundaryTime v c k)

/-- R187, R518: the number of the picture of channel c's raster in which an instant lies. -/
def rasterPic (v : View) (c : Nat) (t : Rat) : Nat :=
  let k := floorN ((t - q (v.nat (K.reedReadPhaseNs c))) / pictureNs v c)
  if q (boundaryNs v c (k + 1)) ≤ t then k + 1 else k

/-- The number of the picture that channel c reads. -/
def State.pic (s : State) (c : Nat) : Nat := (s.reed c).k.getD 0

/-! ## Sources -/

/-- R438: whether the masters that write channel c's source work and the device is not in safe state. -/
def sourceWritten (s : State) (c : Nat) : Bool :=
  let t := s.nat (K.reedSourceType c)
  !s.videoStopped && !s.isFrozen 27 && !(t == 2 && s.isFrozen 32) && !((t == 1 || t == 3) && s.isFrozen 33)
    && !(t == 4 && s.isFrozen 10)

/-- R106 ActiveLinks: the links in use. -/
def State.showLinks (s : State) (c : Nat) : State :=
  let r := s.reed c
  let n := s.nat (K.reedSdiLinks c)
  let m := if s.nat (K.reedSourceType c) = 1 && r.present then maskOf n (fun i => !bit r.linksLost i) else 0
  s.setN (K.reedActiveLinks c) m

/-- The slots that hold pictures newer than the one being read, the oldest first. -/
def ReedSt.newer (r : ReedSt) : List SrcPic :=
  r.slots.filter fun p => match r.last with | none => true | some l => decide (l < p.n)

/-- R108, R106: a repeat (1) or a skip (2) is counted, its time recorded and Slip raised. -/
def State.slip (s : State) (c kind : Nat) : State :=
  let s := (s.bump (if kind = 1 then K.reedRepeatCount c else K.reedSkipCount c)).count (64 + 4 * c + kind) 1
  let s := s.set (K.reedLastSlipTime c) (time80 (boundaryNs s.view c (s.pic c)))
  s.raise { src := 33 + 4 * c, unit := c }

/-- A slot of the synchroniser changed. -/
def ReedSt.onSlot (r : ReedSt) (n : Nat) (f : SrcPic → SrcPic) : ReedSt :=
  { r with slots := r.slots.map fun p => if p.n = n then f p else p }

/-- A source picture begins to arrive in a slot of its own, without its slots counted. -/
def ReedSt.opened (r : ReedSt) : ReedSt :=
  { r with slots := r.slots ++ [{ n := r.nextN }], arriving := some r.nextN, nextN := r.nextN + 1 }

/-- SOURCE_PICTURE_START (R89): a source picture begins to arrive. With all four slots held a live source loses the older of the
two newer pictures; a host source stalls until the next boundary. -/
def execSourcePictureStart (c : Chan) (s : State) : Result := whenClocked s <|
  let r := s.reed c
  let t := s.nat (K.reedSourceType c)
  if t = 0 || !sourceWritten s c || (t = 4 && r.arriving.isSome) then .next s
  else if r.slots.length < 4 then .next (s.setReed c r.opened)
  else if t = 4 then .next (s.setReed c { r with hostStall := true })
  else
    let drop := (r.newer.map (·.n)).head?
    .next ((s.setReed c ({ r with slots := r.slots.filter fun p => some p.n != drop } : ReedSt).opened).slip c 2)

/-- R90, R92: the source of channel c becomes absent; what it delivered is no candidate for the next acquisition. -/
def State.sourceGone (s : State) (c : Nat) : State :=
  let r := s.reed c
  if r.present then
    let r := { r with present := false, acquired := false, repeats := 0, arriving := none, acqFrom := r.nextN,
                      slots := r.slots.filter fun p => match r.last with | some n => decide (p.n ≤ n) | none => false,
                      lossShown := r.lossShown || s.nat (K.reedLossHoldPictures c) == 0 }
    ((s.setReed c r).raise { src := 32 + 4 * c, unit := c }).showLinks c
  else s

/-- R92: the source of channel c is restored, a first presence included. -/
def State.sourceBack (s : State) (c : Nat) : State :=
  let r := s.reed c
  if r.present then s
  else
    let s := s.setReed c { r with present := true, acquired := false, repeats := 0 }
    (s.raise { src := 32 + 4 * c, unit := c }).showLinks c

/-- R81, R85: LinkFault of channel c: code 1 loss of lock, 2 lag, 3 FormatMismatch; the detail is the link's number, 0 none (log entry 120). -/
def linkFault (c code link : Nat) : Ev := { src := 34 + 4 * c, unit := c, code := code, detail := link }

/-- R85: the code of a cause. -/
def linkCode : LinkCause → Nat
  | .lock => 1
  | .lag => 2

/-- The links of channel c's source. -/
def allLinks (s : State) (c : Nat) : Nat := maskOf (s.nat (K.reedSdiLinks c)) fun _ => true

/-- R85, R86: a link of an SDI source is lost; when all are lost the source is absent. -/
def State.linkLost (s : State) (c link : Nat) (cause : LinkCause) : State :=
  let r := s.reed c
  if s.nat (K.reedSourceType c) != 1 || decide (s.nat (K.reedSdiLinks c) ≤ link) then s
  else if bit r.linksLost link then
    s.setReed c { r with linksBack := setBit r.linksBack link false, linkNext := AMap.del r.linkNext link }
  else
    let lost := setBit r.linksLost link true
    let s := s.setReed c { r with linksLost := lost, linksBack := setBit r.linksBack link false, linkNext := AMap.del r.linkNext link }
    let s := (s.showLinks c).raise (linkFault c (linkCode cause) (link + 1))
    if lost = allLinks s c then s.sourceGone c else s

/-- R86: the link loss policy as it acts: 1 and 2 only on a quad-link source in square division. -/
def lossPolicy (s : State) (c : Nat) : Nat := if squareDivision s.view c then s.nat (K.reedLinkLossPolicy c) else 0

/-- R81: whether the payload identifier and the raster that a link carries are those of the objects. -/
def formatMatches (v : View) (c : Nat) (f : SourceFormat) : Bool :=
  let want : Raster := { width := v.nat (K.reedWidth c), height := v.nat (K.reedHeight c), rateNum := v.nat (K.reedRateNum c),
                         rateDen := v.nat (K.reedRateDen c) }
  f.payload == some want && f.raster == want

/-- R82, R87: a line's part enters the picture that arrives: of an ST 2022-7 pair the copy that completes first, of several links each its
own. S_n is the arrival of line 0. -/
def SrcPic.receive (p : SrcPic) (v : View) (c lost line now : Nat) (part : SrcPart) : SrcPic :=
  let have_ := AMap.getD p.lines line []
  let have_ := if v.nat (K.reedSourceType c) = 2 then (if have_.isEmpty then [part] else have_)
    else have_.filter (fun x => x.link != part.link) ++ [part]
  let p := { p with lines := AMap.put p.lines line have_ }
  { p with time := match p.time with | some t => some t | none => if p.covers v c lost 0 then some now else none }

/-- R86: the next line that a link which returns has to deliver for a whole picture in step, after one of its lines; 0 starts again. In a
quadrant lines come one by one; in other mappings a link may bring every other line. -/
def linkAdvance (square : Bool) (next line : Nat) : Nat :=
  if line = 0 || (!square && line = 1 && next = 0) then line + 1
  else if next != 0 && (line = next || (!square && line = next + 1)) then line + 1 else 0

/-- R86: a line of a link that is lost and not behind the others. -/
def ReedSt.linkLine (r : ReedSt) (v : View) (c link line : Nat) : ReedSt :=
  let sq := squareDivision v c
  let n := linkAdvance sq (AMap.getD r.linkNext link 0) line
  let whole := if sq then v.nat (K.reedHeight c) / 2 else v.nat (K.reedHeight c) - 1
  { r with linkNext := AMap.put r.linkNext link n, linksBack := if whole ≤ n then setBit r.linksBack link true else r.linksBack }

/-- The flow or link that a part comes by, if the channel has it: an ST 2110-20 source has a second flow where FlowIdProtect names one, a weft
source one link. -/
def boundLink (v : View) (c link : Nat) : Bool :=
  match v.nat (K.reedSourceType c) with
  | 1 => decide (link < v.nat (K.reedSdiLinks c))
  | 2 => link == 0 || (link == 1 && v.nat (K.reedFlowIdProtect c) != 0xFFFF)
  | _ => link == 0

/-- R80, R360: a line of an SDI link whose EDH or CRC fails is counted on the link's lane, and used as received. -/
def State.countCrc (s : State) (c link : Nat) (ok : Bool) : State :=
  let lane := s.nat (K.reedSdiLanes c) / 256 ^ link % 256
  if ok || s.nat (K.reedSourceType c) != 1 || decide (32 ≤ lane) then s else s.bump (K.laneCodeErrors lane)

/-- SOURCE_LINE_RECEIVED (R80 to R82, R85 to R87, R92): a link's part of a source line completes in the synchroniser. -/
def execSourceLineReceived (c : Chan) (line : Nat) (format : SourceFormat) (part : SrcPart) (s : State) : Result := whenClocked s <|
  let v := s.view
  let t := s.nat (K.reedSourceType c)
  let link := part.link
  if t = 0 || t = 4 || !sourceWritten s c || !boundLink v c link || (t = 3 && !pictureLinkUp s (s.nat (K.reedWeftQuad c))) then .next s
  else
    let s := s.countCrc c link format.crcOk
    if t = 1 && !formatMatches v c format then
      (if (s.reed c).mismatch then .next s
       else .next ((State.raise (s.setReed c { s.reed c with mismatch := true }) (linkFault c 3 0)).sourceGone c))
    else if t = 1 && decide (1 < s.nat (K.reedSdiLinks c)) && decide (8 * readLine v c < q format.lagNs) then .next (s.linkLost c link .lag)
    else
      let r := s.reed c
      let r := if t = 1 && r.linksLost = allLinks s c then { r with linksLost := setBit r.linksLost link false } else r
      let r := if t = 1 && bit r.linksLost link then r.linkLine v c link line else r
      let (l, p) := placePart v c line part
      let r := match r.arriving with
        | some n => if l < v.nat (K.reedHeight c) then r.onSlot n fun x => x.receive v c r.linksLost l (nowNs s) p else r
        | none => r
      if t = 1 && bit r.linksLost link then .next (s.setReed c r)
      else .next (State.sourceBack (s.setReed c { r with lastLine := s.clk.ticks, mismatch := false }) c)

/-- SOURCE_ABSENT (R92): no complete line has come for one picture period. -/
def execSourceAbsent (c : Chan) (s : State) : Result := whenClocked s <|
  if (s.reed c).present && passed s (s.reed c).lastLine (floorN (pictureNs s.view c)) then .next (s.sourceGone c) else .next s

/-- SDI_LINK_LOST (R85): an SDI link lags by more than 8 line periods or loses lock. -/
def execSdiLinkLost (c : Chan) (lost : LostLink) (s : State) : Result := whenClocked s <| .next (s.linkLost c lost.link lost.cause)

/-! ## The choice at a picture boundary (R88 to R99) -/

/-- What a channel would do at a boundary. -/
inductive Intent where
  /-- absent, or waiting for acquisition -/
  | absent
  | waiting
  | acquire (n : Nat)
  | again
  | succ (n : Nat)
  | skip (n : Nat)
  deriving DecidableEq, Repr

/-- R88, R90: what channel c would do at T_k, by itself. -/
def reedIntent (s : State) (c k : Nat) : Intent :=
  let v := s.view
  let r := s.reed c
  let tk : Rat := q (boundaryNs v c k)
  let line := readLine v c
  let dm := q (v.nat (K.reedSyncMarginLines c)) * line
  let hy := q (v.nat (K.reedSyncHysteresisLines c)) * line
  let age (p : SrcPic) : Option Rat := p.time.map fun t => tk - q t
  if !r.present then .absent
  else if !r.acquired then
    match r.slots.reverse.find? (fun p => decide (r.acqFrom ≤ p.n) && match age p with | some a => decide (dm ≤ a) | none => false) with
    | some p => .acquire p.n
    | none => .waiting
  else
    match r.newer with
    | [] => .again
    | m :: rest =>
      match age m with
      | none => .again
      | some a =>
        if a < dm - hy then .again
        else if dm + pictureNs v c + hy < a then
          (match rest with
           | m2 :: _ => if m2.time.isSome then .skip m2.n else .succ m.n
           | [] => .succ m.n)
        else .succ m.n

/-- R95: the members of aligned group g. -/
def groupMembers (s : State) (g : Nat) : List Nat :=
  (List.range 16).filter fun d => s.nat (K.reedAlignGroup d) == g && s.nat (K.reedSourceType d) != 0

/-- R96: what group g does at T_k: 1 every member repeats, 2 every member skips, 0 neither. -/
def groupAction (s : State) (g k : Nat) : Nat :=
  let l := (groupMembers s g).map fun d => reedIntent s d k
  if l.any (fun i => match i with | .absent | .waiting | .again => true | _ => false) then 1
  else if l.any (fun i => match i with | .skip _ => true | _ => false) then 2
  else 0

/-- R96: the group's decision at T_k is taken once, by the first member that reaches the boundary, and its slip counted once. -/
def State.decideGroup (s : State) (g k : Nat) : State :=
  match AMap.find? s.video.groupDec g with
  | some (k', _) => if k' = k then s else go s
  | none => go s
where
  go (s : State) : State :=
    let a := groupAction s g k
    let s := { s with video := { s.video with groupDec := AMap.put s.video.groupDec g (k, a) } }
    if a != 0 then s.bump (K.reedGGroupSlipCount (g - 1)) else s

/-- R96, R99: what channel c does at T_k, its group's decision and the repeat of a starting rotation counted in; a channel that would
acquire waits for the boundary after that repeat. -/
def reedDecision (s : State) (c k : Nat) : Intent :=
  let i := reedIntent s c k
  let rot := (s.reed c).rotRepeat && (s.reed c).last.isSome
  let g := s.nat (K.reedAlignGroup c)
  let act :=
    if g = 0 || s.nat (K.reedGGroupMode (g - 1)) != 0 then 0
    else match AMap.find? s.video.groupDec g with
      | some (k', a) => if k' = k then a else 0
      | none => 0
  match i with
  | .succ n =>
    if rot || act = 1 then .again
    else if act = 2 then
      (match (s.reed c).newer with
       | _ :: m2 :: _ => if m2.time.isSome then .skip m2.n else .succ n
       | _ => .succ n)
    else .succ n
  | .skip n => if rot || act = 1 then .again else .skip n
  | .acquire n => if rot then .waiting else .acquire n
  | other => other

/-- R94: the frequency offset over the last 1,024 pictures picked. -/
def State.measureRate (s : State) (c : Nat) (n time : Nat) : State :=
  let r := s.reed c
  let h := ((n, time) :: r.history).take 1025
  let s := s.setReed c { r with history := h }
  match h.getLast? with
  | some (n0, t0) =>
    if h.length = 1025 && decide (n0 < n) && decide (t0 < time) then
      let per := q (time - t0) / q (n - n0)
      let off := roundI ((pictureNs s.view c / per - 1) * 1000000000)
      (s.set (K.reedFreqOffsetPpb c) (clampInt (-2147483648) 2147483647 off)).setReed c
        { s.reed c with freqLocked := decide (-50 ≤ off) && decide (off ≤ 50) }
    else s
  | none => s

/-- R88, R106 SyncDelayNs: T_k − S of the picture picked, a repeated one too. -/
def State.showDelay (s : State) (c k : Nat) : State :=
  let r := s.reed c
  match r.last.bind fun n => (r.slots.find? (fun p => p.n == n)).bind (·.time) with
  | some t => s.set (K.reedSyncDelayNs c) ((boundaryNs s.view c k : Int) - t)
  | none => s

/-- R87, R88: a picture is read from T_k on: of the others the one read before and the newer ones keep their slots. -/
def State.readPicture (s : State) (c n : Nat) : State :=
  let r := s.reed c
  let keep := r.last.getD n
  let r' := { r with last := some n, slots := r.slots.filter (fun p => p.n == keep || decide (n ≤ p.n)), repeats := 0, lossShown := false }
  let s1 := (s.setReed c r').count (64 + 4 * c) 1
  match r.slots.find? (fun p => p.n == n) with
  | some p =>
    match p.time with
    | some t => s1.measureRate c n t
    | none => s1
  | none => s1

/-- R89: at a boundary a stalled host picture gets the slot that the picture before the one being read leaves. -/
def State.freeHostSlot (s : State) (c : Nat) : State :=
  let r := s.reed c
  if r.hostStall then
    let slots := if r.slots.length < 4 then r.slots
      else r.slots.filter fun p => match r.last with | some n => decide (n ≤ p.n) | none => true
    if slots.length < 4 then s.setReed c ({ r with slots := slots, hostStall := false } : ReedSt).opened else s
  else s

/-- The picture that the channel reads. -/
def ReedSt.onPic (r : ReedSt) (k : Nat) (f : ReedPic → ReedPic) : ReedSt := { r with pics := r.pics.map fun p => if p.pic = k then f p else p }
def ReedSt.picOf (r : ReedSt) (k : Nat) : Option ReedPic := r.pics.find? fun p => p.pic == k

/-- R91: the picture being read is taken from the one before from line l on; it is counted once. -/
def State.inputGap (s : State) (c l : Nat) : State :=
  let r := s.reed c
  let k := s.pic c
  if (r.picOf k).any (·.gapFrom.isSome) then s
  else
    let s := s.setReed c { r.onPic k fun p => { p with gapFrom := some l } with lastAction := 3 }
    ((s.bump (K.reedGapCount c)).count (64 + 4 * c + 3) 1).raise { src := 35 + 4 * c, unit := c }

/-- R88, R90, R92: a repeat of the last picture, counted where there is one. -/
def State.reedRepeat (s : State) (c : Nat) : State :=
  let r := s.reed c
  let s := s.setReed c { r with lastAction := 1, lossShown := r.lossShown || r.last.isNone }
  if r.last.isSome then s.slip c 1 else s

/-- The picture that channel c reads from T_k on begins: what the boundary has fixed of it. -/
def State.beginRead (s : State) (c k action : Nat) : State :=
  let r := s.reed c
  let p : ReedPic := { pic := k, vals := s.objs, rot := r.rotDelay, action := action,
                       loss := r.lossShown || s.nat (K.reedSourceType c) == 0, lost := r.linksLost, src := r.last }
  s.setReed c { r with pics := (p :: r.pics).take 4 }

/-- R88 to R99 at T_k for channel c. -/
def State.reedBoundary (s : State) (c k : Nat) : State :=
  if s.videoStopped then s.setReed c { s.reed c with k := some k, nextLine := 0 }
  else if s.nat (K.reedSourceType c) = 0 then (s.setReed c { s.reed c with k := some k, nextLine := 0 }).beginRead c k 0
  else
    let g := s.nat (K.reedAlignGroup c)
    let s := if g != 0 && s.nat (K.reedGGroupMode (g - 1)) == 0 then s.decideGroup g k else s
    let d := reedDecision s c k
    let s := s.setReed c { s.reed c with
      k := some k, nextLine := 0, rotRepeat := false,
      linksLost := maskOf 4 (fun i => bit (s.reed c).linksLost i && !bit (s.reed c).linksBack i), linksBack := 0, linkNext := [] }
    let s := s.showLinks c
    let (s, action) :=
      match d with
      | .absent =>
        let r := s.reed c
        let n := r.repeats + 1
        ((s.setReed c { r with repeats := n, lossShown := r.lossShown || decide (s.nat (K.reedLossHoldPictures c) < n) }).reedRepeat c, 1)
      | .waiting => (s.reedRepeat c, 1)
      | .acquire n =>
        let r := s.reed c
        ((s.setReed c { r with acquired := true, lastAction := 0,
                               rotDelay := r.rotDelay && s.nat (K.reedRotation c) != 0 }).readPicture c n, 0)
      | .again => (s.reedRepeat c, 1)
      | .succ n => ((s.setReed c { s.reed c with lastAction := 0 }).readPicture c n, 0)
      | .skip n => (((s.setReed c { s.reed c with lastAction := 2 }).readPicture c n).slip c 2, 2)
    let s := ((s.showDelay c k).freeHostSlot c).beginRead c k action
    if s.nat (K.reedSourceType c) = 1 && (s.reed c).linksLost != 0 && (s.reed c).present && !(s.reed c).lossShown && lossPolicy s c == 0 then
      s.inputGap c 0
    else s

/-- R90, R92, R99: what the values that come into force at a boundary do to the Reed of channel c: a new source binding starts
without a source, a commit of SyncMarginLines (`written` are the keys that take effect) asks for acquisition, and a rotation that begins
costs one repeat. -/
def State.reedChanged (s0 s : State) (c : Nat) (written : List Nat) : State :=
  let changed (ks : List Nat) : Bool := ks.any fun k => s0.obj k != s.obj k
  let s :=
    if changed [K.reedSourceType c, K.reedSdiLinks c, K.reedSdiLanes c, K.reedSdiMapping c, K.reedFlowId c, K.reedFlowIdProtect c,
                K.reedWeftQuad c] then
      let r := s.reed c
      (s.setReed c { r with present := false, acquired := false, slots := r.slots.filter (fun p => some p.n == r.last), arriving := none,
                            acqFrom := r.nextN, linksLost := 0, linksBack := 0, linkNext := [], mismatch := false, hostStall := false,
                            history := [], freqLocked := false, repeats := 0 }).showLinks c
    else s
  let s := if written.contains (K.reedSyncMarginLines c) then s.setReed c { s.reed c with acquired := false } else s
  let r := s.reed c
  let rot := s.nat (K.reedRotation c)
  if r.rotation = rot then s
  else
    let on := rot != 0 && !r.rotDelay
    s.setReed c { r with rotation := rot, rotDelay := r.rotDelay || on, rotRepeat := r.rotRepeat || on }

/-! ## Seam sides (R252 to R264) -/

/-- A side of a seam channel: true the left one. -/
def State.side (s : State) (c : Nat) (left : Bool) : SideSt := if left then (s.reed c).left else (s.reed c).right
def State.setSide (s : State) (c : Nat) (left : Bool) (x : SideSt) : State :=
  s.setReed c (if left then { s.reed c with left := x } else { s.reed c with right := x })

/-- The chain port of a side: 0 none, 1 upstream, 2 downstream; none where the channel has no canvas. -/
def sidePort (s : State) (c : Nat) (left : Bool) : Nat :=
  if s.nat (K.reedSeamCanvas c) = 0 then 0 else s.nat (if left then K.reedLeftPort c else K.reedRightPort c)

/-- The key of a side's state object. -/
def sideKey (c : Nat) (left : Bool) : Nat := if left then K.reedLeftState c else K.reedRightState c

/-- R256: a seam message: header, CRC-32C over bytes 0 to 11 and the payload, payload. -/
def seamMessage (s : State) (c : Nat) (toLeft : Bool) (kind k index : Nat) (payload : Bytes) : Bytes :=
  let head := [BitVec.ofNat 8 kind, BitVec.ofNat 8 (s.nat (K.reedSeamCanvas c)), BitVec.ofNat 8 (s.nat (K.reedBandIndex c)),
      BitVec.ofNat 8 (b2n (!toLeft))] ++ beBytes 2 (k % 65536) ++ beBytes 2 index ++ beBytes 2 payload.length ++ beBytes 2 0
  head ++ beBytes 4 (crc32c (head ++ payload)) ++ payload

/-- A run of bytes cut or filled with zeros to a length. -/
def fitBytes (n : Nat) (b : Bytes) : Bytes := (b ++ List.replicate n 0).take n

/-- A seam message of channel c is queued towards one side. -/
def State.sendSeam (s : State) (c : Nat) (toLeft : Bool) (cls kind k index : Nat) (payload : Bytes) : State :=
  let p := sidePort s c toLeft
  if p = 0 || s.isFrozen 35 then s else s.queueChain (p - 1) cls (seamMessage s c toLeft kind k index payload)

/-- A line that the scaler finds beside the band on one side of the picture that leaves the Reed with T_k. -/
def ReedSt.putStrip (r : ReedSt) (k l : Nat) (left : Bool) (y : YccLine) : ReedSt :=
  let n := if (r.picOf k).any (·.rot) then k - 1 else k
  r.onPic n fun p => if left then { p with left := AMap.put p.left l y } else { p with right := AMap.put p.right l y }

/-- R259: the use of line l of picture k on one side: a stored strip is used, or the edge is repeated and counted late. -/
def State.useStrip (s : State) (c : Nat) (left : Bool) (k l : Nat) : State :=
  if s.nat (sideKey c left) != 3 then s
  else
    let sd := s.side c left
    match sd.strips.find? (fun x => x.pic == k % 65536 && x.line == l) with
    | some st =>
      let s := s.setSide c left { sd with strips := sd.strips.filter fun x => !(x.pic == k % 65536 && x.line == l) }
      s.setReed c ((s.reed c).putStrip k l left (stripLine st.data))
    | none =>
      if sd.dropped != 0 then s.setSide c left { sd with dropped := sd.dropped - 1 }
      else s.bump (K.reedStripLateCount c)

/-- R259: the strips due with line l of picture k's raster are used, on both sides. -/
def State.useStrips (s : State) (c k l : Nat) : State :=
  (rotatedLines s.view c l).foldl (fun s n => (s.useStrip c true k n).useStrip c false k n) s

/-- R257: the columns nearest each seam of line n of the picture that leaves the synchroniser, or the rotator, from T_k on. -/
def State.sendStrips (s : State) (c k n : Nat) (p : ReedPic) : State :=
  let l := p.rotated (p.view s.fuses) c n
  (s.sendSeam c true 1 1 k n (stripBytes l 0)).sendSeam c false 1 1 k n (stripBytes l (l.y.length - 64))

/-- R91: line l of picture k as it is read: none where the chosen picture's line is not complete. -/
def readLineOf (s : State) (c : Nat) (p : ReedPic) (before : SrcLine) (l : Nat) : Option SrcLine :=
  if p.loss then some (lossLine s.view c)
  else if p.gapFrom.isSome then some before
  else match p.src.bind fun n => (s.reed c).slots.find? fun x => x.n == n with
    | some x => x.readLine s.view c (lossPolicy s c) p.lost (s.reed c).linksLost before l
    | none => some before

/-- R91, R257, R259, R351: line L is read at T_k + L × L_in, once and in its turn; an incomplete line makes the rest of the picture an input gap;
the line goes out on the quads that send the picture, the columns nearest each seam are sent, and the strip lines due are used. -/
def State.readOne (s : State) (c line : Nat) : State :=
  let v := s.view
  let k := s.pic c
  let r := s.reed c
  let due := decide (boundaryTime v c k + q line * readLine v c ≤ nowExact s)
  if !due || line != r.nextLine || decide (v.nat (K.reedHeight c) ≤ line) || r.k.isNone || s.videoStopped then s
  else
    let s := s.setReed c { r with nextLine := line + 1 }
    let before := match r.picOf (k - 1) with
      | some p => if k = 0 then lossLine v c else p.line v c line
      | none => lossLine v c
    let got := (r.picOf k).bind fun p => readLineOf s c p before line
    let s := if got.isNone && (r.picOf k).isSome then s.inputGap c line else s
    let px := got.getD before
    let s := s.setReed c ((s.reed c).onPic k fun p => { p with lines := AMap.put p.lines line px })
    let flags := match (s.reed c).picOf k with
      | some p => b2n (p.action == 1) + 2 * b2n (p.gapFrom.any fun g => decide (g ≤ line)) + 4 * b2n p.loss
      | none => 0
    let s := (List.range 8).foldl (fun s x =>
      if s.nat (K.quadQuadMode x) = 4 && s.nat (K.quadWeftRole x) = 1 && s.nat (K.quadWeftTxChannel x) = c then
        s.emit (.weftLine x (k % 65536) line flags (fitBytes (8 * ceilDiv (20 * v.nat (K.reedWidth c)) 64) (packLine px)))
      else s) s
    let out := if ((s.reed c).picOf k).any (·.rot) then (s.reed c).picOf (k - 1) else (s.reed c).picOf k
    let s := match out with
      | some p => if s.nat (K.reedSeamCanvas c) = 0 then s else (rotatedLines v c line).foldl (fun s n => s.sendStrips c k n p) s
      | none => s
    if line < 3 then s else s.useStrips c k (line - 3)

/-- LINE_READ (R91, R257, R259, R351): so many lines of picture k, from line L on, are read, each at T_k + L × L_in or later. -/
def execLineRead (c : Chan) (pic line count : Nat) (s : State) : Result := whenClocked s <|
  if pic = s.pic c then .next ((List.range count).foldl (fun s i => s.readOne c (line + i)) s) else .next s

/-! ## Row statistics (R103 to R105) -/

/-- Picture k of channel c, once the instant t after its boundary, by the values it was read under, has been reached. -/
def rowPicture (s : State) (c k : Nat) (t : View → ReedPic → Rat) : Option ReedPic :=
  (s.reed c).pics.find? fun p => p.pic == k && decide (q (boundaryNs (p.view s.fuses) c p.pic) + t (p.view s.fuses) p ≤ nowExact s)

/-- R104, R105: the statistics record of row j of a picture that follows `prev`, and whether SceneCut stands. -/
def rowRecord (f : Fuses) (c : Nat) (p : ReedPic) (prev : Option ReedPic) (j : Nat) : StatRec × Nat × Bool :=
  let v := p.view f
  let rep := p.action == 1
  let (sad, mvX, mvY) := if rep then ((0 : Nat), (0 : Int), (0 : Int)) else p.motion prev f c j
  let cut := !rep && (p.cut || sceneCutAt v c j (AMap.put p.sad j sad) (match prev with | some b => b.sad | none => []))
  let flags := b2n cut + 2 * b2n (p.action != 0) + 4 * b2n (p.rowGap v c j) + 8 * b2n p.loss + 16 * b2n (p.rowHeld v c j)
  ({ row := j, flags := flags, activity := p.activity v c j, motionSad := sad % 2 ^ 32, mvX := mvX, mvY := mvY, pictureCount := p.pic % 65536 },
   sad, cut)

/-- REED_ROW_COMPLETE (R103 to R105): output row j is complete in the Press's input and its statistics record is written. -/
def execReedRowComplete (c : Chan) (pic row : Nat) (s : State) : Result := whenClocked s <|
  match rowPicture s c pic fun v p => tRow v c p.rot row with
  | none => .next s
  | some p =>
    if s.videoStopped || decide (ceilDiv (outHeight (p.view s.fuses) c) 64 ≤ row) || (AMap.find? p.sad row).isSome then .next s
    else
      let r := s.reed c
      let (rec_, sad, cut) := rowRecord s.fuses c p (if p.pic = 0 then none else r.picOf (p.pic - 1)) row
      let st := r.stats ++ [rec_]
      .next (s.setReed c { r.onPic p.pic fun x => { x with sad := AMap.put x.sad row sad, cut := cut } with stats := st.drop (st.length - 16) })

end Sys2Proof.Machine
end

