-- ==== Sys2Proof/Machine/Compose.lean ====
section
/-!
DEFINITION. Sys2Proof/Machine/Compose.lean: the composed picture (R113, R119 to R128, R131, R134): where a layer's rectangle lies, what a
layer brings at a pixel, surfaces and safe images read from the DRAM, and the lines of a row.
-/

namespace Sys2Proof.Machine

/-- The view of the objects that a picture of the Press is composed under. -/
def PressPic.view (p : PressPic) (f : Fuses) : View := { fuses := f, vals := p.vals }

/-! ## Rectangles (R113) -/

/-- R113: the size of a layer's source: a solid colour has no edge (log entry 121), and a clip of which no picture has been shown none that
is known. -/
def layerSize (v : View) (p : PressPic) (c i : Nat) : Nat × Nat :=
  let ref := v.nat (K.layerSourceRef c i)
  match v.nat (K.layerSourceKind c i) with
  | 0 => (65536, 65536)
  | 1 => (outWidth v ref, outHeight v ref)
  | 2 => (v.nat (K.layerSurfaceWidth c i), v.nat (K.layerSurfaceHeight c i))
  | _ => match AMap.find? p.clips i with
    | some k => (k.width, k.height)
    | none => (v.nat (K.layerSrcX c i) + v.nat (K.layerSrcWidth c i), v.nat (K.layerSrcY c i) + v.nat (K.layerSrcHeight c i))

/-- R113: the width and the height of a layer's rectangle: to the source's edge where the object is 0, and never beyond the source. -/
def layerExtent (v : View) (p : PressPic) (c i : Nat) : Nat × Nat :=
  let (w, h) := layerSize v p c i
  let run (at_ len size : Nat) : Nat := if len = 0 then size - at_ else min len (size - at_)
  (run (v.nat (K.layerSrcX c i)) (v.nat (K.layerSrcWidth c i)) w, run (v.nat (K.layerSrcY c i)) (v.nat (K.layerSrcHeight c i)) h)

/-- R113: the source position that a layer places at pixel (x, y) of the canvas, if its rectangle holds that pixel. -/
def layerAt (v : View) (p : PressPic) (c i x y : Nat) : Option (Nat × Nat) :=
  let dx := (x : Int) - v.int (K.layerDstX c i)
  let dy := (y : Int) - v.int (K.layerDstY c i)
  let (w, h) := layerExtent v p c i
  if 0 ≤ dx && decide (dx < w) && decide (0 ≤ dy) && decide (dy < h) then
    some (v.nat (K.layerSrcX c i) + dx.toNat, v.nat (K.layerSrcY c i) + dy.toNat)
  else none

/-! ## What a layer brings at a source position -/

/-- A line's pixel: the luma at a position and the chroma there, which between two sites is a free value. -/
def linePixel (l : YccLine) (x : Nat) : LayerPixel :=
  let chroma (k : List Nat) : Nat :=
    if x % 2 = 0 then k.getD (x / 2) 0 else (Config.chromaBetween (edgeSample k (x / 2 : Nat)) (edgeSample k (x / 2 + 1 : Nat))).toNat
  { alpha := 1023, c0 := l.y.getD x 0, c1 := chroma l.cb, c2 := chroma l.cr, ycc := true }

/-- R112, R116: Reed channel d's pixel in picture k; a channel without a picture shows its LossColour. -/
def reedPixel (s : State) (d k x y : Nat) : LayerPixel :=
  match (s.reed d).picOf k with
  | some p => linePixel (p.outLine (p.view s.fuses) d y) x
  | none => linePixel (yccOfPairs (lossLine s.view d)) 0

/-- R137: a clip's pixel; its chroma at a luma position is a free value. -/
def clipPixel (k : ClipPic) (x y : Nat) : LayerPixel :=
  { alpha := 1023, c0 := (k.y.getD y []).getD x 0, c1 := (Config.clipChroma x y k.cb).toNat, c2 := (Config.clipChroma x y k.cr).toNat,
    ycc := true }

/-- R127: pixel (x, y) of a block's 256. -/
def blockPixel (b : List Pixel4) (x y : Nat) : LayerPixel :=
  let p := b.getD (16 * (y % 16) + x % 16) []
  { alpha := p.getD 0 0, c0 := p.getD 1 0, c1 := p.getD 2 0, c2 := p.getD 3 0 }

/-- R118: the DRAM address of the buffer that a layer shows. -/
def shownBase (v : View) (p : PressPic) (c i : Nat) : Nat :=
  v.nat (K.layerSurfaceBase c i) + AMap.getD p.buffers i 0 * v.nat (K.layerBufferStride c i)

/-- R127, R128: block n of the pressed surface that a layer shows; none where it is corrupt. -/
def layerBlock (s : State) (v : View) (p : PressPic) (c i n : Nat) : Option (List Pixel4) :=
  surfaceBlock (dramRead s) (shownBase v p c i) (bufferSpan v c i) (v.nat (K.layerMaxBytes c i)) (v.nat (K.layerSurfaceWidth c i))
    (v.nat (K.layerSurfaceHeight c i)) n

/-- R126 to R128: a surface's pixel; none in a corrupt block. -/
def surfacePixel (s : State) (v : View) (p : PressPic) (c i x y : Nat) : Option LayerPixel :=
  let f := v.nat (K.layerSurfaceFormat c i)
  if f = 2 then
    (layerBlock s v p c i (y / 16 * ceilDiv (v.nat (K.layerSurfaceWidth c i)) 16 + x / 16)).map fun b => blockPixel b x y
  else some (rawPixel f (ofLeBytes (dramRead s (shownBase v p c i + y * v.nat (K.layerPitch c i) + 4 * x) 4)))

/-- What a layer that shows its source brings at a source position: the colour in the output space and the alpha; none in a corrupt block. -/
def layerColour (s : State) (v : View) (p : PressPic) (c i x y : Nat) : Option (Rgb × Nat) :=
  let through (k : LayerPixel) : Rgb × Nat := (layerTransform v c i (layerRgb v c i k), k.alpha)
  match v.nat (K.layerSourceKind c i) with
  | 0 => some (colourRgb (v.nat (K.pressOutputTransfer c)) (v.nat (K.layerSolidColour c i)), 1023)
  | 1 => some (through (reedPixel s (v.nat (K.layerSourceRef c i)) p.pic x y))
  | 2 => (surfacePixel s v p c i x y).map through
  | _ => (AMap.find? p.clips i).map fun k => through (clipPixel k x y)

/-! ## The composition (R120, R131) -/

/-- R120, R128: one layer over the composition so far, at a pixel of the canvas. -/
def layerOver (s : State) (v : View) (p : PressPic) (c x y : Nat) (acc : Rgb) (i : Nat) : Rgb :=
  match AMap.getD p.shows i .nothing, layerAt v p c i x y with
  | .nothing, _ => acc
  | _, none => acc
  | sh, some (sx, sy) =>
    let al := v.nat (K.layerLayerAlpha c i)
    let fall := (colourRgb (v.nat (K.pressOutputTransfer c)) (v.nat (K.layerFallbackColour c i)), 1023)
    let (col, a) := if sh = .fallback then fall else (layerColour s v p c i sx sy).getD fall
    blend (blendAlpha a al) col acc

/-- R131: the safe image of region h in place of the composition, at a pixel of the region; what a corrupt block of it shows is free. -/
def safeOver (s : State) (v : View) (c x y : Nat) (acc : Rgb) (h : Nat) : Rgb :=
  let x0 := v.nat (K.hemX c h)
  let y0 := v.nat (K.hemY c h)
  let w := v.nat (K.hemWidth c h)
  let t := v.nat (K.hemHeight c h)
  if x < x0 || decide (x0 + w ≤ x) || decide (y < y0) || decide (y0 + t ≤ y) then acc
  else
    let n := (y - y0) / 16 * ceilDiv w 16 + (x - x0) / 16
    match surfaceBlock (dramRead s) (v.nat (K.hemSafeBase c h)) (pressedBytes w t) 0 w t n with
    | some b =>
      let k := blockPixel b (x - x0) (y - y0)
      { r := full10 k.c0, g := full10 k.c1, b := full10 k.c2 }
    | none =>
      let free (n : Nat) : Int := (Config.corruptSafe (x - x0) (y - y0) n).toNat
      { r := free 0, g := free 1, b := free 2 }

/-- R120, R131: a pixel of the composition: the background, the layers from position 0 to 15, then the safe images of the regions given. -/
def composePixel (s : State) (v : View) (p : PressPic) (c : Nat) (safe : List Nat) (x y : Nat) : Rgb :=
  let bg := colourRgb (v.nat (K.pressOutputTransfer c)) (v.nat (K.pressBackgroundColour c))
  safe.foldl (fun acc h => safeOver s v c x y acc h) ((List.range 16).foldl (fun acc i => layerOver s v p c x y acc i) bg)

/-- R121: line y of the composition. -/
def composeLine (s : State) (v : View) (p : PressPic) (c : Nat) (safe : List Nat) (y : Nat) : YccLine :=
  yccLine (v.nat (K.pressOutputTransfer c)) ((List.range (canvasW v c)).map fun x => composePixel s v p c safe x y)

/-- The lines of the canvas in row j. -/
def rowYs (v : View) (c j : Nat) : List Nat := (List.range (min 64 (canvasH v c - 64 * j))).map (64 * j + ·)

/-- R131: the regions whose safe image is substituted in a picture. -/
def PressPic.safe (p : PressPic) : List Nat := (p.hems.filter fun e => e.2.subst).map (·.1)

/-! ## Corrupt blocks (R128) -/

/-- R128: the layers that meet a corrupt block whose first visible line lies in row j, once for each such block. -/
def rowFaults (s : State) (v : View) (p : PressPic) (c j : Nat) : List Nat :=
  (List.range 16).flatMap fun i =>
    if AMap.getD p.shows i .nothing != .source || v.nat (K.layerSourceKind c i) != 2 || v.nat (K.layerSurfaceFormat c i) != 2 then []
    else
      let (w, h) := layerExtent v p c i
      let dx := v.int (K.layerDstX c i)
      let dy := v.int (K.layerDstY c i)
      let x0 := v.nat (K.layerSrcX c i) + (-dx).toNat
      let x1 := v.nat (K.layerSrcX c i) + (min (w : Int) (canvasW v c - dx)).toNat
      let y0 := v.nat (K.layerSrcY c i) + (-dy).toNat
      let y1 := v.nat (K.layerSrcY c i) + (min (h : Int) (canvasH v c - dy)).toNat
      let bw := ceilDiv (v.nat (K.layerSurfaceWidth c i)) 16
      let bys := (List.range (ceilDiv y1 16)).filter fun b =>
        let first := max (16 * b) y0
        decide (y0 < 16 * b + 16) && decide (first < y1) && (((first - v.nat (K.layerSrcY c i) : Nat) : Int) + dy) / 64 == (j : Int)
      let bxs := (List.range (ceilDiv x1 16)).filter fun b => decide (x0 < 16 * b + 16) && decide (x0 < x1)
      bys.flatMap fun y => (bxs.filter fun x => (layerBlock s v p c i (y * bw + x)).isNone).map fun _ => i

/-! ## The signature message (R134) -/

/-- R134: the UUID of the message. -/
def hemUuid : Bytes := [0x5A, 0x53, 0x91, 0x40, 0xB7, 0x2E, 0x4C, 0x0D, 0x9A, 0x61, 0xE3, 0x08, 0x57, 0xC4, 0x2B, 0x19]

/-- R134: the payload of the picture's user_data_unregistered message; none where no region is published. -/
def hemPayload (v : View) (c : Nat) (p : PressPic) : Option Bytes :=
  let rs := (List.range 16).filter fun h => v.flag (K.hemHemEnable c h) && v.flag (K.hemPublish c h)
  if rs.isEmpty then none
  else
    some (hemUuid ++ [0x01, BitVec.ofNat 8 rs.length] ++ beBytes 2 (p.pic % 65536) ++ rs.flatMap fun h =>
      let x := AMap.getD p.hems h {}
      let flags := b2n (v.flag (K.hemLossless c h)) + 2 * b2n x.subst + 4 * b2n x.alarmFlag + 8 * b2n (v.nat (K.loomChromaFormat c) == 0)
      [BitVec.ofNat 8 h, BitVec.ofNat 8 flags] ++ beBytes 2 (v.nat (K.hemX c h)) ++ beBytes 2 (v.nat (K.hemY c h))
        ++ beBytes 2 (v.nat (K.hemWidth c h)) ++ beBytes 2 (v.nat (K.hemHeight c h)) ++ [0, 0] ++ beBytes 8 x.crc)

end Sys2Proof.Machine
end

