-- ==== Sys2Proof/Machine/Press.lean ====
section
/-!
DEFINITION. Sys2Proof/Machine/Press.lean: the Press (R110 to R144): layer states at a boundary, publication of surfaces, hem
regions, the Unpickers, and the hand-off of composed rows.
-/

namespace Sys2Proof.Machine

/-! ## Layers -/

def State.layer (s : State) (c i : Nat) : LayerSt := AMap.getD (s.press c).layers i {}
def State.setLayer (s : State) (c i : Nat) (x : LayerSt) : State :=
  s.setPress c { s.press c with layers := AMap.put (s.press c).layers i x }
def State.hem (s : State) (c h : Nat) : HemSt := AMap.getD (s.press c).hems h {}
def State.setHem (s : State) (c h : Nat) (x : HemSt) : State :=
  s.setPress c { s.press c with hems := AMap.put (s.press c).hems h x }

/-- R118: an EndOfUnit descriptor on surface ring r completed: its publication serves every layer, whenever it is enabled, that is bound to
the ring and whose buffer contains the address. -/
def State.publishSurface (s : State) (ring addr : Nat) : State :=
  { s with video := { s.video with pubs := AMap.upd s.video.pubs ring [] fun l => (addr, nowNs s) :: l } }

/-- R118: the newest publication that counts for T_k: its Status write completed before T_k − 20 µs; its buffer and its time. -/
def countingPub (s : State) (c i tk : Nat) : Option (Nat × Nat) :=
  (AMap.getD s.video.pubs (s.nat (K.layerSourceRef c i)) []).findSome? fun p =>
    if p.2 + 20000 < tk then (bufferOf s.view c i p.1).map fun b => (b, p.2) else none

/-- R136: the number of the clip's picture that is due at picture k of the master's raster; at the end of a clip without Loop its last. -/
def unpIndex (s : State) (u k : Nat) : Option Nat :=
  (s.unp u).start.map fun k0 =>
    let i := (k - k0) / max 1 (s.nat (K.unpRateDivider u))
    match (s.unp u).length with | some n => min i (n - 1) | none => i

/-- R136: the picture of Unpicker u that is due at picture k of its master's raster, and whether it is concealed; none while it
is not complete. -/
def unpDue (s : State) (u k : Nat) : Option ClipShown :=
  let x := s.unp u
  if s.isFrozen (29 + u) || x.rejected then none
  else (unpIndex s u k).bind fun i => (x.shown.toList ++ x.ready).find? fun e => e.index == i

/-- R116: whether the source of layer (c, i) is ready at T_k; waiting says that the layer is Waiting. -/
def layerReady (s : State) (c i k : Nat) (waiting : Bool) : Bool :=
  let kind := s.nat (K.layerSourceKind c i)
  let l := s.layer c i
  let tk := boundaryNs s.view c k
  if s.isFrozen 28 then false
  else if kind = 0 || kind = 1 then true
  else if kind = 2 then
    let n := s.nat (K.layerUpdateEvery c i)
    match countingPub s c i tk with
    | none => !waiting && n != 0 && l.sinceLive % n != 0
    | some p =>
      if n = 0 then true
      else if waiting then true
      else if l.sinceLive % n = 0 then decide (l.countedTo < p.2) else true
  else (unpDue s (s.nat (K.layerSourceRef c i)) k).isSome

/-- R115 to R118: layer (c, i) at T_k. -/
def State.layerBoundary (s : State) (c k i : Nat) : State :=
  let stKey := K.layerStState c i
  if !s.flag (K.layerEnable c i) then
    (if s.nat stKey = 0 then s else ((s.setN stKey 0).setN (K.layerStShownBuffer c i) 0xFF).setLayer c i {})
  else
    let src := [s.int (K.layerSourceKind c i), s.int (K.layerSourceRef c i), s.int (K.layerSurfaceBase c i), s.int (K.layerBufferStride c i)]
    let l0 := s.layer c i
    let fresh := s.nat stKey == 0 || l0.source != src
    let s := if fresh then (s.setLayer c i { source := src }).setN (K.layerStShownBuffer c i) 0xFF else s
    let st := if fresh then 1 else s.nat stKey
    let l := s.layer c i
    let ready := layerReady s c i k (st == 1)
    let kind := s.nat (K.layerSourceKind c i)
    if ready then
      let since := if st = 1 then 0 else l.sinceLive
      let n := s.nat (K.layerUpdateEvery c i)
      let upd := kind == 2 && (n == 0 || since % max 1 n == 0)
      let pub := countingPub s c i (boundaryNs s.view c k)
      let clip := if kind = 3 then unpDue s (s.nat (K.layerSourceRef c i)) k else none
      let s := s.setLayer c i { l with sinceLive := since + 1, clip := clip,
                                       countedTo := if upd then (pub.map (·.2)).getD l.countedTo else l.countedTo }
      let s := if upd then s.setN (K.layerStShownBuffer c i) ((pub.map (·.1)).getD 0xFF) else s
      s.setN stKey 2
    else if st = 1 then s.setN stKey 1
    else
      let s := s.setLayer c i { l with sinceLive := l.sinceLive + 1 }
      let hold := s.nat (K.layerNotReadyPolicy c i) == 1
      let s := (s.setN stKey (if hold then 4 else 3)).bump (if hold then K.layerStHoldOffCount c i else K.layerStRepeatCount c i)
      (s.count (128 + 4 * c + 1) 1).raise { src := 96 + 4 * c, unit := c }

/-- R120: what layer (c, i) shows. -/
def layerShows (s : State) (c i : Nat) : Shows :=
  match s.nat (K.layerStState c i) with
  | 0 => .nothing
  | 2 => if (s.layer c i).clip.any (·.concealed) && s.nat (K.layerConcealPolicy c i) == 1 then .fallback else .source
  | 3 => .source
  | _ => .fallback

/-! ## Hem regions -/

/-- R140: the status objects of a channel's regions. -/
def State.showHems (s : State) (c : Nat) : State :=
  let s := (List.range 16).foldl (fun s h =>
    let x := s.hem c h
    let st := if !s.flag (K.hemHemEnable c h) then 0 else if !x.alarm then 1 else if x.subst then 3 else 2
    if s.nat (K.hemStHemState c h) = st then s else s.setN (K.hemStHemState c h) st) s
  (s.setN (K.pressHemAlarmMask c) (maskOf 16 fun h => (s.hem c h).alarm)).setN (K.pressSafeMask c) (maskOf 16 fun h => (s.hem c h).subst)

/-- R132: whether the layer that region h names, if it names one, is Live. -/
def hemLive (s : State) (c h : Nat) : Bool :=
  let ref := s.nat (K.hemLayerRef c h)
  decide (16 ≤ ref) || s.nat (K.layerStState c ref) == 2

/-- R131, R132: region h of channel c at a boundary: substitution stands while it is in alarm under policy 1, and a named layer that is not Live brings the
region into alarm. -/
def State.hemBoundary (s : State) (c h : Nat) : State :=
  if !s.flag (K.hemHemEnable c h) then
    (if (s.press c).hems.any (fun e => e.1 == h) then s.setPress c { s.press c with hems := AMap.del (s.press c).hems h } else s)
  else
    let x := s.hem c h
    let pol := s.nat (K.hemPolicy c h)
    let x := { x with subst := x.alarm && pol == 1 }
    if hemLive s c h then s.setHem c h x
    else if x.alarm then s.setHem c h { x with hits := 0 }
    else
      let s := s.setHem c h { alarm := true, hits := 0, subst := pol == 1 }
      (s.bump (K.hemStNotReadyCount c h)).raise { src := 97 + 4 * c, unit := c }

/-- A picture of the Press changed. -/
def PressSt.onPic (x : PressSt) (k : Nat) (f : PressPic → PressPic) : PressSt :=
  { x with pics := x.pics.map fun p => if p.pic = k then f p else p }
def PressSt.picOf (x : PressSt) (k : Nat) : Option PressPic := x.pics.find? fun p => p.pic == k

/-- R131: the signature of region h of picture p is final and is compared with the value in force at T_k. A mismatch of a substituted picture
keeps the substitution. -/
def State.hemFinal (s : State) (c h : Nat) (p : PressPic) (x : HemPic) : State :=
  let v := p.view s.fuses
  let s := (s.setN (K.hemStLastSignature c h) x.crc).setN (K.hemStLiveSignature c h) x.live
  let cmp := v.flag (K.hemCompare c h)
  let want := if x.subst then v.nat (K.hemSafeSignature c h) else v.nat (K.hemExpected c h)
  let bad := cmp && x.crc != want
  let s := if bad then
      let s := ((s.bump (K.hemStMismatchCount c h)).count (128 + 4 * c + 2) 1).raise { src := 97 + 4 * c, unit := c }
      s.setPress c ((s.press c).onPic p.pic fun y => { y with hems := AMap.put y.hems h { x with alarmFlag := true } })
    else s
  let y := s.hem c h
  if !y.alarm then
    (if bad then s.setHem c h { y with alarm := true, hits := 0 } else s)
  else
    let good := x.layerLive && (!cmp || (if x.subst then x.live else x.crc) == v.nat (K.hemExpected c h))
    let hits := if good then y.hits + 1 else 0
    if good && !bad && decide (v.nat (K.hemReturnMatches c h) ≤ hits) then
      (s.setHem c h { y with alarm := false, hits := 0 }).raise { src := 97 + 4 * c, unit := c }
    else s.setHem c h { y with hits := hits }

/-! ## The Unpickers -/

/-- R136: a clip has been loaded through ring 32 + u. -/
def State.clipLoaded (s : State) (u : Nat) : State :=
  s.setUnp u { s.unp u with loaded := true, armed := s.flag (K.unpEnable u), rejected := false, start := none, ready := [], next := 0,
                            pos := 0, first := none, good := none, concealing := false, shown := none, length := none }

/-- R136: Enable changes. -/
def State.unpEnableChanged (s : State) (u : Nat) : State :=
  let on := s.flag (K.unpEnable u)
  let x := s.unp u
  if on = x.enabled then s
  else
    let s := s.setUnp u { x with enabled := on, armed := on && x.loaded, start := none, ready := [], next := 0, pos := 0,
                                 first := none, good := none, concealing := false, shown := none, length := none, rejected := x.rejected && on }
    if on then s else s.setN (K.unpStUnpickerState u) 0

/-- R136: the Unpickers whose MasterChannel is c, at T_k: they start when armed, pictures that come too late are dropped, and the due
picture becomes the shown one. -/
def State.unpBoundary (s : State) (c k : Nat) : State :=
  (List.range 2).foldl (fun s u =>
    if s.nat (K.unpMasterChannel u) != c || !s.flag (K.unpEnable u) || s.isFrozen (29 + u) then s
    else
      let x := s.unp u
      let s := if x.armed && !x.rejected then
          (s.setUnp u { x with armed := false, start := some k }).setN (K.unpStUnpickerState u) 1 else s
      let x := s.unp u
      match unpIndex s u k with
      | none => s
      | some i =>
        let due := unpDue s u k
        let s := s.setUnp u { x with shown := due.orElse fun _ => x.shown, ready := x.ready.filter fun e => decide (i < e.index) }
        if due.isSome && x.length = some (i + 1) then s.setN (K.unpStUnpickerState u) 4 else s) s

/-- R135: whether a clip's parameter sets, and the rate at which Unpicker u is to show it, are within the limits. -/
def clipFits (v : View) (u : Nat) (p : ClipParams) : Bool :=
  let hevc := v.nat (K.unpCodec u) == 0
  (if hevc then (p.profile == 1 || p.profile == 2) && decide (p.level ≤ 153) else p.profile == 1 && decide (p.level ≤ 83))
    && p.chromaFormat == 1 && (p.bitDepth == 8 || p.bitDepth == 10) && decide (p.width ≤ 3840) && decide (p.height ≤ 2160) && p.progressive && p.plain
    && decide (pictureRate v (v.nat (K.unpMasterChannel u)) ≤ 60 * q (max 1 (v.nat (K.unpRateDivider u))))

/-- R136: whether an Annex B start code stands at an offset of the clip. -/
def startCode (s : State) (u pos : Nat) : Bool :=
  let b := dramRead s (s.nat (K.unpClipBase u) + pos) 4
  b.take 3 == [0, 0, 1] || b == [0, 0, 0, 1]

/-- R137: mid-grey of a size. -/
def greyPic (w h : Nat) : ClipPic :=
  let plane (w h : Nat) : List (List Nat) := List.replicate h (List.replicate w 512)
  { width := w, height := h, y := plane w h, cb := plane (ceilDiv w 2) (ceilDiv h 2), cr := plane (ceilDiv w 2) (ceilDiv h 2) }

/-- R137: an area of a plane taken from another, sample by sample. -/
def patchPlane (to_ from_ : List (List Nat)) (x y w h : Nat) : List (List Nat) :=
  to_.zipIdx.map fun (row, j) =>
    if y ≤ j && decide (j < y + h) then
      row.zipIdx.map fun (p, i) => if x ≤ i && decide (i < x + w) then (from_.getD j []).getD i 512 else p
    else row

/-- R137: the co-located area of the substitute in place of a slice with a syntax error. -/
def ClipPic.patch (p sub : ClipPic) (a : Nat × Nat × Nat × Nat) : ClipPic :=
  let (x, y, w, h) := a
  let half (f : ClipPic → List (List Nat)) : List (List Nat) :=
    patchPlane (f p) (f sub) (x / 2) (y / 2) (ceilDiv (x + w) 2 - x / 2) (ceilDiv (y + h) 2 - y / 2)
  { p with y := patchPlane p.y sub.y x y w h, cb := half (·.cb), cr := half (·.cr) }

/-- R137: a concealed picture is counted for the Unpicker and every layer that it feeds, and raised on their channels. -/
def State.countConcealed (s : State) (u : Nat) : State :=
  (List.range 16).foldl (fun s c =>
    let ls := (List.range 16).filter fun i =>
      s.flag (K.layerEnable c i) && s.nat (K.layerSourceKind c i) == 3 && s.nat (K.layerSourceRef c i) == u
    let s := ls.foldl (fun s i => s.bump (K.layerStConcealCount c i)) s
    if ls.isEmpty then s else (s.count (128 + 4 * c + 3) 1).raise { src := 98 + 4 * c, unit := c }) (s.bump (K.unpStConcealCount u))

/-- R136, R137: a picture of the clip decoded into a buffer. -/
def State.clipDecoded (s : State) (u : Nat) (pic : ClipPicture) : State :=
  let x := s.unp u
  let first := x.first.getD x.pos
  let bad := pic.missing || !pic.bad.isEmpty
  let con := if pic.recovers && !bad then false else x.concealing || bad
  let sub := x.good.getD (greyPic pic.samples.width pic.samples.height)
  let out := pic.bad.foldl (fun p a => p.patch sub a) pic.samples
  let ended := decide (s.nat (K.unpClipBytes u) ≤ x.pos + pic.length)
  let loop := s.flag (K.unpLoop u)
  let y := { x with first := some first, ready := x.ready ++ [{ index := x.next, concealed := con, pic := out }], next := x.next + 1,
                    concealing := con, good := if con then x.good else some out,
                    pos := if ended && loop then first else x.pos + pic.length,
                    length := if ended && !loop then some (x.next + 1) else none }
  let s := ((s.setUnp u y).bump (K.unpStDecodedCount u)).setN (K.unpStUnpickerState u) (if con then 2 else 1)
  if con then s.countConcealed u else s

/-- Whether Unpicker u can take an access unit of so many bytes: it plays, a buffer is free, and the clip holds the unit where reading has
come to. Decoding starts, and starts again at the end, with an IRAP or GDR picture. -/
def unpTakes (s : State) (u : Nat) (pic : ClipPicture) : Bool :=
  let x := s.unp u
  s.flag (K.unpEnable u) && x.start.isSome && !x.rejected && !s.isFrozen (29 + u) && !s.videoStopped && x.length.isNone
    && decide (x.ready.length + x.shown.toList.length < 3) && decide (0 < pic.length)
    && decide (x.pos + pic.length ≤ s.nat (K.unpClipBytes u)) && startCode s u x.pos && (x.first != some x.pos || pic.entry)

/-- UNPICKER_PICTURE_DECODED (R135 to R137): an Unpicker has decoded a picture of its clip into one of its three buffers. -/
def execUnpickerPictureDecoded (unp : Fin 2) (pic : ClipPicture) (s : State) : Result := whenClocked s <|
  let u : Nat := unp
  let x := s.unp u
  if !unpTakes s u pic then .next s
  else if pic.params.any fun p => !clipFits s.view u p then
    let m := s.nat (K.unpMasterChannel u)
    .next (((s.setUnp u { x with rejected := true, ready := [] }).setN (K.unpStUnpickerState u) 3).raise { src := 99 + 4 * m, unit := m })
  else
    let s := match pic.params with
      | some p => (s.setN (K.unpStClipWidth u) p.width).setN (K.unpStClipHeight u) p.height
      | none => s
    if x.first.isNone && !pic.entry then .next (s.setUnp u { x with pos := x.pos + pic.length })
    else .next (s.clipDecoded u pic)

/-! ## A picture boundary, and rows -/

/-- The picture of the Press that begins at T_k: what the boundary has fixed of it. -/
def State.openCompose (s : State) (c k : Nat) : State :=
  let all {α : Type} (f : Nat → Option α) : AMap α := (List.range 16).filterMap fun i => (f i).map fun x => (i, x)
  let p : PressPic := {
    pic := k, vals := s.objs,
    shows := all fun i => if layerShows s c i = .nothing then none else some (layerShows s c i),
    buffers := all fun i => if s.nat (K.layerSourceKind c i) = 2 && decide (s.nat (K.layerStShownBuffer c i) < 3) then some (s.nat (K.layerStShownBuffer c i)) else none,
    clips := all fun i => if s.nat (K.layerSourceKind c i) = 3 then ((s.layer c i).clip.map (·.pic)) else none,
    hems := all fun h => if s.flag (K.hemHemEnable c h) then some { subst := (s.hem c h).subst, layerLive := hemLive s c h } else none }
  s.setPress c { s.press c with pics := (p :: (s.press c).pics).take 4 }

/-- R115 to R132 at T_k for channel c. -/
def State.pressBoundary (s : State) (c k : Nat) : State :=
  if s.videoStopped then s
  else
    let s := s.unpBoundary c k
    let s := (List.range 16).foldl (fun s i => s.layerBoundary c k i) s
    let s := (List.range 16).foldl (fun s h => s.hemBoundary c h) s
    (s.showHems c).openCompose c k

/-- R140, R141: layer contexts in use. -/
def State.showContexts (s : State) : State :=
  let n (c : Nat) : Nat := ((List.range 16).filter fun i => s.flag (K.layerEnable c i)).length
  let s := (List.range 16).foldl (fun s c => if s.nat (K.pressChannelContexts c) = n c then s else s.setN (K.pressChannelContexts c) (n c)) s
  s.setN K.pressGContextsUsed ((List.range 16).map n).sum

/-- R131: the signatures of the regions of picture k that row j touches are taken on over its lines, composed and unsubstituted; those
that end in the row are final. -/
def State.hemRow (s : State) (c k row : Nat) (v : View) (done plain : List YccLine) : State :=
  let chroma := v.nat (K.loomChromaFormat c)
  (List.range 16).foldl (fun s h =>
    match (s.press c).picOf k with
    | none => s
    | some p =>
      match AMap.find? p.hems h with
      | none => s
      | some x =>
        let y0 := v.nat (K.hemY c h)
        let y1 := y0 + v.nat (K.hemHeight c h)
        if decide (64 * (row + 1) ≤ y0) || decide (y1 ≤ 64 * row) then s
        else
          let up (crc : Nat) (l : List YccLine) : Nat := hemOver chroma (v.nat (K.hemX c h)) (v.nat (K.hemWidth c h)) y0 y1 crc (64 * row) l
          let x := { x with crc := up x.crc done, live := up x.live plain }
          let s := s.setPress c ((s.press c).onPic k fun y => { y with hems := AMap.put y.hems h x })
          if y1 ≤ 64 * (row + 1) then s.hemFinal c h p x else s) s

/-- Picture k of channel c, once the hand-off of its row j is due by the values it is composed under. -/
def handoffPicture (s : State) (c k row : Nat) : Option PressPic :=
  (s.press c).pics.find? fun p =>
    let v := p.view s.fuses
    let rots (d : Nat) : Bool := match (s.reed d).picOf p.pic with | some x => x.rot | none => (s.reed d).rotDelay
    p.pic == k && decide (q (boundaryNs v c p.pic) + tPress v rots c row ≤ nowExact s)

/-- PRESS_ROW_HANDOFF (R119 to R138): the Press composes row j of channel c and hands it to the looms. -/
def execPressRowHandoff (c : Chan) (pic row : Nat) (s : State) : Result := whenClocked s <|
  match handoffPicture s c pic row with
  | none => .next s
  | some p =>
    let v := p.view s.fuses
    let k := p.pic
    if s.videoStopped || s.isFrozen 28 || decide (rowCount v c ≤ row) || p.rows.contains row then .next s
    else
      let ys := rowYs v c row
      let done := ys.map fun y => composeLine s v p c p.safe y
      let plain := if p.safe.isEmpty then done else ys.map fun y => composeLine s v p c [] y
      let s := (rowFaults s v p c row).foldl (fun s i => (s.bump (K.layerStFaultCount c i)).raise { src := 99 + 4 * c, unit := c }) s
      let s := (s.hemRow c k row v done plain).showHems c
      let s := s.setPress c ((s.press c).onPic k fun y =>
        { y with rows := y.rows ++ [row], lines := (ys.zip done).foldl (fun m e => AMap.put m e.1 e.2) y.lines })
      let s := if row + 1 = rowCount v c then s.count (128 + 4 * c) 1 else s
      let ch := s.chan c
      .next (if ch.pics.any (·.pic == k) then s.setChan c { ch with toStart := ch.toStart ++ [(k, row)] } else s)

end Sys2Proof.Machine
end

