-- ==== Sys2Proof/Machine/Rate.lean ====
section
/-!
DEFINITION. Sys2Proof/Machine/Rate.lean: row budgets (R194 to R207): pools and carry, bundles, grants, floor mode, and steering of
QP.
-/

namespace Sys2Proof.Machine

/-! ## Lists of a channel -/

/-- The rate record of picture k. -/
def ChanSt.rate (ch : ChanSt) (k : Nat) : Option PicRate := ch.rates.find? (·.pic == k)
def ChanSt.setRate (ch : ChanSt) (x : PicRate) : ChanSt :=
  { ch with rates := if ch.rates.any (·.pic == x.pic) then ch.rates.map (fun y => if y.pic == x.pic then x else y)
                     else (ch.rates ++ [x]) }
/-- What the channel remembers of picture k. -/
def ChanSt.picSt (ch : ChanSt) (k : Nat) : Option PicSt := ch.pics.find? (·.pic == k)
def ChanSt.setPic (ch : ChanSt) (x : PicSt) : ChanSt :=
  { ch with pics := if ch.pics.any (·.pic == x.pic) then ch.pics.map (fun y => if y.pic == x.pic then x else y) else ch.pics ++ [x] }

/-- The objects as they are in force for picture k of channel c, from T_k on and for every row of it (R52, R210). -/
def State.picView (s : State) (c k : Nat) : View :=
  match (s.chan c).picSt k with | some p => { fuses := s.fuses, vals := p.vals } | none => s.view

/-- The band that a picture codes: first column and columns; none gives 0 columns. -/
def PicSt.bandRange (p : PicSt) : Nat × Nat := match p.band with | some b => (b, p.columns) | none => (0, 0)

/-- A row in progress. -/
def State.findRow (s : State) (c k j : Nat) : Option RowSt :=
  s.video.rows.find? fun r => r.chan == c && r.pic == k && r.row == j
/-- A row in progress changed, or added at the end. -/
def State.setRow (s : State) (x : RowSt) : State :=
  let same : RowSt → Bool := fun r => r.chan == x.chan && r.pic == x.pic && r.row == x.row
  let rows := if s.video.rows.any same then s.video.rows.map (fun r => if same r then x else r) else s.video.rows ++ [x]
  { s with video := { s.video with rows := rows } }
/-- A row taken off. -/
def State.dropRow (s : State) (c k j : Nat) : State :=
  { s with video := { s.video with rows := s.video.rows.filter fun r => !(r.chan == c && r.pic == k && r.row == j) } }

/-- The bytes of a row in staging. -/
def RowSt.bytes (r : RowSt) : Nat := (r.nals.map fun n => n.bytes.length).sum

/-! ## Pools and carry -/

/-- R196: the greatest carry of channel c out of picture k, bits. -/
def carryLimit (s : State) (c k : Nat) : Nat := pictureBits (s.picView c k) c * (s.picView c k).nat (K.rateCarryPercent c) / 100

/-- 2 to the powers 1/2, 1/4, … 2^−32, times 2^32, rounded down. -/
def pow2Roots : List Nat :=
  [6074000999, 5107605667, 4683695047, 4485121743, 4389014833, 4341736423, 4318288543, 4306612133]
   ++ [4300785773, 4297875550, 4296421177, 4295694174, 4295330720, 4295149004, 4295058149, 4295012722]
   ++ [4294990009, 4294978652, 4294972974, 4294970135, 4294968715, 4294968005, 4294967650, 4294967473]
   ++ [4294967384, 4294967340, 4294967318, 4294967307, 4294967301, 4294967298, 4294967297, 4294967296]

/-- R198: 2^a times 2^64, to 32 binary places of a (log entry 122). -/
def pow2 (a : Rat) : Nat :=
  let f := floorN ((a - (a.floor : Rat)) * 2 ^ 32)
  let m := pow2Roots.zipIdx.foldl (fun m x => if bit f (31 - x.2) then m * x.1 / 2 ^ 32 else m) (2 ^ 64)
  if 0 ≤ a.floor then m * 2 ^ a.floor.toNat else m / 2 ^ (-a.floor).toNat

/-- The members of bundle b among encoding channels. -/
def bundleMembers (s : State) (b : Nat) : List Nat :=
  (List.range 16).filter fun d => (s.chan d).encoding && s.nat (K.rateBundle d) == b

/-- R198: X_c of picture k − 1; none where there is none. -/
def complexity (s : State) (c k : Nat) : Option Nat :=
  match (s.chan c).rate (k - 1) with
  | some x =>
    if k = 0 || x.qpCount = 0 then none
    else some (x.spent * pow2 (((x.qpSum : Rat) / q x.qpCount - 4) / 6))
  | none => none

/-- R198: the pool of member c of bundle b at picture k, from the whole pool. -/
def bundleShare (s : State) (b c k total : Nat) : Nat :=
  let ms := bundleMembers s b
  let known := ms.filterMap (complexity s · k)
  let mean := if known.isEmpty then 1 else max 1 (known.sum / known.length)
  let x (d : Nat) : Nat := (complexity s d k).getD mean
  let least (d : Nat) : Nat := max (pictureFloor s.view d) (pictureBits s.view d * s.nat (K.rateGBundleMinPercent (b - 1)) / 100)
  let rest := total - (ms.map least).sum
  let sumX := max 1 (ms.map x).sum
  let first (d : Nat) : Nat := least d + rest * x d / sumX
  let most (d : Nat) : Nat := rowCount s.view d * slotCap s.view d (s.chan d).slotRate (q (s.nat (K.ratePhaseLagNs d)))
  let excess := (ms.map fun d => first d - most d).sum
  let free := ms.filter fun d => decide (first d ≤ most d)
  let sumF := max 1 (free.map x).sum
  if most c < first c then most c else first c + excess * x c / sumF

/-- R198: keys of the bundle carry: being gathered, in use, and the picture of the one in use. -/
def bundleKeys (b : Nat) : Nat × Nat × Nat := (b, 16 + b, 32 + b)

/-- R196, R198: the pool of picture k of channel c at its boundary. -/
def State.openPool (s : State) (c k : Nat) : State :=
  let b := s.nat (K.rateBundle c)
  let ch := s.chan c
  let settled := match ch.rate (k - 1) with | some x => x.settled | none => true
  if b = 0 then
    let pool := pictureBits s.view c + (if settled then ch.carry else 0)
    (s.setChan c (({ ch with rates := ch.rates.filter (fun x => decide (k ≤ x.pic + 2)) } : ChanSt).setRate { pic := k, pool := pool })).setN
      (K.rateCarryBits c) (if settled then ch.carry else 0)
  else
    let (kg, ku, kp) := bundleKeys b
    let m := s.video.bundleCarry
    let m := if AMap.find? m kp = some k then m else AMap.put (AMap.put (AMap.put m ku (AMap.getD m kg 0)) kg 0) kp k
    let s := { s with video := { s.video with bundleCarry := m } }
    let total := ((bundleMembers s b).map fun d => pictureBits s.view d).sum + AMap.getD m ku 0
    let s := s.setN (K.rateGBundlePoolBits (b - 1)) (total % 2 ^ 32)
    let pool := bundleShare s b c k total
    (s.setChan c (({ ch with rates := ch.rates.filter (fun x => decide (k ≤ x.pic + 2)) } : ChanSt).setRate { pic := k, pool := pool })).setN
      (K.rateCarryBits c) (AMap.getD m ku 0)

/-- R196, R198: so many bits of picture k go to the carry into picture k + 1, within the limit, and once that picture is open to its pool. A
bundle's carry is the one in use where picture k + 1 is open and the one being gathered before. -/
def State.giveOn (s : State) (c k bits : Nat) : State :=
  let b := (s.picView c k).nat (K.rateBundle c)
  let ch := s.chan c
  let next := ch.rate (k + 1)
  let (kg, ku, _) := bundleKeys b
  let key := if next.isSome then ku else kg
  let limit := if b = 0 then carryLimit s c k else ((bundleMembers s b).map fun d => carryLimit s d k).sum
  let g := min bits (limit - (if b = 0 then ch.carry else AMap.getD s.video.bundleCarry key 0))
  let s := if b = 0 then s.setChan c { ch with carry := ch.carry + g }
    else { s with video := { s.video with bundleCarry := AMap.upd s.video.bundleCarry key 0 (· + g) } }
  match next with
  | some x => (s.setChan c ((s.chan c).setRate { x with pool := x.pool + g })).setN (K.rateCarryBits c)
      (if b = 0 then (s.chan c).carry else AMap.getD s.video.bundleCarry key 0)
  | none => s

/-- R196: the carry out of picture k is settled when its last row starts. -/
def State.settle (s : State) (c k : Nat) : State :=
  match (s.chan c).rate k with
  | some x =>
    let s := s.setChan c (({ s.chan c with carry := 0 } : ChanSt).setRate { x with settled := true })
    s.giveOn c k (x.pool - x.spent - x.inFlight)
  | none => s

/-- R196: a hold row in the place of the last row starts as that row, unless a loom has started it (log entry 94). -/
def State.settleOnce (s : State) (c k : Nat) : State :=
  if ((s.chan c).rate k).any (!·.settled) then s.settle c k else s

/-- R201: a row's grant ends: what it spent is charged and the unused part is returned, to its own picture while rows of it remain
to start and to the next one after that. -/
def State.endGrant (s : State) (r : RowSt) : State :=
  if r.returned || r.kind == .hold then s
  else
    let s := s.setRow { r with returned := true }
    match (s.chan r.chan).rate r.pic with
    | some x =>
      let (b, w) := match (s.chan r.chan).picSt r.pic with | some p => p.bandRange | none => (0, 0)
      let fl := rowFloorBits (s.picView r.chan r.pic) r.chan r.row b w
      let x := { x with spent := x.spent + r.used, inFlight := x.inFlight - r.grant, bits := AMap.put x.bits r.row r.used,
                        above := AMap.put x.above r.row (r.used - fl), qRows := AMap.put x.qRows r.row r.qRow,
                        qpSum := x.qpSum + r.qpSum, qpCount := x.qpCount + r.qpCount }
      let s := s.setChan r.chan ((s.chan r.chan).setRate x)
      if x.settled then s.giveOn r.chan r.pic (r.grant - r.used) else s
    | none => s

/-! ## Grants (R202) -/

/-- R202: the statistics records of picture k that are in the queue are read. -/
def State.readStats (s : State) (c k : Nat) : State :=
  match (s.chan c).rate k with
  | some x =>
    let recs := (s.reed c).stats.filter fun r => r.pictureCount == k % 65536
    let x := recs.foldl (fun (x : PicRate) r =>
      { x with sad := AMap.put x.sad r.row r.motionSad, act := AMap.put x.act r.row r.activity, cut := x.cut || bit r.flags 0 }) x
    s.setChan c ((s.chan c).setRate x)
  | none => s

/-- R202: a quantity multiplied by a ratio that is bounded to 1/4 to 4. -/
def scaleRatio (w now before : Nat) : Nat :=
  if before = 0 then (if now = 0 then w else 4 * w)
  else if now * 4 < before then w / 4
  else if 4 * before < now then 4 * w
  else w * now / before

/-- R202: w_i of row i of picture k, and the same scaling of another quantity. -/
def scaleRow (ch : ChanSt) (k i w : Nat) : Nat :=
  match ch.rate k with
  | some x =>
    let prev := ch.rate (k - 1)
    if k = 0 then w
    else if x.cut then
      (match AMap.find? x.act i, prev with
       | some a, some p => scaleRatio w a (AMap.getD p.act i 0)
       | _, _ => w)
    else
      (match AMap.find? x.sad i, prev with
       | some a, some p => scaleRatio w a (AMap.getD p.sad i 0)
       | _, _ => w)
  | none => w

/-- R202: w_i. -/
def rowWeight (ch : ChanSt) (k i : Nat) : Nat :=
  let above := match ch.rate (k - 1) with | some p => if k = 0 then 0 else AMap.getD p.above i 0 | none => 0
  scaleRow ch k i (1024 + above)

/-- R202: whether row j of picture k enters picture floor mode, its grant and its steering target. -/
def grantFor (s : State) (c k j : Nat) : Bool × Nat × Nat :=
  let v := s.picView c k
  let ch := s.chan c
  let (b, w) := match ch.picSt k with | some p => p.bandRange | none => (0, 0)
  let n := rowCount v c
  let floorOf (i : Nat) : Nat := rowFloorBits v c i b w
  let rest := (List.range (n - j)).map (· + j)
  let fj := floorOf j
  match ch.rate k with
  | none => (true, fj, fj)
  | some x =>
    let avail : Int := (x.pool : Int) - x.spent - x.inFlight
    let h : Int := avail - ((rest.map floorOf).sum : Nat)
    if x.floor || decide (h < (96 * ctuCols v c : Nat)) then (true, fj, fj)
    else
      let sw := max 1 ((rest.map (rowWeight ch k)).sum)
      let share := h.toNat * rowWeight ch k j / sw
      let cap := slotCap v c ((ch.picSt k).map (·.rate) |>.getD ch.slotRate) (q (s.nat (K.ratePhaseLagNs c)))
      (false, fj + min (cap - fj) (share * v.nat (K.rateBorrowEighths c) / 8), fj + min (cap - fj) share)

/-! ## QP (R205, R206, R261) -/

/-- R205: the largest QP of a channel's codec. -/
def codecQpMax (v : View) (c : Nat) : Int := if v.nat (K.loomCodec c) = 0 then 51 else 63

/-- R205: the range of QP. -/
def qpRange (v : View) (c : Nat) : Int × Int :=
  (max (-12) (v.int (K.rateQpMin c)), min (v.int (K.rateQpMax c)) (codecQpMax v c))

/-- R261: the bounds that the neighbours' records of the same row of the picture before put on q_row. -/
def seamBounds (s : State) (c k j : Nat) : Option (Int × Int) :=
  let from_ (left : Bool) : List Int :=
    if s.nat (sideKey c left) = 3 then
      ((s.side c left).qps.filter fun x => x.row == j && x.pic == (k + 65535) % 65536 && !x.hold).map (·.qpRow)
    else []
  match from_ true ++ from_ false with
  | [] => none
  | a :: t => some (t.foldl min a - s.int (K.reedSeamQpSpread c), t.foldl max a + s.int (K.reedSeamQpSpread c))

/-- R205: q_row. -/
def rowQp (s : State) (c k j target : Nat) : Int :=
  let v := s.picView c k
  let ch := s.chan c
  let (lo, hi) := qpRange v c
  let (b, w) := match ch.picSt k with | some p => p.bandRange | none => (0, 0)
  let room := target - rowFloorBits v c j b w
  let raw : Int :=
    match (if k = 0 then none else ch.rate (k - 1)) with
    | some p =>
      let bits := scaleRow ch k j (AMap.getD p.bits j 0)
      if bits = 0 then lo else if room = 0 then hi else AMap.getD p.qRows j 4 + roundLog2 6 bits room
    | none =>
      let act := match ch.rate k with | some x => AMap.getD x.act j 0 | none => 0
      let xr := act * 2048 * ctuCols v c
      if xr = 0 then lo else if room = 0 then hi else 4 + roundLog2 6 xr room
  let bounded := match seamBounds s c k j with
    | some (a, z) => clampInt a z raw
    | none => raw
  clampInt lo hi bounded

/-- R205: Used_x / Plan_x as a pair, both times N. -/
def planRatio (s : State) (r : RowSt) (x : Nat) : Nat × Nat :=
  let v := s.picView r.chan r.pic
  let (b, w) := match (s.chan r.chan).picSt r.pic with | some p => p.bandRange | none => (0, 0)
  let n := ctuCols v r.chan
  (r.used * n, x * (r.target - rowFloorBits v r.chan r.row b w) + n * ((rowFloors v r.chan r.row b w).take x).sum)

/-- R205, R261: the steered QP of CTU x. -/
def ctuQp (s : State) (r : RowSt) (x : Nat) (m : CtuMeasure) : Int :=
  let c := r.chan
  let v := s.picView c r.pic
  let (lo, hi) := qpRange v c
  let spread := v.int (K.rateQpSpread c)
  let step := v.int (K.rateQpStep c)
  let (used, plan) := planRatio s r x
  let fb := if x = 0 then 0 else roundLog2 6 used plan
  let aq := clampInt (-spread) spread (roundLog2 (v.nat (K.rateAqStrength c)) m.activity m.meanActivity)
  let raw := clampInt (r.qRow - spread) (r.qRow + spread) (r.qRow + fb + aq)
  let stepped := if x = 0 then raw else clampInt (r.qLast - step) (r.qLast + step) raw
  let edge : Bool → Int → Int := fun left qp =>
    let atEdge := if left then x == 0 else x + 1 == ctuCols v c
    if atEdge && s.nat (sideKey c left) == 3 then
      match (s.side c left).qps.find? (fun y => y.row == r.row && y.pic == (r.pic + 65535) % 65536 && !y.hold) with
      | some y => clampInt (y.edgeQp - v.int (K.reedSeamEdgeQpDelta c)) (y.edgeQp + v.int (K.reedSeamEdgeQpDelta c)) qp
      | none => qp
    else qp
  clampInt lo hi (edge false (edge true stepped))

/-! ## Limits (R203) -/

/-- R188: O(k, j) of a row of a picture, ns, exactly. -/
def slotOpen (s : State) (c k j : Nat) : Rat :=
  match (s.chan c).picSt k with
  | some p => p.open0 + q j * p.gap
  | none => boundaryTime s.view c k + rowRef s.view c (s.reed c).rotDelay j
      + q (s.nat (K.rateLatencyRowsInForce c) * 64) * schedLine s.view c

/-- R189, R209: Z(k, j): M row intervals after O(k, j), or the opening of the row M places later where the next picture's lower
offset opens that earlier. -/
def slotClose (s : State) (c k j : Nat) : Rat :=
  match (s.chan c).picSt k with
  | some p =>
    let z := p.open0 + q (j + p.m) * p.gap
    if p.rows ≤ j + p.m && decide (p.latNext < p.lat) then
      min z (p.open0 + pictureNs (s.picView c k) c + q (j + p.m - p.rows) * p.gap
        - q ((p.lat - p.latNext) * 64) * schedLine (s.picView c k) c)
    else z
  | none => slotOpen s c k j + q (phases s.view c) * rowInterval s.view c

/-- R194: r of a picture, bits in one ns. -/
def rateOf (s : State) (c k : Nat) : Rat :=
  match (s.chan c).picSt k with
  | some p => q p.rate / q (max 1 p.m) / 1000000000
  | none => phaseRate s.view c (s.chan c).slotRate

/-- R203: the staging space, in bits, that a row in flight still holds: what its CTUs have taken, at least its floor, less what is staged. -/
def rowReserve (s : State) (r : RowSt) : Nat :=
  let (b, w) := match (s.chan r.chan).picSt r.pic with | some p => p.bandRange | none => (0, 0)
  max r.used (rowFloorBits (s.picView r.chan r.pic) r.chan r.row b w) - 8 * r.bytes

/-- R203: bits that the Mangle's staging can give to a row beyond the floors that it keeps for every row in flight: all of theirs for the
others, and for the row itself those of the CTUs and units that come later (rsv). -/
def stageFree (s : State) (r : RowSt) (rsv : Int) : Int :=
  let others := s.video.rows.filter fun y =>
    y.kind == .coded && !y.lastStaged && !(y.chan == r.chan && y.pic == r.pic && y.row == r.row)
  (8 * 1966080 : Int) - 8 * s.video.stagingBytes - ((others.map (rowReserve s)).sum : Nat) - (r.used - 8 * r.bytes : Nat) - rsv

/-- R203: s_x of a CTU that is decided now. -/
def stagedAt (s : State) : Rat := nowExact s + tau + 2000

/-- R203: Q(t): the phase's unsent backlog, with the even flow at rate r from the slot's opening on, of which the service falls short by at
most Λ (log entry 123). -/
def rowBacklog (s : State) (r : RowSt) (t : Rat) : Rat :=
  max 0 (r.backlog - rateOf s r.chan r.pic * max 0 (t - max r.backlogAt (slotOpen s r.chan r.pic r.row)))

/-- R203: Lim_x for CTU x of a row, x counted from 0. -/
def ctuLimit (s : State) (r : RowSt) (x : Nat) : Int :=
  let c := r.chan
  let v := s.picView c r.pic
  let (b, w) := match (s.chan c).picSt r.pic with | some p => p.bandRange | none => (0, 0)
  let rsv : Int := (((rowFloors v c r.row b w).drop (x + 1)).sum + endBits v c r.row : Nat)
  let rate := rateOf s c r.pic
  let sx := stagedAt s
  let room := (rate * (slotClose s c r.pic r.row - q (s.nat (K.ratePhaseLagNs c)) - sx) - rowBacklog s r sx).floor
  min (min ((r.grant : Int) - r.used - rsv) (room - rsv)) (stageFree s r rsv)

end Sys2Proof.Machine
end

