-- ==== Sys2Proof/Machine/Coding.lean ====
section
/-!
DEFINITION. Sys2Proof/Machine/Coding.lean: what the looms may code (R158 to R171, R183, R206, R218, R221, R222, R227): the tools of each
effort level, the codings that a CTU may have, the NAL units of a picture with the values they carry, and the format of reference units
(R173, R174). Which of the codings allowed a heddle lane chooses comes in with the command.
-/

namespace Sys2Proof.Machine

/-- R181 Codec: 0 HEVC. -/
def isHevc (v : View) (c : Nat) : Bool := v.nat (K.loomCodec c) == 0

/-! ## Tools (R168, R169, R183) -/

/-- The tools that a row may use. -/
structure ToolSet where
  refs : Nat
  rangeX : Nat
  rangeY : Nat
  /-- smallest coding unit of the quad-tree -/
  minCu : Nat
  /-- VVC: depth of binary splits, and of splits that may be ternary -/
  mttDepth : Nat
  /-- HEVC: 2N×N and N×2N, AMP, intra N×N -/
  halves : Bool
  amp : Bool
  nxn : Bool
  /-- intra directions tried -/
  directions : Nat
  rdoq : Bool
  transformSkip : Bool
  sao : Bool
  alf : Bool
  mts : Bool
  cclm : Bool
  depQuant : Bool
  jccr : Bool
  mmvd : Bool
  bi : Bool
  amvr : Bool
  everyMerge : Bool
  deriving DecidableEq, Repr

/-- R168: the tools of an effort level in a codec. -/
def effortTools (hevc : Bool) (e : Nat) : ToolSet :=
  { refs := if 4 ≤ e then 2 else 1
    rangeX := [64, 96, 128, 192, 192, 256, 256, 256].getD e 256
    rangeY := [32, 48, 64, 96, 96, 128, 128, 128].getD e 128
    minCu := if e = 0 then 16 else 8
    mttDepth := if hevc then 0 else [0, 0, 1, 2, 2, 2, 2, 3].getD e 3
    halves := hevc && decide (1 ≤ e)
    amp := hevc && decide (5 ≤ e)
    nxn := hevc && decide (3 ≤ e)
    directions := [4, 8, if hevc then 17 else 19, 35, 35].getD e (if hevc then 35 else 67)
    rdoq := decide (1 ≤ e)
    transformSkip := decide (2 ≤ e)
    sao := true
    alf := !hevc && decide (2 ≤ e)
    mts := !hevc && decide (3 ≤ e)
    cclm := !hevc && decide (3 ≤ e)
    depQuant := !hevc && decide (4 ≤ e)
    jccr := !hevc && decide (5 ≤ e)
    mmvd := !hevc && decide (5 ≤ e)
    bi := decide (6 ≤ e)
    amvr := !hevc && decide (6 ≤ e)
    everyMerge := decide (7 ≤ e) }

/-- R169, R183: the tools of a row of channel c at an effort level, under the channel's Twill limits. -/
def rowTools (v : View) (c e : Nat) : ToolSet :=
  let t := effortTools (isHevc v c) e
  { t with
    refs := min t.refs (v.nat (K.loomMaxRefs c))
    rangeX := min t.rangeX (v.nat (K.loomSearchRangeX c))
    rangeY := min t.rangeY (v.nat (K.loomSearchRangeY c))
    mttDepth := min t.mttDepth (v.nat (K.loomMaxMttDepth c))
    transformSkip := t.transformSkip && v.flag (K.loomLossyTransformSkip c)
    sao := t.sao && v.flag (K.loomSaoEnable c)
    alf := t.alf && v.flag (K.loomAlfEnable c)
    mts := t.mts && v.flag (K.loomMtsEnable c)
    depQuant := t.depQuant && v.flag (K.loomDepQuantEnable c) }

/-! ## Vectors (R221, R222) -/

/-- R221: the right edge, in sixteenths of a luma sample, of the reference block that a vector addresses for a part that ends before luma
column `right`, widened by 4 samples unless the vector's horizontal component is a whole multiple of 2 samples. -/
def refRight (right : Nat) (m : MotionVec) : Int := 16 * (right : Int) + m.x + (if m.x % 32 = 0 then 0 else 64)

/-- R221: whether a vector stays in the clean area of its reference. -/
def vecClean (wpic : Nat) (refs : List RefPic) (right : Nat) (m : MotionVec) : Bool :=
  match refs.find? (·.back == m.back) with
  | some p => p.edge == wpic || decide (refRight right m ≤ 16 * ((p.edge : Int) - p.margin))
  | none => false

/-- R221: Mg(p). -/
def marginOf (v : View) (c : Nat) (p : PicSt) : Nat :=
  if isHevc v c then 8
  else if p.boundary = some p.edge || p.edge = picW v c then 0 else 16

/-- R162, R221, R226: the references that a row of a picture may use, as they stand. -/
def refsOf (v : View) (c : Nat) (ch : ChanSt) (p : PicSt) : List RefPic :=
  [1, 2].filterMap fun n =>
    if p.pos < n then none
    else (ch.picSt (p.pic - n)).map fun x => { back := n, edge := x.edge, margin := marginOf v c x }

/-! ## Coding units (R160, R161, R168, R170) -/

/-- What the coding of a CTU is held to. -/
structure CtuCase where
  hevc : Bool
  /-- W_pic, H_pic, CTU column and row -/
  wpic : Nat
  hpic : Nat
  x : Nat
  j : Nat
  tools : ToolSet
  /-- the references of the row -/
  refs : List RefPic
  lossless : Bool
  /-- forced to intra: a band CTU that is not postponed -/
  intra : Bool
  /-- R227: a fill CTU -/
  fill : Bool
  clean : Bool
  deriving DecidableEq, Repr

/-- R160: the luma rectangles of a coding unit's parts: x, y, width, height. -/
def partRects (b : CodedBlock) : List (Nat × Nat × Nat × Nat) :=
  let (x, y, w, h) := (b.x, b.y, b.w, b.h)
  match b.shape with
  | .whole => [(x, y, w, h)]
  | .rows => [(x, y, w, h / 2), (x, y + h / 2, w, h / 2)]
  | .columns => [(x, y, w / 2, h), (x + w / 2, y, w / 2, h)]
  | .amp 0 => [(x, y, w, h / 4), (x, y + h / 4, w, h - h / 4)]
  | .amp 1 => [(x, y, w, h - h / 4), (x, y + (h - h / 4), w, h / 4)]
  | .amp 2 => [(x, y, w / 4, h), (x + w / 4, y, w - w / 4, h)]
  | .amp 3 => [(x, y, w - w / 4, h), (x + (w - w / 4), y, w / 4, h)]
  | .quarters => [(x, y, w / 2, h / 2), (x + w / 2, y, w / 2, h / 2), (x, y + h / 2, w / 2, h / 2), (x + w / 2, y + h / 2, w / 2, h / 2)]

/-- R160, R161, R168: whether a coding unit's size and parts are allowed; quad-tree splits that the picture's edge forces go down to 8. -/
def sizeOk (k : CtuCase) (b : CodedBlock) : Bool :=
  let least := if decide (k.wpic < b.x / k.tools.minCu * k.tools.minCu + k.tools.minCu)
      || decide (k.hpic < b.y / k.tools.minCu * k.tools.minCu + k.tools.minCu) then 8 else k.tools.minCu
  let square := b.w == b.h && [8, 16, 32, 64].contains b.w && decide (least ≤ b.w)
  if k.hevc then
    square && b.mtt == 0 && b.parts.length == (partRects b).length &&
      (match b.shape with
       | .whole => true
       | .rows | .columns => k.tools.halves && (b.parts.all fun p => match p with | .inter .. => true | _ => false)
       | .amp _ => k.tools.amp && decide (16 ≤ b.w) && (b.parts.all fun p => match p with | .inter .. => true | _ => false)
       | .quarters => k.tools.nxn && b.w == 8 && (b.parts.all fun p => match p with | .intra .. => true | _ => false))
  else
    b.shape == .whole && b.parts.length == 1 &&
      (if b.mtt = 0 then square
       else decide (b.mtt ≤ k.tools.mttDepth) && [4, 8, 16, 32, 64].contains b.w && [4, 8, 16, 32, 64].contains b.h)

/-- R160, R161, R168, R221: whether a vector of a part is allowed: to a reference of the row, within the search range where it is searched
(log entry 124), in quarter samples in HEVC and where VVC searches without AMVR, and clean in a clean CTU. -/
def vecOk (k : CtuCase) (amvr : Bool) (src : VecSource) (right : Nat) (m : MotionVec) : Bool :=
  (k.refs.any fun p => p.back == m.back) && decide (m.back ≤ k.tools.refs) && decide (m.list < 2) && (m.list == 0 || decide (2 ≤ k.tools.refs && 2 ≤ k.refs.length))
    && (!k.hevc || (m.x % 4 == 0 && m.y % 4 == 0))
    && (src != .searched || ((amvr || (m.x % 4 == 0 && m.y % 4 == 0)) && decide (m.x.natAbs ≤ 16 * k.tools.rangeX) && decide (m.y.natAbs ≤ 16 * k.tools.rangeY)))
    && (!k.clean || vecClean k.wpic k.refs right m)

/-- R160, R161, R168: whether a part's prediction is allowed. -/
def partOk (k : CtuCase) (tools : List CuTool) (r : Nat × Nat × Nat × Nat) : Prediction → Bool
  | .intra m cclm =>
    decide (m < (if k.hevc then 35 else 67)) && (!cclm || k.tools.cclm) && (decide (4 < k.tools.directions) || (if k.hevc then [0, 1, 10, 26] else [0, 1, 18, 50]).contains m)
  | .pcm => k.hevc && k.lossless && [8, 16, 32].contains r.2.2.1
  | .inter src vs =>
    !k.intra && !k.fill && (vs.all fun m => vecOk k (tools.contains .amvr) src (r.1 + r.2.2.1) m)
      && (match vs with
          | [_] => true
          | [a, b] => k.tools.bi && a.list != b.list && !(k.hevc && r.2.2.1 * r.2.2.2 == 32)
          | _ => false)
      && (match src with
          | .searched => true
          | .merge n => decide (n < (if k.hevc then 5 else 6))
          | .mmvd _ => k.tools.mmvd)

/-- R160, R161, R168, R170: whether the tools of a coding unit are allowed. -/
def toolOk (k : CtuCase) (b : CodedBlock) : CuTool → Bool
  | .transformSkip => if k.lossless then !k.hevc else k.tools.transformSkip
  | .bypass => k.hevc && k.lossless
  | .bdpcm => !k.hevc && k.lossless && (b.parts.all fun p => match p with | .intra .. => true | _ => false)
  | .mts => k.tools.mts && !k.lossless && decide (b.w ≤ 16) && decide (b.h ≤ 16)
  | .jccr => k.tools.jccr && !k.lossless
  | .amvr => k.tools.amvr

/-- Whether a coding unit is coded by PCM. -/
def isPcm (b : CodedBlock) : Bool := b.parts.any fun p => p == .pcm

/-- R170: a lossless coding unit: bypassed or PCM in HEVC, with its residual by transform skip in VVC. -/
def losslessOk (k : CtuCase) (b : CodedBlock) : Bool :=
  if k.hevc then b.tools.contains .bypass || isPcm b else !b.residual || b.tools.contains .transformSkip || b.tools.contains .bdpcm

/-- R227: a coding unit of a fill CTU: planar and without residual. -/
def fillOk (b : CodedBlock) : Bool := !b.residual && b.shape == .whole && b.parts == [.intra 0 false]

/-- Whether a coding unit is allowed. -/
def blockOk (k : CtuCase) (b : CodedBlock) : Bool :=
  sizeOk k b && (((partRects b).zip b.parts).all fun x => partOk k b.tools x.1 x.2) && (b.tools.all (toolOk k b))
    && (!k.lossless || losslessOk k b) && (!k.fill || fillOk b)

/-- The luma rectangle of a CTU inside the picture: width and height. -/
def ctuExtent (k : CtuCase) : Nat × Nat := (min 64 (k.wpic - 64 * k.x), min 64 (k.hpic - 64 * k.j))

/-- Whether two coding units have no sample in common. -/
def apart (a b : CodedBlock) : Bool :=
  decide (a.x + a.w ≤ b.x) || decide (b.x + b.w ≤ a.x) || decide (a.y + a.h ≤ b.y) || decide (b.y + b.h ≤ a.y)

/-- Whether no two coding units of a list have a sample in common. -/
def allApart : List CodedBlock → Bool
  | [] => true
  | b :: t => t.all (apart b) && allApart t

/-- Whether the coding units of a CTU tile its part of the picture. -/
def tiles (k : CtuCase) (l : List CodedBlock) : Bool :=
  let (w, h) := ctuExtent k
  (l.all fun b => decide (64 * k.x ≤ b.x) && decide (b.x + b.w ≤ 64 * k.x + w) && decide (64 * k.j ≤ b.y) && decide (b.y + b.h ≤ 64 * k.j + h))
    && (l.map fun b => b.w * b.h).sum == w * h && allApart l

/-- R160, R161, R168, R170, R183, R218, R221, R222, R227: whether a coding of a CTU is one that the loom can choose. -/
def codingOk (k : CtuCase) (m : CtuCoding) : Bool :=
  tiles k m.blocks && m.blocks.all (blockOk k)
    && (!m.sao || (k.tools.sao && !(k.lossless && !k.hevc))) && (!m.alf || (k.tools.alf && !k.lossless))

/-- R206, R222: a coding unit of a floor coding: DC only where intra is forced, else a skip CU, or inter without a residual. -/
def floorBlock (k : CtuCase) (b : CodedBlock) : Bool :=
  if k.fill then fillOk b
  else if k.intra then b.parts.all fun p => match p with | .intra m _ => m == 1 | _ => false
  else !b.residual && b.parts.all fun p => match p with | .inter (.mmvd _) _ => false | .inter .. => true | _ => false

/-- R171, R206: whether a coding of a CTU is a floor coding. -/
def floorOk (k : CtuCase) (chroma : Nat) (m : CtuCoding) : Bool :=
  codingOk k m && m.blocks.all (floorBlock k) && decide (m.bits ≤ ctuFloor chroma false k.intra)

/-- R171: whether a coding is a chosen one within the bounds that hold for it: a lossless CTU's, and a fill CTU's. -/
def chosenOk (k : CtuCase) (chroma : Nat) (m : CtuCoding) : Bool :=
  codingOk k m && (!k.lossless || decide (m.bits ≤ losslessBits chroma)) && (!k.fill || k.lossless || decide (m.bits ≤ 96))

/-! ## Profile, level and tier (R158, R159) -/

/-- R158: general_profile_idc. -/
def profileIdc (v : View) (c : Nat) : Nat :=
  if isHevc v c then (if v.nat (K.loomChromaFormat c) = 0 then 2 else 4)
  else if v.nat (K.loomChromaFormat c) = 0 then 1 else 33

/-- R159: general_level_idc of the levels up to 6.2, rising: 30 times the number of the level in HEVC, 16 times and 3 for each step in
VVC. -/
def levelIdcs (hevc : Bool) : List Nat :=
  if hevc then [30, 60, 63, 90, 93, 120, 123, 150, 153, 156, 180, 183, 186] else [16, 32, 35, 48, 51, 64, 67, 80, 83, 86, 96, 99, 102]

/-- R159: the declared level and tier (0 Main, 1 High): the lowest level that is met, in the Main tier unless only the High tier meets it;
255 where none is. -/
def levelTier (v : View) (c : Nat) : Nat × Nat :=
  let met (l t : Nat) : Bool :=
    Config.levelMet [v.nat (K.loomCodec c), l, t, picW v c, picH v c, floorN (pictureRate v c * q (picW v c * picH v c)), rowCount v c,
      v.nat (K.rateBitrate c)] == 1
  match (levelIdcs (isHevc v c)).find? fun l => met l 0 || met l 1 with
  | some l => (l, if met l 0 then 0 else 1)
  | none => (255, 0)

/-! ## Parameter sets (R158, R165, R166) -/

/-- R166: colour primaries, transfer characteristics and matrix coefficients. -/
def colourCodes (transfer : Nat) : Int × Int × Int := match transfer with | 0 => (1, 1, 1) | 1 => (9, 16, 9) | _ => (9, 18, 9)

/-- R158, R159: profile, tier and level, with the flags of the last column. -/
def profileElements (v : View) (c : Nat) : Elements :=
  let (l, t) := levelTier v c
  ([("general_profile_idc", profileIdc v c), ("general_tier_flag", t), ("general_level_idc", l)] : Elements)
    ++ (if !isHevc v c then []
        else if v.nat (K.loomChromaFormat c) = 0 then [("general_profile_compatibility_flag[2]", 1)]
        else [("general_max_12bit_constraint_flag", 1), ("general_max_10bit_constraint_flag", 1), ("general_max_8bit_constraint_flag", 0),
              ("general_max_422chroma_constraint_flag", 1), ("general_max_420chroma_constraint_flag", 0),
              ("general_max_monochrome_constraint_flag", 0), ("general_intra_constraint_flag", 0),
              ("general_one_picture_only_constraint_flag", 0), ("general_lower_bit_rate_constraint_flag", 1)])

/-- R165, R166: the timing that HEVC carries in VPS and VUI. -/
def timingElements (v : View) (c : Nat) (name : String) : Elements :=
  [(name ++ "_timing_info_present_flag", 1), (name ++ "_num_units_in_tick", v.nat (K.reedRateDen c)), (name ++ "_time_scale", v.nat (K.reedRateNum c))]

/-- R165: the VPS of HEVC. -/
def vpsUnit (v : View) (c : Nat) : CodedUnit :=
  { kind := .vps
    elements := [("vps_max_layers_minus1", 0), ("vps_max_sub_layers_minus1", 0)] ++ profileElements v c ++ timingElements v c "vps"
      ++ [("vps_num_hrd_parameters", 0)] }

/-- R166: VUI. -/
def vuiElements (v : View) (c : Nat) : Elements :=
  let (a, b, m) := colourCodes (v.nat (K.pressOutputTransfer c))
  [("colour_primaries", a), ("transfer_characteristics", b), ("matrix_coeffs", m), ("full_range_flag", 0)]
    ++ (if v.nat (K.loomChromaFormat c) = 0 then [("chroma_sample_loc_type", 0)] else [])
    ++ (if isHevc v c then timingElements v c "vui" else [])

/-- R165: whether transquant bypass is enabled: HEVC with a lossless hem region. -/
def bypassEnabled (v : View) (c : Nat) : Bool := isHevc v c && (List.range 16).any fun h => hemLossless v c h

/-- R150, R165: the picture size, the conformance window's crop in luma samples, formats and the DPB, in both codecs. -/
def sizeElements (v : View) (c : Nat) : Elements :=
  [("chroma_format_idc", v.nat (K.loomChromaFormat c) + 1), ("bit_depth_luma_minus8", 2), ("bit_depth_chroma_minus8", 2),
   ("pic_width_in_luma_samples", picW v c), ("pic_height_in_luma_samples", picH v c),
   ("conf_win_right_luma_samples", (picW v c : Int) - canvasW v c), ("conf_win_bottom_luma_samples", (picH v c : Int) - canvasH v c),
   ("max_dec_pic_buffering_minus1", 2), ("num_reorder_pics", 0), ("log2_max_pic_order_cnt_lsb_minus4", 4)]

/-- R165: the SPS. -/
def spsUnit (v : View) (c : Nat) : CodedUnit :=
  { kind := .sps
    elements := profileElements v c ++ sizeElements v c ++
      (if isHevc v c then
        [("log2_min_luma_coding_block_size_minus3", 0), ("log2_diff_max_min_luma_coding_block_size", 3),
         ("log2_min_luma_transform_block_size_minus2", 0), ("log2_diff_max_min_luma_transform_block_size", 3), ("pcm_enabled_flag", 1),
         ("pcm_sample_bit_depth_luma_minus1", 9), ("pcm_sample_bit_depth_chroma_minus1", 9),
         ("log2_min_pcm_luma_coding_block_size_minus3", 0), ("log2_diff_max_min_pcm_luma_coding_block_size", 2),
         ("pcm_loop_filter_disabled_flag", 1), ("amp_enabled_flag", 1), ("sps_temporal_mvp_enabled_flag", 0),
         ("num_short_term_ref_pic_sets", 2), ("short_term_ref_pic_set[0].delta_poc[0]", -1), ("short_term_ref_pic_set[1].delta_poc[0]", -1),
         ("short_term_ref_pic_set[1].delta_poc[1]", -2), ("long_term_ref_pics_present_flag", 0), ("strong_intra_smoothing_enabled_flag", 1),
         ("sample_adaptive_offset_enabled_flag", 1)]
       else
        [("sps_video_parameter_set_id", 0), ("sps_log2_ctu_size_minus5", 1), ("sps_max_mtt_hierarchy_depth_inter_slice", 3),
         ("sps_max_mtt_hierarchy_depth_intra_slice_luma", 3), ("sps_max_luma_transform_size_64_flag", 1),
         ("sps_transform_skip_enabled_flag", 1), ("sps_log2_transform_skip_max_size_minus2", 3), ("sps_bdpcm_enabled_flag", 1),
         ("sps_mts_enabled_flag", 1), ("sps_explicit_mts_intra_enabled_flag", 1), ("sps_explicit_mts_inter_enabled_flag", 1),
         ("sps_joint_cbcr_enabled_flag", 1), ("sps_dep_quant_enabled_flag", 1), ("sps_sign_data_hiding_enabled_flag", 1),
         ("sps_min_qp_prime_ts_minus4", 0), ("sps_temporal_mvp_enabled_flag", 0), ("sps_amvr_enabled_flag", 1), ("sps_mmvd_enabled_flag", 1),
         ("sps_six_minus_max_num_merge_cand", 0), ("sps_long_term_ref_pics_flag", 0), ("sps_cclm_enabled_flag", 1),
         ("sps_sao_enabled_flag", 1), ("sps_alf_enabled_flag", 1), ("sps_ccalf_enabled_flag", 0), ("sps_virtual_boundaries_enabled_flag", 1),
         ("sps_gdr_enabled_flag", 1)])
      ++ vuiElements v c }

/-- R165: the PPS. -/
def ppsUnit (v : View) (c : Nat) : CodedUnit :=
  { kind := .pps
    elements :=
      if isHevc v c then
        [("sign_data_hiding_enabled_flag", 1), ("cu_qp_delta_enabled_flag", 1), ("diff_cu_qp_delta_depth", 0), ("pps_cb_qp_offset", 0),
         ("pps_cr_qp_offset", 0), ("transquant_bypass_enabled_flag", b2n (bypassEnabled v c)), ("transform_skip_enabled_flag", 1),
         ("constrained_intra_pred_flag", 1), ("deblocking_filter_control_present_flag", 1), ("deblocking_filter_override_enabled_flag", 1),
         ("pps_loop_filter_across_slices_enabled_flag", 0), ("tiles_enabled_flag", 0), ("entropy_coding_sync_enabled_flag", 0),
         ("dependent_slice_segments_enabled_flag", 0)]
      else
        [("pps_cu_qp_delta_enabled_flag", 1), ("pps_cb_qp_offset", 0), ("pps_cr_qp_offset", 0), ("pps_deblocking_filter_override_enabled_flag", 1),
         ("pps_loop_filter_across_tiles_enabled_flag", 0), ("pps_loop_filter_across_slices_enabled_flag", 0), ("pps_rect_slice_flag", 1),
         ("pps_num_tiles", 1), ("pps_num_slices_in_pic_minus1", (rowCount v c : Int) - 1), ("pps_slice_height_in_ctus", 1)] }

/-! ## The units of a picture (R149, R162, R164, R176, R177, R223, R224) -/

/-- R224: whether picture p signals the start of a sweep. -/
def PicSt.signals (p : PicSt) : Bool := p.first || p.sweepFirst

/-- R164: the values of the access unit delimiter: in HEVC pic_type where the spec fixes it: 2 for a picture of I slices or of rows with two
references, 1 where no row can have two; in VVC whether the picture is a GDR one. `b2` is pic_type where rows decide it (log entry 125). -/
def audUnit (v : View) (c : Nat) (p : PicSt) (b2 : Int) : CodedUnit :=
  { kind := .aud
    elements :=
      if isHevc v c then
        [("pic_type", if p.pos = 0 then 2 else if p.pos < 2 || (rowTools v c (v.nat (K.loomMaxEffort c))).refs < 2 then 1 else b2)]
      else [("aud_irap_or_gdr_flag", b2n p.signals)] }

/-- R164, R224, R225: the recovery-point message of HEVC. -/
def recoveryUnit (p : PicSt) : CodedUnit :=
  { kind := .prefixSei
    elements := [("payloadType", 6), ("recovery_poc_cnt", p.recoveryCount), ("exact_match_flag", 1), ("broken_link_flag", 0)] }

/-- R223, R224: the picture header of VVC. -/
def phUnit (p : PicSt) : CodedUnit :=
  { kind := .ph
    elements := ([("ph_gdr_or_irap_pic_flag", b2n p.signals), ("ph_gdr_pic_flag", b2n p.signals), ("ph_pic_order_cnt_lsb", p.pos % 256)] : Elements)
      ++ (if p.signals then [("ph_recovery_poc_cnt", (p.recoveryCount : Int))] else [])
      ++ (match p.boundary with
          | some x => [("ph_virtual_boundaries_present_flag", 1), ("ph_num_ver_virtual_boundaries", 1), ("ph_virtual_boundary_x", (x : Int))]
          | none => [("ph_virtual_boundaries_present_flag", 0)]) }

/-- R164: the units before the first slice. -/
def prefixUnits (v : View) (c : Nat) (p : PicSt) (b2 : Int) : List CodedUnit :=
  if isHevc v c then
    [audUnit v c p b2, vpsUnit v c, spsUnit v c, ppsUnit v c] ++ (if p.signals then [recoveryUnit p] else [])
  else
    [audUnit v c p b2, spsUnit v c, ppsUnit v c, { kind := .aps, elements := [("aps_params_type", 0), ("aps_adaptation_parameter_set_id", p.pos % 8)] },
     phUnit p]

/-- R224: the kind of a picture's slices. -/
def sliceKind (v : View) (c : Nat) (p : PicSt) : UnitKind :=
  if isHevc v c then (if p.first then .idr else .trail) else if p.signals then .gdr else .trail

/-- R149: the address of row j's slice. -/
def sliceAddress (v : View) (c j : Nat) : String × Int :=
  if isHevc v c then ("slice_segment_address", j * ctuCols v c) else ("sh_slice_address", j)

/-- R162: a slice's type and references: 2 I, 1 P, 0 B; pictures back in list 0 and list 1. -/
def sliceRefs (n : Nat) : Elements :=
  match n with
  | 0 => [("slice_type", 2)]
  | 1 => [("slice_type", 1), ("ref_l0[0]", -1)]
  | _ => [("slice_type", 0), ("ref_l0[0]", -1), ("ref_l0[1]", -2), ("ref_l1[0]", -1), ("ref_l1[1]", -2)]

/-- R149, R162, R168, R170, R183: the slice of a coded row with so many references and its tools. -/
def sliceUnit (v : View) (c : Nat) (p : PicSt) (j n : Nat) (t : ToolSet) : CodedUnit :=
  let plain := (losslessInRow v c j).any id
  { kind := sliceKind v c p
    elements := ([sliceAddress v c j, ("slice_pic_order_cnt_lsb", p.pos % 256)] : Elements) ++ sliceRefs n
      ++ [("slice_beta_offset_div2", if plain then 0 else v.int (K.loomBetaOffsetDiv2 c)),
          ("slice_tc_offset_div2", if plain then 0 else v.int (K.loomTcOffsetDiv2 c)),
          ("slice_deblocking_filter_disabled_flag", 0), ("slice_sao_flag", b2n t.sao), ("slice_alf_flag", b2n t.alf),
          ("dep_quant_used_flag", b2n t.depQuant), ("sign_data_hiding_used_flag", b2n !t.depQuant), ("num_entry_point_offsets", 0)] }

/-- R176, R177: the slice of a hold row without the picture order count: of skip CUs that merge with candidate 0, or of fill CUs. -/
def holdSlice (v : View) (c j : Nat) (first : Bool) : CodedUnit :=
  { kind := if first then (if isHevc v c then .idr else .gdr) else .trail
    elements := [sliceAddress v c j] ++ sliceRefs (if first then 0 else 1)
      ++ ([("slice_deblocking_filter_disabled_flag", 1), ("slice_sao_flag", 0), ("slice_alf_flag", 0), ("ctus", ctuCols v c)] : Elements)
      ++ (if first then [("intra_pred_mode", 0), ("residual", 0)] else [("cu_skip_flag", 1), ("merge_idx", 0)]) }

/-- R176, R177: Bolt's templates for a channel's rows. -/
def templatesOf (v : View) (c : Nat) : AMap HoldTemplate :=
  (List.range (rowCount v c)).map fun j => (j, { inter := holdSlice v c j false, intra := holdSlice v c j true })

/-- R134, R164: the message of the hem signatures. -/
def hemUnit (payload : Bytes) : CodedUnit := { kind := .suffixSei, elements := [("payloadType", 5)], payload := payload }

/-- R164, R181: the decoded picture hash: 0 MD5, 1 CRC, 2 checksum. -/
def hashUnit (n : Nat) : CodedUnit := { kind := .suffixSei, elements := [("payloadType", 132), ("hash_type", (n : Int) - 1)] }

/-- R164: the units after the last slice. -/
def suffixUnits (s : State) (v : View) (c k : Nat) : List CodedUnit :=
  (if (List.range 16).any fun h => v.flag (K.hemHemEnable c h) && v.flag (K.hemPublish c h) then
    [hemUnit ((((s.press c).pics.find? (·.pic == k)).bind (hemPayload v c)).getD [])] else [])
  ++ (if v.nat (K.loomPictureHash c) = 0 then [] else [hashUnit (v.nat (K.loomPictureHash c))])

/-- R164: the number of the units after the last slice. -/
def suffixNals (v : View) (c : Nat) : Nat :=
  b2n ((List.range 16).any fun h => v.flag (K.hemHemEnable c h) && v.flag (K.hemPublish c h)) + b2n (v.nat (K.loomPictureHash c) != 0)

/-- R149, R164: the units of row j of a picture whose slice is given: row 0 brings the picture's first units, the last row its last ones. -/
def rowUnits (s : State) (v : View) (c : Nat) (p : PicSt) (j : Nat) (slice : CodedUnit) (b2 : Int) : List CodedUnit :=
  (if j = 0 then prefixUnits v c p b2 else []) ++ slice :: (if j + 1 = p.rows then suffixUnits s v c p.pic else [])

/-! ## NAL units as bytes -/

/-- nal_unit_type of a kind of unit (Table 7-1 of Rec. H.265, Table 5 of Rec. H.266; log entry 126). -/
def unitType (hevc : Bool) : UnitKind → Nat
  | .aud => if hevc then 35 else 20
  | .vps => if hevc then 32 else 14
  | .sps => if hevc then 33 else 15
  | .pps => if hevc then 34 else 16
  | .aps => 17
  | .prefixSei => if hevc then 39 else 23
  | .ph => 19
  | .idr => if hevc then 20 else 8
  | .trail => if hevc then 1 else 0
  | .gdr => 10
  | .suffixSei => if hevc then 40 else 24

/-- The two bytes of a NAL unit's header, in layer 0 and temporal sub-layer 0. -/
def unitHeader (hevc : Bool) (k : UnitKind) : Bytes :=
  if hevc then [BitVec.ofNat 8 (2 * unitType hevc k), 1] else [0, BitVec.ofNat 8 (8 * unitType hevc k + 1)]

/-- Emulation prevention: a byte 3 before a byte of 0 to 3 that follows two bytes of 0. -/
def preventEmulation : Nat → Bytes → Bytes
  | _, [] => []
  | zeros, b :: t =>
    let z := if b = 0 then 1 else 0
    if zeros = 2 && b.toNat ≤ 3 then 3 :: b :: preventEmulation z t
    else b :: preventEmulation (if b = 0 then zeros + 1 else 0) t

/-- A message's payload size as its bytes. -/
def seiSize (n : Nat) : Bytes := List.replicate (n / 255) 0xFF ++ [BitVec.ofNat 8 (n % 255)]

/-- R134: a suffix SEI NAL unit with one user-data message. -/
def userDataNal (hevc : Bool) (payload : Bytes) : Bytes :=
  unitHeader hevc .suffixSei ++ preventEmulation 0 (5 :: (seiSize payload.length ++ payload ++ [0x80]))

/-- R163, R171, R176, R177: the most bytes of a unit of a hold row of so many CTUs; the units before the first slice share 1,536 bytes. -/
def holdBound (first : Bool) (cols : Nat) (u : CodedUnit) : Nat :=
  match u.kind with
  | .idr | .trail | .gdr => 64 + cols * (if first then 12 else 2)
  | .suffixSei => if u.payload.isEmpty then 64 else 512
  | _ => 256

/-- The bytes of a unit that the Mangle sends in a hold row. -/
def holdBytes (v : View) (c : Nat) (p : PicSt) (j : Nat) (u : CodedUnit) : Bytes :=
  if !u.payload.isEmpty then userDataNal (isHevc v c) u.payload
  else (unitHeader (isHevc v c) u.kind
    ++ Config.unitBytes (v.nat (K.loomCodec c)) (unitType (isHevc v c) u.kind) c j (p.pos % 256)).take (holdBound p.first p.cols u)

/-! ## Reference units (R173, R174) -/

/-- R173: the bytes of a raw unit: 0 4:2:0, 1 4:2:2. -/
def rawUnitBytes (chroma : Nat) : Nat := if chroma = 0 then 480 else 640

/-- R173: the planes of a unit: width and height of each, and the height of a sub-block. -/
def unitPlanes (chroma : Nat) : List (Nat × Nat) := if chroma = 0 then [(64, 4), (32, 2), (32, 2)] else [(64, 4), (32, 4), (32, 4)]

/-- R173: the sectors of 32 bytes that a unit uses. -/
def RefUnit.sectors (u : RefUnit) : Nat := ceilDiv u.data.length 32

/-- R173: the header of a unit: mode 3 where it is not written. -/
def refHeader (u : Option RefUnit) : Nat := match u with | some u => u.mode * 64 + u.sectors | none => 3 * 64

/-- R173: the samples of a raw unit by plane. -/
def rawUnit (chroma : Nat) (b : Bytes) : List (List Nat) :=
  ((unitPlanes chroma).foldl (fun (acc : List (List Nat) × Nat) p =>
    (acc.1 ++ [(List.range (p.1 * p.2)).map fun i => getBits b (10 * (acc.2 + i)) 10], acc.2 + p.1 * p.2)) ([], 0)).1

/-- R127, R173: the samples of a compressed unit by plane; none where the stream is bad. -/
def compressedUnit (chroma : Nat) (b : Bytes) : Option (List (List Nat)) :=
  ((unitPlanes chroma).foldl (fun (acc : Option (List (List Nat) × Nat)) p =>
    acc.bind fun (l, pos) => (planeBits b (8 * b.length) pos p.1 p.2 p.2).map fun (m, e) =>
      (l ++ [(List.range (p.1 * p.2)).map fun i => AMap.getD m i 0], e)) (some ([], 0))).map (·.1)

/-- R173: the samples of a unit by plane, each plane in raster order. -/
def RefUnit.samples (chroma : Nat) (u : RefUnit) : Option (List (List Nat)) :=
  if u.mode = 0 then some (rawUnit chroma u.data) else compressedUnit chroma u.data

/-- R173: whether a unit is one that the Loom writes. -/
def RefUnit.ok (chroma : Nat) (u : RefUnit) : Bool :=
  (u.mode == 0 && u.data.length == rawUnitBytes chroma)
    || (u.mode == 1 && decide (u.data.length ≤ rawUnitBytes chroma) && (compressedUnit chroma u.data).isSome)

/-- R173: a raw unit of samples of one value. -/
def flatUnit (chroma sample : Nat) : RefUnit :=
  { mode := 0, data := leBytes (rawUnitBytes chroma) (((List.range (8 * rawUnitBytes chroma / 10)).map fun i => sample * 2 ^ (10 * i)).sum) }

/-- R174: the bytes of DRAM that channel c needs for its references: four slots for each row and the grey one. -/
def refStorage (v : View) (c : Nat) : Nat :=
  (4 * rowCount v c + 1) * (ctuCols v c * 16 * (rawUnitBytes (v.nat (K.loomChromaFormat c)) + 1))

end Sys2Proof.Machine
end

