-- ==== Sys2Proof/Machine/Sampling.lean ====
section
/-!
DEFINITION. Sys2Proof/Machine/Sampling.lean: how a sampling record enters a unit's hold (R482 to R484).
-/

namespace Sys2Proof.Machine

/-- R484: a record is dropped and counted. -/
def State.sampleDrop (s : State) : State :=
  let s := ((s.bump K.pmcSamplesLost).count 739 1)
  State.raiseLimited { s with pmc := { s.pmc with lostPending := s.pmc.lostPending + 1 } } 631 { src := 631 }

/-- R484: a record enters the hold of its unit, where the hold has room, the buffer holds fewer than 4,095 records and master 38
is not frozen; units 0 to 7 are the cores, 16 + l loom l. -/
def State.sampleIn (s : State) (unit : Nat) (r : Sample) : State :=
  if s.isFrozen 38 || decide (2 ≤ (s.pmc.holds.filter (·.1 == unit)).length) || decide (4095 ≤ s.pmc.level) then s.sampleDrop
  else { s with pmc := { s.pmc with holds := s.pmc.holds ++ [(unit, r)] } }

/-- The mean of a sum of QP values, rounded to nearest (log entry 12), 0 where there is none. -/
def meanQp (sum : Int) (n : Nat) : Int := if n = 0 then 0 else roundI ((sum : Rat) / q n)

/-- R482, R483: the record of a row whose last byte is staged, if the row is sampled. -/
def State.rowSample (s : State) (r : RowSt) (loom : Nat) : State :=
  let c := r.chan
  let rows := match (s.chan c).picSt r.pic with | some p => p.rows | none => rowCount s.view c
  if bit (s.nat K.pmcRowSampleChannels) c && (r.pic * rows + r.row) % max 1 (s.nat K.pmcRowPeriod) == 0 then
    let band := match (s.chan c).picSt r.pic with | some p => p.band.isSome | none => false
    let flags := b2n r.floorMode + 2 * b2n (r.kind == .hold) + 4 * b2n (r.kind == .broken) + 8 * b2n r.bounded + 16 * b2n band
    let body := [BitVec.ofNat 8 c, BitVec.ofNat 8 r.row, BitVec.ofNat 8 r.effort, BitVec.ofInt 8 (meanQp r.qpSum r.qpCount)]
      ++ leBytes 4 r.grant ++ leBytes 4 (8 * r.bytes) ++ leBytes 2 r.floorCtus ++ leBytes 2 r.losslessCtus ++ leBytes 4 r.lag
    s.sampleIn (16 + loom) { kind := 2, unit := loom, flags := flags, time := nowNs s, body := body }
  else s

end Sys2Proof.Machine
end

