-- ==== Sys2Proof/Machine/Packets.lean ====
section
/-!
DEFINITION. Sys2Proof/Machine/Packets.lean: row packets (R280 to R285): how a row's staged bytes are cut into frames, the RTP header
with the row extension, the payload formats, and transport stream mode. The payload headers are those of RFC 7798, RFC 9328 and
ISO/IEC 13818-1, which the spec names (log entry 13).
-/

namespace Sys2Proof.Machine

/-! ## Cutting (R282) -/

/-- A cut: the payload after the row extension, where the cut stops, and whether it ends a NAL unit. -/
structure Cut where
  payload : Bytes
  /-- NAL units cut whole so far, bytes of the next one cut, NAL bytes that this cut carries -/
  nals : Nat
  bytes : Nat
  taken : Nat
  deriving DecidableEq, Repr

/-- The first two bytes of a NAL unit. -/
def nalHead (b : Bytes) : Nat × Nat := ((b.getD 0 0).toNat, (b.getD 1 0).toNat)

/-- R281: the payload header of type 48, 49, 28 or 29 that follows from a NAL unit's own header. -/
def payloadHead (hevc : Bool) (agg : Bool) (b : Bytes) : Bytes :=
  let (h0, h1) := nalHead b
  if hevc then [BitVec.ofNat 8 (h0 / 128 * 128 + (if agg then 48 else 49) * 2 + h0 % 2), BitVec.ofNat 8 h1]
  else [BitVec.ofNat 8 h0, BitVec.ofNat 8 ((if agg then 28 else 29) * 8 + h1 % 8)]

/-- The type field of a NAL unit. -/
def nalType (hevc : Bool) (b : Bytes) : Nat := if hevc then (nalHead b).1 / 2 % 64 else (nalHead b).2 / 8

/-- R281: a single NAL unit packet: the unit with its DONL after its header. -/
def singlePayload (u : Nal) : Bytes := u.bytes.take 2 ++ beBytes 2 u.don ++ u.bytes.drop 2

/-- R281: an aggregation packet of two or more units. -/
def aggPayload (hevc : Bool) (us : List Nal) : Bytes :=
  match us with
  | [] => []
  | u :: rest =>
    payloadHead hevc true u.bytes ++ beBytes 2 u.don ++ beBytes 2 u.bytes.length ++ u.bytes
      ++ (rest.map fun n => [(0 : Byte)] ++ beBytes 2 n.bytes.length ++ n.bytes).flatten

/-- R281: a fragmentation unit of bytes b to b + n − 1 of a NAL unit. -/
def fragPayload (hevc : Bool) (u : Nal) (b n : Nat) (ends lastOfPicture : Bool) : Bytes :=
  let t := nalType hevc u.bytes
  let fu := 128 * b2n (b == 0) + 64 * b2n ends + (if hevc then t else 32 * b2n (ends && lastOfPicture) + t)
  payloadHead hevc false u.bytes ++ [BitVec.ofNat 8 fu] ++ beBytes 2 u.don ++ (u.bytes.drop (max b 2)).take (b + n - max b 2)

/-- R282: the units after the first that an aggregation packet takes: wholly staged, while the total fits. -/
def aggregate (pm : Nat) : Nat → List Nal → List Nal
  | _, [] => []
  | total, u :: t =>
    if u.complete && decide (total + 3 + u.bytes.length ≤ pm) then u :: aggregate pm (total + 3 + u.bytes.length) t else []

/-- R282: the next frame of a row, if a build condition holds; the opening frame takes what is staged. -/
def nextCut (v : View) (pm : Nat) (r : RowSt) (opening lastRow : Bool) : Option Cut :=
  let hevc := v.nat (K.loomCodec r.chan) == 0
  match r.nals.drop r.cutNals with
  | [] => none
  | u :: rest =>
    let b := r.cutBytes
    let staged := u.bytes.length - b
    if b = 0 && u.complete && decide (u.bytes.length ≤ pm) then
      let more := aggregate pm (2 + u.bytes.length) rest
      let us := u :: more
      some { payload := if more.isEmpty then singlePayload u else aggPayload hevc us, nals := r.cutNals + us.length, bytes := 0,
             taken := (us.map (·.bytes.length)).sum }
    else if staged = 0 then
      (if u.complete then some { payload := [], nals := r.cutNals + 1, bytes := 0, taken := 0 } else none)
    else if opening || decide (pm ≤ staged) || u.complete || r.kind == .broken then
      let n := min pm staged
      let ends := u.complete && n == staged
      some { payload := fragPayload hevc u b n ends lastRow, nals := if ends then r.cutNals + 1 else r.cutNals,
             bytes := if ends then 0 else b + n, taken := n }
    else none

/-! ## RTP (R280, R282, R283) -/

/-- R282: the RTP timestamp of picture k. -/
def rtpTime (v : View) (c k : Nat) : Nat := floorN (boundaryTime v c k * 90000 / 1000000000) % 2 ^ 32

/-- The RTP header and the row extension. -/
def rtpHead (v : View) (c k j phase seq : Nat) (marker : Bool) (flags : Nat) : Bytes :=
  let pt := if v.nat (K.streamStreamFormat c) = 1 then 33 else v.nat (K.streamPayloadType c)
  [0x90, BitVec.ofNat 8 (128 * b2n marker + pt)] ++ beBytes 2 seq ++ beBytes 4 (rtpTime v c k)
    ++ beBytes 4 (v.nat (K.streamSsrcBase c) + phase) ++ [0xBE, 0xDE, 0, 2]
    ++ [BitVec.ofNat 8 (16 * v.nat (K.streamRowExtId c) + 3)] ++ beBytes 2 k ++ [BitVec.ofNat 8 j, BitVec.ofNat 8 flags, 0, 0, 0]

/-! ## Transport stream (R285) -/

/-- CRC-32 of ISO/IEC 13818-1. -/
def crcMpeg (b : Bytes) : Nat :=
  b.foldl (fun c x => (List.range 8).foldl (fun c i =>
    let t := (c / 2 ^ 31 % 2 + x.toNat / 2 ^ (7 - i) % 2) % 2
    if t = 1 then (c * 2 % 2 ^ 32) ^^^ 0x04C11DB7 else c * 2 % 2 ^ 32) c) 0xFFFFFFFF

/-- A TS packet of 188 bytes: stuffed by its adaptation field where the payload falls short. -/
def tsPacket (pid cc : Nat) (start : Bool) (pcr : Option Nat) (payload : Bytes) : Bytes :=
  let own : Bytes := match pcr with
    | some t =>
      let base := t * 9 / 100000 % 2 ^ 33
      let ext := t * 27 / 1000 % 300
      0x10 :: beBytes 6 (base * 2 ^ 15 + 0x3F * 2 ^ 9 + ext)
    | none => []
  let stuff := 184 - payload.length - (if own.isEmpty then 0 else own.length + 1)
  let af : Bytes :=
    if own.isEmpty then
      (if stuff = 0 then [] else if stuff = 1 then [0]
       else [BitVec.ofNat 8 (stuff - 1), 0] ++ List.replicate (stuff - 2) 0xFF)
    else BitVec.ofNat 8 (own.length + stuff) :: own ++ List.replicate stuff 0xFF
  [0x47, BitVec.ofNat 8 (64 * b2n start + pid / 256), BitVec.ofNat 8 pid, BitVec.ofNat 8 ((if af.isEmpty then 16 else 48) + cc % 16)]
    ++ af ++ payload

/-- A section in one TS packet, filled up after its end. -/
def tsSection (pid cc : Nat) (sec : Bytes) : Bytes :=
  let body := 0 :: (sec ++ beBytes 4 (crcMpeg sec))
  tsPacket pid cc true none (body ++ List.replicate (184 - body.length) 0xFF)

/-- PAT and PMT. -/
def patSection : Bytes := [0, 0xB0, 0x0D, 0, 1, 0xC1, 0, 0, 0, 1, 0xF0, 0]
def pmtSection (hevc : Bool) : Bytes :=
  [2, 0xB0, 0x12, 0, 1, 0xC1, 0, 0, 0xE1, 0, 0xF0, 0, if hevc then 0x24 else 0x33, 0xE1, 0, 0xF0, 0]

/-- The head of a row's PES packet; row 0's carries the PTS. -/
def pesHead (pts : Option Nat) : Bytes :=
  let t : Bytes := match pts with
    | some t => beBytes 5 ((2 * 8 + t / 2 ^ 30 % 8) * 2 ^ 33 + 2 ^ 32 + t / 2 ^ 15 % 2 ^ 15 * 2 ^ 17 + 2 ^ 16 + t % 2 ^ 15 * 2 + 1)
    | none => []
  [0, 0, 1, 0xE0, 0, 0, 0x84, if t.isEmpty then 0 else 0x80, BitVec.ofNat 8 t.length] ++ t

/-- The staged part of a row's PES packet: its head and its NAL units with their start codes. -/
def pesBytes (pts : Option Nat) (nals : List Nal) : Bytes :=
  pesHead pts ++ (nals.map fun n => [(0 : Byte), 0, 0, 1] ++ n.bytes).flatten

/-- The NAL bytes among the first so many bytes of a row's PES packet. -/
def nalBytesIn (head : Nat) (nals : List Nal) (off : Nat) : Nat :=
  (nals.foldl (fun (acc : Nat × Nat) n => (acc.1 + 4 + n.bytes.length, acc.2 + min n.bytes.length (off - (acc.1 + 4)))) (head, 0)).2

/-- R285: the next RTP payload of a row in transport stream mode: up to seven TS packets, with the channel's continuity
counters; the part of the PES packet from an offset is whatever is staged, and only the row's first and last packets are
stuffed. -/
def tsCut (v : View) (r : RowSt) (cont : AMap Nat) (now ts : Nat) (opening done : Bool) : Option (Cut × AMap Nat) :=
  let hevc := v.nat (K.loomCodec r.chan) == 0
  let pts := if r.row = 0 then some ts else none
  let all := pesBytes pts r.nals
  let rest := all.drop r.cutBytes
  let tables := opening && r.row == 0
  let key (i : Nat) : Nat := 4 * r.phase + i
  let cc (m : AMap Nat) (i : Nat) : Nat := AMap.getD m (key i) 0
  let up (m : AMap Nat) (i : Nat) : AMap Nat := AMap.put m (key i) ((cc m i + 1) % 16)
  let head : Bytes := if tables then tsSection 0 (cc cont 0) patSection ++ tsSection 0x1000 (cc cont 1) (pmtSection hevc) else []
  let cont := if tables then up (up cont 0) 1 else cont
  let slots := if tables then 5 else 7
  let first := if opening then 176 else 184
  let room := first + 184 * (slots - 1)
  let n :=
    if room ≤ rest.length then room
    else if done then rest.length
    else if opening then (if rest.length ≤ first then rest.length else first + (rest.length - first) / 184 * 184)
    else 0
  if n = 0 then none
  else
    let a := rest.take n
    let chunks := a.take first :: (List.range ((n - first + 183) / 184)).map fun i => ((a.drop (first + 184 * i)).take 184)
    let (body, cont) := chunks.zipIdx.foldl (fun (acc : Bytes × AMap Nat) x =>
      (acc.1 ++ tsPacket 0x100 (cc acc.2 2) (opening && x.2 == 0) (if opening && x.2 = 0 then some now else none) x.1, up acc.2 2)) (head, cont)
    let h := (pesHead pts).length
    some ({ payload := body, nals := r.cutNals, bytes := r.cutBytes + n,
            taken := nalBytesIn h r.nals (r.cutBytes + n) - nalBytesIn h r.nals r.cutBytes }, cont)

/-! ## Building frames -/

/-- R282, R517: Pmax of a picture. -/
def pmaxOf (s : State) (c k : Nat) : Nat := match (s.chan c).picSt k with | some p => p.pmax | none => pMax s.view c

/-- Whether a row in transport stream mode is cut to its end. -/
def tsEnd (v : View) (r : RowSt) : Bool :=
  r.lastStaged && decide ((pesBytes (if r.row = 0 then some (rtpTime v r.chan r.pic) else none) r.nals).length ≤ r.cutBytes)

/-- R280, R286: one cut goes to every port that carries the row, with one RTP packet for all legs. -/
def State.sendCut (s : State) (r : RowSt) (x : Cut) (opening last : Bool) (rows : Nat) : State :=
  let v := s.picView r.chan r.pic
  let c := r.chan
  let ch := s.chan c
  let seq := AMap.getD ch.seqs r.phase (Config.random (c * 16 + r.phase) % 65536)
  let rowEnd := last && r.kind != .broken
  let picEnd := rowEnd && r.row + 1 == rows
  let flags := b2n opening + 2 * b2n rowEnd + 4 * b2n (r.kind == .hold) + 8 * b2n picEnd
  let pkt := rtpHead v c r.pic r.row r.phase seq picEnd flags ++ x.payload
  let s := s.setChan c { ch with seqs := AMap.put ch.seqs r.phase ((seq + 1) % 65536),
                                 packets := AMap.upd ch.packets r.phase 0 (fun o => (o + 1) % 2 ^ 32),
                                 octets := AMap.upd ch.octets r.phase 0 (fun o => (o + x.payload.length) % 2 ^ 32) }
  [0, 1].foldl (fun s leg =>
    let p := legPort v c leg
    if 8 ≤ p || bit r.blocked p then s
    else
      let dst := v.oct (if leg = 0 then K.streamDestAddressA c else K.streamDestAddressB c)
      let f := udpFrame s p 7 dst (v.nat (K.streamDestUdpPort c) + 2 * r.phase) (v.nat (K.streamSourceUdpPort c) + 2 * r.phase) pkt
      let ps := s.port p
      let s := s.setPort p { ps with rowFrames := ps.rowFrames ++
        [{ frame := f, chan := c, pic := r.pic, row := r.row, phase := r.phase, opening := opening, lastOfRow := last,
           upTo := r.cut + x.taken }] }
      if ps.rowFrames.length + 1 = 384 then s.raise { src := 288 + 12 * p + 3, unit := p } else s) s

/-- R290: whether every port of the row has a class 7 descriptor left. -/
def txRoom (s : State) (r : RowSt) : Bool :=
  (channelPorts (s.picView r.chan r.pic) r.chan).all fun p => bit r.blocked p || decide ((s.port p).rowFrames.length < 384)

/-- R282: frames of a row whose slot is open are built while a build condition holds. -/
def State.buildFrames : Nat → State → Nat → Nat → Nat → State
  | 0, s, _, _, _ => s
  | fuel + 1, s, c, k, j =>
    match s.findRow c k j with
    | none => s
    | some r =>
      let v := s.picView c k
      let rows := match (s.chan c).picSt k with | some p => p.rows | none => rowCount v c
      let opening := r.frames == 0
      if !r.opened || (channelPorts v c).isEmpty || !txRoom s r then s
      else if v.nat (K.streamStreamFormat c) = 1 then
        let done := r.lastStaged
        match tsCut v r (s.chan c).continuity (nowNs s) (rtpTime v c k) opening done with
        | none => s
        | some (x, cont) =>
          let s := s.setChan c { s.chan c with continuity := cont }
          let r' := { r with cutBytes := x.bytes, cut := r.cut + x.taken, frames := r.frames + 1 }
          State.buildFrames fuel ((s.sendCut r x opening (tsEnd v r') rows).setRow r') c k j
      else
        match nextCut v (pmaxOf s c k) r opening (j + 1 == rows) with
        | none => s
        | some x =>
          let r' := { r with cutNals := x.nals, cutBytes := x.bytes, cut := r.cut + x.taken,
                             frames := if x.payload.isEmpty then r.frames else r.frames + 1 }
          let last := r.lastStaged && decide (r.bytes ≤ r'.cut)
          let s := if x.payload.isEmpty then s else s.sendCut r x opening last rows
          State.buildFrames fuel (s.setRow r') c k j

/-- R282: all frames that can be built from a row now. -/
def State.build (s : State) (c k j : Nat) : State :=
  match s.findRow c k j with
  | some r => State.buildFrames (r.bytes / max 1 (pmaxOf s c k) + r.nals.length + 3) s c k j
  | none => s

end Sys2Proof.Machine
end

