-- ==== Sys2Proof/Machine/Loom.lean ====
section
/-!
DEFINITION. Sys2Proof/Machine/Loom.lean: the looms (R145 to R186): rows and their CTUs, hold rows and broken rows, and what a channel
does when a loom stops; with them the spoil of R235.
-/

namespace Sys2Proof.Machine

/-! ## Refresh status (R242, R243) -/

/-- R243: the status objects of channel c's sweep. -/
def State.showSweep (s : State) (c : Nat) : State :=
  let ch := s.chan c
  let st := if ch.spoiled && ch.sweep.isNone then 4
    else match ch.sweep with
      | some w => if w.recovering then 2 else 1
      | none => if ch.waiting.isSome then 3 else 0
  let post := match ch.sweep with | some w => w.postponed | none => 0
  let last := ch.pics.getLast?
  let forced := match last with | some p => p.band.isSome && p.forced | none => false
  let wasPost := match ch.pics.reverse with | _ :: p :: _ => p.postponed | _ => false
  let lastPost := match last with | some p => p.postponed | none => false
  let pend := ch.waiting.isSome || ch.pendingReq.isSome
  ((s.setN (K.darnSweepState c) st).setN (K.darnPostponedThisSweep c) post).setN (K.darnRefreshFlags c)
    (b2n forced + 2 * b2n (wasPost || lastPost) + 4 * b2n pend)

/-- R235: a hold row or a broken row of picture k spoils channel c's stream. -/
def State.spoil (s : State) (c k : Nat) : State :=
  let ch := s.chan c
  let first := !ch.spoiled || ch.sweep.isSome
  let pics := ch.pics.map fun p => if p.pic = k || decide (k < p.pic) || decide (p.finished < p.rows) then { p with edge := 0 } else p
  let s := if ch.sweep.isSome then s.bump (K.darnSweepsSpoiled c) else s
  let s := if ch.pendingReq.isSome then s.bump (K.darnDarnCoalesced c) else s
  let s := s.setChan c { ch with spoiled := true, sweep := none, pendingReq := none, pics := pics, heldNow := true }
  let s := s.showSweep c
  if first then s.raise { src := 167 + 8 * c, unit := c } else s

/-! ## Row maps (R172) -/

/-- The slot that row j of picture k is mapped to; 4 is the grey slot. -/
def mapOf (ch : ChanSt) (k j : Nat) : Option Nat := match ch.picSt k with | some p => AMap.find? p.map j | none => none

/-- R172: the slot for a newly coded row: neither mapped by the two pictures before nor pinned. -/
def freeSlot (ch : ChanSt) (k j : Nat) : Nat :=
  ((List.range 4).find? fun x =>
    (k == 0 || mapOf ch (k - 1) j != some x) && (k < 2 || mapOf ch (k - 2) j != some x) && AMap.find? ch.pinned j != some x).getD 0

/-- R172, R177: row j of picture k is mapped to the slot of the last picture whose row j was coded, which is pinned; in a sequence's
first picture to the grey slot. -/
def mapHeld (ch : ChanSt) (k j : Nat) : ChanSt :=
  match ch.picSt k with
  | none => ch
  | some p =>
    let slot := if p.first || k = 0 then 4
      else match AMap.find? ch.pinned j with
        | some x => x
        | none => (mapOf ch (k - 1) j).getD 4
    { ch.setPic { p with map := AMap.put p.map j slot } with
      pinned := if slot < 4 then AMap.put ch.pinned j slot else ch.pinned }

/-- R172: every loom of channel c holds a copy of the row maps of its last three pictures. -/
def State.copyMaps (s : State) (c : Nat) : State :=
  let ch := s.chan c
  let m := (ch.pics.drop (ch.pics.length - 3)).map fun p => (p.pic, p.map)
  ch.positions.foldl (fun s p => s.setLoom p.loom { s.loom p.loom with maps := AMap.put (s.loom p.loom).maps c m }) s

/-- R172: the slot of row j of a picture by a loom's copy of the maps; 4 is the grey slot. -/
def LoomSt.slot (x : LoomSt) (c k j : Nat) : Option Nat :=
  (AMap.getD x.maps c []).findSome? fun e => if e.1 = k then AMap.find? e.2 j else none

/-- R172, R173, R177: what motion compensation on loom l reads as unit u of row j of picture k of channel c. -/
def refUnit (s : State) (l c k j u : Nat) : Option RefUnit :=
  let ch := s.chan c
  match (s.loom l).slot c k j with
  | some 4 => ch.grey.map fun g => flatUnit g.2 512
  | some n => AMap.find? (AMap.getD ch.refs (4 * j + n) []) u
  | none => none

/-! ## NAL units of a row (R164, R281) -/

/-- R281: the DON of the first unit of row j. -/
def rowDon (p : PicSt) (j : Nat) : Nat := if j = 0 then p.don else p.don + p.prefix_ + j

/-- R176, R177: the units of a hold row, with the template that the picture calls for, filled in with its picture order count and with what
the picture header makes of its kind. -/
def holdUnits (s : State) (v : View) (c : Nat) (p : PicSt) (j : Nat) : List CodedUnit :=
  let t := AMap.getD p.templates j { inter := holdSlice v c j false, intra := holdSlice v c j true }
  let sl := if p.first then t.intra else t.inter
  let filled : CodedUnit := { sl with kind := sliceKind v c p, elements := sl.elements ++ ([("slice_pic_order_cnt_lsb", p.pos % 256)] : Elements) }
  rowUnits s v c p j filled (1 + (Config.audType c p.pic).toNat)

/-- R176, R177: the NAL units of a hold row. -/
def holdNals (s : State) (v : View) (c : Nat) (p : PicSt) (j : Nat) : List Nal :=
  (holdUnits s v c p j).zipIdx.map fun (u, i) =>
    { don := (rowDon p j + i) % 65536, bytes := holdBytes v c p j u, content := u, complete := true }

/-! ## The end of a row -/

/-- R258: the RowQp record of a row goes to both sides. -/
def State.sendRowQp (s : State) (r : RowSt) : State :=
  let c := r.chan
  let v := s.picView c r.pic
  let edge (left : Bool) : Bytes :=
    let x := if left then 0 else ctuCols v c - 1
    let flags := b2n r.floorMode + 2 * b2n (r.kind != .coded) + 4 * b2n (isLossless v c x r.row)
    [BitVec.ofInt 8 r.qRow, BitVec.ofInt 8 (if left then r.edgeQpLeft else r.edgeQpRight), BitVec.ofNat 8 flags, 0]
      ++ beBytes 4 (8 * r.bytes) ++ beBytes 2 (if left then r.edgeActLeft else r.edgeActRight) ++ List.replicate 6 0
  (s.sendSeam c true 2 2 r.pic r.row (edge true)).sendSeam c false 2 2 r.pic r.row (edge false)

/-- R182, R215: a row of a picture has come to its end; with the last one the picture is emitted. -/
def State.rowFinished (s : State) (c k bits : Nat) : State :=
  match (s.chan c).picSt k with
  | none => s
  | some p =>
    let p := { p with finished := p.finished + 1, bits := p.bits + bits }
    let s := s.setChan c ((s.chan c).setPic p)
    if p.finished = p.rows then
      let s := (s.bump (K.loomPicturesCoded c)).setN (K.rateLastPictureBits c) (p.bits % 2 ^ 32)
      match (s.chan c).rate k with
      | some x => s.set (K.rateMeanQp c) (meanQp x.qpSum x.qpCount)
      | none => s
    else s

/-- The loom at the position that codes row j of channel c. -/
def rowLoom (ch : ChanSt) (j : Nat) : Nat := ((ch.positions[j % max 1 ch.positions.length]?).map (·.loom)).getD 0

/-- What follows when a row's last byte is staged, in whatever way (R201, R258, R482). -/
def State.rowEnded (s : State) (r : RowSt) : State :=
  let s := (s.setRow r).endGrant r
  let s := s.sendRowQp r
  let s := s.rowSample r (r.loom.getD (rowLoom (s.chan r.chan) r.row))
  let s := s.rowFinished r.chan r.pic (8 * r.bytes)
  s.build r.chan r.pic r.row

/-! ## Hold rows and broken rows (R175 to R177) -/

/-- R176: row j of picture k of channel c is a hold row: its record, which a discarded row may have left, holds the template. -/
def State.holdRow (s : State) (c k j : Nat) (old : RowSt) : State :=
  match (s.chan c).picSt k with
  | none => s
  | some p =>
    let r : RowSt := { old with kind := .hold, nals := holdNals s (s.picView c k) c p j, lastStaged := true, used := 0, qpSum := 0,
                                qpCount := 0, codings := [], ops := [],
                                cut := 0, cutNals := 0, cutBytes := 0, frames := 0, qRow := 0, edgeQpLeft := 0, edgeQpRight := 0,
                                edgeActLeft := 0, edgeActRight := 0, floorCtus := 0, losslessCtus := 0 }
    let s := (s.bump (K.loomHoldRowCount c)).count (192 + 8 * c + 1) 1
    let ch := s.chan c
    let begins := !ch.holding
    let s := State.copyMaps (s.setChan c { mapHeld ch k j with holding := true, toStart := ch.toStart.filter fun e => e != (k, j) }) c
    let s := if begins then s.raise { src := 161 + 8 * c, unit := c } else s
    let s := if j + 1 = p.rows then s.settleOnce c k else s
    (s.spoil c k).rowEnded r

/-- R175: a row that a loom has started ends with it: discarded for a hold row where no byte has left, else broken off after its last
staged byte. -/
def State.endRow (s : State) (r : RowSt) : State :=
  let c := r.chan
  if maxOf (r.sent.map (·.2)) = 0 then
    let s := { s with video := { s.video with stagingBytes := s.video.stagingBytes - r.bytes } }
    let s := (s.setRow { r with used := 0 }).endGrant { r with used := 0, qpSum := 0, qpCount := 0 }
    let s := (channelPorts (s.picView c r.pic) c).foldl (fun s p =>
      s.setPort p { s.port p with rowFrames := (s.port p).rowFrames.filter fun f => !(f.chan == c && f.pic == r.pic && f.row == r.row) }) s
    s.holdRow c r.pic r.row { r with returned := true }
  else
    let s := (s.bump (K.loomBrokenRowCount c)).count (192 + 8 * c + 2) 1
    let s := State.copyMaps (s.setChan c (mapHeld (s.chan c) r.pic r.row)) c
    let s := s.raise { src := 162 + 8 * c, unit := c }
    let s := s.spoil c r.pic
    s.rowEnded { r with kind := .broken, lastStaged := true, used := 8 * r.bytes, codings := [], ops := [] }

/-! ## Assignments on show (R182, R184) -/

/-- R182, R184: the objects that show which looms hold positions. -/
def State.showLooms (s : State) : State :=
  let holds (c : Nat) : List Nat := (s.chan c).positions.map (·.loom)
  let on (l : Nat) : List Nat := (List.range 16).filter fun c => (holds c).contains l
  let s1 := (List.range 16).foldl (fun s c =>
    let m := maskOf 16 fun l => (holds c).contains l
    if s.nat (K.loomAssignedLooms c) = m then s else s.setN (K.loomAssignedLooms c) m) s
  let s2 := (List.range 16).foldl (fun s l =>
    let w := match on l with | [] => 0xFFFF | [a] => 0xFF00 + a | a :: b :: _ => 256 * b + a
    let s := if s.nat (K.loomGLoomChannels l) = w then s else s.setN (K.loomGLoomChannels l) w
    let load : Rat := ((on l).map fun c =>
      ((holds c).zipIdx.map fun (x, p) => if x = l then codedLoad s.view c p (holds c).length else 0).sum).sum
    let n := floorN (load * 1000 / 1023900000)
    if s.nat (K.loomGLoomCodedLoad l) = n then s else s.setN (K.loomGLoomCodedLoad l) n) s1
  ((s2.setN K.loomGLoomsInService (maskOf 16 fun l => !(on l).isEmpty)).setN K.loomGLoomsFrozen (loomMaskIn s 2)).setN
    K.loomGLoomsQuarantined (loomMaskIn s 4)

/-- A loom's state set (R184). -/
def State.loomState (s : State) (l st : Nat) : State :=
  let s := if s.nat (K.loomGLoomState l) = 0 && (st = 1 || st = 3) then { s with power := { s.power with gateAt := some s.clk.ticks } } else s
  s.setN (K.loomGLoomState l) st

/-- R178, R179: whether a position's loom works there, or has passed its qualification and is to resume it. -/
def PosSt.live (p : PosSt) : Bool := p.stopped.isNone || p.resume

/-- R175, R178: loom l stops: its rows end, and its positions wait for it or for a spare. A loom that was to resume stops anew. -/
def State.stopLoom (s : State) (l : Nat) : State :=
  let mine := s.video.rows.filter fun r => r.loom == some l && r.kind == .coded && !r.lastStaged
  let chans := (List.range 16).filter fun c => (s.chan c).positions.any fun p => p.loom == l && p.live
  let s := s.setLoom l { s.loom l with row := none, lanes := [] }
  let s := chans.foldl (fun s c =>
    let ch := s.chan c
    let ps := ch.positions.map fun p => if p.loom = l && p.live then { p with stopped := some s.clk.ticks, resume := false } else p
    (s.setChan c { ch with positions := ps }).raise { src := 160 + 8 * c, unit := c }) s
  mine.foldl (fun s r => match s.findRow r.chan r.pic r.row with | some x => s.endRow x | none => s) s

/-! ## A row starts (R151, R152, R169, R202, R207) -/

/-- t_press of row j of picture k in presented time, ns, exactly. -/
def pressTime (s : State) (c k j : Nat) : Rat := boundaryTime s.view c k + tPress s.view (fun d => (s.reed d).rotDelay) c j

/-- R151, R152: the composed row that loom l takes next: the earliest t_press, the lower channel first. -/
def nextRow (s : State) (l : Nat) : Option (Nat × Nat × Nat) :=
  let all := ((List.range 16).map fun c =>
    let ch := s.chan c
    if ch.notFitting then [] else
    (ch.toStart.filter fun e =>
      match ch.positions[e.2 % max 1 ch.positions.length]? with
      | some p => p.loom == l && p.stopped.isNone
      | none => false).map fun e => (c, e.1, e.2)).flatten
  all.foldl (fun best e =>
    match best with
    | none => some e
    | some b => if pressTime s e.1 e.2.1 e.2.2 < pressTime s b.1 b.2.1 b.2.2 then some e else best) none

/-- R217: FloorMode at most once in a picture. -/
def State.floorEvent (s : State) (c k : Nat) : State :=
  let ch := s.chan c
  match ch.picSt k with
  | some p => if p.floorShown then s else (s.setChan c (ch.setPic { p with floorShown := true })).raise { src := 166 + 8 * c, unit := c }
  | none => s

/-- R207, R228: the band of picture k is postponed. -/
def State.postpone (s : State) (c k : Nat) : State :=
  match (s.chan c).picSt k with
  | none => s
  | some p =>
    if p.postponed then s
    else
      let s := (s.bump (K.ratePostponedColumns c)).count (192 + 8 * c + 7) 1
      let ch := s.chan c
      let ch := ch.setPic { p with postponed := true, edge := if ch.spoiled then 0 else 64 * p.band.getD 0 }
      let s := s.setChan c { ch with sweep := ch.sweep.map fun w => { w with postponed := w.postponed + 1 } }
      (s.showSweep c).raise { src := 167 + 8 * c, unit := c }

/-- The row that loom l has in intake. -/
def intakeRow (s : State) (l : Nat) : Option RowSt :=
  match (s.loom l).row with
  | some (c, k, j) => (s.findRow c k j).bind fun r => if r.kind = .coded && r.loom = some l then some r else none
  | none => none

/-- CTUs of a row of a picture. -/
def rowCtus (s : State) (c k : Nat) : Nat := match (s.chan c).picSt k with | some p => p.cols | none => 0

/-- R186: whether loom l has a row in intake: one whose CTUs it has not all taken, or whose last one it took less than τ ago. -/
def inIntake (s : State) (l : Nat) : Option RowSt :=
  (intakeRow s l).bind fun r => if decide (r.intake < rowCtus s r.chan r.pic) || decide (s.clk.ticks < (s.loom l).freeAt) then some r else none

/-- R220, R235: the columns of a picture's CTUs that are clean. -/
def cleanCols (wpic : Nat) (p : PicSt) : Nat :=
  match p.band with
  | some b => min b (p.edge / 64)
  | none => if p.edge = wpic then p.cols else 0

/-- LOOM_ROW_START (R151, R169, R172, R196, R202, R207, R228, R261): a loom that is free and in service starts the composed row that
is next for it. -/
def execLoomRowStart (loom : LoomId) (s : State) : Result := whenClocked s <|
  let l : Nat := loom
  if s.nat (K.loomGLoomState l) != 1 || s.isFrozen (11 + l) || s.videoStopped || s.beam.failed
      || decide (s.clk.ticks < (s.loom l).freeAt) || (inIntake s l).isSome then .next s
  else
    match nextRow s l with
    | none => .next s
    | some (c, k, j) =>
      let v := s.picView c k
      let ch := s.chan c
      let s := s.setChan c { ch with toStart := ch.toStart.filter fun e => e != (k, j) }
      match (s.chan c).picSt k, s.findRow c k j with
      | some p, none =>
        let s := s.readStats c k
        let (fm, g, t) := grantFor s c k j
        let canPost := fm && p.band.isSome && !p.forced && decide (nowExact s < boundaryTime v c (k + 1))
        let s := if fm then ((s.bump (K.rateFloorRowCount c)).count (192 + 8 * c + 3) 1).floorEvent c k else s
        let s := if canPost then s.postpone c k else s
        let ch := s.chan c
        let ch := match ch.rate k with
          | some x => ch.setRate { x with inFlight := x.inFlight + g, floor := x.floor || fm, started := x.started + 1 }
          | none => ch
        let ch := match ch.picSt k with
          | some p => { ch.setPic { p with map := AMap.put p.map j (freeSlot ch k j) } with refs := AMap.del ch.refs (4 * j + freeSlot ch k j) }
          | none => ch
        let s := State.copyMaps (s.setChan c ch) c
        let s := if j + 1 = p.rows then s.settle c k else s
        let eff := min (AMap.getD s.gov.effort l 0) (v.nat (K.loomMaxEffort c))
        let qr := if fm then codecQpMax v c else rowQp s c k j t
        let bound := (seamBounds s c k j).isSome
        let s := if bound then s.bump (K.reedQpRecordsUsed c) else s
        let r : RowSt := { chan := c, pic := k, row := j, kind := .coded, loom := some l, startAt := s.clk.ticks, grant := g, target := t,
                           floorMode := fm, qRow := qr, qLast := qr, effort := eff, used := headBits j, postponed := canPost,
                           phase := 0, bounded := bound, lag := floorN (nowExact s - pressTime s c k j),
                           backlog := headBits j, backlogAt := nowExact s,
                           clean := (match ch.picSt k with | some p => cleanCols (picW v c) p | none => 0),
                           refs := (match ch.picSt k with | some p => refsOf v c ch p | none => []) }
        let s := (s.setRow r).setN (K.loomGLoomEffort l) eff
        .next (s.setLoom l { s.loom l with freeAt := s.clk.ticks + 960 * p.cols, row := some (c, k, j) })
      | _, _ => .next s

/-! ## CTUs (R145 to R147, R203) -/

/-- What the coding of CTU x of a row in progress is held to. -/
def ctuCase (s : State) (r : RowSt) (p : PicSt) (x : Nat) : CtuCase :=
  let v := s.picView r.chan r.pic
  let lossless := isLossless v r.chan x r.row
  let (b, w) := p.bandRange
  let inBand := decide (b ≤ x) && decide (x < b + w) && !r.postponed
  { hevc := isHevc v r.chan, wpic := picW v r.chan, hpic := picH v r.chan, x := x, j := r.row, tools := rowTools v r.chan r.effort,
    refs := r.refs, lossless := lossless, intra := inBand, fill := p.first && !lossless && !inBand, clean := decide (x < r.clean) }

/-- R145: the heddle lane of CTU x. -/
def laneOf (x : Nat) : Nat := x % 4

/-- What a decision on CTU x adds to its row. -/
def RowSt.decided (r : RowSt) (x n : Nat) (m : CtuCoding) (ctu : CtuMeasure) (steered qp : Int) (lossless floor : Bool) : RowSt :=
  { r with intake := x + 1, used := r.used + m.bits, codings := AMap.put r.codings x m, ops := AMap.put r.ops x ctu.ops, qLast := steered,
           qpSum := if lossless then r.qpSum else r.qpSum + qp, qpCount := if lossless then r.qpCount else r.qpCount + 1,
           edgeQpLeft := if x = 0 then qp else r.edgeQpLeft, edgeQpRight := if x + 1 = n then qp else r.edgeQpRight,
           edgeActLeft := if x = 0 then ctu.activity else r.edgeActLeft, edgeActRight := if x + 1 = n then ctu.activity else r.edgeActRight,
           floorCtus := r.floorCtus + b2n floor, losslessCtus := r.losslessCtus + b2n lossless }

/-- R203, R206: the decision on CTU x of a row: the coding emitted, and whether it is the floor coding in place of the chosen one. -/
def ctuDecision (s : State) (r : RowSt) (k : CtuCase) (ctu : CtuMeasure) : CtuCoding × Bool :=
  let subst := !k.lossless && !r.floorMode && decide (ctuLimit s r k.x < (ctu.chosen.bits : Int))
  (if !k.lossless && (r.floorMode || subst) then ctu.floor else ctu.chosen, subst)

/-- R170, R205: the QP that steering gives CTU x, and the one that it is coded at. -/
def ctuQps (s : State) (r : RowSt) (k : CtuCase) (ctu : CtuMeasure) (subst : Bool) : Int × Int :=
  let top := codecQpMax (s.picView r.chan r.pic) r.chan
  let steered := if k.lossless then r.qLast else if r.floorMode then top else ctuQp s r k.x ctu
  (steered, if k.lossless then (if k.hevc then r.qLast else -8) else if subst then top else steered)

/-- CTU_INTAKE (R145 to R147, R160, R161, R170, R203, R205, R206, R218, R221, R222, R227): every τ a loom takes the next CTU of its row into
the heddle lane whose turn it is, at most four CTUs ahead of the reconstruction, and decides between the chosen coding and the floor
coding. While the lane's entries are full, the intake stalls; a coding that the rules do not let a loom choose cannot come about, and such a command has no effect. -/
def execCtuIntake (loom : LoomId) (ctu : CtuMeasure) (s : State) : Result := whenClocked s <|
  let l : Nat := loom
  match intakeRow s l with
  | none => .next s
  | some r =>
    match (s.chan r.chan).picSt r.pic with
    | none => .next s
    | some p =>
      let c := r.chan
      let x := r.intake
      let lm := s.loom l
      let held := AMap.getD lm.lanes (laneOf x) 0
      let chroma := (s.picView c r.pic).nat (K.loomChromaFormat c)
      let k := ctuCase s r p x
      if decide (p.cols ≤ x) || decide (s.clk.ticks < r.startAt + 960 * x) || decide (r.staged + 4 < x) || decide (384 < held + ctu.ops)
          || !(chosenOk k chroma ctu.chosen && (k.lossless || floorOk k chroma ctu.floor)) then .next s
      else
        let (m, subst) := ctuDecision s r k ctu
        let (steered, qp) := ctuQps s r k ctu subst
        let at_ := stagedAt s
        let r' := { r.decided x p.cols m ctu steered qp k.lossless (subst || (r.floorMode && !k.lossless)) with
                    backlog := rowBacklog s r at_ + q m.bits, backlogAt := at_ }
        let s := if subst then ((s.bump (K.rateFloorCtuCount c)).count (192 + 8 * c + 4) 1).floorEvent c r.pic else s
        let s := s.setRow r'
        let s := (s.count (320 + 4 * l) 1).count (320 + 4 * l + 3) (b2n k.lossless)
        let lm := s.loom l
        .next (s.setLoom l { lm with ctuCount := (lm.ctuCount + 1) % 2 ^ 32, lanes := AMap.put lm.lanes (laneOf x) (held + ctu.ops) })

/-! ## Staging (R149, R151, R164, R171, R282) -/

/-- R151, R164, R282: coded bytes enter a row's units in order; a piece that goes on with a unit joins the last one. -/
def stagePieces (us : List CodedUnit) (don0 : Nat) : List Nal → List Piece → List Nal
  | nals, [] => nals
  | nals, p :: t =>
    let nals :=
      if p.first then
        nals ++ [{ don := (don0 + nals.length) % 65536, bytes := p.bytes, content := us.getD nals.length { kind := .trail }, complete := p.last }]
      else match nals.reverse with
        | [] => nals
        | u :: rest => rest.reverse ++ [{ u with bytes := u.bytes ++ p.bytes, complete := p.last }]
    stagePieces us don0 nals t

/-- Whether a NAL unit is a slice. -/
def Nal.isSlice (n : Nal) : Bool := match n.content.kind with | .idr | .trail | .gdr => true | _ => false

/-- Bytes of the units of a list that a test picks. -/
def bytesIn (f : Nal → Bool) (l : List Nal) : Nat := ((l.filter f).map (·.bytes.length)).sum

/-- R134, R171: whether a unit's bytes can be its own: its header, a user-data message as it is laid out, and the bound of the picture hash. -/
def unitOk (hevc : Bool) (n : Nal) : Bool :=
  n.bytes.take 2 == unitHeader hevc n.content.kind
    && (n.content.kind != .suffixSei || !n.complete || (if n.content.payload.isEmpty then decide (n.bytes.length ≤ 64) else n.bytes == userDataNal hevc n.content.payload))

/-- R149, R164, R171: whether a row's units after a CTU, which were `old` before it, are as the rules let them be: the units due so far in
their order, each whole but the slice, within the bounds of the units before the slice and of the CTU, whose coding takes so many bits; `pre`
units come before the slice and `all` are due with the last CTU. -/
def stagedOk (hevc : Bool) (pre all bits : Nat) (old nals : List Nal) (firstCtu last : Bool) : Bool :=
  nals.length == (if last then all else pre + 1) && nals.all (unitOk hevc) && (nals.take pre).all (·.complete)
    && (!last || nals.all (·.complete)) && decide (bytesIn (fun n => !n.isSlice && n.content.kind != .suffixSei) nals ≤ 1536)
    && decide (8 * (bytesIn Nal.isSlice nals - bytesIn Nal.isSlice old) ≤ bits + (if firstCtu then 512 else 0))

/-- R164: pic_type that the bytes of a delimiter among pieces give. -/
def audOf (ps : List Piece) : Int := match ps with | p :: _ => ((p.bytes.getD 2 0).toNat / 32 : Nat) | [] => 0

/-- R164: whether a delimiter's bytes in HEVC carry a pic_type that the picture can have. -/
def audFits (v : View) (c : Nat) (p : PicSt) (ps : List Piece) : Bool :=
  !isHevc v c || ((audUnit v c p (audOf ps)).elements == [("pic_type", audOf ps)] && (audOf ps == 1 || audOf ps == 2))

/-! ## Reconstruction (R150, R170, R172, R173) -/

/-- R121, R150: a sample of the picture as the looms code it, by plane and place: the composed sample, with the last column and line
repeated. -/
def codedSample (s : State) (v : View) (c k plane x y : Nat) : Nat :=
  let lines := match (s.press c).pics.find? (·.pic == k) with | some p => p.lines | none => []
  let line (y : Nat) : YccLine := AMap.getD lines (min y (canvasH v c - 1)) { y := [], cb := [], cr := [] }
  let of_ (l : YccLine) : List Nat := if plane = 0 then l.y else if plane = 1 then l.cb else l.cr
  if plane = 0 || v.nat (K.loomChromaFormat c) = 1 then edgeSample (of_ (line y)) x
  else edgeSample (subsampleV (of_ (line (2 * y))) (of_ (line (2 * y + 1)))) x

/-- R170: whether a luma place lies in a lossless region; in HEVC a lossless CTU is exact throughout. -/
def exactAt (v : View) (c x y : Nat) : Bool :=
  isHevc v c || (List.range 16).any fun h =>
    hemLossless v c h && decide (v.nat (K.hemX c h) ≤ x) && decide (x < v.nat (K.hemX c h) + v.nat (K.hemWidth c h))
      && decide (v.nat (K.hemY c h) ≤ y) && decide (y < v.nat (K.hemY c h) + v.nat (K.hemHeight c h))

/-- R170, R227: whether a unit of a CTU's reconstruction holds the samples that the rules fix: the composed ones where it is lossless, 512 in
a fill CTU. -/
def unitExact (s : State) (v : View) (r : RowSt) (k : CtuCase) (n : Nat) (u : RefUnit) : Bool :=
  let chroma := v.nat (K.loomChromaFormat r.chan)
  if !k.lossless && !k.fill then true
  else
    match u.samples chroma with
    | none => false
    | some planes =>
      (planes.zip (unitPlanes chroma)).zipIdx.all fun ((l, w, h), plane) =>
        let dx := 64 / w
        let dy := 4 / h
        l.zipIdx.all fun (z, i) =>
          let x := 64 / dx * k.x + i % w
          let y := (64 / dy) * k.j + n * h + i / w
          if decide (k.wpic ≤ dx * x) || decide (k.hpic ≤ dy * y) then true
          else if k.fill then z == 512
          else !exactAt v r.chan (dx * x) (dy * y) || z == codedSample s v r.chan r.pic plane x y

/-- R172, R173: whether units are the whole reconstruction of a CTU. -/
def reconOk (s : State) (v : View) (r : RowSt) (k : CtuCase) (recon : List RefUnit) : Bool :=
  recon.length == (ctuExtent k).2 / 4 && recon.all (RefUnit.ok (v.nat (K.loomChromaFormat r.chan)))
    && recon.zipIdx.all fun (u, n) => unitExact s v r k n u

/-- R172, R173: a CTU's reconstruction is written to the slot that its row has. -/
def ChanSt.writeRefs (ch : ChanSt) (r : RowSt) (x : Nat) (recon : List RefUnit) : ChanSt :=
  match mapOf ch r.pic r.row with
  | some n =>
    let key := 4 * r.row + n
    { ch with refs := AMap.put ch.refs key (recon.zipIdx.foldl (fun m (u, i) => AMap.put m (16 * x + i) u) (AMap.getD ch.refs key [])) }
  | none => ch

/-- R147: the coding-block operations of a CTU complete. -/
def State.freeLane (s : State) (r : RowSt) (x : Nat) : State :=
  match r.loom with
  | some l =>
    let lm := s.loom l
    s.setLoom l { lm with lanes := AMap.put lm.lanes (laneOf x) (AMap.getD lm.lanes (laneOf x) 0 - AMap.getD r.ops x 0) }
  | none => s

/-- R164: the units that a row is emitted as, the first pieces of which tell the delimiter's pic_type. -/
def stagedUnits (s : State) (r : RowSt) (p : PicSt) (pieces : List Piece) : List CodedUnit :=
  let v := s.picView r.chan r.pic
  let k := ctuCase s r p r.staged
  rowUnits s v r.chan p r.row (sliceUnit v r.chan p r.row (min k.tools.refs r.refs.length) k.tools) (audOf pieces)

/-- R151, R282: the units of a row in staging once pieces have entered it. -/
def stagedNals (s : State) (r : RowSt) (p : PicSt) (pieces : List Piece) : List Nal :=
  stagePieces (stagedUnits s r p pieces) (rowDon p r.row) r.nals pieces

/-- R151, R164, R171 to R173: whether the next CTU of a row can be staged now, with these pieces and this reconstruction. -/
def stagingFits (s : State) (r : RowSt) (p : PicSt) (pieces : List Piece) (recon : List RefUnit) : Bool :=
  let v := s.picView r.chan r.pic
  let x := r.staged
  let k := ctuCase s r p x
  let bits := ((AMap.find? r.codings x).map (·.bits)).getD 0
  decide (r.startAt + 960 * (x + 1) + 480 ≤ s.clk.ticks)
    && stagedOk k.hevc (if r.row = 0 then p.prefix_ else 0) (stagedUnits s r p pieces).length bits r.nals (stagedNals s r p pieces) (x == 0)
      (decide (x + 1 = p.cols))
    && (r.row != 0 || x != 0 || audFits v r.chan p pieces) && reconOk s v r k recon

/-- CTU_CODED_STAGED (R147, R151, R164, R171 to R173, R201, R282): the coded bytes of the next CTU of a row reach the Mangle's staging, and
its reconstruction the row's slot. Bytes or units that the rules do not let come about have no effect. -/
def execCtuCodedStaged (chan : Chan) (row : Nat) (coded : StagedCtu) (s : State) : Result := whenClocked s <|
  let c : Nat := chan
  match s.video.rows.find? fun r => r.chan == c && r.row == row && r.kind == .coded && decide (r.staged < r.intake) && !r.lastStaged with
  | none => .next s
  | some r =>
    match (s.chan c).picSt r.pic with
    | none => .next s
    | some p =>
      let x := r.staged
      let size := (coded.pieces.map (·.bytes.length)).sum
      let last := decide (x + 1 = p.cols)
      let nals := stagedNals s r p coded.pieces
      if !stagingFits s r p coded.pieces coded.recon then .next s
      else
        let s := s.freeLane r x
        let s := s.setChan c ((s.chan c).writeRefs r x coded.recon)
        let r := { r with nals := nals, staged := x + 1, lastStaged := last, codings := AMap.del r.codings x, ops := AMap.del r.ops x }
        let total := s.video.stagingBytes + size
        let s := { s with video := { s.video with stagingBytes := total } }
        let s := if s.nat K.rateGStagingPeakBytes < total then s.setN K.rateGStagingPeakBytes total else s
        let s := s.count (192 + 8 * c + 5) size
        if last then
          let s := s.count (192 + 8 * c) 1
          let s := s.setChan c { s.chan c with pinned := AMap.del (s.chan c).pinned row }
          .next (s.rowEnded { r with used := 8 * r.bytes })
        else .next ((s.setRow r).build c r.pic row)

end Sys2Proof.Machine
end

