-- ==== Sys2Proof/Machine/Darning.lean ====
section
/-!
DEFINITION. Sys2Proof/Machine/Darning.lean: darning sweeps (R218 to R236, R245) and darn requests (R233).
-/

namespace Sys2Proof.Machine

/-! ## Requests -/

/-- R233: the bit of DarnSources that gates a route. -/
def routeBit : DarnRoute → Nat
  | .host => 0 | .net => 1 | .rtcp => 2 | .chain => 3

/-- R233: a darn request, with the status a write of it gets: AccessDenied through a disabled route, Inconsistent for a channel that
is not encoded, else Ok. -/
def State.darnAsk (s : State) (c : Nat) (route : DarnRoute) : State × Nat :=
  if !bit (s.nat (K.darnDarnSources c)) (routeBit route) then
    (if route = .rtcp then s.bump (K.darnDarnRefused c) else s, 0x0106)
  else if !s.flag (K.loomEncodeEnable c) || !(s.chan c).encoding then (s, 0x0108)
  else
    let s := s.bump (K.darnDarnRequests c)
    let ch := s.chan c
    if ch.pendingReq.isSome || ch.waiting.isSome then (s.bump (K.darnDarnCoalesced c), 0)
    else if ch.sweep.isSome then ((s.setChan c { ch with pendingReq := some { arrived := nowNs s } }).showSweep c, 0)
    else
      let s := (s.setChan c { ch with waiting := some { arrived := nowNs s } }).showSweep c
      (s.raise { src := 167 + 8 * c, unit := c }, 0)

/-! ## Sweeps at a picture boundary -/

/-- R179, R230: whether every row of the channel is coded from now on. -/
def rowsOk (s : State) (c : Nat) : Bool :=
  let ch := s.chan c
  !ch.positions.isEmpty && ch.positions.all (fun p => p.stopped.isNone) && !s.isFrozen 28 && !s.beam.failed && !ch.notFitting

/-- R219, R225: the sweep after picture k − 1: its band advances, stays or ends, and it ends after its recovery point. -/
def State.sweepOn (s : State) (c k : Nat) : State :=
  let ch := s.chan c
  match ch.sweep with
  | none => s
  | some w =>
    if w.recovery < k then s.setChan c { ch with sweep := none }
    else
      match ch.pics.getLast? with
      | some p =>
        if p.pic < w.start || p.postponed then s
        else
          match p.band with
          | some b =>
            if ctuCols s.view c ≤ b + w.columns then s.setChan c { ch with sweep := some { w with recovering := true } }
            else s.setChan c { ch with sweep := some { w with b := b + w.columns } }
          | none => s
      | none => s

/-- R231: whether a periodic start falls due at picture k. -/
def periodicAt (v : View) (c k : Nat) : Bool :=
  let n := effectivePeriod v c
  n == 0 || ((k : Int) - (periodOffset v c : Int)) % (n : Int) == 0

/-- R233: whether a request that arrived then can be served at T_k. -/
def ripe (s : State) (c k : Nat) (r : Option DarnReq) : Bool :=
  match r with | some x => decide (x.arrived + 500000 ≤ boundaryNs s.view c k) | none => false

/-- R232, R233: fewer than StaggerLimit channels of the stagger set are Sweeping. -/
def staggerOk (s : State) (c : Nat) : Bool :=
  let lim := s.nat K.qualStaggerLimit
  lim == 0 || decide (((staggerSet s.view c).filter fun d =>
    match (s.chan d).sweep with | some w => !w.recovering | none => false).length < lim) || (staggerSet s.view c).isEmpty

/-- R230: the trigger of a sweep that starts at T_k, 0 for none. -/
def sweepTrigger (s : State) (c k : Nat) (first : Bool) : Nat :=
  let ch := s.chan c
  if first then 4
  else if ch.spoiled then (if rowsOk s c then 3 else 0)
  else if ch.sweep.isSome then 0
  else if ripe s c k ch.waiting && staggerOk s c then 2
  else if ch.periodicDue then 1
  else 0

/-- R218, R225, R230, R233, R235: a sweep starts at T_k. -/
def State.sweepStart (s : State) (c k trigger : Nat) : State :=
  let v := s.view
  let w := max 1 (v.nat (K.darnBandColumns c))
  let count := sweepLength v c - 1 + v.nat (K.darnPostponeSlack c)
  let ch := s.chan c
  let serve := ripe s c k ch.waiting || ripe s c k ch.pendingReq
  let ch := { ch with sweep := some { b := 0, columns := w, count := count, recovery := k + count, trigger := trigger, start := k },
                      spoiled := false, periodicDue := false,
                      waiting := if serve then none else ch.waiting, pendingReq := if serve then none else ch.pendingReq }
  let s := if serve && trigger != 2 then s.bump (K.darnDarnCoalesced c) else s
  let s := s.setChan c ch
  let s := ((s.setN (K.darnLastTrigger c) trigger).setN (K.darnRecoveryCount c) count).set (K.darnSweepStartTime c)
    (time80 (boundaryNs v c k))
  s.raise { src := 167 + 8 * c, unit := c }

/-- R218 to R235 at T_k for an encoding channel, before its picture record is made; `first` says that a coded video sequence starts. -/
def State.sweepBoundary (s : State) (c k : Nat) (first : Bool) : State :=
  let s := s.sweepOn c k
  let ch := s.chan c
  let due := if effectivePeriod s.view c = 0 then ch.sweep.isNone else ch.periodicDue || periodicAt s.view c k
  let free := ch.sweep.isNone && ch.waiting.isNone
  let s := s.setChan c { ch with periodicDue := due, waiting := if free then ch.pendingReq else ch.waiting,
                                 pendingReq := if free then none else ch.pendingReq }
  let t := sweepTrigger s c k first
  let s := if t != 0 then s.sweepStart c k t
    else if free && ch.pendingReq.isSome then s.raise { src := 167 + 8 * c, unit := c } else s
  match (s.chan c).sweep with
  | some w =>
    if w.recovery = k then
      (State.setChan (s.bump (K.darnSweepsCompleted c)) c { s.chan c with lastRecovery := some k }).raise { src := 167 + 8 * c, unit := c }
    else s
  | none => s

/-- R218, R220, R226, R228: the part of picture k's record that the sweep gives. -/
def sweepPic (s : State) (c k : Nat) (first : Bool) (p : PicSt) : PicSt :=
  let ch := s.chan c
  let n := ctuCols s.view c
  let wp := picW s.view c
  match ch.sweep with
  | some w =>
    if w.recovering then { p with edge := wp, recoveryCount := w.count }
    else
      let e := min (64 * (w.b + w.columns)) wp
      let vb := if s.nat (K.loomCodec c) = 1 && decide (e < wp) then some (64 * min (w.b + w.columns) n) else none
      { p with band := some w.b, columns := w.columns, edge := e, sweepFirst := w.start == k, recoveryCount := w.count, boundary := vb,
               forced := first || w.start == k || decide (s.nat (K.darnPostponeSlack c) ≤ w.postponed) }
  | none => { p with edge := if ch.spoiled then 0 else wp }

/-- R243, R266: BandColumn and CanvasBandColumn of the last picture. -/
def State.showBand (s : State) (c : Nat) (p : PicSt) : State :=
  let s := s.setN (K.darnBandColumn c) (p.band.getD 0xFF)
  let cb := match p.band with
    | some b => if s.nat (K.reedSeamCanvas c) = 0 then 0xFFFF else s.nat (K.reedCanvasX c) / 64 + b
    | none => 0xFFFF
  (s.setN (K.reedCanvasBandColumn c) cb).showSweep c

end Sys2Proof.Machine
end

