-- ==== Sys2Proof/Machine/Qual.lean ====
section
/-!
DEFINITION. Sys2Proof/Machine/Qual.lean: qualification encodes (R237 to R241, R245).
-/

namespace Sys2Proof.Machine

/-- R239: the bound of a qualification, ns. -/
def qualBound (joint : Bool) : Nat := if joint then 1500000 else 17500000

/-- R237: a loom begins a qualification; `again` says that it is the immediate requalification of R240. -/
def State.startQual (s : State) (l : Nat) (joint again : Bool) : State :=
  (s.setLoom l { s.loom l with qualSince := some s.clk.ticks, joint := joint, second := again, row := none }).loomState l 3

/-- R237: the joint qualification of all looms at power-up. -/
def State.startJoint (s : State) : State := ((List.range 16).foldl (fun s l => s.startQual l true false) s).showLooms

/-- R237: the point Qualified of R412 is reached when no loom qualifies any more. -/
def State.qualPoint (s : State) : State :=
  if s.boot.dramTrained && !s.boot.qualified && (List.range 16).all (fun l => s.nat (K.loomGLoomState l) != 3) then
    State.follow { s with boot := { s.boot with qualified := true } }
  else s

/-- The end of a loom's qualification as its objects show it (R243). -/
def State.qualShow (s : State) (l result : Nat) : State :=
  let s := { s with video := { s.video with qualMask := setBit s.video.qualMask l false } }
  ((s.setN (K.qualQualResult l) result).set (K.qualQualTime l) (time80 (nowNs s))).setN K.qualQualifyMask s.video.qualMask

/-- R240: a loom has passed: it becomes Spare, or takes up its position again at the next boundary of its channel (R179). -/
def State.qualPass (s : State) (l result : Nat) : State :=
  let s := s.qualShow l result
  let lm := s.loom l
  let s := s.setLoom l { lm with qualSince := none, second := false, laneFault := 0, runCount := (lm.runCount + 1) % 256 }
  let mine := (List.range 16).filter fun c => (s.chan c).positions.any fun p => p.loom == l && p.stopped.isSome
  let s := mine.foldl (fun s c =>
    let ch := s.chan c
    s.setChan c { ch with positions := ch.positions.map fun p => if p.loom = l then { p with resume := true } else p }) s
  s.loomState l (if mine.isEmpty then 0 else 1)

/-- R240: a loom has failed: the first time it is qualified again at once in single mode, the second time it is quarantined. -/
def State.qualFail (s : State) (l : Nat) : State :=
  let again := (s.loom l).second
  let asked := bit s.video.qualMask l
  let s := s.qualShow l 2
  let lm := s.loom l
  let s := s.setLoom l { lm with qualSince := none, runCount := (lm.runCount + 1) % 256 }
  if again then (s.setLoom l { s.loom l with second := false }).loomState l 4
  else
    let s := s.setN (K.qualQualFailCount l) ((s.nat (K.qualQualFailCount l) + 1) % 65536)
    let s := { s with video := { s.video with qualMask := setBit s.video.qualMask l asked } }
    (s.setN K.qualQualifyMask s.video.qualMask).startQual l false true

/-- R240, R437: a qualifying loom is frozen. -/
def State.qualAbandon (s : State) (l : Nat) : State :=
  if (s.loom l).qualSince.isNone then s
  else
    let s := s.qualShow l 4
    (s.setLoom l { s.loom l with qualSince := none, second := false }).raise { src := 612, unit := l }

/-- R239, R240: one loom's run in single mode ends with its mask of tiles that differ. -/
def State.qualSingle (s : State) (l tiles : Nat) : State :=
  let second := (s.loom l).second
  let s := s.setLoom l { s.loom l with mismatch := tiles % 65536 }
  let ok := tiles % 65536 == 0
  let s := if ok then s.qualPass l 1 else s.qualFail l
  s.raise { src := 612, unit := l, sev := if !ok && second then 3 else 0 }

/-- QUALIFICATION_DONE (R237 to R240): a qualification ends: the joint one for the looms that run it, or single ones, each loom with
its tiles that differ. -/
def execQualificationDone (looms : Nat) (tiles : List Nat) (shaOk : Bool) (s : State) : Result := whenClocked s <|
  let runs := (List.range 16).filter fun l => bit looms l && (s.loom l).qualSince.isSome && s.nat (K.loomGLoomState l) == 3
  let joint := runs.filter fun l => (s.loom l).joint
  let single := runs.filter fun l => !(s.loom l).joint
  let bad (l : Nat) : Bool := bit (tiles.getD l 0) l
  let allOk := joint.all fun l => !bad l
  let s := if joint.isEmpty then s
    else
      let s := joint.foldl (fun s l =>
        let s := s.setLoom l { s.loom l with mismatch := if bad l then 2 ^ l else 0 }
        if bad l then s.qualFail l else s.qualPass l (if allOk && !shaOk then 3 else 1)) s
      s.raise { src := 612, sev := if allOk && !shaOk then 3 else 0 }
  let s := single.foldl (fun s l => s.qualSingle l (tiles.getD l 0)) s
  .next (s.showLooms.qualPoint.follow)

/-- QUALIFICATION_TIMEOUT (R239, R240): a loom has not finished within twice its bound and fails. -/
def execQualificationTimeout (loom : LoomId) (s : State) : Result := whenClocked s <|
  let l : Nat := loom
  let lm := s.loom l
  match lm.qualSince with
  | none => .next s
  | some t =>
    if !passed s t (2 * qualBound lm.joint) then .next s
    else
      let s' := (s.qualFail l).raise { src := 612, unit := l, sev := if lm.second then 3 else 0 }
      .next (s'.showLooms.qualPoint.follow)

/-- R241: a QualifyMask write, with its status. -/
def State.qualifyAsk (s : State) (mask : Nat) : State × Nat :=
  let ls := (List.range 16).filter (bit mask)
  if s.video.qualMask != 0 then (s, stBusy)
  else if ls.any (fun l => let st := s.nat (K.loomGLoomState l); st == 1 || st == 2 || st == 3) then (s, stInconsistent)
  else
    let s := { s with video := { s.video with qualMask := mask % 65536 } }
    ((ls.foldl (fun s l => s.startQual l false false) (s.setN K.qualQualifyMask (mask % 65536))).showLooms, 0)

end Sys2Proof.Machine
end

