-- ==== Sys2Proof/Machine/Seam.lean ====
section
/-!
DEFINITION. Sys2Proof/Machine/Seam.lean: the chain and seamed canvases (R247 to R269).
-/

namespace Sys2Proof.Machine

/-! ## The chain ports -/

/-- A chain port, 0 upstream and 1 downstream. -/
def State.chainPort (s : State) (side : Nat) : ChainPortSt := if side = 0 then s.net.chain.upPort else s.net.chain.downPort
/-- A chain port set. -/
def State.setChainPort (s : State) (side : Nat) (x : ChainPortSt) : State :=
  let c := s.net.chain
  { s with net := { s.net with chain := if side = 0 then { c with upPort := x } else { c with downPort := x } } }

/-- R247, R268: the two lanes of a chain port, 0 upstream and 1 downstream; none where UpLanes or DownLanes names no lane. -/
def chainLanes (v : View) (side : Nat) : List Nat :=
  let w := v.nat (if side = 0 then K.chainUpLanes else K.chainDownLanes)
  [w / 256 % 256, w % 256].filter fun n => decide (n < 32)

/-- R356: whether a lane of a chain port is in Soak, so that a segment waits for it to wake. -/
def portSoaks (s : State) (side : Nat) : Bool := (chainLanes s.view side).any fun n => (s.lane n).mode == .soak

/-- R248, R249: the position that a view of the chain gives, the length, and whether ChainFault is raised. -/
def derivePosition (s : State) (w : ChainView) : Nat × Bool × Bool :=
  let ch := s.net.chain
  match s.nat K.chainChainMode with
  | 1 =>
    let p := match w.upstream with | none => 0 | some u => u + 1
    if 16 ≤ p then (0, true, false) else (p, false, false)
  | 2 =>
    let links := w.upUp && w.downUp
    if ch.whole && !links then (ch.position, false, true)
    else if w.heads = 1 then ((if s.flag K.chainChainHead then 0 else w.ringPosition) % 16, false, links)
    else (0, true, ch.whole && !links)
  | _ => (0, false, false)

/-- CHAIN_POSITION_DERIVE (R248, R249): chain positions are derived again after a chain link change. -/
def execChainPositionDerive (view : ChainView) (s : State) : Result := whenClocked s <|
  let (p, fault, whole) := derivePosition s view
  let ch := s.net.chain
  let changed := p != ch.position
  let s := { s with net := { s.net with chain := { ch with position := p, fault := fault, whole := whole, length := max 1 view.length } } }
  let s := (s.setN K.fastChainPosition p).setN K.chainChainLength (max 1 (min 16 view.length))
  let s := if fault then s.bump K.chainChainFaultCount else s
  .next (if changed || fault then s.raise { src := 613 } else s)

/-- CHAIN_SEGMENT_SEND (R250): the chain engine sends the next segment of at most 256 bytes, by strict priority of the classes; a
message whose last segment is sent has left, and its descriptor goes to the next that waits (R25). -/
def execChainSegmentSend (side : ChainPort) (s : State) : Result := whenClocked s <|
  let d : Nat := side
  let p := s.chainPort d
  if !p.up || s.isFrozen 35 || portSoaks s d then .next s
  else
    match [1, 2, 3, 4].filterMap (fun cls => p.queue.find? (·.cls == cls)) with
    | [] => .next s
    | m :: _ =>
      let sent := m.sent + 256
      let before := p.queue.takeWhile (fun x => x != m)
      let after := (p.queue.dropWhile (fun x => x != m)).drop 1
      if sent < m.bytes.length then .next (s.setChainPort d { p with queue := before ++ ({ m with sent := sent } :: after) })
      else
        let s := (s.setChainPort d (ChainPortSt.takeWaiting { p with queue := before ++ after, idleSince := s.clk.ticks })).emit (.chain d m.cls m.bytes)
        .next (if m.cls = 4 then s.count 737 1 else s)

/-! ## Seam messages (R256) -/

/-- A seam message as read. -/
structure SeamMsg where
  kind : Nat
  canvas : Nat
  band : Nat
  fromLeft : Bool
  pic : Nat
  index : Nat
  payload : Bytes
  deriving DecidableEq, Repr

/-- R256: the fields of a seam message and whether its length and CRC hold. -/
def parseSeam (b : Bytes) : Option SeamMsg :=
  match b with
  | k :: c :: n :: f :: p0 :: p1 :: i0 :: i1 :: l0 :: l1 :: r0 :: r1 :: c0 :: c1 :: c2 :: c3 :: pay =>
    let head := [k, c, n, f, p0, p1, i0, i1, l0, l1, r0, r1]
    if ofBeBytes [l0, l1] = pay.length && ofBeBytes [c0, c1, c2, c3] = crc32c (head ++ pay) then
      some { kind := k.toNat, canvas := c.toNat, band := n.toNat, fromLeft := bit f.toNat 0, pic := ofBeBytes [p0, p1],
             index := ofBeBytes [i0, i1], payload := pay }
    else none
  | _ => none

/-- R256: the payload length of a kind. -/
def seamLength (kind : Nat) : Nat := [0, 160, 16, 8, 40].getD kind 0

/-- The channels that have a side on a chain port, with the side. -/
def sidesOn (s : State) (d : Nat) : List (Nat × Bool) :=
  ((List.range 16).map fun c => [true, false].filterMap fun l => if sidePort s c l = d + 1 then some (c, l) else none).flatten

/-- R252, R259: the channel and the side that a message belongs to. -/
def seamTarget (s : State) (d : Nat) (m : SeamMsg) : Option (Nat × Bool) :=
  (sidesOn s d).find? fun (c, l) =>
    s.nat (K.reedSeamCanvas c) == m.canvas && l == m.fromLeft
      && (if l then m.band + 1 == s.nat (K.reedBandIndex c) else m.band == s.nat (K.reedBandIndex c) + 1)

/-- What a received seam message comes to. -/
inductive SeamIn where
  /-- R417: dropped without count -/
  | early
  | bad
  | ok (c : Nat) (left : Bool) (m : SeamMsg)
  deriving DecidableEq, Repr

/-- R259, R265, R417: a seam message of an expected kind is checked. -/
def seamCheck (s : State) (d kind : Nat) (b : Bytes) : SeamIn :=
  let armed := (sidesOn s d).any fun e => (s.chan e.1).encoding
  if !armed then .early
  else
    match parseSeam b with
    | none => .bad
    | some m =>
      if m.kind != kind || m.payload.length != seamLength kind then .bad
      else match seamTarget s d m with
        | some (c, l) => if (s.chan c).encoding then .ok c l m else .early
        | none => .bad

/-- R266: a malformed or foreign seam message is dropped and counted. -/
def State.seamBad (s : State) : State := s.bump K.chainSeamDroppedMalformed

/-- The picture whose count modulo 65,536 a message carries: the present one, the one before or the one after. -/
def seamPicture (s : State) (c pic : Nat) : Option Nat :=
  let k := s.pic c
  [k, k + 1, k - 1].find? fun x => x % 65536 == pic

/-- STRIP_RECEIVED (R259): a strip line is stored if it arrives within its window; a bad one is dropped and counted. -/
def execStripReceived (side : ChainPort) (msg : Bytes) (s : State) : Result := whenClocked s <|
  match seamCheck s side 1 msg with
  | .early => .next s
  | .bad =>
    match (sidesOn s side).head? with
    | some (c, l) =>
      let s := s.seamBad.bump (K.reedStripLostCount c)
      .next (s.setSide c l { s.side c l with dropped := (s.side c l).dropped + 1 })
    | none => .next s.seamBad
  | .ok c l m =>
    if s.nat (sideKey c l) != 3 then .next s
    else
      match seamPicture s c m.pic with
      | none => .next s
      | some k =>
        let li := rowLine s.view c
        let at_ : Rat := boundaryTime s.view c k + q m.index * li
        if decide (at_ - 3 * li ≤ nowExact s) && decide (nowExact s ≤ at_ + 3 * li) then
          .next (s.setSide c l { s.side c l with strips := (s.side c l).strips ++ [{ pic := m.pic, line := m.index, data := m.payload }] })
        else .next s

/-- ROW_QP_RECORD_RECEIVED (R258, R261): a RowQp record of an Active side is stored for bounding q_row. -/
def execRowQpRecordReceived (side : ChainPort) (msg : Bytes) (s : State) : Result := whenClocked s <|
  match seamCheck s side 2 msg with
  | .early => .next s
  | .bad => .next s.seamBad
  | .ok c l m =>
    if s.nat (sideKey c l) != 3 then .next s
    else
      let i8 (i : Nat) : Int := (m.payload.getD i 0).toInt
      let r : QpRec := { pic := m.pic, row := m.index, qpRow := i8 0, edgeQp := i8 1, hold := bit (m.payload.getD 2 0).toNat 1 }
      let keep := (s.side c l).qps.filter fun x => (x.pic == m.pic || x.pic == (m.pic + 65535) % 65536) && !(x.pic == m.pic && x.row == m.index)
      .next (s.setSide c l { s.side c l with qps := keep ++ [r] })

/-- BAND_RECORD_RECEIVED (R258): a Band record of an Active side is kept. -/
def execBandRecordReceived (side : ChainPort) (msg : Bytes) (s : State) : Result := whenClocked s <|
  match seamCheck s side 3 msg with
  | .early => .next s
  | .bad => .next s.seamBad
  | .ok c l m => if s.nat (sideKey c l) != 3 then .next s else .next (s.setSide c l { s.side c l with band := m.payload })

/-! ## Canvas records (R253, R264) -/

/-- R258: the payload of channel c's Canvas record. -/
def canvasRecord (v : View) (c : Nat) : Bytes :=
  beBytes 4 (v.nat (K.reedRateNum c)) ++ beBytes 4 (v.nat (K.reedRateDen c)) ++ beBytes 4 (v.nat (K.reedReadPhaseNs c))
    ++ beBytes 2 (v.nat (K.reedHeight c)) ++ beBytes 2 (v.nat (K.reedOutHeight c))
    ++ [BitVec.ofNat 8 (v.nat (K.reedRotation c)), BitVec.ofNat 8 (v.nat (K.reedBandIndex c)), BitVec.ofNat 8 (v.nat (K.reedBandCount c)),
        BitVec.ofNat 8 (v.nat (K.darnBandColumns c))]
    ++ beBytes 4 (v.nat (K.reedCanvasX c)) ++ beBytes 2 (canvasW v c)
    ++ [BitVec.ofNat 8 (v.nat (K.rateLatencyRows c)), BitVec.ofNat 8 (v.nat (K.darnPostponeSlack c))]
    ++ beBytes 2 (effectivePeriod v c) ++ beBytes 2 (v.nat (K.reedSeamRefreshOffset c))
    ++ beBytes 4 (v.nat (K.reedCanvasWidth c)) ++ beBytes 4 (v.nat (K.reedSourceCanvasWidth c))

/-- R253: the MismatchFlags that a neighbour's record gives against a channel's own. -/
def canvasFlags (v : View) (c : Nat) (left : Bool) (r : Bytes) : Nat :=
  let own := canvasRecord v c
  let f (b : Bytes) (o n : Nat) : Nat := ofBeBytes ((b.drop o).take n)
  let differs (o n : Nat) : Bool := f own o n != f r o n
  let raster := differs 0 4 || differs 4 4 || differs 8 4 || differs 12 2 || differs 14 2 || differs 16 1 || differs 32 4 || differs 36 4
  let adjacent :=
    if left then f r 17 1 + 1 == f own 17 1 && f r 20 4 + f r 24 2 == f own 20 4
    else f r 17 1 == f own 17 1 + 1 && f own 20 4 + f own 24 2 == f r 20 4
  b2n raster + 2 * b2n (!adjacent) + 4 * b2n (differs 26 1) + 8 * b2n (differs 19 1) + 16 * b2n (differs 27 1)
    + 32 * b2n (differs 28 2 || differs 30 2)

/-- R266: MismatchFlags of both sides together; a change is raised. -/
def State.showMismatch (s : State) (c : Nat) : State :=
  let m := (s.side c true).flags ||| (s.side c false).flags
  if s.nat (K.reedMismatchFlags c) = m then s else (s.setN (K.reedMismatchFlags c) m).raise { src := 615 }

/-- R264: a side's state changes; records and strips of a side that leaves Active are discarded. -/
def State.sideState (s : State) (c : Nat) (left : Bool) (st : Nat) : State :=
  if s.nat (sideKey c left) = st then s
  else
    let s := s.setN (sideKey c left) st
    let s := if st = 3 then s else s.setSide c left { s.side c left with strips := [], qps := [], band := [], dropped := 0 }
    s.raise { src := 614 }

/-- CANVAS_RECORD_RECEIVED (R253, R264): a Canvas record is compared; the side becomes Mismatched, or Active after two in a row. -/
def execCanvasRecordReceived (side : ChainPort) (msg : Bytes) (s : State) : Result := whenClocked s <|
  match seamCheck s side 4 msg with
  | .early => .next s
  | .bad => .next s.seamBad
  | .ok c l m =>
    let fl := canvasFlags s.view c l m.payload
    let sd := s.side c l
    if fl % 4 != 0 then
      let s := s.setSide c l { sd with flags := fl, lastCanvas := s.clk.ticks, matched := 0, lastPass := none, rising := false }
      .next ((s.sideState c l 2).showMismatch c)
    else
      let n := if sd.lastPass = some ((m.pic + 65535) % 65536) then sd.matched + 1 else 1
      let s := s.setSide c l { sd with flags := fl, lastCanvas := s.clk.ticks, matched := n, lastPass := some m.pic,
                                       rising := sd.rising || decide (2 ≤ n) }
      .next (s.showMismatch c)

/-- R264: what makes a side Absent: its port's weft link has been down for 10 µs, or no Canvas record has come for three picture periods. -/
def sideLost (s : State) (c : Nat) (left : Bool) : Bool :=
  let p := s.chainPort (sidePort s c left - 1)
  (!p.up && passed s p.idleSince 10000) || passed s (s.side c left).lastCanvas (floorN (3 * pictureNs s.view c))

/-- SEAM_SIDE_ABSENT (R264): a side whose neighbour is lost becomes Absent. -/
def execSeamSideAbsent (chan : Chan) (left : Bool) (s : State) : Result := whenClocked s <|
  let c : Nat := chan
  let p := sidePort s c left
  let sd := s.side c left
  if p = 0 || s.nat (sideKey c left) ≤ 1 || !sideLost s c left then .next s
  else
    let s := s.setSide c left { sd with matched := 0, lastPass := none, rising := false }
    .next ((s.set (K.reedLastNeighbourLoss c) (time80 (nowNs s))).sideState c left 1)

/-! ## At a picture boundary -/

/-- R257 to R264 at T_k for channel c: sides are Off or Absent as configured and rise to Active. -/
def State.seamBoundary (s : State) (c k : Nat) : State :=
  let v := s.view
  let s := [true, false].foldl (fun s l =>
    if sidePort s c l = 0 then
      (if s.nat (sideKey c l) = 0 then s else (s.setSide c l {}).sideState c l 0)
    else if s.nat (sideKey c l) = 0 then (s.setSide c l { s.side c l with lastCanvas := s.clk.ticks }).sideState c l 1
    else if (s.side c l).rising then (s.setSide c l { s.side c l with rising := false }).sideState c l 3
    else s) s
  let h := s.nat (K.reedHeight c)
  let last := if k = 0 then [] else (List.range h).drop (h - 3)
  let s := if s.nat (K.reedSeamCanvas c) = 0 then s
    else last.foldl (fun s l => s.useStrips c (k - 1) l) s
  let s := [true, false].foldl (fun s l =>
    if sidePort s c l = 0 then s else s.setSide c l { s.side c l with dropped := 0, strips := (s.side c l).strips.filter fun x => x.pic == k % 65536 }) s
  let n := if s.nat (K.reedSeamCanvas c) = 0 then s.nat (K.darnRefreshPeriod c) else effectivePeriod v c
  (if s.nat (K.reedEffectivePeriod c) = n then s else s.setN (K.reedEffectivePeriod c) n).showMismatch c

/-- R258: the Band and Canvas records of T_k go to each neighbour. -/
def State.sendRecords (s : State) (c k : Nat) : State :=
  let band := [BitVec.ofNat 8 (s.nat (K.darnSweepState c)), BitVec.ofNat 8 (s.nat (K.darnBandColumn c)),
      BitVec.ofNat 8 (s.nat (K.darnPostponedThisSweep c)), BitVec.ofNat 8 (s.nat (K.darnLastTrigger c))]
    ++ beBytes 2 (s.nat (K.reedCanvasBandColumn c)) ++ [0, 0]
  let rec_ := canvasRecord s.view c
  [true, false].foldl (fun s l => (s.sendSeam c l 2 3 k 0 band).sendSeam c l 2 4 k 0 rec_) s

end Sys2Proof.Machine
end

