-- ==== Sys2Proof/Machine/Mangle.lean ====
section
/-!
DEFINITION. Sys2Proof/Machine/Mangle.lean: the Mangle's transmit side (R270 to R289): gates, lists and their changeover, slots, the
choice of the next frame, latency breaches (R212, R213), shapers and policer refills.
-/

namespace Sys2Proof.Machine

/-! ## Gate lists (R276, R277) -/

/-- Time since the start of the present cycle of a list at presented time t. -/
def cyclePos (l : GateList) (t : Nat) : Nat := (((t : Int) - (l.base : Int)) % (max 1 l.cycle : Nat)).toNat

/-- The number of the entry in force at a position, and the time from its start. -/
def entryAt : List GateEntry → Nat → Nat → Nat × Nat
  | [], i, pos => (i, pos)
  | [_], i, pos => (i, pos)
  | e :: t, i, pos => if pos < e.interval then (i, pos) else entryAt t (i + 1) (pos - e.interval)

/-- R276: the entries from the one in force at t onwards, cyclically, and the time left in the first. -/
def entriesFrom (l : GateList) (t : Nat) : List GateEntry × Nat :=
  let (i, off) := entryAt l.entries 0 (cyclePos l t)
  (l.entries.drop i ++ l.entries.take i, ((l.entries.getD i { interval := 0, gates := 0xFF, rows := 0 }).interval) - off)

/-- Whether a gate is open in an entry: class t, or for class 7 channel c's row gate. -/
def gateOpen (e : GateEntry) (cls c : Nat) : Bool := bit e.gates cls && (cls != 7 || bit e.rows c)

/-- R273: how long a gate stays open from t on: 0 while it is closed, none where it never closes. -/
def openFor (l : GateList) (t cls c : Nat) : Option Nat :=
  let (es, left) := entriesFrom l t
  if es.all (fun e => gateOpen e cls c) then none
  else
    match es with
    | [] => none
    | e :: rest =>
      if !gateOpen e cls c then some 0
      else some (left + (((rest ++ [e]).takeWhile fun x => gateOpen x cls c).map (·.interval)).sum)

/-- R277: the first cycle boundary of a list at or after a time. -/
def boundaryAfter (l : GateList) (x : Nat) : Nat :=
  let r := cyclePos l x
  if r = 0 then x else x + (max 1 l.cycle - r)

/-- R278: whether a channel has a row share in a list. -/
def hasShare (l : GateList) (c : Nat) : Bool := l.entries.any fun e => gateOpen e 7 c

/-- R279: the phase lag in force of channel c, as PhaseLagNs reports it. -/
def lagNs (s : State) (c : Nat) : Nat := ceilN (phaseLag s.view (fun p => (s.port p).list) c)

/-- R215, R297: the objects that the list in force of a port decides. -/
def State.showPort (s : State) (p : Nat) : State :=
  let s := s.setN (K.portPhaseCount p) (portPhases s.view p)
  (List.range 16).foldl (fun s c =>
    if encoded s.view c && (channelPorts s.view c).contains p then
      let lag := lagNs s c
      (s.setN (K.ratePhaseLagNs c) lag).setN (K.rateRowCapacityBits c) (slotCap s.view c (slotRate s.view c) (q lag))
    else s) s

/-! ## Latency breaches (R212, R213) -/

/-- R212, R213: row (c, k, j) is in breach; a row counts once. -/
def State.breach (s : State) (c k j cause : Nat) : State :=
  match s.findRow c k j with
  | none => s
  | some r =>
    if r.breach != 0 then s
    else
      let s := s.setRow { r with breach := cause }
      let s := ((s.bump (K.rateLatencyBreachCount c)).count (192 + 8 * c + 6) 1).setN (K.rateLastBreachCause c) cause
      let s := s.set (K.rateLastBreachTime c) (time80 (floorN (slotOpen s c k j)))
      match (s.chan c).picSt k with
      | some p =>
        if p.breached then s
        else
          let s := s.setChan c { (s.chan c).setPic { p with breached := true } with breachPic := some k, breachOpen := true }
          s.raise { src := 165 + 8 * c, unit := c }
      | none => s

/-- R213: a picture later than the last breached one, all of whose slots have closed without a breach, ends the run of breaches. -/
def State.picClosed (s : State) (c k : Nat) : State :=
  match (s.chan c).picSt k with
  | some p =>
    let p := { p with closed := p.closed + 1 }
    let s := s.setChan c ((s.chan c).setPic p)
    if p.closed = p.rows && !p.breached && (s.chan c).breachOpen && ((s.chan c).breachPic.any fun b => decide (b < k)) then
      (s.setChan c { s.chan c with breachOpen := false }).raise { src := 165 + 8 * c, unit := c }
    else s
  | none => s

/-! ## Rows on ports -/

/-- A row's frames are taken off a port, and it is not sent there any more. -/
def State.blockRow (s : State) (r : RowSt) (p : Nat) : State :=
  let ps := s.port p
  let s := s.setPort p { ps with rowFrames := ps.rowFrames.filter fun f => !(f.chan == r.chan && f.pic == r.pic && f.row == r.row) }
  match s.findRow r.chan r.pic r.row with
  | some r => s.setRow { r with blocked := setBit r.blocked p true }
  | none => s

/-- Bytes of a row that have left on every port that still carries it. -/
def sentEverywhere (v : View) (r : RowSt) : Nat :=
  match (channelPorts v r.chan).filter fun p => !bit r.blocked p with
  | [] => r.bytes
  | a :: t => t.foldl (fun m p => min m (AMap.getD r.sent p 0)) (AMap.getD r.sent a 0)

/-- Whether all of a row has left on every port that still carries it. -/
def rowSent (v : View) (r : RowSt) : Bool :=
  r.lastStaged && ((channelPorts v r.chan).isEmpty || decide (r.bytes ≤ sentEverywhere v r))

/-- R189, R284: a closed row that has wholly left is taken off; its bytes leave staging. -/
def State.retireRow (s : State) (c k j : Nat) : State :=
  match s.findRow c k j with
  | none => s
  | some r =>
    let v := s.picView c k
    if !r.closed || !rowSent v r then s
    else
      let held := if r.kind = .hold then 0 else if (channelPorts v c).isEmpty then r.bytes else r.bytes - sentEverywhere v r
      State.dropRow { s with video := { s.video with stagingBytes := s.video.stagingBytes - held } } c k j

/-- R284: the next hop of a destination on a port, none for a multicast one. -/
def nextHop (v : View) (p : Nat) (dst : Bytes) : Option Bytes :=
  if isMapped dst then
    let d := ofBeBytes (dst.drop 12)
    if 0xE0000000 ≤ d then none
    else
      let own := v.nat (K.portIpv4Address p)
      let n := 2 ^ (32 - v.nat (K.portIpv4PrefixLength p))
      let gw := v.nat (K.portIpv4Gateway p)
      some (if d / n = own / n || gw = 0 then dst else dst.take 12 ++ beBytes 4 gw)
  else if (dst.getD 0 0) = 0xFF then none
  else some dst

/-- R284: what keeps a row off a port at its opening: 0 nothing, else the cause of the breach. -/
def openBlock (s : State) (c pic leg p : Nat) : Nat :=
  let v := s.picView c pic
  let ps := s.port p
  let dst := v.oct (if leg = 0 then K.streamDestAddressA c else K.streamDestAddressB c)
  if s.isFrozen 31 then 4
  else if !hasShare ps.list c then 1
  else if !ps.linkUp || !v.flag (K.portPortEnable p) then 3
  else match nextHop v p dst with
    | some h => if ps.resolved.contains h then 0 else 4
    | none => 0

/-- R188: a row that no loom has made by its slot becomes a hold row. -/
def State.rowOrHold (s : State) (c pic row : Nat) : State :=
  match s.findRow c pic row with
  | some _ => s
  | none => s.holdRow c pic row { chan := c, pic := pic, row := row, kind := .hold }

/-- R189: a row's slot is noted as open, and the channel goes on to its next phase. -/
def State.slotNoted (s : State) (c pic row : Nat) : State :=
  let ch := s.chan c
  s.setChan c (match ch.picSt pic with
    | some p => { ch.setPic { p with opened := setBit p.opened row true } with nextPhase := (ch.nextPhase + 1) % max 1 p.m }
    | none => ch)

/-- R212: whether a step of presented time has passed over a slot's opening instant o. -/
def steppedOver (s : State) (o : Rat) : Bool :=
  decide ((s.time.stepFrom : Rat) < o) && decide (o ≤ (s.time.stepTo : Rat)) && decide (o + 100 < nowExact s)

/-- R278: a row held at a port by its gate. -/
def State.heldAt (s : State) (c pic row p : Nat) : State :=
  match s.findRow c pic row with
  | some r => s.setRow { r with heldPorts := setBit r.heldPorts p true }
  | none => s

/-- R275, R278: what a row meets at one of its ports as its slot opens: a port that cannot take it, a closed gate, or nothing. -/
def State.openPort (s : State) (c pic row leg : Nat) (r : RowSt) : State :=
  let p := legPort (s.picView c pic) c leg
  if 8 ≤ p then s
  else
    let why := openBlock s c pic leg p
    if why != 0 then
      let s := (s.blockRow r p).breach c pic row why
      if why = 1 then s.raise { src := 288 + 12 * p + 2, unit := p }
      else if why = 4 && !s.isFrozen 31 then s.raise { src := 288 + 12 * p + 9, unit := p } else s
    else if openFor (s.port p).list (nowNs s) 7 c = some 0 then
      ((s.heldAt c pic row p).breach c pic row 1).raise { src := 288 + 12 * p + 2, unit := p }
    else s

/-- R275, R278, R284: a row's slot opens at the row's ports, and the row's frames are built. -/
def State.openRowSlot (s : State) (c pic row : Nat) (r : RowSt) : State :=
  let s := s.setRow r
  let stepped := steppedOver s (slotOpen s c pic row) && !(channelPorts (s.picView c pic) c).isEmpty
  let s := if stepped then s.breach c pic row 2 else s
  (((s.openPort c pic row 0 r).openPort c pic row 1 r)).build c pic row

/-- ROW_SLOT_OPEN (R188, R189, R275, R278, R284): at O(k, j) the opening frame of the row is built; a row that no loom has started is
a hold row. -/
def execRowSlotOpen (chan : Chan) (pic row : Nat) (s : State) : Result := whenClocked s <|
  let c : Nat := chan
  match (s.chan c).picSt pic with
  | none => .next s
  | some p =>
    if s.videoStopped || decide (p.rows ≤ row) || bit p.opened row || decide (nowExact s < slotOpen s c pic row) then .next s
    else
      let t := (s.rowOrHold c pic row).slotNoted c pic row
      match t.findRow c pic row with
      | none => .next t
      | some r => .next (t.openRowSlot c pic row { r with opened := true, phase := ((s.rowOrHold c pic row).chan c).nextPhase })

/-- ROW_SLOT_CLOSE (R189, R212, R284): at Z(k, j) the row's slot closes; what has not left is a breach, and a row of a channel with no
port leaves staging. -/
def execRowSlotClose (chan : Chan) (pic row : Nat) (s : State) : Result := whenClocked s <|
  let c : Nat := chan
  match s.findRow c pic row with
  | none => .next s
  | some r =>
    if !r.opened || r.closed || s.videoStopped || decide (nowExact s < slotClose s c pic row) then .next s
    else
      let late := !(channelPorts (s.picView c pic) c).isEmpty && !rowSent (s.picView c pic) r
      let s := s.setRow { r with closed := true }
      let s := if late then s.breach c pic row 4 else s
      .next ((s.retireRow c pic row).picClosed c pic)

/-! ## The next frame (R273, R274) -/

/-- Bytes of a frame from its destination address to its FCS: the headers, the tag and the padding of R270. -/
def frameLength (f : TxFrame) : Nat :=
  let head := if f.tagged then 18 else 14
  max 64 (head + 4 + f.payload.length + (if f.ip = 4 then 28 else if f.ip = 6 then 48 else 0))

/-- The wire time of so many bytes at a rate in Mb/s, ns. -/
def wireNs (bytes rate : Nat) : Rat := q (bytes * 8 * 1000) / q (max 1 rate)

/-- R273: the next slot opening, later than now, of a row other than the given one on a port. -/
def nextOpening (s : State) (p : Nat) (own : Option (Nat × Nat × Nat)) : Option Rat :=
  let now := nowExact s
  (List.range 16).foldl (fun best c =>
    let ch := s.chan c
    if !ch.encoding then best
    else (ch.pics.filter fun x => (channelPorts (s.picView c x.pic) c).contains p).foldl (fun best x =>
      match (List.range x.rows).find? fun j => !bit x.opened j && own != some (c, x.pic, j) && decide (now < x.open0 + q j * x.gap) with
      | some j => some (match best with | some b => min b (x.open0 + q j * x.gap) | none => x.open0 + q j * x.gap)
      | none => best) best) none

/-- R273: whether a frame that starts now on a port fits its gate, the next slot and a pending changeover. -/
def fits (s : State) (p : Nat) (f : TxFrame) (c : Nat) (own : Option (Nat × Nat × Nat)) : Bool :=
  let ps := s.port p
  let now := nowExact s
  let stop := now + wireNs (frameLength f) ps.rate
  let gate := match openFor ps.list (nowNs s) f.cls c with
    | none => true
    | some n => decide (n != 0) && decide (stop ≤ q (nowNs s + n))
  let slot := match nextOpening s p own with
    | some o => decide (stop ≤ o)
    | none => true
  let chg := match ps.pending with
    | some x =>
      let b := boundaryAfter ps.list (max x.change (nowNs s))
      (match (entriesFrom x.list b).1 with
       | e :: _ => gateOpen e f.cls c || decide (stop ≤ q b)
       | [] => true)
    | none => true
  gate && slot && chg

/-- R274: the even-flow time of a built frame. -/
def evenFlow (s : State) (f : RowFrame) : Rat :=
  slotOpen s f.chan f.pic f.row + q (8 * f.upTo) / max (rateOf s f.chan f.pic) (1 / 1000000000)

/-- The frames of class 7 at the head of their rows. -/
def rowHeads (ps : PortSt) : List RowFrame :=
  ps.rowFrames.foldl (fun acc f =>
    if acc.any fun g => g.chan == f.chan && g.pic == f.pic && g.row == f.row then acc else acc ++ [f]) []

/-- R274: the earlier of two frames by even-flow time, the lower channel and then the lower phase first. -/
def flowFirst (s : State) (a b : RowFrame) : Bool :=
  let x := evenFlow s a
  let y := evenFlow s b
  decide (x < y) || (x == y && (decide (a.chan < b.chan) || (a.chan == b.chan && decide (a.phase ≤ b.phase))))

/-- The first of a list of frames in that order. -/
def firstFlow (s : State) (l : List RowFrame) : Option RowFrame :=
  l.foldl (fun best f => match best with | none => some f | some b => if flowFirst s b f then some b else some f) none

/-- R289: whether a class may send: unshaped, or with a credit that is not negative. -/
def mayShape (s : State) (p cls : Nat) : Bool :=
  s.nat (K.portShaperRateKbps p cls) == 0 || decide (0 ≤ AMap.getD (s.port p).credit cls 0)

/-- What the transmitter starts. -/
inductive TxPick where
  | none
  | row (f : RowFrame)
  | other (f : TxFrame)
  deriving DecidableEq, Repr

/-- R274: the first candidate that passes R273. -/
def pickFrame (s : State) (p : Nat) : TxPick :=
  let ps := s.port p
  let heads := (rowHeads ps).filter fun f => fits s p f.frame f.chan (some (f.chan, f.pic, f.row))
  let due := nowExact s + tMax s.view p
  match heads.find? (·.opening) with
  | some f => .row f
  | none =>
    match firstFlow s (heads.filter fun f => decide (evenFlow s f ≤ due)) with
    | some f => .row f
    | none =>
      match [6, 5, 4, 3, 2, 1, 0].findSome? fun cls =>
          match AMap.getD ps.queues cls [] with
          | f :: _ => if mayShape s p cls && fits s p f 0 none then some f else none
          | [] => none with
      | some f => .other f
      | none => match firstFlow s heads with | some f => .row f | none => .none

/-- R273, R477 GateWaits: a candidate frame whose gate is open and that does not fit waits; it is counted once. -/
def waits (s : State) (p : Nat) (f : TxFrame) (c : Nat) (own : Option (Nat × Nat × Nat)) : Bool :=
  !f.waited && openFor (s.port p).list (nowNs s) f.cls c != some 0 && !fits s p f c own

/-- R477 GateWaits: the frames at the heads of a port's queues that wait are counted. -/
def State.noteWaits (s : State) (p : Nat) : State :=
  let ps := s.port p
  let rows := (rowHeads ps).filter fun f => waits s p f.frame f.chan (some (f.chan, f.pic, f.row))
  let cls := (List.range 7).filter fun c => match AMap.getD ps.queues c [] with | f :: _ => mayShape s p c && waits s p f 0 none | [] => false
  if rows.isEmpty && cls.isEmpty then s
  else
    let mark (f : TxFrame) : TxFrame := { f with waited := true }
    let queues := cls.foldl (fun m c => AMap.upd m c [] fun q => match q with | f :: t => mark f :: t | [] => []) ps.queues
    let frames := ps.rowFrames.map fun g => if rows.contains g then { g with frame := mark g.frame } else g
    (s.setPort p { ps with queues := queues, rowFrames := frames }).count (384 + 12 * p + 11) (rows.length + cls.length)

/-- R307: the departure of a domain's newest Delay_Req or Pdelay_Req is timestamped on the domain's clock, with the port's egress
correction. -/
def State.stampRequest (s : State) (p : Nat) (f : TxFrame) : State :=
  match f.ptp with
  | none => s
  | some (d, seq) =>
    if (s.dom d).delaySeq = seq then
      s.setDom d { s.dom d with delayReq := some (seq, (domainNs s d : Int) + s.int (K.tcorrEgressCorrNs p)) }
    else s

/-- A frame goes onto the wire of a port. -/
def State.startFrame (s : State) (p : Nat) (f : TxFrame) : State :=
  let s := s.stampRequest p f
  let ps := s.port p
  let n := frameLength f
  let busy := ceilN (wireNs (n + 20) ps.rate * 6 / 25)
  let s := (s.setPort p { ps with txFrom := s.clk.ticks, busyUntil := s.clk.ticks + busy, sending := some f.cls }).emit (.frame { f with waited := false })
  (s.count (384 + 12 * p) 1).count (384 + 12 * p + 1) n

/-- R212: a row frame leaves: its row's bytes on this port, and a breach where it leaves late. -/
def State.rowFrameOut (s : State) (p : Nat) (f : RowFrame) : State :=
  let ps := s.port p
  let rest := ps.rowFrames.takeWhile (fun g => g != f) ++ (ps.rowFrames.dropWhile (fun g => g != f)).drop 1
  let s := s.setPort p { ps with rowFrames := rest }
  let s := (s.startFrame p f.frame).count (384 + 12 * p + 4) 1
  match s.findRow f.chan f.pic f.row with
  | none => s
  | some r =>
    let now := nowExact s
    let stop := now + wireNs (frameLength f.frame) ps.rate
    let late := (f.opening && decide (slotOpen s f.chan f.pic f.row + 100 < now)) || decide (slotClose s f.chan f.pic f.row ≤ stop)
    let cause := if bit r.heldPorts p then 1 else 4
    let v := s.picView f.chan f.pic
    let before := sentEverywhere v r
    let r := { r with sent := AMap.put r.sent p f.upTo }
    let freed := if r.kind = .hold then 0 else sentEverywhere v r - before
    let s := State.setRow { s with video := { s.video with stagingBytes := s.video.stagingBytes - freed } } r
    let s := if late then s.breach f.chan f.pic f.row cause else s
    (s.build f.chan f.pic f.row).retireRow f.chan f.pic f.row

/-- TX_FRAME_SELECT (R273, R274): the idle transmitter of a port starts the first candidate frame that fits. -/
def execTxFrameSelect (port : PortId) (s : State) : Result := whenClocked s <|
  let p : Nat := port
  let ps0 := s.port p
  if !ps0.linkUp || s.videoStopped || s.isFrozen 31 || decide (s.clk.ticks < ps0.busyUntil) then .next s
  else
    let s := s.noteWaits p
    let ps := s.port p
    match pickFrame s p with
    | .none => .next (s.setPort p { ps with sending := none })
    | .row f => .next (s.rowFrameOut p f)
    | .other f => .next (State.startFrame (s.setPort p (PortSt.takeWaiting { ps with queues := AMap.upd ps.queues f.cls [] (·.drop 1) })) p f)

/-! ## Gates, lists, refills -/

/-- GATE_ENTRY_CHANGE (R276): a gate list advances to the entry that covers the present instant. -/
def execGateEntryChange (port : PortId) (s : State) : Result := whenClocked s <|
  let p : Nat := port
  let ps := s.port p
  let (i, _) := entryAt ps.list.entries 0 (cyclePos ps.list (nowNs s))
  let cyc (t : Nat) : Int := ((t : Int) - (ps.list.base : Int)) / (max 1 ps.list.cycle : Nat)
  let n := (cyc (nowNs s) - cyc (ofTime80 (s.int (K.portLastChangeover p)))).toNat
  .next (s.setPort p { ps with entry := i, cycles := n % 2 ^ 32 })

/-- R278: what a changeover does to the rows that are open on a port. -/
def State.rowsAtChange (s : State) (p : Nat) : State :=
  s.video.rows.foldl (fun s r =>
    if r.opened && !bit r.blocked p && (channelPorts (s.picView r.chan r.pic) r.chan).contains p && decide (AMap.getD r.sent p 0 < max 1 r.bytes)
        && !hasShare (s.port p).list r.chan then
      ((s.blockRow r p).breach r.chan r.pic r.row 1).raise { src := 288 + 12 * p + 2, unit := p }
    else s) s

/-- GATE_LIST_CHANGEOVER (R277, R278, R517): a pending list takes effect at the first cycle boundary at or after X, with the objects
that are joined to it. -/
def execGateListChangeover (port : PortId) (s : State) : Result := whenClocked s <|
  let p : Nat := port
  let ps := s.port p
  match ps.pending with
  | none => .next s
  | some x =>
    let at_ := boundaryAfter ps.list x.change
    if nowNs s < at_ then .next s
    else
      let (i, _) := entryAt x.list.entries 0 (cyclePos x.list at_)
      let s := s.setPort p { ps with list := x.list, pending := none, listDone := ps.listNo, buffer := 1 - ps.buffer, entry := i, cycles := 0 }
      let s := (s.setN (K.portListInForce p) (b2n x.list.twill)).set (K.portLastChangeover p) (time80 at_)
      let s := s.applyEffects fun e => e.when_ == .changeover p
      let s := (s.rowsAtChange p).showPort p
      .next (s.raise { src := 288 + 12 * p + 1, unit := p })

/-- R289: the credit bounds of a class in bytes: the Twill values, or the derived ones rounded to nearest (log entry 12). -/
def hiCredit (v : View) (p cls : Nat) : Int :=
  if v.has (K.portHiCreditBytes p cls) then v.int (K.portHiCreditBytes p cls)
  else roundI (tMax v p * q (v.nat (K.portShaperRateKbps p cls)) / 8000000)
def loCredit (v : View) (p cls : Nat) : Int :=
  if v.has (K.portLoCreditBytes p cls) then v.int (K.portLoCreditBytes p cls)
  else
    let line := q (max 1 (portRateMbps v p) * 1000)
    roundI (-(q (v.nat (K.portMaxIpBytes p) + 42) * (1 - q (v.nat (K.portShaperRateKbps p cls)) / line)))

/-- R289: one refill step of a class's credit. -/
def creditStep (s : State) (p cls : Nat) : Int :=
  let v := s.view
  let ps := s.port p
  let rate := v.nat (K.portShaperRateKbps p cls)
  let c := AMap.getD ps.credit cls 0
  let from_ := max ps.txFrom (s.clk.ticks - 61)
  let on := if ps.sending = some cls then min ps.busyUntil s.clk.ticks - from_ else 0
  let queue := AMap.getD ps.queues cls []
  let next : Int :=
    if on != 0 then c - ((ps.rate * 1000 : Int) - rate) * on * 25
    else if !queue.isEmpty || decide (c < 0) then c + rate * 1536
    else if 0 < c then 0 else c
  clampInt (loCredit v p cls * 48000000) (hiCredit v p cls * 48000000) next

/-- SHAPER_REFILL (R289): every 256 ns the credits of the shaped classes are updated; changed shaper parameters apply now. -/
def execShaperRefill (port : PortId) (s : State) : Result := whenClocked s <|
  let p : Nat := port
  let n := nowNs s / 256
  if n ≤ (s.port p).refillAt then .next s
  else
    let s := s.applyEffects fun e => e.when_ == .refill p
    let cr := (List.range 7).foldl (fun m cls =>
      if s.nat (K.portShaperRateKbps p cls) = 0 then AMap.del m cls else AMap.put m cls (creditStep s p cls)) (s.port p).credit
    .next (s.setPort p { s.port p with credit := cr, refillAt := n })

/-- The key of an object of flow f: 0x5801 by its subindex, 0x5802 from 0x40. -/
def flowKey (f sub : Nat) : Nat := 2 ^ 24 + f * 256 + sub

/-- R300: an object of flow f in a store. -/
def flowVal (fu : Fuses) (m : AMap Val) (f sub : Nat) : Val :=
  (AMap.find? m (flowKey f sub)).getD (baseDefault fu (if sub < 0x40 then objKey 0x5801 sub else objKey 0x5802 (sub - 0x40)))
/-- A number of flow f in force. -/
def State.flow (s : State) (f sub : Nat) : Nat := (flowVal s.fuses s.objs f sub).toInt.toNat

/-- R292: one refill of a flow's buckets; full buckets are not listed. -/
def refillFlow (s : State) (f : Nat) (b : FlowSt) : Option FlowSt :=
  let cbs := s.flow f 9 * 1000000
  let pbs := s.flow f 11 * 1000000
  let tc := min cbs (b.tc + s.flow f 8 * 32)
  let tp := min pbs (b.tp + s.flow f 10 * 32)
  if tc = cbs && tp = pbs then none else some { tc := tc, tp := tp }

/-- POLICER_REFILL (R291, R292, R294): every 256 ns the policer buckets refill; changed policer parameters apply now. -/
def execPolicerRefill (s : State) : Result := whenClocked s <|
  let n := uptimeNs s / 256
  if n ≤ s.net.policerAt then .next s
  else
    let s := s.applyEffects fun e => e.when_ == .policer
    let flows := s.net.flows.filterMap fun e => (refillFlow s e.1 e.2).map fun b => (e.1, b)
    let s := { s with net := { s.net with flows := flows, policerAt := n } }
    let rate (p : Nat) : Nat := if s.boot.configCommitted then s.nat (K.portControlFramesPerSecond p) else 20000
    .next ((List.range 8).foldl (fun s p =>
      let ps := s.port p
      if ps.control = 256000000000 && ps.ptp = 64000000000 then s
      else s.setPort p { ps with control := min 256000000000 (ps.control + rate p * 256), ptp := min 64000000000 (ps.ptp + 4096 * 256) }) s)

/-- PORT_LINK_CHANGE (R270, R284, R301): a port's link goes up or down; rows that are under way on it stop there. -/
def execPortLinkChange (port : PortId) (up : Bool) (rate : Nat) (s : State) : Result := whenClocked s <|
  let p : Nat := port
  let ps := s.port p
  if up = ps.linkUp || (up && (!portUsable s.view p || rate != portRateMbps s.view p)) then .next s
  else
    let s := s.setPort p { ps with linkUp := up, rate := if up then rate else 0, sending := none,
                                   busyUntil := if up then s.clk.ticks else 0 }
    let s := (s.setN (K.portLinkUp p) (b2n up)).setN (K.portLineRateMbps p) (if up then rate else 0)
    let s := if up then s
      else s.video.rows.foldl (fun s r =>
        if r.opened && !bit r.blocked p && (channelPorts (s.picView r.chan r.pic) r.chan).contains p
            && !(r.lastStaged && decide (r.bytes ≤ AMap.getD r.sent p 0)) then
          ((s.blockRow r p).breach r.chan r.pic r.row 3).retireRow r.chan r.pic r.row
        else s) s
    .next (s.raise { src := 288 + 12 * p, unit := p })

/-- RTCP_SENDER_REPORT (R287): a phase stream sends its sender report, no earlier than 90 % of RtcpIntervalMs after the last. -/
def execRtcpSenderReport (chan : Chan) (phase : Nat) (s : State) : Result := whenClocked s <|
  let c : Nat := chan
  let v := s.view
  let ch := s.chan c
  let every := v.nat (K.streamRtcpIntervalMs c)
  let due := match AMap.find? ch.lastSr phase with | some t => passed s t (every * 900000) | none => true
  if !ch.encoding || every = 0 || decide (phases v c ≤ phase) || !due || s.videoStopped || (channelPorts v c).isEmpty then .next s
  else
    let now := nowNs s
    let ntp := (now / 1000000000 + 2208988800) % 2 ^ 32
    let frac := now % 1000000000 * 2 ^ 32 / 1000000000
    let body := [0x80, 200] ++ beBytes 2 6 ++ beBytes 4 (v.nat (K.streamSsrcBase c) + phase) ++ beBytes 4 ntp ++ beBytes 4 frac
      ++ beBytes 4 (now * 90000 / 1000000000) ++ beBytes 4 (AMap.getD ch.packets phase 0) ++ beBytes 4 (AMap.getD ch.octets phase 0)
    let s := s.setChan c { ch with lastSr := AMap.put ch.lastSr phase s.clk.ticks }
    .next ([0, 1].foldl (fun s leg =>
      let p := legPort v c leg
      if 8 ≤ p then s
      else s.sendFrame (udpFrame s p 6 (v.oct (if leg = 0 then K.streamDestAddressA c else K.streamDestAddressB c))
        (v.nat (K.streamDestUdpPort c) + 2 * phase + 1) (v.nat (K.streamSourceUdpPort c) + 2 * phase + 1) body)) s)

end Sys2Proof.Machine
end

