-- ==== Sys2Proof/Machine/Boundary.lean ====
section
/-!
DEFINITION. Sys2Proof/Machine/Boundary.lean: what a picture boundary does to a channel (R52, R88, R115, R157, R167, R178, R196, R208,
R218, R227, R264).
-/

namespace Sys2Proof.Machine

/-! ## Assignments -/

/-- R178, R184: a loom becomes InService when it takes a position, unless it is out of service. -/
def State.takeLoom (s : State) (l : Nat) : State := if s.nat (K.loomGLoomState l) = 0 then s.loomState l 1 else s

/-- R184: the looms that no channel holds any more become Spare. -/
def State.freeLooms (s : State) : State :=
  (List.range 16).foldl (fun s l =>
    if s.nat (K.loomGLoomState l) = 1 && !((List.range 16).any fun c => (s.chan c).positions.any (·.loom == l)) then s.loomState l 0 else s) s

/-- R157: the looms of channel c from this boundary on; a loom that stays at its position keeps its state there. -/
def State.assign (s : State) (c : Nat) (looms : List Nat) : State :=
  let ch := s.chan c
  let pos (x : Nat × Nat) : PosSt :=
    match ch.positions[x.2]? with
    | some p => if p.loom = x.1 then p else { loom := x.1 }
    | none => { loom := x.1 }
  let ps := looms.zipIdx.map pos
  let moved := ps.map (·.loom) != ch.positions.map (·.loom)
  let s := s.setChan c { ch with positions := ps, nextPositions := none }
  let s := (looms.foldl (fun s l => s.takeLoom l) s).freeLooms
  if moved then s.raise { src := 163 + 8 * c, unit := c } else s

/-- R179: stopped looms of channel c that have passed their qualification resume their positions. -/
def State.resumeLooms (s : State) (c : Nat) : State :=
  let ch := s.chan c
  if ch.positions.any (·.resume) then
    let s := s.setChan c { ch with positions := ch.positions.map fun p => if p.resume then { p with stopped := none, resume := false } else p }
    s.raise { src := 163 + 8 * c, unit := c }
  else s

/-- R178: the positions of channel c whose loom stopped at least 1.0 ms ago are taken by the lowest-numbered spares. -/
def State.takeOver (s : State) (c : Nat) : State :=
  (List.range (s.chan c).positions.length).foldl (fun s i =>
    match (s.chan c).positions[i]?, spareLooms s with
    | some p, l :: _ =>
      match p.stopped with
      | some t =>
        if !p.resume && s.nat K.loomGSparePolicy == 1 && passed s t 1000000 then
          let ch := s.chan c
          let s := (s.setChan c { ch with positions := ch.positions.set i { loom := l } }).takeLoom l
          (s.raise { src := 160 + 8 * c, unit := c }).raise { src := 163 + 8 * c, unit := c }
        else s
      | none => s
    | _, _ => s) s

/-! ## A picture of a coded channel -/

/-- R165, R167: what a coded video sequence cannot change: Codec, ChromaFormat, W_pic, H_pic, OutputTransfer, RateNum, RateDen and in HEVC
whether transquant bypass is enabled. -/
def sequenceKey (v : View) (c : Nat) : List Nat :=
  [v.nat (K.loomCodec c), v.nat (K.loomChromaFormat c), picW v c, picH v c, v.nat (K.pressOutputTransfer c), v.nat (K.reedRateNum c),
   v.nat (K.reedRateDen c), b2n (bypassEnabled v c)]

/-- R208, R209: the offset of a picture's slots and the one planned for the next picture. -/
def latencyPlan (v : View) (c : Nat) (prev : Option PicSt) : Nat × Nat :=
  let target := v.nat (K.rateLatencyRows c)
  let planned := match prev with | some p => p.latNext | none => target
  let lat := max target planned
  (lat, if target < lat then max target (lat - latencyStep v c) else lat)

/-- A value shown in a status object, written where it differs. -/
def State.show (s : State) (k v : Nat) : State := if s.nat k = v then s else s.setN k v

/-- R182, R215: the status objects that follow from the values in force. -/
def State.showChannel (s : State) (c : Nat) : State :=
  let v := s.view
  let (level, tier) := levelTier v c
  let lag := lagNs s c
  let s := ((((s.show (K.loomProfileIdc c) (profileIdc v c)).show (K.loomLevelIdc c) level).show (K.loomTier c) tier).show
    (K.loomCodedWidth c) (picW v c)).show (K.loomCodedHeight c) (picH v c)
  let s := (((s.show (K.loomLosslessCtus c) (losslessCount v c)).show (K.rateRowIntervalNs c) (floorN (rowInterval v c))).show
    (K.rateSlotPhases c) (phases v c)).show (K.rateSlotRateKbps c) (slotRate v c / 1000)
  ((s.show (K.ratePhaseLagNs c) lag).show (K.rateRowCapacityBits c) (slotCap v c (slotRate v c) (q lag))).show
    (K.ratePictureFloorBits c) (pictureFloor v c)

/-- R196, R208, R218, R227, R281: picture k of channel c is opened. -/
def State.openPicture (s : State) (c k : Nat) (first : Bool) : State :=
  let v := s.view
  let ch := s.chan c
  let seqStart := if first then k else ch.seqStart
  let s := s.setChan c { ch with seqStart := seqStart, newSequence := false, slotRate := slotRate v c, heldNow := false,
                                 pinned := if first then [] else ch.pinned }
  let s := if first then s.raise { src := 164 + 8 * c, unit := c } else s
  let s := s.sweepBoundary c k first
  let ch := s.chan c
  let (lat, next) := latencyPlan v c ch.pics.getLast?
  let rot := (s.reed c).rotDelay
  let p : PicSt := { pic := k, pos := k - seqStart, lat := lat, latNext := next, rate := slotRate v c,
                     open0 := boundaryTime v c k + schedRot v c rot * pictureNs v c + q (lat * 64) * schedLine v c,
                     gap := rowInterval v c, m := phases v c, pmax := pMax v c, rows := rowCount v c, cols := ctuCols v c,
                     don := ch.don, first := first, vals := s.objs, templates := ch.templates }
  let p := sweepPic s c k first p
  let p := { p with prefix_ := (prefixUnits v c p 0).length }
  let pics := ch.pics ++ [p]
  let s := s.setChan c { ch with pics := pics.drop (pics.length - 20),
                                 don := (ch.don + p.prefix_ + p.rows + suffixNals v c) % 65536 }
  let s := (s.show (K.rateLatencyRowsInForce c) lat).show (K.rateLatencyNs c) (floorN (latencyNs v c rot lat))
  let s := if lat = v.nat (K.rateLatencyRows c) then s.applyEffects fun e => e.when_ == .latency c else s
  ((s.copyMaps c).openPool c k).showBand c p

/-- R157, R176 to R179, R227: the coding of channel c at T_k; `before` is the view before the values of this boundary came into
force. -/
def State.codeBoundary (s : State) (before : View) (c k : Nat) : State :=
  let ch := s.chan c
  let on := s.flag (K.loomEncodeEnable c)
  if !on then
    let keep := ch.encoding && (s.reed c).rotDelay
    let s := s.setChan c { ch with encoding := false, sweep := none, waiting := none, pendingReq := none, spoiled := false, holding := false,
                                   periodicDue := false, pics := ch.pics.map fun p => { p with latNext := 0 }, nextPositions := if !s.cfg.flag (K.loomEncodeEnable c) then none else ch.nextPositions.orElse fun _ => if ch.encoding then some (ch.positions.map (·.loom)) else none }
    let s := if ch.encoding then s.showSweep c else s
    let s := if ch.holding then s.raise { src := 161 + 8 * c, unit := c } else s
    let s := if keep || ch.positions.isEmpty then s
      else ((s.setChan c { s.chan c with positions := [] }).freeLooms).raise { src := 163 + 8 * c, unit := c }
    s.applyEffects fun e => e.when_ == .latency c
  else
    let first := !ch.encoding || ch.newSequence || sequenceKey before c != sequenceKey s.view c
    let s := s.setChan c { ch with encoding := true, notFitting := bit (s.nat K.beamNotFittingMask) c }
    let s := match (s.chan c).nextPositions with | some l => s.assign c l | none => s
    let s := (s.resumeLooms c).takeOver c
    let s := if (s.chan c).holding && rowsOk s c then
        (s.setChan c { s.chan c with holding := false }).raise { src := 161 + 8 * c, unit := c }
      else s
    s.openPicture c k first

/-! ## The boundary -/

/-- R210: whether lists that a commit made pending, or newer ones in their place, have taken effect. -/
def listsDone (s : State) (lists : List (Nat × Nat)) : Bool := lists.all fun x => decide (x.2 ≤ (s.port x.1).listDone)

/-- R52: the effects that channel c's boundary brings. -/
def boundaryDue (s : State) (c : Nat) (e : Effect) : Bool :=
  match e.when_ with
  | .boundary d => d == c
  | .after d lists => d == c && listsDone s lists
  | _ => false

/-- The whole of T_k for channel c. -/
def State.boundary (s : State) (c k : Nat) : State :=
  let s0 := s
  let written := (s.draft.effects.filter (boundaryDue s c)).flatMap fun e => e.items.map (·.1)
  let s := s.applyEffects (boundaryDue s c)
  let s := if !s.flag (K.loomEncodeEnable c) && (s.cfg.flag (K.loomEncodeEnable c)) && !mayNotEncode s c then
      s.setN (K.loomEncodeEnable c) 1
    else if s.flag (K.loomEncodeEnable c) && bit (s.nat K.beamShedMask) c then s.setN (K.loomEncodeEnable c) 0 else s
  let s := State.reedChanged s0 s c written
  let v := s.view
  let j := rasterPic v c (nowExact s)
  if boundaryTime v c j != boundaryTime s0.view c k then
    (s.setReed c { s.reed c with k := some j }).setChan c { s.chan c with newSequence := true }
  else
    let s := ((s.seamBoundary c j).reedBoundary c j).unpEnableChanged 0
    let s := ((s.unpEnableChanged 1).pressBoundary c j).showContexts
    let s := s.codeBoundary s0.view c j
    let s := s.sendRecords c j
    (s.showChannel c).showLooms

/-- PICTURE_BOUNDARY (R88, R313): channel c reaches T_k; boundaries that a step of presented time passed over collapse into the last of
them, and no boundary comes twice. -/
def execPictureBoundary (chan : Chan) (s : State) : Result := whenClocked s <|
  let c : Nat := chan
  let k := rasterPic s.view c (nowExact s)
  let new := match (s.reed c).k with | some k0 => decide (k0 < k) | none => true
  if !new || decide (nowNs s < boundaryNs s.view c k) then .next s
  else if s.videoStopped then .next (s.setReed c { s.reed c with k := some k })
  else .next (s.boundary c k).follow

end Sys2Proof.Machine
end

