-- ==== Sys2Proof/Machine/Audio.lean ====
section
/-!
DEFINITION. Sys2Proof/Machine/Audio.lean: audio ports and sample clocks (R321 to R342): frame instants, compatibility FIFOs and their
slips, rate measurement, outbound streams and the playout of inbound bindings.
-/

namespace Sys2Proof.Machine

/-! ## Parts -/

def State.aport (s : State) (a : Nat) : AudioSt := AMap.getD s.audio.ports a {}
def State.setAport (s : State) (a : Nat) (x : AudioSt) : State :=
  { s with audio := { s.audio with ports := AMap.put s.audio.ports a x } }
def State.abind (s : State) (i : Nat) : ABindSt := AMap.getD s.audio.binds i {}
def State.setAbind (s : State) (i : Nat) (x : ABindSt) : State :=
  { s with audio := { s.audio with binds := AMap.put s.audio.binds i x } }

/-- R324: the number of the last frame instant at a sample rate. -/
def frameNumber (s : State) (fs : Nat) : Nat := floorN (nowExact s * q fs / 1000000000)
/-- R324: the instant of frame n, ns, floored. -/
def frameInstant (fs n : Nat) : Nat := n * 1000000000 / max 1 fs

/-- A sample frame cut or filled with zeros to the slots of a port. -/
def fitFrame (n : Nat) (f : SFrame) : SFrame := (f ++ List.replicate n 0).take n

/-- The sample that a word of so many bits holds. -/
def fitSample (bits : Nat) (x : Int) : Int := ofPattern bits (toPattern bits x)

/-- R322: a sample word of so many bits in a word of another size: words are aligned at the most significant bit. -/
def fitWidth (src dst : Nat) (x : Int) : Int := if src < dst then x * 2 ^ (dst - src) else x / 2 ^ (src - dst)

/-- R322: the bits of a slot: the sample word MSB first, then zeros. -/
def slotBits (bits width : Nat) (x : Int) : List Bool :=
  ((List.range bits).map fun i => bit (toPattern bits x) (bits - 1 - i)) ++ List.replicate (width - bits) false

/-- R321: WS of a frame of so many slots: low and then high (I²S), high and then low (left-justified), high for one bit clock (TDM). -/
def wordSelect (format slots width : Nat) : List Bool :=
  match format with
  | 0 => List.replicate width false ++ List.replicate width true
  | 1 => List.replicate width true ++ List.replicate width false
  | _ => true :: List.replicate (slots * width - 1) false

/-- R321 to R324, R327: a frame of port a at its balls: a transmit port drives the data of `out`, and a native port, at the frame's instant,
the clocks; EdgeOffsetNs moves the edges and DataEdge inverts them. -/
def serialFrame (s : State) (a : Nat) (at_ : Option Nat) (out : SFrame) : SerialFrame :=
  let format := s.nat (K.audFormat a)
  let width := s.nat (K.audSlotBits a)
  { edge := match at_ with | some t => (t : Int) + s.int (K.audEdgeOffsetNs a) | none => 0,
    ws := if at_.isSome then wordSelect format (s.nat (K.audSlots a)) width else [],
    sd := if s.nat (K.audDirection a) = 1 then out.flatMap (slotBits (s.nat (K.audSampleBits a)) width) else [],
    lead := if format = 1 then 0 else 1,
    rising := s.nat (K.audDataEdge a) == 1 }

/-- The frame that port a takes from its data ball. -/
def State.wordsIn (s : State) (a : Nat) (samples : List Int) : SFrame :=
  (fitFrame (s.nat (K.audSlots a)) samples).map (fitSample (s.nat (K.audSampleBits a)))

/-- R341: ClockState of a port; entering or leaving Lost or RateMismatch is raised. -/
def State.clockTo (s : State) (a st : Nat) : State :=
  let old := s.nat (K.audClockState a)
  if old = st then s
  else
    let s := s.setN (K.audClockState a) st
    if 2 ≤ old || 2 ≤ st then s.raise { src := 416 + 4 * a, unit := a } else s

/-- FifoLevel follows the FIFO. -/
def State.showFifo (s : State) (a : Nat) : State := s.show (K.audFifoLevel a) (s.aport a).fifo.length

/-- R326, R328: a slip of a port: 1 a drop, 2 a repeat. -/
def State.audioSlip (s : State) (a n kind : Nat) : State :=
  let s := (s.bump (if kind = 1 then K.audSlipDropCount a else K.audSlipRepeatCount a)).count (496 + 4 * a + kind) 1
  let s := s.set (K.audLastSlipTime a) (time80 (frameInstant (s.nat (K.audSampleRate a)) n))
  (s.setAport a { s.aport a with lastSlip := kind }).raiseLimited (417 + 4 * a) { src := 417 + 4 * a, unit := a }

/-- R326: what a step of presented time does to the ports: each counts one slip, and compatibility FIFOs go back to FifoCentre. -/
def State.stepAudio (s : State) : State :=
  (List.range 8).foldl (fun s a =>
    if !s.flag (K.audEnable a) then s
    else
      let x := s.aport a
      let c := s.nat (K.audFifoCentre a)
      let s := if s.nat (K.audClockMode a) = 1 then
          (s.setAport a { x with fifo := x.fifo.drop (x.fifo.length - c), filling := x.filling || decide (x.fifo.length < c) }).showFifo a
        else s
      (s.bump (K.audStepSlipCount a)).raiseLimited (417 + 4 * a) { src := 417 + 4 * a, unit := a }) s

/-- R323, R331: what values that came into force do to the ports. -/
def State.audioCommitted (s0 s : State) : State :=
  (List.range 8).foldl (fun s a =>
    let on := s.flag (K.audEnable a)
    let changed := [K.audEnable a, K.audFormat a, K.audSampleRate a, K.audSlots a, K.audSlotBits a, K.audSampleBits a, K.audDirection a,
      K.audClockMode a].any fun k => s0.obj k != s.obj k
    if !changed then s
    else if !on then (s.setAport a {}).clockTo a 0
    else
      let x := s.aport a
      let s := s.setAport a { x with restAt := if s0.flag (K.audEnable a) then some (nowNs s + 1000000) else none, fifo := [], filling := true, last := [], captured := [] }
      let st := if s.nat (K.audClockMode a) = 0 then 1
        else if s.nat (K.audClockState a) = 3 && s.nat (K.audMeasuredClass a) = s.nat (K.audSampleRate a) then 1
        else if s.nat (K.audClockState a) = 0 || s0.nat (K.audClockMode a) = 0 then 2 else s.nat (K.audClockState a)
      (s.clockTo a st).showFifo a) s

/-! ## Aligned groups (R332) -/

/-- R328: what a compatibility port would do at a frame instant by itself: 0 an ordinary move, 1 a drop, 2 a repeat. -/
def slipIntent (s : State) (a : Nat) : Nat :=
  let l := (s.aport a).fifo.length
  let c := s.nat (K.audFifoCentre a)
  let h := s.nat (K.audFifoHysteresis a)
  if c + h < l then 1 else if l + h < c then 2 else 0

/-- Whether a port moves frames through its FIFO. -/
def fifoRuns (s : State) (a : Nat) : Bool :=
  s.flag (K.audEnable a) && s.nat (K.audClockMode a) == 1 && s.nat (K.audClockState a) == 1 && !(s.aport a).filling

/-- R332: what group g does at a frame instant: 2 every member repeats, 1 every member drops. -/
def groupSlip (s : State) (g : Nat) : Nat :=
  let l := ((List.range 8).filter fun a => s.nat (K.audAudioGroup a) == g && fifoRuns s a).map (slipIntent s)
  if l.contains 2 then 2 else if l.contains 1 then 1 else 0

/-- R332: the decision of port a at frame n, its group's taken once. -/
def State.decideSlip (s : State) (a n : Nat) : State × Nat :=
  let g := s.nat (K.audAudioGroup a)
  if g = 0 || s.nat (K.audGGroupMode (g - 1)) != 0 then (s, slipIntent s a)
  else
    match AMap.find? s.audio.groupDec g with
    | some (m, d) => if m = n then (s, d) else fresh g
    | none => fresh g
where
  fresh (g : Nat) : State × Nat :=
    let d := groupSlip s g
    let s := { s with audio := { s.audio with groupDec := AMap.put s.audio.groupDec g (n, d) } }
    (if d = 0 then s else s.bump (K.audGGroupSlipCount (g - 1)), d)

/-! ## Streams (R288, R333, R334) -/

/-- R333: the ports that a stream routes from. -/
def routedPorts (s : State) (i : Nat) : List Nat :=
  ((List.range (s.nat (K.astrChannelCount i))).map fun c => s.nat (K.astrRoute i c)).filterMap fun r => if r = 0xFF then none else some (r / 16)

/-- R288: the bytes of a sample of a port in a stream's encoding. -/
def encodeSample (l16 : Bool) (bits : Nat) (x : Int) : Bytes :=
  if l16 then beBytes 2 (toPattern 16 (fitWidth bits 16 x)) else beBytes 3 (toPattern 24 (fitWidth bits 24 x))

/-- R333: one sample frame of stream i at frame n, as bytes. -/
def streamFrame (s : State) (i n : Nat) : Bytes :=
  let l16 := s.nat (K.astrEncoding i) == 1
  ((List.range (s.nat (K.astrChannelCount i))).map fun c =>
    let r := s.nat (K.astrRoute i c)
    if r = 0xFF then encodeSample l16 24 0
    else encodeSample l16 (s.nat (K.audSampleBits (r / 16))) ((AMap.getD (s.aport (r / 16)).captured n []).getD (r % 16) 0)).flatten

/-- R334: the ports of a stream's legs: those of its video channel, or its own. -/
def streamPort (v : View) (i leg : Nat) : Nat :=
  let c := v.nat (K.astrChannel i)
  if c < 16 then legPort v c leg else if leg = 0 then v.nat (K.astrPortA i) else v.nat (K.astrPortB i)

/-- R288, R325, R334: a packet of stream i whose first frame is n goes to its legs whose link is up. -/
def State.sendAudio (s : State) (i n : Nat) (payload : Bytes) (seq : Nat) : State :=
  let pkt := [0x80, BitVec.ofNat 8 (s.nat (K.astrPayloadType i))] ++ beBytes 2 seq ++ beBytes 4 (n % 2 ^ 32) ++ beBytes 4 (s.nat (K.astrSsrc i)) ++ payload
  [0, 1].foldl (fun s leg =>
    let p := streamPort s.view i leg
    if 8 ≤ p || !(s.port p).linkUp || !s.flag (K.portPortEnable p) || s.isFrozen 31 then s
    else
      let dst := (s.obj (if leg = 0 then K.astrDestAddressA i else K.astrDestAddressB i)).toBytes
      s.sendFrame (udpFrame s p 5 dst (s.nat (K.astrDestUdpPort i)) (s.nat (K.astrSourceUdpPort i)) pkt)) s

/-- R288, R333: frame n has been captured by port a: the streams that now have it from all their ports gather it, and a full packet
leaves. A packet begins at a frame number that is a multiple of its length (log entry 15). -/
def State.gather (s : State) (a n : Nat) : State :=
  (List.range 16).foldl (fun s i =>
    let ports := routedPorts s i
    if !s.flag (K.astrEnable i) || !ports.contains a || s.isFrozen 37
        || !(ports.all fun b => (AMap.find? (s.aport b).captured n).isSome) then s
    else
      let x := AMap.getD s.audio.streams i ({ sequence := Config.random (1024 + i) % 65536 } : AStreamSt)
      let k := max 1 (s.nat (K.audSampleRate a) * s.nat (K.astrPacketTimeUs i) / 1000000)
      let x := if x.first + x.gathered.length = n then x else { x with gathered := [], first := n }
      let x := if x.gathered.isEmpty && n % k != 0 then { x with first := n + 1 }
        else { x with gathered := x.gathered ++ [streamFrame s i n], first := if x.gathered.isEmpty then n else x.first }
      if x.gathered.length < k then { s with audio := { s.audio with streams := AMap.put s.audio.streams i x } }
      else
        let y := { x with gathered := [], first := n + 1, sequence := (x.sequence + 1) % 65536 }
        State.sendAudio { s with audio := { s.audio with streams := AMap.put s.audio.streams i y } } i x.first x.gathered.flatten x.sequence) s

/-! ## Inbound bindings (R335) -/

/-- R335: LinkOffsetUs in frames. -/
def linkFrames (s : State) (i : Nat) : Nat := s.nat (K.abindLinkOffsetUs i) * s.nat (K.abindSampleRate i) / 1000000

/-- The enabled transmit ports that binding i feeds. -/
def fedBy (s : State) (i : Nat) : List Nat :=
  (List.range 8).filter fun b => s.flag (K.audEnable b) && s.nat (K.audDirection b) == 1 && s.nat (K.audFeed b) == 16 + i

/-- R341: AudioGap of the ports that binding i feeds. -/
def State.audioGap (s : State) (i : Nat) : State :=
  (fedBy s i).foldl (fun s a => s.raiseLimited (419 + 4 * a) { src := 419 + 4 * a, unit := a }) s

/-- R335: the frame whose number has the low 32 bits ts and lies nearest to frame number now. -/
def nearestFrame (now ts : Nat) : Nat :=
  let d := ofPattern 32 ((ts + 2 ^ 32 - now % 2 ^ 32) % 2 ^ 32)
  ((now : Int) + d).toNat

/-- R335: the samples of one frame of a packet's payload. -/
def parseFrame (bytes : Nat) : Nat → Bytes → SFrame
  | 0, _ => []
  | n + 1, b => ofPattern (8 * bytes) (ofBeBytes (b.take bytes)) :: parseFrame bytes n (b.drop bytes)

/-- The payload of an RTP packet, with its timestamp. -/
def rtpPayload (b : Bytes) : Option (Nat × Bytes) :=
  if b.length < 12 || (b.getD 0 0).toNat / 64 != 2 then none
  else
    let h := 12 + 4 * ((b.getD 0 0).toNat % 16)
    let ext := if bit (b.getD 0 0).toNat 4 then 4 + 4 * ofBeBytes ((b.drop (h + 2)).take 2) else 0
    some (ofBeBytes ((b.drop 4).take 4), b.drop (h + ext))

/-- R330: a binding after a packet with RTP timestamp ts has arrived. -/
def State.packetSeen (s : State) (i ts : Nat) : State :=
  let x := s.abind i
  s.setAbind i { x with packets := x.packets + 1, firstTs := if x.packets = 0 then ts else x.firstTs,
                        firstAt := if x.packets = 0 then nowNs s else x.firstAt, lastTs := ts, lastAt := nowNs s }

/-- R335: frame n of a binding's stream is taken unless it is there; one that would leave at once is counted late instead. -/
def State.frameTaken (i now off : Nat) (acc : State × Nat) (n : Nat) (f : SFrame) : State × Nat :=
  let x := acc.1.abind i
  if n + off ≤ now then (acc.1, acc.2 + 1)
  else if (AMap.find? x.frames n).isSome then acc
  else (acc.1.setAbind i { x with frames := AMap.put x.frames n f }, acc.2)

/-- R330, R335: the frames of a payload, the first of them frame n0; answers how many came late. -/
def State.framesTaken (s : State) (i n0 : Nat) (pay : Bytes) : State × Nat :=
  let width := if s.nat (K.abindEncoding i) = 1 then 2 else 3
  let ch := max 1 (s.nat (K.abindChannelCount i))
  (List.range (pay.length / (width * ch))).foldl (fun acc j =>
    State.frameTaken i (frameNumber s (s.nat (K.abindSampleRate i))) (linkFrames s i) acc (n0 + j)
      (parseFrame width ch ((pay.drop (j * width * ch)).take (width * ch)))) (s, 0)

/-- R335: late frames are counted, and they are a gap. -/
def State.lateCounted (s : State) (i late : Nat) : State := if late = 0 then s else (s.add (K.abindLateFrames i) late).audioGap i

/-- R335: whether a packet is the second copy, by its first frame, of one that a binding's pair of flows has brought. -/
def secondCopy (s : State) (i n0 : Nat) : Bool := s.nat (K.abindFlowIdProtect i) != 0xFFFF && (s.abind i).seen.contains n0

/-- R335: a binding keeps the first frames of its packets for a second, to know their second copies. -/
def State.packetKept (s : State) (i n0 : Nat) : State :=
  let fs := s.nat (K.abindSampleRate i)
  let x := s.abind i
  s.setAbind i { x with seen := n0 :: x.seen.filter fun m => decide (frameNumber s fs ≤ m + fs) }

/-- R330, R335: a packet of an inbound flow arrives at binding i; the second copy of a pair's packet is not used. -/
def State.audioPacket (s : State) (i : Nat) (b : Bytes) : State :=
  match rtpPayload b with
  | none => s
  | some (ts, pay) =>
    let fs := s.nat (K.abindSampleRate i)
    let n0 := nearestFrame (frameNumber s fs) ts
    if secondCopy s i n0 then s
    else
      let s := (s.packetSeen i ts).packetKept i n0
      if s.isFrozen 37 then s
      else if decide (frameInstant fs (n0 + linkFrames s i) > nowNs s + 2000 * s.nat (K.abindLinkOffsetUs i)) then
        (s.bump (K.abindEarlyDropped i)).audioGap i
      else State.lateCounted (s.framesTaken i n0 pay).1 i (s.framesTaken i n0 pay).2

/-- R335, R336: the frame of binding i that is due at frame n of port a; a missing one is a gap. -/
def State.playBinding (s : State) (a i n : Nat) : State × Option SFrame :=
  if s.nat (K.abindFlowId i) = 0xFFFF || s.nat (K.abindMeasuredClass i) != s.nat (K.abindSampleRate i) then (s, none)
  else
    let off := linkFrames s i
    let x := s.abind i
    let lead := (fedBy s i).head?
    let s := s.setAbind i { x with frames := x.frames.filter fun e => decide (n ≤ e.1 + off + 8) }
    if n < off then (s, none)
    else match AMap.find? x.frames (n - off) with
      | some f => (s, some f)
      | none => (if lead = some a then (s.bump (K.abindGapFrames i)).audioGap i else s, none)

/-- R322, R336: the bits of a sample word of a Feed: those of a receive port, or 16 or 24 by the Encoding of an inbound binding. -/
def feedBits (s : State) (f : Nat) : Nat :=
  if f < 8 then s.nat (K.audSampleBits f) else if s.nat (K.abindEncoding (f - 16)) = 1 then 16 else 24

/-- R336: the frame due from the Feed of transmit port a at frame n, in words of the port's own size; none is a zero frame. -/
def State.feedFrame (s : State) (a n : Nat) : State × Option SFrame :=
  let f := s.nat (K.audFeed a)
  let words (x : SFrame) : SFrame := x.map (fitWidth (feedBits s f) (s.nat (K.audSampleBits a)))
  if f < 8 then (s, if n < 2 then none else (AMap.find? (s.aport f).captured (n - 2)).map words)
  else if 16 ≤ f && f < 32 then ((s.playBinding a (f - 16) n).1, (s.playBinding a (f - 16) n).2.map words)
  else (s, none)

/-! ## Frame instants -/

/-- A frame of receive port a is captured. -/
def State.capture (s : State) (a n : Nat) (f : SFrame) : State :=
  let x := s.aport a
  (s.setAport a { x with captured := AMap.put (x.captured.filter fun e => decide (n < e.1 + 64)) n f }).gather a n

/-- The zero frame of a port, counted. -/
def State.zeroFrame (s : State) (a : Nat) : State := s.count (496 + 4 * a + 3) 1

/-- R328: receive port a reads its FIFO at frame n. -/
def State.fifoRead (s : State) (a n : Nat) : State × Option SFrame :=
  let x := s.aport a
  let x := if decide (s.nat (K.audFifoCentre a) ≤ x.fifo.length) then { x with filling := false } else x
  let s := s.setAport a x
  if s.nat (K.audClockState a) != 1 || x.filling then (s, none)
  else
    let (s, d) := s.decideSlip a n
    let x := s.aport a
    match d with
    | 2 => (s.audioSlip a n 2, some x.last)
    | 1 =>
      let s := (s.setAport a { x with fifo := x.fifo.drop 2 }).audioSlip a n 1
      (s, (x.fifo.drop 1).head?)
    | _ => (s.setAport a { x with fifo := x.fifo.drop 1 }, x.fifo.head?)

/-- R328: transmit port a pushes the frame due into its FIFO at frame n. -/
def State.fifoPush (s : State) (a n : Nat) (f : SFrame) : State :=
  let x := s.aport a
  if s.nat (K.audClockState a) != 1 then s
  else if x.filling then
    s.setAport a { x with fifo := x.fifo ++ [f], filling := decide (x.fifo.length + 1 < s.nat (K.audFifoCentre a)) }
  else
    let (s, d) := s.decideSlip a n
    let x := s.aport a
    match d with
    | 1 => s.audioSlip a n 1
    | 2 => (s.setAport a { x with fifo := (x.fifo ++ [f, f]).take 32 }).audioSlip a n 2
    | _ => s.setAport a { x with fifo := (x.fifo ++ [f]).take 32 }

/-- R323: a port whose settings have changed holds its clocks and data low before its first frame instant. -/
def atRest (s : State) (a n : Nat) : Bool :=
  match (s.aport a).restAt with | some t => decide (frameInstant (s.nat (K.audSampleRate a)) n < t) | none => false

/-- R324, R327: a native port that is not at rest drives its balls at frame n. -/
def State.drive (s : State) (a n : Nat) (out : SFrame) : State :=
  if s.nat (K.audClockMode a) = 1 || atRest s a n then s
  else s.emit (.audio a (serialFrame s a (some (frameInstant (s.nat (K.audSampleRate a)) n)) out))

/-- AUDIO_FRAME_INSTANT (R321 to R328, R336): at a frame instant a port moves one sample frame and may slip; in native mode the device drives the
port's clocks. -/
def execAudioFrameInstant (port : AudioPort) (samples : List Int) (s : State) : Result := whenClocked s <|
  let a : Nat := port
  let fs := s.nat (K.audSampleRate a)
  let n := frameNumber s fs
  let x := s.aport a
  let fresh := match x.lastFrame with | some m => decide (m < n) | none => true
  if !s.flag (K.audEnable a) || !fresh then .next s
  else
    let slots := s.nat (K.audSlots a)
    let zero := List.replicate slots (0 : Int)
    let rest := atRest s a n || s.isFrozen 37
    let s := (s.setAport a { x with lastFrame := some n }).count (496 + 4 * a) 1
    let compat := s.nat (K.audClockMode a) == 1
    if s.nat (K.audDirection a) = 0 then
      let (s, f) := if compat then (if rest then (s, none) else s.fifoRead a n) else (s, if rest then none else some (s.wordsIn a samples))
      let out := f.getD zero
      let s := if f.isSome then s else s.zeroFrame a
      let s := s.setAport a { s.aport a with last := out }
      .next (((s.capture a n out).drive a n []).showFifo a)
    else
      let (s, f) := if rest then (s, none) else s.feedFrame a n
      let out := fitFrame slots (f.getD zero)
      let s := if f.isSome then s else s.zeroFrame a
      if compat then .next ((s.fifoPush a n out).showFifo a)
      else .next (s.drive a n out)

/-- R329: a port without a clock, or of another rate, runs again: after 256 frame syncs in a row, once the rate last measured has the class of
SampleRate; its FIFO is filled anew. -/
def State.clockBack (s : State) (a : Nat) : State :=
  let st := s.nat (K.audClockState a)
  if (st = 2 || st = 3) && decide (256 ≤ (s.aport a).syncRun) && s.nat (K.audMeasuredClass a) == s.nat (K.audSampleRate a) then
    ((s.setAport a { s.aport a with fifo := [], filling := true }).clockTo a 1).showFifo a
  else s

/-- AUDIO_EXT_FRAME_SYNC (R327 to R330): a frame sync of the external pair: a receive port writes its FIFO and a transmit port drives
the oldest frame of it; a port that does not run may run again with it. -/
def execAudioExtFrameSync (port : AudioPort) (samples : List Int) (s : State) : Result := whenClocked s <|
  let a : Nat := port
  if !s.flag (K.audEnable a) || s.nat (K.audClockMode a) != 1 then .next s
  else
    let x := s.aport a
    let t := nowNs s
    let gap := passed s x.lastSync (4 * frameInstant (s.nat (K.audSampleRate a)) 1)
    let x := { x with lastSync := s.clk.ticks, syncRun := if gap then 1 else x.syncRun + 1, edges := x.edges + 1,
                      firstEdge := if x.edges = 0 then t else x.firstEdge, lastEdge := t }
    let s := s.setAport a x
    if s.nat (K.audClockState a) != 1 then .next (s.clockBack a)
    else if s.nat (K.audDirection a) = 0 then
      .next (if x.fifo.length < 32 then (s.setAport a { x with fifo := x.fifo ++ [s.wordsIn a samples] }).showFifo a else s)
    else
      let zero := List.replicate (s.nat (K.audSlots a)) (0 : Int)
      if x.filling then .next (s.emit (.audio a (serialFrame s a none zero)))
      else .next (((s.setAport a { x with fifo := x.fifo.drop 1 }).emit (.audio a (serialFrame s a none (x.fifo.head?.getD zero)))).showFifo a)

/-- AUDIO_CLOCK_LOST (R329): no external frame sync for 4 frame periods. -/
def execAudioClockLost (port : AudioPort) (s : State) : Result := whenClocked s <|
  let a : Nat := port
  let x := s.aport a
  let st := s.nat (K.audClockState a)
  if !s.flag (K.audEnable a) || s.nat (K.audClockMode a) != 1 || !(st == 1 || st == 3)
      || !passed s x.lastSync (4 * frameInstant (s.nat (K.audSampleRate a)) 1) then .next s
  else .next (((s.setAport a { x with fifo := [], filling := true, syncRun := 0 }).clockTo a 2).showFifo a)

/-! ## Rate measurement (R330, R331) -/

/-- R330: the supported rate within 1,000 ppm of a measured rate, mHz; 0 where none is. -/
def rateClass (mhz : Nat) : Nat :=
  ([32000, 44100, 48000, 88200, 96000, 176400, 192000].find? fun r =>
    decide (r * 999 ≤ mhz) && decide (mhz ≤ r * 1001)).getD 0

/-- R330: FreqOffsetPpb of a measured rate, rounded to nearest (log entry 12). -/
def rateOffset (mhz fs : Nat) : Int :=
  clampInt (-2147483648) 2147483647 (roundI ((q mhz / q (max 1 (1000 * fs)) - 1) * 1000000000))

/-- R330, R341: the rate of binding i over the second that ends; a change of its class is raised for each port that it feeds. -/
def State.measureBinding (s : State) (ports : List Nat) (i : Nat) : State :=
  let x := s.abind i
  let fs := s.nat (K.abindSampleRate i)
  let adv := (x.lastTs + 2 ^ 32 - x.firstTs) % 2 ^ 32
  let mhz := if 2 ≤ x.packets && decide (x.firstAt < x.lastAt) then adv * 1000000000000 / (x.lastAt - x.firstAt) else 0
  let cls := rateClass mhz
  let old := s.nat (K.abindMeasuredClass i)
  let s := ((s.setAbind i { x with packets := 0 }).set (K.abindFreqOffsetPpb i) (rateOffset mhz fs)).setN (K.abindMeasuredClass i) cls
  if old = cls then s else ports.foldl (fun s a => s.raise { src := 418 + 4 * a, unit := a }) s

/-- R330: the bindings that are measured with port a: those that feed it first, and with port 0 those that feed none (log entry 16). -/
def measuredWith (s : State) (a : Nat) : List Nat := (List.range 16).filter fun i => (fedBy s i).headD 0 == a

/-- RATE_MEASUREMENT (R330, R331): each whole second of presented time the rate of port a is measured, and that of the bindings that are
measured with it. -/
def execRateMeasurement (port : AudioPort) (s : State) : Result := whenClocked s <|
  let a : Nat := port
  let x := s.aport a
  let sec := nowNs s / 1000000000
  if x.measured = some sec then .next s
  else
    let s := s.setAport a { x with measured := some sec, edges := 0 }
    let fs := s.nat (K.audSampleRate a)
    let s := (measuredWith s a).foldl (fun s i => s.measureBinding (fedBy s i) i) s
    if !s.flag (K.audEnable a) then .next s
    else if s.nat (K.audClockMode a) = 0 then
      let old := s.nat (K.audMeasuredClass a)
      let s := ((s.setN (K.audMeasuredRateMilliHz a) (1000 * fs)).set (K.audFreqOffsetPpb a) 0).setN (K.audMeasuredClass a) fs
      .next (if old = fs then s else s.raise { src := 418 + 4 * a, unit := a })
    else
      let mhz := if 2 ≤ x.edges && decide (x.firstEdge < x.lastEdge) then (x.edges - 1) * 1000000000000 / (x.lastEdge - x.firstEdge) else 0
      let cls := rateClass mhz
      let old := s.nat (K.audMeasuredClass a)
      let s := ((s.setN (K.audMeasuredRateMilliHz a) (mhz % 2 ^ 32)).set (K.audFreqOffsetPpb a) (rateOffset mhz fs)).setN (K.audMeasuredClass a) cls
      let s := if old = cls then s else s.raise { src := 418 + 4 * a, unit := a }
      if cls = fs then .next (s.clockBack a)
      else if s.nat (K.audClockState a) = 1 then .next (((s.setAport a { s.aport a with fifo := [], filling := true, syncRun := 0 }).clockTo a 3).showFifo a)
      else .next s

end Sys2Proof.Machine
end

