-- ==== Sys2Proof/Machine/Time.lean ====
section
/-!
DEFINITION. Sys2Proof/Machine/Time.lean: the Timekeeper (R303 to R320): the two PTP domains, presented time, steps and slews, pulses
and captures; with it the opening of the encode gate (R419).
-/

namespace Sys2Proof.Machine

/-! ## The encode gate (R419) -/

/-- R419: the encode gate opens and stays open. -/
def State.openGate (s : State) : State :=
  if s.boot.gateOpen then s
  else
    let s := { s with boot := { s.boot with gateOpen := true } }
    (s.setN K.bootEncodeGateUs (uptimeNs s / 1000)).raise { src := 627 }

/-- R419: the gate opens at ConfigCommitted under policy 1, or as soon as the active domain is Locked too. -/
def State.tryGate (s : State) : State :=
  if s.boot.configCommitted && (s.nat K.bootEncodeStartPolicy == 1 || (s.dom s.time.active).state == .locked) then s.openGate else s

/-- ENCODE_START_WAIT_EXPIRY (R419): EncodeStartWaitS seconds after ConfigCommitted have passed. -/
def execEncodeStartWaitExpiry (s : State) : Result := whenClocked s <|
  if s.boot.configCommitted && passed s s.boot.committedAt (s.nat K.bootEncodeStartWaitS * 1000000000) then .next s.openGate
  else .next s

/-! ## Presented time (R311, R312) -/

/-- A domain clock in exact units. -/
def State.clock (s : State) (d : Nat) : Int := if d = 0 then s.clk.primary else s.clk.redundant
def State.setClock (s : State) (d : Nat) (v : Int) : State :=
  { s with clk := if d = 0 then { s.clk with primary := v } else { s.clk with redundant := v } }

/-- R311: e, in exact units. -/
def slewError (s : State) : Int := s.clock s.time.active - s.clk.presented

/-- R312: a difference may be stepped. -/
def mayStep (s : State) (first : Bool) : Bool :=
  first || s.nat K.timeStepPolicy == 1 || !(List.range 16).any (fun c => s.flag (K.loomEncodeEnable c))

/-- R312, R313: presented time steps to the active domain clock. -/
def State.step (s : State) : State :=
  let old := nowNs s
  let s := { s with clk := { s.clk with presented := s.clock s.time.active } }
  let now := nowNs s
  let s := { s with time := { s.time with stepFrom := old, stepTo := now, slewing := false,
                                          pulses := s.time.pulses.map fun (e : Nat × PulseSt) => (e.1, { e.2 with from_ := now }) } }
  let s := s.stepAudio
  let s := (((s.bump K.timeStepCount).count 487 1).set K.timeLastStepNs ((now : Int) - old)).set K.timeLastStepTime (time80 now)
  s.raise { src := 387 }

/-- R311, R312: presented time is a step, a slew or nothing away from the active domain clock. -/
def State.retarget (s : State) (first : Bool) : State :=
  let e := slewError s
  let was := s.time.slewing
  if e = 0 then
    (if was then State.raise { s with time := { s.time with slewing := false } } { src := 388 } else s)
  else if decide ((s.nat K.timeStepThresholdNs * unitsPerNs : Nat) < e.natAbs) && mayStep s first then
    let s := s.step
    if was then s.raise { src := 388 } else s
  else if was then s
  else State.raise { s with time := { s.time with slewing := true } } { src := 388 }

/-- A domain clock moves to another time; while the slew limiter is idle and the move is no step, presented time is slewed to it. -/
def State.moveClock (s : State) (d : Nat) (v : Int) (first : Bool) : State :=
  let s := s.setClock d v
  if d = s.time.active then s.retarget first else s

/-- R311: another domain becomes active. -/
def State.switchTo (s : State) (d : Nat) : State :=
  if d = s.time.active then s
  else
    let s := { s with time := { s.time with active := d } }
    let s := (((s.bump K.timeSwitchCount).count 486 1).set K.timeLastSwitchTime (time80 (nowNs s))).raise { src := 386 }
    s.retarget false

/-- R311: the domain that is to be active. -/
def activeChoice (s : State) : Nat :=
  let a := s.time.active
  match s.nat K.timeActiveDomainSelect with
  | 1 => 0
  | 2 => 1
  | _ => if (s.dom a).state != .locked && (s.dom (1 - a)).state == .locked then 1 - a else a

/-- R311, R419, R470: the active domain is chosen again, and what hangs on its being Locked follows. -/
def State.chooseDomain (s : State) : State :=
  let s := s.switchTo (activeChoice s)
  let s := if (s.dom s.time.active).state = .locked then { s with log := { s.log with timeValid := true } } else s
  s.tryGate

/-! ## Domain states (R308, R309) -/

/-- TIME_CLK periods that a domain has spent in Locked since reset. -/
def lockedTicks (s : State) (x : DomainSt) : Nat := x.lockedTicks + (match x.lockedAt with | some t => s.clk.ticks - t | none => 0)

/-- R309: the mean frequency correction of the last 16 s in Locked, rounded to nearest (log entry 12). -/
def keptFreq (x : DomainSt) : Int :=
  if x.freqHist.isEmpty then 0 else roundI (((x.freqHist.map (·.2)).sum : Rat) / q x.freqHist.length)

/-- A domain's frequency correction set. -/
def State.setFreq (s : State) (d : Nat) (f : Int) : State := s.set (K.domFreqAdjPpb d) f

/-- R308: domain d enters a state. -/
def State.domTo (s : State) (d : Nat) (st : DomState) : State :=
  let x := s.dom d
  if x.state = st then s
  else
    let from_ := x.state
    let y := { x with state := st, inLock := 0, outLock := 0, syncAt := s.clk.ticks, lockedTicks := lockedTicks s x,
                      lockedAt := if st = .locked then some s.clk.ticks else none,
                      holdoverAt := if st = .holdover && (from_ == .locked || x.holdoverAt.isNone) then some s.clk.ticks else x.holdoverAt,
                      master := if st = .acquiring || st = .locked then x.master else none,
                      foreign := if st = .disabled then [] else x.foreign, twoStep := none, delayReq := none }
    let s := (s.setDom d y).setN (K.domState d) st.code
    let s := if st = .locked then s.set (K.domLockedSince d) (time80 (nowNs s)) else s
    let s := if st = .holdover then s.setFreq d (keptFreq y) else s
    let s := s.raise { src := 384 + d, unit := d }
    let s := if st = .freerun then s.raise { src := 389, unit := d } else s
    s.chooseDomain

/-- The values that a commit or the boot put into force reach the Timekeeper. -/
def State.timeCommitted (s0 s : State) : State :=
  let s := [0, 1].foldl (fun s d =>
    if !s.flag (K.domEnable d) then s.domTo d .disabled
    else if (s.dom d).state = .disabled then s.domTo d .listening else s) s
  let s := (List.range 8).foldl (fun s n =>
    let changed := [K.pulsePulseMode n, K.pulseStartTime n, K.pulsePeriodNs n, K.pulseChannel n, K.pulseOffsetNs n].any fun k => s0.obj k != s.obj k
    let again := [K.pulsePulseMode n, K.pulseStartTime n].any fun k => s0.obj k != s.obj k
    if changed then
      { s with time := { s.time with pulses := AMap.upd s.time.pulses n {} fun p => { from_ := nowNs s, fired := p.fired && !again } } }
    else s) s
  let s := if s0.nat K.timeHoldoverReference = s.nat K.timeHoldoverReference then s
    else { s with time := { s.time with extDropped := false } }
  (s.chooseDomain).retarget false

/-! ## Masters (R306) -/

/-- Whether numbers compare lower, the first difference deciding. -/
def lexLt : List Nat → List Nat → Bool
  | [], [] => false
  | [], _ :: _ => true
  | _ :: _, [] => false
  | a :: t, b :: u => decide (a < b) || (a == b && lexLt t u)

/-- R306: whether a foreign master is the better one: its quality, the fewer steps, the lower identity. -/
def Foreign.better (a b : Foreign) : Bool :=
  lexLt (a.quality ++ [a.stepsRemoved, a.identity, a.port]) (b.quality ++ [b.stepsRemoved, b.identity, b.port])

/-- An announce interval, ns. -/
def Foreign.interval (f : Foreign) : Nat :=
  if 0 ≤ f.logInterval then 1000000000 * 2 ^ f.logInterval.toNat else 1000000000 / 2 ^ (-f.logInterval).toNat

/-- R308: the announce receipt timeout that an Announce of a master sets, ns. -/
def announceTimeout (s : State) (d : Nat) (f : Foreign) : Nat := s.nat (K.domAnnounceReceiptTimeout d) * f.interval

/-- Whether domain d takes messages that arrive on a port. -/
def domHears (s : State) (d p : Nat) : Bool := (s.dom d).state != .disabled && bit (s.nat (K.domPortMask d)) p && decide (p < 8)

/-- PTP_ANNOUNCE (R306, R308): an Announce is kept and the best master is chosen; a domain that had none begins to acquire. -/
def execPtpAnnounce (dom : DomainId) (msg : Foreign) (s : State) : Result := whenClocked s <|
  let d : Nat := dom
  if !domHears s d msg.port then .next s
  else
    let s := s.count (484 + d) 1
    let x := s.dom d
    let m := { msg with lastSeen := s.clk.ticks }
    let same (f : Foreign) : Bool := f.port == m.port && f.identity == m.identity
    let live := x.foreign.filter fun f => !same f && !passed s f.lastSeen (announceTimeout s d f)
    let best := live.foldl (fun b f => if f.better b then f else b) m
    let chosen := some (best.port, best.identity)
    let another := s.nat (K.domMasterIdentity d) != best.identity || s.nat (K.domMasterPort d) != best.port
    let y := { x with foreign := live ++ [m], master := chosen,
                      lastAnnounce := best.lastSeen }
    let y := if x.master = chosen then y else { y with twoStep := none, delayReq := none }
    let s := s.setDom d y
    let s := ((s.setN (K.domMasterIdentity d) best.identity).setN (K.domGmIdentity d) best.gm).setN (K.domMasterPort d) best.port
    let s := if d = s.time.active then s.set K.timeUtcOffsetS best.utcOffset else s
    let s := if another then s.raise { src := 391 + d, unit := d } else s
    if x.state = .acquiring || x.state = .locked then .next s
    else
      let kept := x.state == .holdover || x.state == .freerun
      let s := s.setDom d { s.dom d with clockSet := kept, integrator := keptFreq x }
      .next (s.domTo d .acquiring)

/-- ANNOUNCE_RECEIPT_TIMEOUT (R308): AnnounceReceiptTimeout intervals have passed without an Announce of the master. -/
def execAnnounceReceiptTimeout (dom : DomainId) (s : State) : Result := whenClocked s <|
  let d : Nat := dom
  let x := s.dom d
  match x.master with
  | none => .next s
  | some (p, i) =>
    let due := match x.foreign.find? (fun f => f.port == p && f.identity == i) with
      | some f => passed s x.lastAnnounce (announceTimeout s d f)
      | none => true
    if !due then .next s
    else
      let s := s.setDom d { x with foreign := x.foreign.filter fun f => !(f.port == p && f.identity == i) }
      if x.state = .locked then .next (s.domTo d .holdover)
      else if x.state = .acquiring then
        .next (s.domTo d (if 16 * 1000000000 * 6 ≤ lockedTicks s x * 25 then .holdover else .listening))
      else .next s

/-- HOLDOVER_LIMIT (R308): HoldoverLimitS seconds have been spent in Holdover since its last entry from Locked. -/
def execHoldoverLimit (dom : DomainId) (s : State) : Result := whenClocked s <|
  let d : Nat := dom
  match (s.dom d).holdoverAt with
  | some t =>
    if (s.dom d).state = .holdover && passed s t (s.nat K.timeHoldoverLimitS * 1000000000) then .next (s.domTo d .freerun) else .next s
  | none => .next s

/-! ## Sync and delay -/

/-- A measured offset as its objects show it. -/
def State.showOffset (s : State) (d : Nat) (off : Int) : State :=
  let o := clampInt (-2147483648) 2147483647 off
  (s.set (K.domOffsetNs d) o).set (if d = 0 then K.fastPrimaryOffsetNs else K.fastRedundantOffsetNs) o

/-- R308: the critically damped loop of second order takes an offset in ns (log entry 127): the integrator that it would have, and the
correction in ppb that it asks for. -/
def servoLoop (s : State) (d : Nat) (off : Int) : Rat × Int :=
  let x := s.dom d
  let w : Rat := q (Config.servoOmega (s.nat (K.domLoopBandwidthMilliHz d))) / 2 ^ 32
  let i := x.integrator - w * w * (off : Rat) * (q ((s.clk.ticks - x.syncAt) * 25) / 6000000000)
  (i, roundI (i - 2 * w * (off : Rat)))

/-- R308: the servo takes an offset: its correction stays within MaxFreqAdjPpb, and at the limit the integrator is held. -/
def State.servoStep (s : State) (d : Nat) (off : Int) : State :=
  let x := s.dom d
  let lim : Int := s.nat (K.domMaxFreqAdjPpb d)
  let (i, raw) := servoLoop s d off
  let f := clampInt (-lim) lim raw
  let x := { x with integrator := if raw = f then i else x.integrator, syncAt := s.clk.ticks }
  let at_ := lockedTicks s x
  let x := if x.state = .locked then
      { x with freqHist := (at_, f) :: x.freqHist.filter fun e => decide ((at_ - e.1) * 25 < 16 * 1000000000 * 6) }
    else x
  let beyond (v : Int) : Bool := decide (v < -50000) || decide (50000 < v)
  let s' := (s.setDom d x).setFreq d f
  if x.state = .locked && beyond f && !beyond (s.int (K.domFreqAdjPpb d)) then s'.raise { src := 5 } else s'

/-- R308: what a completed Sync does: t2 its receive time on the domain clock, origin and correction its own times, ns. -/
def State.syncDone (s : State) (d : Nat) (t2 origin correction : Int) : State :=
  let x := s.dom d
  let diff := t2 - origin - correction
  let off := diff - x.pathDelay - s.int (K.domAsymmetryNs d)
  if !x.clockSet then
    let first := s.time.firstAcquire
    let s := { s with time := { s.time with firstAcquire := false } }
    let s := s.setDom d { x with clockSet := true, syncDiff := diff - off, inLock := 1 }
    (s.moveClock d (s.clock d - off * (unitsPerNs : Int)) first).showOffset d 0
  else
    let th := s.nat (K.domLockThresholdNs d)
    let good := decide (off.natAbs ≤ th)
    let bad := decide (4 * th < off.natAbs)
    let x := { x with syncDiff := diff, inLock := if good then x.inLock + 1 else 0, outLock := if bad then x.outLock + 1 else 0 }
    let s := ((s.setDom d x).showOffset d off).servoStep d off
    if x.state = .acquiring && decide (16 ≤ x.inLock) then s.domTo d .locked
    else if x.state = .locked && decide (4 ≤ x.outLock) then s.domTo d .holdover
    else s

/-- PTP_SYNC (R306 to R308): a Sync, or the Follow_Up that completes one, of the chosen master. -/
def execPtpSync (dom : DomainId) (msg : SyncMsg) (s : State) : Result := whenClocked s <|
  let d : Nat := dom
  let x := s.dom d
  let s := s.count (480 + d) (b2n (domHears s d msg.port && !msg.followUp))
  if !domHears s d msg.port || x.master != some (msg.port, msg.identity) || !(x.state == .acquiring || x.state == .locked) then .next s
  else
    let now : Int := (domainNs s d : Int) + s.int (K.tcorrIngressCorrNs msg.port)
    if msg.followUp then
      match x.twoStep with
      | some (seq, t2) =>
        if seq = msg.seq then .next (State.syncDone (s.setDom d { x with twoStep := none }) d t2 msg.origin msg.correction) else .next s
      | none => .next s
    else if msg.twoStep then .next (s.setDom d { x with twoStep := some (msg.seq, now - msg.correction) })
    else .next (s.syncDone d now msg.origin msg.correction)

/-- R306: whether domain d measures its delay with the peer mechanism. -/
def peerDelay (s : State) (d : Nat) : Bool := s.nat (K.domProfile d) == 1 || s.nat (K.domProfile d) == 3

/-- R306: the Delay_Req or Pdelay_Req of domain d on port p, as IEEE 1588 and IEEE 802.1AS lay it out (log entry 142). -/
def requestMessage (s : State) (d p seq : Nat) : Bytes :=
  let peer := peerDelay s d
  let gptp := s.nat (K.domProfile d) == 3
  let mac := (s.obj (K.portMacAddress p)).toBytes
  beBytes 1 (16 * b2n gptp + (if peer then 2 else 1)) ++ beBytes 1 0x12 ++ beBytes 2 (if peer then 54 else 44)
    ++ beBytes 1 (s.nat (K.domDomainNumber d)) ++ List.replicate 15 0 ++ mac.take 3 ++ beBytes 2 0xFFFE ++ mac.drop 3 ++ beBytes 2 (p + 1)
    ++ beBytes 2 seq ++ beBytes 1 (if peer then 5 else 1)
    ++ (if gptp then beBytes 1 (toPattern 8 (s.int (K.domDelayReqLogInterval d))) else beBytes 1 0x7F)
    ++ List.replicate (if peer then 20 else 10) 0

/-- R270, R271, R306: the frame of class 4 that carries it over the domain's Transport to the group of its messages. -/
def requestFrame (s : State) (d p seq : Nat) : TxFrame :=
  let peer := peerDelay s d
  let body := requestMessage s d p seq
  let f : TxFrame := match s.nat (K.domTransport d) with
    | 0 => udpFrame s p 4 ([0, 0, 0, 0, 0, 0, 0, 0, 0, 0, 0xFF, 0xFF] ++ (if peer then [224, 0, 0, 107] else [224, 0, 1, 129])) 319 319 body
    | 1 => udpFrame s p 4 ([0xFF, if peer then 0x02 else 0x0E] ++ List.replicate 12 0 ++ (if peer then [0, 0x6B] else [0x01, 0x81])) 319 319 body
    | _ => { port := p, cls := 4, tagged := true, vid := s.nat (K.portVlanId p), pcp := s.nat (K.portClassPcp p 4), ip := 0, dscp := 0,
             dst := if peer then [0x01, 0x80, 0xC2, 0, 0, 0x0E] else [0x01, 0x1B, 0x19, 0, 0, 0], dport := 0, sport := 0, payload := body }
  { f with ptp := some (d, seq) }

/-- DELAY_REQ_SEND (R270, R271, R306, R307, R416): the domain sends its Delay_Req, or its Pdelay_Req, from BoltReady on; the Mangle timestamps it
as it departs. -/
def execDelayReqSend (dom : DomainId) (s : State) : Result := whenClocked s <|
  let d : Nat := dom
  let x := s.dom d
  let port := if peerDelay s d then (List.range 8).find? (bit (s.nat (K.domPortMask d))) else x.master.map (·.1)
  match port with
  | none => .next s
  | some p =>
    if x.state = .disabled || !s.boot.boltReady then .next s
    else
      let seq := (x.delaySeq + 1) % 65536
      .next (((s.count (482 + d) 1).setDom d { x with delaySeq := seq, delayReq := none }).sendFrame (requestFrame s d p seq))

/-- PTP_DELAY_RESP (R306): the answer to the request in flight gives the mean path delay. -/
def execPtpDelayResp (dom : DomainId) (msg : DelayMsg) (s : State) : Result := whenClocked s <|
  let d : Nat := dom
  let x := s.dom d
  match x.delayReq with
  | none => .next s
  | some (seq, t) =>
    if seq != msg.seq || msg.peer != peerDelay s d then .next s
    else
      let p := if msg.peer then ((List.range 8).find? (bit (s.nat (K.domPortMask d)))).getD 0 else (x.master.map (·.1)).getD 0
      let now : Int := (domainNs s d : Int) + s.int (K.tcorrIngressCorrNs p)
      let sum : Int :=
        if msg.peer then (now - t) - (msg.peerSend - msg.receive) - msg.correction
        else x.syncDiff + (msg.receive - msg.correction - t)
      let mean := max 0 (sum / 2)
      .next ((s.setDom d { x with delayReq := none, pathDelay := mean }).set (K.domMeanPathDelayNs d) (clampInt 0 4294967295 mean))

/-! ## The active domain -/

/-- REVERT_HOLDOFF_EXPIRY (R311): primary has been Locked for RevertHoldoffS. -/
def execRevertHoldoffExpiry (s : State) : Result := whenClocked s <|
  match s.time.dom0.lockedAt with
  | some t =>
    let w := s.nat K.timeRevertHoldoffS
    if s.nat K.timeActiveDomainSelect = 0 && w != 0 && s.time.active = 1 && passed s t (w * 1000000000) then .next (s.switchTo 0).tryGate
    else .next s
  | none => .next s

/-- SLEW_COMPLETE (R311): e has reached 0. -/
def execSlewComplete (s : State) : Result := whenClocked s <|
  if s.time.slewing && slewError s = 0 then .next (State.raise { s with time := { s.time with slewing := false } } { src := 388 })
  else .next s

/-! ## Holdover references (R309) -/

/-- Whether a domain is in Holdover or in Freerun. -/
def coasting (x : DomainSt) : Bool := x.state == .holdover || x.state == .freerun

/-- EXTERNAL_REF_LOST (R309): the reference is absent for 3 s or out of range: holdover falls back to the last frequency. -/
def execExternalRefLost (s : State) : Result := whenClocked s <|
  if s.nat K.timeHoldoverReference = 0 || s.time.extDropped then .next s
  else
    let s := { s with time := { s.time with extDropped := true } }
    let s := [0, 1].foldl (fun s d => if coasting (s.dom d) then s.setFreq d (keptFreq (s.dom d)) else s) s
    .next (s.raise { src := 390 })

/-- EXTERNAL_REF_RETURN (R309): the reference is back within range; not where no edge of it has come for 3 s. -/
def execExternalRefReturn (s : State) : Result := whenClocked s <|
  if s.nat K.timeHoldoverReference = 0 || !s.time.extDropped || passed s s.time.extEdge 3000000000 then .next s
  else .next (State.raise { s with time := { s.time with extDropped := false } } { src := 390 })

/-- R309: an edge of the holdover reference: learned while a domain is Locked, followed while it coasts. -/
def State.refEdge (s : State) (pps : Bool) : State :=
  [0, 1].foldl (fun s d =>
    let x := s.dom d
    let now := s.clock d
    let seen : Int := if pps then ((domainNs s d % 1000000000 : Nat) : Int) else now - x.extLast
    let s := s.setDom d { x with extLast := now }
    if x.state = .locked then s.setDom d (if pps then { x with extPhase := seen, extLast := now } else { x with extRatio := seen, extLast := now })
    else if coasting x && !s.time.extDropped then
      let error := if pps then (seen - x.extPhase + 500000000) % 1000000000 - 500000000 else seen - x.extRatio
      let lim : Int := s.nat (K.domMaxFreqAdjPpb d)
      s.setFreq d (clampInt (-lim) lim (Config.refSteer error (s.int (K.domFreqAdjPpb d))))
    else s) { s with time := { s.time with extEdge := s.clk.ticks } }

/-! ## Pulses and captures (R315, R316) -/

/-- R315: the last leading edge instant of output n that lies at or before now, ns. -/
def pulseInstant (s : State) (n : Nat) : Option Nat :=
  let now := nowNs s
  let start := ofTime80 (s.int (K.pulseStartTime n))
  let off := s.int (K.pulseOffsetNs n)
  match s.nat (K.pulsePulseMode n) with
  | 1 => if start ≤ now then some start else none
  | 2 => if start ≤ now then some (start + (now - start) / max 1 (s.nat (K.pulsePeriodNs n)) * s.nat (K.pulsePeriodNs n)) else none
  | 3 =>
    let c := s.nat (K.pulseChannel n)
    let t : Int := (boundaryNs s.view c (rasterPic s.view c ((now : Rat) - (off : Rat))) : Int) + off
    if 0 ≤ t && t ≤ now then some t.toNat else none
  | 4 =>
    let t : Int := ((now : Int) - off) / 1000000000 * 1000000000 + off
    if 0 ≤ t then some t.toNat else none
  | _ => none

/-- PULSE_EDGE (R313, R315): output n places its leading edge, and its trailing edge WidthNs later. A one-shot fires once, at its target, or
at once where the target has passed as its settings came into force or in a step; another mode places the edges after its last one, after
a commit of its settings and after a step. -/
def execPulseEdge (n : Nat) (s : State) : Result := whenClocked s <|
  let p := AMap.getD s.time.pulses n {}
  let once := s.nat (K.pulsePulseMode n) == 1
  match pulseInstant s n with
  | none => .next s
  | some t =>
    if (once && p.fired) || (!once && decide (t ≤ p.from_)) then .next s
    else
      let excess := once && decide (s.time.stepFrom < t) && decide (t ≤ s.time.stepTo) && p.from_ == s.time.stepTo
      let at_ := if once then max t p.from_ else t
      let level := !s.flag (K.pulseActiveLow n)
      let s := { s with time := { s.time with pulses := AMap.put s.time.pulses n { from_ := at_, fired := once } } }
      let s := (s.emit (.pulse n level at_)).emit (.pulse n (!level) (at_ + s.nat (K.pulseWidthNs n)))
      .next (if excess then (s.bump (K.pulsePulseLateCount n)).raise { src := 408 + n, unit := n } else s)

/-- CAPTURE_EDGE (R309, R316, R438): an edge on capture input n is timestamped into its FIFO, or dropped and counted where the FIFO is
full or the Timekeeper's master is frozen. -/
def execCaptureEdge (n : Nat) (rising : Bool) (s : State) : Result := whenClocked s <|
  let ref := s.nat K.timeHoldoverReference
  let s := if rising && ref = 2 && s.nat K.timeHoldoverPpsInput = n then s.refEdge true else s
  if ref = 1 && n = 0 then .next (if rising then s.refEdge false else s)
  else
    let e := s.nat (K.capCaptureEdge n)
    if e = 0 || (e = 1 && !rising) || (e = 2 && rising) then .next s
    else
      let s := s.count (488 + n) 1
      let x := AMap.getD s.time.caps n {}
      if 16 ≤ x.fifo.length || s.isFrozen 36 then
        .next ((s.bump (K.capCaptureOverflow n)).raiseLimited (400 + n) { src := 400 + n, unit := n })
      else
        let r : CapRec := { time := nowNs s % 2 ^ 64, rising := rising, stepEpoch := stepEpoch s }
        let s := { s with time := { s.time with caps := AMap.put s.time.caps n { x with fifo := x.fifo ++ [r] } } }
        .next (s.set (K.capLastCapture n) (time80 (nowNs s)))

/-! ## Reads (R320) -/

/-- TIME_NOW_READ (R320): a read of TIME_NOW_LO latches presented time. -/
def execTimeNowRead (s : State) : Result := whenClocked s <| .next { s with clk := { s.clk with nowLatch := nowNs s % 2 ^ 64 } }

/-- CAPTURE_POP (R320): a read of TIME_CAPn_LO pops the oldest record and latches its HI and STAT; on an empty FIFO, Valid is 0 and
LO and HI are free values. -/
def execCapturePop (n : Nat) (s : State) : Result := whenClocked s <|
  let x := AMap.getD s.time.caps n {}
  match x.fifo with
  | [] =>
    let y := { x with latchLo := (Config.freeWord s.freeCtr).toNat, latchHi := (Config.freeWord (s.freeCtr + 1)).toNat, latchStat := 0 }
    .next ({ s with time := { s.time with caps := AMap.put s.time.caps n y } } : State).nextFree.nextFree
  | r :: t =>
    let y := { x with fifo := t, latchLo := r.time % 2 ^ 32, latchHi := r.time / 2 ^ 32,
                      latchStat := 2 ^ 31 + 2 ^ 30 * b2n r.rising + 2 ^ 16 * r.stepEpoch + t.length }
    .next { s with time := { s.time with caps := AMap.put s.time.caps n y } }

end Sys2Proof.Machine
end

