-- ==== Sys2Proof/Machine/Shuttle.lean ====
section
/-!
DEFINITION. Sys2Proof/Machine/Shuttle.lean: the Shuttle: threads, their wakes and their dispatch (R390 to R399).
-/

namespace Sys2Proof.Machine

/-! ## Threads and ready lists -/

/-- A thread's context. -/
def State.thread (s : State) (t : Nat) : Thread := AMap.getD s.shtl.threads t {}
/-- A thread's context set. -/
def State.setThread (s : State) (t : Nat) (x : Thread) : State :=
  { s with shtl := { s.shtl with threads := AMap.put s.shtl.threads t x } }
/-- A Bolt core. -/
def State.core (s : State) (c : Nat) : CoreSt := AMap.getD s.shtl.cores c {}
/-- A Bolt core set. -/
def State.setCore (s : State) (c : Nat) (x : CoreSt) : State :=
  { s with shtl := { s.shtl with cores := AMap.put s.shtl.cores c x } }

/-- Whether an energy class is gated (R399 ClassGate). -/
def gated (s : State) (cls : Nat) : Bool := bit (s.nat K.govClassGate) cls

/-- R390 Queued: whether a thread stands in a ready list. -/
def isQueued (x : Thread) : Bool := x.state == .ready || x.state == .deferred

/-- The ready list of a level, the head first. -/
def readyList (s : State) (level : Nat) : List Nat := AMap.getD s.shtl.ready level []

/-- A thread leaves the ready list of its level. -/
def State.unqueue (s : State) (t : Nat) : State :=
  { s with shtl := { s.shtl with ready := AMap.upd s.shtl.ready (s.thread t).priority [] fun l => l.filter (· != t) } }

/-- R399: a thread that is Ready in a gated class becomes Deferred, and one that is Deferred in a class that is not becomes Ready. -/
def State.regate (s : State) (t : Nat) : State :=
  let x := s.thread t
  if x.state = .ready && gated s x.cls && !x.released then
    (s.setThread t { x with state := .deferred, deferCount := (x.deferCount + 1) % 2 ^ 32, since := s.clk.ticks }).count (724 + x.cls) 1
  else if x.state = .deferred && !gated s x.cls then s.setThread t { x with state := .ready, since := s.clk.ticks }
  else s

/-- R391, R393: a thread becomes Ready at the tail or at the head of its level; at the tail it takes a new ticket. -/
def State.makeReady (s : State) (t : Nat) (head : Bool) : State :=
  let x := s.thread t
  let s := s.setThread t { x with state := .ready, since := s.clk.ticks, readySeq := if head then x.readySeq else s.shtl.nextSeq }
  let l := readyList s x.priority
  let s := { s with shtl := { s.shtl with
    ready := AMap.put s.shtl.ready x.priority (if head then t :: l else l ++ [t]),
    nextSeq := if head then s.shtl.nextSeq else (s.shtl.nextSeq + 1) % 2 ^ 32 } }
  s.regate t

/-- The runs of a core that touch the last second. -/
def recentRuns (s : State) (l : List (Nat × Nat)) : List (Nat × Nat) := l.filter fun r => !passed s r.2 1000000000

/-- A core's running thread leaves it: its time on the core is counted. -/
def State.leaveCore (s : State) (c : Nat) : State :=
  let k := s.core c
  match k.running with
  | none => s
  | some t =>
    let x := s.thread t
    let s := s.setThread t { x with runTimeTicks := x.runTimeTicks + (s.clk.ticks - x.since) }
    s.setCore c { k with running := none, nextValid := false, nextPreempt := false,
                         busy := recentRuns s ((x.since, s.clk.ticks) :: k.busy) }

/-- A thread that stands in no list and on no core becomes Cancelled. -/
def State.cancelled (s : State) (t : Nat) : State :=
  let x := s.thread t
  s.setThread t { x with state := .cancelled, cancelPending := false, overdue := false, released := false, since := s.clk.ticks }

/-! ## Commands of the cores (R392, R396) -/

/-- R392: the result of a core's command. -/
def State.result (s : State) (c code t : Nat) : State :=
  s.setCore c { s.core c with resultDone := true, resultCode := code, resultThread := t }

/-- R392, R396, R438: a command of core c: a frozen core issues none; a running thread that is to be cancelled ends first. -/
def State.coreCommand (s : State) (c : Nat) (f : State → State) : State :=
  if s.isFrozen (2 + c) || !s.boot.spindle then s
  else
    let s := s.setCore c { s.core c with lastCommand := s.clk.ticks }
    let s := match (s.core c).running with
      | some t => if (s.thread t).cancelPending then (s.leaveCore c).cancelled t else s
      | none => s
    f s

/-- The lowest Free context. -/
def lowestFree (s : State) : Option Nat := (List.range 4096).find? fun t => (s.thread t).state == .free

/-- CREATE (R392): the lowest Free context becomes Blocked with the given level, class and affinity. -/
def execCreate (core : CoreId) (level cls mask : Nat) (s : State) : Result := whenClocked s <|
  let c : Nat := core
  .next (s.coreCommand c fun s =>
    match lowestFree s with
    | none => ((s.bump K.shtlCreateRefused).result c 1 0).raiseLimited 546 { src := 546 }
    | some t =>
      (s.setThread t { s.thread t with state := .blocked, priority := level % 64, cls := cls % 4, affinity := mask % 256, wakeCount := 0,
                                       since := s.clk.ticks }).result c 0 t)

/-- WAKE (R392, R393): a wake of a thread enters the intake, or is refused for a Free one. -/
def execWake (core : CoreId) (thread : Nat) (s : State) : Result := whenClocked s <|
  let c : Nat := core
  let t := thread % 4096
  .next (s.coreCommand c fun s => if (s.thread t).state = .free then s.result c 2 t else (s.wakeThread t).result c 0 t)

/-- BLOCK (R392): the issuing thread becomes Blocked, or consumes a wake and goes on. -/
def execBlock (core : CoreId) (s : State) : Result := whenClocked s <|
  let c : Nat := core
  .next (s.coreCommand c fun s =>
    match (s.core c).running with
    | none => s.result c 0 0
    | some t =>
      let x := s.thread t
      if x.wakeCount = 0 then
        let s := s.leaveCore c
        (s.setThread t { s.thread t with state := .blocked, since := s.clk.ticks }).result c 0 t
      else (s.setThread t { x with wakeCount := x.wakeCount - 1 }).result c 0 t)

/-- YIELD (R392): the issuing thread goes to the tail of its level. -/
def execYield (core : CoreId) (s : State) : Result := whenClocked s <|
  let c : Nat := core
  .next (s.coreCommand c fun s =>
    match (s.core c).running with
    | none => s.result c 0 0
    | some t => ((s.leaveCore c).makeReady t false).result c 0 t)

/-- EXIT (R392): the issuing thread becomes Cancelled. -/
def execExit (core : CoreId) (s : State) : Result := whenClocked s <|
  let c : Nat := core
  .next (s.coreCommand c fun s =>
    match (s.core c).running with
    | none => s.result c 0 0
    | some t => ((s.leaveCore c).cancelled t).result c 0 t)

/-- R396: Cancel by the thread's state. -/
def State.cancelThread (s : State) (t : Nat) : State :=
  let x := s.thread t
  match x.state with
  | .free => s
  | .cancelled => s
  | .running => if x.cancelPending then s else s.setThread t { x with cancelPending := true, cancelSince := s.clk.ticks, overdue := false }
  | .blocked => s.cancelled t
  | .ready => (s.unqueue t).cancelled t
  | .deferred => (s.unqueue t).cancelled t

/-- CANCEL (R392, R396): a thread ends, or is marked to end where it runs. -/
def execCancel (core : CoreId) (thread : Nat) (s : State) : Result := whenClocked s <|
  let c : Nat := core
  let t := thread % 4096
  .next (s.coreCommand c fun s => if (s.thread t).state = .free then s.result c 2 t else (s.cancelThread t).result c 0 t)

/-- SET_PRIORITY (R392): a thread moves to a new level, at its tail where it stands in a list. -/
def execSetPriority (core : CoreId) (thread level : Nat) (s : State) : Result := whenClocked s <|
  let c : Nat := core
  let t := thread % 4096
  .next (s.coreCommand c fun s =>
    let x := s.thread t
    if x.state = .free || x.state = .cancelled then s.result c 2 t
    else if isQueued x then
      let s := s.unqueue t
      (State.makeReady (s.setThread t { x with priority := level % 64 }) t false).result c 0 t
    else (s.setThread t { x with priority := level % 64 }).result c 0 t)

/-- SET_CLASS (R392): a thread's energy class and affinity change; a mask of 0 is refused. -/
def execSetClass (core : CoreId) (thread cls mask : Nat) (s : State) : Result := whenClocked s <|
  let c : Nat := core
  let t := thread % 4096
  .next (s.coreCommand c fun s =>
    let x := s.thread t
    if x.state = .free || x.state = .cancelled then s.result c 2 t
    else if mask % 256 = 0 then s.result c 3 t
    else (State.regate (s.setThread t { x with cls := cls % 4, affinity := mask % 256 }) t).result c 0 t)

/-- R392: a thread's binding is removed. -/
def State.unbind (s : State) (t : Nat) : State :=
  let s := { s with shtl := { s.shtl with bound := s.shtl.bound.filter fun b => b.2 != t } }
  s.setThread t { s.thread t with boundSource := 0xFFFF }

/-- FREE (R392): a Cancelled thread becomes Free and its binding is removed. -/
def execFree (core : CoreId) (thread : Nat) (s : State) : Result := whenClocked s <|
  let c : Nat := core
  let t := thread % 4096
  .next (s.coreCommand c fun s =>
    if (s.thread t).state != .cancelled then s.result c 4 t
    else
      let s := s.unbind t
      (s.setThread t { s.thread t with state := .free }).result c 0 t)

/-- BIND (R392): an event source is bound to a thread in place of any earlier one. -/
def execBind (core : CoreId) (thread source : Nat) (s : State) : Result := whenClocked s <|
  let c : Nat := core
  let t := thread % 4096
  .next (s.coreCommand c fun s =>
    if 639 < source then s.result c 5 t
    else
      let s := match AMap.find? s.shtl.bound source with
        | some u => s.setThread u { s.thread u with boundSource := 0xFFFF }
        | none => s
      let s := s.unbind t
      let s := { s with shtl := { s.shtl with bound := AMap.put s.shtl.bound source t } }
      (s.setThread t { s.thread t with boundSource := source }).result c 0 t)

/-! ## Wakes (R393, R394) -/

/-- R393, R396: a wake reaches a thread. -/
def State.wakeReaches (s : State) (t : Nat) : State :=
  let x := s.thread t
  let s := s.setThread t { x with readyCount := (x.readyCount + 1) % 2 ^ 32,
                                  wakeCount := if isQueued x || x.state == .running then min 65535 (x.wakeCount + 1) else x.wakeCount }
  match x.state with
  | .blocked => s.makeReady t false
  | .cancelled => s.bump K.shtlWakesAfterCancel
  | _ => s

/-- WAKE_INTAKE (R394): the oldest wake of the intake is delivered, and one that waits at its source takes the free place. -/
def execWakeIntake (s : State) : Result := whenClocked s <|
  match s.shtl.intake with
  | [] => .next s
  | t :: rest =>
    let s := { s with shtl := { s.shtl with intake := rest ++ s.shtl.stalled.take 1, stalled := s.shtl.stalled.drop 1 } }
    .next (s.wakeReaches t)

/-! ## Dispatch (R395, R397) -/

/-- Whether a core stands idle and can take a thread. -/
def coreIdle (s : State) (c : Nat) : Bool := (s.core c).running.isNone && !s.isFrozen (2 + c)

/-- The lowest-numbered idle core in a thread's mask. -/
def idleCore (s : State) (x : Thread) : Option Nat := (List.range 8).find? fun c => bit x.affinity c && coreIdle s c

/-- The Ready threads that core c may take at the highest level that holds one, the oldest first. -/
def coreCandidates (s : State) (c : Nat) : List Nat :=
  let at_ (level : Nat) : List Nat := (readyList s level).filter fun t => (s.thread t).state == .ready && bit (s.thread t).affinity c
  match ((List.range 64).reverse.map at_).find? (fun l => !l.isEmpty) with
  | some l => l
  | none => []

/-- R397: whether a thread is left for the core it last ran on. -/
def leftForLast (s : State) (x : Thread) : Bool :=
  bit x.affinity x.lastCore && coreIdle s x.lastCore && !passed s x.since (s.nat K.shtlAffinityHoldNs)

/-- R395, R397: the thread that idle core c takes. -/
def idleChoice (s : State) (c : Nat) : Option Nat :=
  let l := coreCandidates s c
  let lowest (t : Nat) : Bool := idleCore s (s.thread t) == some c
  if s.nat K.shtlDispatchPolicy = 1 then l.find? lowest
  else
    match l.find? (fun t => (s.thread t).lastCore == c) with
    | some t => some t
    | none => l.find? fun t => !leftForLast s (s.thread t) && lowest t

/-- The priority that a core runs. -/
def corePriority (s : State) (c : Nat) : Option Nat := (s.core c).running.map fun t => (s.thread t).priority

/-- R395: the core that a Ready thread without an idle core preempts: the one in its mask that runs the lowest priority below its own,
the highest number among equals. -/
def preemptCore (s : State) (x : Thread) : Option Nat :=
  (List.range 8).foldl (fun (best : Option Nat) c =>
    if !bit x.affinity c || s.isFrozen (2 + c) then best
    else
      match corePriority s c with
      | none => best
      | some p =>
        if x.priority ≤ p then best
        else match best.bind (corePriority s) with
          | some b => if p ≤ b then some c else best
          | none => some c) none

/-- R395: the thread that busy core c takes by preemption. -/
def preemptChoice (s : State) (c : Nat) : Option Nat :=
  (coreCandidates s c).find? fun t => (idleCore s (s.thread t)).isNone && preemptCore s (s.thread t) == some c

/-- R395, R396: a thread is placed on a core; one that runs there goes back to the head of its level, or ends if it is to be cancelled. -/
def State.place (s : State) (c t : Nat) : State :=
  let old := (s.core c).running
  let s := match old with
    | none => s
    | some u =>
      let s := s.leaveCore c
      if (s.thread u).cancelPending then s.cancelled u else s.makeReady u true
  let s := s.unqueue t
  let x := s.thread t
  let s := s.setThread t { x with state := .running, lastCore := c, dispatchCount := (x.dispatchCount + 1) % 2 ^ 32, since := s.clk.ticks,
                                  released := false }
  let s := ((s.count (720 + x.cls) 1).count (656 + 8 * c + 3) 1).count (656 + 8 * c + 4) (b2n old.isSome)
  s.setCore c { s.core c with running := some t, nextValid := true, nextPreempt := old.isSome, nextThread := t, lastCommand := s.clk.ticks }

/-- DISPATCH (R395, R397): a core takes the thread that is due to it, if any. -/
def execDispatch (core : CoreId) (s : State) : Result := whenClocked s <|
  let c : Nat := core
  if s.isFrozen (2 + c) then .next s
  else
    match if coreIdle s c then idleChoice s c else preemptChoice s c with
    | some t => .next (s.place c t)
    | none => .next s

/-- AFFINITY_HOLD_EXPIRY (R397): a thread that has been left for its last core for AffinityHoldNs is taken by any idle core. -/
def execAffinityHoldExpiry (thread : Nat) (s : State) : Result := whenClocked s <|
  let t := thread % 4096
  let x := s.thread t
  if x.state != .ready || !passed s x.since (s.nat K.shtlAffinityHoldNs) then .next s
  else
    match (List.range 8).find? fun c => coreIdle s c && idleChoice s c == some t with
    | some c => .next (s.place c t)
    | none => .next s

/-- CANCEL_GRACE_EXPIRY (R396): the core of a thread that is to be cancelled has neither issued a command nor taken a dispatch. -/
def execCancelGraceExpiry (thread : Nat) (s : State) : Result := whenClocked s <|
  let t := thread % 4096
  let x := s.thread t
  if x.state != .running || !x.cancelPending || x.overdue || !passed s x.cancelSince (s.nat K.shtlCancelGraceUs * 1000) then .next s
  else .next (State.raise (s.setThread t { x with overdue := true }) { src := 545 })

/-- DEFER_LIMIT_EXPIRY (R399): a thread that has been Deferred for the limit of its class becomes Ready, to be dispatched once. -/
def execDeferLimitExpiry (thread : Nat) (s : State) : Result := whenClocked s <|
  let t := thread % 4096
  let x := s.thread t
  let limit := if x.cls = 3 then s.nat K.shtlBulkDeferLimitMs else s.nat K.shtlDeferLimitMs
  if x.state != .deferred || !passed s x.since (limit * 1000000) then .next s
  else .next (State.bump (s.setThread t { x with state := .ready, released := true, since := s.clk.ticks }) K.shtlDeferReleases)

/-- R438: a frozen core's running thread becomes Cancelled and counts in ReadyCount. -/
def State.coreFrozen (s : State) (c : Nat) : State :=
  match (s.core c).running with
  | none => s
  | some t =>
    let s := (s.leaveCore c).cancelled t
    s.setThread t { s.thread t with readyCount := ((s.thread t).readyCount + 1) % 2 ^ 32 }

end Sys2Proof.Machine
end

