-- ==== Sys2Proof/Machine/Governor.lean ====
section
/-!
DEFINITION. Sys2Proof/Machine/Governor.lean: the Budget Governor: samples, thermal states and loom effort (R399 to R405).
-/

namespace Sys2Proof.Machine

/-! ## Loads -/

/-- The channels that have a position on loom l. -/
def loomChannels (s : State) (l : Nat) : List Nat :=
  (List.range 16).filter fun c => (s.chan c).positions.any fun p => p.loom == l

/-- R153: Active(l), samples a second. -/
def activeLoad (s : State) (l : Nat) : Rat :=
  ((loomChannels s l).map fun c =>
    q (((s.chan c).positions.filter fun p => p.loom == l).length) * activeRate s.view c / q (max 1 (s.chan c).positions.length)).sum

/-- R404: 1.25 × s_out × Active(l), bytes a second, over the channels of loom l. -/
def secondRef (s : State) (l : Nat) : Rat :=
  ((loomChannels s l).map fun c =>
    let out : Rat := if s.nat (K.loomChromaFormat c) = 0 then 3 / 2 else 2
    5 / 4 * out * q (((s.chan c).positions.filter fun p => p.loom == l).length) * activeRate s.view c
      / q (max 1 (s.chan c).positions.length)).sum

/-- R168: the power of a loom at an effort for each Gsample/s, in 0.01 W. -/
def loomPower (e : Nat) : Nat := [50, 62, 74, 86, 100, 120, 138, 155].getD e 155

/-- The charge for the step from effort e to e + 1 on loom l, in 0.1 W. -/
def stepPower (s : State) (l e : Nat) : Rat := q (loomPower (e + 1) - loomPower e) / 10 * (activeLoad s l / 1000000000)

/-- R402: the looms in service. -/
def serviceLooms (s : State) : List Nat := (List.range 16).filter fun l => s.nat (K.loomGLoomState l) == 1

/-- R402: Cap_l. -/
def effortCap (s : State) (l : Nat) : Nat :=
  min (s.nat (K.govLoomEffortCap l)) (maxOf ((loomChannels s l).map fun c => s.nat (K.loomMaxEffort c)))

/-- E_l. -/
def effortOf (m : AMap Nat) (l : Nat) : Nat := AMap.getD m l 0

/-- P_meas of the last period, 0.1 W. -/
def powerMeasured (s : State) : Rat := q s.gov.measSum / q (max 1 s.gov.measN)

/-! ## Thermal state (R403) -/

/-- T_max, 0.1 °C, if any sensor counts. -/
def junctionMax (s : State) : Option Int :=
  ((List.range 24).filter fun i => !bit (s.nat K.govSensorsExcluded) i).foldl (fun (m : Option Int) i =>
    match AMap.find? s.gov.lastTemp i with
    | none => m
    | some t => match m with | none => some t | some u => some (max t u)) none

/-- R403: the thermal state after a reading of T_max. -/
def nextThermal (s : State) (t : Int) : Nat :=
  let target : Int := 10 * s.int K.govThermalTargetC
  match s.gov.thermal with
  | 0 => if 1030 ≤ t then 2 else if target ≤ t then 1 else 0
  | 1 => if 1030 ≤ t then 2 else if t < target - 30 then 0 else 1
  | 2 => if t < 1000 then 1 else 2
  | _ => if t < 1030 then 2 else 3

/-- R403: the thermal state changes; entering or leaving Target is an event. -/
def State.toThermal (s : State) (n : Nat) : State :=
  let old := s.gov.thermal
  if old = n then s
  else
    let s := State.setN { s with gov := { s.gov with thermal := n } } K.govThermalState n
    if old = 1 || n = 1 then s.raise { src := 549 } else s

/-- R403: since when a condition has held. -/
def heldSince (s : State) (old : Option Nat) (now : Bool) : Option Nat := if now then some (old.getD s.clk.ticks) else none

/-! ## Samples (R400, R405) -/

/-- R400, R405: every loom goes to effort 0. -/
def State.allFloor (s : State) : State := { s with gov := { s.gov with effort := [] } }

/-- R405, R501: a fast cut. -/
def State.fastCut (s : State) : State :=
  let s := State.allFloor { s with gov := { s.gov with fastCut := true, fastCutAt := some s.clk.ticks } }
  ((s.bump K.govFastCutCount).count 730 1).raise { src := 552 }

/-- R501: whether any of rails 0 to 6 lies below its window. -/
def railsLow (s : State) : Bool := s.power.low % 128 != 0

/-- R400: one sensor's reading: it is excluded until reset when it is out of range or has jumped. -/
def State.sensor (s : State) (i : Nat) (t : Int) : State :=
  let ex := s.nat K.govSensorsExcluded
  let jump := match AMap.find? s.gov.lastTemp i with | some u => decide (200 < t - u) || decide (200 < u - t) | none => false
  let bad := decide (t < -400) || decide (1500 < t) || jump
  let s := State.set { s with gov := { s.gov with lastTemp := AMap.put s.gov.lastTemp i t } } (K.govSensorTemp i) (clampInt (-32768) 32767 t)
  if bad && !bit ex i then (s.setN K.govSensorsExcluded (setBit ex i true)).raise { src := 554 } else s

/-- R400: with more than four sensors excluded every loom is held at effort 0. -/
def sensorsLost (s : State) : Bool := decide (4 < ((List.range 24).filter (bit (s.nat K.govSensorsExcluded))).length)

/-- GOVERNOR_SAMPLE (R400, R403, R405): every 100 µs the sensors, in 0.1 °C, and the rail estimators, in 0.1 W, are sampled. -/
def execGovernorSample (sensors : List Int) (rails : List Nat) (s : State) : Result := whenClocked s <|
  if !s.boot.spindle || !passed s s.gov.lastSample 100000 then .next s
  else
    let s := (sensors.take 24).zipIdx.foldl (fun s (t, i) => s.sensor i t) s
    let s := (rails.take 8).zipIdx.foldl (fun s (p, i) => s.setN (K.govRailPower i) (p % 65536)) s
    let p := ((rails.take 8).map (· % 65536)).sum
    let s := { s with gov := { s.gov with sumPower := s.gov.sumPower + p, samples := s.gov.samples + 1, lastSample := s.clk.ticks } }
    let s := match junctionMax s with
      | none => s
      | some t =>
        let s := (s.set K.govJunctionMax (clampInt (-32768) 32767 t)).toThermal (nextThermal s t)
        { s with gov := { s.gov with ceilingSince := heldSince s s.gov.ceilingSince (decide (1050 ≤ t) && s.gov.thermal == 2) } }
    let hot := ((List.range 24).filter fun i => !bit (s.nat K.govSensorsExcluded) i
      && (match AMap.find? s.gov.lastTemp i with | some t => decide ((1150 : Int) ≤ t) | none => false)).length
    let s := { s with gov := { s.gov with tripSince := heldSince s s.gov.tripSince (decide (2 ≤ hot)) } }
    let s := if sensorsLost s then s.allFloor else s
    .next (if s.nat K.govBoardPowerLimit * (100 + s.nat K.govFastCutPercent) < 100 * p then s.fastCut else s)

/-! ## Periods (R402, R404) -/

/-- A loom lowered by one level. -/
def lower (m : AMap Nat) (l : Nat) : AMap Nat := AMap.put m l (effortOf m l - 1)

/-- R402: the next loom to lower: the highest effort, the highest number among equals. -/
def toLower (m : AMap Nat) (ls : List Nat) : Option Nat :=
  ls.foldl (fun (b : Option Nat) l =>
    if effortOf m l = 0 then b
    else match b with
      | none => some l
      | some x => if effortOf m x ≤ effortOf m l then some l else b) none

/-- R402 step 1: looms are lowered one level at a time until the predicted power is within the limit. At most 7 × 16 steps. -/
def cutPower (s : State) (ls : List Nat) (limit : Rat) : Nat → Rat → AMap Nat → AMap Nat
  | 0, _, m => m
  | n + 1, p, m =>
    if p ≤ limit then m
    else match toLower m ls with
      | none => m
      | some l => cutPower s ls limit n (p - stepPower s l (effortOf m l - 1)) (lower m l)

/-- R404: the floor costs of the channels that the DRAM check of R381 does not hold, and the Governor's allowance, bytes a second. -/
def floorTotal (s : State) : Rat :=
  (((List.range 16).filter fun c => !bit (s.nat K.beamNotFittingMask) c).map fun c => dramCost s.view (fun d => (s.reed d).rotDelay) c 1).sum + 3000000000

/-- R31, R404: the sustained bandwidth that counts: the lower set point while a change is in progress. -/
def bandwidthInForce (s : State) : Rat :=
  let b := sustained s.beam.setPoint
  match s.beam.switching with
  | some p => min b (sustained p)
  | none => b

/-- R404: whether efforts keep the DRAM traffic within the bandwidth. -/
def dramHolds (s : State) (ls : List Nat) (m : AMap Nat) : Bool :=
  decide (floorTotal s + ((ls.filter fun l => decide (4 ≤ effortOf m l)).map (secondRef s)).sum ≤ bandwidthInForce s)

/-- R404: looms go to effort 3, the highest number first, until the traffic fits; with them the looms that were lowered. -/
def cutDram (s : State) (ls : List Nat) (m : AMap Nat) : AMap Nat × List Nat :=
  ls.reverse.foldl (fun (acc : AMap Nat × List Nat) l =>
    if decide (4 ≤ effortOf acc.1 l) && !dramHolds s ls acc.1 then (AMap.put acc.1 l 3, l :: acc.2) else acc) (m, [])

/-- What a round of raises has come to. -/
structure Raising where
  efforts : AMap Nat
  headroom : Rat
  /-- R402: raising has stopped at a loom that does not fit -/
  stopped : Bool := false
  /-- R404: looms held below their cap -/
  held : List Nat := []
  deriving DecidableEq, Repr

/-- R402 step 3 for one loom. -/
def raiseLoom (s : State) (ls : List Nat) (loaded : Bool) (r : Raising) (l : Nat) : Raising :=
  let e := effortOf r.efforts l
  if r.stopped || decide (effortCap s l ≤ e) || r.held.contains l then r
  else
    let m := AMap.put r.efforts l (e + 1)
    if e = 3 && (loaded || !dramHolds s ls m) then { r with held := l :: r.held }
    else if r.headroom < stepPower s l e then { r with stopped := true }
    else { r with efforts := m, headroom := r.headroom - stepPower s l e }

/-- R402: the order of raises: the lowest effort first, among equals the lowest loom number. -/
def raiseOrder (ls : List Nat) (m : AMap Nat) : List Nat :=
  ((List.range 8).map fun e => ls.filter fun l => effortOf m l == e).flatten

/-- R402 step 3: up to so many rounds of one level each. -/
def raiseRounds (s : State) (ls : List Nat) (loaded : Bool) : Nat → Raising → Raising
  | 0, r => r
  | n + 1, r => raiseRounds s ls loaded n ((raiseOrder ls r.efforts).foldl (raiseLoom s ls loaded) r)

/-- R399: ClassGate, and the threads of the classes that it changes. -/
def State.setGate (s : State) (g : Nat) : State :=
  if s.nat K.govClassGate = g then s
  else
    let s := (s.setN K.govClassGate g).raise { src := 547 }
    (s.shtl.threads.map (·.1)).foldl (fun s t => s.regate t) s

/-- GOVERNOR_PERIOD (R399, R402, R404): every GovernorPeriodUs the Governor cuts or raises the looms' effort. -/
def execGovernorPeriod (s : State) : Result := whenClocked s <|
  if !s.boot.spindle || !passed s s.gov.lastPeriod (s.nat K.govGovernorPeriodUs * 1000) then .next s
  else
    let g := s.gov
    let s := { s with gov := { g with measSum := if g.samples = 0 then g.measSum else g.sumPower,
                                      measN := if g.samples = 0 then g.measN else g.samples, sumPower := 0, samples := 0,
                                      lastPeriod := s.clk.ticks } }
    let s := if !railsLow s && (match g.fastCutAt with | some t => passed s t 10000000 | none => true) then { s with gov := { s.gov with fastCut := false } } else s
    let p := powerMeasured s
    let s := s.setN K.govPowerMeasured (floorN p % 65536)
    let s := if q (s.nat K.govBoardPowerLimit) < p then s.raiseLimited 551 { src := 551 } else s
    let ls := serviceLooms s
    let limit := q (s.nat K.govBoardPowerLimit) - q (s.nat K.govPowerMarginW)
    let before : AMap Nat := (List.range 16).map fun l => (l, min (effortOf s.gov.effort l) (effortCap s l))
    let m1 := if limit < p then cutPower s ls limit 128 p before else before
    let m2 := if s.gov.thermal = 1 then ls.foldl lower m1 else m1
    let m3 := if 2 ≤ s.gov.thermal || sensorsLost s then ls.foldl (fun m l => AMap.put m l 0) m2 else m2
    let cut := ls.any fun l => decide (effortOf m3 l < effortOf before l)
    let (m4, dramCut) := cutDram s ls m3
    let cool := s.gov.thermal == 0 && decide (s.int K.govJunctionMax < 10 * s.int K.govThermalTargetC - 30)
    let free := !(limit < p) && cool && !s.gov.fastCut && !sensorsLost s
    let loaded := decide (s.nat K.govDramLoadCeilingPermille < s.nat K.beamBeamLoadPermille)
    let r0 : Raising := { efforts := m4, headroom := limit - p, held := dramCut }
    let r := if free then raiseRounds s ls loaded (s.nat K.govRaiseLevelsPerPeriod) r0 else r0
    let below (l : Nat) : Bool := decide (effortOf r.efforts l < effortCap s l)
    let held := r.held.filter below
    let wanted := ls.any fun l => below l && !held.contains l && (!free || cut || r.stopped)
    let s := { s with gov := { s.gov with effort := r.efforts } }
    let s := if cut then s.raise { src := 548 } else s
    let s := s.setN K.govDramHeldLooms (maskOf 16 held.contains)
    let s := if held.isEmpty then s else s.raise { src := 553 }
    let s := ((s.count 731 1).count 728 ((ls.map fun l => effortOf before l - effortOf m4 l).sum)).count 729
      ((ls.map fun l => effortOf r.efforts l - effortOf m4 l).sum)
    .next (s.setGate (8 * b2n wanted + 4 * b2n (decide (2 ≤ s.gov.thermal) || s.gov.fastCut)))

/-- THERMAL_CEILING_ENTRY (R403): T_max has been at 105 °C or more for 10 ms in Floor. -/
def execThermalCeilingEntry (s : State) : Result := whenClocked s <|
  match s.gov.ceilingSince with
  | some t =>
    if s.gov.thermal = 2 && passed s t 10000000 then
      .next (State.raise (State.toThermal { s with gov := { s.gov with ceilingSince := none } } 3) { src := 550 })
    else .next s
  | none => .next s

end Sys2Proof.Machine
end

