-- ==== Sys2Proof/Machine/Train.lean ====
section
/-!
DEFINITION. Sys2Proof/Machine/Train.lean: the Beam's training: margin checks, retraining attempts, set-point changes, the DRAM check
that follows them, and beam-failed state (R377 to R382).
-/

namespace Sys2Proof.Machine

/-- R376: the Beam is seen busy. -/
def State.beamBusy (s : State) : State := { s with beam := { s.beam with idleSince := s.clk.ticks } }

/-- R389: the Beam's state. -/
def beamMode (s : State) : BeamMode :=
  if s.beam.failed then .failed
  else if s.beam.switching.isSome then .switching
  else if s.beam.selfRefresh then .selfRefresh
  else if !s.beam.trained then .training
  else if s.nat K.beamMaxSetPoint < s.beam.setPoint then .reduced
  else .normal

/-- R386, R516: BeamState, SetPoint and SustainedMBps as they now read. -/
def State.showBeam (s : State) : State :=
  let s := s.setN K.beamBeamState (beamMode s).code
  let s := s.setN K.beamSetPoint (if s.beam.trained then s.beam.setPoint else 0)
  s.setN K.beamSustainedMBps (if s.beam.failed || !s.beam.trained then 0 else floorN (sustained s.beam.setPoint / 1000000))

/-! ## The DRAM check (R31, R381) -/

/-- R381: what the check removes from: the channels that count, with their floor costs as committed. -/
def checkCost (s : State) (c : Nat) : Rat := dramCost s.cview (fun d => (s.reed d).rotDelay) c 1

/-- R381: the channels in the order in which the check holds them: the commit that last raised a cost first, and among the channels of
one commit, as among those that no commit has raised, the highest number first. -/
def holdOrder (s : State) : List Nat :=
  s.beam.costOrder ++ ((List.range 16).filter fun c => !s.beam.costOrder.contains c).reverse

/-- R381, R385: the channels in ShedOrder before its first 0xFF. -/
def shedOrder (s : State) : List Nat := ((List.range 16).map fun i => s.nat (K.beamShedOrder i)).takeWhile (· < 16)

/-- R381: channels of a list are removed in order until the costs fit: the costs that remain and the channels removed. -/
def removeUntil (cost : Nat → Rat) (limit : Rat) (order : List Nat) (total : Rat) : Rat × List Nat :=
  order.foldl (fun (acc : Rat × List Nat) c =>
    if acc.1 ≤ limit || acc.2.contains c then acc else (acc.1 - cost c, c :: acc.2)) (total, [])

/-- R31, R381: the check against the set point in force; only a set-point change sheds. -/
def State.dramCheck (s : State) (sheds : Bool) : State :=
  let shed := s.nat K.beamShedMask
  let counts := (List.range 16).filter fun c => !bit shed c
  let mine := counts.filter fun c => encoded s.cview c
  let cost := checkCost s
  let total := (counts.map cost).sum + 3000000000
  let limit := bandwidthInForce s
  let (t1, out1) := if sheds then removeUntil cost limit ((shedOrder s).filter mine.contains) total else (total, [])
  let (_, out2) := removeUntil cost limit ((holdOrder s).filter fun c => mine.contains c && !out1.contains c) t1
  let shed' := maskOf 16 fun c => bit shed c || out1.contains c
  let held := maskOf 16 out2.contains
  if shed' = shed && held = s.nat K.beamNotFittingMask then s
  else ((s.setN K.beamShedMask shed').setN K.beamNotFittingMask held).raise { src := 521 }

/-! ## Beam-failed state (R382) -/

/-- R382, R383: a flight to DRAM ends without the DRAM: reads of zeros, writes discarded. -/
def Flight.blank (f : Flight) : Flight :=
  if f.txn.target = .dram && !f.done then
    { f with accepted := true, done := true, data := if f.txn.wdata.isNone then List.replicate f.txn.len 0 else [] }
  else f

/-- R382: the device enters beam-failed state: no request reaches the DRAM any more, and every row that a loom has started ends. -/
def State.beamFail (s : State) (channel point : Nat) : State :=
  if s.beam.failed then s
  else
    let s := { s with beam := { s.beam with failed := true, failedSince := s.clk.ticks, switching := none, returning := none, selfRefresh := false },
                      fab := { s.fab with inflight := s.fab.inflight.map fun (t : Nat × Flight) => (t.1, t.2.blank) } }
    let s := s.eachBch fun x => { x with reads := [], writes := [], draining := false, retraining := false }
    let s := s.showBeam.raise { src := 522, unit := channel, detail := point }
    let started := s.video.rows.filter fun r => r.kind == .coded && !r.lastStaged
    let s := started.foldl (fun s r => match s.findRow r.chan r.pic r.row with | some x => s.endRow x | none => s) s
    let s := (List.range 16).foldl (fun s l => s.setLoom l { s.loom l with row := none }) s
    s.follow

/-! ## Set points (R378 to R380) -/

/-- R379: the set points at or below a rate whose training is usable on every channel, the highest rate first. -/
def trainedFrom (s : State) (p : Nat) : List Nat := [0, 1, 2].filter fun x => decide (p ≤ x) && bit s.beam.trainedMask x

/-- R388: a retraining result of channel n. -/
def State.retrainEvent (s : State) (n : Nat) : State := s.raise { src := 512 + n, unit := n }

/-- R377, R378: a retraining attempt starts on channel n; while the Beam maintenance engine is frozen none does (R438). -/
def State.startAttempt (s : State) (n : Nat) : State :=
  let x := s.bch n
  if x.retraining || s.beam.failed || s.beam.switching.isSome || s.isFrozen 34 then s
  else State.retrainEvent (State.bump (s.setBch n { x with retraining := true }) (K.beamRetrainAttempts n)) n

/-- R378: three attempts have failed: the next lower set point is taken, or none is left. -/
def State.leavePoint (s : State) (n : Nat) : State :=
  match trainedFrom s (s.beam.setPoint + 1) with
  | p :: _ => State.showBeam { s with beam := { s.beam with switching := some p, returning := none } }
  | [] => s.beamFail n s.beam.setPoint

/-- R378: an attempt of channel n at the set point in force has failed. -/
def State.attemptFailed (s : State) (n : Nat) : State :=
  let x := s.bch n
  let x := { x with retraining := false, attempts := x.attempts + 1 }
  if x.attempts < 3 then ((s.setBch n x).retrainEvent n).startAttempt n
  else ((s.setBch n { x with failed := true }).retrainEvent n).leavePoint n

/-- R380: channel n's single attempt at the target of a return has ended; the eighth decides. -/
def State.returnEnded (s : State) (n : Nat) (ok : Bool) : State :=
  match s.beam.returning with
  | none => s
  | some (target, ended, passed) =>
    if bit ended n then s
    else
      let s := s.retrainEvent n
      let ended := setBit ended n true
      let passed := setBit passed n ok
      if ended != 255 then { s with beam := { s.beam with returning := some (target, ended, passed) } }
      else if passed = 255 then
        State.showBeam { s with beam := { s.beam with returning := none, switching := some target, trainedMask := setBit s.beam.trainedMask target true } }
      else { s with beam := { s.beam with returning := none } }

/-- R438: the Beam maintenance engine freezes: an attempt in progress counts as failed. -/
def State.freezeTraining (s : State) : State :=
  (List.range 8).foldl (fun s n =>
    if (s.bch n).retraining then s.attemptFailed n else if s.beam.returning.isSome then s.returnEnded n false else s) s

/-- R378, R438: the engine is released: a channel whose last attempt failed tries again. -/
def State.thawTraining (s : State) : State :=
  (List.range 8).foldl (fun s n => if (s.bch n).attempts = 0 then s else s.startAttempt n) s

/-- RETRAIN_ATTEMPT_DONE (R378, R380): a retraining attempt ends. -/
def execRetrainAttemptDone (ch : BeamChan) (ok : Bool) (s : State) : Result := whenClocked s <|
  let n : Nat := ch
  if s.beam.failed || s.beam.switching.isSome then .next s
  else if (s.bch n).retraining then
    if ok then .next ((s.setBch n { s.bch n with retraining := false, attempts := 0, failed := false }).retrainEvent n).beamBusy
    else .next (s.attemptFailed n).beamBusy
  else .next (s.returnEnded n ok).beamBusy

/-- MARGIN_CHECK (R377, R379): a margin check ends, periodic or after a set-point change; margin is the smallest margin found. -/
def execMarginCheck (ch : BeamChan) (margin : Int) (s : State) : Result := whenClocked s <|
  let n : Nat := ch
  let x := s.bch n
  let due := x.checkNow || passed s x.marginAt (s.nat K.beamRetrainIntervalMs * 1000000)
  if !s.beam.trained || s.beam.failed || s.beam.selfRefresh || s.beam.switching.isSome || s.isFrozen 34 || !due
      || decide (s.clk.ticks < s.beam.resumeAt) then .next s
  else
    let s := s.setBch n { x with marginAt := s.clk.ticks, checkNow := false }
    if margin < s.int K.beamMinMarginSteps then .next (s.startAttempt n) else .next s

/-- R380: a ReturnToSetPoint write, with its status: it is refused with Busy while a change or another return runs, and with NotReady
where no set point is in force. -/
def State.returnAsk (s : State) : State × Nat :=
  let target := s.nat K.beamMaxSetPoint
  if s.beam.failed || !s.beam.trained then (s, stNotReady)
  else if s.beam.switching.isSome || s.beam.returning.isSome then (s, stBusy)
  else if s.beam.setPoint ≤ target then (s, stOk)
  else
    let s := { s with beam := { s.beam with returning := some (target, 0, 0) } }
    ((List.range 8).foldl (fun s n => (s.bump (K.beamRetrainAttempts n)).retrainEvent n) s, stOk)

/-- SET_POINT_CHANGE (R379, R381): the stall of a set-point change ends: all channels run at the target. -/
def execSetPointChange (point : Nat) (s : State) : Result := whenClocked s <|
  if s.beam.switching != some point || s.beam.failed then .next s
  else
    let s := { s with beam := { s.beam with setPoint := point, switching := none, returning := none } }
    let s := s.eachBch fun x => { x with retraining := false, attempts := 0, failed := false, checkNow := true,
                                         rank0 := { x.rank0 with lastBlock := some s.clk.ticks }, rank1 := { x.rank1 with lastBlock := some s.clk.ticks } }
    let s := ((s.bump K.beamSetPointChanges).set K.beamLastSetPointChange (time80 (nowNs s))).showBeam
    .next ((s.raise { src := 520 }).dramCheck true).follow

/-- R380, R381: what an accepted commit does to the Beam: a MaxSetPoint below the set point in force moves it at once, and the held
channels that now fit resume. -/
def State.beamCommitted (s : State) : State :=
  if s.beam.failed || !s.beam.trained then s
  else
    let s := if s.beam.setPoint < s.nat K.beamMaxSetPoint && s.beam.switching.isNone then
        (match trainedFrom s (s.nat K.beamMaxSetPoint) with
         | p :: _ => { s with beam := { s.beam with switching := some p, returning := none } }
         | [] => s)
      else s
    s.showBeam.dramCheck false

end Sys2Proof.Machine
end

