-- ==== Sys2Proof/Machine/Faults.lean ====
section
/-!
DEFINITION. Sys2Proof/Machine/Faults.lean: the Mending Log's entries and incidents, freezes and thaws, and device safe state (R437 to
R439, R454 to R470).
-/

namespace Sys2Proof.Machine

/-! ## Entries (R458, R459, R468, R470) -/

/-- The flags of a log entry (R470). -/
def flagNested : Nat := 1
def flagAction : Nat := 2
def flagCoalesced : Nat := 4
def flagEscalated : Nat := 8
def flagFromAon : Nat := 16

/-- R458 to R460: where an entry stands. -/
structure Place where
  incident : Nat
  depth : Nat
  flags : Nat
  severity : Nat
  /-- it has a handler of its own -/
  handled : Bool := false
  /-- R460: it escalates -/
  escalates : Bool := false
  deriving DecidableEq, Repr

/-- R458 to R460, R462: the place of a request's entry. -/
def placeOf (s : State) (r : LogReq) : Place :=
  match r.action with
  | some (i, d) => { incident := i, depth := d, flags := r.flags + flagAction, severity := r.severity }
  | none =>
    if r.severity < 3 || bit r.flags 2 then { incident := 0, depth := 0, flags := r.flags, severity := r.severity }
    else
      match s.log.handlers with
      | [] => { incident := s.log.lastIncident + 1, depth := 0, flags := r.flags, severity := r.severity, handled := true }
      | h :: t =>
        match (h :: t).find? fun x => x.source == r.source && x.code == r.code && x.unit == r.unit && x.master == r.master with
        | some x => { incident := s.log.openIncident, depth := x.depth, flags := r.flags, severity := r.severity }
        | none =>
          if 5 ≤ (h :: t).length then
            { incident := s.log.openIncident, depth := 5, flags := r.flags + flagEscalated, severity := 4, escalates := true }
          else
            { incident := s.log.openIncident, depth := (h :: t).length, flags := r.flags + flagNested, severity := r.severity, handled := true }

/-- R472: the sequence numbers that the log holds: the oldest. -/
def oldestSequence (s : State) : Nat := if s.log.newest = 0 then 0 else if s.log.newest < 8192 then 1 else s.log.newest - 8191

/-- R468, R470: an entry is written at its place; the first overwriting of an entry that ring 34 has not delivered is an event. -/
def State.putEntry (s : State) (r : LogReq) (p : Place) : State :=
  let n := s.log.newest + 1
  let wraps := decide (8192 < n) && decide (s.log.rdptr ≤ n - 8192) && !s.log.wrapRaised
  let e : LogEntry := { sequence := n, time := r.time, incident := p.incident, severity := p.severity, depth := p.depth,
                        source := r.source, flags := p.flags, stepEpoch := r.stepEpoch, code := r.code, master := r.master,
                        unit := r.unit, detail := r.detail }
  let h : Handler := { source := r.source, code := r.code, master := r.master, unit := r.unit, depth := p.depth, incident := p.incident,
                       since := s.clk.ticks }
  let l := s.log
  let s := { s with log := { l with
    entries := AMap.put l.entries (n % 8192) e,
    newest := n,
    lastIncident := max l.lastIncident p.incident,
    openIncident := if p.handled then p.incident else l.openIncident,
    handlers := if p.handled then l.handlers ++ [h] else l.handlers,
    lastFatal := if p.severity = 4 then n else l.lastFatal, wrapRaised := l.wrapRaised || wraps } }
  let s := if r.source = 576 && s.nat K.frzLastMaster = r.master then s.setN K.frzLastIncident p.incident else s
  let s := s.count 732 1
  if wraps then s.raise { src := 628 } else s

/-! ## Safe state (R464 to R466) -/

/-- R449, R438, R450: the image transfer in progress is abandoned: its slot becomes Invalid. -/
def State.abandonTransfer (s : State) : State :=
  match s.boot.transfer with
  | none => s
  | some t =>
    let s := { s with boot := { s.boot with transfer := none } }
    let s := s.setN (if t.slot = 0 then K.selvSlotAState else K.selvSlotBState) 1
    ((s.bump K.selvTransfersAbandoned).raise { src := 581 }).raise { src := 580 }

/-- R438: what the freeze of a master does besides. -/
def State.freezeEffect (s : State) (m : Nat) : State :=
  let f := s.fab
  let s := { s with fab := { f with inflight := f.inflight.filter (fun t => t.2.txn.master != m), stalled := f.stalled.filter (fun t => t.master != m),
                                    readData := AMap.del f.readData m } }
  if 2 ≤ m && m < 10 then s.coreFrozen (m - 2)
  else if 11 ≤ m && m < 27 then
    let l := m - 11
    (State.loomState ((s.qualAbandon l).stopLoom l) l 2).showLooms
  else if m = 34 then s.freezeTraining
  else if m = 35 then s.abandonTransfer
  else s

/-- R464: the masters that device safe state leaves unfrozen. -/
def keptInSafe (m : Nat) : Bool := m == 0 || m == 1 || m == 10 || m == 36

/-- R184, R464: a loom that freezes with the group is Frozen, unless it stands in quarantine. -/
def State.loomInGroup (s : State) (l : Nat) : State :=
  if s.nat (K.loomGLoomState l) = 4 then s else State.loomState (s.qualAbandon l) l 2

/-- R464: the masters freeze as one group: nothing of theirs is in the fabric any more, no thread runs, and the looms are Frozen. -/
def State.freezeGroup (s : State) : State :=
  let mask := maskOf 40 fun m => bit s.fab.frozen m || !keptInSafe m
  let f := s.fab
  let s := { s with fab := { f with frozen := mask, freezes := f.freezes.filter (fun e => keptInSafe e.1),
                                    inflight := f.inflight.filter (fun t => keptInSafe t.2.txn.master),
                                    stalled := f.stalled.filter (fun t => keptInSafe t.master) } }
  let s := ((List.range 8).foldl (fun s c => s.coreFrozen c) s).abandonTransfer
  ((List.range 16).foldl (fun s l => s.loomInGroup l) s).showLooms

/-- R466: the sequencer writes an event's entry at once, with further flags; the incident and depth at which it stands. -/
def State.entryNow (s : State) (e : Ev) (aon : Nat) : State × (Nat × Nat) :=
  let s := s.signal e |>.1
  let r := e.request s
  let r := { r with flags := r.flags + aon }
  let p := placeOf s r
  (s.putEntry r p, (p.incident, p.depth))

/-- R464 to R466: the device enters device safe state. The cause's own event, where it has one whose entry is not yet written, is written
first; `at_` is the place of a cause entry that has been written. -/
def State.enterSafe (s : State) (cause : Nat) (own : Option Ev) (at_ : Option (Nat × Nat)) : State :=
  if s.log.safe then s
  else
    let s := { s with log := { s.log with safe := true, safeCause := cause, safeSince := s.clk.ticks } }
    let aon := if cause = 2 || cause = 3 || cause = 4 then flagFromAon else 0
    let (s, place) := match own with
      | none => (s, at_)
      | some e => let x := s.entryNow e aon; (x.1, some x.2)
    let s := (s.entryNow { src := 2, code := cause, action := place } aon).1
    let s := s.freezeGroup
    let s := State.showBeam { s with beam := { s.beam with selfRefresh := !s.beam.failed && s.beam.trained } }
    let s := if s.beam.selfRefresh then s.raise { src := 525 } else s
    State.follow (if cause = 1 then { s with log := { s.log with handlers := [], openIncident := 0 } } else s)

/-- SPINDLE_UNLOCK (R23): the Spindle loses lock in service: every derived domain stops and the device enters device safe state, with
a fatal entry from AON_CLK; where it stands in safe state already, only that entry is written. -/
def execSpindleUnlock (s : State) : Result :=
  if !s.boot.spindle then .next s
  else
    let s := { s with boot := { s.boot with spindle := false, clocksLost := true } }
    .next (if s.log.safe then (s.entryNow { src := 3 } flagFromAon).1 else s.enterSafe 4 (some { src := 3 }) none)

/-- LOCKSTEP_MISMATCH (R434): the outputs of the Selvedge's cores differ. -/
def execLockstepMismatch (s : State) : Result := .next (s.enterSafe 3 (some { src := 587 }) none)

/-- THERMAL_TRIP (R403): two sensors have read 115 °C or more for 1 ms. -/
def execThermalTrip (s : State) : Result :=
  match s.gov.tripSince with
  | some t => if passed s t 1000000 then .next (s.enterSafe 5 (some { src := 555 }) none) else .next s
  | none => .next s

/-- HANDLER_FAULT (R461): a handler faults while it runs. -/
def execHandlerFault (s : State) : Result := whenClocked s <| if s.log.handlers.isEmpty then .next s else .next (s.enterSafe 2 none none)

/-- HANDLER_TIMEOUT (R461): the running handler has not completed within 1.0 ms of its entry. -/
def execHandlerTimeout (s : State) : Result := whenClocked s <|
  match s.log.handlers with
  | [] => .next s
  | h :: _ => if passed s h.since 1000000 then .next (s.enterSafe 2 none none) else .next s

/-! ## Freezes and thaws (R437 to R439) -/

/-- R439: the freezes of a master in the last 60 s. -/
def recentFreezes (s : State) (m : Nat) : List Nat := (AMap.getD s.fab.history m []).filter fun t => !passed s t 60000000000

/-- R437: master m is frozen now. -/
def State.freezeNow (s : State) (m : Nat) (cause : FreezeCause) (addr target : Nat) : State :=
  let past := s.clk.ticks :: recentFreezes s m
  let x : FreezeSt := { cause := cause, addr := addr, target := if cause = .firewall then target else 0,
                        violations := if cause = .firewall then 1 else 0, since := s.clk.ticks, time := nowNs s,
                        heldFrozen := decide (3 ≤ past.length) }
  let s := { s with fab := { s.fab with frozen := setBit s.fab.frozen m true, freezes := AMap.put s.fab.freezes m x,
                                        history := AMap.put s.fab.history m past } }
  State.follow (((s.bump (K.frzFreezeCount m)).count 734 1).freezeEffect m)

/-- R437, R439: a freeze of master m: further violations before the record are counted in it, and a freeze during a thaw abandons the
thaw. -/
def State.freeze (s : State) (m : Nat) (cause : FreezeCause) (addr target : Nat) : State :=
  if m < 2 || decide (40 ≤ m) || s.log.safe then s
  else
    match AMap.find? s.fab.freezes m with
    | none => s.freezeNow m cause addr target
    | some x =>
      if x.thawing then s.freezeNow m cause addr target
      else if !x.recorded && cause = .firewall then
        { s with fab := { s.fab with freezes := AMap.put s.fab.freezes m { x with violations := min 65535 (x.violations + 1) } } }
      else s

/-- R19, R148, R186: the heddle lanes of a frozen loom that reported the fault which stopped it. -/
def State.noteLanes (s : State) (m lanes : Nat) : State :=
  if 11 ≤ m && m < 27 && s.isFrozen m then s.setLoom (m - 11) { s.loom (m - 11) with laneFault := (s.loom (m - 11)).laneFault ||| lanes % 16 } else s

/-- R19, R148: the unit that the Freeze event of a master carries: for a loom the lowest lane that reported the fault. -/
def freezeUnit (s : State) (m : Nat) : Nat :=
  if 11 ≤ m && m < 27 then ((List.range 4).find? fun i => bit (s.loom (m - 11)).laneFault i).getD 255 else 255

/-- FREEZE (R148, R437, R438): a master is frozen; of a loom, with the heddle lanes that reported the fault. -/
def execFreeze (master : MasterId) (cause : FreezeCause) (addr : Nat) (report : FreezeReport) (s : State) : Result := whenClocked s <|
  .next ((s.freeze master cause addr report.target.code).noteLanes master report.lanes)

/-- R439: a thaw starts: the master's local state is reset, and a loom qualifies. -/
def State.startThaw (s : State) (m : Nat) : State :=
  match AMap.find? s.fab.freezes m with
  | none => s
  | some x =>
    let s := { s with fab := { s.fab with freezes := AMap.put s.fab.freezes m { x with thawing := true, thawAsked := false } } }
    if 11 ≤ m && m < 27 then (s.startQual (m - 11) false false).showLooms
    else if m = 32 then (List.range 8).foldl (fun s p => s.setPort p { s.port p with rxMedia := 0 }) s
    else if 2 ≤ m && m < 10 then s.setCore (m - 2) { s.core (m - 2) with running := none, nextValid := false, resultDone := false }
    else s

/-- FREEZE_RECORD (R437): 20 µs after the freeze its record is taken, an entry of the handler whose action the freeze was, or an event
of its own. -/
def execFreezeRecord (master : MasterId) (s : State) : Result := whenClocked s <|
  let m : Nat := master
  match AMap.find? s.fab.freezes m with
  | none => .next s
  | some x =>
    if x.recorded || !passed s x.since 20000 then .next s
    else
      let s := { s with fab := { s.fab with freezes := AMap.put s.fab.freezes m { x with recorded := true } } }
      let s := ((s.setN K.frzLastMaster m).setN K.frzLastCause x.cause.code).setN K.frzLastAddress x.addr
      let s := ((s.setN K.frzLastTarget x.target).setN K.frzLastViolations x.violations).set K.frzLastFreezeTime (time80 x.time)
      let own := match s.log.handlers with
        | h :: _ => if x.cause = .ecc && h.source = 523 && h.master = m then some (h.incident, h.depth) else none
        | [] => none
      let s := s.raise { src := 576, master := m, unit := freezeUnit s m, detail := x.addr / 4096 % 2 ^ 32, action := own }
      let s := if x.heldFrozen then s.raise { src := 578, master := m } else s
      .next (if x.thawAsked then s.startThaw m else s)

/-- R439: a FreezeMaster write, with its status. -/
def State.freezeAsk (s : State) (prin : Prin) (m : Nat) : State × Nat :=
  if m < 2 || decide (40 ≤ m) || s.isFrozen m then (s, stInconsistent)
  else if prin = .host && m = 10 then (s, stAccessDenied)
  else (s.freeze m .command 0 0, stOk)

/-- R437, R439: a ThawMaster write, with its status: it starts the thaw of a Manual master, or of one that three freezes hold, at once or
once the record is taken. -/
def State.thawAsk (s : State) (m : Nat) : State × Nat :=
  if m < 2 || decide (40 ≤ m) || !s.isFrozen m || s.log.safe then (s, stInconsistent)
  else
    match AMap.find? s.fab.freezes m with
    | none => (s, stInconsistent)
    | some x =>
      if x.thawing || (s.nat (K.frzThawPolicy m) != 0 && !x.heldFrozen) then (s, stOk)
      else if x.recorded then (s.startThaw m, stOk)
      else ({ s with fab := { s.fab with freezes := AMap.put s.fab.freezes m { x with thawAsked := true } } }, stOk)

/-- AUTO_THAW (R439): 10 ms after its freeze a master of ThawPolicy 1 thaws, unless three freezes hold it. -/
def execAutoThaw (master : MasterId) (s : State) : Result := whenClocked s <|
  let m : Nat := master
  match AMap.find? s.fab.freezes m with
  | none => .next s
  | some x =>
    if s.log.safe || x.thawing || x.heldFrozen || s.nat (K.frzThawPolicy m) != 1 || !passed s x.since 10000000 then .next s
    else if x.recorded then .next (s.startThaw m)
    else .next { s with fab := { s.fab with freezes := AMap.put s.fab.freezes m { x with thawAsked := true } } }

/-- THAW_COMPLETE (R439): a thaw finishes, a loom's once its qualification has ended, and the master is released. -/
def execThawComplete (master : MasterId) (s : State) : Result := whenClocked s <|
  let m : Nat := master
  match AMap.find? s.fab.freezes m with
  | none => .next s
  | some x =>
    let qualifying := decide (11 ≤ m) && decide (m < 27) && s.nat (K.loomGLoomState (m - 11)) == 3
    if !x.thawing || s.log.safe || qualifying then .next s
    else
      let s := { s with fab := { s.fab with frozen := setBit s.fab.frozen m false, freezes := AMap.del s.fab.freezes m } }
      let s := if 2 ≤ m && m < 10 then s.setCore (m - 2) { s.core (m - 2) with lastCommand := s.clk.ticks } else s
      let s := if m = 34 then s.thawTraining else s
      .next ((s.count 735 1).raise { src := 577, master := m }).follow

/-- BOLT_WATCHDOG_EXPIRY (R437): a core that runs a thread has issued no Shuttle command for WatchdogMs and is frozen. -/
def execBoltWatchdogExpiry (core : CoreId) (s : State) : Result := whenClocked s <|
  let c : Nat := core
  let k := s.core c
  if s.isFrozen (2 + c) || k.running.isNone || !passed s k.lastCommand (s.nat K.frzWatchdogMs * 1000000) then .next s
  else .next (s.freeze (2 + c) .watchdog 0 0)

/-! ## Writing entries and running handlers (R459, R460, R469) -/

/-- R459, R383: a handler carries out its action: an uncorrected error on a master's data freezes the master. -/
def State.runHandler (s : State) : State :=
  match s.log.handlers with
  | [] => s
  | h :: _ => if h.source = 523 && 11 ≤ h.master && h.master < 27 then s.freeze h.master .ecc 0 0 else s

/-- LOG_ENTRY_WRITE (R77, R458 to R460, R469): the Selvedge writes the oldest request's entry; a handler that is alone runs at once, and an
event at depth 5 is logged as fatal, with the fatal vector's message, and leads to device safe state. -/
def execLogEntryWrite (s : State) : Result := whenClocked s <|
  match s.log.intake with
  | [] => .next s
  | r :: rest =>
    let s := { s with log := { s.log with intake := rest ++ s.log.waiting.take 1, waiting := s.log.waiting.drop 1 } }
    let p := placeOf s r
    let s := s.putEntry r p
    if p.escalates then
      let s := if r.severity < 4 then s.vector (s.nat K.irqFatalVector) else s
      .next (State.enterSafe { s with log := { s.log with handlers := [], openIncident := 0 } } 1 none (some (p.incident, p.depth)))
    else if p.handled && p.depth = 0 then .next s.runHandler
    else .next s

/-- R459: whether the running handler's action has taken effect: a freeze once its record is taken. -/
def handlerDone (s : State) (h : Handler) : Bool :=
  !(h.source == 523 && (match AMap.find? s.fab.freezes h.master with | some x => !x.recorded | none => false))

/-- HANDLER_COMPLETE (R459): the running handler completes; the next one runs, or the incident closes. -/
def execHandlerComplete (s : State) : Result := whenClocked s <|
  match s.log.handlers with
  | [] => .next s
  | h :: rest =>
    if !handlerDone s h then .next s
    else
      let s := { s with log := { s.log with handlers := rest, openIncident := if rest.isEmpty then 0 else s.log.openIncident } }
      .next s.runHandler

/-- EVENT_RAISE (R455, R456): an event is raised. -/
def execEventRaise (source code master unit detail severity : Nat) (s : State) : Result := whenClocked s <|
  .next (s.raise { src := source, code := code, master := master, unit := unit, detail := detail, sev := min 4 severity })

/-- TRACKER_WINDOW_END (R462): a tracker's window of one second ends. -/
def execTrackerWindowEnd (source code master unit : Nat) (s : State) : Result := whenClocked s <|
  match s.log.trackers.find? fun t => t.source == source && t.code == code && t.master == master && t.unit == unit with
  | some t => if passed s t.start 1000000000 then .next (s.endTracker t) else .next s
  | none => .next s

/-- LOG_PENDING_CLEAR (R474): the bits of a LOG_PENDING word that are written 1 are cleared. -/
def execLogPendingClear (w : Nat) (bits : Word) (s : State) : Result := whenClocked s <|
  .next { s with log := { s.log with
    pending := (List.range 32).foldl (fun m i => if bit bits.toNat i then setBit m (32 * w + i) false else m) s.log.pending } }

/-- LOG_RDPTR_WRITE (R472, R474): the next entry for ring 34 is set; an advance allows LogWrapped again. -/
def execLogRdptrWrite (val : Word) (s : State) : Result := whenClocked s <|
  .next { s with log := { s.log with rdptr := val.toNat, wrapRaised := if s.log.rdptr < val.toNat then false else s.log.wrapRaised } }

end Sys2Proof.Machine
end

