-- ==== Sys2Proof/Machine/Beam.lean ====
section
/-!
DEFINITION. Sys2Proof/Machine/Beam.lean: the Beam's queues: requests, command slots, returns, refresh, power-down, self-refresh and
bandwidth windows (R365 to R376, R383, R384).
-/

namespace Sys2Proof.Machine

/-! ## Addresses (R366, R367) -/

/-- R366: S_rank, bytes. -/
def rankBytes (s : State) : Nat := s.beam.densityGb * 2147483648

/-- R366: the rank of an address. -/
def rankOf (s : State) (a : Nat) : Nat := a / max 1 (rankBytes s)

/-- R366: the bank of an address, numbered over both ranks, and its row. -/
def bankOf (s : State) (a : Nat) : Nat := rankOf s a * 16 + ((a / 32768 % 4) ^^^ (a / 16777216 % 4)) * 4 + a / 131072 % 4
def rowOf (s : State) (a : Nat) : Nat := a % max 1 (rankBytes s) / 524288

/-- R367: an address at or above installed capacity, or in a reserved row. -/
def outOfRange (s : State) (a : Nat) : Bool :=
  decide (s.beam.ranks * rankBytes s ≤ a) || decide (rankBytes s - 524288 ≤ a % max 1 (rankBytes s))

/-- The 64-byte units that a run of bytes meets: the first byte and the number of bytes in each. At most five. -/
def unitsOf (addr len : Nat) : List (Nat × Nat) :=
  ((List.range 5).map fun i =>
    let lo := max addr ((addr / 64 + i) * 64)
    let hi := min (addr + len) ((addr / 64 + i + 1) * 64)
    (lo, hi - lo)).filter fun u => u.2 != 0

/-! ## Classes (R368) -/

/-- R368: the class of a master's request; a class 3 entry that has waited AgeLimitUs has class 2. -/
def classOf (s : State) (master : Nat) (reference : Bool) (since : Nat) : Nat :=
  if master = 34 then 0
  else if 11 ≤ master && master < 27 then (if reference then 1 else 2)
  else if (27 ≤ master && master < 33) || master = 37 then 2
  else if passed s since (s.nat K.beamAgeLimitUs * 1000) then 2 else 3

/-- R27: a loom's reference read. -/
def Txn.loomReference (t : Txn) : Bool := t.reference && t.wdata.isNone && decide (11 ≤ t.master) && decide (t.master < 27)

/-- Whether a queued read is a loom's reference read. -/
def isReference (s : State) (e : ReadEntry) : Bool :=
  match AMap.find? s.fab.inflight e.txn with | some f => f.txn.loomReference | none => e.reserved

/-- The class of a queued read. -/
def readClass (s : State) (e : ReadEntry) : Nat := classOf s e.master (isReference s e) e.since
/-- The class of a queued write. -/
def writeClass (s : State) (e : WriteEntry) : Nat := e.raised.getD (classOf s e.master false e.since)

/-! ## Requests (R367, R369, R375, R376) -/

/-- A rank of a Beam channel, and one set. -/
def BeamChSt.rank (x : BeamChSt) (r : Nat) : RankSt := if r = 0 then x.rank0 else x.rank1
def BeamChSt.setRank (x : BeamChSt) (r : Nat) (k : RankSt) : BeamChSt := if r = 0 then { x with rank0 := k } else { x with rank1 := k }

/-- TIME_CLK periods that cover so many ns. -/
def ticksFor (ns : Nat) : Nat := ceilDiv (ns * 6) 25

/-- R370: tXSR, ns, rounded up. -/
def txsr (s : State) : Nat := if s.beam.densityGb = 8 then 218 else 288
/-- R370: tRFCab, ns. -/
def trfc (s : State) : Nat := if s.beam.densityGb = 8 then 210 else 280

/-- R376: self-refresh ends on every channel. -/
def State.exitSelfRefresh (s : State) : State :=
  if !s.beam.selfRefresh then s
  else
    let t := s.clk.ticks + ticksFor (txsr s)
    let s := { s with beam := { s.beam with selfRefresh := false, resumeAt := s.clk.ticks + 24000 } }
    let s := s.eachBch fun x => { x with refiAt := s.clk.ticks * 25, rank0 := { x.rank0 with lastBlock := some t },
                                         rank1 := { x.rank1 with lastBlock := some t } }
    s.showBeam.raise { src := 525 }

/-- R375: a command is queued to a rank, which leaves power-down. -/
def RankSt.queued (k : RankSt) (now : Nat) : RankSt :=
  if k.powerDown then { k with powerDown := false, lastQueued := now, lastBlock := some (max (k.lastBlock.getD 0) (now + 5)) }
  else { k with lastQueued := now }

/-- R369: bytes are written into a channel's queue: into the unit's newest entry that has not been raised, or into a new one. -/
def BeamChSt.acceptWrite (x : BeamChSt) (master seq now a : Nat) (data : Bytes) : BeamChSt :=
  let u := a / 64
  let bytes (old : List (Nat × Byte)) : List (Nat × Byte) := data.zipIdx.foldl (fun (m : AMap Byte) (b, i) => AMap.put m ((a + i) % 64) b) old
  if x.writes.any (fun e => e.unit == u && e.raised.isNone) then
    { x with writes := x.writes.map fun e => if e.unit = u && e.raised.isNone then { e with data := bytes e.data, seq := seq } else e }
  else { x with writes := x.writes ++ [{ master := master, unit := u, data := bytes [], since := now, seq := seq }] }

/-- R369: a read unit enters a channel's queue; answers whether its data were forwarded. -/
def BeamChSt.acceptRead (x : BeamChSt) (e : ReadEntry) (cls : Nat) : BeamChSt × Bool :=
  match newestMeeting x.writes e.addr e.len with
  | none => ({ x with reads := x.reads ++ [e] }, false)
  | some w =>
    if w.covers e.addr e.len then
      let d := (List.range e.len).map fun i => (w.byte? (e.addr + i)).getD 0
      ({ x with reads := x.reads ++ [{ e with forwarded := some d }] }, true)
    else
      ({ x with reads := x.reads ++ [e],
                writes := x.writes.map fun w => if w.meets e.addr e.len then { w with raised := some (min cls (w.raised.getD cls)) } else w }, false)

/-- R25, R27: read entries in use: the reserved ones and the others. -/
def reservedUsed (x : BeamChSt) : Nat := (x.reads.filter (·.reserved)).length
def unreservedUsed (x : BeamChSt) : Nat := (x.reads.filter fun e => !e.reserved).length

/-- R25, R27: whether a channel has the entries that a transaction needs. -/
def BeamChSt.room (x : BeamChSt) (t : Txn) : Bool :=
  let us := unitsOf t.addr t.len
  match t.wdata with
  | some _ =>
    decide (x.writes.length + (us.filter fun u => !(x.writes.any fun e => e.unit == u.1 / 64 && e.raised.isNone)).length ≤ 64)
  | none =>
    let free := 128 - unreservedUsed x
    if t.loomReference then decide (us.length ≤ (64 - reservedUsed x) + free) else decide (us.length ≤ free)

/-- R368: the channel with a unit added to those that its rank has waiting. -/
def unitQueued (s : State) (c a : Nat) : BeamChSt :=
  let x := s.bch c
  x.setRank (rankOf s a) ((x.rank (rankOf s a)).queued s.clk.ticks)

/-- The next number of arrival is taken. -/
def State.seqTaken (s : State) : State := { s with beam := { s.beam with nextSeq := s.beam.nextSeq + 1 } }

/-- R370: a channel after a read unit has joined it: a forwarded one is counted. -/
def State.readTaken (s : State) (c : Nat) (r : BeamChSt × Bool) : State :=
  if r.2 then ((s.setBch c r.1).bump (K.beamForwardedReads c)).count (592 + 8 * c + 2) 1 else s.setBch c r.1

/-- R369: one unit of a transaction is taken into channel c's queue. -/
def State.acceptUnit (s : State) (n c : Nat) (t : Txn) (a len : Nat) : State :=
  let x := unitQueued s c a
  match t.wdata with
  | some d => State.setBch s.seqTaken c (x.acceptWrite t.master s.beam.nextSeq s.clk.ticks a ((d.drop (a - t.addr)).take len))
  | none =>
    State.readTaken s.seqTaken c
      (x.acceptRead { txn := n, master := t.master, unit := a / 64, addr := a, len := len,
                      reserved := t.loomReference && decide (reservedUsed x < 64), since := s.clk.ticks, seq := s.beam.nextSeq }
        (classOf s t.master t.reference s.clk.ticks))

/-- A flight set. -/
def State.setFlight (s : State) (n : Nat) (f : Flight) : State := { s with fab := { s.fab with inflight := AMap.put s.fab.inflight n f } }

/-- R367: a transaction outside the usable capacity: counted, with one entry a second, whose source within the Beam's and whose severity
the spec does not give. -/
def State.outOfRangeEntry (s : State) (master : Nat) : State :=
  let s := s.bump K.beamOutOfRange
  let due := match AMap.find? s.log.lastRaise 10367 with | some t => passed s t 1000000000 | none => true
  if !due then s
  else
    let n := s.freeCtr
    let s := s.nextFree
    let s := { s with log := { s.log with lastRaise := AMap.put s.log.lastRaise 10367 s.clk.ticks } }
    s.logAsk { source := 512 + (Config.freeWord n).toNat % 32, code := 0, master := master, unit := 255, detail := 0,
               severity := (Config.freeWord n).toNat / 32 % 3, time := nowNs s, stepEpoch := stepEpoch s, flags := timeValidFlag s }

/-- R15: whether two transactions go to the same port: the same memory port of the DRAM, the SRAM or the register ring. -/
def Txn.samePort (t u : Txn) : Bool := t.target == u.target && (t.target != .dram || beamChannel t.addr == beamChannel u.addr)

/-- R15: whether transaction u must complete before t, which was issued after it: the same master, stream and port. -/
def Txn.follows (t u : Txn) : Bool := t.master == u.master && t.stream == u.stream && t.samePort u

/-- R15: whether t reads a byte that u, a write of the same master, writes. -/
def Txn.readsOf (t u : Txn) : Bool :=
  t.master == u.master && t.wdata.isNone && u.wdata.isSome && t.target == u.target && decide (t.addr < u.addr + u.len) && decide (u.addr < t.addr + t.len)

/-- R15: whether transaction n, t, waits at its memory port for an earlier one of its master that the port has not accepted. -/
def orderHolds (s : State) (n : Nat) (t : Txn) : Bool :=
  s.fab.inflight.any fun e => decide (e.1 < n) && !e.2.accepted && (t.follows e.2.txn || t.readsOf e.2.txn)

/-- BEAM_REQUEST (R15, R27, R367, R369, R375, R376): a memory port takes a transaction that waits at it into its channel's queue, if no
earlier one of its master must go before it and the channel has the entries. -/
def execBeamRequest (txn : Nat) (s : State) : Result := whenClocked s <|
  match AMap.find? s.fab.inflight txn with
  | none => .next s
  | some f =>
    let t := f.txn
    if f.accepted || t.target != .dram || orderHolds s txn t then .next s
    else if s.beam.failed then .next (s.setFlight txn f.blank)
    else if !s.beam.trained then .next s
    else if outOfRange s t.addr then .next ((s.setFlight txn f.blank).outOfRangeEntry t.master).beamBusy
    else
      let c := beamChannel t.addr
      let s := s.exitSelfRefresh.beamBusy
      if !(s.bch c).room t then .next s
      else
        let s := (unitsOf t.addr t.len).foldl (fun s u => s.acceptUnit txn c t u.1 u.2) s
        .next (s.setFlight txn { f with accepted := true, done := t.wdata.isSome })

/-! ## Direct accesses of the PCIe function (R15, R16, log entry 57) -/

/-- R16: queued writes lose the bytes of a run that a later write has taken; an entry that keeps none goes. -/
def BeamChSt.forget (x : BeamChSt) (addr len : Nat) : BeamChSt :=
  { x with writes := (x.writes.map fun e =>
      { e with data := e.data.filter fun b => decide (64 * e.unit + b.1 < addr) || decide (addr + len ≤ 64 * e.unit + b.1) }).filter fun e => !e.data.isEmpty }

/-! ## Command slots (R368 to R372) -/

/-- R372: 3.2 µs have passed since the last blocking event of a rank. -/
def gapPassed (s : State) (k : RankSt) : Bool := match k.lastBlock with | some t => decide (t ≤ s.clk.ticks) && passed s t 3200 | none => true
/-- A blocking event stops the rank. -/
def blocked (s : State) (k : RankSt) : Bool := match k.lastBlock with | some t => decide (s.clk.ticks < t) | none => false

/-- The ranks that are fitted. -/
def ranksFitted (s : State) : List Nat := List.range (min 2 s.beam.ranks)

/-- R369: whether a queued read must wait for a write before it, and a write for a read or a write before it. -/
def readHeld (x : BeamChSt) (e : ReadEntry) : Bool := x.writes.any fun w => decide (w.seq < e.seq) && w.meets e.addr e.len
def writeHeld (x : BeamChSt) (w : WriteEntry) : Bool :=
  (x.reads.any fun e => !e.issued && e.forwarded.isNone && decide (e.seq < w.seq) && w.meets e.addr e.len)
    || x.writes.any fun v => v.unit == w.unit && decide (v.seq < w.seq)

/-- A command that a channel may issue: its class, whether its row is open, its age, and what it is. -/
structure Candidate where
  cls : Nat
  open_ : Bool
  seq : Nat
  write : Bool
  deriving DecidableEq, Repr

/-- R368: which command goes first: the lower class, while the queue drains the write, an open row, the older. -/
def Candidate.before (draining : Bool) (a b : Candidate) : Bool :=
  let key (c : Candidate) : List Nat := [c.cls, b2n (draining && !c.write && c.cls != 1), b2n !c.open_, c.seq]
  decide (key a < key b)

/-- R368: the command that a channel issues next. -/
def nextCommand (s : State) (x : BeamChSt) : Option Candidate :=
  let isOpen (a : Nat) : Bool := AMap.find? x.openRows (bankOf s a) == some (rowOf s a)
  let free (a : Nat) : Bool := !blocked s (x.rank (rankOf s a))
  let reads := (x.reads.filter fun e => !e.issued && e.forwarded.isNone && !readHeld x e && free e.addr).map fun e =>
    ({ cls := readClass s e, open_ := isOpen e.addr, seq := e.seq, write := false } : Candidate)
  let writes := (x.writes.filter fun w => (x.draining || w.raised.isSome) && !writeHeld x w && free (64 * w.unit)).map fun w =>
    ({ cls := writeClass s w, open_ := isOpen (64 * w.unit), seq := w.seq, write := true } : Candidate)
  (reads ++ writes).foldl (fun b c => match b with | none => some c | some y => if c.before x.draining y then some c else b) none

/-- R368: whether the write queue drains. -/
def drains (s : State) (x : BeamChSt) : Bool :=
  let idle := !(x.reads.any fun e => !e.issued && e.forwarded.isNone)
  if s.nat K.beamWriteHighWatermark ≤ x.writes.length || idle then true
  else if x.writes.length ≤ s.nat K.beamWriteLowWatermark then false
  else x.draining

/-- R370, R372: rank r of channel c owes a make-up burst that may start now. -/
def burstDue (s : State) (x : BeamChSt) (r : Nat) : Bool :=
  let k := x.rank r
  decide (s.nat K.beamRefreshPostponeMax ≤ k.owed) && gapPassed s k && !blocked s (x.rank (1 - r))

/-- R370: refreshes of a rank close its rows. -/
def BeamChSt.refreshed (x : BeamChSt) (r : Nat) (k : RankSt) : BeamChSt :=
  { x.setRank r k with openRows := x.openRows.filter fun e => e.1 / 16 != r }

/-- R370: rank r of channel c has no class 1 or class 2 command queued. -/
def rankQuiet (s : State) (x : BeamChSt) (r : Nat) : Bool :=
  !(x.reads.any fun e => !e.issued && e.forwarded.isNone && rankOf s e.addr == r && decide (readClass s e ≤ 2))
    && !(x.writes.any fun w => rankOf s (64 * w.unit) == r && decide (writeClass s w ≤ 2))

/-- A row is opened for a command, which counts a miss where it was not open. -/
def State.openRow (s : State) (c a : Nat) : State :=
  let x := s.bch c
  if AMap.find? x.openRows (bankOf s a) = some (rowOf s a) then s
  else State.count (s.setBch c { x with openRows := AMap.put x.openRows (bankOf s a) (rowOf s a) }) (592 + 8 * c + 3) 1

/-- R369: a read is issued: it joins those whose data are on the way. -/
def State.issueRead (s : State) (c : Nat) (e : ReadEntry) : State :=
  let s := s.openRow c e.addr
  let x := s.bch c
  let rest := x.reads.filter fun y => y.seq != e.seq
  let going := rest.filter fun y => y.issued || y.forwarded.isSome
  let waiting := rest.filter fun y => !(y.issued || y.forwarded.isSome)
  (s.setBch c { x with reads := going ++ [{ e with issued := true }] ++ waiting }).count (592 + 8 * c) 1

/-- R369: a write is issued: its bytes are in the DRAM. -/
def State.issueWrite (s : State) (c : Nat) (w : WriteEntry) : State :=
  let s := s.openRow c (64 * w.unit)
  let x := s.bch c
  let s := s.setBch c { x with writes := x.writes.filter (fun y => y.seq != w.seq), writeBytes := x.writeBytes + w.data.length }
  State.count { s with dram := w.data.foldl (fun m b => Memory.write m (64 * w.unit + b.1) b.2) s.dram } (592 + 8 * c + 1) 1

/-- BEAM_COMMAND_SLOT (R368 to R370, R372): a channel issues its next command: a make-up burst that is due, a refresh of a quiet rank, or
the first command by class. -/
def execBeamCommandSlot (ch : BeamChan) (s : State) : Result := whenClocked s <|
  let c : Nat := ch
  if !s.beam.trained || s.beam.failed || s.beam.switching.isSome || s.beam.selfRefresh then .next s
  else
    let x := s.bch c
    match (ranksFitted s).find? fun r => burstDue s x r with
    | some r =>
      let k := x.rank r
      let s := s.setBch c (x.refreshed r { k with owed := 0, lastBlock := some (s.clk.ticks + ticksFor (k.owed * trfc s)) })
      .next (((s.bump (K.beamMakeupBursts c)).count (592 + 8 * c + 5) 1).count (592 + 8 * c + 4) k.owed).beamBusy
    | none =>
      match (ranksFitted s).find? fun r => (x.rank r).owed != 0 && rankQuiet s x r && !blocked s (x.rank r) with
      | some r =>
        let k := x.rank r
        .next ((s.setBch c (x.refreshed r { k with owed := k.owed - 1 })).count (592 + 8 * c + 4) 1)
      | none =>
        let x := { x with draining := drains s x }
        let s := s.setBch c x
        match nextCommand s x with
        | none => .next s
        | some d =>
          match x.reads.find? (fun e => e.seq == d.seq), x.writes.find? (fun w => w.seq == d.seq) with
          | some e, _ => .next (s.issueRead c e).beamBusy
          | none, some w => .next (s.issueWrite c w).beamBusy
          | none, none => .next s

/-! ## Returns (R369, R373, R374, R377, R383) -/

/-- R369: the entry whose data return next: in issue order, the units of one transaction in address order. -/
def nextReturn (x : BeamChSt) : Option ReadEntry :=
  x.reads.find? fun e => (e.issued || e.forwarded.isSome) && !(x.reads.any fun y => y.txn == e.txn && decide (y.addr < e.addr))

/-- R374: the latency of a reference read whose last data have come. -/
def State.refLatency (s : State) (c : Nat) (since : Nat) : State :=
  let ns := (s.clk.ticks - since) * 25 / 6
  let s := if s.nat (K.beamRefLatencyMaxNs c) < ns then s.setN (K.beamRefLatencyMaxNs c) (min (2 ^ 32 - 1) ns) else s
  let s := if 2000 < ns then s.count (592 + 8 * c + 6) 1 else s
  if 3000 < ns then (s.bump (K.beamRefLatencyExceeded c)).raiseLimited 524 { src := 524, unit := c } else s

/-- R369: a unit's data are delivered to their transaction, unless a freeze has discarded it. -/
def State.deliver (s : State) (c : Nat) (e : ReadEntry) (d : Bytes) : State :=
  let x := s.bch c
  let rest := x.reads.filter fun y => y.seq != e.seq
  let last := !(rest.any fun y => y.txn == e.txn)
  let ref := isReference s e
  let s := s.setBch c { x with reads := rest, readBytes := x.readBytes + e.len }
  let s := if last && ref then s.refLatency c e.since else s
  match AMap.find? s.fab.inflight e.txn with
  | none => s
  | some f => s.setFlight e.txn { f with data := f.data ++ d, done := f.done || last }

/-- R383, R437: the second uncorrectable read of a unit: an error response, which freezes a loom as its event's handler acts, or at once
where the event makes no entry. -/
def State.eccFailed (s : State) (c master : Nat) : State :=
  let e : Ev := { src := 523, unit := c, master := master }
  let logged := (s.signal e).2 && decide (s.nat K.logLogMinSeverity ≤ 3)
  let s := (s.bump (K.beamLinkEccUncorrected c)).raise e
  let s := if !logged && 11 ≤ master && master < 27 then s.freeze master .ecc 0 0 else s
  let x := s.bch c
  let times := s.clk.ticks :: x.eccTimes.filter fun t => !passed s t 1000000000
  if 16 ≤ times.length then (s.setBch c { x with eccTimes := [] }).startAttempt c else s.setBch c { x with eccTimes := times }

/-- BEAM_READ_RETURN (R369, R373, R374, R383): data return; where its link check fails a second time, data is what was read. -/
def execBeamReadReturn (ch : BeamChan) (data : Bytes) (ecc : EccResult) (s : State) : Result := whenClocked s <|
  let c : Nat := ch
  match nextReturn (s.bch c) with
  | none => .next s
  | some e =>
    let s := s.beamBusy
    match e.forwarded with
    | some d => .next (s.deliver c e d)
    | none =>
      match ecc with
      | .clean => .next (s.deliver c e (Memory.readBytes s.dram e.addr e.len))
      | .corrected =>
        .next (((s.bump (K.beamLinkEccCorrected c)).count (592 + 8 * c + 7) 1).deliver c e (Memory.readBytes s.dram e.addr e.len))
      | .uncorrected =>
        if e.retried then
          .next ((s.deliver c e ((data ++ List.replicate e.len 0).take e.len)).eccFailed c e.master)
        else
          let x := s.bch c
          .next (s.setBch c { x with reads := x.reads.map fun y => if y.seq = e.seq then { y with issued := false, retried := true } else y })

/-! ## Refresh, power-down and self-refresh (R370, R371, R375, R376) -/

/-- REFRESH_DUE (R370): tREFI elapses on a Beam channel: each rank owes one more refresh, up to RefreshPostponeMax. -/
def execRefreshDue (ch : BeamChan) (s : State) : Result := whenClocked s <|
  let c : Nat := ch
  let x := s.bch c
  let period := 23436 / s.beam.mr4
  if !s.beam.trained || s.beam.failed || s.beam.selfRefresh || decide (s.clk.ticks * 25 < x.refiAt + period) then .next s
  else
    let owe (k : RankSt) : RankSt := { k with owed := max k.owed (min (k.owed + 1) (s.nat K.beamRefreshPostponeMax)) }
    let x := { x with refiAt := x.refiAt + period, rank0 := owe x.rank0, rank1 := if s.beam.ranks = 2 then owe x.rank1 else x.rank1 }
    let s := s.setBch c x
    .next (if 4 < max x.rank0.owed x.rank1.owed then s.beamBusy else s)

/-- MR4_POLL (R370, R371): every 16 ms MR4 of every device is read; the highest refresh multiplier counts. -/
def execMr4Poll (codes : List Nat) (s : State) : Result := whenClocked s <|
  if !s.beam.trained || s.beam.failed || s.beam.selfRefresh || !passed s s.beam.mr4At 16000000 then .next s
  else
    let m := if 4 ≤ maxOf codes then 4 else if 2 ≤ maxOf codes then 2 else 1
    let old := s.beam.mr4
    let s := { s with beam := { s.beam with mr4 := m, mr4At := s.clk.ticks } }
    .next (if (m = 4) = (old = 4) then s else s.raise { src := 526 })

/-- POWER_DOWN_ENTRY (R375): a rank to which nothing has been queued for PowerDownIdleNs enters power-down. -/
def execPowerDownEntry (ch : BeamChan) (rank : Nat) (s : State) : Result := whenClocked s <|
  let c : Nat := ch
  let x := s.bch c
  let k := x.rank rank
  let used := (x.reads.any fun e => rankOf s e.addr == rank) || x.writes.any fun w => rankOf s (64 * w.unit) == rank
  if !s.beam.trained || s.beam.failed || s.beam.selfRefresh || decide (s.beam.ranks ≤ rank) || used || k.powerDown
      || !passed s k.lastQueued (s.nat K.beamPowerDownIdleNs) then .next s
  else .next (s.setBch c (x.setRank rank { k with powerDown := true }))

/-- R376: nothing stands in the way of self-refresh. -/
def beamIdle (s : State) : Bool :=
  !(s.fab.inflight.any fun (f : Nat × Flight) => f.2.txn.target == .dram && !f.2.done)
    && s.beam.returning.isNone
    && (List.range 8).all fun c =>
      let x := s.bch c
      x.reads.isEmpty && x.writes.isEmpty && decide (x.rank0.owed ≤ 4) && decide (x.rank1.owed ≤ 4) && !x.retraining

/-- SELF_REFRESH_ENTRY (R376): the Beam has been idle for SelfRefreshIdleUs and enters self-refresh on every channel and rank. -/
def execSelfRefreshEntry (s : State) : Result := whenClocked s <|
  let us := s.nat K.beamSelfRefreshIdleUs
  if !s.beam.trained || s.beam.failed || s.beam.selfRefresh || s.beam.switching.isSome || us = 0 || !beamIdle s
      || !passed s s.beam.idleSince (us * 1000) then .next s
  else .next (State.raise (State.showBeam { s with beam := { s.beam with selfRefresh := true } }) { src := 525 })

/-! ## Bandwidth (R384) -/

/-- R384: what a channel has moved in the window becomes its reading, and its window starts again. -/
def State.channelWindow (s : State) (c : Nat) : State :=
  let x := s.bch c
  ((s.setBch c { x with readBytes := 0, writeBytes := 0 }).setN (K.beamReadMBps c) (x.readBytes / 1000)).setN
    (K.beamWriteMBps c) (x.writeBytes / 1000)

/-- R384: the readings of the channels and of the whole load. -/
def State.loadReported (s : State) : State :=
  ((List.range 8).foldl State.channelWindow s).setN K.beamBeamLoadPermille
    (min 65535 (floorN (q (((List.range 8).map fun c => (s.bch c).readBytes + (s.bch c).writeBytes).sum * 1000000) / sustained s.beam.setPoint)))

/-- A window has its number. -/
def State.windowAt (s : State) (n : Nat) : State := { s with beam := { s.beam with window := n } }

/-- BANDWIDTH_WINDOW (R384): a window of 1 ms of presented time has ended; its bytes are reported. -/
def execBandwidthWindow (s : State) : Result := whenClocked s <|
  if nowNs s / 1000000 = s.beam.window then .next s else .next (s.loadReported.windowAt (nowNs s / 1000000))

end Sys2Proof.Machine
end

