-- ==== Sys2Proof/Machine/Update.lean ====
section
/-!
DEFINITION. Sys2Proof/Machine/Update.lean: keys, firmware images, activation and the transfer of images across the chain (R440 to R450).
-/

namespace Sys2Proof.Machine

/-! ## Keys (R440, R441) -/

/-- R440: a write of a key object, with its status; slots 0 to 7 hold Shed keys, 16 the chain link key. -/
def State.keyAsk (s : State) (slot : Nat) (key : Bytes) : State × Nat :=
  if key.isEmpty then ({ s with flash := { s.flash with keys := AMap.del s.flash.keys slot } }, stOk)
  else if key.length = 32 then ({ s with flash := { s.flash with keys := AMap.put s.flash.keys slot { value := key } } }, stOk)
  else (s, stLengthMismatch)

/-! ## Images (R442, R443) -/

/-- A field of a header block. -/
def hdr (h : Bytes) (off n : Nat) : Nat := ofBeBytes ((h.drop off).take n)

/-- A block as stored: 4,096 bytes. -/
def fullBlock (b : Bytes) : Bytes := (b ++ List.replicate 4096 0).take 4096

/-- The blocks of an image. -/
def imageBlocks (h : Bytes) : Nat := hdr h 16 4 / 4096

/-- R449: the reason for which R443 steps 1 to 4 refuse a header: 4 WrongPart, 6 SignatureFailed, 3 Rollback; 0 for none. An
ImageLength outside R442 counts as step 1. -/
def headerReason (f : Fuses) (h : Bytes) : Nat :=
  let len := hdr h 16 4
  let slot := hdr h 9 1
  let key := (h.drop 576).take 97
  if hdr h 0 4 != 0x5A53494D || hdr h 4 2 != 1 || hdr h 6 2 != 0x9140 || hdr h 8 1 != 0xB1 then 4
  else if len = 0 || len % 4096 != 0 || decide (16777216 < len) then 4
  else if decide (4 ≤ slot) || AMap.find? f.keyHash slot != some (sha384 key) || bit f.revoked slot then 6
  else if !ecdsaVerify (sha384 (h.take 680)) key ((h.drop 680).take 96) then 6
  else if hdr h 10 2 < f.rollback then 3
  else 0

/-- R443 step 5: every part lies within the image and its hash matches. -/
def partsHold (h image : Bytes) : Bool :=
  let n := hdr h 20 1
  decide (1 ≤ n) && decide (n ≤ 8) && (List.range n).all fun i =>
    let o := 64 + 64 * i
    let off := hdr h (o + 4) 4
    let len := hdr h (o + 8) 4
    decide (off + len ≤ hdr h 16 4) && (h.drop (o + 16)).take 48 == sha384 ((image.drop off).take len)

/-- The blocks of a firmware slot, 0 A and 1 B. -/
def slotBlocks (f : Flash) (slot : Nat) : AMap Bytes := if slot = 0 then f.fwA else f.fwB
/-- A firmware slot written. -/
def State.setSlot (s : State) (slot : Nat) (m : AMap Bytes) : State :=
  { s with flash := if slot = 0 then { s.flash with fwA := m } else { s.flash with fwB := m } }

/-- The header block of a slot. -/
def slotHeader (f : Flash) (slot : Nat) : Bytes := fullBlock (AMap.getD (slotBlocks f slot) 0 [])

/-- R443: whether a slot holds a valid image. -/
def slotValid (fu : Fuses) (f : Flash) (slot : Nat) : Bool :=
  let m := slotBlocks f slot
  let h := slotHeader f slot
  !m.isEmpty && headerReason fu h == 0
    && partsHold h ((List.range (imageBlocks h)).map fun i => fullBlock (AMap.getD m i [])).flatten

/-- SlotAState and SlotBState. -/
def slotKey (slot : Nat) : Nat := if slot = 0 then K.selvSlotAState else K.selvSlotBState

/-- R451: a slot's state and the version that it holds. -/
def State.showSlot (s : State) (slot st : Nat) : State :=
  let v := if st = 0 || st = 1 || st = 2 then 0 else hdr (slotHeader s.flash slot) 12 4
  (s.setN (slotKey slot) st).setN (if slot = 0 then K.selvSlotAVersion else K.selvSlotBVersion) v

/-! ## The boot selector (R444) -/

/-- R444: the selector that governs: the valid copy with the higher Sequence. -/
def governing (f : Flash) : Selector :=
  if f.selA.valid && (!f.selB.valid || decide (f.selB.sequence ≤ f.selA.sequence)) then f.selA
  else if f.selB.valid then f.selB else {}

/-- R444: the selector written over the copy with the lower Sequence. -/
def writeSelector (f : Flash) (slot trial : Nat) : Flash :=
  let x : Selector := { valid := true, sequence := ((governing f).sequence + 1) % 2 ^ 32, activeSlot := slot, trialState := trial }
  if f.selA.valid && (!f.selB.valid || decide (f.selB.sequence ≤ f.selA.sequence)) then { f with selB := x } else { f with selA := x }

/-- The active slot. -/
def activeSlot (s : State) : Nat := (governing s.flash).activeSlot
/-- The inactive slot. -/
def inactiveSlot (s : State) : Nat := 1 - activeSlot s
/-- R445: a trial has booted and has not been confirmed. -/
def onTrial (s : State) : Bool := (governing s.flash).trialState == 2

/-! ## Activation (R445, R446) -/

/-- R445, R446: an Activate write, with its status. -/
def State.activateAsk (s : State) : State × Nat :=
  if s.nat (slotKey (inactiveSlot s)) != 3 || onTrial s || s.boot.activation.isSome then (s, stInconsistent)
  else
    let s := { s with boot := { s.boot with activation := some (ofTime80 (s.int K.selvActivateAt)) } }
    (s.raise { src := 583 }, stOk)

/-- R446: a scheduled activation is withdrawn. -/
def State.cancelActivationAsk (s : State) : State :=
  if s.boot.activation.isNone then s else State.raise { s with boot := { s.boot with activation := none } } { src := 583 }

/-- R445: the confirmation of a trial completes: its state ends. -/
def State.confirmDone (s : State) : State :=
  let a := activeSlot s
  (State.showSlot { s with flash := writeSelector s.flash a 0 } a 4).raise { src := 584 }

/-- R445, R501: the trial is confirmed. Where fuses are to be blown, for the rollback counter or revoked keys, the confirmation completes when
the blow has been made. -/
def State.confirm (s : State) : State :=
  if !onTrial s then s
  else
    let h := slotHeader s.flash (activeSlot s)
    let roll := max s.fuses.rollback (min 64 (hdr h 10 2))
    let rev := if bit (hdr h 21 1) 0 then s.fuses.revoked ||| (2 ^ hdr h 9 1 - 1) else s.fuses.revoked
    if roll = s.fuses.rollback && rev = s.fuses.revoked then s.confirmDone
    else { s with boot := { s.boot with blowAsked := some (roll, rev) } }

/-- FUSE_BLOW (R501): a fuse blow that a confirmation calls for is made while VDD_FUSE lies within its window. -/
def execFuseBlow (s : State) : Result := whenClocked s <|
  match s.boot.blowAsked with
  | none => .next s
  | some (roll, rev) =>
    if bit s.power.low 8 || bit s.power.high 8 then .next s
    else .next (State.confirmDone { s with fuses := { s.fuses with rollback := roll, revoked := rev }, boot := { s.boot with blowAsked := none } })

/-- AUTO_CONFIRM_EXPIRY (R445): AutoConfirmS after ConfigCommitted the trial is confirmed, unless AutoConfirmS is 0. -/
def execAutoConfirmExpiry (s : State) : Result := whenClocked s <|
  let n := s.nat K.selvAutoConfirmS
  if s.boot.configCommitted && n != 0 && passed s s.boot.committedAt (n * 1000000000) then .next s.confirm else .next s

/-! ## Image messages (R448) -/

/-- An image message as read. -/
structure ImageMsg where
  kind : Nat
  reason : Nat
  id : Nat
  block : Nat
  crcOk : Bool
  body : Bytes
  deriving DecidableEq, Repr

/-- R448: the fields of an image message. -/
def parseImage (b : Bytes) : Option ImageMsg :=
  if b.length < 12 then none
  else
    let body := b.drop 12
    some { kind := hdr b 0 1, reason := hdr b 1 1, id := hdr b 2 2, block := hdr b 4 4, crcOk := hdr b 8 4 == crc32c (b.take 8 ++ body), body := body }

/-- R448: an image message. -/
def imageMessage (kind reason id block : Nat) (body : Bytes) : Bytes :=
  let head := [BitVec.ofNat 8 kind, BitVec.ofNat 8 reason] ++ beBytes 2 id ++ beBytes 4 block
  head ++ beBytes 4 (crc32c (head ++ body)) ++ body

/-- R448: an image message goes out on a chain port in class 4. -/
def State.sendImage (s : State) (side kind reason id block : Nat) (body : Bytes) : State :=
  s.queueChain side 4 (imageMessage kind reason id block body)

/-! ## Offering (R450) -/

/-- R450: the image in a slot is offered on a chain port. -/
def State.offerOn (s : State) (side slot : Nat) : State :=
  let up := if side = 0 then s.net.chain.upPort.up else s.net.chain.downPort.up
  if !up then s
  else
    let id := s.boot.nextTransfer
    let s := { s with boot := { s.boot with nextTransfer := (id + 1) % 65536, offered := AMap.put s.boot.offered side (slot, id, false) } }
    s.sendImage side 1 0 id 0 (slotHeader s.flash slot)

/-- R450: a newly Verified image is offered on every chain port other than the one it arrived on; 2 stands for PCIe. -/
def State.forwardImage (s : State) (slot arrived : Nat) : State :=
  if !s.flag K.selvForwardUpdates then s
  else [0, 1].foldl (fun s d => if d = arrived then s else s.offerOn d slot) s

/-- R443, R449: a complete image in a slot is verified; a Verified one is offered on, an Invalid one is an error. -/
def State.verifySlot (s : State) (slot arrived : Nat) : State :=
  if slotValid s.fuses s.flash slot then ((s.showSlot slot 3).raise { src := 580 }).forwardImage slot arrived
  else (((s.showSlot slot 1).raise { src := 580 }).bump K.selvSignatureFailures).raise { src := 582 }

/-! ## Receiving (R449) -/

/-- R449: blocks are requested from the sender. -/
def State.askBlocks (s : State) (t : Transfer) (from_ count : Nat) : State :=
  s.sendImage t.from_ 4 0 t.id from_ (beBytes 2 count)

/-- R449: the answer that an Offer gets: 0 to accept it, or the reason to decline it. -/
def offerReason (s : State) (h : Bytes) : Nat :=
  if !s.flag K.selvAcceptChainUpdates then 5
  else if [0, 1].any (fun x => !(slotBlocks s.flash x).isEmpty && slotHeader s.flash x == h) then 2
  else if s.boot.transfer.isSome || s.boot.activation.isSome then 1
  else if onTrial s || !s.boot.upload.isEmpty then 7
  else headerReason s.fuses h

/-- R449: an Offer is answered. -/
def State.answerOffer (s : State) (side : Nat) (m : ImageMsg) : State :=
  let h := fullBlock m.body
  let r := offerReason s h
  let s := s.raise { src := 579 }
  if r != 0 then
    let s := if r = 6 then (s.bump K.selvSignatureFailures).raise { src := 582 } else s
    s.sendImage side 3 r m.id 0 []
  else
    let slot := inactiveSlot s
    let n := imageBlocks h
    let first := min 16 n
    let t : Transfer := { from_ := side, id := m.id, slot := slot, header := h, blocks := n,
                          outstanding := (List.range first).map fun i => (i, s.clk.ticks, 0), nextAsk := first }
    let s := (s.setSlot slot []).showSlot slot 2
    let s := State.setN { s with boot := { s.boot with transfer := some t } } K.selvBlocksReceived 0
    (s.sendImage side 2 0 m.id 0 []).askBlocks t 0 first

/-- A message of the expected kind whose Crc holds. -/
def imageIn (kind : Nat) (msg : Bytes) : Option ImageMsg :=
  match parseImage msg with
  | some m => if m.kind = kind && m.crcOk then some m else none
  | none => none

/-- OFFER (R417, R449): an image Offer is accepted or declined, or held until ImageVerified. -/
def execOffer (side : ChainPort) (msg : Bytes) (s : State) : Result := whenClocked s <|
  let d : Nat := side
  match imageIn 1 msg with
  | none => .next s
  | some m =>
    if !s.boot.imageVerified then .next { s with boot := { s.boot with heldOffers := AMap.put s.boot.heldOffers d msg } }
    else .next (s.answerOffer d m)

/-- ACCEPT (R448): the neighbour accepts the image offered to it. -/
def execAccept (side : ChainPort) (msg : Bytes) (s : State) : Result := whenClocked s <|
  let d : Nat := side
  match imageIn 2 msg, AMap.find? s.boot.offered d with
  | some m, some (slot, id, _) =>
    if m.id = id then .next { s with boot := { s.boot with offered := AMap.put s.boot.offered d (slot, id, true) } } else .next s
  | _, _ => .next s

/-- DECLINE (R448): the neighbour declines the image offered to it. -/
def execDecline (side : ChainPort) (msg : Bytes) (s : State) : Result := whenClocked s <|
  let d : Nat := side
  match imageIn 3 msg, AMap.find? s.boot.offered d with
  | some m, some (_, id, _) => if m.id = id then .next { s with boot := { s.boot with offered := AMap.del s.boot.offered d } } else .next s
  | _, _ => .next s

/-- REQUEST (R448, R450): the blocks asked for are sent from the Verified slot, and Done after the last one. -/
def execRequest (side : ChainPort) (msg : Bytes) (s : State) : Result := whenClocked s <|
  let d : Nat := side
  match imageIn 4 msg, AMap.find? s.boot.offered d with
  | some m, some (slot, id, true) =>
    let n := imageBlocks (slotHeader s.flash slot)
    let count := hdr m.body 0 2
    if m.id != id || m.body.length != 2 || count = 0 || decide (16 < count) || decide (n < m.block + count) || s.nat (slotKey slot) != 3 then .next s
    else
      let blocks := slotBlocks s.flash slot
      let s := (List.range count).foldl (fun s i =>
        s.sendImage d 5 0 id (m.block + i) (fullBlock (AMap.getD blocks (m.block + i) []))) s
      if m.block + count = n then
        .next (s.sendImage d 6 0 id 0 (sha384 ((List.range n).map fun i => fullBlock (AMap.getD blocks i [])).flatten))
      else .next s
  | _, _ => .next s

/-- R449: a block that failed or has not come is requested again; after its third failure the transfer is abandoned. -/
def State.blockFailed (s : State) (t : Transfer) (block : Nat) : State :=
  match t.outstanding.find? (·.1 == block) with
  | none => s
  | some (_, _, fails) =>
    if 2 ≤ fails then s.abandonTransfer
    else
      let out := t.outstanding.map fun x => if x.1 = block then (block, s.clk.ticks, fails + 1) else x
      let s := State.bump { s with boot := { s.boot with transfer := some { t with outstanding := out } } } K.selvBlockRetries
      s.askBlocks t block 1

/-- BLOCK_MESSAGE (R417, R449): a block whose Crc holds is written to flash and the next one is requested; one whose Crc fails is requested
again. Before ImageVerified blocks are dropped and counted. -/
def execBlockMessage (side : ChainPort) (msg : Bytes) (s : State) : Result := whenClocked s <|
  let d : Nat := side
  if !s.boot.imageVerified then .next { s with boot := { s.boot with blocksDropped := s.boot.blocksDropped + 1 } }
  else
    match parseImage msg, s.boot.transfer with
    | some m, some t =>
      if m.kind != 5 || t.from_ != d || m.id != t.id || !(t.outstanding.any (·.1 == m.block)) then .next s
      else if !m.crcOk || m.body.length != 4096 then .next (s.blockFailed t m.block)
      else
        let s := s.count 736 1
        let out := t.outstanding.filter (·.1 != m.block)
        let more := decide (t.nextAsk < t.blocks)
        let t' := { t with outstanding := if more then out ++ [(t.nextAsk, s.clk.ticks, 0)] else out,
                           nextAsk := if more then t.nextAsk + 1 else t.nextAsk }
        let s := s.setSlot t.slot (AMap.put (slotBlocks s.flash t.slot) m.block m.body)
        let s := State.bump { s with boot := { s.boot with transfer := some t' } } K.selvBlocksReceived
        .next (if more then s.askBlocks t' t.nextAsk 1 else s)
    | _, _ => .next s

/-- DONE (R449): the transfer has ended and its slot is verified. -/
def execDone (side : ChainPort) (msg : Bytes) (s : State) : Result := whenClocked s <|
  let d : Nat := side
  match imageIn 6 msg, s.boot.transfer with
  | some m, some t =>
    if t.from_ != d || m.id != t.id then .next s
    else .next (State.verifySlot { s with boot := { s.boot with transfer := none } } t.slot d)
  | _, _ => .next s

/-- BLOCK_REQUEST_TIMEOUT (R449): a block has not arrived 100 ms after its Request. -/
def execBlockRequestTimeout (block : Nat) (s : State) : Result := whenClocked s <|
  match s.boot.transfer with
  | none => .next s
  | some t =>
    match t.outstanding.find? (·.1 == block) with
    | some (_, at_, _) => if passed s at_ 100000000 then .next (s.blockFailed t block) else .next s
    | none => .next s

/-! ## Upload through ring 36 (R447) -/

/-- R447: whether something holds the slot that ring 36 would write. -/
def uploadHeld (s : State) : Bool := !s.boot.stayBooting && (s.boot.transfer.isSome || onTrial s || s.boot.activation.isSome)

/-- R447: the slot that ring 36 writes. -/
def uploadSlot (s : State) : Nat := if s.boot.stayBooting then 0 else inactiveSlot s

/-- The blocks of a run of bytes, by number. -/
def toBlocks (b : Bytes) : AMap Bytes := (List.range (ceilDiv b.length 4096)).map fun i => (i, fullBlock (b.drop (4096 * i)))

/-- R447: an uploaded image is complete: it is written to its slot and verified. -/
def State.finishUpload (s : State) : State :=
  let slot := uploadSlot s
  let s := s.setSlot slot (toBlocks s.boot.upload)
  State.verifySlot { s with boot := { s.boot with upload := [] } } slot 2

end Sys2Proof.Machine
end

