-- ==== Sys2Proof/Machine/Lanes.lean ====
section
/-!
DEFINITION. Sys2Proof/Machine/Lanes.lean: serial lanes and weft coding (R343 to R364).
-/

namespace Sys2Proof.Machine

/-! ## What a lane is bound to (R345, R355) -/

/-- R247: whether a lane belongs to a chain port, and to which. -/
def chainSide (v : View) (n : Nat) : Option Nat := [0, 1].find? fun d => (chainLanes v d).contains n

/-- R85, R106: the link of channel c that an SDI lane carries: byte i of SdiLanes is bits 8i + 7 to 8i. -/
def sdiLink (v : View) (c n : Nat) : Option Nat :=
  if v.nat (K.reedSourceType c) != 1 then none
  else (List.range (v.nat (K.reedSdiLinks c))).find? fun i => v.nat (K.reedSdiLanes c) / 2 ^ (8 * i) % 256 == n

/-- R345, R351, R355: whether a lane is bound to a port, an SDI link, a weft picture link or a chain port. -/
def laneBound (v : View) (n : Nat) : Bool :=
  let x := n / 4
  (List.range 8).any (fun p => v.nat (K.quadPortBinding p) == n || v.nat (K.quadPortBinding p) == 0x40 + x)
    || (List.range 16).any (fun c => (sdiLink v c n).isSome || (v.nat (K.reedSourceType c) == 3 && v.nat (K.reedWeftQuad c) == x))
    || (chainSide v n).isSome
    || (v.nat (K.quadWeftRole x) == 1 && v.nat (K.quadWeftTxChannel x) != 0xFF && v.nat (K.quadQuadMode x) == 4)

/-- R355: whether a lane is to be folded. -/
def toFold (v : View) (n : Nat) : Bool :=
  quadMode v n == 0 || v.nat (K.laneLanePower n) == 3 || (v.nat (K.laneLanePower n) == 0 && !laneBound v n)

/-- R343: the line rate of a lane, bit/s. -/
def laneRate (s : State) (n : Nat) : Rat :=
  let x := n / 4
  match s.nat (K.quadQuadMode x) with
  | 1 => 25781250000
  | 2 => (match s.nat (K.quadLineRate x) with | 0 => 10312500000 | 4 => 1250000000 | _ => 25781250000)
  | 3 => ([11880000000, 5940000000, 2970000000, 11880000000000 / 1001, 5940000000000 / 1001, 2970000000000 / 1001] : List Rat).getD
           (s.lane n).sdiRate 11880000000
  | 4 => ([10312500000, 12500000000, 25781250000, 28125000000] : List Rat).getD (s.nat (K.quadLineRate x)) 10312500000
  | _ => 0

/-! ## States and links -/

/-- R352, R356, R268: the chain ports' links follow their lanes; a link that goes down abandons the transfer on it (R450). -/
def State.chainLinks (s : State) : State :=
  [0, 1].foldl (fun s d =>
    let ls := chainLanes s.view d
    let up := ls.length == 2 && linkLanesUp s ls
    let p := s.chainPort d
    let st := if up then 2 else if ls.any fun n => (s.lane n).cdrLock then 1 else 0
    let k := if d = 0 then K.chainUpState else K.chainDownState
    let s := if s.nat k = st then s else s.setN k st
    if up = p.up then s
    else
      let s := s.setChainPort d { p with up := up, partner := none, idleSince := s.clk.ticks }
      let mine := match s.boot.transfer with | some t => t.from_ == d | none => false
      let s := if !up && mine then s.abandonTransfer else s
      let s := if up then s else { s with boot := { s.boot with offered := AMap.del s.boot.offered d } }
      s.raise { src := 613 }) s

/-- R359: what an ended scan reports. -/
def State.scanReport (s : State) (n state bits errors : Nat) : State :=
  let s := ((s.setN (K.scanScanState n) state).setN (K.scanBitsCompared n) bits).setN (K.scanErrors n) errors
  let s := (s.setN (K.scanBerEstimate n) (Config.ratioF32 errors bits).toNat).setN (K.scanBerBound95 n) (Config.boundF32 errors bits).toNat
  (s.setLane n { s.lane n with scanSince := none }).raise { src := 449 + 2 * n, unit := n }

/-- R359: bits compared in so many nanoseconds: one in every 32. -/
def scanBits (s : State) (n : Nat) (ns : Rat) : Nat := floorN (laneRate s n * ns / 1000000000 / 32)

/-- R359: a running scan is aborted; its errors so far are a free value of at most the bits compared. -/
def State.scanAbort (s : State) (n : Nat) : State :=
  match (s.lane n).scanSince with
  | none => s
  | some t =>
    let bits := scanBits s n (q ((s.clk.ticks - t) * 25) / 6)
    s.nextFree.scanReport n 3 bits ((Config.freeWord s.freeCtr).toNat % (bits + 1))

/-- R363, R360: a lane changes its state; entering or leaving Up, or entering Fault, is an event unless `quiet`, and ends a scan. -/
def State.laneTo (s : State) (n : Nat) (m : LaneMode) (quiet : Bool) : State :=
  let x := s.lane n
  if x.mode = m then s
  else
    let s := if x.mode = .up then s.scanAbort n else s
    let s := (s.setLane n { s.lane n with mode := m }).setN (K.laneLaneStateNow n) m.code
    let s := if m.works then s else s.setN (K.laneDetectedRateMbps n) 0
    let s := if !quiet && (x.mode == .up || m == .up || m == .fault) then s.raise { src := 448 + 2 * n, unit := n } else s
    s.chainLinks

/-- A lane without its locks. -/
def LaneSt.unlocked (x : LaneSt) : LaneSt :=
  { x with blockLock := false, frameLock := false, noticeSeen := false, headers := [], framingMisses := 0, lastFrameSeq := none, sinceFrame := 0 }

/-- R352: alignment starts. -/
def State.startAlign (s : State) (n : Nat) : State :=
  let x := (s.lane n).unlocked
  ((s.setLane n { x with alignCount := (x.alignCount + 1) % 256 }).count (528 + 2 * n + 1) 1).laneTo n .aligning false

/-- LANE_CDR_LOCK (R352): a lane gains clock recovery; a weft lane's alignment starts once BoltReady is set, any other lane trains by its
standard. -/
def execLaneCdrLock (lane : LaneId) (s : State) : Result := whenClocked s <|
  let n : Nat := lane
  let x := s.lane n
  if quadMode s.view n = 0 || x.mode = .fold || x.cdrLock || !s.boot.earlySet then .next s
  else
    let s := s.setLane n { x with cdrLock := true, pllLock := true }
    if quadMode s.view n = 4 && !s.boot.boltReady then .next s.chainLinks else .next (s.startAlign n)

/-- R352: at BoltReady the weft lanes that have clock recovery are aligned. -/
def State.alignWeft (s : State) : State :=
  (List.range 32).foldl (fun s n => if quadMode s.view n = 4 && (s.lane n).cdrLock && (s.lane n).mode == .off then s.startAlign n else s) s

/-- R360 DetectedRateMbps: the line rate in use, in Mb/s; how a rate that is not whole is rounded is left open. -/
def State.showRate (s : State) (n : Nat) : State :=
  let r := laneRate s n / 1000000
  s.setN (K.laneDetectedRateMbps n) (floorN r + if r.den = 1 then 0 else Config.rateRounding.toNat)

/-- R355: whether a chain port carries seam traffic. -/
def seamTraffic (s : State) (d : Nat) : Bool := !(sidesOn s d).isEmpty

/-- R354, R356: a lane enters Soak: its SoakNotice block is sent. -/
def State.enterSoak (s : State) (n : Nat) (quiet : Bool) : State :=
  let s := s.laneTo n .soak quiet
  ((s.setLane n { s.lane n with lastBurst := s.clk.ticks }).bump (K.laneSoakCount n)).emit (.weft n 1)

/-- LANE_ALIGNMENT_DONE (R352): alignment ends: a weft lane that was aligned within 65 slips is Up, any other in Fault. -/
def execLaneAlignmentDone (lane : LaneId) (slips : Nat) (s : State) : Result := whenClocked s <|
  let n : Nat := lane
  let x := s.lane n
  let weft := quadMode s.view n == 4
  if x.mode != .aligning || !x.cdrLock then .next s
  else if weft && decide (66 ≤ slips) then
    let s := (s.setLane n { x with faultSince := s.clk.ticks }).bump (K.laneAlignFailCount n)
    .next (s.laneTo n .fault false)
  else
    let sdi := (Config.freeWord s.freeCtr).toNat % 6
    let s := if quadMode s.view n = 3 then s.nextFree else s
    let s := s.setLane n { x with blockLock := true, frameLock := weft, slipCount := if weft then slips else 0, lastBlock := s.clk.ticks, sdiRate := sdi }
    let s := (s.laneTo n .up false).showRate n
    if s.nat (K.laneLanePower n) = 2 && (chainSide s.view n).isSome then
      .next ((s.enterSoak n false).raise { src := 449 + 2 * n, unit := n })
    else .next s

/-- LANE_ALIGN_RETRY (R352): a lane in Fault is aligned again every 100 ms while CdrLock holds. -/
def execLaneAlignRetry (lane : LaneId) (s : State) : Result := whenClocked s <|
  let n : Nat := lane
  let x := s.lane n
  if x.mode != .fault || !x.cdrLock || !passed s x.faultSince 100000000 then .next s else .next (s.startAlign n)

/-- CDR_LOCK_LOSS (R352): a lane loses clock recovery: it leaves Up and its link goes down; an SDI link on it is lost (R85). -/
def execCdrLockLoss (lane : LaneId) (s : State) : Result := whenClocked s <|
  let n : Nat := lane
  let x := s.lane n
  if !x.cdrLock then .next s
  else
    let s := s.setLane n { x.unlocked with cdrLock := false }
    let s := if x.mode = .fault then s.chainLinks else s.laneTo n .off false
    .next ((List.range 16).foldl (fun s c => match sdiLink s.view c n with | some i => s.linkLost c i .lock | none => s) s)

/-! ## Blocks (R348, R353, R356) -/

/-- R347: the payload of a block as its sender held it: 1 + x³⁹ + x⁵⁸ on the payload bits, `before` those that came last. -/
def descramble (before : BitVec 58) (payload : BitVec 64) : BitVec 64 :=
  let bits := payload ++ before
  payload ^^^ (bits >>> 19).setWidth 64 ^^^ bits.setWidth 64

/-- R347: the last 58 payload bits after a block. -/
def lastBits (payload : BitVec 64) : BitVec 58 := (payload >>> 6).setWidth 58

/-- R348: the bytes i to j of a payload as a number, big-endian. -/
def weftField (w : BitVec 64) (i j : Nat) : Nat := ofBeBytes (((List.range 8).map fun b => (w >>> (8 * b)).setWidth 8).drop i |>.take (j + 1 - i))

/-- R347, R348: a block by its header and its payload. -/
def parseWeft (header : BitVec 2) (w : BitVec 64) : WeftBlock :=
  if header = 1 then .data w
  else if header != 2 then .invalid
  else match weftField w 0 0 with
    | 0x1E => .framing (weftField w 1 1) (weftField w 2 4) (weftField w 5 5)
    | 0x2D => .stuff
    | 0x33 => .soakNotice
    | 0x4B => .wake
    | 0x55 => .lineStart (weftField w 1 2) (weftField w 3 4) (weftField w 5 5)
    | 0x66 => .segmentStart (weftField w 1 1) (weftField w 2 3) (weftField w 4 5) (bit (weftField w 6 6) 0)
    | _ => .unknown

/-- R347, R348, R360: the block that lane n reads from what arrives at its pins. -/
def laneBlock (s : State) (n : Nat) (header : BitVec 2) (payload : BitVec 64) : WeftBlock :=
  if s.flag (K.laneRxInvert n) then parseWeft (~~~header) (descramble (s.lane n).scrambled (~~~payload))
  else parseWeft header (descramble (s.lane n).scrambled payload)

/-- R353: a framing block comes in or is missed. -/
def LaneSt.framing (x : LaneSt) (seq : Option Nat) : LaneSt :=
  let ok := match seq, x.lastFrameSeq with
    | some a, some b => a == (b + 1) % 2 ^ 24
    | some _, none => true
    | none, _ => false
  { x with sinceFrame := 0, framingMisses := if ok then 0 else x.framingMisses + 1,
           lastFrameSeq := match seq with | some a => some a | none => x.lastFrameSeq.map fun b => (b + 1) % 2 ^ 24 }

/-- R348, R349, R353, R356: a lane's record of a block. -/
def LaneSt.takeBlock (x : LaneSt) (block : WeftBlock) : LaneSt :=
  match block with
  | .framing _ seq _ => if x.noticeSeen then x else x.framing (some seq)
  | .soakNotice => { x with noticeSeen := true }
  | .wake => { x with noticeSeen := false, lastFrameSeq := none, sinceFrame := 0 }
  | _ => if x.noticeSeen then x else if 1023 ≤ x.sinceFrame then x.framing none else { x with sinceFrame := x.sinceFrame + 1 }

/-- WEFT_BLOCK_RECEIVED (R347 to R349, R353, R356, R360): a block arrives at the pins of a weft lane and is handled by its type; losses of
BlockLock or FrameLock take the lane down and align it again. On an Ethernet lane a block with an invalid header is an errored block. -/
def execWeftBlockReceived (lane : LaneId) (wire : WireBlock) (s : State) : Result := whenClocked s <|
  let n : Nat := lane
  let x := s.lane n
  let block := laneBlock s n wire.header wire.payload
  let count (s : State) : State := (s.bump (K.laneCodeErrors n)).count (528 + 2 * n) 1
  if !x.mode.works then .next s
  else if quadMode s.view n != 4 then
    .next (if (quadMode s.view n == 1 || quadMode s.view n == 2) && block == .invalid then count s else s)
  else
    let bad := block == .invalid
    let hs := ((!bad) :: x.headers).take 64
    let arrived := if s.flag (K.laneRxInvert n) then ~~~wire.payload else wire.payload
    let y := LaneSt.takeBlock { x with headers := hs, lastBlock := s.clk.ticks, scrambled := lastBits arrived } block
    let s := s.setLane n y
    let s := if bad || block == .unknown then count s else s
    let lost := decide (16 ≤ (hs.filter (!·)).length) || decide (2 ≤ y.framingMisses)
    .next (if lost then s.startAlign n else s.chainLinks)

/-! ## Soak (R354 to R356) -/

/-- R355, R363: LanePower is Auto, under which Soak entries are counted only. -/
def State.autoPower (s : State) (n : Nat) : Bool := s.nat (K.laneLanePower n) == 0

/-- SOAK_IDLE_EXPIRY (R355, R359): a chain lane without seam traffic enters Soak: under Auto once nothing has been queued for SoakIdleUs and
while no scan runs; under LanePower 2 it goes back to Soak as soon as nothing is queued. -/
def execSoakIdleExpiry (lane : LaneId) (s : State) : Result := whenClocked s <|
  let n : Nat := lane
  let x := s.lane n
  match chainSide s.view n with
  | none => .next s
  | some d =>
    let p := s.chainPort d
    let auto := s.autoPower n && x.scanSince.isNone && passed s p.idleSince (s.nat (K.laneSoakIdleUs n) * 1000)
    if x.mode != .up || !p.queue.isEmpty || seamTraffic s d || !(auto || s.nat (K.laneLanePower n) == 2) then .next s
    else .next (s.enterSoak n (s.autoPower n))

/-- R354, R356: a lane leaves Soak: the Wake blocks are sent. -/
def State.leaveSoak (s : State) (n : Nat) : State := ((s.laneTo n .up (s.autoPower n)).showRate n).emit (.weft n 2)

/-- SOAK_EXIT (R356): a segment is ready on a lane in Soak, which wakes. -/
def execSoakExit (lane : LaneId) (s : State) : Result := whenClocked s <|
  let n : Nat := lane
  match chainSide s.view n with
  | none => .next s
  | some d => if (s.lane n).mode = .soak && !(s.chainPort d).queue.isEmpty then .next (s.leaveSoak n) else .next s

/-- SOAK_BURST (R356): a lane in Soak sends a burst of blocks every 1.0 ms. -/
def execSoakBurst (lane : LaneId) (s : State) : Result := whenClocked s <|
  let n : Nat := lane
  let x := s.lane n
  if x.mode != .soak || !passed s x.lastBurst 1000000 then .next s
  else .next (State.emit (s.setLane n { x with lastBurst := s.clk.ticks }) (.weft n 3))

/-- WEFT_RX_SILENCE_TIMEOUT (R356): after SoakNotice no block has come for 2.0 ms: the link is down, and the lane is aligned again. -/
def execWeftRxSilenceTimeout (lane : LaneId) (s : State) : Result := whenClocked s <|
  let n : Nat := lane
  let x := s.lane n
  if !x.noticeSeen || !x.mode.works || !passed s x.lastBlock 2000000 then .next s else .next (s.startAlign n)

/-! ## The eye scan (R358, R359) -/

/-- R359: a ScanStart write, with its status. -/
def State.scanAsk (s : State) (n : Nat) : State × Nat :=
  let x := s.lane n
  if x.mode != .up then (s, stInconsistent)
  else (State.setN (s.setLane n { x with scanSince := some s.clk.ticks, scanDwell := s.nat (K.scanDwellMs n) }) (K.scanScanState n) 1, stOk)

/-- SCAN_DWELL_END (R359): DwellMs has passed and the scan reports. -/
def execScanDwellEnd (lane : LaneId) (errors : Nat) (s : State) : Result := whenClocked s <|
  let n : Nat := lane
  let x := s.lane n
  match x.scanSince with
  | none => .next s
  | some t =>
    if !passed s t (x.scanDwell * 1000000) then .next s
    else
      let bits := scanBits s n (q (x.scanDwell * 1000000))
      .next (s.scanReport n 2 bits (min errors bits))

/-! ## What a commit does to the lanes -/

/-- R346, R355, R359: the values that a commit, the early set or the boot put into force reach one lane. -/
def State.laneCommitted (s0 s : State) (n : Nat) : State :=
  let x := n / 4
  let requad := [K.quadQuadMode x, K.quadLineRate x, K.quadWeftRole x].any fun k => s0.obj k != s.obj k
  let pk := K.laneLanePower n
  let power := s0.obj pk != s.obj pk
  let s := if power then s.scanAbort n else s
  let s := if requad then State.laneTo (s.setLane n { (s.lane n).unlocked with cdrLock := false, pllLock := false }) n .off false else s
  let s :=
    if toFold s.view n then
      State.laneTo (s.setLane n { (s.lane n).unlocked with cdrLock := false, pllLock := false }) n .fold false
    else if (s.lane n).mode = .fold then s.laneTo n .off false
    else if s.nat pk = 2 && (s.lane n).mode = .up && power then s.enterSoak n false
    else if (s.lane n).mode = .soak
        && (s.nat pk == 1 || (match chainSide s.view n with | some d => seamTraffic s d | none => true)) then s.leaveSoak n
    else s
  if power && (s.nat pk = 3 || ((s.lane n).mode = .soak && s.nat pk = 2)) then s.raise { src := 449 + 2 * n, unit := n } else s

/-- What a commit does to all lanes and to the chain's links. -/
def State.lanesCommitted (s0 s : State) : State := ((List.range 32).foldl (fun s n => State.laneCommitted s0 s n) s).chainLinks

end Sys2Proof.Machine
end

