-- ==== Sys2Proof/Machine/RulesVideo.lean ====
section
/-!
DEFINITION. Sys2Proof/Machine/RulesVideo.lean: the cross-object rules of the video path that a commit must keep (R79, R95, R100 to R107,
R110 to R142, R150, R190, R193, R197, R216, R231, R252 to R262). Each rule answers the keys of the objects that break it.
-/

namespace Sys2Proof.Machine

/-- The key of an object, where a test says that it fails. -/
def fails (b : Bool) (k : Nat) : List Nat := if b then [k] else []

/-- The channels, and the 16 positions of a channel's layers and hem regions. -/
def sixteen : List Nat := List.range 16

/-- The enabled layers of the device in index order, as channel and position. -/
def enabledLayers (v : View) : List (Nat × Nat) :=
  (sixteen.flatMap fun c => sixteen.map fun i => (c, i)).filter fun x => v.flag (K.layerEnable x.1 x.2)

/-- The enabled hem regions of the device in index order. -/
def enabledHems (v : View) : List (Nat × Nat) :=
  (sixteen.flatMap fun c => sixteen.map fun h => (c, h)).filter fun x => v.flag (K.hemHemEnable x.1 x.2)

/-- The encoded channels. -/
def encodedChannels (v : View) : List Nat := sixteen.filter fun c => encoded v c

/-! ## Sources (R79, R95, R106, R291) -/

/-- R79: what channel c's source binds: a lane (0 to 31), a quad (0x100 up) or a flow context (0x1000 up), with the binding object. -/
def sourceBindings (v : View) (c : Nat) : List (Nat × Nat) :=
  match v.nat (K.reedSourceType c) with
  | 1 => (List.range (v.nat (K.reedSdiLinks c))).filterMap fun i =>
      let n := v.nat (K.reedSdiLanes c) / 2 ^ (8 * i) % 256
      if n = 0xFF then none else some (n, K.reedSdiLanes c)
  | 2 => [(v.nat (K.reedFlowId c), K.reedFlowId c), (v.nat (K.reedFlowIdProtect c), K.reedFlowIdProtect c)].filterMap fun x =>
      if x.1 = 0xFFFF then none else some (0x1000 + x.1, x.2)
  | 3 => if v.nat (K.reedWeftQuad c) = 0xFF then [] else [(0x100 + v.nat (K.reedWeftQuad c), K.reedWeftQuad c)]
  | _ => []

/-- R79: double bindings: the binding object of the higher-numbered of two channels. -/
def ruleDoubleBinding (v : View) : List Nat :=
  sixteen.flatMap fun c => (sourceBindings v c).flatMap fun b =>
    fails ((List.range c).any fun d => (sourceBindings v d).any fun x => x.1 == b.1) b.2

/-- R79: a lane whose quad is not in SDI mode, or a quad that is not in weft mode. -/
def ruleQuadOfSource (v : View) : List Nat :=
  sixteen.flatMap fun c => (sourceBindings v c).flatMap fun b =>
    if v.nat (K.reedSourceType c) = 1 then fails (decide (31 < b.1) || quadMode v b.1 != 3) b.2
    else if v.nat (K.reedSourceType c) = 3 then fails (v.nat (K.quadQuadMode (b.1 - 0x100)) != 4) b.2
    else []

/-- R291: a Reed FlowId that names a context of another kind than 1. -/
def ruleFlowOfSource (v : View) : List Nat :=
  sixteen.flatMap fun c => (sourceBindings v c).flatMap fun b =>
    fails (v.nat (K.reedSourceType c) == 2 && (flowVal v.fuses v.vals (b.1 - 0x1000) 1).toInt != 1) b.2

/-- R95: a channel's raster. -/
def raster (v : View) (c : Nat) : List Nat := [v.nat (K.reedRateNum c), v.nat (K.reedRateDen c), v.nat (K.reedReadPhaseNs c)]

/-- R95, R197: the first member of a group whose members differ in what they must share. -/
def ruleGroup (member : Nat → Nat) (share : Nat → List Nat) (key : Nat → Nat) : List Nat :=
  ((List.range 8).map (· + 1)).flatMap fun g =>
    match sixteen.filter fun c => member c == g with
    | [] => []
    | c :: t => fails (t.any fun d => share d != share c) (key c)

/-- R95: aligned groups. -/
def ruleAlignGroup (v : View) : List Nat := ruleGroup (fun c => v.nat (K.reedAlignGroup c)) (raster v) K.reedAlignGroup

/-- R106: ReadPhaseNs lies below P. -/
def ruleReadPhase (v : View) : List Nat :=
  sixteen.flatMap fun c => fails (decide (pictureNs v c ≤ q (v.nat (K.reedReadPhaseNs c)))) (K.reedReadPhaseNs c)

/-! ## Scaling (R100 to R102, R107) -/

/-- R100: an output size of so many samples from an input. -/
def ratioOk (i o : Nat) : Bool := decide (i ≤ 8 * o) && decide (o ≤ 16 * i)

/-- R100, R107: each scaled axis's ratio; the failing object is the increment where it is set, or else the output size. -/
def ruleScaleRatio (v : View) : List Nat :=
  sixteen.flatMap fun c =>
    let inc (k : Nat) : Bool := decide (v.nat k < 4096) || decide (524288 < v.nat k)
    fails (hScaled v c && (if v.has (K.reedHIncrement c) then inc (K.reedHIncrement c) else !ratioOk (inWidth v c) (v.nat (K.reedOutWidth c))))
        (if v.has (K.reedHIncrement c) then K.reedHIncrement c else K.reedOutWidth c)
      ++ fails (vScaled v c && (if v.has (K.reedVIncrement c) then inc (K.reedVIncrement c) else !ratioOk (inHeight v c) (v.nat (K.reedOutHeight c))))
        (if v.has (K.reedVIncrement c) then K.reedVIncrement c else K.reedOutHeight c)

/-- R101: the coefficients of a set, phase by phase: the taps of each of the 64 phases sum to 1,024. -/
def tapsSum (set : Bytes) (taps : Nat) : Bool :=
  (List.range 64).all fun p => ((List.range taps).map fun t => coefficient set taps p t).sum == 1024

/-- R101: coefficient sets. -/
def ruleTaps (v : View) : List Nat :=
  sixteen.flatMap fun c =>
    fails (v.has (K.reedCoefH c) && !tapsSum (v.oct (K.reedCoefH c)) 8) (K.reedCoefH c)
      ++ fails (v.has (K.reedCoefV c) && !tapsSum (v.oct (K.reedCoefV c)) 6) (K.reedCoefV c)

/-- R102: Lb. -/
def bufferLines (v : View) (c : Nat) : Nat := 6 + (ceilDiv (inHeight v c) (max 1 (outHeight v c)) - 1)

/-- R102: the channels whose line buffer is too short, by OutWidth. -/
def ruleLineBuffer (v : View) : List Nat :=
  sixteen.flatMap fun c =>
    fails ((hScaled v c || vScaled v c) && decide (49152 < bufferLines v c * min (inWidth v c) (outWidth v c))) (K.reedOutWidth c)

/-! ## Layers (R110 to R118, R122, R126, R142) -/

/-- R110: the first layer beyond 64. -/
def ruleContexts (v : View) : List Nat :=
  match (enabledLayers v)[64]? with
  | some x => [K.layerEnable x.1 x.2]
  | none => []

/-- R112: whether Reed channel d may feed a layer of channel c. -/
def feedOk (v : View) (c d : Nat) : Bool :=
  c == d || (raster v c == raster v d && (v.nat (K.reedRotation c) == 0) == (v.nat (K.reedRotation d) == 0))

/-- R111, R112: sources of layers. -/
def ruleLayerSource (v : View) : List Nat :=
  let ls := enabledLayers v
  let kind (x : Nat × Nat) : Nat := v.nat (K.layerSourceKind x.1 x.2)
  let ref (x : Nat × Nat) : Nat := v.nat (K.layerSourceRef x.1 x.2)
  let fifth (k n : Nat) : List Nat :=
    match (ls.filter fun x => kind x == k && ref x == n)[4]? with
    | some x => [K.layerSourceRef x.1 x.2]
    | none => []
  (ls.flatMap fun x =>
    match kind x with
    | 1 => fails (decide (15 < ref x) || !feedOk v x.1 (ref x)) (K.layerSourceRef x.1 x.2)
    | 2 => fails (decide (ref x < 16) || decide (31 < ref x)) (K.layerSourceRef x.1 x.2)
    | 3 => fails (decide (1 < ref x) || raster v x.1 != raster v (v.nat (K.unpMasterChannel (ref x)))) (K.layerSourceRef x.1 x.2)
    | _ => [])
    ++ (sixteen.flatMap fun d => fifth 1 d) ++ fifth 3 0 ++ fifth 3 1

/-- R113: rectangles of layers. -/
def ruleLayerRect (v : View) : List Nat :=
  (enabledLayers v).flatMap fun x =>
    let c := x.1
    let i := x.2
    let odd (k : Nat) : List Nat := fails (v.int k % 2 != 0) k
    let even := odd (K.layerDstX c i) ++ odd (K.layerSrcX c i) ++ odd (K.layerSrcWidth c i)
      ++ (if v.nat (K.loomChromaFormat c) = 0 then odd (K.layerDstY c i) ++ odd (K.layerSrcY c i) ++ odd (K.layerSrcHeight c i) else [])
    let size : Option (Nat × Nat) :=
      match v.nat (K.layerSourceKind c i) with
      | 1 => some (outWidth v (v.nat (K.layerSourceRef c i)), outHeight v (v.nat (K.layerSourceRef c i)))
      | 2 => some (v.nat (K.layerSurfaceWidth c i), v.nat (K.layerSurfaceHeight c i))
      | _ => none
    let excess (at_ len size : Nat) : Bool := if len = 0 then decide (size ≤ at_) else decide (size < at_ + len)
    even ++
      (match size with
       | none => []
       | some (w, h) =>
         if excess (v.nat (K.layerSrcX c i)) (v.nat (K.layerSrcWidth c i)) w then [K.layerSrcWidth c i]
         else fails (excess (v.nat (K.layerSrcY c i)) (v.nat (K.layerSrcHeight c i)) h) (K.layerSrcHeight c i))

/-- R118, R126: surfaces. -/
def ruleSurface (v : View) : List Nat :=
  (enabledLayers v).flatMap fun x =>
    let c := x.1
    let i := x.2
    if v.nat (K.layerSourceKind c i) != 2 then []
    else
      fails (v.nat (K.layerBufferStride c i) == 0 && decide (1 < v.nat (K.layerBuffers c i))) (K.layerBufferStride c i)
        ++ (if v.nat (K.layerSurfaceWidth c i) = 0 then [K.layerSurfaceWidth c i]
            else fails (v.nat (K.layerSurfaceHeight c i) == 0) (K.layerSurfaceHeight c i))

/-- R123, R142: whether LUT slot n is raw. -/
def rawSlot (v : View) (n : Nat) : Bool := v.has (K.pressGLutData n)

/-- R122: the ROM transform that a layer needs. -/
def layerRom (v : View) (x : Nat × Nat) : Option Nat :=
  if v.nat (K.layerSourceKind x.1 x.2) == 1 && v.nat (K.layerColourTransform x.1 x.2) == 0
      && decide (7 < v.nat (K.layerLutSlotSelect x.1 x.2)) then
    romTransform (v.nat (K.reedTransfer (v.nat (K.layerSourceRef x.1 x.2)))) (v.nat (K.pressOutputTransfer x.1))
  else none

/-- R122: the ROM transforms in use, in the order in which the layers need them, each with the first layer that needs it. -/
def romsInUse (v : View) : List (Nat × (Nat × Nat)) :=
  (enabledLayers v).foldl (fun l x =>
    match layerRom v x with
    | some n => if l.any fun y => y.1 == n then l else l ++ [(n, x)]
    | none => l) []

/-- R122: more transforms than slots; the failing object is the ColourTransform of the first layer that finds none. -/
def ruleLutSlots (v : View) : List Nat :=
  match (romsInUse v)[8 - ((List.range 8).filter (rawSlot v)).length]? with
  | some (_, x) => [K.layerColourTransform x.1 x.2]
  | none => []

/-- R142: LutSlotSelect names a raw slot. -/
def ruleLutSelect (v : View) : List Nat :=
  sixteen.flatMap fun c => sixteen.flatMap fun i =>
    let n := v.nat (K.layerLutSlotSelect c i)
    fails (decide (n < 8) && !rawSlot v n) (K.layerLutSlotSelect c i)

/-! ## Hem regions (R129) -/

/-- R129: regions on the grid of 8 and inside the canvas. -/
def ruleHems (v : View) : List Nat :=
  (enabledHems v).flatMap fun x =>
    let c := x.1
    let h := x.2
    fails (v.nat (K.hemX c h) % 8 != 0) (K.hemX c h) ++ fails (v.nat (K.hemY c h) % 8 != 0) (K.hemY c h)
      ++ fails (v.nat (K.hemWidth c h) % 8 != 0 || decide (v.nat (K.hemWidth c h) < 8)
          || decide (canvasW v c < v.nat (K.hemX c h) + v.nat (K.hemWidth c h))) (K.hemWidth c h)
      ++ fails (v.nat (K.hemHeight c h) % 8 != 0 || decide (v.nat (K.hemHeight c h) < 8)
          || decide (canvasH v c < v.nat (K.hemY c h) + v.nat (K.hemHeight c h))) (K.hemHeight c h)

/-! ## Coded channels (R150, R190, R193, R197, R216, R231) -/

/-- R190, R193: the object that a channel's row schedule names. -/
def scheduleKey (v : View) (c : Nat) : Nat :=
  if paced v c then K.pressCanvasHeight c
  else if v.nat (K.reedOutHeight c) != 0 then K.reedOutHeight c else K.reedHeight c

/-- R150: an even canvas for 4:2:0. -/
def ruleChroma (v : View) : List Nat :=
  (encodedChannels v).flatMap fun c => fails (v.nat (K.loomChromaFormat c) == 0 && canvasH v c % 2 == 1) (K.loomChromaFormat c)

/-- R190: R × I ≤ P; R193: M ≤ 16. -/
def ruleSchedule (v : View) : List Nat :=
  (encodedChannels v).flatMap fun c =>
    fails (decide (pictureNs v c < q (rowCount v c) * rowInterval v c) || decide (16 < phases v c)) (scheduleKey v c)

/-- R197: bundles. -/
def ruleBundle (v : View) : List Nat :=
  ruleGroup (fun c => v.nat (K.rateBundle c)) (fun c => raster v c ++ [v.nat (K.streamPortA c), v.nat (K.streamPortB c)]) K.rateBundle

/-- R216: QpMin is not above QpMax. -/
def ruleQp (v : View) : List Nat := sixteen.flatMap fun c => fails (decide (v.int (K.rateQpMax c) < v.int (K.rateQpMin c))) (K.rateQpMin c)

/-- R231: a period that a sweep fits into. -/
def rulePeriod (v : View) : List Nat :=
  (encodedChannels v).flatMap fun c =>
    let n := v.nat (K.darnRefreshPeriod c)
    fails (v.nat (K.reedSeamCanvas c) == 0 && n != 0 && decide (n < sweepLength v c + v.nat (K.darnPostponeSlack c))) (K.darnRefreshPeriod c)

/-! ## Seams (R252, R254, R255, R262) -/

/-- The seam channels. -/
def seamChannels (v : View) : List Nat := sixteen.filter fun c => v.nat (K.reedSeamCanvas c) != 0

/-- R252: a band of a canvas within this device. -/
def bandOk (v : View) (c : Nat) : Bool :=
  let i := v.nat (K.reedBandIndex c)
  let n := v.nat (K.reedBandCount c)
  let last := i + 1 == n
  let x := v.nat (K.reedCanvasX c)
  decide (i < n) && (v.nat (K.reedLeftPort c) == 0) == (i == 0) && (v.nat (K.reedRightPort c) == 0) == last
    && x % 64 == 0 && (last || canvasW v c % 64 == 0) && decide (x + canvasW v c ≤ v.nat (K.reedCanvasWidth c))
    && decide (v.nat (K.reedCanvasWidth c) ≤ 131072) && decide (n ≤ 16)
    && !((List.range c).any fun d => v.nat (K.reedSeamCanvas d) == v.nat (K.reedSeamCanvas c) && v.nat (K.reedBandIndex d) == i)

/-- R252, R254: bands, and the least line period of a seam channel. -/
def ruleBand (v : View) : List Nat :=
  (seamChannels v).flatMap fun c => fails (!bandOk v c || decide (readLine v c < 1250)) (K.reedSeamCanvas c)

/-- R254: a vertical filter that the strip buffer cannot serve (LineBufferLimit). -/
def ruleSeamLines (v : View) : List Nat :=
  (seamChannels v).flatMap fun c =>
    fails ((hScaled v c || vScaled v c) && decide (inWidth v c ≤ outWidth v c) && decide (6 < bufferLines v c)) (K.reedOutWidth c)

/-- R255: the reach of the taps beyond the band's own columns. -/
def ruleSeamTaps (v : View) : List Nat :=
  (seamChannels v).flatMap fun c =>
    let inc := if v.has (K.reedHIncrement c) then v.int (K.reedHIncrement c) else derivedHInc v c
    let ph := if v.has (K.reedHPhase0 c) then v.int (K.reedHPhase0 c) else derivedHPhase v c
    let first := scaleCentre (scalePos ph inc 0) - 3
    let last := scaleCentre (scalePos ph inc (outWidth v c - 1)) + 4
    fails (hScaled v c && (decide (first < -64) || decide ((inWidth v c : Int) + 63 < last))) (K.reedOutWidth c)

/-- R262: the canvas schedule of a seam channel. -/
def ruleSeamPeriod (v : View) : List Nat :=
  ((seamChannels v).filter fun c => encoded v c).flatMap fun c =>
    let w := max 1 (v.nat (K.darnBandColumns c))
    let sc := ceilDiv (ceilDiv (v.nat (K.reedCanvasWidth c)) 64) w
    let n := v.nat (K.darnRefreshPeriod c)
    fails (v.nat (K.reedCanvasX c) / 64 % w != 0) (K.darnBandColumns c)
      ++ fails (n != 0 && decide (n < sc + v.nat (K.darnPostponeSlack c))) (K.darnRefreshPeriod c)
      ++ fails (decide (effectivePeriod v c ≤ v.nat (K.reedSeamRefreshOffset c))) (K.reedSeamRefreshOffset c)

/-- The keys that the rules of the video path refuse with Inconsistent. -/
def videoInconsistent (v : View) : List Nat :=
  ruleDoubleBinding v ++ ruleQuadOfSource v ++ ruleFlowOfSource v ++ ruleAlignGroup v ++ ruleReadPhase v ++ ruleScaleRatio v ++ ruleTaps v
    ++ ruleContexts v ++ ruleLayerSource v ++ ruleLayerRect v ++ ruleSurface v ++ ruleLutSlots v ++ ruleLutSelect v ++ ruleHems v
    ++ ruleChroma v ++ ruleSchedule v ++ ruleBundle v ++ ruleQp v ++ rulePeriod v ++ ruleBand v ++ ruleSeamTaps v ++ ruleSeamPeriod v

end Sys2Proof.Machine
end

