-- ==== Sys2Proof/Machine/RulesNet.lean ====
section
/-!
DEFINITION. Sys2Proof/Machine/RulesNet.lean: the cross-object rules of the Mangle, the lanes, the chain, time, audio, the Beam and the
Selvedge that a commit must keep (R247, R271, R276, R285, R291, R292, R306, R315, R322 to R340, R345 to R357, R387, R427, R436). Each rule
answers the keys of the objects that break it.
-/

namespace Sys2Proof.Machine

/-! ## Chain, quads and lanes (R247, R345, R346, R351, R355, R357) -/

/-- R247: the lanes that a chain port's object names, 0xFF left out. -/
def namedLanes (v : View) (d : Nat) : List Nat :=
  let w := v.nat (if d = 0 then K.chainUpLanes else K.chainDownLanes)
  [w / 256 % 256, w % 256].filter fun n => n != 0xFF

/-- R247: whether seam traffic is configured on a chain port. -/
def seamOn (v : View) (d : Nat) : Bool :=
  (seamChannels v).any fun c => v.nat (K.reedLeftPort c) == d + 1 || v.nat (K.reedRightPort c) == d + 1

/-- R247, R351: the lanes of the chain ports. -/
def ruleChainLanes (v : View) : List Nat :=
  [0, 1].flatMap fun d =>
    let ls := namedLanes v d
    let others := if d = 0 then [] else namedLanes v 0
    fails (ls.any (fun n => decide (31 < n) || quadMode v n != 4 || v.nat (K.quadWeftRole (n / 4)) == 1 || others.contains n)
        || (match ls with | [a, b] => a == b || v.nat (K.quadLineRate (a / 4)) != v.nat (K.quadLineRate (b / 4)) | _ => false)
        || (seamOn v d && ls.any fun n => v.nat (K.quadLineRate (n / 4)) == 4))
      (if d = 0 then K.chainUpLanes else K.chainDownLanes)

/-- R345: bindings of ports. -/
def rulePortBinding (v : View) : List Nat :=
  (List.range 8).flatMap fun p =>
    let b := v.nat (K.quadPortBinding p)
    let ok := if b = 0xFF then !v.flag (K.portPortEnable p)
      else if 0x40 ≤ b then decide (b < 0x48) && v.nat (K.quadQuadMode (b - 0x40)) == 1
      else decide (b < 32) && quadMode v b == 2
    fails (!ok || (b != 0xFF && (List.range p).any fun r => v.nat (K.quadPortBinding r) == b)) (K.quadPortBinding p)

/-- R346: whether a quad has a bound lane. -/
def quadBound (v : View) (x : Nat) : Bool :=
  (List.range 4).any (fun i => laneBound v (4 * x + i)) || v.nat (K.quadWeftTxChannel x) != 0xFF

/-- R346: a quad changes while a lane of it stays bound. -/
def ruleQuadChange (o v : View) : List Nat :=
  (List.range 8).flatMap fun x =>
    fails (([K.quadQuadMode x, K.quadLineRate x, K.quadWeftRole x].any fun k => o.look k != v.look k) && quadBound o x && quadBound v x)
      (K.quadQuadMode x)

/-- R350: C of a weft line rate, bit/s. -/
def weftCapacity (rate : Nat) : Rat :=
  ([10312500000, 12500000000, 25781250000, 28125000000] : List Rat).getD rate 1250000000 * 64 / 66 * (1 - 1 / 1024 - 1 / 4096)

/-- R351: a picture that a link cannot carry. -/
def rulePictureLink (v : View) : List Nat :=
  (List.range 8).flatMap fun x =>
    let c := v.nat (K.quadWeftTxChannel x)
    fails (v.nat (K.quadQuadMode x) == 4 && v.nat (K.quadWeftRole x) == 1 && decide (c < 16)
        && decide (4 * weftCapacity (v.nat (K.quadLineRate x))
            < pictureRate v c * q (v.nat (K.reedHeight c) * 64 * (ceilDiv (20 * v.nat (K.reedWidth c)) 64 + 1))))
      (K.quadLineRate x)

/-- R355: limits of LanePower. -/
def ruleLanePower (v : View) : List Nat :=
  (List.range 32).flatMap fun n =>
    fails ((v.nat (K.laneLanePower n) == 2 && (match chainSide v n with | some d => seamOn v d | none => true))
        || (v.nat (K.laneLanePower n) == 3 && laneBound v n)) (K.laneLanePower n)

/-- R357: a tap of a lane's transmit FIR, 0 pre, 1 main, 2 post: the Twill value where it is set, or else the profile's. -/
def txTap (v : View) (n i : Nat) : Nat :=
  let k := [K.laneTxPre n, K.laneTxMain n, K.laneTxPost n].getD i 0
  if v.has k then v.nat k
  else
    match v.nat (K.laneEqProfile n) with
    | 1 => [0, 63, 0].getD i 0
    | 2 => [6, 45, 12].getD i 0
    | 3 => [4, 49, 10].getD i 0
    | 4 => [0, 55, 8].getD i 0
    | _ => (Config.romFir (v.nat (K.quadLineRate (n / 4))) i).toNat

/-- R357: how an equaliser stage of a receiver works: it adapts, is held at a boost in dB or at its present values, or is off. -/
inductive EqStage where
  | adaptive
  | fixed (db : Nat)
  | frozen
  | off
  deriving DecidableEq, Repr

/-- R357: the CTLE of a lane: adaptive in every profile, unless CtleBoostDb sets it. -/
def laneCtle (v : View) (n : Nat) : EqStage :=
  if v.has (K.laneCtleBoostDb n) && v.nat (K.laneCtleBoostDb n) != 0xFF then .fixed (v.nat (K.laneCtleBoostDb n)) else .adaptive

/-- R357: the DFE of a lane: that of its profile, unless DfeMode sets it. -/
def laneDfe (v : View) (n : Nat) : EqStage :=
  if v.has (K.laneDfeMode n) then (match v.nat (K.laneDfeMode n) with | 0 => .adaptive | 1 => .frozen | _ => .off)
  else if v.nat (K.laneEqProfile n) = 1 || v.nat (K.laneEqProfile n) = 4 then .off else .adaptive

/-- R357: taps that Twill objects set. -/
def ruleTxTaps (v : View) : List Nat :=
  (List.range 32).flatMap fun n =>
    fails ((v.has (K.laneTxPre n) || v.has (K.laneTxMain n) || v.has (K.laneTxPost n))
        && (txTap v n 0 + txTap v n 1 + txTap v n 2 != 63 || decide (txTap v n 1 < 24))) (K.laneTxMain n)

/-! ## The Mangle (R271, R276, R285, R291, R292) -/

/-- R276: the entries of a Twill list. -/
def listOk (v : View) (p : Nat) : Bool :=
  let b := v.oct (K.portGateList p)
  let l := twillList v p
  b.length % 8 == 0 && decide (8 ≤ b.length) && decide (b.length ≤ 8192)
    && l.entries.all (fun e => decide (100 ≤ e.interval) && decide (e.interval ≤ 1000000000))
    && (List.range (b.length / 8)).all (fun i => b.getD (8 * i + 5) 0 == 0)
    && (l.entries.map (·.interval)).sum == l.cycle

/-- R276: Twill lists. -/
def ruleGateList (v : View) : List Nat :=
  (List.range 8).flatMap fun p => fails (v.has (K.portGateList p) && !listOk v p) (K.portGateList p)

/-- R285: ports of channels that send MP2T. -/
def ruleTsPackets (v : View) : List Nat :=
  (encodedChannels v).flatMap fun c => [0, 1].flatMap fun leg =>
    let p := legPort v c leg
    fails (v.nat (K.streamStreamFormat c) == 1 && decide (p < 8)
        && decide (v.nat (K.portMaxIpBytes p) < (if legIpHeader v c leg = 20 then 1368 else 1388))) (K.portMaxIpBytes p)

/-- The flow contexts that a store gives values. -/
def flowsIn (m : AMap Val) : List Nat :=
  m.foldl (fun l e => if e.1 < 2 ^ 24 then l else
    let f := (e.1 - 2 ^ 24) / 256
    if l.contains f then l else f :: l) []

/-- The number of an object of flow f in a view. -/
def View.flow (v : View) (f sub : Nat) : Nat := (flowVal v.fuses v.vals f sub).toInt.toNat

/-- R291: what a flow matches. -/
def matchOf (v : View) (f : Nat) : List Val := [2, 3, 4, 5, 6].map fun s => flowVal v.fuses v.vals f s

/-- R291: two flows with one key. -/
def ruleFlowKeys (v : View) : List Nat :=
  let fs := (flowsIn v.vals).filter fun f => v.flow f 1 != 0
  fails (fs.any fun f => fs.any fun g => decide (g < f) && matchOf v f == matchOf v g) K.flowKind

/-- R292: the policers of flows. -/
def ruleFlowRates (v : View) : List Nat :=
  (flowsIn v.vals).flatMap fun f =>
    if v.flow f 8 = 0 && v.flow f 10 = 0 then []
    else
      let p := v.flow f 2
      let least := 22 + (if p < 8 then v.nat (K.portMaxIpBytes p) else maxOf ((List.range 8).map fun r => v.nat (K.portMaxIpBytes r)))
      fails (decide (v.flow f 10 < v.flow f 8)) K.flowPirKbps ++ fails (decide (v.flow f 9 < least)) K.flowCbsBytes
        ++ fails (decide (v.flow f 11 < least)) K.flowPbsBytes

/-- R291: the stream legs that take a transmit context: PortA of the channel or audio stream, and how many it takes, in index order. -/
def transmitLegs (v : View) : List (Nat × Nat) :=
  (encodedChannels v).map (fun c => (K.streamPortA c, phases v c * (channelPorts v c).length))
    ++ (sixteen.filter fun i => v.flag (K.astrEnable i)).map fun i =>
        (K.astrPortA i, ([streamPort v i 0, streamPort v i 1].filter fun p => decide (p < 8)).length)

/-- R291: more than 512 transmit contexts. -/
def ruleTransmit (v : View) : List Nat :=
  ((transmitLegs v).foldl (fun (acc : Nat × List Nat) x =>
    (acc.1 + x.2, if acc.2.isEmpty && decide (512 < acc.1 + x.2) then [x.1] else acc.2)) (0, [])).2

/-! ## Time (R306, R315) -/

/-- R306: profiles and domain numbers. -/
def ruleDomains (v : View) : List Nat :=
  [0, 1].flatMap (fun d => fails (v.nat (K.domProfile d) == 3 && v.nat (K.domTransport d) != 2) (K.domTransport d))
    ++ fails (v.nat (K.domDomainNumber 0) == v.nat (K.domDomainNumber 1)
        && (v.nat (K.domPortMask 0)) &&& (v.nat (K.domPortMask 1)) != 0) (K.domDomainNumber 1)

/-- R315: the period of a pulse output, ns; none for one that has none. -/
def pulsePeriod (v : View) (n : Nat) : Option Rat :=
  match v.nat (K.pulsePulseMode n) with
  | 2 => some (q (v.nat (K.pulsePeriodNs n)))
  | 3 => some (pictureNs v (v.nat (K.pulseChannel n)))
  | 4 => some 1000000000
  | _ => none

/-- R315: widths of pulses, and the range of PeriodNs. -/
def rulePulses (v : View) : List Nat :=
  (List.range 8).flatMap fun n =>
    if v.nat (K.pulsePulseMode n) = 0 then []
    else
      let w := v.nat (K.pulseWidthNs n)
      fails (v.nat (K.pulsePulseMode n) == 2 && (decide (v.nat (K.pulsePeriodNs n) < 200) || decide (1000000000000 < v.nat (K.pulsePeriodNs n))))
          (K.pulsePeriodNs n)
        ++ fails (decide (w < 20) || (match pulsePeriod v n with | some p => decide (p - 20 < q w) | none => false)) (K.pulseWidthNs n)

/-! ## Audio (R322, R332 to R336, R340) -/

/-- R322: slots of a port. -/
def ruleSlots (v : View) : List Nat :=
  (List.range 8).flatMap fun a =>
    fails (decide (24576000 < v.nat (K.audSlots a) * v.nat (K.audSlotBits a) * v.nat (K.audSampleRate a))
        || decide (v.nat (K.audSlotBits a) < v.nat (K.audSampleBits a))
        || (decide (v.nat (K.audFormat a) < 2) && v.nat (K.audSlots a) != 2)) (K.audSlots a)

/-- R332: aligned groups of audio ports. -/
def ruleAudioGroup (v : View) : List Nat :=
  ruleGroup (fun a => if a < 8 then v.nat (K.audAudioGroup a) else 0)
    (fun a => [v.nat (K.audSampleRate a), v.nat (K.audClockMode a), v.nat (K.audDirection a)]) K.audAudioGroup

/-- R333: the routes of a stream that are not silent: the entry, and the port and slot that it names. -/
def routesOf (v : View) (i : Nat) : List (Nat × Nat × Nat) :=
  (List.range (v.nat (K.astrChannelCount i))).filterMap fun n =>
    let r := v.nat (K.astrRoute i n)
    if r = 0xFF then none else some (K.astrRoute i n, r / 16, r % 16)

/-- R333: streams. -/
def ruleStreams (v : View) : List Nat :=
  (sixteen.filter fun i => v.flag (K.astrEnable i)).flatMap fun i =>
    let rs := routesOf v i
    let bad := rs.flatMap fun (k, p, sl) =>
      fails (decide (7 < p) || !v.flag (K.audEnable p) || v.nat (K.audDirection p) != 0 || decide (v.nat (K.audSlots p) ≤ sl)) k
    match rs with
    | [] => []
    | (_, p0, _) :: _ =>
      let fs := v.nat (K.audSampleRate p0)
      let rate := rs.flatMap fun (k, p, _) => fails (v.nat (K.audSampleRate p) != fs || (fs != 48000 && fs != 96000)) k
      let compat := rs.filter fun (_, p, _) => v.nat (K.audClockMode p) == 1
      let group := match compat with
        | [] => []
        | (_, c0, _) :: _ => compat.flatMap fun (k, p, _) =>
            let g := v.nat (K.audAudioGroup c0)
            fails (p != c0 && (g == 0 || v.nat (K.audAudioGroup p) != g || v.nat (K.audGGroupMode (g - 1)) != 0)) k
      let bytes := v.nat (K.astrChannelCount i) * (if v.nat (K.astrEncoding i) = 0 then 3 else 2) * (fs * v.nat (K.astrPacketTimeUs i) / 1000000)
      let long := [0, 1].flatMap fun leg =>
        let p := streamPort v i leg
        let ip := if isMapped (v.oct (if leg = 0 then K.astrDestAddressA i else K.astrDestAddressB i)) then 20 else 40
        fails (decide (p < 8) && decide (v.nat (K.portMaxIpBytes p) < bytes + ip + 20)) (K.astrChannelCount i)
      bad ++ rate ++ group ++ long

/-- R335: inbound bindings. -/
def ruleAudioFlows (v : View) : List Nat :=
  sixteen.flatMap fun b =>
    let flow (k : Nat) : List Nat := fails (v.nat k != 0xFFFF && v.flow (v.nat k) 1 != 2) k
    flow (K.abindFlowId b) ++ flow (K.abindFlowIdProtect b) ++ fails (v.nat (K.abindLinkOffsetUs b) % 125 != 0) (K.abindLinkOffsetUs b)

/-- R336: feeds of transmit ports. -/
def ruleFeeds (v : View) : List Nat :=
  (List.range 8).flatMap fun a =>
    let f := v.nat (K.audFeed a)
    let fs := v.nat (K.audSampleRate a)
    let ok := if f = 0xFF then true
      else if f < 8 then v.nat (K.audDirection f) == 0 && v.nat (K.audSampleRate f) == fs
      else decide (0x10 ≤ f) && decide (f < 0x20) && v.nat (K.abindSampleRate (f - 0x10)) == fs
    fails (v.flag (K.audEnable a) && v.nat (K.audDirection a) == 1 && !ok) (K.audFeed a)

/-- R340: the FIFO of a port. -/
def ruleFifo (v : View) : List Nat :=
  (List.range 8).flatMap fun a =>
    let c := v.nat (K.audFifoCentre a)
    let h := v.nat (K.audFifoHysteresis a)
    fails (decide (c < h + 1) || decide (31 < c + h)) (K.audFifoHysteresis a)

/-! ## The Beam and the Selvedge (R387, R427, R436) -/

/-- R387: watermarks of the write queue. -/
def ruleWatermarks (v : View) : List Nat :=
  fails (decide (v.nat K.beamWriteHighWatermark ≤ v.nat K.beamWriteLowWatermark)) K.beamWriteLowWatermark

/-- R48: the size of the three large-value areas. -/
def largeAreaBytes : Nat := 25165824

/-- R367, R436: whether a range of DRAM reaches a training row or an address at or above installed capacity. -/
def rangeDenied (s : State) (base size : Nat) : Bool :=
  let rank := rankBytes s
  size != 0 && (decide (s.beam.ranks * rank < base + size)
    || (List.range s.beam.ranks).any fun r => decide (base < (r + 1) * rank) && decide ((r + 1) * rank - 524288 < base + size))

/-- R435, R436: the ranges of DRAM that the objects of a view name, each with the object that names its address. -/
def namedRanges (v : View) : List (Nat × Nat × Nat) :=
  ((List.range 8).map fun w => (K.selvHostDramBase w, v.nat (K.selvHostDramBase w), v.nat (K.selvHostDramSize w)))
    ++ (((enabledLayers v).filter fun x => v.nat (K.layerSourceKind x.1 x.2) == 2).map fun x =>
        (K.layerSurfaceBase x.1 x.2, v.nat (K.layerSurfaceBase x.1 x.2),
          (v.nat (K.layerBuffers x.1 x.2) - 1) * v.nat (K.layerBufferStride x.1 x.2) + bufferSpan v x.1 x.2))
    ++ (((enabledHems v).filter fun x => v.nat (K.hemPolicy x.1 x.2) == 1).map fun x =>
        (K.hemSafeBase x.1 x.2, v.nat (K.hemSafeBase x.1 x.2), pressedBytes (v.nat (K.hemWidth x.1 x.2)) (v.nat (K.hemHeight x.1 x.2))))
    ++ (([0, 1].filter fun u => v.flag (K.unpEnable u)).map fun u => (K.unpClipBase u, v.nat (K.unpClipBase u), v.nat (K.unpClipBytes u)))

/-- R48: whether a range of DRAM reaches the large-value areas that Bolt has reserved. -/
def reachesAreas (s : State) (base size : Nat) : Bool :=
  match s.draft.largeAreas with
  | some a => size != 0 && decide (base < a + largeAreaBytes) && decide (a < base + size)
  | none => false

/-- R48, R436: windows that the Selvedge refuses: those of R436, and a window of master 10 that would reach Bolt's large-value areas. -/
def ruleWindows (s : State) (v : View) : List Nat :=
  ((namedRanges v).flatMap fun (k, base, size) => fails (rangeDenied s base size) k)
    ++ (List.range 8).flatMap fun w => fails (reachesAreas s (v.nat (K.selvHostDramBase w)) (v.nat (K.selvHostDramSize w))) (K.selvHostDramBase w)

/-- R427: a supplied image. -/
def ruleImage (items : AMap Val) : List Nat :=
  match AMap.find? items K.bootPatternImage with
  | some v => fails (!imageOk v.toBytes) K.bootPatternImage
  | none => []

/-! ## All of them -/

/-- R424: the rules against which the Selvedge checks the early set. -/
def earlyInconsistent (v : View) : List Nat := ruleDomains v ++ rulePortBinding v ++ ruleLanePower v ++ ruleTxTaps v

/-- R51, R54: the keys that any rule refuses with Inconsistent. -/
def inconsistent (s : State) (o v : View) (items : AMap Val) : List Nat :=
  videoInconsistent v ++ ruleChainLanes v ++ rulePortBinding v ++ ruleQuadChange o v ++ rulePictureLink v ++ ruleLanePower v ++ ruleTxTaps v
    ++ fails (v.nat K.shedShedTrafficClass == 7) K.shedShedTrafficClass ++ ruleGateList v ++ ruleTsPackets v ++ ruleFlowKeys v ++ ruleFlowRates v
    ++ ruleTransmit v ++ ruleDomains v ++ rulePulses v ++ ruleSlots v ++ ruleAudioGroup v ++ ruleStreams v ++ ruleAudioFlows v ++ ruleFeeds v
    ++ ruleFifo v ++ ruleWatermarks v ++ ruleWindows s v ++ ruleImage items

end Sys2Proof.Machine
end

