-- ==== Sys2Proof/Machine/Admit.lean ====
section
/-!
DEFINITION. Sys2Proof/Machine/Admit.lean: admission (R28 to R35, R153 to R156, R191, R195, R200, R275, R279, R291): the placement of channels on
looms, the latency and floor checks, the fit of each port, and the four budgets.
-/

namespace Sys2Proof.Machine

/-- R50, R54: why a commit is refused. -/
structure Refused where
  status : Nat
  key : Nat
  budget : Nat := 0
  deriving DecidableEq, Repr

/-- What an accepted admission has computed: the looms of each channel, MinLatencyRows and the staging sum. -/
structure Plan where
  looms : Assign
  /-- the placement has been made again -/
  placed : Bool
  minRows : AMap Nat
  staging : Nat
  deriving DecidableEq, Repr

/-- R29, R99: whether admission counts channel c's rotator delay. -/
def rotCounts (s : State) (v : View) (c : Nat) : Bool := v.nat (K.reedRotation c) != 0 || (s.reed c).rotDelay

/-! ## Looms (R28, R153 to R156) -/

/-- R28: a loom's limits of active and coded samples in a second. -/
def loomFits (active coded : Rat) : Bool := decide (active ≤ 1000000000) && decide (coded ≤ 1023900000)

/-- R153: what a loom carries under an assignment: active and coded samples in a second. -/
def loomLoad (v : View) (a : Assign) (l : Nat) : Rat × Rat :=
  a.foldl (fun (acc : Rat × Rat) x =>
    match x.2.idxOf? l with
    | some p => (acc.1 + activeRate v x.1 / q (max 1 x.2.length), acc.2 + codedLoad v x.1 p x.2.length)
    | none => acc) (0, 0)

/-- The channels that a loom carries under an assignment. -/
def carriers (a : Assign) (l : Nat) : List (Nat × List Nat) := a.filter fun x => x.2.contains l

/-- R154: the smallest number of looms for channel c. -/
def loomsNeeded (v : View) (c : Nat) : Option Nat :=
  ((List.range 16).map (· + 1)).find? fun n => loomFits (activeRate v c / q n) (codedLoad v c 0 n)

/-- R28, R156: whether loom l keeps every limit under an assignment. -/
def loomKeeps (v : View) (a : Assign) (l : Nat) : Bool :=
  let cs := carriers a l
  let x := loomLoad v a l
  decide (cs.length ≤ 2) && (decide (cs.length < 2) || cs.all fun y => y.2.length == 1) && loomFits x.1 x.2

/-- R154: the looms of one channel, placed beside those already placed. -/
def placeOne (v : View) (off : List Nat) (a : Assign) (c : Nat) : Option (List Nat) :=
  let spare := sixteen.filter fun l => (carriers a l).isEmpty && !off.contains l
  match loomsNeeded v c with
  | none => none
  | some 1 =>
    match sixteen.find? fun l => !off.contains l && (carriers a l).length == 1 && loomKeeps v (AMap.put a c [l]) l with
    | some l => some [l]
    | none => (spare.head?).map fun l => [l]
  | some n => if n ≤ spare.length then some (spare.take n) else none

/-- R154: channels placed in order; answers the assignment and the channels that found no place. -/
def placeAll (v : View) (off : List Nat) (a : Assign) (order : List Nat) : Assign × List Nat :=
  order.foldl (fun (acc : Assign × List Nat) c =>
    match placeOne v off acc.1 c with
    | some ls => (AMap.put acc.1 c ls, acc.2)
    | none => (acc.1, acc.2 ++ [c])) (a, [])

/-- R154: channels by falling Active rate, then rising number. -/
def placeOrder (v : View) (cs : List Nat) : List Nat :=
  cs.mergeSort fun a b => decide (activeRate v b < activeRate v a) || (activeRate v a == activeRate v b && decide (a ≤ b))

/-- The looms that channel c holds or is to hold. -/
def heldLooms (s : State) (c : Nat) : List Nat :=
  match (s.chan c).nextPositions with | some l => l | none => (s.chan c).positions.map (·.loom)

/-- R154: what a channel's placement depends on. -/
def placeKey (v : View) (c : Nat) : List Nat :=
  [b2n (encoded v c), picW v c, picH v c, v.nat (K.reedRateNum c), v.nat (K.reedRateDen c)]

/-- R154: looms that are quarantined, frozen or being qualified are not offered. -/
def loomsOff (s : State) : List Nat := sixteen.filter fun l => decide (2 ≤ s.nat (K.loomGLoomState l)) || s.isFrozen (11 + l)

/-- R154 to R156: the assignment of a commit, or the refusal. -/
def placement (s : State) (o v : View) : Except Refused (Assign × Bool) :=
  let on := encodedChannels v
  let held : Assign := (on.filter fun c => !(heldLooms s c).isEmpty).map fun c => (c, heldLooms s c)
  let same (c : Nat) : Bool := placeKey o c == placeKey v c
  let off := loomsOff s
  let fixed : Assign := (on.filter fun c => v.nat (K.loomLoomMask c) != 0).map fun c =>
    (c, sixteen.filter fun l => bit (v.nat (K.loomLoomMask c)) l)
  match fixed.find? fun x => x.2.any fun l => off.contains l || !loomKeeps v fixed l with
  | some x => .error { status := stLoomAssignment, key := K.loomEncodeEnable x.1 }
  | none =>
    let auto := on.filter fun c => v.nat (K.loomLoomMask c) == 0
    let keep := held.filter fun x => auto.contains x.1 && same x.1
    let base := keep.foldl (fun (a : Assign) x =>
      let b := AMap.put a x.1 x.2
      if x.2.all fun l => loomKeeps v b l then b else a) fixed
    let rest := placeOrder v (auto.filter fun c => (AMap.find? base c).isNone)
    let first := placeAll v off base rest
    let r := if first.2.isEmpty then first else placeAll v off fixed (placeOrder v auto)
    match r.2 with
    | c :: _ => .error { status := stLoomAssignment, key := K.loomEncodeEnable c }
    | [] =>
      match fixed.find? fun x => x.2.any fun l => !loomKeeps v r.1 l with
      | some x => .error { status := stLoomAssignment, key := K.loomEncodeEnable x.1 }
      | none => .ok (r.1, on.any fun c => AMap.find? r.1 c != AMap.find? held c)

/-! ## Budgets (R28, R29, R32 to R34) -/

/-- R34: the channel at whose addition a running sum first exceeds a limit. -/
def overrun (fixed limit : Rat) (term : Nat → Rat) : Option Nat :=
  (sixteen.foldl (fun (acc : Rat × Option Nat) c =>
    let t := acc.1 + term c
    (t, if acc.2.isNone && decide (limit < t) then some c else acc.2)) (fixed, none)).2

/-- R34: the object that a channel's overrun names. -/
def budgetKey (v : View) (c : Nat) : Nat := if encoded v c then K.loomEncodeEnable c else K.reedSourceType c

/-- R34: one budget. -/
def budget (v : View) (n : Nat) (fixed limit : Rat) (term : Nat → Rat) : List Refused :=
  match overrun fixed limit term with
  | some c => [{ status := stAdmissionRefused, key := budgetKey v c, budget := n }]
  | none => []

/-- R28: the device's active luma. -/
def pixelBudget (v : View) : List Refused :=
  budget v 1 0 16000000000 fun c => if encoded v c then activeRate v c else 0

/-- R29, R30, R31: DRAM, at the set point in force, or at the lower of two while the Beam changes between them. -/
def dramBudget (s : State) (v : View) : List Refused :=
  let point := max s.beam.setPoint (s.beam.switching.getD 0)
  budget v 2 3000000000 (sustained point) fun c => dramCost v (rotCounts s v) c 1

/-- R32, R34: power. -/
def powerBudget (v : View) (items : AMap Val) : List Refused :=
  (budget v 3 16 (q (v.nat K.govBoardPowerLimit) / 10) fun c =>
    if encoded v c then 95 / 100 * activeRate v c / 1000000000 else 0).map fun r =>
      if (AMap.find? items K.govBoardPowerLimit).isSome then { r with key := K.govBoardPowerLimit } else r

/-- R33: output; a channel that names no port counts once. -/
def outputBudget (v : View) : List Refused :=
  budget v 4 0 16000000000 fun c => if encoded v c then q (v.nat (K.rateBitrate c) * max 1 (channelPorts v c).length) else 0

/-! ## Ports (R195, R275, R279) -/

/-- R276: whether a port's list is a Twill one. -/
def listHeld (v : View) (p : Nat) : Bool :=
  v.has (K.portGateList p) || v.has (K.portGateCycleNs p) || v.has (K.portGateBaseTime p) || v.has (K.portChangeoverTime p)

/-- R276: the list that a view gives a port. -/
def portList (v : View) (p : Nat) : GateList := if listHeld v p then twillList v p else automaticList v p

/-- R279: packets a second × (IP bytes + 42) × 8 of a stream on one leg. -/
def audioRate (v : View) (i leg : Nat) : Rat :=
  match routesOf v i with
  | [] => 0
  | (_, p, _) :: _ =>
    let fs := v.nat (K.audSampleRate p)
    let t := max 1 (v.nat (K.astrPacketTimeUs i))
    let ip := if isMapped (v.oct (if leg = 0 then K.astrDestAddressA i else K.astrDestAddressB i)) then 20 else 40
    let pay := v.nat (K.astrChannelCount i) * (if v.nat (K.astrEncoding i) = 0 then 3 else 2) * (fs * t / 1000000)
    1000000 / q t * q ((ip + 20 + pay + 42) * 8)

/-- The legs of streams on a port: stream and leg. -/
def audioLegs (v : View) (p : Nat) : List (Nat × Nat) :=
  (sixteen.filter fun i => v.flag (K.astrEnable i)).flatMap fun i => [0, 1].filterMap fun leg => if streamPort v i leg = p then some (i, leg) else none

/-- R279: the left side of the fit of a port, bit/s. -/
def portLoad (v : View) (p : Nat) : Rat :=
  ((encodedChannels v).flatMap fun c => [0, 1].filterMap fun leg => if legPort v c leg = p then some (wireRate v c leg) else none).sum
    + ((audioLegs v p).map fun x => audioRate v x.1 x.2).sum
    + q (((List.range 7).map fun n => v.nat (K.portShaperRateKbps p n)).sum * 1000)
    + q (portRateMbps v p * 10000)

/-- R279: whether a port fits. -/
def portFits (v : View) (p : Nat) : Bool :=
  let l := portList v p
  let open_ := ((l.entries.filter fun e => bit e.gates 7).map (·.interval)).sum
  decide (portLoad v p ≤ 95 / 100 * q (portRateMbps v p * 1000000) * q open_ / q (max 1 l.cycle))

/-- The least distance from 0 of d + m × g over all whole m. -/
def leastDistance (d g : Rat) : Rat :=
  let r := d - ((d / g).floor : Rat) * g
  min r (g - r)

/-- R188: the instant of row 0's slot of channel c in its raster at an offset of so many rows, ns. -/
def slotPhase (s : State) (v : View) (c rows : Nat) : Rat :=
  q (v.nat (K.reedReadPhaseNs c)) + latencyNs v c (rotCounts s v c) rows

/-- R195, R209: the offsets at which channel c's slots open once a commit is in force: LatencyRows, and on the way down to it the offset in
force and those between. -/
def offsetsOf (s : State) (v : View) (c : Nat) : List Nat :=
  let target := v.nat (K.rateLatencyRows c)
  let now := s.nat (K.rateLatencyRowsInForce c)
  if (s.chan c).encoding && decide (target < now) then
    ((List.range 16).map fun i => max target (now - i * latencyStep v c)).eraseDups
  else [target]

/-- R275: the openings of two channels on a port keep their distance. -/
def openingsApart (s : State) (v : View) (p a b : Nat) : Bool :=
  let least := tMax v p + 100
  if a = b then decide (least ≤ rowInterval v a)
  else
    let g := ratGcd (pictureNs v a) (pictureNs v b)
    (offsetsOf s v a).all fun x => (offsetsOf s v b).all fun y =>
      let d := slotPhase s v a x - slotPhase s v b y
      (List.range (rowCount v a)).all fun i => (List.range (rowCount v b)).all fun j =>
        decide (least ≤ leastDistance (d + q i * rowInterval v a - q j * rowInterval v b) g)

/-- R275: whether a list's row gate for channel c is open from instant r of its cycle for a time t. -/
def gateHolds (l : GateList) (c : Nat) (r t : Rat) : Bool :=
  ((l.entries.foldl (fun (acc : Nat × Bool) e =>
    let a := q acc.1
    let b := q (acc.1 + e.interval)
    let hit (k : Rat) : Bool := decide (a + k < r + t) && decide (r < b + k)
    (acc.1 + e.interval, acc.2 && ((bit e.gates 7 && bit e.rows c) || !(hit 0 || hit (q l.cycle))))) (0, true))).2

/-- R275, R279: every opening of channel c finds its gate open; over more than 1,001 pictures, over every offset within the cycle. -/
def openingsMeetGate (s : State) (v : View) (p c : Nat) : Bool :=
  let l := portList v p
  let t := tMax v p
  let cyc := q (max 1 l.cycle)
  let g := ratGcd (pictureNs v c) cyc
  let n := floorN (cyc / g)
  if 1001 < n then l.entries.all fun e => bit e.gates 7 && bit e.rows c
  else
    (offsetsOf s v c).all fun x => (List.range (rowCount v c)).all fun j =>
      let at_ := slotPhase s v c x + q j * rowInterval v c - q l.base
      let r := at_ - ((at_ / g).floor : Rat) * g
      (List.range n).all fun m => gateHolds l c (r + q m * g) t

/-- R275: the openings on a port. -/
def openingsFit (s : State) (v : View) (p : Nat) : Bool :=
  let cs := (encodedChannels v).filter fun c => (channelPorts v c).contains p
  cs.all fun c => openingsMeetGate s v p c && cs.all fun d => decide (d < c) || openingsApart s v p c d

/-- R279: ports that a channel or a stream names and that are not enabled or not bound. -/
def namedPorts (v : View) : List Nat :=
  ((encodedChannels v).flatMap fun c =>
    fails (decide (v.nat (K.streamPortA c) < 8) && !portUsable v (v.nat (K.streamPortA c))) (K.streamPortA c)
      ++ fails (decide (v.nat (K.streamPortB c) < 8) && !portUsable v (v.nat (K.streamPortB c))) (K.streamPortB c))
    ++ (sixteen.filter fun i => v.flag (K.astrEnable i) && decide (15 < v.nat (K.astrChannel i))).flatMap fun i =>
        fails (decide (v.nat (K.astrPortA i) < 8) && !portUsable v (v.nat (K.astrPortA i))) (K.astrPortA i)
          ++ fails (decide (v.nat (K.astrPortB i) < 8) && !portUsable v (v.nat (K.astrPortB i))) (K.astrPortB i)

/-- R279: the object that a port which does not fit names. -/
def portKey (v : View) (p : Nat) : Nat :=
  if listHeld v p then K.portGateList p
  else
    match ((encodedChannels v).filter fun c => (channelPorts v c).contains p).getLast?, (audioLegs v p).getLast? with
    | some c, _ => K.rateSlotFactor c
    | none, some (i, _) => K.astrPortA i
    | none, none => K.portShaperRateKbps p 0

/-- R195, R275, R279: the objects that the slots do not fit. -/
def slotsFit (s : State) (v : View) : List Nat :=
  ((List.range 8).filter fun p => portUsable v p && !(portFits v p && openingsFit s v p)).map (portKey v)

/-! ## Latency and floors (R191, R200, R229) -/

/-- R200, R229: the largest floor from CTU x of row j onwards, over the band's positions. -/
def suffixFloor (v : View) (c j x : Nat) : Nat :=
  let w := v.nat (K.darnBandColumns c)
  let l := (losslessInRow v c j).drop x
  let extra := intraBits (v.nat (K.loomChromaFormat c)) - 96
  (if x = 0 then headBits j else 0) + endBits v c j + (l.map fun b => ctuFloor (v.nat (K.loomChromaFormat c)) b false).sum
    + extra * maxOf ((List.range l.length).map fun b => (((l.drop b).take w).filter (!·)).length)

/-- R200: whether every row fits its window. -/
def rowWindow (v : View) (c : Nat) : Bool :=
  let r := phaseRate v c (slotRate v c)
  let lag := phaseLag v (portList v) c
  (List.range (rowCount v c)).all fun j => (List.range (ctuCols v c)).all fun x =>
    decide (q (suffixFloor v c j x) ≤ r * (q (phases v c - 1) * rowInterval v c - lag - q x * tauMax))

/-- R200: whether the picture floor fits the pool: the channel's own, or up to channel c the sums of its bundle. -/
def floorFits (v : View) (c : Nat) : Bool :=
  let b := v.nat (K.rateBundle c)
  if b = 0 then decide (pictureFloor v c ≤ pictureBits v c)
  else
    let ms := (encodedChannels v).filter fun d => v.nat (K.rateBundle d) == b
    if ms.getLast? = some c then decide ((ms.map fun d => pictureFloor v d).sum ≤ (ms.map fun d => pictureBits v d).sum) else true

/-- R200: the coded bytes that channel c may hold in staging. -/
def stagingOf (v : View) (c : Nat) : Nat :=
  (ceilN (q (v.nat (K.rateLatencyRows c)) / schedRatio v c) + phases v c)
    * maxOf ((List.range (rowCount v c)).map fun j => ceilDiv (rowFloorWorst v c j (v.nat (K.darnBandColumns c))) 8)

/-- R200: the staging sum, and where it exceeds its part the last channel that it counted. -/
def stagingSum (v : View) : Nat × Option Nat :=
  let t := ((encodedChannels v).map (stagingOf v)).sum
  (t, if 1966080 < t then (encodedChannels v).getLast? else none)

/-- R191: MinLatencyRows of each encoded channel. -/
def minRowsOf (s : State) (v : View) (a : Assign) : AMap Nat := (encodedChannels v).map fun c => (c, minLatency v (rotCounts s v) a c)

/-- R191, R200: the objects that the latency and floor checks refuse with Inconsistent. -/
def floorKeys (v : View) (rows : AMap Nat) : List Nat :=
  (encodedChannels v).flatMap (fun c =>
    fails (!floorFits v c) (K.rateBitrate c) ++ fails (!rowWindow v c) (K.rateSlotFactor c)
      ++ fails (decide (v.nat (K.rateLatencyRows c) < AMap.getD rows c 2)) (K.rateLatencyRows c))
    ++ (match (stagingSum v).2 with | some c => [K.rateLatencyRows c] | none => [])

/-! ## The verdict -/

/-- The key under which an object is reported: a flow context's object stands in the flow window (R300). -/
def shownKey (k : Nat) : Nat := if 2 ^ 24 ≤ k then objKey 0x5801 ((k - 2 ^ 24) % 256) else k

/-- The lowest of a list of keys. -/
def lowest : List Nat → Option Nat
  | [] => none
  | k :: t => match lowest t with | some m => some (min k m) | none => some k

/-- Whether an object enters admission. -/
def inAdmission (k : Nat) : Bool :=
  let i := keyIdx (shownKey k) % 0x8000
  (decide (0x2000 ≤ i) && decide (i < 0x5800)) || (decide (0x6400 ≤ i) && decide (i < 0x6600)) || (decide (0x6B00 ≤ i) && decide (i < 0x6C01))
    || i == 0x7100 || i == 0x1E80

/-- The whole validation of a commit after its hold rules: `o` the view of the configuration before it, `v` after it. -/
def validate (s : State) (o v : View) (items : AMap Val) : Except Refused Plan :=
  match lowest (inconsistent s o v items) with
  | some k => .error { status := stInconsistent, key := k }
  | none =>
    match lowest (ruleLineBuffer v ++ ruleSeamLines v) with
    | some k => .error { status := stLineBufferLimit, key := k }
    | none =>
      if !items.any (fun e => inAdmission e.1) then .ok { looms := [], placed := false, minRows := [], staging := s.nat K.rateGStagingFloorBytes }
      else
        match pixelBudget v with
        | r :: _ => .error r
        | [] =>
          match placement s o v with
          | .error r => .error r
          | .ok (a, placed) =>
            match namedPorts v with
            | k :: _ => .error { status := stSlotDoesNotFit, key := k }
            | [] =>
              let rows := minRowsOf s v a
              match lowest (floorKeys v rows) with
              | some k => .error { status := stInconsistent, key := k }
              | none =>
                match slotsFit s v with
                | k :: _ => .error { status := stSlotDoesNotFit, key := k }
                | [] =>
                  match dramBudget s v ++ powerBudget v items ++ outputBudget v with
                  | r :: _ => .error r
                  | [] => .ok { looms := a, placed := placed, minRows := rows, staging := (stagingSum v).1 }

end Sys2Proof.Machine
end

