-- ==== Sys2Proof/Machine/Read.lean ====
section
/-!
DEFINITION. Sys2Proof/Machine/Read.lean: what an object reads as (R49, R50, R55): the value in force, or, for an object that shows other
state, that state; the counters (R475, R480) and the entries of the Mending Log (R470, R471).
-/

namespace Sys2Proof.Machine

/-- R36: the number of a principal. -/
def Prin.no : Prin → Nat
  | .host => 0 | .net => 1 | .chain => 2 | .selvedge => 3

/-! ## The Mending Log (R470, R471) -/

/-- R470: an entry as it is stored, 32 bytes. -/
def LogEntry.bytes (e : LogEntry) : Bytes :=
  let b := leBytes 4 e.sequence ++ leBytes 8 e.time ++ leBytes 4 e.incident
    ++ leBytes 2 (e.severity * 8192 + e.depth * 1024 + e.source) ++ [BitVec.ofNat 8 e.flags, BitVec.ofNat 8 e.stepEpoch] ++ leBytes 2 e.code
    ++ [BitVec.ofNat 8 e.master, BitVec.ofNat 8 e.unit] ++ leBytes 4 e.detail
  b ++ leBytes 4 (crc32c b)

/-- R468, R471: the entry with a sequence number, where the ring holds it. -/
def logEntryAt (s : State) (n : Nat) : Option LogEntry :=
  (AMap.find? s.log.entries (n % 8192)).filter fun e => e.sequence == n && decide (0 < n)

/-- R459: D. -/
def openDepth (s : State) : Nat := s.log.handlers.length

/-! ## Counters (R475 to R480) -/

/-- R477: the counters whose counts no command shows, and which read as free values: FabricStallCycles, the PCIe packets, the loom's
cycles, and the Bolt cores' cycles, instructions, stalls and interrupts. -/
def isHiddenCounter (n : Nat) : Bool :=
  n == 40 || n == 42 || n == 43
    || (decide (320 ≤ n) && decide (n < 384) && (n % 4 == 1 || n % 4 == 2))
    || (decide (656 ≤ n) && decide (n < 720) && (let i := (n - 656) % 8; i != 3 && i != 4))

/-- R475: a counter. -/
def counterVal (s : State) (n : Nat) : Nat :=
  if isHiddenCounter n then (Config.hiddenCounter n s.flash.bootCount s.clk.ticks).toNat else AMap.getD s.pmc.counters n 0

/-- R477: the group of a counter. -/
def counterGroup (n : Nat) : Nat :=
  if n < 64 then 0 else if n < 128 then 1 else if n < 192 then 2 else if n < 384 then 3 else if n < 480 then 4 else if n < 496 then 5
  else if n < 528 then 6 else if n < 592 then 7 else if n < 656 then 8 else if n < 720 then 9 else 10

/-- R480: whether a principal may read a counter. -/
def counterOpen (s : State) (p : Prin) (n : Nat) : Bool :=
  p == .host || p == .selvedge || bit (s.nat K.pmcNetReadGroups) (counterGroup n)

/-! ## Views of other state -/

/-- R406 CoreBusyPermille: the running time of core c in the last second, in thousandths. -/
def coreBusy (s : State) (c : Nat) : Nat :=
  let k := AMap.getD s.shtl.cores c {}
  let now := s.clk.ticks
  let from_ := now - 240000000
  let runs := match k.running with
    | some t => ((AMap.getD s.shtl.threads t {}).since, now) :: k.busy
    | none => k.busy
  min 1000 ((runs.map fun r => r.2 - max from_ r.1).sum / 240000)

/-- The threads in a state. -/
def threadsIn (s : State) (p : ThState → Bool) : Nat := (s.shtl.threads.filter fun e => p e.2.state).length

/-- R45: word n of HoldBits. -/
def holdWord (s : State) (n : Nat) : Nat := s.draft.held / 2 ^ (32 * n) % 2 ^ 32

/-- What CommitStatus shows to a principal. -/
def State.commitStat (s : State) : Prin → CommitStat
  | .host => s.draft.statHost | .net => s.draft.statNet | .chain => s.draft.statChain | .selvedge => s.draft.statSelv

/-- The staging set of a principal; the Selvedge has none (R47). -/
def State.stage (s : State) : Prin → StageSet
  | .host => s.draft.host | .net => s.draft.net | .chain => s.draft.chain | .selvedge => {}

/-- The type of the object that a key of the value stores stands for. -/
def typeOfKey (k : Nat) : OType :=
  match findDef (keyIdx (shownKey k)) (keySub (shownKey k)) with | some d => d.ty | none => .u8

/-- The bytes of a value in a store (R37). -/
def valLength (e : Nat × Val) : Nat := (encodeVal (typeOfKey e.1) e.2).length

/-- A value as a natural number. -/
def natVal (n : Nat) : Val := .int (n : Int)

/-- R106, R107: filters of the scaler; R142: derived transforms; the bytes of n 16-bit numbers. -/
def wordsOf (l : List Int) : Bytes := l.flatMap fun v => beBytes 2 (toPattern 16 v)

/-- R125, R142: what a layer's derived transform reads as: 1 pre-curve, 2 matrix, 3 offset, 4 post-curve. -/
def derivedTransform (v : View) (c i what : Nat) : Bytes :=
  let out := v.nat (K.pressOutputTransfer c)
  let kind := v.nat (K.layerSourceKind c i)
  let space := if kind = 3 then v.nat (K.unpClipSpace (v.nat (K.layerSourceRef c i))) else v.nat (K.layerSurfaceSpace c i)
  let same := v.nat (K.layerColourTransform c i) == 1 || space == out
  let curve (n : Nat) : Bytes := wordsOf ((List.range 771).map fun j =>
    if same then ((min 4096 (16 * (j % 257)) : Nat) : Int) else ((Config.romCurve n space out (j / 257) (j % 257)).toNat : Int))
  match what with
  | 1 => curve 0
  | 2 => wordsOf ((List.range 9).map fun n => if same then (if n % 4 = 0 then 4096 else 0) else (Config.romMatrix space out n).toInt)
  | 3 => wordsOf ((List.range 3).map fun n => if same then 0 else (Config.romMatrix space out (9 + n)).toInt)
  | _ => curve 1

/-- R142: what a LUT slot that is not raw holds: the ROM transform it is used for, or, free, a free value. -/
def slotContents (s : State) (n : Nat) : Bytes :=
  let t := s.nat (K.pressGLutSlot n)
  if t < 6 then (List.range 35937).flatMap fun e => wordsOf ((List.range 3).map fun c => ((Config.romLut t e c).toNat : Int))
  else (List.range 215622).map fun i => Config.freeByte n i

/-- R46, R106, R142, R298, R357: what a Twill object that nothing has set reads as, where that follows from Plain values. -/
def derivedTwill (s : State) (k : Nat) : Option Val :=
  let v := s.view
  let i := keyIdx k
  let u := keySub k
  let o := i % 128
  if 0xA000 ≤ i && i < 0xA800 then
    let c := (i - 0xA000) / 128
    if o = 3 then
      match u with
      | 1 => some (.int (derivedHInc v c))
      | 2 => some (.int (derivedVInc v c))
      | 3 => some (.int (derivedHPhase v c))
      | 4 => some (.int (derivedVPhase v c))
      | 5 => some (.oct (romFilterBytes v c 0 1024))
      | 6 => some (.oct (romFilterBytes v c 1 768))
      | _ => none
    else none
  else if 0xB000 ≤ i && i < 0xB800 then
    (if 16 ≤ o && o < 32 && u < 5 then some (.oct (derivedTransform v ((i - 0xB000) / 128) (o - 16) u)) else none)
  else if i = 0xBF01 then some (.oct (slotContents s (u - 1)))
  else if 0xD000 ≤ i && i < 0xD800 then
    let p := (i - 0xD000) / 256
    match i % 256, u with
    | 1, 1 => some (.oct (entryBytes (automaticList v p).entries))
    | 1, 2 => some (natVal (v.nat (K.portCycleNs p)))
    | 1, 3 => some (v.look (K.portBaseTime p))
    | 4, _ => some (.int (hiCredit v p (u - 1)))
    | 6, _ => some (.int (loCredit v p (u - 1)))
    | _, _ => none
  else if 0xE800 ≤ i && i < 0xEA00 && i % 16 = 0 && u < 4 then some (natVal (txTap v ((i - 0xE800) / 16) (u - 1)))
  else none

/-- R55: a fast object that shows live state. -/
def fastView (s : State) (k : Nat) : Option Val :=
  if k = K.fastDeviceState then some (natVal (deviceState s))
  else if k = K.fastStatusFlags then some (natVal (statusFlags s))
  else if k = K.fastLastIncident then some (natVal s.log.lastIncident)
  else if k = K.fastActiveImageSlot then some (natVal (activeSlot s))
  else if k = K.fastUptimeNs then some (natVal (uptimeNs s))
  else if k = K.fastActiveDomain then some (natVal s.time.active)
  else if k = K.fastActiveTime then some (.int (time80 (nowNs s)))
  else if k = K.fastPrimaryTime then some (.int (time80 (domainNs s 0)))
  else if k = K.fastRedundantTime then some (.int (time80 (domainNs s 1)))
  else none

/-- R50: what Commit and CommitStatus show to a principal. -/
def commitView (s : State) (p : Prin) (k : Nat) : Option Val :=
  let c := s.commitStat p
  let items := (s.stage p).items
  if k = K.commitCommitTag || k = K.commitLastTag then some (natVal c.lastTag)
  else if k = K.commitStagedCount then some (natVal items.length)
  else if k = K.commitStagedBytes then some (natVal (items.map valLength).sum)
  else if k = K.commitState then some (natVal c.state)
  else if k = K.commitStatus then some (natVal c.status)
  else if k = K.commitFailingIndex then some (natVal c.failIdx)
  else if k = K.commitFailingSub then some (natVal c.failSub)
  else if k = K.commitFailingBudget then some (natVal c.failBudget)
  else if k = K.commitQueuedCommits then some (natVal s.draft.queue.length)
  else none

/-- R473: what the log objects show. -/
def logView (s : State) (p : Prin) (k : Nat) : Option Val :=
  let first := AMap.getD s.draft.readSeq p.no 1
  if k = K.logReadSequence then some (natVal first)
  else if keyIdx k = 0x7802 then some (.oct (match logEntryAt s (first + keySub k - 1) with | some e => e.bytes | none => []))
  else if k = K.logNewestSequence then some (natVal s.log.newest)
  else if k = K.logOldestSequence then some (natVal (oldestSequence s))
  else if k = K.logOpenDepth then some (natVal (openDepth s))
  else if k = K.logLogDropped then some (natVal s.log.dropped)
  else if k = K.logTrackersInUse then some (natVal s.log.trackers.length)
  else if k = K.logSafeCause then some (natVal s.log.safeCause)
  else if k = K.logLastFatalSequence then some (natVal s.log.lastFatal)
  else none

/-- R486: what the counter objects show; a counter above 767 reads with length 0. -/
def counterView (s : State) (p : Prin) (k : Nat) : Option Val :=
  let n := AMap.getD s.draft.ctrSelect p.no 0 + keySub k - 1
  if k = K.pmcCounterSelect then some (natVal (AMap.getD s.draft.ctrSelect p.no 0))
  else if keyIdx k = 0x7C01 then some (if 767 < n then .oct [] else natVal (counterVal s n))
  else if keyIdx k = 0x7C04 then some (if 767 < n then .oct [] else natVal (AMap.getD s.pmc.bank n 0))
  else if k = K.pmcBufferLevel then some (natVal s.pmc.level)
  else none

/-- R291, R300: what the flow window shows of a principal's context; transmit contexts are of Kind 5. -/
def flowView (s : State) (p : Prin) (k : Nat) : Option Val :=
  let f := AMap.getD s.draft.flowSelect p.no 0
  if k = K.flowFlowSelect then some (natVal f)
  else if keyIdx k = 0x5801 && 0 < keySub k then
    some (if k = K.flowKind && 15872 ≤ f then natVal 5 else flowVal s.fuses s.objs f (keySub k))
  else if keyIdx k = 0x5802 && 0 < keySub k then some (flowVal s.fuses s.objs f (0x40 + keySub k))
  else none

/-- Objects of other chapters that show state. -/
def otherView (s : State) (k : Nat) : Option Val :=
  let i := keyIdx k
  let u := keySub k
  if 0x1180 ≤ i && i < 0x1188 && u = 3 then some (natVal (AMap.getD s.draft.replay (i - 0x1180) {}).last)
  else if i = 0x1E80 && 0 < u then some (natVal (holdWord s (u - 1)))
  else if k = K.loomGActiveLumaRate then
    some (natVal (floorN (((encodedChannels s.cview).map (activeRate s.cview)).sum / 1000)))
  else if 0x5000 ≤ i && i < 0x5800 && i % 256 = 8 && u = 6 then some (natVal (floorN (portLoad s.view ((i - 0x5000) / 256) / 1000)))
  else if 0x5000 ≤ i && i < 0x5800 && i % 256 = 0 && u = 7 && (AMap.find? s.objs k).isNone then
    some (.oct (linkLocal (s.obj (K.portMacAddress ((i - 0x5000) / 256))).toBytes))
  else if k = K.timeSlewRemainingNs then some (.int (slewError s / (unitsPerNs : Int)))
  else if k = K.beamRanks then some (natVal s.beam.ranks)
  else if k = K.beamDensityGb then some (natVal s.beam.densityGb)
  else if k = K.beamUsableMiB then some (natVal ((s.beam.ranks * (rankBytes s - 524288)) / 1048576))
  else if k = K.shtlThreadsInUse then some (natVal (threadsIn s fun x => x != .free))
  else if k = K.shtlReadyThreads then some (natVal (threadsIn s fun x => x == .ready))
  else if k = K.shtlDeferredThreads then some (natVal (threadsIn s fun x => x == .deferred))
  else if i = 0x7002 && 0 < u then some (natVal (coreBusy s (u - 1)))
  else if k = K.selvRollbackCounter then some (natVal s.fuses.rollback)
  else if k = K.selvRevokedKeys then some (natVal s.fuses.revoked)
  else if k = K.frzFrozenMask then some (natVal s.fab.frozen)
  else none

/-- R49: what an object reads as for a principal. -/
def readObj (s : State) (p : Prin) (k : Nat) : Val :=
  let i := keyIdx k
  let shown :=
    if i < 0x1100 then fastView s k
    else if i = 0x1F00 || i = 0x1F01 then commitView s p k
    else if 0x7800 ≤ i && i < 0x7804 then logView s p k
    else if 0x7C00 ≤ i && i < 0x8000 then counterView s p k
    else if 0x5800 ≤ i && i < 0x5803 then flowView s p k
    else if i < 0x8000 then otherView s k
    else if (AMap.find? s.objs k).isNone then derivedTwill s k
    else none
  shown.getD (s.obj k)

end Sys2Proof.Machine
end

