-- ==== Sys2Proof/Machine/Firewall.lean ====
section
/-!
DEFINITION. Sys2Proof/Machine/Firewall.lean: the regions of the SRAM (R24), the firewall windows of each master, fixed, of the Host DRAM
windows and opened at a commit (R435, R436), and the check of a transaction (R17).
-/

namespace Sys2Proof.Machine

/-! ## Regions of the SRAM (R24), in the order of its table (log entry 6) -/

/-- R24: a region of the SRAM: first byte and size. -/
structure Region where
  base : Nat
  size : Nat
  deriving DecidableEq, Repr

def regSelvedge : Region := ⟨58720256, 262144⟩
def regLog : Region := ⟨58982400, 262144⟩
def regSampling : Region := ⟨59244544, 131072⟩
def regHoldRows : Region := ⟨59375616, 524288⟩
def regBolt : Region := ⟨59899904, 4194304⟩
def regMangle : Region := ⟨64094208, 2097152⟩
def regShuttle : Region := ⟨66191360, 262144⟩
def regDraft : Region := ⟨66453504, 524288⟩
def regChain : Region := ⟨66977792, 131072⟩

/-- The size of the SRAM. -/
def sramSize : Nat := 67108864

/-- Where the register ring's SELV_ block begins (R67). -/
def selvBlock : Nat := 0x03000000

/-! ## Windows (R435) -/

/-- A window on a region of the SRAM. -/
def Region.window (r : Region) (read write : Bool) : Window := ⟨r.base, r.size, .sram, read, write⟩

/-- R367, R435: the usable DRAM of each rank. -/
def usableDram (s : State) : List Window :=
  (List.range s.beam.ranks).map fun r => ⟨r * rankBytes s, rankBytes s - 524288, .dram, true, true⟩

/-- R435: the windows that the Selvedge opens at boot. -/
def fixedWindows (s : State) (m : Nat) : List Window :=
  if 2 ≤ m && m < 10 then
    [regBolt, regShuttle, regDraft, regMangle, regHoldRows, regChain].map (fun r => r.window true true) ++ usableDram s
      ++ [⟨0, selvBlock, .ring, true, true⟩]
  else if m = 10 then [⟨0, 67108864, .ring, true, true⟩]
  else if 11 ≤ m && m < 27 then [regMangle.window false true]
  else if m = 31 then [regMangle.window true false, regHoldRows.window true false]
  else if m = 34 then (List.range s.beam.ranks).map fun r => ⟨(r + 1) * rankBytes s - 524288, 524288, .dram, true, true⟩
  else if m = 35 then [regChain.window true true]
  else if m = 38 then [regSampling.window true true]
  else []

/-- R435: the Host DRAM windows of master 10. -/
def hostWindows (s : State) : List Window :=
  ((List.range 8).filter fun w => s.nat (K.selvHostDramSize w) != 0).map fun w =>
    ⟨s.nat (K.selvHostDramBase w), s.nat (K.selvHostDramSize w), .dram, bit (s.nat (K.selvHostDramRights w)) 0, bit (s.nat (K.selvHostDramRights w)) 1⟩

/-- R435, R436: the windows of a master in force, those that close once its last transaction in them has completed among them. -/
def windowsOf (s : State) (m : Nat) : List Window :=
  if !s.fab.windowsOpen then []
  else fixedWindows s m ++ (if m = 10 then hostWindows s else AMap.getD s.fab.windows m [])

/-- Whether a window holds a run of bytes on a target with a right. -/
def Window.holds (w : Window) (target : Target) (addr len : Nat) (write : Bool) : Bool :=
  w.target == target && decide (w.base ≤ addr) && decide (addr + len ≤ w.base + w.size) && (if write then w.write else w.read)

/-- R17, R435: a transaction passes; masters 0 and 1 are not checked. -/
def passes (s : State) (t : Txn) : Bool :=
  decide (t.master < 2) || (windowsOf s t.master).any fun w => w.holds t.target t.addr t.len t.wdata.isSome

/-! ## Requests for windows (R436) -/

/-- Whether two runs of bytes meet. -/
def meets (a n b m : Nat) : Bool := n != 0 && m != 0 && decide (a < b + m) && decide (b < a + n)

/-- R436: a window that the Selvedge refuses: it reaches the Selvedge region, the Mending Log, the training rows, or an address at or above
installed capacity. -/
def windowDenied (s : State) (w : Window) : Bool :=
  match w.target with
  | .dram => rangeDenied s w.base w.size
  | .sram => meets w.base w.size regSelvedge.base regSelvedge.size || meets w.base w.size regLog.base regLog.size || decide (sramSize < w.base + w.size)
  | .ring => decide (selvBlock < w.base + w.size)

/-- R435: the form of a window. -/
def windowForm (w : Window) : Bool :=
  w.base % 4096 == 0 && w.size % 4096 == 0 && decide (4096 ≤ w.size) && decide (w.size ≤ 68719476736)

/-- Whether a transaction that holds a tag of master m lies in a window. -/
def usesWindow (s : State) (m : Nat) (w : Window) : Bool :=
  s.fab.inflight.any fun (e : Nat × Flight) => e.2.txn.master == m && w.holds e.2.txn.target e.2.txn.addr e.2.txn.len e.2.txn.wdata.isSome

/-- R435, R436: the windows that a commit asks for are opened for the masters that it names; windows of theirs that it no longer asks for
close once the last transaction in them has completed. -/
def State.openWindows (s : State) (req : List (Nat × Window)) : State :=
  let ms := (req.map (·.1)).eraseDups.filter fun m => decide (11 ≤ m) && decide (m < 39)
  ms.foldl (fun s m =>
    let new := ((req.filter fun x => x.1 == m && windowForm x.2 && !windowDenied s x.2).map (·.2)).take (8 - (fixedWindows s m).length)
    let old := (AMap.getD s.fab.windows m []).filter fun w => !new.contains w && usesWindow s m w
    { s with fab := { s.fab with windows := AMap.put s.fab.windows m (new ++ old), closing := AMap.put s.fab.closing m old } }) s

/-- R436: windows that were closing and whose last transaction has completed are closed. -/
def State.closeWindows (s : State) (m : Nat) : State :=
  let old := AMap.getD s.fab.closing m []
  let gone := old.filter fun w => !usesWindow s m w
  if gone.isEmpty then s
  else { s with fab := { s.fab with windows := AMap.put s.fab.windows m ((AMap.getD s.fab.windows m []).filter fun w => !gone.contains w),
                                    closing := AMap.put s.fab.closing m (old.filter fun w => !gone.contains w) } }

end Sys2Proof.Machine
end

