-- ==== Sys2Proof/Machine/Accept.lean ====
section
/-!
DEFINITION. Sys2Proof/Machine/Accept.lean: the end of a commit's validation: the hold rules (R42 to R46), and what an accepted or refused
commit does (R50 to R53, R208 to R210, R277, R381, R424 to R427, R517).
-/

namespace Sys2Proof.Machine

/-! ## The hold (R42 to R46) -/

/-- R42: whether a function has Twill counterparts. -/
def hasTwill (f : Nat) : Bool :=
  (decide (64 ≤ f) && decide (f < 80)) || (decide (96 ≤ f) && decide (f < 112)) || f == 126 || (decide (128 ≤ f) && decide (f < 144))
    || (decide (160 ≤ f) && decide (f < 176) && f % 2 == 0) || f == 192 || f == 200 || (decide (208 ≤ f) && decide (f < 212))
    || f == 216 || f == 224 || f == 226

/-- Whether a key is one of TwillHeld's words. -/
def isHoldKey (k : Nat) : Bool := keyIdx k == 0x1E80

/-- Whether a key is a Twill object's. -/
def isTwillKey (k : Nat) : Bool := decide (k < 2 ^ 24) && isTwill (keyIdx k)

/-- R45: the bit of function f in the HoldBits that a set writes, if it writes them. -/
def holdWritten (items : AMap Val) (f : Nat) : Option Bool :=
  (AMap.find? items (K.holdHoldBits (f / 32))).map fun v => bit v.toInt.toNat (f % 32)

/-- R45: the functions that a set releases. -/
def releasesOf (s : State) (items : AMap Val) : List Nat :=
  (List.range 256).filter fun f => bit s.draft.held f && holdWritten items f == some false

/-- R43: the functions of the Twill objects that a set writes. -/
def twillWritten (items : AMap Val) : List Nat := ((items.filter fun e => isTwillKey e.1).map fun e => functionOf (keyIdx e.1)).eraseDups

/-- R44: the first Plain object of a set that breaks the hold rule. -/
def holdBreach (s : State) (items : AMap Val) : Option Nat :=
  let rel := releasesOf s items
  let tw := twillWritten items
  (items.find? fun e =>
    let f := functionOf (keyIdx e.1)
    decide (e.1 < 2 ^ 24) && !isHoldKey e.1 && !isTwillKey e.1 && hasTwill f && (tw.contains f || (bit s.draft.held f && !rel.contains f))).map (·.1)

/-- What a commit is to do once it is accepted. -/
structure Decision where
  items : AMap Val
  releases : List Nat
  holds : List Nat
  plan : Plan
  deriving DecidableEq, Repr

/-- The values of a set that enter the configuration: all but HoldBits and PatternImage. -/
def confItems (items : AMap Val) : AMap Val := items.filter fun e => !isHoldKey e.1 && e.1 != K.bootPatternImage

/-- The configuration that a set leaves. -/
def confAfter (s : State) (items : AMap Val) (releases : List Nat) : AMap Val :=
  applyTo { id := 0, when_ := .policer, items := items, releases := releases } s.conf

/-- R51: a set with its releases and holds against the cross-object rules and admission. -/
def validated (s : State) (all : AMap Val) (releases holds : List Nat) : Except Refused Decision :=
  let items := confItems all
  match validate s s.cview { fuses := s.fuses, vals := confAfter s items releases } all with
  | .error r => .error r
  | .ok plan => .ok { items := items, releases := releases, holds := holds, plan := plan }

/-- R43, R44, R51: the verdict on a commit from a staging set, or on a Selvedge write. -/
def verdict (s : State) (items : AMap Val) : Except Refused Decision :=
  match holdBreach s items with
  | some k => .error { status := stTwillHeld, key := k }
  | none => validated s items (releasesOf s items) (twillWritten items)

/-! ## Patterns as commits (R424, R427) -/

/-- R37, R47: the records of a Pattern of schema 5 as values, each checked as a write is. -/
def checkRecords : List (Nat × Nat × Bytes) → Except Refused (AMap Val)
  | [] => .ok []
  | (k, ty, b) :: t =>
    match lookup (keyIdx k) (keySub k) with
    | .error st => .error { status := st, key := k }
    | .ok d =>
      if !persistent d (keyIdx k) (keySub k) then .error { status := stAccessDenied, key := k }
      else
        match checkValue d (keyIdx k) (keySub k) ty b with
        | .error st => .error { status := st, key := k }
        | .ok v =>
          match checkRecords t with
          | .error r => .error r
          | .ok m => .ok (AMap.put m k v)

/-- R422, R428: the values that a Pattern of schema 1 to 5 gives, migrated where it is older, with how many records were dropped. -/
def patternItems (b : Bytes) : Except Refused (AMap Val × Nat) :=
  let schema := patField b 4 2
  if schema = 5 then
    match checkRecords (patAll b) with
    | .error r => .error r
    | .ok m => .ok (m, 0)
  else
    let m := migrate schema (patValues b)
    .ok (m.recs, m.dropped)

/-- R424: the functions that a Pattern holds. -/
def patternHolds (items : AMap Val) : List Nat :=
  (List.range 256).filter fun f => hasTwill f && (holdWritten items f == some true || (twillWritten items).contains f)

/-- R424: the verdict on the boot commit. -/
def bootVerdict (s : State) (items : AMap Val) : Except Refused Decision := validated s items [] (patternHolds items)

/-- R423, R427: the values of a loaded Pattern, with the defaults of the Persistent objects of which it has no record. -/
def loadItems (s : State) (items : AMap Val) : AMap Val :=
  s.conf.foldl (fun m e =>
    if (AMap.find? m e.1).isNone && decide (e.1 < 2 ^ 24) && !isTwillKey e.1
        && (match findDef (keyIdx e.1) (keySub e.1) with | some d => persistent d (keyIdx e.1) (keySub e.1) | none => false) then
      AMap.put m e.1 (baseDefault s.fuses e.1)
    else m) items

/-- R427: the verdict on a PatternLoadSlot commit: every function is released, and the Pattern's are held. -/
def loadVerdict (s : State) (items : AMap Val) : Except Refused Decision :=
  validated s (loadItems s items) ((List.range 256).filter (bit s.draft.held)) (patternHolds items)

/-! ## When effects take place (R52, R209, R210, R517) -/

/-- The channel of a video index, if it is one. -/
def videoChannel (i : Nat) : Option Nat :=
  if (0x2000 ≤ i && i < 0x2800) || (0x3000 ≤ i && i < 0x3800) || (0x4000 ≤ i && i < 0x4800) then some (i % 0x800 / 0x80) else none

/-- R52: the channel into which an audio stream is routed, after a commit or else before it. -/
def routedChannel (o v : View) (i : Nat) : Option Nat :=
  let n := (i - 0x6500) / 16
  if v.nat (K.astrChannel n) < 16 then some (v.nat (K.astrChannel n))
  else if o.nat (K.astrChannel n) < 16 then some (o.nat (K.astrChannel n)) else none

/-- R210: whether a commit changes channel c's SlotRate on ports that carry it. -/
def slotRateMoves (o v : View) (c : Nat) : Bool := slotRate o c != slotRate v c && !(channelPorts v c).isEmpty

/-- R277: a channel's row share on a port: presence, SlotRate and M. -/
def rowShare (v : View) (c p : Nat) : List Nat :=
  if encoded v c && (channelPorts v c).contains p then [((channelPorts v c).filter (· == p)).length, slotRate v c, phases v c] else []

/-- R210, R277: the lists that a commit which changes channel c's SlotRate makes pending: one on every port that carries it. -/
def listsOf (s : State) (o v : View) (c : Nat) : List (Nat × Nat) :=
  ((channelPorts v c).filter fun p => rowShare o c p != rowShare v c p).map fun p => (p, (s.port p).listNo + 1)

/-- R52, R210, R291, R517: when a value takes effect; none at acceptance. -/
def effectTime (s : State) (o v : View) (k : Nat) : Option When :=
  if 2 ^ 24 ≤ k then (if 7 ≤ (k - 2 ^ 24) % 256 then some .policer else none)
  else
    let i := keyIdx k % 0x8000
    match videoChannel i with
    | some c =>
      if (k == K.rateBitrate c || k == K.rateSlotFactor c || k == K.rateBundle c) && slotRateMoves o v c then some (.after c (listsOf s o v c))
      else some (.boundary c)
    | none =>
      if 0x6500 ≤ i && i < 0x6600 then (routedChannel o v i).map When.boundary
      else if 0x5000 ≤ i && i < 0x5800 then
        let p := (i - 0x5000) / 256
        if i % 256 = 1 || k = K.portMaxIpBytes p then some (.changeover p)
        else if i % 256 = 4 || i % 256 = 6 then some (.refill p)
        else none
      else none

/-- R46, R52: the release of a function, in its parts. -/
def releaseParts (f : Nat) : List (Option When × Nat) :=
  match videoChannel (f * 128) with
  | some c => [(some (.boundary c), f)]
  | none => if 160 ≤ f && f < 176 then [(some (.changeover ((f - 160) / 2)), f + 1024), (some (.refill ((f - 160) / 2)), f + 512)] else [(none, f)]

/-- R209: the channels whose offset an accepted commit lowers step by step. -/
def lowered (s : State) (items : AMap Val) : List Nat :=
  sixteen.filter fun c =>
    (s.chan c).encoding &&
      (match AMap.find? items (K.rateLatencyRows c) with
       | some v => decide (v.toInt.toNat < s.nat (K.rateLatencyRowsInForce c))
       | none => false)

/-- R52: the effects of a commit that do not take place at acceptance, in one effect for each instant. -/
def effectsOf (s : State) (o v : View) (id : Nat) (d : Decision) : List Effect :=
  let its := d.items.filterMap fun e => (effectTime s o v e.1).map fun w => (w, e)
  let rel := (d.releases.flatMap releaseParts).filterMap fun x => x.1.map fun w => (w, x.2)
  let whens := (its.map (·.1) ++ rel.map (·.1)).eraseDups
  (whens.map fun w => ({ id := id, when_ := w, items := (its.filter fun x => x.1 == w).map (·.2),
                         releases := (rel.filter fun x => x.1 == w).map (·.2) } : Effect))
    ++ (lowered s d.items).map fun c => ({ id := id, when_ := .latency c, items := [], releases := [] } : Effect)

/-- R52: the part of a commit that takes effect at acceptance. -/
def atAcceptance (s : State) (o v : View) (d : Decision) : Effect :=
  { id := 0, when_ := .policer, items := d.items.filter fun e => (effectTime s o v e.1).isNone,
    releases := (d.releases.flatMap releaseParts).filterMap fun x => if x.1.isNone then some x.2 else none }

/-! ## Gate lists (R277, R517) -/

/-- The next picture boundary of channel c. -/
def nextBoundaryNs (s : State) (c : Nat) : Nat := boundaryNs s.view c (rasterPic s.view c (nowExact s) + 1)

/-- R277: the close of the last slot that channel c opens before it leaves a port. -/
def lastCloseNs (s : State) (c : Nat) : Nat :=
  match (s.chan c).pics.getLast? with
  | some p => ceilN (slotClose s c p.pic (p.rows - 1))
  | none => 0

/-- R277, R517: the list that a commit makes pending for port p, if it makes one. -/
def pendingFor (s : State) (o v : View) (d : Decision) (p : Nat) : Option PendingList :=
  let wrote (ks : List Nat) : Bool := ks.any fun k => (AMap.find? d.items k).isSome
  let changed := sixteen.filter fun c => rowShare o c p != rowShare v c p
  let joined := wrote [K.portCycleNs p, K.portBaseTime p, K.portMaxIpBytes p]
  let twill := wrote [K.portGateList p, K.portGateCycleNs p, K.portGateBaseTime p, K.portChangeoverTime p]
  if changed.isEmpty && !joined && !twill && !d.releases.contains (160 + 2 * p) then none
  else
    let least := nowNs s + 100000
    let carried := if joined then sixteen.filter fun c => !(rowShare o c p).isEmpty || !(rowShare v c p).isEmpty else []
    let dropped := changed.filter fun c => (rowShare v c p).isEmpty
    let x := if twill then max (ofTime80 (v.int (K.portChangeoverTime p))) least
      else max (max (maxOf ((changed ++ carried).map (nextBoundaryNs s))) (maxOf (dropped.map (lastCloseNs s)))) least
    some { list := portList v p, change := x }

/-- R277: the pending lists of a commit; a list that was pending is replaced. -/
def State.makePending (s : State) (o v : View) (d : Decision) : State :=
  (List.range 8).foldl (fun s p =>
    match pendingFor s o v d p with
    | none => s
    | some x =>
      let ps := s.port p
      let s := s.setPort p { ps with pending := some x, listNo := ps.listNo + 1 }
      if ps.pending.isSome then s.raise { src := 288 + 12 * p + 10, unit := p } else s) s

/-- R424: at the boot commit every port's list is in force at once. -/
def State.listsAtOnce (s : State) : State :=
  (List.range 8).foldl (fun s p =>
    let l := portList s.view p
    let (i, _) := entryAt l.entries 0 (cyclePos l (nowNs s))
    State.showPort ((s.setPort p { s.port p with list := l, pending := none, listDone := (s.port p).listNo, entry := i }).setN (K.portListInForce p) (b2n l.twill)) p) s

/-! ## What else acceptance does -/

/-- R122, R142: the LUT slots after a commit: raw slots, transforms that stay, and the lowest free slots for new ones. -/
def State.placeLuts (s : State) : State :=
  let v := s.cview
  let used := (romsInUse v).map (·.1)
  let slots := (List.range 8).map fun n =>
    if rawSlot v n then 0xFE else if used.contains (s.nat (K.pressGLutSlot n)) then s.nat (K.pressGLutSlot n) else 0xFF
  let slots := used.foldl (fun (l : List Nat) t => if l.contains t then l else match l.idxOf? 0xFF with | some i => l.set i t | none => l) slots
  (List.range 8).foldl (fun s n => if s.nat (K.pressGLutSlot n) = slots.getD n 0xFF then s else s.setN (K.pressGLutSlot n) (slots.getD n 0xFF)) s

/-- R154, R157, R191, R200: the assignment, MinLatencyRows and the staging sum that admission found. -/
def State.adoptPlan (s : State) (v : View) (plan : Plan) : State :=
  let s := if plan.placed then
      sixteen.foldl (fun s c =>
        match AMap.find? plan.looms c with
        | some ls => if heldLooms s c == ls then s else s.setChan c { s.chan c with nextPositions := some ls }
        | none => if encoded v c then s else s.setChan c { s.chan c with nextPositions := none }) s
    else s
  let s := plan.minRows.foldl (fun s e => s.setN (K.rateMinLatencyRows e.1) e.2) s
  s.setN K.rateGStagingFloorBytes plan.staging

/-- R176, R177: Bolt prepares the templates of every encoded channel's rows at each commit, and writes the grey row slot where W_pic or the
chroma format changes. -/
def State.prepareHolds (s : State) (v : View) : State :=
  (encodedChannels v).foldl (fun s c =>
    s.setChan c { s.chan c with templates := templatesOf v c, grey := some (picW v c, v.nat (K.loomChromaFormat c)) }) s

/-- R381: the channels whose DRAM cost a commit raises come first in the order in which they would be held. -/
def State.noteCosts (s : State) (o v : View) : State :=
  let rot (c : Nat) : Bool := (s.reed c).rotDelay
  let raised := sixteen.filter fun c => decide (dramCost o rot c 1 < dramCost v rot c 1)
  { s with beam := { s.beam with costOrder := raised.reverse ++ s.beam.costOrder.filter fun c => !raised.contains c } }

/-- R292: a flow that had no policer and gets one starts with full buckets. -/
def State.fillBuckets (s : State) (o v : View) (items : AMap Val) : State :=
  let fs := (flowsIn items).filter fun f => o.flow f 8 == 0 && o.flow f 10 == 0 && !(v.flow f 8 == 0 && v.flow f 10 == 0)
  { s with net := { s.net with flows := s.net.flows.filter fun e => !fs.contains e.1 } }

/-- R419, R425: a commit has been accepted. -/
def State.noteCommitted (s : State) : State :=
  { s with boot := { s.boot with defaulted := false, configCommitted := true,
                                 committedAt := if s.boot.configCommitted then s.boot.committedAt else s.clk.ticks } }

/-- A principal's CommitStatus set. -/
def State.setStat (s : State) (p : Prin) (x : CommitStat) : State :=
  match p with
  | .host => { s with draft := { s.draft with statHost := x } }
  | .net => { s with draft := { s.draft with statNet := x } }
  | .chain => { s with draft := { s.draft with statChain := x } }
  | .selvedge => { s with draft := { s.draft with statSelv := x } }

/-- R50: the principals to which a commit is reported. -/
def Commit.reports (c : Commit) : List Prin :=
  match c.kind with
  | .boot => [.host, .net, .chain, .selvedge]
  | .oneObject => []
  | _ => [c.prin]

/-- R47: the reply to a Selvedge write of one object, once its commit is judged. -/
def State.replyOne (s : State) (c : Commit) (status : Nat) : State :=
  match c.kind, c.items with
  | .oneObject, e :: _ => s.emit (.reply .selvedge e.1 status)
  | _, _ => s

/-- R50: a commit's new state is reported, where it is the principal's last commit. -/
def State.reportCommit (s : State) (c : Commit) (state status : Nat) (r : Option Refused) : State :=
  let s := s.replyOne c status
  c.reports.foldl (fun s p =>
    let x := s.commitStat p
    if c.kind == .boot || x.id == c.id then
      let k := shownKey ((r.map (·.key)).getD 0)
      s.setStat p { id := c.id, lastTag := c.tag, state := state, status := status, failIdx := keyIdx k, failSub := keySub k,
                    failBudget := (r.map (·.budget)).getD 0 }
    else s) s

/-- What follows from values that have come into force at acceptance. -/
def State.inForce (s0 s : State) : State :=
  let s := State.timeCommitted s0 s
  let s := State.audioCommitted s0 s
  let s := State.lanesCommitted s0 s
  ((s.beamCommitted.showContexts.unpEnableChanged 0).unpEnableChanged 1).placeLuts

/-- R51 to R53, R424: a commit is accepted. -/
def State.acceptCommit (s : State) (c : Commit) (d : Decision) (windows : List (Nat × Window)) : State :=
  let s0 := s
  let o := s.cview
  let conf := confAfter s d.items d.releases
  let v : View := { fuses := s.fuses, vals := conf }
  let boot := c.kind == .boot
  let now : Effect := if boot then { id := 0, when_ := .policer, items := d.items, releases := d.releases } else atAcceptance s o v d
  let effects := if boot then [] else effectsOf s o v c.id d
  let held := maskOf 256 fun f => (bit s.draft.held f && !d.releases.contains f) || d.holds.contains f
  let s := { s with conf := conf, objs := gateEncodes (mayNotEncode s) s.objs (applyTo now s.objs),
                    draft := { s.draft with held := held, effects := s.draft.effects ++ effects } }
  let s := (s.reportCommit c 3 stAccepted none).count 45 1
  let s := if effects.isEmpty then s else s.vector (s.nat K.irqCommitVector)
  let s := (((s.adoptPlan v d.plan).prepareHolds v).noteCosts o v).fillBuckets o v d.items
  let s := if c.prin = .host then s.setN K.beamShedMask 0 else s
  let s := (s.openWindows windows).noteCommitted
  let s := if boot then (sixteen.foldl (fun s c => State.reedChanged s0 s c (d.items.map (·.1))) s).listsAtOnce else s.makePending o v d
  let s := match AMap.find? c.items K.bootPatternImage with
    | some b => if b.toBytes.isEmpty then s else s.saveSupplied b.toBytes
    | none => s
  let s := (State.inForce s0 s).tryGate
  let s := if effects.isEmpty then
      { s with draft := { s.draft with statHost := s.draft.statHost.follow s.draft.effects, statNet := s.draft.statNet.follow s.draft.effects,
                                       statChain := s.draft.statChain.follow s.draft.effects, statSelv := s.draft.statSelv.follow s.draft.effects } }
    else s
  (if effects.isEmpty then s.applied else s).follow

/-- A principal's staging set replaced. -/
def State.setStage (s : State) (p : Prin) (x : StageSet) : State :=
  match p with
  | .host => { s with draft := { s.draft with host := x } }
  | .net => { s with draft := { s.draft with net := x } }
  | .chain => { s with draft := { s.draft with chain := x } }
  | .selvedge => s

/-- R51: a commit is refused: its values return to staging, where an object written again keeps its newer value. -/
def State.refuseCommit (s : State) (c : Commit) (r : Refused) : State :=
  let s := if c.kind == .tagged then
      let x := s.stage c.prin
      s.setStage c.prin { x with items := x.items.foldl (fun m e => AMap.put m e.1 e.2) c.items }
    else s
  State.vector ((s.reportCommit c 5 r.status (some r)).count 46 1) (s.nat K.irqCommitVector)

/-- R51: the front commit leaves the queue, and the next one's validation begins. -/
def State.nextCommit (s : State) : State :=
  match s.draft.queue with
  | [] => s
  | _ :: [] => { s with draft := { s.draft with queue := [] } }
  | _ :: c :: t =>
    let s := { s with draft := { s.draft with queue := { c with validating := true } :: t } }
    c.reports.foldl (fun s p =>
      let x := s.commitStat p
      if x.id == c.id then s.setStat p { x with state := 2 } else s) s

/-- R51: the front commit has been judged. -/
def State.conclude (s : State) (c : Commit) (x : Except Refused Decision) (windows : List (Nat × Window)) : State :=
  let s := s.nextCommit
  match x with
  | .ok d => s.acceptCommit c d windows
  | .error r => s.refuseCommit c r

/-- R58, R412, R438, R464: whether Bolt does no work: before BoltReady, in device safe state, and while all eight cores are frozen. -/
def boltDown (s : State) : Bool := !s.boot.boltReady || s.log.safe || (List.range 8).all fun c => s.isFrozen (2 + c)

/-- COMMIT_VALIDATION_DONE (R51): the validation of the commit at the front of the queue ends; `windows` are the firewall windows for which
Bolt has asked (R435). The boot commit ends by BOOT_COMMIT. -/
def execCommitValidationDone (windows : List (Nat × Window)) (s : State) : Result := whenClocked s <|
  match s.draft.queue with
  | [] => .next s
  | c :: _ =>
    if boltDown s then .next s
    else match c.kind with
    | .boot => .next s
    | .load => .next (s.conclude c (loadVerdict s c.items) windows)
    | _ => .next (s.conclude c (verdict s c.items) windows)

end Sys2Proof.Machine
end

