-- ==== Sys2Proof/Machine/Draft.lean ====
section
/-!
DEFINITION. Sys2Proof/Machine/Draft.lean: reads and writes of objects by a principal (R36 to R49), staging sets and segments (R41, R48),
the commit queue (R50, R51), and the commands that write one object.
-/

namespace Sys2Proof.Machine

/-! ## Reading -/

/-- R61: what an item's read gives: status, type code and value bytes. -/
structure ItemRead where
  status : Nat
  ty : Nat
  data : Bytes
  deriving DecidableEq, Repr

/-- R486: the counter that an object shows, if it shows one. -/
def shownCounter (s : State) (p : Prin) (idx sub : Nat) : Option Nat :=
  if (idx = 0x7C01 || idx = 0x7C04) && 0 < sub then some (AMap.getD s.draft.ctrSelect p.no 0 + sub - 1) else none

/-- R38 to R40, R480: a principal reads an object. -/
def State.readItem (s : State) (p : Prin) (idx sub : Nat) : State × ItemRead :=
  match lookup idx sub with
  | .error st => (s, { status := st, ty := 0, data := [] })
  | .ok d =>
    if !(d.acc.of p).reads then (s, { status := stAccessDenied, ty := d.ty.code, data := [] })
    else
      let denied := match shownCounter s p idx sub with | some n => decide (n < 768) && !counterOpen s p n | none => false
      if denied then ((s.count 741 1).raiseLimited 633 { src := 633 }, { status := stAccessDenied, ty := d.ty.code, data := [] })
      else
        let v := if sub = 0 && (findDef idx 0).isNone then natVal (highestSub idx) else readObj s p (objKey idx sub)
        let data := match v, d.ty with
          | .oct b, _ => b
          | v, ty => encodeVal ty v
        (s, { status := stOk, ty := d.ty.code, data := data })

/-! ## Staging (R47, R48) -/

/-- The key under which a principal's write of an object is kept: a flow context's object under its context (R291). -/
def keyFor (s : State) (p : Prin) (idx sub : Nat) : Nat :=
  if idx = 0x5801 && 0 < sub then flowKey (AMap.getD s.draft.flowSelect p.no 0) sub else objKey idx sub

/-- R48: the bytes that a value counts against the 160 KiB, and against the large-value area. -/
def stagedSize (e : Nat × Val) : Nat × Nat :=
  let n := valLength e
  if 1024 < n then (16, n) else (n, 0)

/-- R51: the values of a principal's commits that are queued or validating. -/
def queuedItems (s : State) (p : Prin) : AMap Val :=
  (s.draft.queue.filter fun c => c.kind == .tagged && c.prin == p).foldl (fun m c => c.items.foldl (fun m e => AMap.put m e.1 e.2) m) []

/-- R48: whether a set keeps the limits. -/
def withinStaging (m : AMap Val) : Bool :=
  let t := m.foldl (fun (acc : Nat × Nat) e => (acc.1 + (stagedSize e).1, acc.2 + (stagedSize e).2)) (0, 0)
  decide (m.length ≤ 4096) && decide (t.1 ≤ 163840) && decide (t.2 ≤ 8388608)

/-- R48: a write enters a principal's staging set, unless a limit refuses it. -/
def State.stageWrite (s : State) (p : Prin) (k : Nat) (v : Val) : State × Nat :=
  let x := s.stage p
  let trial := AMap.put (x.items.foldl (fun m e => AMap.put m e.1 e.2) (queuedItems s p)) k v
  if withinStaging trial then (s.setStage p { x with items := AMap.put x.items k v }, stStaged) else (s, stStagingFull)

/-- R48: a principal's set is discarded with its large-value area and its partial values (R41). -/
def State.dropStage (s : State) (p : Prin) : State :=
  let s := s.setStage p { s.stage p with items := [] }
  { s with draft := { s.draft with partials := s.draft.partials.filter fun x => x.prin != p } }

/-- R48: the 60 s of a principal's set start again. -/
def State.touch (s : State) (p : Prin) : State := s.setStage p { s.stage p with lastWrite := s.clk.ticks }

/-! ## Commits (R50, R51) -/

/-- R51: a commit enters the queue; the first one's validation begins at once. -/
def State.enqueue (s : State) (p : Prin) (tag : Nat) (kind : CommitKind) (items : AMap Val) : State :=
  let id := s.draft.entered + 1
  let first := s.draft.queue.isEmpty
  let c : Commit := { id := id, prin := p, tag := tag, kind := kind, items := items, validating := first }
  let s := { s with draft := { s.draft with entered := id, queue := s.draft.queue ++ [c] } }
  c.reports.foldl (fun s p => s.setStat p { id := id, lastTag := tag, state := if first then 2 else 1 }) s

/-- R50, R51: a CommitTag write. -/
def State.commitAsk (s : State) (p : Prin) (tag : Nat) : State × Nat :=
  let s := s.touch p
  if tag = 0 then (s, stOutOfRange)
  else if 4 ≤ s.draft.queue.length then (s, stBusy)
  else if (s.stage p).items.isEmpty then (s, stNothingStaged)
  else
    let items := (s.stage p).items
    ((s.setStage p { s.stage p with items := [] }).enqueue p tag .tagged items, stOk)

/-- R50: a Discard write empties the writer's staging set. -/
def State.discardAsk (s : State) (p : Prin) : State := s.setStage p { s.stage p with items := [], lastWrite := s.clk.ticks }

/-- R427: a PatternLoadSlot write: the slot's Pattern enters the queue as a commit of the writer, or is refused. -/
def State.loadAsk (s : State) (p : Prin) (slot : Nat) : State × Nat :=
  let b := s.flash.cfg slot
  let schema := patField b 4 2
  if !patCandidate b || !patCheck b || schema = 0 || 5 < schema then (s, stInconsistent)
  else
    match patternItems b with
    | .error _ => (s, stInconsistent)
    | .ok (items, dropped) =>
      if 4 ≤ s.draft.queue.length then (s, stBusy)
      else
        let s := if schema < 5 then
            ((s.setN K.bootMigratedFrom schema).add K.bootMigrationDropped dropped).raise { src := 624 }
          else s
        (s.enqueue p 0 .load items, stOk)

/-- R410, R467: a DeviceReset write: a warm reset follows 10 ms after the reply. In device safe state it ends causes 1 and 5 only, and
cause 5 only once T_max is below 95 °C (R465). -/
def State.resetAsk (s : State) : State × Nat :=
  if !resetTaken s then (s, stNotReady)
  else ({ s with boot := { s.boot with resetAsked := some (s.boot.resetAsked.getD s.clk.ticks) } }, stOk)

/-- R479: a SnapshotRequest write. -/
def State.snapAsk (s : State) : State × Nat :=
  if s.isFrozen 38 then (s, stNotReady) else ({ s with pmc := { s.pmc with snapAsked := true } }, stOk)

/-! ## Immediate writes (R38, R47) -/

/-- The route of a darn request by a principal (R233). -/
def Prin.route : Prin → DarnRoute
  | .net => .net | .chain => .chain | _ => .host

/-- A value set in force and as committed. -/
def State.setBoth (s : State) (k : Nat) (v : Val) : State := { s with objs := AMap.put s.objs k v, conf := AMap.put s.conf k v }

/-- A command object to which 1 has been written, or 0, which does nothing. -/
def onOne (s : State) (v : Val) (f : State × Nat) : State × Nat := if v.toInt = 1 then f else (s, stOk)

/-- R446: a write to ActivateAt; before the instant of a scheduled activation it moves it. -/
def State.moveActivation (s : State) (k : Nat) (v : Val) : State :=
  let t := s.setBoth k v
  if s.boot.activation.isNone then t else State.raise { t with boot := { t.boot with activation := some (ofTime80 v.toInt) } } { src := 583 }

/-- R47: a write to an RW or WO object takes effect. -/
def State.command (s : State) (p : Prin) (k : Nat) (v : Val) : State × Nat :=
  let i := keyIdx k
  let n := v.toInt.toNat
  let d := s.draft
  if k = K.commitCommitTag then s.commitAsk p n
  else if k = K.commitDiscard then onOne s v (s.discardAsk p, stOk)
  else if k = K.logReadSequence then ({ s with draft := { d with readSeq := AMap.put d.readSeq p.no n } }, stOk)
  else if k = K.pmcCounterSelect then ({ s with draft := { d with ctrSelect := AMap.put d.ctrSelect p.no n } }, stOk)
  else if k = K.flowFlowSelect then ({ s with draft := { d with flowSelect := AMap.put d.flowSelect p.no n } }, stOk)
  else if 0x1180 ≤ i && i < 0x1188 then s.keyAsk (i - 0x1180) v.toBytes
  else if k = K.selvChainLinkKey then s.keyAsk 16 v.toBytes
  else if k = K.bootPatternSave then onOne s v (s.saveAsk, stOk)
  else if k = K.bootPatternLoadSlot then s.loadAsk p n
  else if k = K.bootDeviceReset then onOne s v s.resetAsk
  else if k = K.qualQualifyMask then s.qualifyAsk n
  else if 0x4000 ≤ i && i < 0x4800 then onOne s v (s.darnAsk ((i - 0x4000) / 128) p.route)
  else if 0x6A80 ≤ i && i < 0x6AA0 && keySub k = 1 then onOne s v (s.scanAsk (i - 0x6A80))
  else if k = K.beamReturnToSetPoint then onOne s v s.returnAsk
  else if k = K.selvActivateAt then (s.moveActivation k v, stOk)
  else if k = K.selvActivate then onOne s v s.activateAsk
  else if k = K.selvCancelActivation then onOne s v (s.cancelActivationAsk, stOk)
  else if k = K.selvConfirmImage then onOne s v (s.confirm, stOk)
  else if k = K.frzFreezeMaster then s.freezeAsk p n
  else if k = K.frzThawMaster then s.thawAsk n
  else if k = K.pmcSnapshotRequest then onOne s v s.snapAsk
  else if k = K.irqBar2Window && decide (s.beam.ranks * rankBytes s ≤ n * 2 ^ 32) && n != 0 then (s, stOutOfRange)
  else (s.setBoth k v, stOk)

/-- R5, R43: whether a write to an object is refused because its function is held. -/
def heldPlain (s : State) (idx : Nat) : Bool := !isTwill idx && bit s.draft.held (functionOf idx)

/-- R291: whether an object belongs to a transmit context, which is read-only. -/
def readOnlyFlow (s : State) (p : Prin) (idx : Nat) : Bool := idx == 0x5801 && decide (15872 ≤ AMap.getD s.draft.flowSelect p.no 0)

/-- R47, R51: a Selvedge write to an RWC object enters the queue as a commit of that one object; its reply comes with the commit's outcome. -/
def State.commitOne (s : State) (k : Nat) (v : Val) : State × Nat :=
  if 4 ≤ s.draft.queue.length then (s, stBusy) else (s.enqueue .selvedge 0 .oneObject [(k, v)], stStaged)

/-- R38, R43, R47: a value that has passed its checks is staged, committed alone, or takes effect. -/
def State.storeWrite (s : State) (p : Prin) (d : ObjDef) (idx sub : Nat) (v : Val) : State × Nat :=
  if readOnlyFlow s p idx then (s, stAccessDenied)
  else if heldPlain s idx then (s, stTwillHeld)
  else if d.acc.of p = .rwc then
    (if p = .selvedge then s.commitOne (keyFor s p idx sub) v else s.stageWrite p (keyFor s p idx sub) v)
  else s.command p (keyFor s p idx sub) v

/-- Whether a principal may write an object (R38). -/
def mayWrite (d : ObjDef) (p : Prin) : Bool := match d.acc.of p with | .wo => true | .rw => true | .rwc => true | _ => false

/-- R47: a WriteReq item. -/
def State.writeItem (s : State) (p : Prin) (idx sub ty : Nat) (data : Bytes) : State × Nat :=
  match lookup idx sub with
  | .error st => (s, st)
  | .ok d =>
    if !mayWrite d p then (s, stAccessDenied)
    else
      match checkValue d idx sub ty data with
      | .error st => (s, st)
      | .ok v => if d.ty = .octets && 1024 < data.length then (s, stLengthMismatch) else (s.touch p).storeWrite p d idx sub v

/-- A principal's partial value of an object. -/
def findPartial (s : State) (p : Prin) (k : Nat) : Option Bytes := (s.draft.partials.find? fun x => x.prin == p && x.key == k).map (·.data)

/-- A partial value set, or discarded. -/
def State.setPartial (s : State) (p : Prin) (k : Nat) (b : Option Bytes) : State :=
  let rest := s.draft.partials.filter fun x => !(x.prin == p && x.key == k)
  { s with draft := { s.draft with partials := match b with | some b => rest ++ [⟨p, k, b⟩] | none => rest } }

/-- R41: a segment of a long OCTETS value. -/
def State.segmentItem (s : State) (p : Prin) (idx sub : Nat) (final : Bool) (offset : Nat) (data : Bytes) : State × Nat :=
  match lookup idx sub with
  | .error st => (s, st)
  | .ok d =>
    if !mayWrite d p then (s, stAccessDenied)
    else if d.ty != .octets then (s, stTypeMismatch)
    else
      let s := s.touch p
      let k := objKey idx sub
      let before := if offset = 0 then some [] else (findPartial s p k).filter fun b => b.length == offset
      match before with
      | none => (s.setPartial p k none, stLengthMismatch)
      | some b =>
        let b := b ++ data
        if data.isEmpty || decide (d.maxLen < b.length) then (s.setPartial p k none, stLengthMismatch)
        else if !final then (s.setPartial p k (some b), stSegmentHeld)
        else
          let s := s.setPartial p k none
          match checkValue d idx sub d.ty.code b with
          | .error st => (s, st)
          | .ok v => s.storeWrite p d idx sub v

/-! ## Commands that write one object -/

/-- R38, R43, R47: a principal's own write of one object, with its status. -/
def State.objectWrite (s : State) (p : Prin) (k : Nat) (v : Val) : State × Nat :=
  match lookup (keyIdx k) (keySub k) with
  | .error st => (s, st)
  | .ok d =>
    if !mayWrite d p then (s, stAccessDenied)
    else if !valueOk d (keyIdx k) (keySub k) v then (s, stOutOfRange)
    else (s.touch p).storeWrite p d (keyIdx k) (keySub k) v

/-- R47: a principal's own write of one object and its reply; that of a commit of one object comes with its outcome. -/
def State.direct (s : State) (p : Prin) (k : Nat) (v : Val) : State :=
  let (t, st) := s.objectWrite p k v
  if p = .selvedge && st = stStaged then t else t.emit (.reply p k st)

/-- DISCARD (R50): a Discard write empties the writer's staging set. -/
def execDiscard (prin : Prin) (s : State) : Result := whenClocked s <|
  if boltDown s then .next s else .next (s.direct prin K.commitDiscard (.int 1))

/-- SELVEDGE_OBJECT_COMMIT (R47, R78): a Selvedge write to one object: to an RWC object it enters the queue as a commit of that one object,
to any other that the Selvedge may write it takes effect at once. -/
def execSelvedgeObjectCommit (key : Nat) (val : Val) (s : State) : Result := whenClocked s <|
  if boltDown s then .next s else .next (s.direct .selvedge key val)

/-- STAGING_SET_TIMEOUT (R48): the Net's or the Chain's set is discarded after 60 s without a write or commit. -/
def execStagingSetTimeout (prin : Prin) (s : State) : Result := whenClocked s <|
  if (prin = .net || prin = .chain) && passed s (s.stage prin).lastWrite 60000000000 then .next (s.dropStage prin) else .next s

/-- PATTERN_SAVE (R426): 1 is written to PatternSave. The command names no principal: the host writes (log entry 116). -/
def execPatternSave (s : State) : Result := whenClocked s <| if boltDown s then .next s else .next (s.direct .host K.bootPatternSave (.int 1))

/-- PATTERN_LOAD_SLOT (R427): a slot's Pattern enters the commit queue. The Chain may not write it. -/
def execPatternLoadSlot (prin : Prin) (slot : Nat) (s : State) : Result := whenClocked s <|
  if boltDown s then .next s else .next (s.direct prin K.bootPatternLoadSlot (.int slot))

/-- DEVICE_RESET (R410): 1 is written to DeviceReset by the Host or the Selvedge. -/
def execDeviceReset (prin : Prin) (s : State) : Result := whenClocked s <| .next (s.direct prin K.bootDeviceReset (.int 1))

/-- SNAPSHOT_REQUEST (R479): 1 is written to SnapshotRequest. -/
def execSnapshotRequest (prin : Prin) (s : State) : Result := whenClocked s <|
  if boltDown s then .next s else .next (s.direct prin K.pmcSnapshotRequest (.int 1))

/-- DARN_REQUEST (R45, R233): a darn request is accepted, coalesced or refused: a principal's by a write of DarnRequest, one by RTCP directly. -/
def execDarnRequest (route : DarnRoute) (chan : Chan) (s : State) : Result := whenClocked s <|
  let one : Val := .int 1
  match route with
  | .host => .next (s.direct .host (K.darnDarnRequest chan) one)
  | .net => .next (s.direct .net (K.darnDarnRequest chan) one)
  | .chain => .next (s.direct .chain (K.darnDarnRequest chan) one)
  | .rtcp => .next (s.darnAsk chan .rtcp).1

/-- QUALIFY_MASK (R241): a QualifyMask write starts single-mode qualification of the named looms, or is refused. The Chain may not
write it. -/
def execQualifyMask (prin : Prin) (mask : Nat) (s : State) : Result := whenClocked s <| .next (s.direct prin K.qualQualifyMask (.int mask))

/-- RETURN_TO_SET_POINT (R380): 1 is written to ReturnToSetPoint, by the host (log entry 116). -/
def execReturnToSetPoint (s : State) : Result := whenClocked s <| .next (s.direct .host K.beamReturnToSetPoint (.int 1))

/-- FREEZE_MASTER (R439): a named master is frozen, or the write is refused. The Chain may not write it. -/
def execFreezeMaster (prin : Prin) (master : Nat) (s : State) : Result := whenClocked s <| .next (s.direct prin K.frzFreezeMaster (.int master))

/-- THAW_MASTER (R439): the thaw of a named master is asked for, or the write is refused. The Chain may not write it. -/
def execThawMaster (prin : Prin) (master : Nat) (s : State) : Result := whenClocked s <| .next (s.direct prin K.frzThawMaster (.int master))

/-- SCAN_START (R359): an eye-scan point begins, or begins again; on a lane that is not Up the write is refused. The host writes (log
entry 116). -/
def execScanStart (lane : LaneId) (s : State) : Result := whenClocked s <| .next (s.direct .host (K.scanScanStart lane) (.int 1))

/-- KEY_WRITE (R440): a Shed key or the chain link key is written or erased; the Net and the Chain may not. -/
def execKeyWrite (prin : Prin) (slot : Nat) (key : Bytes) (s : State) : Result := whenClocked s <|
  if slot < 8 then .next (s.direct prin (K.shedShedKey slot) (.oct key))
  else if slot = 16 then .next (s.direct prin K.selvChainLinkKey (.oct key))
  else .next s

/-- ACTIVATE (R445): the inactive slot's activation is scheduled, or the write is refused. The Chain may not write it. -/
def execActivate (prin : Prin) (s : State) : Result := whenClocked s <| .next (s.direct prin K.selvActivate (.int 1))

/-- CANCEL_ACTIVATION (R446): a scheduled activation is withdrawn. The Chain may not write it. -/
def execCancelActivation (prin : Prin) (s : State) : Result := whenClocked s <| .next (s.direct prin K.selvCancelActivation (.int 1))

/-- CONFIRM_IMAGE (R445): a ConfirmImage write confirms the trial. The Chain may not write it. -/
def execConfirmImage (prin : Prin) (s : State) : Result := whenClocked s <| .next (s.direct prin K.selvConfirmImage (.int 1))

/-- PATTERN_SAVE_DONE (R426): the save ends: read back and sealed, or Failed with an entry of severity Error; a further save that has been
asked for begins. -/
def execPatternSaveDone (ok : Bool) (s : State) : Result := whenClocked s <|
  match s.boot.saving with
  | none => .next s
  | some b =>
    let slot := saveSlot s
    let s1 := { s with boot := { s.boot with saving := none } }
    let s1 := if ok then
        let g := nextGeneration s
        let s1 := { s1 with flash := s1.flash.setCfg slot (withGeneration b g true) }
        ((((s1.setN K.bootPatternSlot slot).setN K.bootPatternGeneration g).setN K.bootPatternSchema (patField b 4 2)).setN K.bootSaveState 2).raise { src := 625 }
      else (s1.setN K.bootSaveState 3).raise { src := 625, sev := 3 }
    match s1.boot.saveImage with
    | some x => .next (State.saveBegin { s1 with boot := { s1.boot with saveImage := none } } (suppliedImage s1 x))
    | none =>
      if s1.boot.saveAgain then .next (State.saveBegin { s1 with boot := { s1.boot with saveAgain := false } } (snapshotImage s1)) else .next s1

end Sys2Proof.Machine
end

