-- ==== Sys2Proof/Machine/Rtcp.lean ====
section
/-!
DEFINITION. Sys2Proof/Machine/Rtcp.lean: received RTCP packets (R287).
-/

namespace Sys2Proof.Machine

/-! ## Packets: their layout is that of RFC 3550, RFC 4585 and RFC 5104, which R287 names by type and format (PRESUMED) -/

/-- The items of one feedback packet of payload type PSFB, by its format; the entries of an FIR are 8 bytes each. -/
def psfbItems (fmt : Nat) (b : Bytes) : List RtcpItem :=
  if fmt = 1 then [.pli (patField b 8 4)]
  else if fmt = 4 then (List.range ((b.length - 12) / 8)).map fun i => .fir (patField b 4 4) (patField b (12 + 8 * i) 4) (patField b (16 + 8 * i) 1)
  else [.other]

/-- The items of a compound of at most `fuel` packets. -/
def rtcpItems : Nat → Bytes → List RtcpItem
  | 0, _ => []
  | fuel + 1, b =>
    if b.length < 4 then []
    else
      let n := 4 * (patField b 2 2 + 1)
      (if patField b 1 1 = 206 && decide (12 ≤ n) then psfbItems (patField b 0 1 % 32) (b.take n) else [.other]) ++ rtcpItems fuel (b.drop n)

/-- An item as a packet. -/
def itemPacket : RtcpItem → Bytes
  | .pli m => [0x81, 206] ++ beBytes 2 2 ++ beBytes 4 0 ++ beBytes 4 m
  | .fir a m n => [0x84, 206] ++ beBytes 2 4 ++ beBytes 4 a ++ beBytes 4 0 ++ beBytes 4 m ++ beBytes 1 n ++ [0, 0, 0]
  | .other => [0x80, 201] ++ beBytes 2 1 ++ beBytes 4 0

/-! ## Effects -/

/-- R280, R287: whether an SSRC is one of channel c's phase SSRCs. -/
def phaseSsrc (s : State) (c media : Nat) : Bool :=
  (List.range (phases s.view c)).any fun p => (s.nat (K.streamSsrcBase c) + p) % 2 ^ 32 == media

/-- R287: one item, and which request it makes: 0 none, 1 a PLI, 2 an FIR. A repeated FIR is ignored; any other item is counted in
RtcpIgnored. -/
def State.rtcpItem (s : State) (c : Nat) : RtcpItem → State × Nat
  | .pli m => if phaseSsrc s c m then (s, 1) else (s.bump (K.streamRtcpIgnored c), 0)
  | .fir a m n =>
    if !phaseSsrc s c m then (s.bump (K.streamRtcpIgnored c), 0)
    else
      let ch := s.chan c
      let known := ch.firs.find? fun f => f.1 == a && f.2.1 == m
      let firs := ((a, m, n) :: ch.firs.filter fun f => !(f.1 == a && f.2.1 == m)).take 64
      let s := s.setChan c { ch with firs := firs }
      (s, if known == some (a, m, n) then 0 else 2)
  | .other => (s.bump (K.streamRtcpIgnored c), 0)

/-- R287: an RTCP compound for channel c on a port: at most 1,000 in one second; it counts once, and makes at most one darn
request. -/
def State.rtcpTake (s : State) (port c : Nat) (items : List RtcpItem) : State :=
  let w := (s.chan c).rtcpWin
  let w := if w.count = 0 || passed s w.start 1000000000 then ({ start := s.clk.ticks } : RateWin) else w
  if 1000 ≤ w.count then s.bump (K.streamRtcpPoliced c)
  else
    let s := s.setChan c { s.chan c with rtcpWin := { w with count := w.count + 1 } }
    let (s, asks) := items.foldl (fun (acc : State × List Nat) i => let (s, b) := acc.1.rtcpItem c i; (s, b :: acc.2)) (s, [])
    let s := if asks.contains 1 then s.bump (K.streamPliCount c) else s
    let s := if asks.contains 2 then s.bump (K.streamFirCount c) else s
    if asks.any (· != 0) then
      let (s, st) := s.darnAsk c .rtcp
      if st = stOk then s.raise { src := 288 + 12 * port + 8, unit := port } else s
    else s

/-- R287: the channel to whose RTCP ports a UDP port belongs, on a port that carries it. -/
def rtcpChannel (s : State) (port udp : Nat) : Option Nat :=
  (List.range 16).find? fun c => encoded s.view c && (channelPorts s.view c).contains port
    && (List.range (phases s.view c)).any fun p => s.nat (K.streamSourceUdpPort c) + 2 * p + 1 == udp

end Sys2Proof.Machine
end

