-- ==== Sys2Proof/Machine/Shed.lean ====
section
/-!
DEFINITION. Sys2Proof/Machine/Shed.lean: Shed messages (R56 to R65): their form, their authentication, the Fast Responder, Bolt's queues
(R415), event messages, and the mailbox (R71, R72).
-/

namespace Sys2Proof.Machine

/-! ## The form of a message (R60, R61, R63) -/

/-- R60: a message taken apart; each item stands with its own header and padding. -/
structure Shed where
  type : Nat
  flags : Nat
  keyId : Nat
  seq : Nat
  tid : Nat
  target : Nat
  hop : Nat
  sender : Nat
  items : List Bytes
  /-- header and payload, which the tag covers, and the tag -/
  body : Bytes
  tag : Option Bytes
  deriving DecidableEq, Repr

/-- A length padded to a multiple of 4. -/
def pad4 (n : Nat) : Nat := ceilDiv n 4 * 4

/-- Bytes padded with zero bytes to a multiple of 4. -/
def padded (b : Bytes) : Bytes := b ++ List.replicate (pad4 b.length - b.length) 0

/-- R61: the size of the item at the front of a payload, by message type; none where its layout is wrong. -/
def itemSize (type segMax : Nat) (b : Bytes) : Option Nat :=
  let n := patField b 4 2
  if type = 0x81 then some (8 + pad4 (patField b 6 2))
  else if type = 0x82 || type = 0x83 then some 8
  else if type = 0x84 then some 12
  else if type = 0x85 then some (16 + pad4 (patField b 12 2))
  else
  if type = 0x01 || type = 0x05 then some 4
  else if type = 0x02 then some (8 + pad4 n)
  else if type = 0x03 then (if 1 ≤ n && n ≤ segMax then some (12 + pad4 n) else none)
  else if type = 0x04 then some 8
  else none

/-- R60: a payload as n items that fill it exactly. -/
def splitItems (type segMax : Nat) : Nat → Bytes → Option (List Bytes)
  | 0, b => if b.isEmpty then some [] else none
  | n + 1, b =>
    match itemSize type segMax b with
    | none => none
    | some k => if b.length < k then none else (splitItems type segMax n (b.drop k)).map fun t => b.take k :: t

/-- R60, R63: a message of at most so many bytes; none where it is malformed. -/
def parseShed (limit segMax : Nat) (b : Bytes) : Option Shed :=
  let type := patField b 3 1
  let flags := patField b 4 2
  let keyId := patField b 6 2
  let tagged := flags % 2 == 1
  let pay := patField b 20 2
  let count := patField b 22 1
  let keyOk := if tagged then decide (keyId < 8) || keyId == 0xFFFE else keyId == 0xFFFF
  if decide (b.length < 32) || decide (limit < b.length) || patField b 0 2 != 0x5A44 || patField b 2 1 != 1 || decide (3 < flags) || !keyOk
      || decide (64 < count) || b.length != 32 + pay + (if tagged then 16 else 0) || !([0x01, 0x02, 0x03, 0x04, 0x05, 0x81, 0x82, 0x83, 0x84, 0x85, 0x86] : List Nat).contains type
      || ((type == 0x03 || type == 0x04) && count != 1) then none
  else
    match splitItems type segMax count ((b.drop 32).take pay) with
    | none => none
    | some items =>
      some { type := type, flags := flags, keyId := keyId, seq := patField b 8 8, tid := patField b 16 4, target := patField b 23 1,
             hop := patField b 24 1, sender := patField b 28 4, items := items, body := b.take (32 + pay),
             tag := if tagged then some (b.drop (32 + pay)) else none }

/-- The limits of a message by its path: on the network and the chain, and in the mailbox (R60, R61, R71). -/
def Path.parse (p : Path) (b : Bytes) : Option Shed :=
  match p with
  | .mailbox _ => (parseShed 4096 4032 b).filter fun m => m.tag.isNone && decide (m.type < 0x80)
  | _ => parseShed 1440 1024 b

/-- The number of a path: ports 0 to 7, chain ports 8 and 9, the mailbox 10. -/
def Path.no : Path → Nat
  | .port p _ _ => p.val | .chain d => 8 + d.val | .mailbox _ => 10

/-- R58: the Bolt queue of a path. -/
def Path.queue : Path → Nat
  | .port p _ _ => p.val | .chain _ => 8 | .mailbox _ => 9

/-! ## Authentication (R62, R63) -/

/-- What the check of a message gives. -/
inductive Auth where
  /-- authenticated, as a principal; read-only under a read-scope key -/
  | full (prin : Prin) (readOnly : Bool)
  | untagged (prin : Prin)
  | refused (status : Nat)
  deriving DecidableEq, Repr

/-- R62: the replay window of a message: its key slot's, or its chain port's. -/
def windowOf (path : Path) (m : Shed) : Nat :=
  match path with
  | .chain d => if m.keyId = 0xFFFE then 16 + d.val else m.keyId
  | _ => m.keyId

/-- R60, R65: a relayed message as its sender tagged it: without Relayed, and with the HopLimit of n hops before. -/
def unrelayed (b : Bytes) (n : Nat) : Bytes :=
  b.take 4 ++ beBytes 2 (patField b 4 2 % 2) ++ (b.take 24).drop 6 ++ beBytes 1 (patField b 24 1 + n) ++ b.drop 25

/-- R62: whether the tag of a message matches. On the chain, HopLimit and Relayed change on the way. -/
def tagHolds (s : State) (path : Path) (m : Shed) : Bool :=
  let slot := slotOfKeyId m.keyId
  let bodies := match path with
    | .chain _ => m.body :: (List.range 16).map (unrelayed m.body)
    | _ => [m.body]
  !(keyBytes s slot).isEmpty && bodies.any fun b => m.tag == some (tagOf s slot b)

/-- R62, R63: the check of a message. -/
def authOf (s : State) (path : Path) (m : Shed) : Auth :=
  let chain := match path with | .chain _ => true | _ => false
  match path with
  | .mailbox _ => .full .host false
  | _ =>
    if m.tag.isNone then .untagged (if chain && m.flags / 2 % 2 == 0 then .chain else .net)
    else
      let link := m.keyId == 0xFFFE
      let scope := if link then (if chain then 2 else 0) else s.nat (K.shedKeyScope m.keyId)
      let w := AMap.getD s.draft.replay (windowOf path m) {}
      if scope = 0 || !tagHolds s path m then .refused stAuthFailed
      else if m.seq + 64 ≤ w.last || w.seen.contains m.seq then .refused stReplayRejected
      else .full (if link then .chain else .net) (scope == 1)

/-- R62: an authenticated message's Sequence enters its window. -/
def State.acceptSeq (s : State) (path : Path) (m : Shed) : State :=
  match path, m.tag with
  | .mailbox _, _ => s
  | _, none => s
  | _, some _ =>
    let n := windowOf path m
    let w := AMap.getD s.draft.replay n {}
    { s with draft := { s.draft with replay := AMap.put s.draft.replay n { last := max w.last m.seq, seen := (m.seq :: w.seen).take 64 } } }

/-- R55, R63: the objects that a message without a tag may read. -/
def openRead (s : State) (idx sub : Nat) : Bool := s.flag K.shedUnauthReadEnable && (idx == 0x1000 || (idx == 0x1001 && sub == 1))

/-! ## Replies -/

/-- A mailbox slot. -/
def State.mail (s : State) (n : Nat) : MailSt := AMap.getD s.pcie.mail n {}
/-- A mailbox slot set. -/
def State.setMail (s : State) (n : Nat) (x : MailSt) : State := { s with pcie := { s.pcie with mail := AMap.put s.pcie.mail n x } }

/-- R59: the frame that takes a message to a network address in Shed's traffic class. -/
def shedFrame (s : State) (p : Nat) (addr : Bytes) (udp : Nat) (b : Bytes) : TxFrame :=
  udpFrame s p (s.nat K.shedShedTrafficClass) addr udp (s.nat K.shedShedUdpPort) b

/-- R59: a reply of the Fast Responder leaves: on a port it goes to the MAC directly (R438), in Shed's traffic class. -/
def State.replyFast (s : State) (path : Path) (b : Bytes) : State :=
  let s := s.count 47 1
  match path with
  | .port p addr udp => s.emit (.frame (shedFrame s p.val addr udp b))
  | .chain d => s.queueChain d.val 3 b
  | .mailbox n => s.setMail n { s.mail n with reply := some b }

/-- A reply of Bolt leaves in Shed's traffic class. -/
def State.replyBolt (s : State) (path : Path) (b : Bytes) : State :=
  let s := s.count 48 1
  match path with
  | .port p addr udp => s.sendFrame (shedFrame s p.val addr udp b)
  | .chain d => s.queueChain d.val 3 b
  | .mailbox n => s.setMail n { s.mail n with reply := some b }

/-- R63: a whole refusal: no items, no tag. An EventAck, to which R61 gives no reply type, is answered with type 0x06 (log entry 118). -/
def Shed.refusal (m : Shed) (status : Nat) : Bytes :=
  shedHeader (m.type + 0x80) 0xFFFF 0 m.tid 0 0 status m.sender 0xFF 0

/-- R63: a refusal for a tag or a Sequence: at most 1,000 in one second on each port; more are only counted. -/
def State.refuseAuth (s : State) (path : Path) (m : Shed) (status : Nat) : State :=
  let s := if status = stAuthFailed then s.count 49 1 else s
  let n := path.no
  let w := AMap.getD s.draft.refusals n {}
  let w := if w.count = 0 || passed s w.start 1000000000 then ({ start := s.clk.ticks } : RateWin) else w
  if w.count < 1000 then
    State.replyFast { s with draft := { s.draft with refusals := AMap.put s.draft.refusals n { w with count := w.count + 1 } } } path (m.refusal status)
  else { s with draft := { s.draft with unanswered := AMap.upd s.draft.unanswered n 0 (· + 1) } }

/-! ## Items (R61) -/

/-- The object that an item names. -/
def itemIdx (b : Bytes) : Nat := patField b 0 2
def itemSub (b : Bytes) : Nat := patField b 2 1

/-- R61: the reply item of a read, where `room` bytes are left for it; a value that finds no room is answered LengthMismatch. -/
def readReply (idx sub room : Nat) (r : ItemRead) : Bytes :=
  let r := if room < 8 + pad4 r.data.length then { r with status := stLengthMismatch, data := [] } else r
  beBytes 2 idx ++ [BitVec.ofNat 8 sub, BitVec.ofNat 8 r.ty] ++ beBytes 2 r.status ++ beBytes 2 r.data.length ++ padded r.data

/-- R61: the reply items of a ReadReq; a message without a tag reads the open objects only. -/
def State.readItems (s : State) (p : Prin) (tagged : Bool) : Nat → List Bytes → State × List Bytes
  | _, [] => (s, [])
  | room, b :: t =>
    let i := itemIdx b
    let u := itemSub b
    let (s1, r) := if tagged || openRead s i u then s.readItem p i u else (s, { status := stAuthRequired, ty := 0, data := [] })
    let x := readReply i u (room - 8 * t.length) r
    let (s2, out) := State.readItems s1 p tagged (room - x.length) t
    (s2, x :: out)

/-- R61: the reply item of a write. -/
def writeReply (idx sub status : Nat) : Bytes := beBytes 2 idx ++ [BitVec.ofNat 8 sub, 0] ++ beBytes 2 status ++ beBytes 2 0

/-- R47, R63: the items of a WriteReq. -/
def State.writeItems (s : State) (p : Prin) (readOnly : Bool) : List Bytes → State × List Bytes
  | [] => (s, [])
  | b :: t =>
    let i := itemIdx b
    let u := itemSub b
    let (s1, st) := if readOnly then (s, stKeyScope) else s.writeItem p i u (patField b 3 1) ((b.drop 8).take (patField b 4 2))
    let (s2, out) := State.writeItems s1 p readOnly t
    (s2, writeReply i u st :: out)

/-- R41, R61: the item of a SegmentWriteReq. -/
def State.segmentItems (s : State) (p : Prin) (readOnly : Bool) (b : Bytes) : State × List Bytes :=
  let i := itemIdx b
  let u := itemSub b
  let (s, st) :=
    if readOnly then (s, stKeyScope) else s.segmentItem p i u (patField b 3 1 % 2 == 1) (patField b 8 4) ((b.drop 12).take (patField b 4 2))
  (s, [writeReply i u st])

/-- R61: the item of a CommitResp. -/
def commitReply (tag : Nat) (x : CommitStat) : Bytes :=
  [BitVec.ofNat 8 x.state, BitVec.ofNat 8 x.failBudget] ++ beBytes 2 x.status ++ beBytes 4 tag ++ beBytes 2 x.failIdx
    ++ [BitVec.ofNat 8 x.failSub, 0]

/-- R50, R61: the item of a CommitReq. A commit that does not enter the queue is answered State 5 with the reason. -/
def State.commitItems (s : State) (p : Prin) (readOnly : Bool) (b : Bytes) : State × List Bytes :=
  let action := patField b 0 1
  let tag := patField b 4 4
  let no (st : Nat) : Bytes := commitReply tag { state := 5, status := st }
  if readOnly then (s, [no stKeyScope])
  else if action = 1 then
    let (s, st) := s.commitAsk p tag
    (s, [if st = stOk then commitReply tag (s.commitStat p) else no st])
  else if action = 2 then (s.discardAsk p, [commitReply tag {}])
  else (s, [no stOutOfRange])

/-- R61: the item of a DescribeResp, where `room` bytes are left; an object that does not exist has type 0. -/
def describeReply (s : State) (idx sub room : Nat) : Bytes :=
  match lookup idx sub with
  | .error _ => beBytes 2 idx ++ [BitVec.ofNat 8 sub] ++ List.replicate 13 0
  | .ok d =>
    let v := if (findDef idx sub).isNone then natVal (highestSub idx) else baseDefault s.fuses (objKey idx sub)
    let b := if d.dflt = .none then [] else encodeVal d.ty v
    let b := if room < 16 + pad4 b.length then [] else b
    beBytes 2 idx ++ [BitVec.ofNat 8 sub, BitVec.ofNat 8 d.ty.code] ++ beBytes 2 d.acc.word ++ beBytes 2 (flagsOf d idx sub)
      ++ beBytes 4 (maxLength d) ++ beBytes 2 b.length ++ [0, 0] ++ padded b

/-- R61: the items of a DescribeReq. -/
def describeItems (s : State) : Nat → List Bytes → List Bytes
  | _, [] => []
  | room, b :: t =>
    let x := describeReply s (itemIdx b) (itemSub b) (room - 16 * t.length)
    x :: describeItems s (room - x.length) t

/-- R64: an EventAck ends the resending of its message. -/
def State.ackEvent (s : State) (tid : Nat) : State :=
  { s with draft := { s.draft with unacked := s.draft.unacked.map fun e => (e.1, e.2.filter fun u => u.tid != tid) } }

/-- The bytes that a reply's items may take. -/
def roomOf (path : Path) (m : Shed) : Nat :=
  (match path with | .mailbox _ => 4096 | _ => 1440) - 32 - (if m.tag.isSome then 16 else 0)

/-- R61: the items of a message are carried out. -/
def State.runItems (s : State) (path : Path) (m : Shed) (p : Prin) (readOnly tagged : Bool) : State × List Bytes :=
  match m.type, m.items with
  | 0x01, items => s.readItems p tagged (roomOf path m) items
  | 0x02, items => s.writeItems p readOnly items
  | 0x03, [b] => s.segmentItems p readOnly b
  | 0x04, [b] => s.commitItems p readOnly b
  | 0x05, items => (s, describeItems s (roomOf path m) items)
  | _, _ => (s, [])

/-- R62: a whole reply of items: tagged under the KeyId of a tagged request. -/
def State.answer (s : State) (m : Shed) (items : List Bytes) : State × Bytes :=
  s.shedMessage (m.type + 0x80) (if m.tag.isSome then m.keyId else 0xFFFF) m.tid items stOk m.sender

/-! ## The Fast Responder (R56, R57, R413) -/

/-- R56: whether a message is a ReadReq whose items all name fast objects. -/
def allFast (m : Shed) : Bool := m.type == 0x01 && m.items.all fun b => decide (0x1000 ≤ itemIdx b) && decide (itemIdx b < 0x1100)

/-- R56: whether the Fast Responder answers a message. -/
def fastServes (s : State) (path : Path) (m : Shed) : Bool :=
  allFast m &&
    (match authOf s path m with
     | .full _ _ => true
     | .untagged _ => m.items.all fun b => openRead s (itemIdx b) (itemSub b)
     | .refused _ => false)

/-- R56: the Fast Responder answers a message. -/
def State.fastAnswer (s : State) (path : Path) (m : Shed) : State × Bytes :=
  let p := match authOf s path m with | .full p _ => p | .untagged p => p | .refused _ => .net
  let (s, items) := (s.acceptSeq path m).readItems p true (roomOf path m) m.items
  s.answer m items

/-- R57: a request in the queue of a port until the Fast Responder takes it; at a full queue it is dropped and counted. -/
def State.fastWait (s : State) (path : Path) (b : Bytes) : State :=
  let n := path.no
  let q := AMap.getD s.draft.fastQ n []
  if 64 ≤ q.length then { s with draft := { s.draft with fastDrops := AMap.upd s.draft.fastDrops n 0 (· + 1) } }
  else { s with draft := { s.draft with fastQ := AMap.put s.draft.fastQ n (q ++ [{ path := path, bytes := b, since := s.clk.ticks }]) } }

/-- R57: TIME_CLK periods from one request of the Fast Responder to the next: 2,000,000 in a second. -/
def fastPeriod : Nat := 120

/-- R57: whether the Fast Responder can take a request now. -/
def fastIdle (s : State) : Bool := s.boot.fastStarted && decide (s.draft.fastFree ≤ s.clk.ticks)

/-- R57: the Fast Responder has taken a request. -/
def State.fastTaken (s : State) : State := { s with draft := { s.draft with fastFree := s.clk.ticks + fastPeriod } }

/-- R57: the request that has waited longest, with its queue. -/
def fastOldest (s : State) : Option (Nat × QMsg) :=
  s.draft.fastQ.foldl (fun b e =>
    match e.2, b with
    | [], _ => b
    | q :: _, none => some (e.1, q)
    | q :: _, some x => if q.since < x.2.since then some (e.1, q) else b) none

/-! ## Bolt (R58, R415) -/

/-- R415: a message that arrives at a full boot queue is dropped and counted; the first one at each queue raises BootQueueOverflow. -/
def State.bootDrop (s : State) (n : Nat) : State :=
  let s := s.bump (K.bootBootQueueDropped n)
  if bit s.boot.overflowRaised n then s
  else State.raise { s with boot := { s.boot with overflowRaised := setBit s.boot.overflowRaised n true } } { src := 626, unit := n }

/-- A message at the end of a Bolt queue. -/
def State.enqueueBolt (s : State) (path : Path) (b : Bytes) : State :=
  { s with draft := { s.draft with boltQ := AMap.upd s.draft.boltQ path.queue [] fun q => q ++ [{ path := path, bytes := b, since := s.clk.ticks }] } }

/-- R284, R287, R415: Bolt handles a control frame that is no Shed message: an ARP or ND frame resolves the address it tells of, and RTCP is
handled by R287; what Bolt answers to the others the spec does not say. -/
def State.boltControl (s : State) (q : QMsg) : State :=
  match q.path with
  | .port p _ _ =>
    if q.kind = 1 then
      (let ps := s.port p.val
       if ps.resolved.contains q.bytes then s else s.setPort p.val { ps with resolved := ps.resolved ++ [q.bytes] })
    else if 16 ≤ q.kind then s.rtcpTake p.val (q.kind - 16) (rtcpItems q.bytes.length q.bytes)
    else s
  | _ => s

/-- R62, R63: Bolt handles a message: authentication first, then its items, then the reply. -/
def State.boltHandle (s : State) (path : Path) (m : Shed) : State :=
  let run (s : State) (p : Prin) (readOnly tagged : Bool) : State :=
    if m.type = 0x86 then s.ackEvent m.tid
    else
      let (s, items) := s.runItems path m p readOnly tagged
      let (s, b) := s.answer m items
      s.replyBolt path b
  match authOf s path m with
  | .refused st => s.refuseAuth path m st
  | .full p readOnly => run (s.acceptSeq path m) p readOnly true
  | .untagged p => if m.type = 0x01 || m.type = 0x86 then run s p true false else s.replyBolt path (m.refusal stAuthRequired)

/-- R464: in device safe state the mailbox serves writes of DeviceReset. -/
def resetOnly (path : Path) (m : Shed) : Bool :=
  (match path with | .mailbox _ => true | _ => false) && m.type == 0x02 && !m.items.isEmpty
    && m.items.all fun b => objKey (itemIdx b) (itemSub b) == K.bootDeviceReset

/-- R58, R413, R415, R464: a message has come to the Draft. -/
def State.shedTake (s : State) (path : Path) (m : Shed) (b : Bytes) : State :=
  if fastServes s path m then
    (match path with
     | .mailbox n => s.setMail n { s.mail n with fastReq := some b }
     | _ => if fastIdle s && (fastOldest s).isNone then (let (s, r) := s.fastTaken.fastAnswer path m; s.replyFast path r) else s.fastWait path b)
  else if s.log.safe then
    (if resetOnly path m then
       (let (s, items) := s.writeItems .host false m.items
        let (s, r) := s.answer m items
        s.replyFast path r)
     else s.replyFast path (m.refusal stNotReady))
  else
    let q := AMap.getD s.draft.boltQ path.queue []
    let isMail := match path with | .mailbox _ => true | _ => false
    if !s.boot.boltReady then (if 256 ≤ q.length && !isMail then s.bootDrop path.queue else s.enqueueBolt path b)
    else if boltDown s || !q.isEmpty then
      (if 256 ≤ q.length && !isMail then s.replyFast path (m.refusal stBusy) else s.enqueueBolt path b)
    else s.boltHandle path m

/-- R56, R57: the Fast Responder answers the request that has waited longest, once it can take one; a request that it may no
longer answer goes on to Bolt. -/
def State.fastServe (s : State) : State :=
  if s.boot.clocksLost || !fastIdle s then s
  else
    match fastOldest s with
    | none => s
    | some (n, q) =>
      let s := { s with draft := { s.draft with fastQ := AMap.put s.draft.fastQ n ((AMap.getD s.draft.fastQ n []).drop 1) } }
      match q.path.parse q.bytes with
      | some m =>
        if fastServes s q.path m then (let (s, r) := s.fastTaken.fastAnswer q.path m; s.replyFast q.path r) else s.shedTake q.path m q.bytes
      | none => s

/-- R65: a request that goes on over the chain is remembered, so that its reply returns along its path. -/
def State.noteRoute (s : State) (r : Route) : State := { s with draft := { s.draft with routes := r :: s.draft.routes } }

/-- R65: the request that a reply on a chain port answers. -/
def routeOf (s : State) (path : Path) (m : Shed) : Option Route :=
  match path with
  | .chain d => s.draft.routes.find? fun r => r.side == d.val && r.type + 0x80 == m.type && r.tid == m.tid && r.sender == m.sender
  | _ => none

/-- R65: a reply goes back to where its request came from; one that answers none is dropped. -/
def State.shedReturn (s : State) (path : Path) (m : Shed) (b : Bytes) : State :=
  match routeOf s path m with
  | none => s
  | some r =>
    let s := { s with draft := { s.draft with routes := s.draft.routes.erase r } }
    match r.origin with
    | .port p addr udp => s.sendFrame (shedFrame s p.val addr udp b)
    | .chain d => s.queueChain d.val 3 b
    | .mailbox n => s.setMail n { s.mail n with reply := some b }

/-- R65, R248, R249: the chain port, 0 upstream and 1 downstream, on which a message for a position goes on: in a daisy chain towards the
position, unless the device lies beyond the last one; in a ring the way with fewer hops, downstream where they are equal, and the other way where
that link is down; with no chain none (log entry 141). -/
def forwardSide (s : State) (target : Nat) : Option Nat :=
  let ch := s.net.chain
  match s.nat K.chainChainMode with
  | 1 => if ch.fault then none else some (if target < ch.position then 0 else 1)
  | 2 =>
    let side := if (target + ch.length - ch.position) % ch.length ≤ (ch.position + ch.length - target) % ch.length then 1 else 0
    let up := if side = 0 then ch.upPort.up else ch.downPort.up
    some (if up then side else 1 - side)
  | _ => none

/-- R65: a message for another device is forwarded towards it. -/
def State.shedForward (s : State) (path : Path) (m : Shed) (b : Bytes) : State :=
  match path with
  | .mailbox _ => s.replyBolt path (m.refusal stAccessDenied)
  | _ =>
    if m.hop = 0 then { s with draft := { s.draft with hopDrops := s.draft.hopDrops + 1 } }
    else
      let net := match path with | .port _ _ _ => true | _ => false
      let flags := if net then m.flags % 2 + 2 else m.flags
      match forwardSide s m.target with
      | none => s
      | some side =>
      let s := s.noteRoute { side := side, type := m.type, tid := m.tid, sender := m.sender, origin := path }
      s.queueChain side 3 (b.take 4 ++ beBytes 2 flags ++ (b.take 24).drop 6 ++ beBytes 1 (m.hop - 1) ++ b.drop 25)

/-- R63: a malformed message is dropped and counted. -/
def State.shedMalformed (s : State) (path : Path) : State :=
  { s with draft := { s.draft with malformed := AMap.upd s.draft.malformed path.no 0 (· + 1) } }

/-- Whether a message is the reply to a request. -/
def Shed.isReply (m : Shed) : Bool := decide (0x81 ≤ m.type) && decide (m.type ≤ 0x85)

/-- A well-formed message is forwarded, or taken; a reply returns. -/
def State.shedRoute (s : State) (path : Path) (m : Shed) (b : Bytes) : State :=
  if m.isReply then s.shedReturn path m b
  else if m.target != 0xFF && m.target != s.net.chain.position then s.shedForward path m b else s.shedTake path m b

/-! ## The mailbox (R71, R72) -/

/-- R71, R72: a write to SUBMIT: Busy is set and the request reaches the Draft; while Busy or Done it only sets Overrun; a malformed request
is dropped and counted. -/
def State.mailSubmit (s : State) (n : MailSlot) (length : Nat) : State :=
  let x := s.mail n
  let frozen := s.isFrozen 10
  let s := if frozen then s else s.wakeSource (608 + n)
  if frozen then { s with pcie := { s.pcie with droppedWrites := s.pcie.droppedWrites + 1 } }
  else if x.busy || x.done then s.setMail n { x with overrun := true }
  else
    let b := Memory.readBytes x.request 0 length
    match Path.parse (.mailbox n) b with
    | none => s.shedMalformed (.mailbox n)
    | some m =>
      if m.type = 0x86 then s.shedMalformed (.mailbox n)
      else
        let s := (s.setMail n { x with busy := true, submitCount := (x.submitCount + 1) % 256, reply := none, fastReq := none }).count 44 1
        s.shedRoute (.mailbox n) m b

/-- A request written into a slot's buffer and submitted. -/
def State.mailMessage (s : State) (n : MailSlot) (b : Bytes) : State :=
  if s.isFrozen 10 then { s with pcie := { s.pcie with droppedWrites := s.pcie.droppedWrites + 1 } }
  else State.mailSubmit (s.setMail n { s.mail n with request := Memory.writeBytes (s.mail n).request 0 b }) n b.length

/-- R59: a message arrives by a path. -/
def State.shedArrive (s : State) (path : Path) (b : Bytes) : State :=
  match path with
  | .mailbox n => s.mailMessage n b
  | .port p _ _ =>
    if !(s.port p.val).linkUp then s
    else if !bit (s.nat K.shedShedPortEnable) p.val then s.bump (K.portUnmatchedFrames p.val)
    else (match path.parse b with | none => s.shedMalformed path | some m => s.shedRoute path m b)
  | .chain d =>
    if !(if d.val = 0 then s.net.chain.upPort.up else s.net.chain.downPort.up) then s
    else (match path.parse b with | none => s.shedMalformed path | some m => s.shedRoute path m b)

/-- A message of one type arrives, or a reply to one; a well-formed message of another type belongs to that type's row. -/
def State.shedTyped (s : State) (type : Nat) (path : Path) (b : Bytes) : State :=
  match path.parse b with
  | some m => if m.type = type || (m.isReply && m.type = type + 0x80) then s.shedArrive path b else s
  | none => s.shedArrive path b

/-! ## The commands -/

/-- READ_REQ (R56, R61): a ReadReq message is taken. -/
def execReadReq (path : Path) (msg : Bytes) (s : State) : Result := whenClocked s <| .next (s.shedTyped 0x01 path msg)

/-- WRITE_REQ (R47, R61): a WriteReq message is taken. -/
def execWriteReq (path : Path) (msg : Bytes) (s : State) : Result := whenClocked s <| .next (s.shedTyped 0x02 path msg)

/-- SEGMENT_WRITE_REQ (R41, R61): a SegmentWriteReq message is taken. -/
def execSegmentWriteReq (path : Path) (msg : Bytes) (s : State) : Result := whenClocked s <| .next (s.shedTyped 0x03 path msg)

/-- DESCRIBE_REQ (R61): a DescribeReq message is taken. -/
def execDescribeReq (path : Path) (msg : Bytes) (s : State) : Result := whenClocked s <| .next (s.shedTyped 0x05 path msg)

/-- COMMIT (R50, R51): a CommitReq message is taken, or a principal writes CommitTag. -/
def execCommitReq (src : CommitSrc) (s : State) : Result := whenClocked s <|
  match src with
  | .message path msg => .next (s.shedTyped 0x04 path msg)
  | .object p tag => if boltDown s then .next s else .next (s.direct p K.commitCommitTag (.int tag))

/-- EVENT_ACK (R64): an EventAck message is taken. -/
def execEventAck (path : Path) (msg : Bytes) (s : State) : Result := whenClocked s <| .next (s.shedTyped 0x86 path msg)

/-- The bytes of the front message of a Bolt queue are handled; what has been answered NotReady is not applied (R58). -/
def State.boltFront (s : State) (n : Nat) : State :=
  match AMap.getD s.draft.boltQ n [] with
  | [] => s
  | q :: t =>
    let s := { s with draft := { s.draft with boltQ := AMap.put s.draft.boltQ n t } }
    if q.timedOut then s
    else if q.kind != 0 then s.boltControl q
    else match q.path.parse q.bytes with
      | some m => s.boltHandle q.path m
      | none => s

/-- BOLT_REQUEST_HANDLED (R58, R415): Bolt takes the oldest message of a queue: 0 to 7 the ports, 8 the chain, 9 the mailbox. -/
def execBoltRequestHandled (queue : Nat) (s : State) : Result := whenClocked s <| if boltDown s then .next s else .next (s.boltFront queue)

/-- BOLT_REPLY_TIMEOUT (R58): 2 ms after its acceptance, or after BoltReady, the Fast Responder answers a message NotReady. -/
def execBoltReplyTimeout (queue : Nat) (s : State) : Result := whenClocked s <|
  let q := AMap.getD s.draft.boltQ queue []
  match q.find? fun x => !x.timedOut with
  | none => .next s
  | some x =>
    if !s.boot.boltReady || !passed s x.since 2000000 then .next s
    else
      let done := (q.takeWhile (·.timedOut)) ++ [{ x with timedOut := true }] ++ (q.dropWhile (·.timedOut)).drop 1
      let s := { s with draft := { s.draft with boltQ := AMap.put s.draft.boltQ queue done } }
      match if x.kind = 0 then x.path.parse x.bytes else none with
      | some m => .next (if m.type = 0x86 then s else s.replyFast x.path (m.refusal stNotReady))
      | none => .next s

/-- EVENT_NOTIFY_RESEND (R64): 10 ms have passed without an EventAck: the message is sent again, or after three resends counted as lost. -/
def execEventNotifyResend (sub tid : Nat) (s : State) : Result := whenClocked s <|
  let l := AMap.getD s.draft.unacked sub []
  match l.find? fun u => u.tid == tid with
  | none => .next s
  | some u =>
    if !passed s u.lastSent 10000000 then .next s
    else if 3 ≤ u.resends then
      let rest := l.filter fun x => x.tid != tid
      .next { s with draft := { s.draft with unacked := AMap.put s.draft.unacked sub rest, notifyLost := AMap.upd s.draft.notifyLost sub 0 (· + 1) } }
    else
      let sent := l.map fun x => if x.tid = tid then { x with resends := x.resends + 1, lastSent := s.clk.ticks } else x
      let s := { s with draft := { s.draft with unacked := AMap.put s.draft.unacked sub sent } }
      let p := s.nat (K.shedPort sub)
      .next (s.sendFrame (shedFrame s p (s.obj (K.shedDestAddress sub)).toBytes (s.nat (K.shedUdpPort sub)) u.bytes))

/-- MAILBOX_SUBMIT (R71, R72): a write to DRFT_MBn_SUBMIT. -/
def execMailboxSubmit (slot : MailSlot) (length : Nat) (s : State) : Result := whenClocked s <|
  .next (s.mailSubmit slot (if length = 0 then 4096 else length))

/-- MAILBOX_DONE (R72): the response is in the response buffer: Done is set and Busy cleared. The Fast Responder reads fast objects at that
instant (R55). -/
def execMailboxDone (slot : MailSlot) (s : State) : Result := whenClocked s <|
  let x := s.mail slot
  if !x.busy then .next s
  else
    let finish (s : State) (r : Bytes) : State :=
      (s.setMail slot { s.mail slot with response := r, responseFree := none, busy := false, done := true, responseLength := r.length % 4096,
                                         reply := none, fastReq := none }).vector (s.nat K.irqMailboxVector)
    match x.reply, x.fastReq with
    | some r, _ => .next (finish s r)
    | none, some b =>
      (match Path.parse (.mailbox slot) b with
       | some m => let (s, r) := s.fastTaken.fastAnswer (.mailbox slot) m; .next (finish (s.count 47 1) r)
       | none => .next s)
    | none, none => .next s

/-- MAILBOX_CLEAR_DONE (R71): Done is cleared, which frees the slot and leaves the response buffer undefined. -/
def execMailboxClearDone (slot : MailSlot) (s : State) : Result := whenClocked s <|
  if s.isFrozen 10 then .next { s with pcie := { s.pcie with droppedWrites := s.pcie.droppedWrites + 1 } }
  else
    let x := s.mail slot
    if !x.done then .next s
    else .next (s.setMail slot { x with done := false, response := [], responseFree := some s.freeCtr }).nextFree

/-- MAILBOX_CLEAR_OVERRUN (R71): Overrun is cleared. -/
def execMailboxClearOverrun (slot : MailSlot) (s : State) : Result := whenClocked s <|
  if s.isFrozen 10 then .next { s with pcie := { s.pcie with droppedWrites := s.pcie.droppedWrites + 1 } }
  else .next (s.setMail slot { s.mail slot with overrun := false })

end Sys2Proof.Machine
end

