-- ==== Sys2Proof/Machine/Counters.lean ====
section
/-!
DEFINITION. Sys2Proof/Machine/Counters.lean: reads of counters, snapshots, and the sampling buffer (R475 to R488).
-/

namespace Sys2Proof.Machine

/-- R480: a load of a Bolt thread in user mode from a counter of a group that is not open to user mode. -/
def userDenied (s : State) (index : Nat) : Reader → Bool
  | .master _ => false
  | .userThread _ => !bit (s.nat K.pmcUserReadGroups) (counterGroup index)

/-- COUNTER_LO_READ (R478, R480): a read of PMC_CNTn_LO latches the whole counter for the reading master; a user-mode load from a group that is
not open faults on its core, and is counted. -/
def execCounterLoRead (reader : Reader) (index : Nat) (s : State) : Result := whenClocked s <|
  let master := reader.masterNo
  if 40 ≤ master || 768 ≤ index then .next s
  else if userDenied s index reader then .next ((s.count 741 1).raiseLimited 633 { src := 633 })
  else .next { s with pmc := { s.pmc with latch := AMap.put s.pmc.latch master (counterVal s index) } }

/-- SNAPSHOT_COPY (R479): all 768 counters are copied in one cycle for every request that waits. -/
def execSnapshotCopy (s : State) : Result := whenClocked s <|
  if !s.pmc.snapAsked || s.isFrozen 38 then .next s
  else
    let bank := ((List.range 768).map fun n => (n, counterVal s n)).filter fun e => e.2 != 0
    let s := { s with pmc := { s.pmc with snapAsked := false, bank := bank } }
    .next ((((s.bump K.pmcSnapshotSeq).set K.pmcSnapshotTime (time80 (nowNs s))).count 740 1).raise { src := 632 })

/-- R481, R483: the record of an instruction of the running thread. What no command shows of it (its mode where both are sampled, whether it
loads or stores, its cycles) is free. -/
def sampleOf (s : State) (core thread pc address : Nat) : Sample :=
  let f := (Config.freeWord s.freeCtr).toNat
  let g := (Config.freeWord (s.freeCtr + 1)).toNat
  let user := if s.flag K.pmcSampleKernel then f % 2 else 1
  let access := if address = 0 then 0 else 1 + f / 2 % 2
  { kind := 1, unit := core, flags := user + 2 * access + 8 * (f / 4 % 4), time := nowNs s,
    body := leBytes 4 pc ++ leBytes 4 address ++ leBytes 2 thread ++ leBytes 4 g ++ [0, 0]
      ++ leBytes 4 (counterVal s (656 + 8 * core)) }

/-- INSTRUCTION_SAMPLE (R481, R484): a sampled core's count reaches its period; the next period starts with its jitter. -/
def execInstructionSample (core : CoreId) (pc address : Nat) (s : State) : Result := whenClocked s <|
  let n : Nat := core
  match (AMap.getD s.shtl.cores n {}).running with
  | none => .next s
  | some t =>
    if !bit (s.nat K.pmcInstrSampleCores) n || s.isFrozen (2 + n) then .next s
    else
      let r := sampleOf s n t (pc % 2 ^ 32) (address % 2 ^ 32)
      let next := s.nat K.pmcInstrPeriod + Config.sampleJitter (s.freeCtr + 2) % 2 ^ s.nat K.pmcInstrJitterBits
      let s := { s with freeCtr := s.freeCtr + 3, pmc := { s.pmc with retired := AMap.put s.pmc.retired n 0, period := AMap.put s.pmc.period n next } }
      .next (s.sampleIn n r)

/-- R484: a record goes into the next slot of the buffer; SampleBufferHalf is raised when the level rises to 2,048 (R487). -/
def State.samplePut (s : State) (r : Sample) : State :=
  let p := s.pmc
  let s := State.count { s with pmc := { p with buffer := AMap.put p.buffer p.writePtr r, writePtr := (p.writePtr + 1) % 4096, level := p.level + 1 } } 738 1
  if s.pmc.level = 2048 then s.raise { src := 630 } else s

/-- SAMPLE_RECORD_TAKEN (R484): the engine takes the oldest record of a hold; a Lost record with the pending count goes before it. -/
def execSampleRecordTaken (s : State) : Result := whenClocked s <|
  let p := s.pmc
  if p.lostPending != 0 && decide (p.level < 4095) && !s.isFrozen 38 then
    let r : Sample := { kind := 3, unit := 255, flags := 0, time := nowNs s, body := leBytes 4 p.lostPending ++ List.replicate 16 0 }
    .next (State.samplePut { s with pmc := { p with lostPending := 0 } } r)
  else
    match p.holds with
    | [] => .next s
    | (_, r) :: t =>
      let s1 := { s with pmc := { p with holds := t } }
      .next (if s.isFrozen 38 || decide (4095 ≤ p.level) then s1.sampleDrop else s1.samplePut r)

/-- R485, R488: ReadPtr is set, which frees the slots before it. -/
def State.freeSamples (s : State) (ptr : Nat) : State :=
  { s with pmc := { s.pmc with readPtr := ptr, level := (s.pmc.writePtr + 4096 - ptr) % 4096 } }

/-- SAMPLE_RDPTR_WRITE (R485): a write to PMC_SMP_RDPTR; it is ignored while ring 35 is enabled. -/
def execSampleRdptrWrite (val : Word) (s : State) : Result := whenClocked s <|
  if (AMap.getD s.pcie.rings 35 {}).enable then .next s else .next (s.freeSamples (val.toNat % 4096))

end Sys2Proof.Machine
end

