-- ==== Sys2Proof/Machine/Startup.lean ====
section
/-!
DEFINITION. Sys2Proof/Machine/Startup.lean: resets (R410, R411), the points of start-up (R412 to R418), the boot commit (R424, R425), and
what ends in a warm reset of the Selvedge (R445, R467).
-/

namespace Sys2Proof.Machine

/-! ## Resets (R410) -/

/-- R410, R62: the state after a reset with its cause: the commands that wait, the fuses, the flash and the record of what has left the
device are kept, and BootCount is raised. R468: a warm reset keeps the log's entries, and its first entry is a Reset entry. R501: the rail
monitors go on. -/
def State.afterReset (s : State) (cause : Nat) (warm : Bool) : State :=
  let reset : LogReq := { source := 0, code := cause, master := 255, unit := 255, detail := 0, severity := 0, time := 0, stepEpoch := 0 }
  let log : LogSt := { pending := 1, intake := [reset] }
  let fresh := State.fresh s.pending s.fuses { s.flash with bootCount := (s.flash.bootCount + 1) % 2 ^ 32 }
  State.setN { fresh with
    net := { fresh.net with sent := s.net.sent }
    freeCtr := s.freeCtr
    power := { fresh.power with low := s.power.low, high := s.power.high }
    log := if warm then { log with entries := s.log.entries, newest := s.log.newest, lastIncident := s.log.lastIncident, lastFatal := s.log.lastFatal }
           else log } K.bootResetCause cause

/-- R410: a warm reset. -/
def State.warm (s : State) (cause : Nat) : State := s.afterReset cause true

/-- POWER_ON_RESET (R410, R411): PORST_N rises after being low; a pulse shorter than 1 µs is ignored. -/
def execPowerOnReset (lowNs : Nat) (s : State) : Result := if lowNs < 1000 then .next s else .next (s.afterReset 0 false)

/-- WARM_RESET (R410, R411, R465): a warm reset from WRST_N, 10 ms after a DeviceReset write, or from the Selvedge, whose own resets out of
device safe state SAFE_STATE_RESET_EXPIRY makes. -/
def execWarmReset (cause : WarmCause) (s : State) : Result :=
  match cause with
  | .pin lowNs => if lowNs < 1000 then .next s else .next (s.warm 1)
  | .deviceReset =>
    (match s.boot.resetAsked with
     | some t => if resetTaken s && passed s t 10000000 then .next (s.warm 2) else .next s
     | none => .next s)
  | .selvedge => if s.log.safe then .next s else .next (s.warm 3)

/-- AON_UNDERVOLTAGE (R501): VDD_AON below 0.70 V for 1 µs causes a power-on reset with ResetCause 0. -/
def execAonUndervoltage (s : State) : Result := .next (s.afterReset 0 false)

/-- POWER_DOWN (R503, R504): PORST_N falls: the device is in reset, DDR_RESET_N is low, and the DRAM and the Mending Log are lost. -/
def execPowerDown (s : State) : Result :=
  let fresh := State.fresh s.pending s.fuses s.flash
  .next { fresh with net := { fresh.net with sent := s.net.sent }, freeCtr := s.freeCtr, power := { fresh.power with inReset := true, ddrReset := true } }

/-! ## The first points (R412) -/

/-- SPINDLE_LOCK (R23, R412): the Spindle locks and the divided clocks run; presented time runs freely from 0. -/
def execSpindleLock (s : State) : Result :=
  if s.boot.spindle || s.log.safe || s.power.inReset then .next s
  else .next { s with boot := { s.boot with spindle := true }, clk := { s.clk with primary := 0, redundant := 0, presented := 0 } }

/-- R500: the VDD_CORE target at a temperature in 0.1 °C, mV. -/
def coreTarget (f : Fuses) (t : Int) : Nat := min 850 (f.coreMv + 15 + (if t < 100 then 20 else 0))

/-- R440: keys whose stored record fails its GCM tag are erased, and KeyStoreFault is raised for each. -/
def State.eraseBadKeys (s : State) (bad : Nat) : State :=
  let fails := s.flash.keys.filter fun e => !e.2.holds || bit bad e.1
  let s := { s with flash := { s.flash with keys := s.flash.keys.filter fun e => e.2.holds && !bit bad e.1 } }
  fails.foldl (fun s e => s.raise { src := 586, unit := e.1 }) s

/-- FUSES_READ (R412, R420, R440, R500): the fuses and the flash's parameters are read; `flashOk` says whether the flash answers SFDP and is
large enough, and bit k of `badKeys` that the record of key slot k fails its tag. -/
def execFusesRead (flashOk : Bool) (badKeys : Nat) (s : State) : Result := whenClocked s <|
  if !s.boot.spindle || s.boot.fusesRead then .next s
  else
    let s := { s with boot := { s.boot with fusesRead := true }, flash := { s.flash with present := flashOk },
                      power := { s.power with targetMv := coreTarget s.fuses (s.int K.govJunctionMax) } }
    .next (if flashOk then s.eraseBadKeys badKeys else s)

/-- R425: the device starts on factory defaults, for a cause. -/
def State.factoryDefaults (s : State) (cause : Nat) : State :=
  (State.setN { s with boot := { s.boot with hasPattern := false, defaulted := true } } K.bootDefaultCause cause).raise { src := 624 }

/-- R421: the configuration slot chosen: the candidate with the higher Generation. -/
def chosenSlot (f : Flash) : Option Nat :=
  let a := f.present && patCandidate f.cfgA
  let b := f.present && patCandidate f.cfgB
  if a && b then some (if patField f.cfgA 8 4 < patField f.cfgB 8 4 then 1 else 0)
  else if a then some 0 else if b then some 1 else none

/-- PATTERN_CHOSEN (R421, R425): the slot is chosen and its check word verified. -/
def execPatternChosen (s : State) : Result := whenClocked s <|
  if !s.boot.fusesRead || s.boot.patternChosen then .next s
  else
    let s := { s with boot := { s.boot with patternChosen := true } }
    match chosenSlot s.flash with
    | none => .next (s.factoryDefaults 1)
    | some slot =>
      let b := s.flash.cfg slot
      let schema := patField b 4 2
      let s := ((s.setN K.bootPatternSlot slot).setN K.bootPatternGeneration (patField b 8 4)).setN K.bootPatternSchema schema
      if !patCheck b then .next (s.factoryDefaults 2)
      else if schema = 0 || 5 < schema then .next (s.factoryDefaults 3)
      else .next { s with boot := { s.boot with hasPattern := true } }

/-- R423: whether an object belongs to the early set. -/
def isEarly (k : Nat) : Bool :=
  let i := keyIdx k
  i == 0x1100 || (decide (0x5000 ≤ i) && decide (i < 0x5800)) || (decide (0x6000 ≤ i) && decide (i < 0x6400))
    || (decide (0x6800 ≤ i) && decide (i < 0x6C00)) || i == 0x6C00 || i == 0x6C01

/-- R424: the early set of a Pattern; none where it fails the Selvedge's checks. -/
def earlySet (s : State) (b : Bytes) : Option (AMap Val) :=
  match checkRecords ((patAll b).filter fun r => isEarly r.1) with
  | .error _ => none
  | .ok m =>
    let vals := m.foldl (fun x e => AMap.put x e.1 e.2) s.conf
    if (earlyInconsistent { fuses := s.fuses, vals := vals }).isEmpty then some m else none

/-- Values that come into force and are committed at once. -/
def State.setAll (s : State) (m : AMap Val) : State := m.foldl (fun s e => s.setBoth e.1 e.2) s

/-- EARLY_SET_APPLIED (R412, R424): the early set of a schema-5 Pattern takes effect, or is refused. -/
def execEarlySetApplied (s : State) : Result := whenClocked s <|
  if !s.boot.patternChosen || s.boot.earlySet then .next s
  else
    let s := { s with boot := { s.boot with earlySet := true } }
    if !s.boot.hasPattern || s.nat K.bootPatternSchema != 5 then .next s
    else
      match earlySet s (s.flash.cfg (s.nat K.bootPatternSlot)) with
      | none => .next (s.factoryDefaults 4)
      | some m => .next (State.lanesCommitted s (State.timeCommitted s (s.setAll m))).listsAtOnce

/-! ## Firmware (R412, R444) -/

/-- R444: the slot that a boot chooses, with its TrialState and whether it has reverted; none where neither slot is valid. -/
def bootChoice (s : State) : Option (Nat × Nat × Bool) :=
  let g := governing s.flash
  let ended := g.trialState == 2
  let a := if ended then 1 - g.activeSlot else g.activeSlot
  let t := if g.trialState = 1 then 2 else 0
  if !s.flash.present then none
  else if slotValid s.fuses s.flash a then some (a, t, ended)
  else if slotValid s.fuses s.flash (1 - a) then some (1 - a, 0, true)
  else none

/-- ACTIVE_FIRMWARE_VERIFIED (R412, R434, R435, R444): the Selvedge chooses and verifies the active slot, locks its region and programs the
fixed windows; where neither slot is valid the device stays in DeviceState 0. -/
def execActiveFirmwareVerified (s : State) : Result := whenClocked s <|
  if !s.boot.earlySet || s.boot.fwVerified || s.boot.stayBooting then .next s
  else
    match bootChoice s with
    | none => .next { s with boot := { s.boot with stayBooting := true } }
    | some (slot, trial, reverted) =>
      let s := { s with flash := writeSelector s.flash slot trial, boot := { s.boot with fwVerified := true },
                        fab := { s.fab with selvLocked := true, windowsOpen := true } }
      let s := s.showSlot slot (if trial = 2 then 5 else 4)
      .next (if reverted then s.raise { src := 585 } else s)

/-! ## The Fast Responder (R413) -/

/-- FAST_RESPONDER_START (R412, R413): at t + 50 ms the Fast Responder begins to answer, the request that has waited longest first; the
others that wait follow at its rate (R57). -/
def execFastResponderStart (s : State) : Result := whenClocked s <|
  if !s.boot.fusesRead || s.boot.fastStarted || !passed s 0 50000000 then .next s
  else .next (State.fastServe { s with boot := { s.boot with fastStarted := true } })

/-! ## DRAM (R379, R382, R412) -/

/-- DRAM_TRAINED (R412, R382): training ends: the ranks and the density found, and the mask of set points that train on every channel. The
Beam runs at the highest one that MaxSetPoint allows, or the device enters beam-failed state; the joint qualification starts (R237). -/
def execDramTrained (ok : Bool) (ranks densityGb points : Nat) (s : State) : Result := whenClocked s <|
  if !s.boot.fwVerified || s.boot.dramTrained || ranks = 0 || 2 < ranks || !([8, 12, 16] : List Nat).contains densityGb then .next s
  else
    let t := s.clk.ticks
    let s := { s with boot := { s.boot with dramTrained := true }, power := { s.power with ddrReset := false } }
    let s := { s with beam := { s.beam with ranks := ranks, densityGb := densityGb, trainedMask := if ok then points % 8 else 0,
                                            mr4At := t, idleSince := t, window := nowNs s / 1000000 } }
    let s := s.eachBch fun x => { x with refiAt := t * 25, marginAt := t }
    let s := match trainedFrom s (s.nat K.beamMaxSetPoint) with
      | p :: _ => State.showBeam { s with beam := { s.beam with trained := true, setPoint := p } }
      | [] => s.beamFail 255 2
    .next s.startJoint.follow

/-! ## Bolt (R415, R418, R424) -/

/-- R415: the 2 ms of the messages that wait run from BoltReady. -/
def State.restartWaits (s : State) : State :=
  let t := s.clk.ticks
  { s with draft := { s.draft with boltQ := s.draft.boltQ.map fun e => (e.1, e.2.map fun q => { q with since := t }) } }

/-- R48: Bolt reserves the three large-value areas: the highest usable 24 MiB of the last rank, below its training row (log entry 117). -/
def State.reserveAreas (s : State) : State :=
  if s.beam.ranks = 0 then s
  else { s with draft := { s.draft with largeAreas := some (s.beam.ranks * rankBytes s - 524288 - largeAreaBytes) } }

/-- BOLT_READY (R412, R415, R418): Bolt is ready: the boot commit enters the queue before any queued message is handled, and weft alignment
starts. -/
def execBoltReady (s : State) : Result := whenClocked s <|
  if !s.boot.qualified || s.boot.boltReady || s.log.safe then .next s
  else
    let s := State.restartWaits { s with boot := { s.boot with boltReady := true, configured := !s.boot.hasPattern } }
    let s := s.reserveAreas
    let s := (s.setN K.bootBoltReadyUs (uptimeNs s / 1000 % 2 ^ 32)).setN K.fastBoltVersion (hdr (slotHeader s.flash (activeSlot s)) 12 4)
    let s := if s.boot.hasPattern then s.enqueue .selvedge 0xFFFFFFFF .boot [] else s
    .next s.alignWeft.follow

/-- R428, R432: what follows the acceptance of a migrated Pattern: the counts, a save as schema 5, and the event that the migration is complete. -/
def State.migrated (s : State) (schema dropped : Nat) : State :=
  if schema = 5 then s else (((s.setN K.bootMigratedFrom schema).add K.bootMigrationDropped dropped).saveAsk).raise { src := 624 }

/-- R424, R425: the boot commit has had its outcome. -/
def State.bootOutcome (s : State) (cause : Nat) : State :=
  let s := State.setN { s with boot := { s.boot with configured := true, defaulted := cause != 0 } } K.bootConfiguredUs (uptimeNs s / 1000 % 2 ^ 32)
  ((if cause = 0 then s else s.setN K.bootDefaultCause cause).raise { src := 624 }).follow

/-- BOOT_COMMIT (R424, R425, R428): the Pattern is validated as a whole and takes effect at once, or is refused. -/
def execBootCommit (windows : List (Nat × Window)) (s : State) : Result := whenClocked s <|
  match s.draft.queue with
  | [] => .next s
  | c :: _ =>
    if boltDown s || c.kind != .boot then .next s
    else
      let b := s.flash.cfg (s.nat K.bootPatternSlot)
      match patternItems b with
      | .error r => .next ((s.conclude c (.error r) windows).bootOutcome 5)
      | .ok (items, dropped) =>
        match bootVerdict s items with
        | .error r => .next ((s.conclude c (.error r) windows).bootOutcome 5)
        | .ok d => .next (((s.conclude c (.ok d) windows).migrated (patField b 4 2) dropped).bootOutcome 0)

/-! ## The inactive slot (R412, R417) -/

/-- R417: offers held until ImageVerified are handled. -/
def State.heldOffer (s : State) (side : Nat) : State :=
  match (AMap.find? s.boot.heldOffers side).bind (imageIn 1) with
  | some m => State.answerOffer { s with boot := { s.boot with heldOffers := AMap.del s.boot.heldOffers side } } side m
  | none => s

/-- IMAGE_VERIFIED (R412, R417, R443): the inactive slot has been verified, or found empty. -/
def execImageVerified (s : State) : Result := whenClocked s <|
  if !s.boot.configured || s.boot.imageVerified then .next s
  else
    let slot := inactiveSlot s
    let s := if (slotBlocks s.flash slot).isEmpty then s.showSlot slot 0
      else if slotValid s.fuses s.flash slot then (s.showSlot slot 3).raise { src := 580 }
      else (((s.showSlot slot 1).raise { src := 580 }).bump K.selvSignatureFailures).raise { src := 582 }
    .next ((State.heldOffer { s with boot := { s.boot with imageVerified := true } } 0).heldOffer 1)

/-! ## Warm resets of the Selvedge (R445, R467, R382) -/

/-- ACTIVATION_INSTANT (R445): at ActivateAt the selector names the new slot for a trial, and the Selvedge makes a warm reset. -/
def execActivationInstant (s : State) : Result := whenClocked s <|
  match s.boot.activation with
  | none => .next s
  | some t => if s.log.safe || decide (nowNs s < t) then .next s else .next (State.warm { s with flash := writeSelector s.flash (inactiveSlot s) 1 } 3)

/-- TRIAL_BOLT_READY_TIMEOUT (R445): a trial that has not reached BoltReady 1,000 ms after its reset ends by a warm reset. -/
def execTrialBoltReadyTimeout (s : State) : Result := whenClocked s <|
  if (governing s.flash).trialState != 0 && !s.boot.boltReady && !s.boot.stayBooting && !s.log.safe && passed s 0 1000000000 then .next (s.warm 3) else .next s

/-- SAFE_STATE_RESET_EXPIRY (R467, R465, R382): SafeStateResetS after the entry into device safe state for cause 1, or for cause 5 once T_max
is below 95 °C, or into beam-failed state, the Selvedge makes a warm reset. -/
def execSafeStateResetExpiry (s : State) : Result :=
  let n := s.nat K.logSafeStateResetS
  let cause := s.log.safeCause
  let safe := s.log.safe && (cause == 1 || (cause == 5 && decide (s.int K.govJunctionMax < 950))) && passed s s.log.safeSince (n * 1000000000)
  let beam := !s.log.safe && s.beam.failed && passed s s.beam.failedSince (n * 1000000000)
  if n != 0 && (safe || beam) then .next (s.warm 3) else .next s

end Sys2Proof.Machine
end

