-- ==== Sys2Proof/Machine/Pcie.lean ====
section
/-!
DEFINITION. Sys2Proof/Machine/Pcie.lean: the PCIe interface: resets and link, BAR2 (R68, R69), DMA rings (R73 to R76) and MSI-X (R78).
-/

namespace Sys2Proof.Machine

/-- A DMA ring. -/
def State.ring (s : State) (r : Nat) : RingSt := AMap.getD s.pcie.rings r {}
/-- A DMA ring set. -/
def State.setRing (s : State) (r : Nat) (x : RingSt) : State := { s with pcie := { s.pcie with rings := AMap.put s.pcie.rings r x } }

/-- R69: a posted write is dropped and counted while master 10 is frozen. -/
def State.dropWrite (s : State) : State := { s with pcie := { s.pcie with droppedWrites := s.pcie.droppedWrites + 1 } }

/-- R464: whether PCIe serves a ring: in device safe state ring 34 only. -/
def ringServed (s : State) (r : Nat) : Bool := !s.log.safe || r == 34

/-- R75: the number of descriptors that a ring holds. -/
def RingSt.size (x : RingSt) : Nat := 2 ^ x.log2Size

/-- R75: the descriptors that the host has given to the device. -/
def RingSt.waiting (x : RingSt) : Nat := (x.tail % x.size + x.size - x.head) % x.size

/-! ## Descriptors (R74 to R76) -/

/-- R74: the host address of a ring's descriptor. -/
def RingSt.descAddr (x : RingSt) (i : Nat) : Nat :=
  x.baseHi.toNat * 2 ^ 32 + x.baseLo.toNat / 64 * 64 + 32 * (i % x.size)

/-- R74, R75: the Status and BytesDone of a descriptor, written as one 8-byte write: code 0 is no error. -/
def State.writeStatus (s : State) (x : RingSt) (code tag done : Nat) : State :=
  let w := 2 ^ 31 + (if code = 0 then 0 else 2 ^ 30) + code * 65536 + tag % 65536
  s.emit (.host (x.descAddr x.head + 24) (leBytes 4 w ++ leBytes 4 done))

/-- R74: a descriptor as its 32 little-endian bytes say it. -/
def Desc.ofBytes (b : Bytes) : Desc :=
  let f (off n : Nat) : Nat := ofLeBytes ((b.drop off).take n)
  let ctrl := f 0x14 4
  { hostAddr := f 0 8, devAddr := f 8 8, length := f 0x10 4, irq := bit ctrl 31, endOfUnit := bit ctrl 30, userTag := ctrl % 65536 }

/-- R75: the descriptor at Head, once it has been fetched. -/
def RingSt.front (x : RingSt) : Option Desc := x.fetched.head?.map Desc.ofBytes

/-- R25, R75: a running ring fetches up to 16 descriptors ahead of Head; `host` is what host memory holds from the first one that has not
been fetched. -/
def RingSt.fetch (x : RingSt) (host : List Bytes) : RingSt :=
  if !x.enable || x.stopped then x
  else
    let n := min 16 x.waiting - x.fetched.length
    { x with fetched := x.fetched ++ ((host.takeWhile fun b => b.length == 32).take n) }

/-- A ring fetches. -/
def State.ringFetch (s : State) (r : Nat) (host : List Bytes) : State := s.setRing r ((s.ring r).fetch host)

/-- R75, R76: the descriptor at Head completes: its status is written and Head advances; a failing one stops the ring. -/
def State.completeDesc (s : State) (r code tag done : Nat) (irq : Bool) : State :=
  let x := s.ring r
  let s := s.writeStatus x code tag done
  let y := { x with head := (x.head + 1) % x.size, fetched := x.fetched.drop 1 }
  let s := s.setRing r (if code = 0 then y else { y with error := true, stopped := true, lastError := code })
  if irq then s.vector (s.nat (K.irqRingVector r)) else s

/-- R76: one descriptor in flight ends with Aborted; how far it had come is open. -/
def State.abortDesc (s : State) (r : Nat) (d : Desc) : State :=
  State.nextFree (s.completeDesc r 5 d.userTag (Config.freeWord s.freeCtr).toNat d.irq)

/-- R25, R76: a ring that is disabled ends its descriptors in flight, those that it has fetched, with Aborted. -/
def State.abortRing (s : State) (r : Nat) : State :=
  let s := ((s.ring r).fetched.map Desc.ofBytes).foldl (fun s d => s.abortDesc r d) s
  s.setRing r { s.ring r with enable := false, stopped := true, fetched := [] }

/-! ## Commands of the rings -/

/-- RING_ENABLE (R73 to R75): Enable is set: Head is reset to Tail and fetching starts. A reserved ring is ignored. -/
def execRingEnable (ring : RingId) (log2Size : Nat) (s : State) : Result := whenClocked s <|
  let r : Nat := ring
  if s.isFrozen 10 then .next s.dropWrite
  else
    let x := s.ring r
    if 48 ≤ r || !ringServed s r || x.enable || log2Size < 4 || 16 < log2Size then .next s
    else
      let s := s.setRing r { x with enable := true, log2Size := log2Size, head := x.tail % 2 ^ log2Size, stopped := x.error, fetched := [] }
      .next { s with boot := { s.boot with upload := if r = 36 then [] else s.boot.upload },
                     pcie := { s.pcie with unitBytes := AMap.del s.pcie.unitBytes r } }

/-- RING_DISABLE (R76): Enable is cleared. -/
def execRingDisable (ring : RingId) (s : State) : Result := whenClocked s <|
  let r : Nat := ring
  if s.isFrozen 10 then .next s.dropWrite
  else if !ringServed s r || !(s.ring r).enable then .next s
  else .next (s.abortRing r)

/-- RING_TAIL_WRITE (R75, R393): Tail is written, the ring fetches what it may, and its doorbell wakes its thread. `host` is what host memory
holds from the first descriptor that has not been fetched. -/
def execRingTailWrite (ring : RingId) (write : TailWrite) (s : State) : Result := whenClocked s <|
  let r : Nat := ring
  if s.isFrozen 10 then .next s.dropWrite
  else if !ringServed s r then .next s
  else .next (((s.setRing r { s.ring r with tail := write.tail % 65536 }).ringFetch r write.host).wakeSource (616 + r / 8))

/-- RING_ERROR_CLEAR (R74): the Error bit is cleared, which restarts the ring. -/
def execRingErrorClear (ring : RingId) (s : State) : Result := whenClocked s <|
  let r : Nat := ring
  if s.isFrozen 10 then .next s.dropWrite
  else
    let x := s.ring r
    if !ringServed s r || !x.error then .next s else .next (s.setRing r { x with error := false, stopped := !x.enable })

/-! ## What a descriptor does (R73, R76) -/

/-- R74: the form of a descriptor. -/
def descForm (d : Desc) : Bool := d.hostAddr % 4 == 0 && decide (4 ≤ d.length) && decide (d.length ≤ 16777216) && d.length % 4 == 0

/-- R73: whether DeviceAddress is a DRAM address, and whether the ring writes the DRAM. -/
def ringDram (r : Nat) : Option Bool := if 16 ≤ r && r < 34 then some true else if 38 ≤ r && r < 48 then some false else none

/-- R435: whether the HostDramWindow objects hold a run of bytes with a right. -/
def hostMay (s : State) (addr len : Nat) (write : Bool) : Bool :=
  s.fab.windowsOpen && (hostWindows s).any fun w => w.holds .dram addr len write

/-- R84: the size of channel c's host picture in the stored format. -/
def hostPictureBytes (s : State) (c : Nat) : Nat := ceilDiv (s.nat (K.reedWidth c) * 20) 512 * 64 * s.nat (K.reedHeight c)

/-- R421: the chosen slot's Pattern, which ring 37 exports. -/
def exported (s : State) : Bytes :=
  let slot := s.nat K.bootPatternSlot
  if slot < 2 then (s.flash.cfg slot).take (patLength (s.flash.cfg slot)) else []

/-- R76: the error with which a descriptor ends, 0 for none. -/
def descError (s : State) (r : Nat) (d : Desc) (hostOk : Bool) : Nat :=
  let denied := match ringDram r with | some w => !hostMay s d.devAddr d.length w | none => false
  let notReady := if r < 16 then s.nat (K.reedSourceType r) != 4 || decide (hostPictureBytes s r < d.devAddr + d.length)
    else if r = 36 then uploadHeld s
    else if r = 37 then (exported s).isEmpty else false
  if !descForm d then 2 else if denied then 4 else if notReady then 3 else if !hostOk then 1 else 0

/-- R89: a host ring stalls while its channel has no slot for the picture. -/
def hostStalls (s : State) (c : Nat) : Bool :=
  let r := s.reed c
  r.hostStall || (r.arriving.isNone && decide (4 ≤ r.slots.length))

/-- R84: bytes of a host picture at an offset of its slot; the first begin the picture where SOURCE_PICTURE_START has not. -/
def State.hostBytes (s : State) (c off : Nat) (b : Bytes) : State :=
  let r := s.reed c
  let r := if r.arriving.isNone then r.opened else r
  s.setReed c (r.onSlot (r.arriving.getD 0) fun p => { p with host := (off, b) :: p.host })

/-- R87: channel c's host picture is complete. -/
def State.hostPicture (s : State) (c : Nat) : State :=
  let r := s.reed c
  let r := r.onSlot (r.arriving.getD 0) fun p => { p with time := some (nowNs s), done := true }
  State.sourceBack (s.setReed c { r with arriving := none, lastLine := s.clk.ticks }) c

/-- R16, R382: bytes written to the DRAM by the PCIe function: what older writes still queued hold of them is gone; in beam-failed state they
are discarded. -/
def State.dramWrite (s : State) (addr : Nat) (b : Bytes) : State :=
  if s.beam.failed then s
  else
    let s := s.eachBch fun x => x.forget addr b.length
    State.beamBusy { s with dram := Memory.writeBytes s.dram addr b }

/-- R73: a host-to-device descriptor's data reach their target. -/
def State.hostToDevice (s : State) (r : Nat) (d : Desc) (data : Bytes) : State :=
  if r < 16 then (let s := s.hostBytes r d.devAddr data; if d.endOfUnit then s.hostPicture r else s)
  else if r = 36 then { s with boot := { s.boot with upload := s.boot.upload ++ data } }
  else s.dramWrite d.devAddr data

/-- R118, R136, R447: what the last descriptor of a unit does once it has completed. -/
def State.unitEnd (s : State) (r : Nat) (d : Desc) : State :=
  if 16 ≤ r && r < 32 then s.publishSurface r d.devAddr
  else if r = 32 || r = 33 then s.clipLoaded (r - 32)
  else if r = 36 then
    let booting := s.boot.stayBooting
    let s := s.finishUpload
    if booting && slotValid s.fuses s.flash 0 then s.warm 3 else s
  else s

/-- R483: a sampling record as it is stored. -/
def Sample.bytes (x : Sample) : Bytes :=
  [BitVec.ofNat 8 x.kind, BitVec.ofNat 8 x.unit] ++ leBytes 2 x.flags ++ leBytes 8 x.time ++ x.body

/-- R472: the first entry that ring 34 delivers, and how many a descriptor takes. -/
def logFrom (s : State) : Nat := max (max 1 (oldestSequence s)) s.log.rdptr
def logCount (s : State) (d : Desc) : Nat := min (d.length / 32) (s.log.newest + 1 - logFrom s)

/-- R472, R485: the bytes that a device-to-host descriptor delivers; none while it waits for the first. -/
def delivers (s : State) (r : Nat) (d : Desc) : Option Bytes :=
  if r = 34 then
    let n := logCount s d
    if n = 0 then none else some ((List.range n).flatMap fun i => match logEntryAt s (logFrom s + i) with | some e => e.bytes | none => [])
  else if r = 35 then
    let n := min (d.length / 32) s.pmc.level
    if n = 0 then none
    else some ((List.range n).flatMap fun i => match AMap.find? s.pmc.buffer ((s.pmc.readPtr + i) % 4096) with | some x => x.bytes | none => [])
  else if r = 37 then some (((exported s).drop (AMap.getD s.pcie.unitBytes r 0)).take d.length)
  else some (dramRead s d.devAddr d.length)

/-- R472, R485: what has been delivered is passed. -/
def State.delivered (s : State) (r : Nat) (d : Desc) : State :=
  if r = 34 then { s with log := { s.log with rdptr := (logFrom s + logCount s d) % 2 ^ 32, wrapRaised := false } }
  else if r = 35 then s.freeSamples ((s.pmc.readPtr + min (d.length / 32) s.pmc.level) % 4096)
  else if r = 37 then
    let n := AMap.getD s.pcie.unitBytes r 0
    { s with pcie := { s.pcie with unitBytes := AMap.put s.pcie.unitBytes r (if d.endOfUnit then 0 else n + d.length) } }
  else s

/-- DMA_DESCRIPTOR_COMPLETE (R75, R76): the transfer of the descriptor at Head ends. `host` is what host memory holds from the first
descriptor that has not been fetched, `data` what a host-to-device descriptor has read, and `hostOk` says that the host's side raised no
fault. A host picture without a slot, and a log or sampling readout without anything to deliver, wait. -/
def execDmaDescriptorComplete (ring : RingId) (host : List Bytes) (data : Bytes) (hostOk : Bool) (s0 : State) : Result := whenClocked s0 <|
  let r : Nat := ring
  let s := if s0.isFrozen 10 || !ringServed s0 r then s0 else s0.ringFetch r host
  let x := s.ring r
  match x.front with
  | none => .next s
  | some desc =>
    let toDevice := decide (r < 34) || r == 36
    if !x.enable || x.stopped || s.isFrozen 10 || !ringServed s r then .next s
    else
      let code := descError s r desc hostOk
      if code != 0 then .next (s.completeDesc r code desc.userTag 0 desc.irq)
      else if toDevice then
        (if data.length != desc.length then .next s
         else if r < 16 && hostStalls s r then .next (s.setReed r { s.reed r with hostStall := true })
         else
           let s := (s.hostToDevice r desc data).completeDesc r 0 desc.userTag desc.length desc.irq
           .next (if desc.endOfUnit then s.unitEnd r desc else s))
      else
        match delivers s r desc with
        | none => .next s
        | some b => .next (((s.emit (.host desc.hostAddr b)).delivered r desc).completeDesc r 0 desc.userTag b.length desc.irq)

/-! ## Resets and the link (R70, R410, R457) -/

/-- R70: what a function-level reset does: the rings, the mailbox, the Host staging set and the MSI-X configuration; by the PCIe
specification it returns configuration space to its defaults (log entry 114). -/
def State.functionReset (s : State) : State :=
  let s := (List.range 48).foldl (fun s r => if (s.ring r).enable then s.abortRing r else s) s
  let s := { s with pcie := { s.pcie with mail := [], vecs := [], config := {} }, draft := { s.draft with boltQ := AMap.put s.draft.boltQ 9 [] } }
  s.dropStage .host

/-- FUNCTION_LEVEL_RESET (R70): the rings are disabled, the mailbox slots emptied, the Host staging set discarded and the MSI-X
configuration cleared. -/
def execFunctionLevelReset (s : State) : Result := .next (s.functionReset.raise { src := 7 })

/-- PCIE_FUNDAMENTAL_RESET (R410): PERST# low resets the PCIe endpoint only, with the effects of R70, and the link retrains. -/
def execPcieFundamentalReset (s : State) : Result :=
  let s := s.functionReset
  .next (State.raise { s with pcie := { s.pcie with linkUp := false, linkRate := 0, linkWidth := 0 } } { src := 7 })

/-- R66: the rates, by PCI Express generation, and the widths that the endpoint supports. -/
def pcieSupports (rate width : Nat) : Bool := [3, 4, 5].contains rate && [1, 2, 4, 8].contains width

/-- PCIE_LINK_CHANGE (R66, R457): the link goes up or down, or changes rate or width; it comes up at what the endpoint supports only. -/
def execPcieLinkChange (up : Bool) (rate width : Nat) (s : State) : Result :=
  let p := s.pcie
  if up && !pcieSupports rate width then .next s
  else if p.linkUp = up && (!up || (p.linkRate = rate && p.linkWidth = width)) then .next s
  else .next (State.raise { s with pcie := { p with linkUp := up, linkRate := if up then rate else 0, linkWidth := if up then width else 0 } } { src := 6 })

/-- PCIE_ERROR (R457): the endpoint detects an AER error. -/
def execPcieError (uncorrectable : Bool) (s : State) : Result := .next (s.raise { src := 8, code := b2n uncorrectable })

/-! ## BAR2 (R68, R69) -/

/-- BAR2_ACCESS (R68, R69, R367): an access through the BAR2 window at the offset in force; outside master 10's windows it is refused and
freezes the PCIe function. -/
def execBar2Access (offset len : Nat) (wdata : Option Bytes) (s : State) : Result := whenClocked s <|
  if s.log.safe || len = 0 then .next s
  else if s.isFrozen 10 then .next (if wdata.isSome then s.dropWrite else State.emit { s with fab := { s.fab with readData := AMap.del s.fab.readData 10 } } .completerAbort)
  else
    let addr := s.nat K.irqBar2Window * 2 ^ 32 + offset % 2 ^ 32
    if !hostMay s addr len wdata.isSome then .next ((s.count 41 1).freeze 10 .firewall addr 0)
    else
      match wdata with
      | some b => .next (s.dramWrite addr (b.take len))
      | none => .next { s with fab := { s.fab with readData := AMap.put s.fab.readData 10 (dramRead s addr len) } }

/-! ## Configuration space (R66, R69, log entry 114) -/

/-- R66: the registers of configuration space that the rule gives a value: the header's Device ID and class code, and the PCI Express and
MSI-X capabilities, whose places are the model's (log entry 114). The Vendor ID is free. -/
def pcieConfigReg (s : State) (off : Nat) : Option Nat :=
  let c := s.pcie.config
  match off with
  | 0x00 => some (0x9140 * 65536 + (Config.freeWord 0x9140).toNat % 65536)
  | 0x08 => some (0x048000 * 256 + 0xB1)
  -- PCI Express capability: Device Capabilities: 512-byte payloads, extended tags, function-level reset
  | 0x74 => some (2 ^ 28 + 2 ^ 5 + 2)
  | 0x78 => some (c.maxRead % 8 * 4096 + c.maxPayload % 8 * 32)
  -- Link Capabilities: ASPM L1, x8, 32.0 GT/s; Link Control and Status
  | 0x7C => some (2 * 1024 + 8 * 16 + 5)
  | 0x80 => some ((if s.pcie.linkUp then s.pcie.linkWidth % 64 * 2 ^ 20 + s.pcie.linkRate % 16 * 65536 else 0) + c.aspm % 4)
  -- Device Capabilities 2: 10-bit tags
  | 0x94 => some (3 * 2 ^ 16)
  -- MSI-X capability: 64 vectors, Function Mask and Enable
  | 0xB0 => some (b2n c.msixEnable * 2 ^ 31 + b2n c.functionMask * 2 ^ 30 + 63 * 65536 + 0x11)
  | 0xB4 => some 0x000F0000
  | 0xB8 => some 0x000F8000
  -- L1 PM Substates Control: ASPM L1.1
  | 0x208 => some (b2n c.l11 * 8)
  | _ => none

/-- R66: a size of 128 × 2^n bytes as encoded, within the greatest that the endpoint takes: 512 bytes of payload, 4,096 of a read. -/
def pcieSize (n greatest : Nat) : Nat := min n greatest

/-- R66, R78: a write of configuration space. L0s and L1.2 are not supported. Vectors whose PBA bit is set and that are no longer masked
send. -/
def State.pcieConfigWrite (s : State) (off v : Nat) : State :=
  let c := s.pcie.config
  let put (c : PcieConfig) : State := { s with pcie := { s.pcie with config := c } }
  match off with
  | 0x78 => put { c with maxPayload := pcieSize (v / 32 % 8) 2, maxRead := pcieSize (v / 4096 % 8) 5 }
  | 0x80 => put { c with aspm := v % 4 / 2 * 2 }
  | 0xB0 =>
    (List.range 64).foldl (fun s n =>
      let x := s.vec n
      if x.pba && !x.masked && bit v 31 && !bit v 30 then (s.setVec n { x with pba := false }).vector n else s)
      (put { c with msixEnable := bit v 31, functionMask := bit v 30 })
  | 0x208 => put { c with l11 := bit v 3 }
  | _ => s

/-! ## MSI-X (R78) -/

/-- MSIX_UNMASK (R78): a vector is unmasked and sends, if its PBA bit is set. -/
def execMsixUnmask (vec : VectorId) (s : State) : Result := whenClocked s <|
  let v : Nat := vec
  let x := s.vec v
  if s.isFrozen 10 then .next s.dropWrite
  else if !x.masked then .next s
  else
    let s := s.setVec v { x with masked := false, pba := false }
    .next (if x.pba then s.vector v else s)

/-- MSIX_INTERVAL_EXPIRY (R78): MinIntervalUs has ended: the causes raised meanwhile are delivered in one message. -/
def execMsixIntervalExpiry (vec : VectorId) (s : State) : Result := whenClocked s <|
  let v : Nat := vec
  let x := s.vec v
  let due := match x.lastSent with | some t => passed s t (s.nat (K.irqMinIntervalUs v) * 1000) | none => true
  if !x.waiting || !due then .next s
  else if x.masked || s.pcie.config.functionMask then .next (s.setVec v { x with waiting := false, pba := true })
  else if !s.pcie.config.msixEnable then .next (s.setVec v { x with waiting := false })
  else .next (s.fireVec v)

end Sys2Proof.Machine
end

