-- ==== Sys2Proof/Machine/Power.lean ====
section
/-!
DEFINITION. Sys2Proof/Machine/Power.lean: the monitors of the rails (R501) and the VDD_CORE voltage (R500).
-/

namespace Sys2Proof.Machine

/-- R501: a rail has left its window to one side: its bit is set, and the 10 µs begin. -/
def State.railOut (s : State) (r : Nat) (high : Bool) : State :=
  let p := s.power
  let s1 := { s with power := { p with low := setBit p.low r (!high), high := setBit p.high r high, outSince := AMap.put p.outSince r s.clk.ticks } }
  if !high && decide (r < 7) && !railsLow s then s1.fastCut else s1

/-- R501: a rail is inside its window; the Governor may raise again 10 ms after the last of rails 0 to 6 has come back. -/
def State.railIn (s : State) (r : Nat) : State :=
  let p := s.power
  let s1 := { s with power := { p with low := setBit p.low r false, high := setBit p.high r false, outSince := AMap.del p.outSince r } }
  if railsLow s && !railsLow s1 then { s1 with gov := { s1.gov with fastCutAt := some s.clk.ticks } } else s1

/-- SUPPLY_MONITOR (R501): a monitor's reading of a rail; outside its window for 10 µs it raises SupplyMonitor once, at severity Error. -/
def execSupplyMonitor (rail : Nat) (reading : RailReading) (s : State) : Result := whenClocked s <|
  let p := s.power
  if 9 ≤ rail then .next s
  else
    match reading with
    | .inside => .next (s.railIn rail)
    | out =>
      let high := out == .above
      if bit (if high then p.high else p.low) rail then
        (match AMap.find? p.outSince rail with
         | some t =>
           if passed s t 10000 then
             .next (State.raise { s with power := { p with outSince := AMap.del p.outSince rail } } { src := 4, code := rail + 16 * b2n high, sev := 3 })
           else .next s
         | none => .next s)
      else .next (s.railOut rail high)

/-- AVS_RECOMPUTE (R500): the VDD_CORE target is recomputed from T_max, in °C. -/
def execAvsRecompute (tempC : Int) (s : State) : Result := whenClocked s <|
  if !s.boot.fusesRead then .next s
  else .next { s with power := { s.power with targetMv := coreTarget s.fuses (10 * tempC) } }

/-- R500: the next setting on the way to the target: at most 10 mV away. -/
def avsNext (p : PowerSt) : Nat := if p.setMv < p.targetMv then min p.targetMv (p.setMv + 10) else max p.targetMv (p.setMv - 10)

/-- AVS_STEP (R500): a step of VDD_CORE is sent, at most one in a millisecond and none within 50 µs of a loom beginning to leave clock
gating; a voltage read confirms it. After three failures in a row 0.850 V is written once, and no step follows until a reset. -/
def execAvsStep (confirmed : Bool) (s : State) : Result := whenClocked s <|
  let p := s.power
  let near := match p.lastStep with | some t => !passed s t 1000000 | none => false
  let gating := match p.gateAt with | some t => !passed s t 50000 | none => false
  if !s.boot.fusesRead || p.avsFailed || p.setMv = p.targetMv || near || gating then .next s
  else
    let mv := avsNext p
    let s := s.emit (.avs mv)
    if confirmed then .next { s with power := { p with setMv := mv, readMv := mv, avsFailures := 0, lastStep := some s.clk.ticks } }
    else if p.avsFailures < 2 then .next { s with power := { p with avsFailures := p.avsFailures + 1, lastStep := some s.clk.ticks } }
    else
      let s := { s with power := { p with avsFailures := 3, avsFailed := true, lastStep := some s.clk.ticks } }
      .next ((s.emit (.avs 850)).raise { src := 4, code := 0x20, sev := 3 })

end Sys2Proof.Machine
end

