-- ==== Sys2Proof/Machine/Receive.lean ====
section
/-!
DEFINITION. Sys2Proof/Machine/Receive.lean: received Ethernet frames: the checks of the MAC, PTP, the flow table with its policers, and
control frames (R290 to R295).
-/

namespace Sys2Proof.Machine

/-! ## The MAC (R290, R295) -/

/-- R295: whether a frame carries IP. -/
def frameIsIp (f : RxFrame) : Bool := f.etherType == 0x0800 || f.etherType == 0x86DD

/-- R290, R295: whether a frame's tag matches a port's VlanId, or it has none. -/
def vlanOk (s : State) (p : Nat) (f : RxFrame) : Bool := match f.vid with | none => true | some v => v == s.nat (K.portVlanId p)

/-- R295: whether a frame is malformed. -/
def malformed (s : State) (p : Nat) (f : RxFrame) : Bool :=
  !f.fcsOk || decide (f.length < 64) || decide (s.nat (K.portMaxIpBytes p) + 22 < f.length)
    || (frameIsIp f && (!f.checksumOk || f.fragment || !f.udpOk)) || !vlanOk s p f
    || !([0x0800, 0x86DD, 0x0806, 0x88F7, 0x88CC] : List Nat).contains f.etherType

/-- The MAC address of an IP multicast group (RFC 1112, RFC 2464): 01-00-5E with 23 bits, or 33-33 with 32 bits. -/
def groupMac (a : Bytes) : Bytes :=
  if isMapped a then [0x01, 0x00, 0x5E, a.getD 13 0 &&& 0x7F, a.getD 14 0, a.getD 15 0] else [0x33, 0x33] ++ a.drop 12

/-- Whether an address of 16 bytes is a multicast group. -/
def isGroup (a : Bytes) : Bool := if isMapped a then (a.getD 12 0).toNat / 16 == 14 else a.getD 0 0 == 0xFF

/-- R290: the groups that a port has joined: those of the protocols that it takes part in, the port's own solicited-node group, and the
destinations of the flows that it may receive (DESIGN CHOICE: the spec says when no group is joined). -/
def joinedMacs (s : State) (p : Nat) : List Bytes :=
  let own := (readObj s .selvedge (K.portIpv6Address p)).toBytes
  let flows := ((flowsIn s.objs).filter fun f => s.flow f 1 != 0 && (s.flow f 2 == 0xFF || s.flow f 2 == p)).map fun f => (flowVal s.fuses s.objs f 4).toBytes
  [[0x01, 0x80, 0xC2, 0, 0, 0x0E], [0x01, 0x1B, 0x19, 0, 0, 0], [0x01, 0, 0x5E, 0, 0, 1], [0x01, 0, 0x5E, 0, 1, 0x81], [0x01, 0, 0x5E, 0, 0, 0x6B],
   [0x33, 0x33, 0, 0, 0, 1], [0x33, 0x33, 0, 0, 0x01, 0x81], [0x33, 0x33, 0, 0, 0, 0x6B], [0x33, 0x33, 0xFF] ++ own.drop 13]
    ++ (flows.filter isGroup).map groupMac

/-- R290: whether a frame is for the port. -/
def macOk (s : State) (p : Nat) (f : RxFrame) : Bool :=
  f.dstMac == (s.obj (K.portMacAddress p)).toBytes || f.dstMac == List.replicate 6 0xFF || (joinedMacs s p).contains f.dstMac

/-- R290: a frame that nothing takes is dropped and counted in UnmatchedFrames. -/
def State.unmatched (s : State) (p : Nat) : State :=
  (s.bump (K.portUnmatchedFrames p)).raiseLimited (288 + 12 * p + 11) { src := 288 + 12 * p + 11, unit := p }

/-! ## The flow table (R291 to R293) -/

/-- R291: whether flow f matches a frame on port p. -/
def flowMatches (s : State) (p f : Nat) (x : RxFrame) : Bool :=
  let src := (flowVal s.fuses s.objs f 3).toBytes
  s.flow f 1 != 0 && decide (f < 15872) && (s.flow f 2 == 0xFF || s.flow f 2 == p) && (flowVal s.fuses s.objs f 4).toBytes == x.dstIp
    && s.flow f 5 == x.dport && (s.flow f 6 == 0xFFFF || s.flow f 6 == x.vid.getD (s.nat (K.portVlanId p)))
    && (src.all (· == 0) || src == x.srcIp)

/-- R291: a flow with SrcAddress wins over one without, and then a port-specific one over one for any port. -/
def flowRank (s : State) (f : Nat) : Nat :=
  2 * b2n (!((flowVal s.fuses s.objs f 3).toBytes.all (· == 0))) + b2n (s.flow f 2 != 0xFF)

/-- R291: the flow of a frame; among equals the lowest. -/
def flowFor (s : State) (p : Nat) (x : RxFrame) : Option Nat :=
  let fs := (flowsIn s.objs).filter fun f => frameIsIp x && flowMatches s p f x
  fs.foldl (fun b f =>
    match b with
    | none => some f
    | some g => if flowRank s g < flowRank s f || (flowRank s g = flowRank s f && f < g) then some f else b) none

/-- R292: the colours. -/
inductive Colour where
  | green | yellow | red
  deriving DecidableEq, Repr

/-- R292: colour_in. -/
def colourIn (x : RxFrame) : Colour :=
  if ([14, 22, 30, 38] : List Nat).contains x.dscp then .red
  else if ([12, 20, 28, 36] : List Nat).contains x.dscp || x.dei then .yellow
  else .green

/-- R292: the buckets of flow f; buckets that are not listed are full. -/
def bucketsOf (s : State) (f : Nat) : FlowSt :=
  (AMap.find? s.net.flows f).getD { tc := s.flow f 9 * 1000000, tp := s.flow f 11 * 1000000 }

/-- R292: the colour of a frame in flow f, and the buckets after it. -/
def police (s : State) (f : Nat) (x : RxFrame) : Colour × FlowSt :=
  let b := bucketsOf s f
  let n := x.length * 1000000
  if s.flow f 8 = 0 && s.flow f 10 = 0 then (.green, b)
  else
    let colour := if s.flow f 7 = 1 then colourIn x else .green
    if colour = .red || b.tp < n then (.red, b)
    else if colour = .yellow || b.tc < n then (.yellow, { b with tp := b.tp - n })
    else (.green, { tc := b.tc - n, tp := b.tp - n })

/-- A count of 64 bits of flow f raised by 1. -/
def State.bumpFlow (s : State) (f sub : Nat) : State := s.setN (flowKey f sub) ((s.flow f sub + 1) % 2 ^ 64)

/-- R293: a frame is counted by its colour in its flow and at its port (R477). -/
def State.countColour (s : State) (p f : Nat) : Colour → State
  | .green => (s.bumpFlow f 0x41).count (384 + 12 * p + 5) 1
  | .yellow => (s.bumpFlow f 0x42).count (384 + 12 * p + 6) 1
  | .red =>
    let s := ((s.bumpFlow f 0x43).set (flowKey f 0x44) (time80 (nowNs s))).count (384 + 12 * p + 7) 1
    s.raiseLimited (288 + 12 * p + 4) { src := 288 + 12 * p + 4, unit := p }

/-- R292, R293: a frame passes flow f's policer: the state after it, and whether it passes. A Kind 3 flow drops every frame as red. -/
def State.policed (s : State) (p f : Nat) (x : RxFrame) : State × Bool :=
  let (c, b) := if s.flow f 1 = 3 then (Colour.red, bucketsOf s f) else police s f x
  let keep := s.flow f 8 = 0 && s.flow f 10 = 0 || s.flow f 1 = 3
  let s := if keep then s else { s with net := { s.net with flows := AMap.put s.net.flows f b } }
  (s.countColour p f c, c == .green || (c == .yellow && s.flow f 12 == 0))

/-- R335: a frame of a Kind 2 flow goes to the audio bindings that name the flow. -/
def State.audioFlow (s : State) (f : Nat) (x : RxFrame) : State :=
  if s.isFrozen 32 then s
  else
    let ports := (List.range 16).filter fun i => s.nat (K.abindFlowId i) == f || s.nat (K.abindFlowIdProtect i) == f
    ports.foldl (fun s i => s.audioPacket i x.payload) s

/-- R26, R290, R438: a frame of a Kind 1 or Kind 2 flow takes a receive media descriptor, which it holds while the receive DMA is frozen;
while the pool is full, it is dropped and counted. `take` is what the frame brings. -/
def State.mediaFrame (s : State) (p : Nat) (take : State → State) : State :=
  let ps := s.port p
  if 384 ≤ ps.rxMedia then s.bump (K.portRxDropMedia p)
  else if !s.isFrozen 32 then take s
  else
    let t := s.setPort p { ps with rxMedia := ps.rxMedia + 1 }
    if ps.rxMedia + 1 = 384 then t.raise { src := 288 + 12 * p + 3, unit := p } else t

/-! ## Control frames (R290, R294, R415) -/

/-- R290: what a control frame is: 0 a Shed message, 1 ARP or ND with the address that it tells of, 2 ICMP, IGMPv3, MLDv2 or LLDP, 16 + c RTCP
for channel c. -/
def controlKind (s : State) (p : Nat) (x : RxFrame) : Option (Nat × Bytes) :=
  if x.etherType = 0x0806 then some (1, [0, 0, 0, 0, 0, 0, 0, 0, 0, 0, 0xFF, 0xFF] ++ ((x.payload.drop 14).take 4))
  else if x.etherType = 0x88CC then some (2, [])
  else if !frameIsIp x then none
  else if x.proto = 17 then
    (if x.dport = s.nat K.shedShedUdpPort then some (0, x.payload)
     else (rtcpChannel s p x.dport).map fun c => (16 + c, x.payload))
  else if x.proto = 58 then
    (let t := patField x.payload 0 1
     if t = 136 then some (1, (x.payload.drop 8).take 16) else if t = 135 then some (1, x.srcIp) else some (2, []))
  else if x.proto = 1 || x.proto = 2 then some (2, [])
  else none

/-- R294: a control frame passes the port's control policer. -/
def State.controlPass (s : State) (p : Nat) : State × Bool :=
  let ps := s.port p
  if 1000000000 ≤ ps.control then (s.setPort p { ps with control := ps.control - 1000000000 }, true)
  else (((s.bump (K.portRxDropControl p)).count (384 + 12 * p + 8) 1).raiseLimited (288 + 12 * p + 5) { src := 288 + 12 * p + 5, unit := p }, false)

/-- R415, R58: a control frame other than a Shed message goes to Bolt, or waits in its queue. -/
def State.controlTake (s : State) (q : QMsg) : State :=
  let n := q.path.queue
  let l := AMap.getD s.draft.boltQ n []
  let add (s : State) : State := { s with draft := { s.draft with boltQ := AMap.put s.draft.boltQ n (l ++ [q]) } }
  if s.log.safe then s
  else if !s.boot.boltReady then (if 256 ≤ l.length then s.bootDrop n else add s)
  else if boltDown s || !l.isEmpty then (if 256 ≤ l.length then s.bump (K.portRxDropControl n) else add s)
  else s.boltControl q

/-- R294: a control frame that has passed any Kind 4 policer. -/
def State.controlFrame (s : State) (p : PortId) (x : RxFrame) (kind : Nat) (b : Bytes) : State :=
  let (s, pass) := s.controlPass p
  if !pass then s
  else
    let path : Path := .port p x.srcIp x.sport
    if kind = 0 then s.shedArrive path b else s.controlTake { path := path, bytes := b, kind := kind, since := s.clk.ticks }

/-- R294: a PTP frame passes the port's PTP limit, or is dropped and counted; what it brings comes by the PTP commands. -/
def State.ptpFrame (s : State) (p : Nat) : State :=
  let ps := s.port p
  if 1000000000 ≤ ps.ptp then s.setPort p { ps with ptp := ps.ptp - 1000000000 }
  else ((s.bump (K.portPtpPoliced p)).count (384 + 12 * p + 9) 1).raiseLimited (288 + 12 * p + 6) { src := 288 + 12 * p + 6, unit := p }

/-- FRAME_RECEIVED (R272, R290 to R295): a frame arrives on a port. -/
def execFrameReceived (port : PortId) (frame : RxFrame) (s : State) : Result := whenClocked s <|
  let p : Nat := port
  if !(s.port p).linkUp then .next s
  else
    let s := (s.count (384 + 12 * p + 2) 1).count (384 + 12 * p + 3) frame.length
    if frame.fcsOk && frame.etherType = 0x8808 then .next (s.bump (K.portPauseIgnored p))
    else if malformed s p frame then
      .next (((s.bump (K.portMalformedFrames p)).count (384 + 12 * p + 10) 1).raiseLimited (288 + 12 * p + 7) { src := 288 + 12 * p + 7, unit := p })
    else if !macOk s p frame then .next (s.unmatched p)
    else if frame.etherType = 0x88F7 || (frameIsIp frame && frame.proto = 17 && (frame.dport = 319 || frame.dport = 320)) then .next (s.ptpFrame p)
    else
      let control (s : State) : State := match controlKind s p frame with
        | some (k, b) => s.controlFrame port frame k b
        | none => s.unmatched p
      match flowFor s p frame with
      | none => .next (control s)
      | some f =>
        if s.flow f 1 = 4 then (let (s, pass) := s.policed p f frame; .next (if pass then control s else s))
        else if s.flow f 1 = 3 then .next (s.policed p f frame).1
        else
          .next (s.mediaFrame p fun s =>
            let (s, pass) := s.policed p f frame
            if pass && s.flow f 1 == 2 then s.audioFlow f frame else s)

/-- RTCP_RECEIVED (R287, R415): an RTCP compound arrives at an RTCP port of a channel that the port carries. -/
def execRtcpReceived (port : PortId) (chan : Chan) (items : List RtcpItem) (s : State) : Result := whenClocked s <|
  let p : Nat := port
  let c : Nat := chan
  if !(s.port p).linkUp || !(channelPorts s.view c).contains p then .next s
  else if !boltDown s && (AMap.getD s.draft.boltQ p []).isEmpty then .next (s.rtcpTake p c items)
  else .next (s.controlTake { path := .port port [] 0, bytes := items.flatMap itemPacket, kind := 16 + c, since := s.clk.ticks })

end Sys2Proof.Machine
end

