-- ==== Sys2Proof/Machine/Regs.lean ====
section
/-!
DEFINITION. Sys2Proof/Machine/Regs.lean: the registers of BAR0 (R11, R67): what each reads as, and what a write to it does.
-/

namespace Sys2Proof.Machine

/-- The state that a meaning answers with. -/
def stateAfter (s : State) (r : Result) : State := match r with | .next t => t | _ => s

/-! ## Reads: registers whose read changes nothing -/

/-- R501: GLB_SUPPLY and GLB_AVS; R68: GLB_BAR2_WINDOW. -/
def globalReg (s : State) (off : Nat) : Option Nat :=
  let p := s.power
  if off = 0x100 then some (b2n p.avsFailed * 2 ^ 24 + p.high % 512 * 512 + p.low % 512)
  else if off = 0x104 then some (p.targetMv % 65536 * 65536 + p.readMv % 65536)
  else if off = 0x110 then some (s.nat K.irqBar2Window)
  else none

/-- R74: a DMA ring's registers. -/
def ringReg (s : State) (off : Nat) : Option Nat :=
  let x := s.ring (off / 64)
  match off % 64 with
  | 0x00 => some x.baseLo.toNat
  | 0x04 => some x.baseHi.toNat
  | 0x08 => some (b2n x.enable * 2 ^ 31 + x.log2Size)
  | 0x0C => some x.tail
  | 0x10 => some x.head
  | 0x14 => some (b2n x.error * 2 ^ 31 + b2n x.stopped * 2 ^ 30 + x.lastError)
  | _ => none

/-- R77: the MSI-X table: message address, data and vector control with its Mask bit. -/
def msixReg (s : State) (off : Nat) : Option Nat :=
  let x := s.vec (off / 16)
  match off % 16 with
  | 0 => some x.addrLo.toNat
  | 4 => some x.addrHi.toNat
  | 8 => some x.data.toNat
  | 12 => some (b2n x.masked)
  | _ => none

/-- R71: a mailbox slot's buffers and registers. SUBMIT and CLEAR cannot be read. -/
def mailReg (s : State) (off : Nat) : Option Nat :=
  if off < 0x8000 then
    let x := AMap.getD s.pcie.mail (off / 0x2000) {}
    let a := off % 0x2000
    some (ofLeBytes ((List.range 4).map fun i =>
      if a < 0x1000 then Memory.read x.request (a + i)
      else match x.responseFree with
        | some n => Config.freeByte n (a - 0x1000 + i)
        | none => x.response.getD (a - 0x1000 + i) 0))
  else if off < 0x8040 && off % 16 = 4 then
    let x := AMap.getD s.pcie.mail ((off - 0x8000) / 16) {}
    some (b2n x.busy * 2 ^ 31 + b2n x.done * 2 ^ 30 + b2n x.overrun * 2 ^ 29 + x.submitCount % 256 * 65536 + x.responseLength % 8192)
  else none

/-- R390: a word of a thread's context. -/
def threadWord (x : Thread) (off : Nat) : Nat :=
  let run := x.runTimeTicks * 25 / 6
  match off with
  | 0x00 => x.state.code * 2 ^ 29 + x.priority * 2 ^ 23 + x.cls * 2 ^ 21 + x.affinity * 2 ^ 13 + x.lastCore * 2 ^ 10 + b2n (isQueued x) * 512
      + b2n x.cancelPending * 256
  | 0x04 => x.wakeCount
  | 0x08 => x.entryPc
  | 0x0C => x.stackPointer
  | 0x10 => x.argument
  | 0x14 => x.saveArea
  | 0x18 => x.readySeq
  | 0x1C => x.boundSource
  | 0x20 => run % 2 ^ 32
  | 0x24 => run / 2 ^ 32 % 2 ^ 32
  | 0x28 => x.dispatchCount
  | 0x2C => x.readyCount
  | 0x30 => x.deferCount
  | _ => 0

/-- R390, R409: the Shuttle's registers; CMD cannot be read. -/
def shuttleReg (s : State) (off : Nat) : Option Nat :=
  if off < 0x800 then
    let k := s.core (off / 256)
    match off % 256 with
    | 4 => some (b2n k.resultDone * 2 ^ 31 + k.resultCode * 65536 + k.resultThread)
    | 8 => some (b2n k.nextValid * 2 ^ 31 + b2n k.nextPreempt * 2 ^ 30
        + b2n (match k.running with | some t => (s.thread t).cancelPending | none => false) * 2 ^ 29 + k.nextThread)
    | _ => none
  else if 0x40000 ≤ off && off < 0x80000 then some (threadWord (s.thread ((off - 0x40000) / 64)) (off % 64))
  else none

/-- R409: the Governor's registers. T_max in whole °C is that of its 0.1 °C value, rounded down. -/
def governorReg (s : State) (off : Nat) : Option Nat :=
  let g := s.gov
  let held := s.nat K.govDramHeldLooms
  let efforts (first : Nat) : Nat :=
    ((List.range 8).map fun i => (b2n (bit held (first + i)) * 8 + effortOf g.effort (first + i) % 8) * 16 ^ i).sum
  match off with
  | 0 =>
    let t := match junctionMax s with | some t => (clampInt 0 2047 (t / 10 + 64)).toNat | none => 0
    let gate := s.nat K.govClassGate
    some (g.thermal * 2 ^ 30 + b2n g.fastCut * 2 ^ 29 + b2n (bit gate 3) * 2 ^ 28 + b2n (bit gate 2) * 2 ^ 27 + t * 65536
      + s.nat K.govPowerMeasured)
  | 4 => some (efforts 0)
  | 8 => some (efforts 8)
  | _ => none

/-- R109: the Reed's registers of channel c. -/
def reedReg (s : State) (c off : Nat) : Option Nat :=
  let r := s.reed c
  match off with
  | 0 => some (b2n r.freqLocked * 2 ^ 31 + b2n r.present * 2 ^ 30 + b2n r.acquired * 2 ^ 29 + b2n r.lossShown * 2 ^ 28 + b2n r.rotDelay * 2 ^ 27
      + s.nat (K.reedActiveLinks c) % 16 * 2 ^ 20 + s.nat (K.reedAlignGroup c) % 16 * 256 + r.lastAction % 4)
  | 4 => some (if r.acquired then toPattern 32 (clampInt (-2147483648) 2147483647 (s.int (K.reedSyncDelayNs c))) else 0x80000000)
  | _ => none

/-- R144: the Press's registers of channel c. -/
def pressReg (s : State) (c off : Nat) : Option Nat :=
  let hem (h : Nat) : HemSt := AMap.getD (s.press c).hems h {}
  if off = 0 then
    some (maskOf 16 (fun h => (hem h).alarm) * 65536 + maskOf 16 (fun i => s.nat (K.layerStState c i) == 3 || s.nat (K.layerStState c i) == 4))
  else if off = 4 then some (maskOf 16 fun h => (hem h).subst)
  else if 0x40 ≤ off && off < 0xC0 then
    let sig := s.nat (K.hemStLastSignature c ((off - 0x40) / 8))
    some (if off % 8 = 0 then sig % 2 ^ 32 else sig / 2 ^ 32 % 2 ^ 32)
  else none

/-- R186, R246: the registers of loom l. -/
def loomReg (s : State) (l off : Nat) : Option Nat :=
  let x := s.loom l
  match off with
  | 0x0 => some (s.nat (K.loomGLoomState l) * 2 ^ 29 + x.laneFault % 16 * 2 ^ 24 + s.nat (K.loomGLoomEffort l) % 8 * 65536
      + s.nat (K.loomGLoomChannels l) % 65536)
  | 0x4 =>
    match inIntake s l with
    | none => some 0xFF
    | some r => some (2 ^ 31 + (r.intake - 1) % 128 * 2 ^ 24 + r.row % 256 * 65536 + r.chan)
  | 0x8 => some (x.ctuCount % 2 ^ 32)
  | 0x10 => some (s.nat (K.qualQualResult l) * 2 ^ 29 + b2n x.qualSince.isSome * 2 ^ 28 + x.mismatch % 65536 * 256 + x.runCount % 256)
  | _ => none

/-- R302: the Mangle's registers of port p. -/
def portReg (s : State) (p off : Nat) : Option Nat :=
  let x := s.port p
  let e := x.list.entries.getD x.entry { interval := 0, gates := 0xFF, rows := 0 }
  match off with
  | 0 =>
    let speed := if !x.linkUp then 0 else match x.rate with | 1000 => 1 | 10000 => 2 | 25000 => 3 | 100000 => 4 | _ => 0
    some (b2n x.linkUp * 2 ^ 31 + speed * 2 ^ 28 + b2n (!s.boot.configCommitted) * 2 ^ 27 + b2n x.pending.isSome * 2 ^ 26 + x.buffer % 2 * 2 ^ 25
      + b2n (bit e.gates 7) * 2 ^ 24 + e.gates % 256 * 65536 + x.entry % 1024)
  | 4 => some (x.cycles % 2 ^ 32)
  | _ => none

/-- R320: the Timekeeper's registers; reads of TIME_NOW_LO and TIME_CAPn_LO latch first (`regRead`). -/
def timeReg (s : State) (off : Nat) : Option Nat :=
  if off = 0 then some (s.clk.nowLatch % 2 ^ 32)
  else if off = 4 then some (s.clk.nowLatch / 2 ^ 32 % 2 ^ 32)
  else if off = 8 then
    some (s.time.active % 2 * 2 ^ 31 + b2n (slewError s != 0) * 2 ^ 30 + s.time.dom0.state.code * 2 ^ 27 + s.time.dom1.state.code * 2 ^ 24
      + stepEpoch s * 65536)
  else if 0x100 ≤ off && off < 0x180 then
    let x := AMap.getD s.time.caps ((off - 0x100) / 16) {}
    match off % 16 with
    | 0 => some (x.latchLo % 2 ^ 32)
    | 4 => some (x.latchHi % 2 ^ 32)
    | 8 => some (x.latchStat % 2 ^ 32)
    | _ => none
  else none

/-- R342: the registers of audio port a. -/
def audioReg (s : State) (a off : Nat) : Option Nat :=
  match off with
  | 0 => some (s.nat (K.audClockState a) % 4 * 2 ^ 30 + s.nat (K.audClockMode a) % 2 * 2 ^ 29 + s.nat (K.audDirection a) % 2 * 2 ^ 28
      + b2n (s.nat (K.audMeasuredClass a) == s.nat (K.audSampleRate a)) * 2 ^ 27 + s.nat (K.audAudioGroup a) % 16 * 2 ^ 20
      + (AMap.getD s.audio.ports a {}).lastSlip % 4 * 2 ^ 14 + (AMap.getD s.audio.ports a {}).fifo.length % 64)
  | 4 => some (s.nat (K.audMeasuredRateMilliHz a))
  | _ => none

/-- R364: the registers of lane n. -/
def laneReg (s : State) (n off : Nat) : Option Nat :=
  let x := s.lane n
  match off with
  | 0 => some (x.mode.code * 2 ^ 29 + b2n x.cdrLock * 2 ^ 28 + b2n x.blockLock * 2 ^ 27 + b2n x.frameLock * 2 ^ 26 + b2n x.pllLock * 2 ^ 25
      + b2n x.scanSince.isSome * 2 ^ 24 + [0, 1, 1, 2, 3].getD (quadMode s.view n) 0 * 2 ^ 22 + x.slipCount % 128 * 2 ^ 15 + x.alignCount % 256)
  | 4 => some (s.nat (K.laneCodeErrors n))
  | _ => none

/-- R389: the Beam's registers. -/
def beamReg (s : State) (off : Nat) : Option Nat :=
  if off = 0 then
    let down (r : Nat) : Bool := (List.range 8).all fun c => ((s.bch c).rank r).powerDown
    some ((beamMode s).code * 2 ^ 29 + s.beam.setPoint % 4 * 2 ^ 27 + b2n (s.beam.ranks == 2) * 2 ^ 26
      + maskOf 8 (fun c => (s.bch c).retraining) * 65536 + maskOf 8 (fun c => (s.bch c).failed) * 256 + maskOf 2 down)
  else if 0x1000 ≤ off && off < 0x9000 then
    let c := off / 0x1000 - 1
    let x := s.bch c
    match off % 0x1000 with
    | 0 => some (x.rank0.owed % 16 * 2 ^ 28 + x.rank1.owed % 16 * 2 ^ 24 + x.reads.length % 256 * 65536 + x.writes.length % 256 * 256 + reservedUsed x % 256)
    | 4 => some (s.nat (K.beamLinkEccUncorrected c) % 65536 * 65536 + s.nat (K.beamLinkEccCorrected c) % 65536)
    | _ => none
  else none

/-- R472, R474: the registers of the events and the Mending Log, and its window. -/
def logReg (s : State) (off : Nat) : Option Nat :=
  if off < 0x50 then some (s.log.pending / 2 ^ (8 * off) % 2 ^ 32)
  else if off = 0x100 then some s.log.newest
  else if off = 0x104 then some (oldestSequence s)
  else if off = 0x108 then some s.log.rdptr
  else if off = 0x10C then
    some (b2n s.log.safe * 2 ^ 31 + openDepth s % 8 * 2 ^ 28 + s.log.safeCause % 8 * 2 ^ 25 + b2n (!s.log.waiting.isEmpty) * 2 ^ 24 + s.log.dropped % 65536)
  else if off = 0x110 then some s.log.openIncident
  else if 0x10000 ≤ off && off < 0x50000 then
    let b := match AMap.find? s.log.entries ((off - 0x10000) / 32) with | some e => e.bytes | none => []
    some (ofLeBytes ((b.drop (off % 32)).take 4))
  else none

/-- R478, R485, R488: the registers of the counters and the sampling buffer for a reading master; the read of a counter's LO latches
first (`regRead`). -/
def counterReg (s : State) (master off : Nat) : Option Nat :=
  if off < 0x1800 then
    (if off % 8 = 0 then some (AMap.getD s.pmc.latch master 0 % 2 ^ 32) else some (AMap.getD s.pmc.latch master 0 / 2 ^ 32 % 65536))
  else if off = 0x2000 then
    some (b2n (s.isFrozen 38) * 2 ^ 31 + b2n (s.ring 35).enable * 2 ^ 30 + s.pmc.level % 4096 * 65536 + s.pmc.writePtr % 4096)
  else if off = 0x2004 then some s.pmc.readPtr
  else if 0x10000 ≤ off && off < 0x30000 then
    let b := match AMap.find? s.pmc.buffer ((off - 0x10000) / 32) with | some x => x.bytes | none => []
    some (ofLeBytes ((b.drop (off % 32)).take 4))
  else none

/-- R453: the Selvedge's registers. -/
def selvedgeReg (s : State) (off : Nat) : Option Nat :=
  match off with
  | 0 => some (b2n s.boot.imageVerified * 2 ^ 31 + activeSlot s % 2 * 2 ^ 30 + (governing s.flash).trialState % 4 * 2 ^ 28
      + b2n s.boot.activation.isSome * 2 ^ 27 + b2n s.boot.stayBooting * 2 ^ 26 + s.fuses.rollback % 256 * 65536
      + s.nat K.selvSlotBState % 16 * 4096 + s.nat K.selvSlotAState % 16 * 256)
  | 4 => some (s.fab.frozen % 2 ^ 32)
  | 8 => some (s.fab.frozen / 2 ^ 32 % 256)
  | _ => none

/-- R67: the register at a word address of BAR0, as a master reads it; none where the spec describes no register that can be read. The
last block reads 0. -/
def regVal (s : State) (master a : Nat) : Option Nat :=
  if a < 0x80000 then globalReg s a
  else if a < 0x81000 then ringReg s (a - 0x80000)
  else if 0xF0000 ≤ a && a < 0xF0400 then msixReg s (a - 0xF0000)
  else if 0xF8000 ≤ a && a < 0xF8008 then some (maskOf 32 fun i => (s.vec ((a - 0xF8000) * 8 + i)).pba)
  else if a < 0x100000 then none
  else if a < 0x200000 then mailReg s (a - 0x100000)
  else if a < 0x300000 then shuttleReg s (a - 0x200000)
  else if a < 0x400000 then governorReg s (a - 0x300000)
  else if a < 0x401000 then reedReg s ((a - 0x400000) / 256) (a % 256)
  else if a < 0x800000 then none
  else if a < 0x801000 then pressReg s ((a - 0x800000) / 256) (a % 256)
  else if a < 0xC00000 then none
  else if a < 0x1000000 then loomReg s ((a - 0xC00000) / 0x40000) (a % 0x40000)
  else if a < 0x2000000 then none
  else if a < 0x2008000 then portReg s ((a - 0x2000000) / 0x1000) (a % 0x1000)
  else if a < 0x2800000 then none
  else if a < 0x2900000 then timeReg s (a - 0x2800000)
  else if a < 0x2900800 then audioReg s ((a - 0x2900000) / 256) (a % 256)
  else if a < 0x2A00000 then none
  else if a < 0x2C00000 then laneReg s ((a - 0x2A00000) / 0x10000) (a % 0x10000)
  else if a < 0x2E00000 then beamReg s (a - 0x2C00000)
  else if a < 0x2F00000 then logReg s (a - 0x2E00000)
  else if a < 0x3000000 then counterReg s master (a - 0x2F00000)
  else if a < 0x3100000 then selvedgeReg s (a - 0x3000000)
  else some 0

/-- R464: in device safe state PCIe serves reads of GLB_, LOG_ and SELV_ only. -/
def regServed (s : State) (master a : Nat) : Bool :=
  !s.log.safe || master != 10 || decide (a < 0x100000) || (decide (0x2E00000 ≤ a) && decide (a < 0x2F00000))
    || (decide (0x3000000 ≤ a) && decide (a < 0x3100000))

/-- R320, R478: what a read of a word latches first. -/
def State.latchFor (s : State) (master a : Nat) : State :=
  if a = 0x2800000 then stateAfter s (execTimeNowRead s)
  else if 0x2800100 ≤ a && a < 0x2800180 && a % 16 = 0 then stateAfter s (execCapturePop ((a - 0x2800100) / 16) s)
  else if 0x2F00000 ≤ a && a < 0x2F01800 && a % 8 = 0 then stateAfter s (execCounterLoRead (.master master) ((a - 0x2F00000) / 8) s)
  else s

/-- R11: a register is read by a master. Where the spec describes none that can be read, the value is free. -/
def State.regRead (s : State) (master a : Nat) : State × Word :=
  if !regServed s master a then (s.nextFree, Config.freeWord s.freeCtr)
  else
    let s := s.latchFor master a
    match regVal s master a with
    | some v => (s, BitVec.ofNat 32 v)
    | none => (s.nextFree, Config.freeWord s.freeCtr)

/-! ## Writes -/

/-- R74, R75: a write to a ring's register. Base and Log2Size take a write only while Enable is 0. A Log2Size outside 4 to 16 is stored and
leaves the ring disabled (log entry 115). -/
def State.ringWrite (s : State) (r : RingId) (off : Nat) (v : Word) : State :=
  let n : Nat := r
  let x := s.ring n
  match off with
  | 0x00 => if x.enable then s else s.setRing n { x with baseLo := v &&& 0xFFFFFFC0 }
  | 0x04 => if x.enable then s else s.setRing n { x with baseHi := v }
  | 0x08 =>
    let size := v.toNat % 32
    if v.toNat < 2 ^ 31 then
      (if x.enable then stateAfter s (execRingDisable r s) else s.setRing n { x with log2Size := size })
    else if x.enable then s
    else if 48 ≤ n then s.setRing n { x with log2Size := size }
    else stateAfter s (execRingEnable r size (s.setRing n { x with log2Size := size }))
  | 0x0C => stateAfter s (execRingTailWrite r { tail := v.toNat % 65536, host := [] } s)
  | 0x14 => if v.toNat < 2 ^ 31 then s else stateAfter s (execRingErrorClear r s)
  | _ => s

/-- R77: a write to a vector's entry in the MSI-X table. -/
def State.msixWrite (s : State) (n : VectorId) (off : Nat) (v : Word) : State :=
  let i : Nat := n
  let x := s.vec i
  match off with
  | 0 => s.setVec i { x with addrLo := v &&& 0xFFFFFFFC }
  | 4 => s.setVec i { x with addrHi := v }
  | 8 => s.setVec i { x with data := v }
  | 12 => if bit v.toNat 0 then s.setVec i { x with masked := true } else stateAfter s (execMsixUnmask n s)
  | _ => s

/-- R71: a write to a mailbox slot's request buffer, SUBMIT or CLEAR. -/
def State.mailWrite (s : State) (off : Nat) (v : Word) : State :=
  if off < 0x8000 then
    (if h : off / 0x2000 < 4 then
       let n : MailSlot := ⟨off / 0x2000, h⟩
       let x := s.mail n
       if off % 0x2000 < 0x1000 then s.setMail n { x with request := Memory.writeBytes x.request (off % 0x2000) (leBytes 4 v.toNat) } else s
     else s)
  else if h : (off - 0x8000) / 16 < 4 then
    let n : MailSlot := ⟨(off - 0x8000) / 16, h⟩
    match off % 16 with
    | 0 => stateAfter s (execMailboxSubmit n (v.toNat % 8192) s)
    | 8 =>
      let s := if bit v.toNat 30 then stateAfter s (execMailboxClearDone n s) else s
      if bit v.toNat 29 then stateAfter s (execMailboxClearOverrun n s) else s
    | _ => s
  else s

/-- R392, R409: a command word that core c or the Selvedge writes to SHTL_COREn_CMD; a word with no command of R392 has no effect. -/
def State.shuttleCommand (s : State) (c : CoreId) (v : Nat) : State :=
  let t := v % 4096
  let prio := field v 22 6
  let cls := field v 20 2
  let mask := field v 12 8
  match v / 2 ^ 28 with
  | 1 => stateAfter s (execCreate c prio cls mask s)
  | 2 => stateAfter s (execWake c t s)
  | 3 => stateAfter s (execBlock c s)
  | 4 => stateAfter s (execYield c s)
  | 5 => stateAfter s (execExit c s)
  | 6 => stateAfter s (execCancel c t s)
  | 7 => stateAfter s (execSetPriority c t (field v 12 6) s)
  | 8 => stateAfter s (execSetClass c t cls mask s)
  | 9 => stateAfter s (execFree c t s)
  | 10 => stateAfter s (execBind c t (field v 12 10) s)
  | _ => s

/-- R390: a thread's context as a Bolt core's write changes it. -/
def Thread.written (x : Thread) (off v : Nat) : Thread :=
  match off with
  | 0x08 => { x with entryPc := v }
  | 0x0C => { x with stackPointer := v }
  | 0x10 => { x with argument := v }
  | 0x14 => { x with saveArea := v }
  | _ => x

/-- R390: a Bolt core writes a thread's context; any other write to one is discarded. -/
def State.threadWrite (s : State) (master t off v : Nat) : State :=
  if 2 ≤ master && master < 10 && 4096 > t then s.setThread t ((s.thread t).written off v) else s

/-- R390, R392: a write to the Shuttle's registers. -/
def State.shuttleWrite (s : State) (master off : Nat) (v : Word) : State :=
  if h : off / 256 < 8 then
    (if off % 256 != 0 then s
     else if master < 2 || master = 2 + off / 256 then s.shuttleCommand ⟨off / 256, h⟩ v.toNat
     else s.bump K.shtlForeignCommands)
  else if 0x40000 ≤ off && off < 0x80000 then s.threadWrite master ((off - 0x40000) / 64) (off % 64) v.toNat
  else s

/-- R472, R474, R485: a write to LOG_PENDING, LOG_RDPTR or PMC_SMP_RDPTR. -/
def State.logWrite (s : State) (off : Nat) (v : Word) : State :=
  if off < 0x50 then stateAfter s (execLogPendingClear (off / 4) v s)
  else if off = 0x108 then stateAfter s (execLogRdptrWrite v s)
  else s

/-- R11, R67: a word is written by a master to the register at a word address of BAR0; an address that takes no write keeps its value. -/
def State.regWrite (s : State) (master a : Nat) (v : Word) : State :=
  if a % 4 != 0 then s
  else if h : 0x80000 ≤ a ∧ (a - 0x80000) / 64 < 64 then s.ringWrite ⟨(a - 0x80000) / 64, h.2⟩ (a % 64) v
  else if h : 0xF0000 ≤ a ∧ (a - 0xF0000) / 16 < 64 then s.msixWrite ⟨(a - 0xF0000) / 16, h.2⟩ (a % 16) v
  else if 0x100000 ≤ a && a < 0x200000 then s.mailWrite (a - 0x100000) v
  else if 0x200000 ≤ a && a < 0x300000 then s.shuttleWrite master (a - 0x200000) v
  else if 0x2E00000 ≤ a && a < 0x2F00000 then s.logWrite (a - 0x2E00000) v
  else if a = 0x2F02004 then stateAfter s (execSampleRdptrWrite v s)
  else s

/-- R464: in device safe state PCIe serves writes of LOG_PENDING and of ring 34 only. -/
def writeServed (s : State) (master a : Nat) : Bool :=
  !s.log.safe || master != 10 || (decide (0x2E00000 ≤ a) && decide (a < 0x2E00050)) || (decide (0x80880 ≤ a) && decide (a < 0x808C0))

/-- The model's address of the first byte of configuration space (log entry 114). -/
def configSpace : Nat := 4294967296

/-- REGISTER_WRITE (R11, R66, R67, R69): the host writes a register of BAR0, or of configuration space, which stays available while master 10
is frozen. -/
def execRegisterWrite (addr : Nat) (val : Word) (s : State) : Result := whenClocked s <|
  if configSpace ≤ addr then .next (s.pcieConfigWrite (addr - configSpace) val.toNat)
  else if s.isFrozen 10 then .next s.dropWrite
  else if !writeServed s 10 addr then .next s
  else .next (s.regWrite 10 addr val)

end Sys2Proof.Machine
end

