-- ==== Sys2Proof/Machine/Fabric.lean ====
section
/-!
DEFINITION. Sys2Proof/Machine/Fabric.lean: the data fabric: transactions, their check at the firewall, the tags of each master, and what
transactions on the SRAM and on the register ring do (R14 to R18, R24, R25).
-/

namespace Sys2Proof.Machine

/-- R18: a master's share of the tags. -/
def tagShare (m : Nat) : Nat :=
  if m < 10 then 64
  else if m = 10 then 512
  else if m < 27 then 256
  else ([512, 768, 256, 256, 512, 256, 64, 32, 128, 32, 64, 32, 32] : List Nat).getD (m - 27) 0

/-- R14: the form of a transaction: 1 to 256 bytes within one 256-byte unit, of a master and a stream that exist. -/
def txnForm (t : Txn) : Bool :=
  decide (t.master < 40) && decide (t.stream < 16) && decide (t.context < 64) && decide (0 < t.len) && decide (t.addr % 256 + t.len ≤ 256)
    && (match t.wdata with | some d => d.length == t.len | none => true)

/-- R24, R67: whether a transaction lies in the SRAM or on the register ring, where it names them. -/
def txnPlace (t : Txn) : Bool :=
  match t.target with
  | .dram => true
  | .sram => decide (t.addr + t.len ≤ sramSize)
  | .ring => decide (t.addr + t.len ≤ 67108864)

/-- R25: the tags that a master holds. -/
def tagsHeld (s : State) (m : Nat) : Nat := (s.fab.inflight.filter fun (e : Nat × Flight) => e.2.txn.master == m).length

/-- R25: the tile operations of the Press in flight: those of a layer context, or of all. -/
def tileOps (s : State) (ctx : Option Nat) : Nat :=
  let mine (t : Txn) : Bool := t.master == 28 && (match ctx with | some n => t.context == n | none => true)
  (s.fab.inflight.filter fun (e : Nat × Flight) => mine e.2.txn).length + (s.fab.stalled.filter mine).length

/-- R25: whether a layer context of the Press stalls its fetch: at 512 tile operations of its own, or 4,096 in all. -/
def tileStalls (s : State) (t : Txn) : Bool :=
  t.master == 28 && (decide (512 ≤ tileOps s (some t.context)) || decide (4096 ≤ tileOps s none))

/-! ## The SRAM (R24) -/

/-- Whether an address lies in a region. -/
def Region.has (r : Region) (a : Nat) : Bool := decide (r.base ≤ a) && decide (a < r.base + r.size)

/-- Byte i of a word. -/
def byteOf (v i : Nat) : Byte := BitVec.ofNat 8 (v / 256 ^ i)

/-- R24: a byte of the SRAM as it is read: the Mending Log, the sampling buffer and the Shuttle contexts stand in the state as records. -/
def sramByte (s : State) (a : Nat) : Byte :=
  if regLog.has a then
    let o := a - regLog.base
    match AMap.find? s.log.entries (o / 32) with | some e => e.bytes.getD (o % 32) 0 | none => 0
  else if regSampling.has a then
    let o := a - regSampling.base
    match AMap.find? s.pmc.buffer (o / 32) with | some x => x.bytes.getD (o % 32) 0 | none => 0
  else if regShuttle.has a then
    let o := a - regShuttle.base
    byteOf (threadWord (s.thread (o / 64)) (o % 64 / 4 * 4)) (o % 4)
  else Memory.read s.sram a

/-- A number with byte i replaced. -/
def withByte (v i : Nat) (b : Byte) : Nat := v - (v / 256 ^ i % 256) * 256 ^ i + b.toNat * 256 ^ i

/-- R24, R390, R434: a byte written to the SRAM by a master. The Selvedge region takes none once it is locked; a thread's context takes only
a Bolt core's, at offsets 0x08 to 0x17; the Mending Log and the sampling buffer change by their own commands only. -/
def State.sramWrite (s : State) (master a : Nat) (b : Byte) : State :=
  if regLog.has a || regSampling.has a || (regSelvedge.has a && s.fab.selvLocked) then s
  else if regShuttle.has a then
    let o := a - regShuttle.base
    let w := o % 64 / 4 * 4
    s.threadWrite master (o / 64) w (withByte (threadWord (s.thread (o / 64)) w) (o % 4) b)
  else { s with sram := Memory.write s.sram a b }

/-- A run of bytes written to the SRAM. -/
def State.sramWrites (s : State) (master : Nat) : Nat → Bytes → State
  | _, [] => s
  | a, b :: t => State.sramWrites (s.sramWrite master a b) master (a + 1) t

/-! ## The register ring (R11) -/

/-- The words that a run of bytes meets. -/
def wordsMet (addr len : Nat) : List Nat := (List.range ((addr % 4 + len + 3) / 4)).map fun i => addr / 4 * 4 + 4 * i

/-- R11: words are read one after another, in address order. -/
def State.ringRead (s : State) (master : Nat) : List Nat → State × Bytes
  | [] => (s, [])
  | a :: t =>
    let (s, v) := s.regRead master a
    let (s, rest) := State.ringRead s master t
    (s, leBytes 4 v.toNat ++ rest)

/-- R11: the whole words of a run of bytes are written; a word of which only a part is given is not. -/
def State.ringWrites (s : State) (t : Txn) (d : Bytes) : State :=
  (wordsMet t.addr t.len).foldl (fun s a =>
    if t.addr ≤ a && a + 4 ≤ t.addr + t.len && writeServed s t.master a then
      s.regWrite t.master a (BitVec.ofNat 32 (ofLeBytes ((d.drop (a - t.addr)).take 4)))
    else s) s

/-! ## Transactions -/

/-- R369: what a transaction on the SRAM or on the register ring does when its target accepts it, and the data that a read gives. -/
def State.reach (s : State) (t : Txn) : State × Bytes :=
  match t.target, t.wdata with
  | .sram, some d => (s.sramWrites t.master t.addr d, [])
  | .sram, none => (s, (List.range t.len).map fun i => sramByte s (t.addr + i))
  | .ring, some d => (s.ringWrites t d, [])
  | .ring, none =>
    let (s, b) := s.ringRead t.master (wordsMet t.addr t.len)
    (s, (b.drop (t.addr % 4)).take t.len)
  | .dram, _ => (s, [])

/-- R17, R25: a transaction is issued: it is checked, and is refused with a freeze, or holds a tag and reaches its target; one on the DRAM
waits at its memory port. -/
def State.issue (s : State) (t : Txn) : State :=
  if !passes s t then (s.count 41 1).freeze t.master .firewall t.addr t.target.code
  else
    let n := s.fab.nextTxn
    let dram := t.target == .dram
    let (s, b) := s.reach t
    let f : Flight := { txn := t, accepted := !dram, done := !dram, data := b }
    { s with fab := { s.fab with inflight := s.fab.inflight ++ [(n, f)], nextTxn := n + 1 } }

/-- R437: whether a frozen master's violation is still counted: until its freeze record is taken, and as a new freeze while it thaws. -/
def violationCounts (s : State) (m : Nat) : Bool :=
  match AMap.find? s.fab.freezes m with | some x => !x.recorded || x.thawing | none => false

/-- R69: what the PCIe function gets while it is frozen: a posted write is dropped and counted, and a read ends with Completer Abort. -/
def State.frozenRequest (s : State) (t : Txn) : State :=
  if t.master != 10 then s else if t.wdata.isSome then s.dropWrite else s.emit .completerAbort

/-- FABRIC_TRANSACTION (R14, R17, R18, R25, R69, R437): a master issues a transaction, or waits for one of its tags. A frozen master issues
none; a violation of it before its freeze record is taken is counted. A layer context of the Press whose entries are full stalls. -/
def execFabricTransaction (t : Txn) (s : State) : Result := whenClocked s <|
  if !txnForm t then .fault .badTransaction
  else if t.master < 2 && !txnPlace t then .fault .noSuchAddress
  else if s.isFrozen t.master then
    (if violationCounts s t.master && !passes s t then .next (((s.count 41 1).freeze t.master .firewall t.addr t.target.code).frozenRequest t)
     else .next (s.frozenRequest t))
  else if tileStalls s t then .next s
  else if tagShare t.master ≤ tagsHeld s t.master || s.fab.stalled.any (fun u => u.master == t.master) then .next { s with fab := { s.fab with stalled := s.fab.stalled ++ [t] } }
  else .next (s.issue t)

/-- R15: whether a transaction in flight has completed, and every earlier one of its master, stream and port has returned. -/
def mayReturn (s : State) (e : Nat × Flight) : Bool :=
  e.2.done && !(s.fab.inflight.any fun d => decide (d.1 < e.1) && e.2.txn.follows d.2.txn)

/-- FABRIC_TAG_RETURNED (R15, R25): a master's oldest transaction that has completed in its stream's order returns its tag, with a read's
data, and the master's first transaction that waits for a tag is issued. -/
def execFabricTagReturned (master : MasterId) (s : State) : Result := whenClocked s <|
  let m : Nat := master
  match s.fab.inflight.find? fun (e : Nat × Flight) => e.2.txn.master == m && mayReturn s e with
  | none => .next s
  | some (n, f) =>
    let data := if f.txn.wdata.isNone then AMap.put s.fab.readData m f.data else s.fab.readData
    let s := { s with fab := { s.fab with inflight := AMap.del s.fab.inflight n, readData := data } }
    let s := (s.closeWindows m).count m 1
    match s.fab.stalled.find? fun t => t.master == m with
    | none => .next s
    | some t => .next (State.issue { s with fab := { s.fab with stalled := s.fab.stalled.erase t } } t)

end Sys2Proof.Machine
end

