-- ==== Sys2Proof/Machine/Dispatch.lean ====
section
/-!
DEFINITION. Sys2Proof/Machine/Dispatch.lean: the one match from commands to their meanings.
-/

namespace Sys2Proof.Machine

/-- The effect of a command on everything but the queue of waiting commands. -/
def exec (i : Instr) (s : State) : Host.Outcome State Fault Refusal :=
  match i with
  | .powerOnReset lowNs => Sys2Proof.Machine.execPowerOnReset lowNs s
  | .warmReset cause => Sys2Proof.Machine.execWarmReset cause s
  | .spindleLock => Sys2Proof.Machine.execSpindleLock s
  | .spindleUnlock => Sys2Proof.Machine.execSpindleUnlock s
  | .fusesRead flashOk badKeys => Sys2Proof.Machine.execFusesRead flashOk badKeys s
  | .patternChosen => Sys2Proof.Machine.execPatternChosen s
  | .earlySetApplied => Sys2Proof.Machine.execEarlySetApplied s
  | .activeFirmwareVerified => Sys2Proof.Machine.execActiveFirmwareVerified s
  | .fastResponderStart => Sys2Proof.Machine.execFastResponderStart s
  | .dramTrained ok ranks densityGb points => Sys2Proof.Machine.execDramTrained ok ranks densityGb points s
  | .boltReady => Sys2Proof.Machine.execBoltReady s
  | .bootCommit windows => Sys2Proof.Machine.execBootCommit windows s
  | .imageVerified => Sys2Proof.Machine.execImageVerified s
  | .encodeStartWaitExpiry => Sys2Proof.Machine.execEncodeStartWaitExpiry s
  | .readReq path msg => Sys2Proof.Machine.execReadReq path msg s
  | .writeReq path msg => Sys2Proof.Machine.execWriteReq path msg s
  | .segmentWriteReq path msg => Sys2Proof.Machine.execSegmentWriteReq path msg s
  | .describeReq path msg => Sys2Proof.Machine.execDescribeReq path msg s
  | .commitReq src => Sys2Proof.Machine.execCommitReq src s
  | .discard prin => Sys2Proof.Machine.execDiscard prin s
  | .selvedgeObjectCommit key val => Sys2Proof.Machine.execSelvedgeObjectCommit key val s
  | .commitValidationDone windows => Sys2Proof.Machine.execCommitValidationDone windows s
  | .stagingSetTimeout prin => Sys2Proof.Machine.execStagingSetTimeout prin s
  | .boltRequestHandled queue => Sys2Proof.Machine.execBoltRequestHandled queue s
  | .boltReplyTimeout queue => Sys2Proof.Machine.execBoltReplyTimeout queue s
  | .eventAck path msg => Sys2Proof.Machine.execEventAck path msg s
  | .eventNotifyResend sub tid => Sys2Proof.Machine.execEventNotifyResend sub tid s
  | .mailboxSubmit slot length => Sys2Proof.Machine.execMailboxSubmit slot length s
  | .mailboxDone slot => Sys2Proof.Machine.execMailboxDone slot s
  | .mailboxClearDone slot => Sys2Proof.Machine.execMailboxClearDone slot s
  | .mailboxClearOverrun slot => Sys2Proof.Machine.execMailboxClearOverrun slot s
  | .functionLevelReset => Sys2Proof.Machine.execFunctionLevelReset s
  | .pcieFundamentalReset => Sys2Proof.Machine.execPcieFundamentalReset s
  | .pcieLinkChange up rate width => Sys2Proof.Machine.execPcieLinkChange up rate width s
  | .bar2Access offset len wdata => Sys2Proof.Machine.execBar2Access offset len wdata s
  | .ringEnable ring log2Size => Sys2Proof.Machine.execRingEnable ring log2Size s
  | .ringDisable ring => Sys2Proof.Machine.execRingDisable ring s
  | .ringTailWrite ring write => Sys2Proof.Machine.execRingTailWrite ring write s
  | .ringErrorClear ring => Sys2Proof.Machine.execRingErrorClear ring s
  | .dmaDescriptorComplete ring host data hostOk => Sys2Proof.Machine.execDmaDescriptorComplete ring host data hostOk s
  | .msixUnmask vec => Sys2Proof.Machine.execMsixUnmask vec s
  | .msixIntervalExpiry vec => Sys2Proof.Machine.execMsixIntervalExpiry vec s
  | .registerWrite addr val => Sys2Proof.Machine.execRegisterWrite addr val s
  | .fabricTransaction t => Sys2Proof.Machine.execFabricTransaction t s
  | .fabricTagReturned master => Sys2Proof.Machine.execFabricTagReturned master s
  | .pictureBoundary chan => Sys2Proof.Machine.execPictureBoundary chan s
  | .sourcePictureStart chan => Sys2Proof.Machine.execSourcePictureStart chan s
  | .sourceLineReceived chan line format part => Sys2Proof.Machine.execSourceLineReceived chan line format part s
  | .sourceAbsent chan => Sys2Proof.Machine.execSourceAbsent chan s
  | .sdiLinkLost chan lost => Sys2Proof.Machine.execSdiLinkLost chan lost s
  | .lineRead chan pic line count => Sys2Proof.Machine.execLineRead chan pic line count s
  | .reedRowComplete chan pic row => Sys2Proof.Machine.execReedRowComplete chan pic row s
  | .pressRowHandoff chan pic row => Sys2Proof.Machine.execPressRowHandoff chan pic row s
  | .unpickerPictureDecoded unp pic => Sys2Proof.Machine.execUnpickerPictureDecoded unp pic s
  | .loomRowStart loom => Sys2Proof.Machine.execLoomRowStart loom s
  | .ctuIntake loom ctu => Sys2Proof.Machine.execCtuIntake loom ctu s
  | .ctuCodedStaged chan row coded => Sys2Proof.Machine.execCtuCodedStaged chan row coded s
  | .rowSlotOpen chan pic row => Sys2Proof.Machine.execRowSlotOpen chan pic row s
  | .rowSlotClose chan pic row => Sys2Proof.Machine.execRowSlotClose chan pic row s
  | .txFrameSelect port => Sys2Proof.Machine.execTxFrameSelect port s
  | .gateEntryChange port => Sys2Proof.Machine.execGateEntryChange port s
  | .gateListChangeover port => Sys2Proof.Machine.execGateListChangeover port s
  | .shaperRefill port => Sys2Proof.Machine.execShaperRefill port s
  | .policerRefill => Sys2Proof.Machine.execPolicerRefill s
  | .frameReceived port frame => Sys2Proof.Machine.execFrameReceived port frame s
  | .rtcpReceived port chan items => Sys2Proof.Machine.execRtcpReceived port chan items s
  | .rtcpSenderReport chan phase => Sys2Proof.Machine.execRtcpSenderReport chan phase s
  | .portLinkChange port up rate => Sys2Proof.Machine.execPortLinkChange port up rate s
  | .darnRequest route chan => Sys2Proof.Machine.execDarnRequest route chan s
  | .qualifyMask prin mask => Sys2Proof.Machine.execQualifyMask prin mask s
  | .qualificationDone looms tiles shaOk => Sys2Proof.Machine.execQualificationDone looms tiles shaOk s
  | .qualificationTimeout loom => Sys2Proof.Machine.execQualificationTimeout loom s
  | .chainPositionDerive view => Sys2Proof.Machine.execChainPositionDerive view s
  | .chainSegmentSend side => Sys2Proof.Machine.execChainSegmentSend side s
  | .stripReceived side msg => Sys2Proof.Machine.execStripReceived side msg s
  | .rowQpRecordReceived side msg => Sys2Proof.Machine.execRowQpRecordReceived side msg s
  | .bandRecordReceived side msg => Sys2Proof.Machine.execBandRecordReceived side msg s
  | .canvasRecordReceived side msg => Sys2Proof.Machine.execCanvasRecordReceived side msg s
  | .seamSideAbsent chan left => Sys2Proof.Machine.execSeamSideAbsent chan left s
  | .ptpSync dom msg => Sys2Proof.Machine.execPtpSync dom msg s
  | .ptpAnnounce dom msg => Sys2Proof.Machine.execPtpAnnounce dom msg s
  | .ptpDelayResp dom msg => Sys2Proof.Machine.execPtpDelayResp dom msg s
  | .delayReqSend dom => Sys2Proof.Machine.execDelayReqSend dom s
  | .announceReceiptTimeout dom => Sys2Proof.Machine.execAnnounceReceiptTimeout dom s
  | .holdoverLimit dom => Sys2Proof.Machine.execHoldoverLimit dom s
  | .revertHoldoffExpiry => Sys2Proof.Machine.execRevertHoldoffExpiry s
  | .slewComplete => Sys2Proof.Machine.execSlewComplete s
  | .externalRefLost => Sys2Proof.Machine.execExternalRefLost s
  | .pulseEdge out => Sys2Proof.Machine.execPulseEdge out s
  | .captureEdge inp rising => Sys2Proof.Machine.execCaptureEdge inp rising s
  | .timeNowRead => Sys2Proof.Machine.execTimeNowRead s
  | .capturePop inp => Sys2Proof.Machine.execCapturePop inp s
  | .audioFrameInstant port samples => Sys2Proof.Machine.execAudioFrameInstant port samples s
  | .audioExtFrameSync port samples => Sys2Proof.Machine.execAudioExtFrameSync port samples s
  | .audioClockLost port => Sys2Proof.Machine.execAudioClockLost port s
  | .rateMeasurement port => Sys2Proof.Machine.execRateMeasurement port s
  | .laneCdrLock lane => Sys2Proof.Machine.execLaneCdrLock lane s
  | .laneAlignmentDone lane slips => Sys2Proof.Machine.execLaneAlignmentDone lane slips s
  | .laneAlignRetry lane => Sys2Proof.Machine.execLaneAlignRetry lane s
  | .weftBlockReceived lane block => Sys2Proof.Machine.execWeftBlockReceived lane block s
  | .soakIdleExpiry lane => Sys2Proof.Machine.execSoakIdleExpiry lane s
  | .soakExit lane => Sys2Proof.Machine.execSoakExit lane s
  | .soakBurst lane => Sys2Proof.Machine.execSoakBurst lane s
  | .weftRxSilenceTimeout lane => Sys2Proof.Machine.execWeftRxSilenceTimeout lane s
  | .scanStart lane => Sys2Proof.Machine.execScanStart lane s
  | .scanDwellEnd lane errors => Sys2Proof.Machine.execScanDwellEnd lane errors s
  | .beamRequest txn => Sys2Proof.Machine.execBeamRequest txn s
  | .beamCommandSlot ch => Sys2Proof.Machine.execBeamCommandSlot ch s
  | .beamReadReturn ch data ecc => Sys2Proof.Machine.execBeamReadReturn ch data ecc s
  | .refreshDue ch => Sys2Proof.Machine.execRefreshDue ch s
  | .mr4Poll codes => Sys2Proof.Machine.execMr4Poll codes s
  | .powerDownEntry ch rank => Sys2Proof.Machine.execPowerDownEntry ch rank s
  | .selfRefreshEntry => Sys2Proof.Machine.execSelfRefreshEntry s
  | .marginCheck ch margin => Sys2Proof.Machine.execMarginCheck ch margin s
  | .retrainAttemptDone ch ok => Sys2Proof.Machine.execRetrainAttemptDone ch ok s
  | .setPointChange point => Sys2Proof.Machine.execSetPointChange point s
  | .returnToSetPoint => Sys2Proof.Machine.execReturnToSetPoint s
  | .bandwidthWindow => Sys2Proof.Machine.execBandwidthWindow s
  | .create core level cls mask => Sys2Proof.Machine.execCreate core level cls mask s
  | .wake core thread => Sys2Proof.Machine.execWake core thread s
  | .block core => Sys2Proof.Machine.execBlock core s
  | .yield core => Sys2Proof.Machine.execYield core s
  | .exit core => Sys2Proof.Machine.execExit core s
  | .cancel core thread => Sys2Proof.Machine.execCancel core thread s
  | .setPriority core thread level => Sys2Proof.Machine.execSetPriority core thread level s
  | .setClass core thread cls mask => Sys2Proof.Machine.execSetClass core thread cls mask s
  | .free core thread => Sys2Proof.Machine.execFree core thread s
  | .bind core thread source => Sys2Proof.Machine.execBind core thread source s
  | .wakeIntake => Sys2Proof.Machine.execWakeIntake s
  | .dispatch core => Sys2Proof.Machine.execDispatch core s
  | .affinityHoldExpiry thread => Sys2Proof.Machine.execAffinityHoldExpiry thread s
  | .cancelGraceExpiry thread => Sys2Proof.Machine.execCancelGraceExpiry thread s
  | .deferLimitExpiry thread => Sys2Proof.Machine.execDeferLimitExpiry thread s
  | .governorSample sensors rails => Sys2Proof.Machine.execGovernorSample sensors rails s
  | .governorPeriod => Sys2Proof.Machine.execGovernorPeriod s
  | .thermalCeilingEntry => Sys2Proof.Machine.execThermalCeilingEntry s
  | .thermalTrip => Sys2Proof.Machine.execThermalTrip s
  | .boltWatchdogExpiry core => Sys2Proof.Machine.execBoltWatchdogExpiry core s
  | .patternSave => Sys2Proof.Machine.execPatternSave s
  | .patternSaveDone ok => Sys2Proof.Machine.execPatternSaveDone ok s
  | .patternLoadSlot prin slot => Sys2Proof.Machine.execPatternLoadSlot prin slot s
  | .deviceReset prin => Sys2Proof.Machine.execDeviceReset prin s
  | .freeze master cause addr report => Sys2Proof.Machine.execFreeze master cause addr report s
  | .freezeRecord master => Sys2Proof.Machine.execFreezeRecord master s
  | .freezeMaster prin master => Sys2Proof.Machine.execFreezeMaster prin master s
  | .thawMaster prin master => Sys2Proof.Machine.execThawMaster prin master s
  | .autoThaw master => Sys2Proof.Machine.execAutoThaw master s
  | .thawComplete master => Sys2Proof.Machine.execThawComplete master s
  | .keyWrite prin slot key => Sys2Proof.Machine.execKeyWrite prin slot key s
  | .activate prin => Sys2Proof.Machine.execActivate prin s
  | .activationInstant => Sys2Proof.Machine.execActivationInstant s
  | .cancelActivation prin => Sys2Proof.Machine.execCancelActivation prin s
  | .confirmImage prin => Sys2Proof.Machine.execConfirmImage prin s
  | .autoConfirmExpiry => Sys2Proof.Machine.execAutoConfirmExpiry s
  | .trialBoltReadyTimeout => Sys2Proof.Machine.execTrialBoltReadyTimeout s
  | .fuseBlow => Sys2Proof.Machine.execFuseBlow s
  | .offer side msg => Sys2Proof.Machine.execOffer side msg s
  | .accept side msg => Sys2Proof.Machine.execAccept side msg s
  | .decline side msg => Sys2Proof.Machine.execDecline side msg s
  | .request side msg => Sys2Proof.Machine.execRequest side msg s
  | .blockMessage side msg => Sys2Proof.Machine.execBlockMessage side msg s
  | .done side msg => Sys2Proof.Machine.execDone side msg s
  | .blockRequestTimeout block => Sys2Proof.Machine.execBlockRequestTimeout block s
  | .eventRaise source code master unit detail severity => Sys2Proof.Machine.execEventRaise source code master unit detail severity s
  | .logEntryWrite => Sys2Proof.Machine.execLogEntryWrite s
  | .handlerComplete => Sys2Proof.Machine.execHandlerComplete s
  | .handlerTimeout => Sys2Proof.Machine.execHandlerTimeout s
  | .trackerWindowEnd source code master unit => Sys2Proof.Machine.execTrackerWindowEnd source code master unit s
  | .safeStateResetExpiry => Sys2Proof.Machine.execSafeStateResetExpiry s
  | .logPendingClear word bits => Sys2Proof.Machine.execLogPendingClear word bits s
  | .logRdptrWrite val => Sys2Proof.Machine.execLogRdptrWrite val s
  | .counterLoRead reader index => Sys2Proof.Machine.execCounterLoRead reader index s
  | .snapshotRequest prin => Sys2Proof.Machine.execSnapshotRequest prin s
  | .snapshotCopy => Sys2Proof.Machine.execSnapshotCopy s
  | .instructionSample core pc address => Sys2Proof.Machine.execInstructionSample core pc address s
  | .sampleRecordTaken => Sys2Proof.Machine.execSampleRecordTaken s
  | .sampleRdptrWrite val => Sys2Proof.Machine.execSampleRdptrWrite val s
  | .supplyMonitor rail reading => Sys2Proof.Machine.execSupplyMonitor rail reading s
  | .aonUndervoltage => Sys2Proof.Machine.execAonUndervoltage s
  | .avsRecompute tempC => Sys2Proof.Machine.execAvsRecompute tempC s
  | .avsStep confirmed => Sys2Proof.Machine.execAvsStep confirmed s
  | .powerDown => Sys2Proof.Machine.execPowerDown s
  | .lockstepMismatch => Sys2Proof.Machine.execLockstepMismatch s
  | .handlerFault => Sys2Proof.Machine.execHandlerFault s
  | .cdrLockLoss lane => Sys2Proof.Machine.execCdrLockLoss lane s
  | .externalRefReturn => Sys2Proof.Machine.execExternalRefReturn s
  | .pcieError uncorrectable => Sys2Proof.Machine.execPcieError uncorrectable s

end Sys2Proof.Machine
end

