-- ==== Sys2Proof/Safety.lean ====
section
/-!
DEFINITION. Sys2Proof/Safety.lean: what a safe run is, and the words that the statements use: a command that completes, a canonical memory,
a counter within its width, a state after a reset.
-/

namespace Sys2Proof

open Sys2Proof.Machine

/-- Whether an outcome is a next state. -/
def isNext (r : Host.Outcome State Fault Refusal) : Bool :=
  match r with
  | .next _ => true
  | _ => false

/-- A run of so many steps from a state meets no fault and no refusal. -/
def SafeRun (s : State) (n : Nat) : Prop := ∀ k, k ≤ n → ∃ t, core.run k s = .next t

/-- A command answers a next state, and the next state is as said, whether the device's clocks run or not. -/
def CompletesAlways (i : Instr) (s : State) (post : State → Prop) : Prop := ∃ t, Machine.exec i s = .next t ∧ post t

/-- A command answers as said while the clocks that are divided from the Spindle run: the Spindle has not been lost in service (R23). -/
def Answers (i : Instr) (s : State) (r : Host.Outcome State Fault Refusal) : Prop := s.boot.clocksLost = false → Machine.exec i s = r

/-- A command answers a next state, and the next state is as said, while the clocks that are divided from the Spindle run: the Spindle has
not been lost in service (R23). -/
def Completes (i : Instr) (s : State) (post : State → Prop) : Prop := s.boot.clocksLost = false → CompletesAlways i s post

/-- R23: a command that acts on the device whatever its clocks do: a reset, what the supplies and the safe-state sequencer do on AON_CLK, and
what the PCIe endpoint does on its own clock. -/
def onOwnClock : Instr → Bool
  | .powerOnReset .. | .warmReset .. | .aonUndervoltage | .powerDown | .spindleLock | .spindleUnlock | .safeStateResetExpiry => true
  | .lockstepMismatch | .thermalTrip | .functionLevelReset | .pcieFundamentalReset | .pcieLinkChange .. | .pcieError .. => true
  | _ => false

/-- R43: a write of a Plain object is not refused because its function is held. -/
def Unheld (s : State) (k : Nat) : Prop := heldPlain s (keyIdx k) = false

/-- The DRAM and the SRAM stand in their canonical form (log entry 2). -/
def MemoryCanonical (s : State) : Prop := Memory.wf s.dram = true ∧ Memory.wf s.sram = true

/-- Every byte of the DRAM and of the SRAM reads in t as in s. -/
def SameMemory (s t : State) : Prop :=
  (∀ a, Memory.read t.dram a = Memory.read s.dram a) ∧ (∀ a, Memory.read t.sram a = Memory.read s.sram a)

/-- A byte of the SRAM that a master's write changes as bytes: no record of the Mending Log, of the sampling buffer or of a thread, and no
byte of the Selvedge region once it is locked. -/
def plainSram (s : State) (a : Nat) : Bool :=
  !regLog.has a && !regSampling.has a && !(regSelvedge.has a && s.fab.selvLocked) && !regShuttle.has a

/-- The value of a counter (R475). -/
def counterOf (s : State) (n : Nat) : Nat := AMap.getD s.pmc.counters n 0

/-- What every reset but a power-down leaves (R410): the queue of commands and the fuses stay, BootCount goes up by one (R62), and the
configuration, the memories, the points of start-up and the staged writes are gone. -/
def Afresh (s t : State) : Prop :=
  t.pending = s.pending ∧ t.fuses = s.fuses ∧ t.flash = { s.flash with bootCount := (s.flash.bootCount + 1) % 2 ^ 32 } ∧
    t.conf = [] ∧ t.dram = [] ∧ t.sram = [] ∧ t.boot = {} ∧ t.draft = {} ∧ t.lanes = [] ∧ t.fab = {}

/-- A message that Bolt handles at once: it has come by a linked port on which Shed is enabled, it parses, it names this device, the Fast
Responder does not serve it, the device is not in safe state, and Bolt is ready with nothing waiting in the path's queue. -/
def AtBolt (s : State) (path : Path) (msg : Bytes) (m : Shed) : Prop :=
  (∀ p a u, path = .port p a u → (s.port p.val).linkUp = true ∧ bit (s.nat K.shedShedPortEnable) p.val = true) ∧
    Path.parse path msg = some m ∧ (m.target = 0xFF ∨ m.target = s.net.chain.position) ∧ fastServes s path m = false ∧
    s.log.safe = false ∧ s.boot.boltReady = true ∧ boltDown s = false ∧ AMap.getD s.draft.boltQ path.queue [] = []

/-- R464 to R466: the device has entered device safe state by a cause: its masters but 0, 1, 10 and 36 are frozen, no thread runs, and the
newest entry of the Mending Log is the SafeState entry of that cause. -/
def SafeEntered (s : State) (cause : Nat) (fromAon : Bool) (t : State) : Prop :=
  t.log.safe = true ∧ t.log.safeCause = cause ∧ t.log.safeSince = s.clk.ticks ∧
    (∀ m, m < 40 → t.isFrozen m = (s.isFrozen m || !keptInSafe m)) ∧ (∀ x ∈ t.fab.inflight, keptInSafe x.2.txn.master = true) ∧
    (∀ c, c < 8 → (t.core c).running = none) ∧ t.nat K.fastDeviceState = 6 ∧ t.conf = s.conf ∧
    ∃ e, AMap.find? t.log.entries (t.log.newest % 8192) = some e ∧ e.source = 2 ∧ e.code = cause ∧ e.severity = 4 ∧
      bit e.flags 4 = fromAon

/-- R458, R459, R470: a request's entry stands in the Mending Log at its place. -/
def EntryWritten (s : State) (r : LogReq) (p : Place) (t : State) : Prop :=
  t.log.newest = s.log.newest + 1 ∧
    AMap.find? t.log.entries ((s.log.newest + 1) % 8192) =
      some { sequence := s.log.newest + 1, time := r.time, incident := p.incident, severity := p.severity, depth := p.depth,
             source := r.source, flags := p.flags, stepEpoch := r.stepEpoch, code := r.code, master := r.master, unit := r.unit,
             detail := r.detail }

/-- The parts of the machine that no command of a family outside them moves: the clock, the committed configuration, the Fabric, the lanes, the
DRAM's channels, time, audio, the video path, the fuses, the queue of commands and both memories. -/
def BodyKept (s t : State) : Prop :=
  t.clk = s.clk ∧ t.conf = s.conf ∧ t.fab = s.fab ∧ t.lanes = s.lanes ∧ t.beam = s.beam ∧ t.time = s.time ∧ t.audio = s.audio ∧
    t.video = s.video ∧ t.fuses = s.fuses ∧ t.pending = s.pending ∧ t.dram = s.dram ∧ t.sram = s.sram

/-- R390 to R399: a command of the Shuttle's family. -/
def shuttleFamily : Instr → Bool
  | .create .. | .wake .. | .block .. | .yield .. | .exit .. | .cancel .. | .setPriority .. | .setClass .. | .free .. | .bind .. => true
  | .wakeIntake | .dispatch .. | .affinityHoldExpiry .. | .cancelGraceExpiry .. | .deferLimitExpiry .. => true
  | _ => false

/-- R400 to R405, R500, R501: a command of the Budget Governor's or of the supplies' family. -/
def governorFamily : Instr → Bool
  | .governorSample .. | .governorPeriod | .thermalCeilingEntry | .supplyMonitor .. | .avsRecompute .. | .avsStep .. => true
  | _ => false

/-- R440 to R450: a command that stores keys, images or Patterns, but for those whose effect is a reset or a fuse blow. -/
def storageFamily : Instr → Bool
  | .keyWrite .. | .activate .. | .cancelActivation .. | .confirmImage .. | .autoConfirmExpiry | .offer .. | .accept .. | .decline .. => true
  | .request .. | .blockMessage .. | .done .. | .blockRequestTimeout .. | .patternSave | .patternSaveDone .. | .patternLoadSlot .. => true
  | .deviceReset .. => true
  | _ => false

/-- R478 to R485: a command of the counters and of sampling. -/
def countingFamily : Instr → Bool
  | .counterLoRead .. | .snapshotRequest .. | .snapshotCopy | .instructionSample .. | .sampleRecordTaken | .sampleRdptrWrite .. => true
  | _ => false

/-- A command that may write the DRAM or the SRAM, or whose effect is a reset, which ends both. -/
def touchesMemory : Instr → Bool
  | .fabricTransaction .. | .fabricTagReturned .. | .beamCommandSlot .. | .bar2Access .. | .dmaDescriptorComplete .. => true
  | .powerOnReset .. | .warmReset .. | .powerDown | .aonUndervoltage | .activationInstant | .trialBoltReadyTimeout | .safeStateResetExpiry => true
  | _ => false

end Sys2Proof
end

