-- ==== Sys2Proof/Certificates/Slice0/Obligations.lean ====
section
/-!
DEFINITION. Sys2Proof/Certificates/Slice0/Obligations.lean: the statements for the provers, family by family of the opcode table.
-/

open Sys2Proof Sys2Proof.Machine

/-! ## Resets and start-up -/

/-- R410, R411, R501, R503: each reset leaves a device that has kept its fuses and its flash only, and its cause stands in ResetCause; a warm
reset keeps the Mending Log's entries (R468) and a power-on reset does not; a power-down leaves the device in reset with DDR_RESET_N low; a pulse
shorter than 1 µs on a reset ball is ignored.
R465, R467: no DeviceReset leaves a safe state of causes 2 to 4, nor a thermal one before the device has cooled. -/
def Obligations.ResetsStartAfresh : Prop :=
  (∀ s lowNs, 1000 ≤ lowNs → CompletesAlways (.powerOnReset lowNs) s fun t =>
    Afresh s t ∧ t.log.entries = [] ∧ t.nat K.bootResetCause = 0) ∧
  (∀ s lowNs, 1000 ≤ lowNs → CompletesAlways (.warmReset (.pin lowNs)) s fun t =>
    Afresh s t ∧ t.log.entries = s.log.entries ∧ t.nat K.bootResetCause = 1) ∧
  (∀ s asked, s.boot.resetAsked = some asked → resetTaken s = true → passed s asked 10000000 = true → CompletesAlways (.warmReset .deviceReset) s fun t =>
    Afresh s t ∧ t.log.entries = s.log.entries ∧ t.nat K.bootResetCause = 2) ∧
  (∀ s, s.log.safe = false → CompletesAlways (.warmReset .selvedge) s fun t =>
    Afresh s t ∧ t.log.entries = s.log.entries ∧ t.nat K.bootResetCause = 3) ∧
  (∀ s, CompletesAlways .aonUndervoltage s fun t => Afresh s t ∧ t.log.entries = [] ∧ t.nat K.bootResetCause = 0) ∧
  (∀ s, CompletesAlways .powerDown s fun t =>
    t.pending = s.pending ∧ t.fuses = s.fuses ∧ t.flash = s.flash ∧ t.boot = {} ∧ t.conf = [] ∧ t.dram = [] ∧ t.log.entries = [] ∧
      t.power.inReset = true ∧ t.power.ddrReset = true) ∧
  (∀ s, s.log.safe = true → 2 ≤ s.log.safeCause ∧ s.log.safeCause ≤ 4 ∨ s.log.safeCause = 5 ∧ 950 ≤ s.int K.govJunctionMax →
    exec (.warmReset .deviceReset) s = .next s) ∧
  (∀ s lowNs, lowNs < 1000 → exec (.powerOnReset lowNs) s = .next s ∧ exec (.warmReset (.pin lowNs)) s = .next s)

/-- R412, R413, R420, R421, R424, R434, R500: the points of start-up up to the Fast Responder, each where the one it needs has been passed
and it has not.
R237, R379, R382, R412, R415, R418, R424, R425, R443: the points of start-up from DRAM training to the inactive slot's verification. -/
def Obligations.PointsOfStartUp : Prop :=
  (∀ s, s.boot.spindle = false → s.log.safe = false → s.power.inReset = false → CompletesAlways .spindleLock s fun t =>
    t.boot = { s.boot with spindle := true } ∧ t.objs = s.objs ∧ t.conf = s.conf) ∧
  (∀ s flashOk badKeys, s.boot.spindle = true → s.boot.fusesRead = false → Completes (.fusesRead flashOk badKeys) s fun t =>
    t.boot = { s.boot with fusesRead := true } ∧ t.flash.present = flashOk ∧
      t.power.targetMv = coreTarget s.fuses (s.int K.govJunctionMax)) ∧
  (∀ s, s.boot.fusesRead = true → s.boot.patternChosen = false → Completes .patternChosen s fun t =>
    t.boot.patternChosen = true ∧
      (chosenSlot s.flash = none → t.boot.hasPattern = false ∧ t.boot.defaulted = true ∧ t.nat K.bootDefaultCause = 1) ∧
      ∀ slot, chosenSlot s.flash = some slot → t.nat K.bootPatternSlot = slot) ∧
  (∀ s, s.boot.patternChosen = true → s.boot.earlySet = false → s.boot.hasPattern = false → Completes .earlySetApplied s fun t =>
    t.boot = { s.boot with earlySet := true } ∧ t.objs = s.objs) ∧
  (∀ s m, s.boot.patternChosen = true → s.boot.earlySet = false → s.boot.hasPattern = true → s.nat K.bootPatternSchema = 5 →
    earlySet { s with boot := { s.boot with earlySet := true } } (s.flash.cfg (s.nat K.bootPatternSlot)) = some m →
    Completes .earlySetApplied s fun t =>
      t.boot.earlySet = true ∧ t.conf = m.foldl (fun c e => AMap.put c e.1 e.2) s.conf) ∧
  (∀ s, s.boot.earlySet = true → s.boot.fwVerified = false → s.boot.stayBooting = false → Completes .activeFirmwareVerified s fun t =>
    (bootChoice s ≠ none → t.boot = { s.boot with fwVerified := true } ∧ t.fab.selvLocked = true ∧ t.fab.windowsOpen = true) ∧
      (bootChoice s = none → t.boot = { s.boot with stayBooting := true } ∧ t.fab = s.fab)) ∧
  (∀ s, s.boot.fusesRead = true → s.boot.fastStarted = false → passed s 0 50000000 = true → Completes .fastResponderStart s fun t =>
    t = State.fastServe { s with boot := { s.boot with fastStarted := true } }) ∧
  (∀ s ok ranks densityGb points, s.boot.fwVerified = true → s.boot.dramTrained = false → (ranks = 1 ∨ ranks = 2) →
    (densityGb = 8 ∨ densityGb = 12 ∨ densityGb = 16) → Completes (.dramTrained ok ranks densityGb points) s fun t =>
      t.boot.dramTrained = true ∧ t.power.ddrReset = false ∧ t.beam.ranks = ranks ∧ t.beam.densityGb = densityGb) ∧
  (∀ s, s.boot.qualified = true → s.boot.boltReady = false → s.log.safe = false → Completes .boltReady s fun t =>
    t.boot.boltReady = true ∧
      (s.boot.hasPattern = true → s.draft.queue = [] → ∃ c, t.draft.queue = [c] ∧ c.kind = .boot)) ∧
  (∀ s c rest windows, s.draft.queue = c :: rest → c.kind = .boot → boltDown s = false → Completes (.bootCommit windows) s fun t =>
    t.boot.configured = true ∧
      (∀ r, patternItems (s.flash.cfg (s.nat K.bootPatternSlot)) = .error r → t.boot.defaulted = true ∧ t.nat K.bootDefaultCause = 5)) ∧
  (∀ s, s.boot.configured = true → s.boot.imageVerified = false → s.boot.heldOffers = [] → Completes .imageVerified s fun t =>
    t.boot = { s.boot with imageVerified := true }) ∧
  (∀ s, s.boot.configCommitted = true → passed s s.boot.committedAt (s.nat K.bootEncodeStartWaitS * 1000000000) = true →
    Completes .encodeStartWaitExpiry s fun t => t = s.openGate ∧ t.conf = s.conf)

/-- R445, R447, R467: the warm resets that the Selvedge makes by itself, each under its condition. -/
def Obligations.SelvedgeWarmResets : Prop :=
  (∀ s at_, s.boot.activation = some at_ → at_ ≤ nowNs s → s.log.safe = false → Completes .activationInstant s fun t =>
    t.nat K.bootResetCause = 3 ∧ t.boot = {} ∧ governing t.flash = governing (writeSelector s.flash (inactiveSlot s) 1)) ∧
  (∀ s, (governing s.flash).trialState ≠ 0 → s.boot.boltReady = false → s.boot.stayBooting = false → s.log.safe = false →
    passed s 0 1000000000 = true → Completes .trialBoltReadyTimeout s fun t => Afresh s t ∧ t.nat K.bootResetCause = 3) ∧
  (∀ s, s.log.safe = true → s.log.safeCause = 1 → 0 < s.nat K.logSafeStateResetS →
    passed s s.log.safeSince (s.nat K.logSafeStateResetS * 1000000000) = true → CompletesAlways .safeStateResetExpiry s fun t =>
      Afresh s t ∧ t.nat K.bootResetCause = 3) ∧
  (∀ s, s.log.safe = true → s.log.safeCause = 5 → s.int K.govJunctionMax < 950 → 0 < s.nat K.logSafeStateResetS →
    passed s s.log.safeSince (s.nat K.logSafeStateResetS * 1000000000) = true → CompletesAlways .safeStateResetExpiry s fun t =>
      Afresh s t ∧ t.nat K.bootResetCause = 3) ∧
  (∀ s, s.log.safe = false → s.beam.failed = true → 0 < s.nat K.logSafeStateResetS →
    passed s s.beam.failedSince (s.nat K.logSafeStateResetS * 1000000000) = true → CompletesAlways .safeStateResetExpiry s fun t =>
      Afresh s t ∧ t.nat K.bootResetCause = 3) ∧
  (∀ s, s.nat K.logSafeStateResetS = 0 → exec .safeStateResetExpiry s = .next s)

/-! ## The Draft: Shed, objects and commits -/

/-- R58 to R65, R415: a request that arrives at a linked port on which Shed is enabled, that parses, names this device and is not the Fast
Responder's is handled by Bolt at once while Bolt is ready and its queue is empty; a ReadReq that the Fast Responder serves is answered on
the port it came by, in Shed's traffic class (R59), with its type plus 0x80 and its TransactionId, where it can take one and none waits. -/
def Obligations.ShedRequestsAreHandled : Prop :=
  (∀ s p a u msg m, AtBolt s (.port p a u) msg m →
    (m.type = 0x01 → Answers (.readReq (.port p a u) msg) s (.next (s.boltHandle (.port p a u) m))) ∧
    (m.type = 0x02 → Answers (.writeReq (.port p a u) msg) s (.next (s.boltHandle (.port p a u) m))) ∧
    (m.type = 0x03 → Answers (.segmentWriteReq (.port p a u) msg) s (.next (s.boltHandle (.port p a u) m))) ∧
    (m.type = 0x04 → Answers (.commitReq (.message (.port p a u) msg)) s (.next (s.boltHandle (.port p a u) m))) ∧
    (m.type = 0x05 → Answers (.describeReq (.port p a u) msg) s (.next (s.boltHandle (.port p a u) m)))) ∧
  (∀ s p a u msg m, (s.port p.val).linkUp = true → bit (s.nat K.shedShedPortEnable) p.val = true →
    Path.parse (.port p a u) msg = some m → m.target = 0xFF → m.type = 0x01 → fastServes s (.port p a u) m = true →
    fastIdle s = true → fastOldest s = none → Completes (.readReq (.port p a u) msg) s fun t =>
      ∃ v reply rest, t.net.sent = .frame (shedFrame v p.val a u reply) :: rest ∧ (shedFrame v p.val a u reply).cls = s.nat K.shedShedTrafficClass ∧
        patField reply 3 1 = 0x81 ∧ patField reply 16 4 = m.tid % 2 ^ 32) ∧
  (∀ s p a u msg m, AtBolt s (.port p a u) msg m → m.type = 0x86 →
    authOf s (.port p a u) m = .untagged .net ∨ (∃ readOnly, authOf s (.port p a u) m = .full .net readOnly) →
    Completes (.eventAck (.port p a u) msg) s fun t =>
      ∀ i v, v ∈ AMap.getD t.draft.unacked i [] → v.tid ≠ m.tid)

/-- R49: what is staged does not show in a read; only StagedCount and StagedBytes tell of it. -/
def Obligations.StagedValuesAreNotRead : Prop :=
  ∀ (s : State) (host net chain : StageSet) (p : Prin) (idx sub : Nat),
    objKey idx sub ≠ K.commitStagedCount → objKey idx sub ≠ K.commitStagedBytes →
      (State.readItem { s with draft := { s.draft with host := host, net := net, chain := chain } } p idx sub).2 = (s.readItem p idx sub).2

/-- R47, R48: a value that passes its checks for an object that the principal stages (RWC), whose function is not twill-held, enters that
principal's staging set, where the set keeps its limits, and nothing in force or committed changes.
R47, R48, R50, R51: a CommitTag write moves the writer's staged set into the commit queue and is answered Ok; a discard and the 60 s time
limit empty it; a Selvedge write of an RWC object enters the queue as a commit of that object; the commit whose validation is done leaves the
queue. -/
def Obligations.WritesAndCommitsAreTaken : Prop :=
  (∀ (s : State) (p : Prin) (idx sub ty : Nat) (data : Bytes) (d : ObjDef) (v : Val),
     p ≠ .selvedge → lookup idx sub = .ok d → d.acc.of p = .rwc → checkValue d idx sub ty data = .ok v →
     (d.ty ≠ .octets ∨ data.length ≤ 1024) → readOnlyFlow s p idx = false → heldPlain s idx = false →
     ((s.touch p).stageWrite p (keyFor s p idx sub) v).2 = stStaged →
       (s.writeItem p idx sub ty data).2 = stStaged ∧
       AMap.find? ((s.writeItem p idx sub ty data).1.stage p).items (keyFor s p idx sub) = some v ∧
       (s.writeItem p idx sub ty data).1.objs = s.objs ∧ (s.writeItem p idx sub ty data).1.conf = s.conf) ∧
  ((∀ s p tag, boltDown s = false → 0 < tag → tag < 2 ^ 32 → s.draft.queue.length < 4 → (s.stage p).items ≠ [] → p ≠ .selvedge →
     Unheld s K.commitCommitTag → Completes (.commitReq (.object p tag)) s fun t =>
       (t.stage p).items = [] ∧ t.objs = s.objs ∧ t.conf = s.conf ∧ t.net.sent = .reply p K.commitCommitTag stOk :: s.net.sent ∧
         ∃ c, t.draft.queue = s.draft.queue ++ [c] ∧ c.prin = p ∧ c.tag = tag ∧ c.items = (s.stage p).items) ∧
   (∀ s p, boltDown s = false → p ≠ .selvedge → Unheld s K.commitDiscard → Completes (.discard p) s fun t =>
     (t.stage p).items = [] ∧ t.objs = s.objs ∧ t.conf = s.conf ∧ t.draft.queue = s.draft.queue) ∧
   (∀ s key val d, findDef (keyIdx key) (keySub key) = some d → boltDown s = false → d.acc.of .selvedge = .rwc →
     valueOk d (keyIdx key) (keySub key) val = true → readOnlyFlow s .selvedge (keyIdx key) = false → heldPlain s (keyIdx key) = false →
     s.draft.queue.length < 4 → Completes (.selvedgeObjectCommit key val) s fun t =>
       ∃ c, t.draft.queue = s.draft.queue ++ [c] ∧ c.prin = .selvedge ∧
         c.items = [(keyFor s .selvedge (keyIdx key) (keySub key), val)]) ∧
   (∀ s c windows, s.draft.queue = [c] → c.kind = .tagged ∨ c.kind = .oneObject → boltDown s = false →
     Completes (.commitValidationDone windows) s fun t =>
       (∀ r, verdict s c.items = .error r → t.draft.queue = [] ∧ t.objs = s.objs ∧ t.conf = s.conf ∧
         counterOf t 46 = (counterOf s 46 + 1) % 2 ^ 48) ∧
       (∀ d, verdict s c.items = .ok d → t.conf = confAfter s d.items d.releases)) ∧
   (∀ s p, p = .net ∨ p = .chain → passed s (s.stage p).lastWrite 60000000000 = true → Completes (.stagingSetTimeout p) s fun t =>
     (t.stage p).items = [] ∧ (∀ x ∈ t.draft.partials, x.prin ≠ p) ∧ t.objs = s.objs ∧ t.conf = s.conf))

/-! ## Faults, freezes and the Mending Log -/

/-- R23, R403, R434, R461, R464, R465, R466: each cause of device safe state but NestingLimit puts the device in it, and the entry of the
causes that the sequencer enters carries FromAon. From the loss of the Spindle to a reset every clock divided from it stands still: no time
passes, and no command but those that have a clock of their own has an effect. -/
def Obligations.CausesOfDeviceSafeState : Prop :=
  (∀ s : State, s.boot.clocksLost = true → (∀ i, onOwnClock i = false → exec i s = .next s) ∧ (s.pending = [] → step s = .next s)) ∧
  ∀ s : State, s.log.safe = false →
    (s.boot.spindle = true → CompletesAlways .spindleUnlock s fun t => SafeEntered s 4 true t ∧ t.boot.spindle = false ∧ t.boot.clocksLost = true) ∧
    CompletesAlways .lockstepMismatch s (SafeEntered s 3 true) ∧
    (∀ x, s.gov.tripSince = some x → passed s x 1000000 = true → CompletesAlways .thermalTrip s (SafeEntered s 5 false)) ∧
    (s.log.handlers ≠ [] → Completes .handlerFault s (SafeEntered s 2 true)) ∧
    (∀ h rest, s.log.handlers = h :: rest → passed s h.since 1000000 = true → Completes .handlerTimeout s (SafeEntered s 2 true))

/-- R458, R459, R460, R469, R470: an entry that is written takes the next sequence number and its slot; one below Error carries incident 0;
an Error or Fatal one opens the next incident where no handler is open, nests with its depth where fewer than five are, and at depth 5 is
Fatal, Escalated and puts the device in safe state. -/
def Obligations.LogEntriesAreWritten : Prop :=
  ∀ (s : State) (r : LogReq) (rest : List LogReq), s.log.intake = r :: rest → r.action = none →
    (r.severity < 3 → Completes .logEntryWrite s
      (EntryWritten s r { incident := 0, depth := 0, flags := r.flags, severity := r.severity })) ∧
    (3 ≤ r.severity → bit r.flags 2 = false → s.log.handlers = [] → Completes .logEntryWrite s fun t =>
      EntryWritten s r { incident := s.log.lastIncident + 1, depth := 0, flags := r.flags, severity := r.severity } t ∧
        t.log.openIncident = s.log.lastIncident + 1 ∧ t.log.lastIncident = s.log.lastIncident + 1 ∧ t.log.handlers.length = 1) ∧
    (3 ≤ r.severity → bit r.flags 2 = false → s.log.handlers ≠ [] →
      (∀ h ∈ s.log.handlers, ¬(h.source = r.source ∧ h.code = r.code ∧ h.unit = r.unit ∧ h.master = r.master)) →
      (s.log.handlers.length < 5 → Completes .logEntryWrite s fun t =>
        EntryWritten s r { incident := s.log.openIncident, depth := s.log.handlers.length, flags := r.flags + 1, severity := r.severity } t ∧
          t.log.handlers.length = s.log.handlers.length + 1) ∧
      (5 ≤ s.log.handlers.length → s.log.safe = false → Completes .logEntryWrite s fun t =>
        SafeEntered s 1 false t ∧ t.log.handlers = [] ∧ t.log.newest = s.log.newest + 2))

/-- R455, R456, R459, R462, R472, R474: the other commands of the log: an event sets its source's pending bit, and a write of LOG_PENDING
clears the bits that it writes 1; the next handler runs once one has completed; the window of a tracker ends after one second; LOG_RDPTR
takes what is written to it. -/
def Obligations.LogCommands : Prop :=
  (∀ s source code master unit detail severity, isSource source = true → isDoorbell source = false →
    Completes (.eventRaise source code master unit detail severity) s fun t =>
      bit t.log.pending source = true ∧ t.objs = s.objs ∧ t.conf = s.conf) ∧
  (∀ s source code master unit detail severity, isDoorbell source = true → Completes (.eventRaise source code master unit detail severity) s
    fun t => (AMap.find? s.shtl.bound source = none → t = s)) ∧
  (∀ s h rest, s.log.handlers = h :: rest → handlerDone s h = true → Completes .handlerComplete s fun t =>
    t.log.handlers = rest ∧ (rest = [] → t.log.openIncident = 0)) ∧
  (∀ s x, x ∈ s.log.trackers → passed s x.start 1000000000 = true →
    (∀ y ∈ s.log.trackers, y.source = x.source → y.code = x.code → y.master = x.master → y.unit = x.unit → y = x) →
    Completes (.trackerWindowEnd x.source x.code x.master x.unit) s fun t => x ∉ t.log.trackers ∧ t.log.entries = s.log.entries) ∧
  (∀ s w bits, Completes (.logPendingClear w bits) s fun t =>
    (∀ i, bit t.log.pending i = (bit s.log.pending i && !(decide (32 * w ≤ i) && decide (i < 32 * w + 32) && bits.getLsbD (i - 32 * w)))) ∧
      t.log.entries = s.log.entries ∧ t.objs = s.objs) ∧
  (∀ s val, Completes (.logRdptrWrite val) s fun t => t.log.rdptr = val.toNat ∧ t.log.entries = s.log.entries ∧ t.objs = s.objs)

/-- R19, R186, R437, R439: a freeze of a master that is not frozen sets its bit and begins a record of its cause, address and instant; of a
loom it notes the heddle lanes that reported the fault in LaneFault; masters 0 and 1 are never frozen; a firewall violation before the record
is counted in it; 20 µs after the freeze the record is taken and shows in the Freeze objects. -/
def Obligations.FreezesAreRecorded : Prop :=
  (∀ s m cause addr target lanes, 2 ≤ m.val → s.log.safe = false → AMap.find? s.fab.freezes m.val = none →
    Completes (.freeze m cause addr ⟨target, lanes⟩) s fun t =>
      t.isFrozen m.val = true ∧
        (∃ x : FreezeSt, AMap.find? t.fab.freezes m.val = some x ∧ x.cause = cause ∧ x.addr = addr ∧ x.recorded = false ∧
          x.thawing = false ∧ x.since = s.clk.ticks ∧ x.heldFrozen = decide (2 ≤ (recentFreezes s m.val).length)) ∧
        (11 ≤ m.val → m.val < 27 → (t.loom (m.val - 11)).laneFault = (s.loom (m.val - 11)).laneFault ||| lanes % 16)) ∧
  (∀ s m cause addr target lanes, m.val < 2 → exec (.freeze m cause addr ⟨target, lanes⟩) s = .next s) ∧
  (∀ s m x addr target lanes, 2 ≤ m.val → s.log.safe = false → AMap.find? s.fab.freezes m.val = some x → x.thawing = false →
    x.recorded = false → Completes (.freeze m .firewall addr ⟨target, lanes⟩) s fun t => t.objs = s.objs ∧ t.fab.frozen = s.fab.frozen ∧
      AMap.find? t.fab.freezes m.val = some { x with violations := min 65535 (x.violations + 1) }) ∧
  (∀ s m x, AMap.find? s.fab.freezes m.val = some x → x.recorded = false → x.thawAsked = false → passed s x.since 20000 = true →
    Completes (.freezeRecord m) s fun t =>
      t.nat K.frzLastMaster = m.val ∧ t.nat K.frzLastCause = x.cause.code ∧ t.nat K.frzLastAddress = x.addr ∧
        AMap.find? t.fab.freezes m.val = some { x with recorded := true } ∧ t.fab.frozen = s.fab.frozen)

/-- R439: masters are frozen and thawed by command; a command is refused for a master that does not exist, for the Selvedge, for a freeze of
one that is frozen or a thaw of one that is not, for the Chain, and for the host that names master 10; an Auto master thaws by itself after
10 ms unless three freezes hold it; a thaw that completes releases the master. R58: a Bolt core whose watchdog expires is frozen. -/
def Obligations.MastersAreThawed : Prop :=
  (∀ s prin m, prin ≠ .chain → 2 ≤ m → m < 40 → s.isFrozen m = false → ¬(prin = .host ∧ m = 10) → s.log.safe = false →
    AMap.find? s.fab.freezes m = none → Unheld s K.frzFreezeMaster → Completes (.freezeMaster prin m) s fun t =>
      t.isFrozen m = true ∧ t.net.sent.head? = some (.reply prin K.frzFreezeMaster stOk)) ∧
  (∀ s prin m, m < 2 ∨ 40 ≤ m ∨ s.isFrozen m = true ∨ prin = .chain ∨ (prin = .host ∧ m = 10) → Completes (.freezeMaster prin m) s fun t =>
    t.fab = s.fab ∧ t.objs = s.objs ∧ ∃ st, st ≠ stOk ∧ t.net.sent = .reply prin K.frzFreezeMaster st :: s.net.sent) ∧
  (∀ s prin m x, prin ≠ .chain → 2 ≤ m → m < 40 → s.isFrozen m = true → s.log.safe = false → AMap.find? s.fab.freezes m = some x →
    x.thawing = false → (s.nat (K.frzThawPolicy m) = 0 ∨ x.heldFrozen = true) → Unheld s K.frzThawMaster →
    Completes (.thawMaster prin m) s fun t => t.net.sent.head? = some (.reply prin K.frzThawMaster stOk) ∧
      AMap.find? t.fab.freezes m =
        some (if x.recorded then { x with thawing := true, thawAsked := false } else { x with thawAsked := true })) ∧
  (∀ s prin m, m < 2 ∨ 40 ≤ m ∨ s.isFrozen m = false ∨ prin = .chain → Completes (.thawMaster prin m) s fun t =>
    t.fab = s.fab ∧ t.objs = s.objs ∧ ∃ st, st ≠ stOk ∧ t.net.sent = .reply prin K.frzThawMaster st :: s.net.sent) ∧
  (∀ s m x, s.log.safe = false → AMap.find? s.fab.freezes m.val = some x → x.thawing = false → x.heldFrozen = false →
    s.nat (K.frzThawPolicy m.val) = 1 → passed s x.since 10000000 = true → Completes (.autoThaw m) s fun t =>
      AMap.find? t.fab.freezes m.val =
        some (if x.recorded then { x with thawing := true, thawAsked := false } else { x with thawAsked := true })) ∧
  (∀ s m x, s.log.safe = false → AMap.find? s.fab.freezes m.val = some x → x.heldFrozen = true → exec (.autoThaw m) s = .next s) ∧
  (∀ s m x, s.log.safe = false → AMap.find? s.fab.freezes m.val = some x → x.thawing = true → (m.val < 11 ∨ 27 ≤ m.val) →
    Completes (.thawComplete m) s fun t => t.isFrozen m.val = false ∧ AMap.find? t.fab.freezes m.val = none) ∧
  (∀ s c x, s.log.safe = false → s.isFrozen (2 + c.val) = false → AMap.find? s.fab.freezes (2 + c.val) = none → (s.core c.val).running = some x →
    passed s (s.core c.val).lastCommand (s.nat K.frzWatchdogMs * 1000000) = true → Completes (.boltWatchdogExpiry c) s fun t =>
      t.isFrozen (2 + c.val) = true ∧ (t.core c.val).running = none ∧ (t.thread x).state = .cancelled)

/-! ## Bolt's queues, the mailbox and PCIe -/

/-- R58, R64: Bolt takes the oldest message of a queue and handles it, unless the Fast Responder has answered it; the Fast Responder answers
one that has waited 2 ms with NotReady; an EventNotify without its EventAck is sent again up to three times and is then lost. -/
def Obligations.WaitingMessagesAreServed : Prop :=
  (∀ s n q rest, boltDown s = false → AMap.getD s.draft.boltQ n [] = q :: rest →
    (q.timedOut = true → Answers (.boltRequestHandled n) s
      (.next { s with draft := { s.draft with boltQ := AMap.put s.draft.boltQ n rest } })) ∧
    (q.timedOut = false → q.kind = 0 → ∀ m, q.path.parse q.bytes = some m → Answers (.boltRequestHandled n) s
      (.next (State.boltHandle { s with draft := { s.draft with boltQ := AMap.put s.draft.boltQ n rest } } q.path m)))) ∧
  (∀ s n x rest p a u m, AMap.getD s.draft.boltQ n [] = x :: rest → x.timedOut = false → s.boot.boltReady = true →
    passed s x.since 2000000 = true → x.kind = 0 → x.path = .port p a u → Path.parse x.path x.bytes = some m → m.type < 0x80 →
    Completes (.boltReplyTimeout n) s fun t =>
      AMap.getD t.draft.boltQ n [] = { x with timedOut := true } :: rest ∧
        ∃ v reply, t.net.sent = .frame (shedFrame v p.val a u reply) :: s.net.sent ∧ patField reply 3 1 = m.type + 0x80 ∧
          patField reply 16 4 = m.tid % 2 ^ 32 ∧ patField reply 26 2 = stNotReady) ∧
  (∀ s n tid u, (AMap.getD s.draft.unacked n []).find? (fun v => v.tid == tid) = some u → passed s u.lastSent 10000000 = true →
    Completes (.eventNotifyResend n tid) s fun t =>
      (u.resends < 3 → (∀ v ∈ AMap.getD t.draft.unacked n [], v.tid = tid → v.lastSent = s.clk.ticks ∧ 1 ≤ v.resends) ∧
        ∃ v : State, v.net = s.net ∧ v.objs = s.objs ∧ v.log = s.log ∧
          t = v.sendFrame (shedFrame v (s.nat (K.shedPort n)) (s.obj (K.shedDestAddress n)).toBytes (s.nat (K.shedUdpPort n)) u.bytes)) ∧
      (3 ≤ u.resends → (∀ v ∈ AMap.getD t.draft.unacked n [], v.tid ≠ tid) ∧
        AMap.getD t.draft.notifyLost n 0 = AMap.getD s.draft.notifyLost n 0 + 1))

/-- R71, R72: the mailbox: a request makes its slot Busy; one for fast objects waits for the Fast Responder; any other goes to Bolt, which
handles it at once where it is ready with nothing waiting, or else stands at the end of Bolt's queue; the answer makes the slot Done and not
Busy, clearing Done frees it, and Overrun is cleared by its own command; a request to a slot that is Busy or Done only sets Overrun. While
master 10 is frozen a write is dropped and counted (R69). A length of 0 is one of 4,096 bytes. -/
def Obligations.MailboxSlots : Prop :=
  (∀ (s : State) (n : MailSlot) (len : Nat), s.isFrozen 10 = false → (s.mail n).busy = true ∨ (s.mail n).done = true →
    Completes (.mailboxSubmit n len) s fun t => t.mail n = { s.mail n with overrun := true }) ∧
  (∀ (s : State) (n : MailSlot) (len : Nat) (m : Shed), s.isFrozen 10 = false → (s.mail n).busy = false → (s.mail n).done = false →
    Path.parse (.mailbox n) (Memory.readBytes (s.mail n).request 0 (if len = 0 then 4096 else len)) = some m → m.target = 0xFF →
    m.type < 0x80 →
      (fastServes s (.mailbox n) m = true → Completes (.mailboxSubmit n len) s fun t =>
        (t.mail n).busy = true ∧ (t.mail n).submitCount = ((s.mail n).submitCount + 1) % 256 ∧
          (t.mail n).fastReq = some (Memory.readBytes (s.mail n).request 0 (if len = 0 then 4096 else len)) ∧
          t.objs = s.objs ∧ t.conf = s.conf) ∧
      (fastServes s (.mailbox n) m = false → s.log.safe = false → boltDown s = true ∨ AMap.getD s.draft.boltQ 9 [] ≠ [] →
        Completes (.mailboxSubmit n len) s fun t => (t.mail n).busy = true ∧ t.objs = s.objs ∧ t.conf = s.conf ∧
          ∃ q, AMap.getD t.draft.boltQ 9 [] = AMap.getD s.draft.boltQ 9 [] ++ [q] ∧ q.path = .mailbox n ∧
            q.bytes = Memory.readBytes (s.mail n).request 0 (if len = 0 then 4096 else len)) ∧
      (fastServes s (.mailbox n) m = false → s.log.safe = false → boltDown s = false → AMap.getD s.draft.boltQ 9 [] = [] →
        ∃ u : State, (u.mail n).busy = true ∧ u.objs = s.objs ∧ u.conf = s.conf ∧ u.draft.boltQ = s.draft.boltQ ∧
          Answers (.mailboxSubmit n len) s (.next (u.boltHandle (.mailbox n) m)))) ∧
  (∀ (s : State) (n : MailSlot) (r : Bytes), (s.mail n).busy = true → (s.mail n).reply = some r → Completes (.mailboxDone n) s fun t =>
    (t.mail n).busy = false ∧ (t.mail n).done = true ∧ (t.mail n).response = r ∧ (t.mail n).responseLength = r.length % 4096) ∧
  (∀ (s : State) (n : MailSlot) (b : Bytes) (m : Shed), (s.mail n).busy = true → (s.mail n).reply = none → (s.mail n).fastReq = some b →
    Path.parse (.mailbox n) b = some m → Completes (.mailboxDone n) s fun t => (t.mail n).busy = false ∧ (t.mail n).done = true) ∧
  (∀ (s : State) (n : MailSlot), s.isFrozen 10 = false → (s.mail n).done = true → Completes (.mailboxClearDone n) s fun t =>
    (t.mail n).done = false ∧ (t.mail n).busy = (s.mail n).busy ∧ (t.mail n).submitCount = (s.mail n).submitCount ∧ t.objs = s.objs) ∧
  (∀ (s : State) (n : MailSlot), s.isFrozen 10 = false → Completes (.mailboxClearOverrun n) s fun t =>
    t.mail n = { s.mail n with overrun := false }) ∧
  (∀ (s : State) (n : MailSlot) (len : Nat), s.isFrozen 10 = true →
    Completes (.mailboxSubmit n len) s (fun t => t.pcie = { s.pcie with droppedWrites := s.pcie.droppedWrites + 1 } ∧ t.objs = s.objs) ∧
    Completes (.mailboxClearDone n) s (fun t => t.pcie = { s.pcie with droppedWrites := s.pcie.droppedWrites + 1 } ∧ t.objs = s.objs) ∧
    Completes (.mailboxClearOverrun n) s (fun t => t.pcie = { s.pcie with droppedWrites := s.pcie.droppedWrites + 1 } ∧ t.objs = s.objs))

/-- R73, R74, R75, R76: the registers of the DMA rings, the fetching of descriptors, and a descriptor's completion: one in error stops its
ring, and every one moves Head past it. -/
def Obligations.RingsRun : Prop :=
  (∀ s (r : RingId) log2, s.isFrozen 10 = false → ringServed s r.val = true →
    (r.val < 48 → (s.ring r.val).enable = false → 4 ≤ log2 → log2 ≤ 16 → Completes (.ringEnable r log2) s fun t =>
      t.ring r.val = { s.ring r.val with enable := true, log2Size := log2, head := (s.ring r.val).tail % 2 ^ log2,
                                         stopped := (s.ring r.val).error, fetched := [] }) ∧
    (48 ≤ r.val → exec (.ringEnable r log2) s = .next s) ∧
    ((s.ring r.val).enable = true → Completes (.ringDisable r) s fun t =>
      (t.ring r.val).enable = false ∧ (t.ring r.val).stopped = true ∧ (t.ring r.val).fetched = [] ∧ t.dram = s.dram) ∧
    (∀ tail host, Completes (.ringTailWrite r ⟨tail, host⟩) s fun t =>
      t.ring r.val = RingSt.fetch { s.ring r.val with tail := tail % 65536 } host) ∧
    ((s.ring r.val).error = true → Completes (.ringErrorClear r) s fun t =>
      t.ring r.val = { s.ring r.val with error := false, stopped := !(s.ring r.val).enable })) ∧
  (∀ s (r : RingId) host x d data hostOk, s.isFrozen 10 = false → ringServed s r.val = true → (s.ring r.val).enable = true →
    (s.ring r.val).stopped = false → (s.ring r.val).fetch host = x → x.front = some d →
    (descError s r.val d hostOk ≠ 0 → Completes (.dmaDescriptorComplete r host data hostOk) s
      fun t => t.ring r.val =
        { x with head := (x.head + 1) % 2 ^ x.log2Size, fetched := x.fetched.drop 1, error := true, stopped := true,
                 lastError := descError s r.val d hostOk } ∧ t.dram = s.dram ∧ t.isFrozen 10 = false) ∧
    (descError s r.val d hostOk = 0 → 16 ≤ r.val → r.val < 34 → data.length = d.length → d.endOfUnit = false → s.beam.failed = false →
      Completes (.dmaDescriptorComplete r host data hostOk) s fun t => t.dram = Memory.writeBytes s.dram d.devAddr data ∧
        t.ring r.val = { x with head := (x.head + 1) % 2 ^ x.log2Size, fetched := x.fetched.drop 1 }) ∧
    (descError s r.val d hostOk = 0 → 38 ≤ r.val → d.irq = false →
      Completes (.dmaDescriptorComplete r host data hostOk) s fun t => t.dram = s.dram ∧
        (∃ status, t.net.sent = status :: .host d.hostAddr (dramRead s d.devAddr d.length) :: s.net.sent) ∧
        t.ring r.val = { x with head := (x.head + 1) % 2 ^ x.log2Size, fetched := x.fetched.drop 1 }))

/-- R66, R69, R70, R78, R410, R457: the PCIe function's resets, its link, which comes up at a rate and a width that it supports only, its
errors and its vectors. The places of the MSI-X Enable and Function Mask bits are the model's (log entry 114).
R68, R69, R464: an access to the DRAM through BAR2 within the HostDramWindows reads or writes the DRAM at the window's address, and one
outside them freezes the PCIe function; while it is frozen a write is dropped and counted and a read ends with Completer Abort; in device safe
state there is no effect. -/
def Obligations.PcieFunctionAndBar2 : Prop :=
  ((∀ s, CompletesAlways .functionLevelReset s fun t =>
     (∀ r, r < 48 → (t.ring r).enable = false) ∧ (∀ n, t.mail n = {}) ∧ (∀ v, (t.vec v).masked = true) ∧ t.pcie.config = {} ∧
       t.draft.host.items = [] ∧ t.draft.queue = s.draft.queue ∧ t.objs = s.objs ∧ t.conf = s.conf ∧ t.dram = s.dram) ∧
   (∀ s, CompletesAlways .pcieFundamentalReset s fun t =>
     (∀ r, r < 48 → (t.ring r).enable = false) ∧ (∀ n, t.mail n = {}) ∧ (∀ v, (t.vec v).masked = true) ∧ t.pcie.config = {} ∧
       t.draft.host.items = [] ∧ t.draft.queue = s.draft.queue ∧ t.objs = s.objs ∧ t.conf = s.conf ∧ t.dram = s.dram ∧
       t.pcie.linkUp = false) ∧
   (∀ s up rate width, up = false ∨ pcieSupports rate width = true → CompletesAlways (.pcieLinkChange up rate width) s fun t =>
     t.pcie.linkUp = up ∧ (up = true → t.pcie.linkRate = rate ∧ t.pcie.linkWidth = width) ∧ t.objs = s.objs) ∧
   (∀ s rate width, pcieSupports rate width = false → exec (.pcieLinkChange true rate width) s = .next s) ∧
   (∀ s u, CompletesAlways (.pcieError u) s fun t => bit t.log.pending 8 = true ∧ t.objs = s.objs) ∧
   (∀ s (v : VectorId), s.isFrozen 10 = false → (s.vec v.val).masked = true → Completes (.msixUnmask v) s fun t =>
     (t.vec v.val).masked = false ∧
       ((s.vec v.val).pba = false → (t.vec v.val).pba = false ∧ t.net.sent = s.net.sent) ∧
       (s.pcie.config.functionMask = true → (t.vec v.val).pba = (s.vec v.val).pba ∧ t.net.sent = s.net.sent) ∧
       ((s.vec v.val).pba = true → (s.vec v.val).lastSent = none → s.pcie.config.functionMask = false → s.pcie.config.msixEnable = true →
         (t.vec v.val).pba = false ∧ t.net.sent =
           .msix v.val ((s.vec v.val).addrHi.toNat * 2 ^ 32 + (s.vec v.val).addrLo.toNat) (s.vec v.val).data.toNat :: s.net.sent)) ∧
   (∀ s (v : VectorId) x, (s.vec v.val).waiting = true → (s.vec v.val).lastSent = some x →
     passed s x (s.nat (K.irqMinIntervalUs v.val) * 1000) = true → Completes (.msixIntervalExpiry v) s fun t =>
       (t.vec v.val).waiting = false ∧
       ((s.vec v.val).masked = true ∨ s.pcie.config.functionMask = true → (t.vec v.val).pba = true ∧ t.net.sent = s.net.sent) ∧
       ((s.vec v.val).masked = false → s.pcie.config.functionMask = false → s.pcie.config.msixEnable = true → t.net.sent =
         .msix v.val ((s.vec v.val).addrHi.toNat * 2 ^ 32 + (s.vec v.val).addrLo.toNat) (s.vec v.val).data.toNat :: s.net.sent))) ∧
  (∀ s off len wdata, 0 < len → s.isFrozen 10 = false → s.log.safe = false →
     (hostMay s (s.nat K.irqBar2Window * 2 ^ 32 + off % 2 ^ 32) len wdata.isSome = true → s.beam.failed = false →
       Completes (.bar2Access off len wdata) s fun t =>
         (wdata = none → t.dram = s.dram ∧
           AMap.find? t.fab.readData 10 = some (dramRead s (s.nat K.irqBar2Window * 2 ^ 32 + off % 2 ^ 32) len)) ∧
         (∀ b, wdata = some b → ∀ a, Memory.read t.dram a =
           if s.nat K.irqBar2Window * 2 ^ 32 + off % 2 ^ 32 ≤ a ∧ a < s.nat K.irqBar2Window * 2 ^ 32 + off % 2 ^ 32 + (b.take len).length then
             (b.take len).getD (a - (s.nat K.irqBar2Window * 2 ^ 32 + off % 2 ^ 32)) 0
           else Memory.read s.dram a)) ∧
     (hostMay s (s.nat K.irqBar2Window * 2 ^ 32 + off % 2 ^ 32) len wdata.isSome = false → AMap.find? s.fab.freezes 10 = none →
       Completes (.bar2Access off len wdata) s fun t => t.isFrozen 10 = true ∧ SameMemory s t)) ∧
  (∀ s off len wdata, s.log.safe = true → exec (.bar2Access off len wdata) s = .next s) ∧
  (∀ s off len, s.log.safe = false → s.isFrozen 10 = true → 0 < len →
     (∀ b, Completes (.bar2Access off len (some b)) s fun t =>
       t = { s with pcie := { s.pcie with droppedWrites := s.pcie.droppedWrites + 1 } }) ∧
     Completes (.bar2Access off len none) s fun t => t.net.sent = .completerAbort :: s.net.sent ∧ SameMemory s t)

/-! ## The register ring and the fabric -/

/-- R11, R67, R69, R74, R77, R78, R464: the host's register writes: a ring's base takes one only while its Enable is 0, an MSI-X entry takes
its address and data, LOG_PENDING clears; a write to an address that is no word, one that safe state does not serve and one in BAR0 while
master 10 is frozen change no register. -/
def Obligations.RegisterWrites : Prop :=
  ∀ (s : State) (v : Word),
    (s.isFrozen 10 = false → s.log.safe = false →
      (∀ r : RingId, (s.ring r.val).enable = false → Completes (.registerWrite (0x80000 + 64 * r.val) v) s fun t =>
        t.ring r.val = { s.ring r.val with baseLo := v &&& 0xFFFFFFC0 }) ∧
      (∀ r : RingId, (s.ring r.val).enable = false → Completes (.registerWrite (0x80004 + 64 * r.val) v) s fun t =>
        t.ring r.val = { s.ring r.val with baseHi := v }) ∧
      (∀ r : RingId, (s.ring r.val).enable = true → exec (.registerWrite (0x80000 + 64 * r.val) v) s = .next s) ∧
      (∀ n : VectorId, Completes (.registerWrite (0xF0000 + 16 * n.val) v) s fun t =>
        t.vec n.val = { s.vec n.val with addrLo := v &&& 0xFFFFFFFC }) ∧
      (∀ n : VectorId, Completes (.registerWrite (0xF0008 + 16 * n.val) v) s fun t => t.vec n.val = { s.vec n.val with data := v }) ∧
      (∀ w, w < 20 → exec (.registerWrite (0x2E00000 + 4 * w) v) s = exec (.logPendingClear w v) s) ∧
      (exec (.registerWrite 0x2E00108 v) s = exec (.logRdptrWrite v) s) ∧
      (∀ a, a % 4 ≠ 0 → exec (.registerWrite a v) s = .next s)) ∧
    (s.isFrozen 10 = false → s.log.safe = true → ∀ a, a < 0x80880 → exec (.registerWrite a v) s = .next s) ∧
    (s.isFrozen 10 = true → ∀ a, a < 2 ^ 32 → Completes (.registerWrite a v) s fun t =>
      t = { s with pcie := { s.pcie with droppedWrites := s.pcie.droppedWrites + 1 } })

/-- R14, R17, R18, R24, R25, R435, R437: a transaction that is well formed: one outside its master's windows freezes the master and changes no
memory, one that finds no tag, or an earlier one of its master waiting for one, waits for one, a layer context of the Press whose entries are
full stalls, one on the DRAM waits at its memory port, and one on the SRAM reads or writes the bytes of its range at once. A transaction that
is not well formed, or that names no place, faults by name (the model's own).
R15, R25, R475: a transaction that has completed, and that no earlier one of its master, stream and port precedes, returns its tag: a read's
data reach the master, its counter advances, and its first transaction that waits for a tag is issued. -/
def Obligations.FabricTransactionsAndTags : Prop :=
  ((∀ s t, txnForm t = false → Answers (.fabricTransaction t) s (.fault .badTransaction)) ∧
   (∀ s t, txnForm t = true → t.master < 2 → txnPlace t = false → Answers (.fabricTransaction t) s (.fault .noSuchAddress)) ∧
   (∀ s t, txnForm t = true → 2 ≤ t.master ∨ txnPlace t = true → s.isFrozen t.master = false → tileStalls s t = true →
     exec (.fabricTransaction t) s = .next s) ∧
   (∀ s t, txnForm t = true → 2 ≤ t.master → s.isFrozen t.master = false → tileStalls s t = false → tagsHeld s t.master < tagShare t.master →
     (s.fab.stalled.any fun u => u.master == t.master) = false → passes s t = false →
     s.log.safe = false → AMap.find? s.fab.freezes t.master = none → Completes (.fabricTransaction t) s fun u =>
       u.isFrozen t.master = true ∧ SameMemory s u ∧ ∀ x ∈ u.fab.inflight, x.2.txn.master ≠ t.master) ∧
   (∀ s t, txnForm t = true → (2 ≤ t.master ∨ txnPlace t = true) → s.isFrozen t.master = false → tileStalls s t = false →
     tagShare t.master ≤ tagsHeld s t.master ∨ (s.fab.stalled.any fun u => u.master == t.master) = true →
     Completes (.fabricTransaction t) s fun u =>
       u.fab.stalled = s.fab.stalled ++ [t] ∧ u.fab.inflight = s.fab.inflight ∧ u.objs = s.objs ∧ SameMemory s u) ∧
   (∀ s t, txnForm t = true → (2 ≤ t.master ∨ txnPlace t = true) → s.isFrozen t.master = false → tileStalls s t = false →
     tagsHeld s t.master < tagShare t.master → (s.fab.stalled.any fun u => u.master == t.master) = false → passes s t = true →
     (t.target = .dram → Completes (.fabricTransaction t) s fun u =>
       u.fab.inflight = s.fab.inflight ++ [(s.fab.nextTxn, ({ txn := t, accepted := false, done := false, data := [] } : Flight))] ∧
         u.objs = s.objs ∧ SameMemory s u) ∧
     (t.target = .sram → t.wdata = none → Completes (.fabricTransaction t) s fun u => SameMemory s u ∧ u.objs = s.objs ∧
       u.fab.inflight = s.fab.inflight ++ [(s.fab.nextTxn,
         ({ txn := t, accepted := true, done := true, data := (List.range t.len).map fun i => sramByte s (t.addr + i) } : Flight))]) ∧
     (∀ d, t.target = .sram → t.wdata = some d → Completes (.fabricTransaction t) s fun u => u.objs = s.objs ∧
       (∀ a, Memory.read u.dram a = Memory.read s.dram a) ∧
       ∀ a, Memory.read u.sram a =
         if t.addr ≤ a ∧ a < t.addr + t.len ∧ plainSram s a = true then d.getD (a - t.addr) 0 else Memory.read s.sram a))) ∧
  (∀ s (m : MasterId) n f, s.fab.inflight.find? (fun (e : Nat × Flight) => e.2.txn.master == m.val && mayReturn s e) = some (n, f) →
     (s.fab.stalled.find? (fun t => t.master == m.val) = none → Completes (.fabricTagReturned m) s fun t =>
       t.fab.inflight = AMap.del s.fab.inflight n ∧ counterOf t m.val = (counterOf s m.val + 1) % 2 ^ 48 ∧ SameMemory s t ∧
         (f.txn.wdata = none → AMap.find? t.fab.readData m.val = some f.data)) ∧
     (∀ w, s.fab.stalled.find? (fun t => t.master == m.val) = some w → ∃ u : State,
       u.fab.inflight = AMap.del s.fab.inflight n ∧ u.fab.stalled = s.fab.stalled.erase w ∧
         counterOf u m.val = (counterOf s m.val + 1) % 2 ^ 48 ∧ SameMemory s u ∧ Answers (.fabricTagReturned m) s (.next (u.issue w))))

/-! ## The Reed -/

/-- R81, R82, R85, R87, R89, R92: a source's pictures, its lines, their end and its links: a picture takes a slot; with four slots held it
stalls the ring of a host source, and the oldest picture newer than the one being read gives its slot to one of a live source, counted as a
skip; a link's part of a line enters the picture that arrives, at its place in it, counts as a sign of the source and ends an absence; an SDI
source whose format differs, and any that has delivered no line for a picture period, is absent; a lost link is marked and raised, and the
loss of all makes the source absent. -/
def Obligations.SourcesAreFollowed : Prop :=
  ∀ (s : State) (c : Chan),
    (sourceWritten s c.val = true → s.nat (K.reedSourceType c.val) ≠ 0 →
      s.nat (K.reedSourceType c.val) = 4 → (s.reed c.val).arriving = none →
      ((s.reed c.val).slots.length < 4 → Completes (.sourcePictureStart c) s fun t => t.reed c.val = (s.reed c.val).opened) ∧
      (4 ≤ (s.reed c.val).slots.length → Completes (.sourcePictureStart c) s fun t =>
        t.reed c.val = { s.reed c.val with hostStall := true })) ∧
    (sourceWritten s c.val = true → s.nat (K.reedSourceType c.val) ≠ 0 → s.nat (K.reedSourceType c.val) ≠ 4 →
      ((s.reed c.val).slots.length < 4 → Completes (.sourcePictureStart c) s fun t =>
        t.reed c.val = { s.reed c.val with slots := (s.reed c.val).slots ++ [{ n := (s.reed c.val).nextN }],
                                           arriving := some (s.reed c.val).nextN, nextN := (s.reed c.val).nextN + 1 }) ∧
      (∀ m rest, 4 ≤ (s.reed c.val).slots.length → (s.reed c.val).newer = m :: rest → Completes (.sourcePictureStart c) s fun t =>
        (t.reed c.val).slots = ((s.reed c.val).slots.filter fun p => p.n != m.n) ++ [{ n := (s.reed c.val).nextN }] ∧
          (t.reed c.val).arriving = some (s.reed c.val).nextN ∧
          t.nat (K.reedSkipCount c.val) = (s.nat (K.reedSkipCount c.val) + 1) % 2 ^ 32)) ∧
    (∀ line fmt part p rest, sourceWritten s c.val = true → s.nat (K.reedSourceType c.val) ≠ 0 → s.nat (K.reedSourceType c.val) ≠ 4 →
      boundLink s.view c.val part.link = true →
      (s.nat (K.reedSourceType c.val) = 3 → pictureLinkUp s (s.nat (K.reedWeftQuad c.val)) = true) →
      (s.nat (K.reedSourceType c.val) = 1 → formatMatches s.view c.val fmt = true ∧ bit (s.reed c.val).linksLost part.link = false ∧
        (s.nat (K.reedSdiLinks c.val) ≤ 1 ∨ q fmt.lagNs ≤ 8 * readLine s.view c.val)) →
      (s.reed c.val).slots = rest ++ [p] → (s.reed c.val).arriving = some p.n → (∀ x ∈ rest, x.n ≠ p.n) →
      (placePart s.view c.val line part).1 < s.nat (K.reedHeight c.val) → Completes (.sourceLineReceived c line fmt part) s fun t =>
        (t.reed c.val).lastLine = s.clk.ticks ∧ (t.reed c.val).present = true ∧
          (t.reed c.val).slots = rest ++ [p.receive s.view c.val (s.reed c.val).linksLost (placePart s.view c.val line part).1 (nowNs s)
            (placePart s.view c.val line part).2]) ∧
    (∀ line fmt part, sourceWritten s c.val = true → s.nat (K.reedSourceType c.val) = 1 → part.link < s.nat (K.reedSdiLinks c.val) →
      formatMatches s.view c.val fmt = false → (s.reed c.val).mismatch = false → Completes (.sourceLineReceived c line fmt part) s fun t =>
        (t.reed c.val).present = false ∧ (t.reed c.val).mismatch = true ∧ bit t.log.pending (34 + 4 * c.val) = true) ∧
    ((s.reed c.val).present = true → passed s (s.reed c.val).lastLine (floorN (pictureNs s.view c.val)) = true →
      Completes (.sourceAbsent c) s fun t =>
        (t.reed c.val).present = false ∧ (t.reed c.val).acquired = false ∧ bit t.log.pending (32 + 4 * c.val) = true) ∧
    (∀ link cause, s.nat (K.reedSourceType c.val) = 1 → link < s.nat (K.reedSdiLinks c.val) → bit (s.reed c.val).linksLost link = false →
      Completes (.sdiLinkLost c ⟨link, cause⟩) s fun t => bit (t.reed c.val).linksLost link = true ∧
        bit t.log.pending (34 + 4 * c.val) = true ∧
        (setBit (s.reed c.val).linksLost link true = allLinks s c.val → (t.reed c.val).present = false))

/-- R88, R90, R106: what a channel that is in no aligned group reads from T_k on: its last picture again, counted, while its successor has
not arrived or is younger than the margin; the picture after the successor, counted, where the successor is older than a period more; and the
successor otherwise. -/
def Obligations.PicturesAreChosen : Prop :=
  ∀ (s : State) (c : Chan) (k l : Nat) (m m2 : SrcPic) (rest : List SrcPic),
    s.nat (K.reedSourceType c.val) ≠ 0 → s.log.safe = false → s.nat (K.reedAlignGroup c.val) = 0 → (s.reed c.val).present = true →
    (s.reed c.val).acquired = true → (s.reed c.val).rotRepeat = false → (s.reed c.val).hostStall = false → (s.reed c.val).linksLost = 0 →
    (s.reed c.val).last = some l →
    let line := readLine s.view c.val
    let dMin := q (s.view.nat (K.reedSyncMarginLines c.val)) * line
    let hyst := q (s.view.nat (K.reedSyncHysteresisLines c.val)) * line
    let age (x : Nat) : Rat := q (boundaryNs s.view c.val k) - q x
    let t := s.reedBoundary c.val k
    (t.reed c.val).k = some k ∧ (t.reed c.val).nextLine = 0 ∧
      ((s.reed c.val).newer = [] → (t.reed c.val).last = some l ∧
        t.nat (K.reedRepeatCount c.val) = (s.nat (K.reedRepeatCount c.val) + 1) % 2 ^ 32) ∧
      (∀ x, (s.reed c.val).newer = m :: rest → m.time = some x → age x < dMin - hyst → (t.reed c.val).last = some l ∧
        t.nat (K.reedRepeatCount c.val) = (s.nat (K.reedRepeatCount c.val) + 1) % 2 ^ 32) ∧
      (∀ x y, (s.reed c.val).newer = m :: m2 :: rest → m.time = some x → m2.time = some y → 0 ≤ hyst → 0 ≤ pictureNs s.view c.val →
        0 ≤ dMin → dMin + pictureNs s.view c.val + hyst < age x → (t.reed c.val).last = some m2.n ∧
        t.nat (K.reedSkipCount c.val) = (s.nat (K.reedSkipCount c.val) + 1) % 2 ^ 32) ∧
      (∀ x, (s.reed c.val).newer = m :: rest → m.time = some x → ¬(age x < dMin - hyst) →
        ¬(dMin + pictureNs s.view c.val + hyst < age x) → (t.reed c.val).last = some m.n ∧
        t.nat (K.reedRepeatCount c.val) = s.nat (K.reedRepeatCount c.val) ∧ t.nat (K.reedSkipCount c.val) = s.nat (K.reedSkipCount c.val))

/-- R88, R91, R104, R105, R313: a picture boundary that has come is recorded, and in device safe state nothing else happens at it; a line
that is due is read once, whether by itself or in a run of lines, and one that is not complete begins an input gap, counted and raised; a row's statistics record, once for each row,
enters the queue of 16 with the row's Activity, and with no motion in a repeated picture. -/
def Obligations.PicturesAreRead : Prop :=
  ∀ (s : State) (c : Chan),
    (boundaryNs s.view c.val (rasterPic s.view c.val (nowExact s)) ≤ nowNs s →
      (∀ k0, (s.reed c.val).k = some k0 → k0 < rasterPic s.view c.val (nowExact s)) →
      Completes (.pictureBoundary c) s fun t => (t.reed c.val).k.isSome = true ∧
        (s.log.safe = true → t = s.setReed c.val { s.reed c.val with k := some (rasterPic s.view c.val (nowExact s)) })) ∧
    (∀ line, boundaryTime s.view c.val (s.pic c.val) + q line * readLine s.view c.val ≤ nowExact s →
      line = (s.reed c.val).nextLine → line < s.view.nat (K.reedHeight c.val) → (s.reed c.val).k.isSome = true → s.log.safe = false →
      Completes (.lineRead c (s.pic c.val) line 1) s fun t => (t.reed c.val).nextLine = line + 1 ∧
        (∀ p, (s.reed c.val).picOf (s.pic c.val) = some p → p.gapFrom = none → (∀ before, readLineOf s c.val p before line = none) →
          t.nat (K.reedGapCount c.val) = (s.nat (K.reedGapCount c.val) + 1) % 2 ^ 32 ∧ bit t.log.pending (35 + 4 * c.val) = true ∧
            ∃ p', (t.reed c.val).picOf (s.pic c.val) = some p' ∧ p'.gapFrom = some line)) ∧
    (∀ k line, exec (.lineRead c k line 0) s = .next s ∧ (k ≠ s.pic c.val → ∀ n, exec (.lineRead c k line n) s = .next s) ∧
      ∀ n, ∃ t, exec (.lineRead c k line 1) s = .next t ∧ exec (.lineRead c k line (n + 1)) s = exec (.lineRead c k (line + 1) n) t) ∧
    (∀ k row p, rowPicture s c.val k (fun v x => tRow v c.val x.rot row) = some p → s.log.safe = false →
      row < ceilDiv (outHeight (p.view s.fuses) c.val) 64 → AMap.find? p.sad row = none → Completes (.reedRowComplete c k row) s fun t =>
        (t.reed c.val).stats.length ≤ 16 ∧ (∃ p', (t.reed c.val).picOf p.pic = some p' ∧ (AMap.find? p'.sad row).isSome = true) ∧
          ∃ x, (t.reed c.val).stats.getLast? = some x ∧ x.row = row ∧ x.pictureCount = p.pic % 65536 ∧
            x.activity = p.activity (p.view s.fuses) c.val row ∧
            (p.action = 1 → x.motionSad = 0 ∧ x.mvX = 0 ∧ x.mvY = 0 ∧ bit x.flags 0 = false))

/-! ## The Press -/

/-- R115, R116, R117: the state of a layer at a boundary whose source has not changed: Off while it is not enabled; Live while its source is
ready, which a solid colour and a Reed channel always are; Waiting until then; and Repeating or HeldOff, each counted, afterwards. -/
def Obligations.LayerStatesAtABoundary : Prop :=
  ∀ (s : State) (c i : Fin 16) (k : Nat),
    let t := s.layerBoundary c.val k i.val
    let st := s.nat (K.layerStState c.val i.val)
    let same := (s.layer c.val i.val).source = [s.int (K.layerSourceKind c.val i.val), s.int (K.layerSourceRef c.val i.val),
      s.int (K.layerSurfaceBase c.val i.val), s.int (K.layerBufferStride c.val i.val)]
    (s.flag (K.layerEnable c.val i.val) = false → t.nat (K.layerStState c.val i.val) = 0) ∧
      (s.flag (K.layerEnable c.val i.val) = true →
        (s.isFrozen 28 = false → s.nat (K.layerSourceKind c.val i.val) ≤ 1 → t.nat (K.layerStState c.val i.val) = 2) ∧
        (s.isFrozen 28 = true → st = 0 → t.nat (K.layerStState c.val i.val) = 1) ∧
        (same → st = 1 → layerReady s c.val i.val k true = false → t.nat (K.layerStState c.val i.val) = 1 ∧
          t.nat (K.layerStRepeatCount c.val i.val) = s.nat (K.layerStRepeatCount c.val i.val)) ∧
        (same → 2 ≤ st → layerReady s c.val i.val k false = true → t.nat (K.layerStState c.val i.val) = 2) ∧
        (same → 2 ≤ st → layerReady s c.val i.val k false = false → s.nat (K.layerNotReadyPolicy c.val i.val) = 0 →
          t.nat (K.layerStState c.val i.val) = 3 ∧
            t.nat (K.layerStRepeatCount c.val i.val) = (s.nat (K.layerStRepeatCount c.val i.val) + 1) % 2 ^ 32) ∧
        (same → 2 ≤ st → layerReady s c.val i.val k false = false → s.nat (K.layerNotReadyPolicy c.val i.val) = 1 →
          t.nat (K.layerStState c.val i.val) = 4 ∧
            t.nat (K.layerStHoldOffCount c.val i.val) = (s.nat (K.layerStHoldOffCount c.val i.val) + 1) % 2 ^ 32))

/-- R131, R132: a hem region: a signature that differs from the one expected, or from the safe image's where that is substituted, counts and
brings the region into alarm, or keeps it there; ReturnMatches consecutive matches bring it back; a named layer that is not Live brings it
into alarm at the boundary; and from a boundary in alarm the safe image stands in its place under policy 1. -/
def Obligations.HemRegionsAreCompared : Prop :=
  ∀ (s : State) (c h : Fin 16),
    (∀ (p : PressPic) (x : HemPic),
      ((p.view s.fuses).flag (K.hemCompare c.val h.val) = true →
        x.crc ≠ (p.view s.fuses).nat (if x.subst then K.hemSafeSignature c.val h.val else K.hemExpected c.val h.val) →
        (s.hemFinal c.val h.val p x).nat (K.hemStMismatchCount c.val h.val) = (s.nat (K.hemStMismatchCount c.val h.val) + 1) % 2 ^ 32 ∧
          ((s.hemFinal c.val h.val p x).hem c.val h.val).alarm = true) ∧
      ((s.hem c.val h.val).alarm = true → x.layerLive = true →
        (if x.subst then x.live else x.crc) = (p.view s.fuses).nat (K.hemExpected c.val h.val) →
        (x.subst = true → x.crc = (p.view s.fuses).nat (K.hemSafeSignature c.val h.val)) →
        ((s.hemFinal c.val h.val p x).hem c.val h.val).alarm =
          decide ((s.hem c.val h.val).hits + 1 < (p.view s.fuses).nat (K.hemReturnMatches c.val h.val)))) ∧
    (s.flag (K.hemHemEnable c.val h.val) = true →
      ((s.hemBoundary c.val h.val).hem c.val h.val).subst =
        (((s.hemBoundary c.val h.val).hem c.val h.val).alarm && s.nat (K.hemPolicy c.val h.val) == 1) ∧
      (s.nat (K.hemLayerRef c.val h.val) < 16 → s.nat (K.layerStState c.val (s.nat (K.hemLayerRef c.val h.val))) ≠ 2 →
        ((s.hemBoundary c.val h.val).hem c.val h.val).alarm = true))

/-- R119, R120: a blended component stays between 0 and 4,096; alpha 4,096 takes the layer's sample, and alpha 0 leaves the composition. -/
def Obligations.BlendingStaysInRange : Prop :=
  ∀ a x y : Int, 0 ≤ a → a ≤ 4096 → 0 ≤ x → x ≤ 4096 → 0 ≤ y → y ≤ 4096 →
    0 ≤ blendComp a x y ∧ blendComp a x y ≤ 4096 ∧ blendComp 4096 x y = x ∧ blendComp 0 x y = y ∧ blendComp a x x = x

/-- R135, R136, R137, R138: a row that is due is composed once and goes to the looms of a channel that codes its picture; an Unpicker takes
a decoded picture into a free buffer and counts it, rejects a clip beyond its limits, and shows a picture with missing references as
concealed, counted. -/
def Obligations.RowsAndClipsArrive : Prop :=
  (∀ (s : State) (c : Chan) k row p, handoffPicture s c.val k row = some p → s.log.safe = false → s.isFrozen 28 = false →
    row < rowCount (p.view s.fuses) c.val → row ∉ p.rows → Completes (.pressRowHandoff c k row) s fun t =>
      (∃ y, (t.press c.val).picOf p.pic = some y ∧ row ∈ y.rows) ∧
        ((s.chan c.val).pics.any (fun x => x.pic == p.pic) = true → (p.pic, row) ∈ (t.chan c.val).toStart)) ∧
  (∀ (s : State) (u : Fin 2) pic, unpTakes s u.val pic = true →
    (∀ m, pic.params = some m → clipFits s.view u.val m = false → Completes (.unpickerPictureDecoded u pic) s fun t =>
      (t.unp u.val).rejected = true ∧ (t.unp u.val).ready = [] ∧ t.nat (K.unpStUnpickerState u.val) = 3) ∧
    ((∀ m, pic.params = some m → clipFits s.view u.val m = true) → (s.unp u.val).first.isSome = true ∨ pic.entry = true →
      (pic.missing = false → pic.bad = [] → (s.unp u.val).concealing = false ∨ pic.recovers = true →
        Completes (.unpickerPictureDecoded u pic) s fun t =>
          (t.unp u.val).ready = (s.unp u.val).ready ++ [{ index := (s.unp u.val).next, concealed := false, pic := pic.samples }] ∧
            t.nat (K.unpStDecodedCount u.val) = (s.nat (K.unpStDecodedCount u.val) + 1) % 2 ^ 32 ∧
            t.nat (K.unpStUnpickerState u.val) = 1) ∧
      (pic.missing = true → Completes (.unpickerPictureDecoded u pic) s fun t =>
        (∃ x, (t.unp u.val).ready = (s.unp u.val).ready ++ [x] ∧ x.concealed = true ∧ x.index = (s.unp u.val).next) ∧
          t.nat (K.unpStConcealCount u.val) = (s.nat (K.unpStConcealCount u.val) + 1) % 2 ^ 32 ∧
          t.nat (K.unpStUnpickerState u.val) = 2)))

/-! ## The looms -/

/-- R146, R147, R151, R152, R169, R173: a free loom in service starts its next composed row, at the lower of the Governor's and the channel's
effort, and is free again after the row's CTUs at one CTU every 4 µs; it takes a CTU into intake each 4 µs into the lane whose turn it is;
and the coded bytes of the row's next CTU reach staging, with the units that the rules ask for. -/
def Obligations.LoomsCodeRows : Prop :=
  (∀ (s : State) (l : LoomId) c k j p, s.nat (K.loomGLoomState l.val) = 1 → s.isFrozen (11 + l.val) = false → s.log.safe = false →
    s.beam.failed = false → (s.loom l.val).freeAt ≤ s.clk.ticks → inIntake s l.val = none → nextRow s l.val = some (c, k, j) →
    (s.chan c).picSt k = some p → s.findRow c k j = none → Completes (.loomRowStart l) s fun t =>
      (t.loom l.val).row = some (c, k, j) ∧ (t.loom l.val).freeAt = s.clk.ticks + 960 * p.cols ∧
        t.nat (K.loomGLoomEffort l.val) = min (AMap.getD s.gov.effort l.val 0) ((s.picView c k).nat (K.loomMaxEffort c)) ∧
        ∃ r, t.findRow c k j = some r ∧ r.kind = .coded ∧ r.loom = some l.val ∧ r.startAt = s.clk.ticks ∧ r.intake = 0 ∧ r.staged = 0) ∧
  (∀ (s : State) (l : LoomId) ctu r p, intakeRow s l.val = some r → (s.chan r.chan).picSt r.pic = some p → r.intake < p.cols →
    r.startAt + 960 * r.intake ≤ s.clk.ticks → r.intake ≤ r.staged + 4 →
    AMap.getD (s.loom l.val).lanes (laneOf r.intake) 0 + ctu.ops ≤ 384 →
    chosenOk (ctuCase s r p r.intake) ((s.picView r.chan r.pic).nat (K.loomChromaFormat r.chan)) ctu.chosen = true →
    ((ctuCase s r p r.intake).lossless = true ∨
      floorOk (ctuCase s r p r.intake) ((s.picView r.chan r.pic).nat (K.loomChromaFormat r.chan)) ctu.floor = true) →
    Completes (.ctuIntake l ctu) s fun t =>
      (t.loom l.val).ctuCount = ((s.loom l.val).ctuCount + 1) % 2 ^ 32 ∧ (t.loom l.val).row = (s.loom l.val).row ∧
        AMap.getD (t.loom l.val).lanes (laneOf r.intake) 0 = AMap.getD (s.loom l.val).lanes (laneOf r.intake) 0 + ctu.ops ∧
        ∃ r', t.findRow r.chan r.pic r.row = some r' ∧ r'.intake = r.intake + 1 ∧ r'.loom = some l.val) ∧
  (∀ (s : State) (c : Chan) row pieces recon r p,
    s.video.rows.find? (fun x => x.chan == c.val && x.row == row && x.kind == .coded && decide (x.staged < x.intake) && !x.lastStaged) = some r →
    (s.chan c.val).picSt r.pic = some p → stagingFits s r p pieces recon = true → r.staged + 1 ≠ p.cols →
    Completes (.ctuCodedStaged c row ⟨pieces, recon⟩) s fun t =>
      ∃ r' ∈ t.video.rows, r'.chan = c.val ∧ r'.pic = r.pic ∧ r'.row = row ∧ r'.staged = r.staged + 1 ∧ r'.kind = .coded ∧
        r'.lastStaged = false)

/-! ## Darning and qualification -/

/-- R233, R245: a darn request by an open route to a channel that is coded waits for its sweep, joins a sweep that runs, or is coalesced;
an RTCP request by a closed route is counted and dropped. -/
def Obligations.DarnRequestsAreHandled : Prop :=
  ∀ (s : State) (c : Chan) (route : DarnRoute),
    (bit (s.nat (K.darnDarnSources c.val)) (routeBit route) = true → s.flag (K.loomEncodeEnable c.val) = true →
      (s.chan c.val).encoding = true → route = .rtcp ∨ Unheld s (K.darnDarnRequest c.val) →
      ((s.chan c.val).pendingReq = none → (s.chan c.val).waiting = none → (s.chan c.val).sweep = none →
        Completes (.darnRequest route c) s fun t => (t.chan c.val).waiting = some { arrived := nowNs s } ∧
          t.nat (K.darnDarnRequests c.val) = (s.nat (K.darnDarnRequests c.val) + 1) % 2 ^ 32 ∧
          bit t.log.pending (167 + 8 * c.val) = true) ∧
      (∀ w, (s.chan c.val).pendingReq = none → (s.chan c.val).waiting = none → (s.chan c.val).sweep = some w →
        Completes (.darnRequest route c) s fun t => (t.chan c.val).pendingReq = some { arrived := nowNs s } ∧
          (t.chan c.val).sweep = some w ∧ (t.chan c.val).waiting = none) ∧
      (∀ r, (s.chan c.val).pendingReq = some r ∨ (s.chan c.val).waiting = some r → Completes (.darnRequest route c) s fun t =>
        t.video = s.video ∧ t.nat (K.darnDarnCoalesced c.val) = (s.nat (K.darnDarnCoalesced c.val) + 1) % 2 ^ 32)) ∧
    (bit (s.nat (K.darnDarnSources c.val)) 2 = false → Completes (.darnRequest .rtcp c) s fun t =>
      t.video = s.video ∧ t.nat (K.darnDarnRefused c.val) = (s.nat (K.darnDarnRefused c.val) + 1) % 2 ^ 32)

/-- R237, R239, R240, R241: a QualifyMask write starts the qualification of the named looms; a loom whose tiles all agree passes and is Spare
where it holds no position; one that differs is qualified again at once, and quarantined where that fails too; one that has not ended
within twice its bound fails. -/
def Obligations.LoomsQualify : Prop :=
  ∀ (s : State) (l : LoomId),
    (∀ prin mask, prin ≠ .chain → s.video.qualMask = 0 → mask < 65536 → Unheld s K.qualQualifyMask →
      (∀ n, n < 16 → bit mask n = true → s.nat (K.loomGLoomState n) = 0 ∨ s.nat (K.loomGLoomState n) = 4) → bit mask l.val = true →
      Completes (.qualifyMask prin mask) s fun t => t.nat (K.loomGLoomState l.val) = 3 ∧ (t.loom l.val).qualSince = some s.clk.ticks ∧
        t.video.qualMask = mask ∧ t.nat K.qualQualifyMask = mask) ∧
    (∀ x, (s.loom l.val).qualSince = some x → s.nat (K.loomGLoomState l.val) = 3 → (s.loom l.val).joint = false →
      (∀ tiles sha, tiles.getD l.val 0 = 0 → (∀ c, c < 16 → ∀ p ∈ (s.chan c).positions, p.loom ≠ l.val) →
        Completes (.qualificationDone (2 ^ l.val) tiles sha) s fun t =>
          t.nat (K.qualQualResult l.val) = 1 ∧ t.nat (K.loomGLoomState l.val) = 0 ∧ (t.loom l.val).qualSince = none) ∧
      (∀ tiles sha, tiles.getD l.val 0 % 65536 ≠ 0 → (s.loom l.val).second = false →
        Completes (.qualificationDone (2 ^ l.val) tiles sha) s fun t =>
          t.nat (K.qualQualResult l.val) = 2 ∧ t.nat (K.loomGLoomState l.val) = 3 ∧ (t.loom l.val).second = true ∧
            t.nat (K.qualQualFailCount l.val) = (s.nat (K.qualQualFailCount l.val) + 1) % 65536) ∧
      (∀ tiles sha, tiles.getD l.val 0 % 65536 ≠ 0 → (s.loom l.val).second = true →
        Completes (.qualificationDone (2 ^ l.val) tiles sha) s fun t =>
          t.nat (K.qualQualResult l.val) = 2 ∧ t.nat (K.loomGLoomState l.val) = 4 ∧ (t.loom l.val).qualSince = none)) ∧
    (∀ x, (s.loom l.val).qualSince = some x → passed s x (2 * qualBound (s.loom l.val).joint) = true →
      Completes (.qualificationTimeout l) s fun t => t.nat (K.qualQualResult l.val) = 2 ∧
        t.nat (K.loomGLoomState l.val) = (if (s.loom l.val).second then 4 else 3))

/-! ## Seams and the chain -/

/-- R256, R258, R259, R261, R265: a seam message that is checked for a channel whose side is Active is kept: a strip line that arrives within
three line periods of its instant, a RowQp record, a Band record; one outside the window is not used, and a bad one is dropped and counted.
R253, R264: a Canvas record whose raster and place do not match makes its side Mismatched; one that matches counts towards the two in a
row after which the side turns Active at the next picture boundary; a side whose weft link is down, or that no Canvas record reaches for
three picture periods, becomes Absent, with its time in LastNeighbourLoss. -/
def Obligations.SeamMessagesAndSides : Prop :=
  (∀ (s : State) (d : ChainPort) (msg : Bytes) (c : Nat) (l : Bool) (m : SeamMsg),
     (seamCheck s d.val 1 msg = .ok c l m → s.nat (sideKey c l) = 3 → ∀ k, seamPicture s c m.pic = some k →
       let at_ : Rat := boundaryTime s.view c k + q m.index * readLine s.view c
       (at_ - 3 * readLine s.view c ≤ nowExact s → nowExact s ≤ at_ + 3 * readLine s.view c → Completes (.stripReceived d msg) s fun t =>
         (t.side c l).strips = (s.side c l).strips ++ [{ pic := m.pic, line := m.index, data := m.payload }] ∧ t.objs = s.objs) ∧
       (at_ + 3 * readLine s.view c < nowExact s ∨ nowExact s < at_ - 3 * readLine s.view c → exec (.stripReceived d msg) s = .next s)) ∧
     (seamCheck s d.val 2 msg = .ok c l m → s.nat (sideKey c l) = 3 → Completes (.rowQpRecordReceived d msg) s fun t =>
       (∃ r, (t.side c l).qps.getLast? = some r ∧ r.pic = m.pic ∧ r.row = m.index ∧ r.qpRow = (m.payload.getD 0 0).toInt ∧
         r.edgeQp = (m.payload.getD 1 0).toInt ∧ r.hold = bit (m.payload.getD 2 0).toNat 1) ∧
       (∀ x ∈ (t.side c l).qps, x.pic = m.pic ∨ x.pic = (m.pic + 65535) % 65536) ∧ t.objs = s.objs) ∧
     (seamCheck s d.val 3 msg = .ok c l m → s.nat (sideKey c l) = 3 → Completes (.bandRecordReceived d msg) s fun t =>
       (t.side c l).band = m.payload ∧ t.objs = s.objs) ∧
     (seamCheck s d.val 1 msg = .bad → Completes (.stripReceived d msg) s fun t =>
       t.nat K.chainSeamDroppedMalformed = (s.nat K.chainSeamDroppedMalformed + 1) % 2 ^ 32) ∧
     (seamCheck s d.val 2 msg = .bad → Answers (.rowQpRecordReceived d msg) s (.next (s.bump K.chainSeamDroppedMalformed))) ∧
     (seamCheck s d.val 3 msg = .bad → Answers (.bandRecordReceived d msg) s (.next (s.bump K.chainSeamDroppedMalformed))) ∧
     (seamCheck s d.val 4 msg = .bad → Answers (.canvasRecordReceived d msg) s (.next (s.bump K.chainSeamDroppedMalformed))) ∧
     (seamCheck s d.val 1 msg = .early → exec (.stripReceived d msg) s = .next s)) ∧
  ((∀ (s : State) (d : ChainPort) (msg : Bytes) (c : Nat) (l : Bool) (m : SeamMsg), seamCheck s d.val 4 msg = .ok c l m →
     (canvasFlags s.view c l m.payload % 4 ≠ 0 → Completes (.canvasRecordReceived d msg) s fun t =>
       t.nat (sideKey c l) = 2 ∧ (t.side c l).matched = 0 ∧ (t.side c l).rising = false ∧
         t.nat (K.reedMismatchFlags c) = canvasFlags s.view c l m.payload ||| (s.side c (!l)).flags) ∧
     (canvasFlags s.view c l m.payload % 4 = 0 → (s.side c l).lastPass = some ((m.pic + 65535) % 65536) → 1 ≤ (s.side c l).matched →
       Completes (.canvasRecordReceived d msg) s fun t => (t.side c l).rising = true ∧ t.nat (sideKey c l) = s.nat (sideKey c l))) ∧
   (∀ (s : State) (c : Chan) (l : Bool), sidePort s c.val l ≠ 0 → 2 ≤ s.nat (sideKey c.val l) →
     (((s.chainPort (sidePort s c.val l - 1)).up = false ∧ passed s (s.chainPort (sidePort s c.val l - 1)).idleSince 10000 = true) ∨
       passed s (s.side c.val l).lastCanvas (floorN (3 * pictureNs s.view c.val)) = true) →
     Completes (.seamSideAbsent c l) s fun t => t.nat (sideKey c.val l) = 1 ∧ (t.side c.val l).strips = [] ∧ (t.side c.val l).qps = [] ∧
       t.obj (K.reedLastNeighbourLoss c.val) = .int (time80 (nowNs s)) ∧ t.conf = s.conf))

/-- R248 to R250: a device of a line takes the position after its upstream neighbour's, or 0 where it has none, and a seventeenth device
raises ChainFault; the head of a whole ring is at 0; the oldest message of the most urgent class leaves by segments of 256 bytes.
R65: a request on a chain port for another position goes on towards it, its path remembered for the reply; one whose HopLimit is 0 is dropped. -/
def Obligations.ChainPositionsAndSegments : Prop :=
  (∀ (s : State) (w : ChainView), s.nat K.chainChainMode = 1 →
    (w.upstream = none → Completes (.chainPositionDerive w) s fun t =>
      t.net.chain.position = 0 ∧ t.net.chain.fault = false ∧ t.nat K.fastChainPosition = 0) ∧
    (∀ u, w.upstream = some u → u < 15 → Completes (.chainPositionDerive w) s fun t =>
      t.net.chain.position = u + 1 ∧ t.net.chain.fault = false ∧ t.nat K.fastChainPosition = u + 1) ∧
    (∀ u, w.upstream = some u → 15 ≤ u → Completes (.chainPositionDerive w) s fun t =>
      t.net.chain.position = 0 ∧ t.net.chain.fault = true ∧
        t.nat K.chainChainFaultCount = (s.nat K.chainChainFaultCount + 1) % 2 ^ 32)) ∧
  (∀ (s : State) (w : ChainView), s.nat K.chainChainMode = 2 → w.heads = 1 → w.upUp = true → w.downUp = true → s.flag K.chainChainHead = true →
    Completes (.chainPositionDerive w) s fun t => t.net.chain.position = 0 ∧ t.net.chain.fault = false ∧ t.net.chain.whole = true) ∧
  (∀ (s : State) (d : ChainPort) (before after : List ChainMsg) (m : ChainMsg), (s.chainPort d.val).up = true → s.isFrozen 35 = false →
    portSoaks s d.val = false → (s.chainPort d.val).queue = before ++ m :: after → 1 ≤ m.cls → m.cls ≤ 4 →
    (∀ x ∈ before, m.cls < x.cls) → (∀ x ∈ after, m.cls ≤ x.cls) →
      (m.sent + 256 < m.bytes.length → Completes (.chainSegmentSend d) s fun t =>
        (t.chainPort d.val).queue = before ++ { m with sent := m.sent + 256 } :: after ∧ t.net.sent = s.net.sent) ∧
      (m.bytes.length ≤ m.sent + 256 → Completes (.chainSegmentSend d) s fun t =>
        (t.chainPort d.val).queue = before ++ after ∧ t.net.sent = .chain d.val m.cls m.bytes :: s.net.sent)) ∧
  (∀ (s : State) (d : ChainPort) b m, Path.parse (.chain d) b = some m → m.type = 0x01 → m.target ≠ 0xFF → m.target ≠ s.net.chain.position →
    (s.chainPort d.val).up = true →
    (m.hop = 0 → Completes (.readReq (.chain d) b) s fun t => t.draft.hopDrops = s.draft.hopDrops + 1 ∧ t.net = s.net ∧ t.objs = s.objs) ∧
    (0 < m.hop → s.nat K.chainChainMode = 1 → s.net.chain.fault = true → Answers (.readReq (.chain d) b) s (.next s)) ∧
    (0 < m.hop → s.nat K.chainChainMode = 1 → s.net.chain.fault = false →
      let side := if m.target < s.net.chain.position then 0 else 1
      let x := s.chainPort side
      x.queue.length < 32 → x.stalled = [] → Completes (.readReq (.chain d) b) s fun t =>
        (∃ out, (t.chainPort side).queue = x.queue ++ [out] ∧ out.cls = 3 ∧ out.bytes.length = b.length ∧ patField out.bytes 24 1 = m.hop - 1) ∧
          t.draft.routes = { side := side, type := 0x01, tid := m.tid, sender := m.sender, origin := .chain d } :: s.draft.routes ∧ t.objs = s.objs))

/-! ## The Mangle -/

/-- R176, R188, R189, R212, R284: at O(k, j) the row's slot opens, a row that no loom has started being a hold row; a row whose port's link is
down is a breach and is not sent there; at Z(k, j) a row that has wholly left is gone, and one that has not is a breach. -/
def Obligations.RowSlotsOpenAndClose : Prop :=
  (∀ (s : State) (c : Chan) pic row p, (s.chan c.val).picSt pic = some p → s.videoStopped = false → row < p.rows → bit p.opened row = false →
    slotOpen s c.val pic row ≤ nowExact s →
    (Completes (.rowSlotOpen c pic row) s fun t => (∃ p', (t.chan c.val).picSt pic = some p' ∧ bit p'.opened row = true) ∧
      ∃ r, t.findRow c.val pic row = some r ∧ r.opened = true ∧ (s.findRow c.val pic row = none → r.kind = .hold ∧ r.lastStaged = true)) ∧
    (∀ r, s.findRow c.val pic row = some r → r.breach = 0 → legPort (s.picView c.val pic) c.val 0 < 8 → s.isFrozen 31 = false →
      hasShare (s.port (legPort (s.picView c.val pic) c.val 0)).list c.val = true →
      (s.port (legPort (s.picView c.val pic) c.val 0)).linkUp = false →
      Completes (.rowSlotOpen c pic row) s fun t =>
        t.nat (K.rateLatencyBreachCount c.val) = (s.nat (K.rateLatencyBreachCount c.val) + 1) % 2 ^ 32 ∧
          ∃ r', t.findRow c.val pic row = some r' ∧ r'.breach ≠ 0 ∧ bit r'.blocked (legPort (s.picView c.val pic) c.val 0) = true)) ∧
  (∀ (s : State) (c : Chan) pic row r, s.findRow c.val pic row = some r → r.opened = true → r.closed = false → s.videoStopped = false →
    slotClose s c.val pic row ≤ nowExact s →
    (rowSent (s.picView c.val pic) r = true → Completes (.rowSlotClose c pic row) s fun t => t.findRow c.val pic row = none ∧ t.conf = s.conf) ∧
    (rowSent (s.picView c.val pic) r = false → channelPorts (s.picView c.val pic) c.val ≠ [] → r.breach = 0 → Completes (.rowSlotClose c pic row) s fun t =>
      t.nat (K.rateLatencyBreachCount c.val) = (s.nat (K.rateLatencyBreachCount c.val) + 1) % 2 ^ 32 ∧
        t.nat (K.rateLastBreachCause c.val) = 4 ∧ ∃ r', t.findRow c.val pic row = some r' ∧ r'.closed = true ∧ r'.breach = 4))

/-- R273, R274, R287: the idle transmitter of a port starts the frame that is chosen, and holds it for its wire time; a frame of classes 6 to 0
goes only where it fits, its class may send, and no row frame that fits is an opening frame or due; a phase stream sends its sender report
when one is due.
R307: a domain's newest Delay_Req or Pdelay_Req is timestamped on the domain's clock as its frame departs. -/
def Obligations.FramesAreChosen : Prop :=
  (∀ (s : State) (p : PortId), (s.port p.val).linkUp = true → s.videoStopped = false → s.isFrozen 31 = false →
    (s.port p.val).busyUntil ≤ s.clk.ticks →
    (pickFrame (s.noteWaits p.val) p.val = .none → Completes (.txFrameSelect p) s fun t => t.net.sent = s.net.sent ∧ (t.port p.val).sending = none) ∧
    (∀ f, pickFrame (s.noteWaits p.val) p.val = .other f → Completes (.txFrameSelect p) s fun t =>
      t.net.sent = .frame { f with waited := false } :: s.net.sent ∧ (t.port p.val).sending = some f.cls ∧
        s.clk.ticks < (t.port p.val).busyUntil ∧ t.video = s.video ∧
        ∀ d seq, f.ptp = some (d, seq) → (s.dom d).delaySeq = seq →
          (t.dom d).delayReq = some (seq, (domainNs s d : Int) + s.int (K.tcorrEgressCorrNs p.val))) ∧
    (∀ f, pickFrame (s.noteWaits p.val) p.val = .row f → Completes (.txFrameSelect p) s fun t =>
      .frame { f.frame with waited := false } ∈ t.net.sent ∧ (t.port p.val).sending = some f.frame.cls)) ∧
  (∀ (s : State) (p : Nat) (f : TxFrame), pickFrame s p = .other f → fits s p f 0 none = true ∧
    (∃ cls, cls ≤ 6 ∧ mayShape s p cls = true ∧ (AMap.getD (s.port p).queues cls []).head? = some f) ∧
    ∀ g ∈ rowHeads (s.port p), fits s p g.frame g.chan (some (g.chan, g.pic, g.row)) = true →
      g.opening = false ∧ nowExact s + tMax s.view p < evenFlow s g) ∧
  (∀ (s : State) (c : Chan) phase, (s.chan c.val).encoding = true → s.nat (K.streamRtcpIntervalMs c.val) ≠ 0 → phase < phases s.view c.val →
    AMap.find? (s.chan c.val).lastSr phase = none → s.videoStopped = false → channelPorts s.view c.val ≠ [] →
    Completes (.rtcpSenderReport c phase) s fun t => AMap.find? (t.chan c.val).lastSr phase = some s.clk.ticks ∧ t.objs = s.objs ∧
      (legPort s.view c.val 0 < 8 → 8 ≤ legPort s.view c.val 1 → ∃ (u : State) (f : TxFrame), u.net = s.net ∧ u.objs = s.objs ∧
        t = u.sendFrame f ∧ f.cls = 6 ∧ f.port = legPort s.view c.val 0))

/-- R276, R277, R301, R302: a gate list is in the entry that covers the present instant; a pending list takes effect at the first cycle
boundary at or after X, and no other list is pending then; a port's link goes up at the rate of its binding, and down. -/
def Obligations.GateListsChange : Prop :=
  (∀ (s : State) (p : PortId), (s.port p.val).list.entries ≠ [] → 0 < (s.port p.val).list.cycle →
    (((s.port p.val).list.entries.map (·.interval)).sum = (s.port p.val).list.cycle) → Completes (.gateEntryChange p) s fun t =>
      let at_ := cyclePos (s.port p.val).list (nowNs s)
      let spans := (s.port p.val).list.entries.map (·.interval)
      (spans.take (t.port p.val).entry).sum ≤ at_ ∧ at_ < (spans.take ((t.port p.val).entry + 1)).sum ∧
        (t.port p.val).list = (s.port p.val).list ∧ t.objs = s.objs) ∧
  (∀ (s : State) (p : PortId) x, (s.port p.val).pending = some x → boundaryAfter (s.port p.val).list x.change ≤ nowNs s →
    Completes (.gateListChangeover p) s fun t =>
      (t.port p.val).list = x.list ∧ (t.port p.val).pending = none ∧ (t.port p.val).cycles = 0 ∧
        (t.port p.val).buffer = 1 - (s.port p.val).buffer) ∧
  (∀ (s : State) (p : PortId) x, (s.port p.val).pending = some x → nowNs s < boundaryAfter (s.port p.val).list x.change →
    exec (.gateListChangeover p) s = .next s) ∧
  (∀ (s : State) (p : PortId), (s.port p.val).linkUp = false → portUsable s.view p.val = true →
    Completes (.portLinkChange p true (portRateMbps s.view p.val)) s fun t =>
      (t.port p.val).linkUp = true ∧ (t.port p.val).rate = portRateMbps s.view p.val ∧ t.nat (K.portLinkUp p.val) = 1 ∧
        t.nat (K.portLineRateMbps p.val) = portRateMbps s.view p.val) ∧
  (∀ (s : State) (p : PortId) n, (s.port p.val).linkUp = true → Completes (.portLinkChange p false n) s fun t =>
    (t.port p.val).linkUp = false ∧ (t.port p.val).rate = 0 ∧
      (s.video.rows = [] → t.nat (K.portLinkUp p.val) = 0 ∧ t.nat (K.portLineRateMbps p.val) = 0))

/-- R289, R292, R294: at a refill of 256 ns the credit of each shaped class stays within its bounds, and falls to 0 where the queue is empty; the
control policer of a port gains its tokens, at 20,000 frames a second until a configuration is committed, up to 256 frames. -/
def Obligations.CreditsAndTokensRefill : Prop :=
  (∀ (s : State) (p : PortId), (s.port p.val).refillAt < nowNs s / 256 → Completes (.shaperRefill p) s fun t =>
    (t.port p.val).refillAt = nowNs s / 256 ∧
      (∀ cls, cls < 7 → t.nat (K.portShaperRateKbps p.val cls) ≠ 0 → loCredit t.view p.val cls ≤ hiCredit t.view p.val cls →
        loCredit t.view p.val cls * 48000000 ≤ AMap.getD (t.port p.val).credit cls 0 ∧
          AMap.getD (t.port p.val).credit cls 0 ≤ hiCredit t.view p.val cls * 48000000) ∧
      (∀ cls, cls < 7 → t.nat (K.portShaperRateKbps p.val cls) ≠ 0 → loCredit t.view p.val cls ≤ 0 → 0 ≤ hiCredit t.view p.val cls →
        (s.port p.val).sending ≠ some cls → AMap.getD (s.port p.val).queues cls [] = [] → 0 ≤ AMap.getD (s.port p.val).credit cls 0 →
        s.draft.effects = [] → AMap.getD (t.port p.val).credit cls 0 = 0)) ∧
  (∀ (s : State), s.net.policerAt < uptimeNs s / 256 → s.boot.configCommitted = false → Completes .policerRefill s fun t =>
    t.net.policerAt = uptimeNs s / 256 ∧ ∀ p, p < 8 → (s.port p).control ≤ 256000000000 →
      (t.port p).control = min 256000000000 ((s.port p).control + 20000 * 256)) ∧
  (∀ (s : State), uptimeNs s / 256 ≤ s.net.policerAt → exec .policerRefill s = .next s)

/-- R272, R287, R290 to R295: what a frame that arrives comes to: a pause frame is counted and nothing else, a malformed one is counted and
dropped, a frame of a flow is counted by its colour, a PTP frame passes the port's PTP limit, and a frame that nothing takes is
unmatched; an RTCP packet counts by what it holds. -/
def Obligations.FramesAreReceived : Prop :=
  (∀ (s : State) (p : PortId) (x : RxFrame), (s.port p.val).linkUp = true →
    (x.fcsOk = true → x.etherType = 0x8808 → Completes (.frameReceived p x) s fun t =>
      t.nat (K.portPauseIgnored p.val) = (s.nat (K.portPauseIgnored p.val) + 1) % 2 ^ 32 ∧ t.net = s.net) ∧
    (x.etherType ≠ 0x8808 → malformed s p.val x = true → Completes (.frameReceived p x) s fun t =>
      t.nat (K.portMalformedFrames p.val) = (s.nat (K.portMalformedFrames p.val) + 1) % 2 ^ 32 ∧
        counterOf t (384 + 12 * p.val + 10) = (counterOf s (384 + 12 * p.val + 10) + 1) % 2 ^ 48 ∧ t.net.flows = s.net.flows) ∧
    (malformed s p.val x = false → macOk s p.val x = true → x.etherType = 0x88F7 →
      (1000000000 ≤ (s.port p.val).ptp → Completes (.frameReceived p x) s fun t =>
        (t.port p.val).ptp = (s.port p.val).ptp - 1000000000 ∧ t.objs = s.objs) ∧
      ((s.port p.val).ptp < 1000000000 → Completes (.frameReceived p x) s fun t =>
        t.nat (K.portPtpPoliced p.val) = (s.nat (K.portPtpPoliced p.val) + 1) % 2 ^ 32)) ∧
    (malformed s p.val x = false → macOk s p.val x = false → Completes (.frameReceived p x) s fun t =>
      t.nat (K.portUnmatchedFrames p.val) = (s.nat (K.portUnmatchedFrames p.val) + 1) % 2 ^ 32) ∧
    (∀ f, malformed s p.val x = false → macOk s p.val x = true → x.etherType ≠ 0x88F7 → x.proto ≠ 17 ∨ (x.dport ≠ 319 ∧ x.dport ≠ 320) →
      flowFor s p.val x = some f →
      (s.flow f 1 = 1 → s.flow f 8 = 0 → s.flow f 10 = 0 → (s.port p.val).rxMedia < 384 → s.isFrozen 32 = false → Completes (.frameReceived p x) s fun t =>
        t.flow f 0x41 = (s.flow f 0x41 + 1) % 2 ^ 64 ∧ t.net.flows = s.net.flows) ∧
      (s.flow f 1 = 1 → (police s f x).1 = .yellow → (s.port p.val).rxMedia < 384 → s.isFrozen 32 = false →
        Completes (.frameReceived p x) s fun t =>
          t.flow f 0x42 = (s.flow f 0x42 + 1) % 2 ^ 64 ∧ t.flow f 0x41 = s.flow f 0x41) ∧
      (s.flow f 1 = 1 → 384 ≤ (s.port p.val).rxMedia → Completes (.frameReceived p x) s fun t =>
        t.nat (K.portRxDropMedia p.val) = (s.nat (K.portRxDropMedia p.val) + 1) % 2 ^ 32 ∧ t.net.flows = s.net.flows) ∧
      (s.flow f 1 = 3 → Completes (.frameReceived p x) s fun t => t.flow f 0x43 = (s.flow f 0x43 + 1) % 2 ^ 64 ∧
        counterOf t (384 + 12 * p.val + 7) = (counterOf s (384 + 12 * p.val + 7) + 1) % 2 ^ 48))) ∧
  (∀ (s : State) (p : PortId) (c : Chan), (s.port p.val).linkUp = true → p.val ∈ channelPorts s.view c.val → boltDown s = false →
    AMap.getD s.draft.boltQ p.val [] = [] →
    ((s.chan c.val).rtcpWin.count = 0 → Completes (.rtcpReceived p c [.other]) s fun t =>
      t.nat (K.streamRtcpIgnored c.val) = (s.nat (K.streamRtcpIgnored c.val) + 1) % 2 ^ 32) ∧
    (∀ m, (s.chan c.val).rtcpWin.count = 0 → phaseSsrc s c.val m = true → Completes (.rtcpReceived p c [.pli m]) s fun t =>
      t.nat (K.streamPliCount c.val) = (s.nat (K.streamPliCount c.val) + 1) % 2 ^ 32) ∧
    (∀ items, 1000 ≤ (s.chan c.val).rtcpWin.count → passed s (s.chan c.val).rtcpWin.start 1000000000 = false →
      Completes (.rtcpReceived p c items) s fun t =>
        t.nat (K.streamRtcpPoliced c.val) = (s.nat (K.streamRtcpPoliced c.val) + 1) % 2 ^ 32 ∧ t.video = s.video))

/-! ## The Timekeeper -/

/-- R306, R308, R309, R311: an Announce that a domain hears is kept and the best master of those kept is chosen; a domain that had none begins to
acquire. Without an Announce of its master a Locked domain goes to Holdover, and under Auto the other domain becomes active if it is Locked;
an Acquiring one goes to Holdover if it has been Locked for 16 s in all, else back to Listening; Holdover ends in Freerun. -/
def Obligations.MastersAreSelected : Prop :=
  ∀ (s : State) (d : DomainId),
    (∀ msg, domHears s d.val msg.port = true → Completes (.ptpAnnounce d msg) s fun t =>
      (∃ b ∈ (t.dom d.val).foreign, (t.dom d.val).master = some (b.port, b.identity) ∧ t.nat (K.domMasterIdentity d.val) = b.identity ∧
        t.nat (K.domGmIdentity d.val) = b.gm ∧ t.nat (K.domMasterPort d.val) = b.port ∧ ∀ f ∈ (t.dom d.val).foreign, f.better b = false) ∧
      ((s.dom d.val).state ≠ .locked → (t.dom d.val).state = .acquiring) ∧ ((s.dom d.val).state = .locked → (t.dom d.val).state = .locked)) ∧
    (∀ p i f, (s.dom d.val).master = some (p, i) → (s.dom d.val).foreign.find? (fun f => f.port == p && f.identity == i) = some f →
      passed s (s.dom d.val).lastAnnounce (announceTimeout s d.val f) = true →
      ((s.dom d.val).state = .locked → Completes (.announceReceiptTimeout d) s fun t =>
        (t.dom d.val).state = .holdover ∧ t.nat (K.domState d.val) = 4 ∧ (t.dom d.val).master = none ∧
          (s.time.active = d.val → (s.dom (1 - d.val)).state = .locked → s.nat K.timeActiveDomainSelect = 0 → t.time.active = 1 - d.val)) ∧
      ((s.dom d.val).state = .acquiring → 16 * 1000000000 * 6 ≤ lockedTicks s (s.dom d.val) * 25 →
        Completes (.announceReceiptTimeout d) s fun t => (t.dom d.val).state = .holdover ∧ t.nat (K.domState d.val) = 4) ∧
      ((s.dom d.val).state = .acquiring → lockedTicks s (s.dom d.val) * 25 < 16 * 1000000000 * 6 →
        Completes (.announceReceiptTimeout d) s fun t => (t.dom d.val).state = .listening ∧ t.nat (K.domState d.val) = 1)) ∧
    (∀ x, (s.dom d.val).holdoverAt = some x → (s.dom d.val).state = .holdover → passed s x (s.nat K.timeHoldoverLimitS * 1000000000) = true →
      Completes (.holdoverLimit d) s fun t => (t.dom d.val).state = .freerun ∧ t.nat (K.domState d.val) = 5)

/-- R306 to R308: the first Sync of an Acquiring domain sets its clock to the master's time; sixteen in a row within LockThresholdNs make it
Locked; four in a row beyond four times that end Locked in Holdover; a Delay_Req goes to the master's port and its answer gives the mean path
delay (the offset and delay formulas are IEEE 1588's, the model's reading of R306: log entry 63). -/
def Obligations.DomainsAcquireAndLock : Prop :=
  ∀ (s : State) (d : DomainId),
    (∀ msg, domHears s d.val msg.port = true → (s.dom d.val).master = some (msg.port, msg.identity) → msg.followUp = false → msg.twoStep = false →
      let off : Int := (domainNs s d.val : Int) + s.int (K.tcorrIngressCorrNs msg.port) - msg.origin - msg.correction - (s.dom d.val).pathDelay
        - s.int (K.domAsymmetryNs d.val)
      ((s.dom d.val).state = .acquiring → (s.dom d.val).clockSet = false → Completes (.ptpSync d msg) s fun t =>
        t.clock d.val = s.clock d.val - off * (unitsPerNs : Int) ∧ (t.dom d.val).clockSet = true ∧ t.int (K.domOffsetNs d.val) = 0) ∧
      ((s.dom d.val).state = .acquiring → (s.dom d.val).clockSet = true → off.natAbs ≤ s.nat (K.domLockThresholdNs d.val) →
        (s.dom d.val).inLock = 15 → Completes (.ptpSync d msg) s fun t =>
          (t.dom d.val).state = .locked ∧ t.nat (K.domState d.val) = 3 ∧ t.clock d.val = s.clock d.val) ∧
      ((s.dom d.val).state = .locked → (s.dom d.val).clockSet = true → 4 * s.nat (K.domLockThresholdNs d.val) < off.natAbs →
        (s.dom d.val).outLock = 3 → Completes (.ptpSync d msg) s fun t => (t.dom d.val).state = .holdover ∧ t.nat (K.domState d.val) = 4)) ∧
    (∀ p i, (s.dom d.val).master = some (p, i) → peerDelay s d.val = false → (s.dom d.val).state ≠ .disabled → s.boot.boltReady = true →
      let seq := ((s.dom d.val).delaySeq + 1) % 65536
      Completes (.delayReqSend d) s fun t => ∃ (u : State) (f : TxFrame), t = u.sendFrame f ∧ u.net = s.net ∧ u.objs = s.objs ∧ u.clk = s.clk ∧
        (u.dom d.val).delaySeq = seq ∧ (u.dom d.val).delayReq = none ∧ f.port = p ∧ f.cls = 4 ∧ f.tagged = true ∧ f.ptp = some (d.val, seq)) ∧
    (∀ x sent msg, (s.dom d.val).delayReq = some (x, sent) → msg.seq = x → msg.peer = false → peerDelay s d.val = false →
      Completes (.ptpDelayResp d msg) s fun t =>
        (t.dom d.val).pathDelay = max 0 (((s.dom d.val).syncDiff + (msg.receive - msg.correction - sent)) / 2) ∧
          (t.dom d.val).delayReq = none ∧ t.clk = s.clk)

/-- R309, R311: the primary domain becomes active again after RevertHoldoffS in Locked; a slew ends where presented time has met the active
domain's clock; an external holdover reference is dropped and comes back.
R313, R315, R316, R320: a pulse output places each leading edge once, at its instant, and its trailing edge WidthNs later; a capture input
keeps up to sixteen records and counts what finds it full; a read of TIME_NOW_LO latches presented time, and one of TIME_CAPn_LO pops the
oldest record. -/
def Obligations.TimeFollowsAndPulsesFire : Prop :=
  ((∀ (s : State) x, s.time.dom0.lockedAt = some x → s.nat K.timeActiveDomainSelect = 0 → s.nat K.timeRevertHoldoffS ≠ 0 → s.time.active = 1 →
     passed s x (s.nat K.timeRevertHoldoffS * 1000000000) = true → Completes .revertHoldoffExpiry s fun t =>
       t.time.active = 0 ∧ t.nat K.timeSwitchCount = (s.nat K.timeSwitchCount + 1) % 2 ^ 32 ∧
         counterOf t 486 = (counterOf s 486 + 1) % 2 ^ 48) ∧
   (∀ (s : State), s.time.slewing = true → s.clock s.time.active = s.clk.presented → Completes .slewComplete s fun t =>
     t.time = { s.time with slewing := false } ∧ t.clk = s.clk ∧ t.objs = s.objs) ∧
   (∀ (s : State), s.nat K.timeHoldoverReference ≠ 0 → s.time.extDropped = false → Completes .externalRefLost s fun t =>
     t.time = { s.time with extDropped := true } ∧ t.clk = s.clk) ∧
   (∀ (s : State), s.nat K.timeHoldoverReference ≠ 0 → s.time.extDropped = true → passed s s.time.extEdge 3000000000 = false →
     Completes .externalRefReturn s fun t =>
       t.time = { s.time with extDropped := false } ∧ t.clk = s.clk ∧ t.objs = s.objs)) ∧
  (∀ (s : State) (n : Nat), n < 8 →
     (∀ x, s.nat (K.pulsePulseMode n) ≠ 1 → pulseInstant s n = some x → (AMap.getD s.time.pulses n {}).from_ < x →
       Completes (.pulseEdge n) s fun t =>
         t.net.sent = .pulse n (s.flag (K.pulseActiveLow n)) (x + s.nat (K.pulseWidthNs n)) :: .pulse n (!s.flag (K.pulseActiveLow n)) x :: s.net.sent ∧
           (AMap.getD t.time.pulses n {}).from_ = x ∧ t.objs = s.objs) ∧
     (∀ x, s.nat (K.pulsePulseMode n) ≠ 1 → pulseInstant s n = some x → x ≤ (AMap.getD s.time.pulses n {}).from_ →
       exec (.pulseEdge n) s = .next s) ∧
     (∀ x, s.nat (K.pulsePulseMode n) = 1 → pulseInstant s n = some x → (AMap.getD s.time.pulses n {}).fired = false →
       Completes (.pulseEdge n) s fun t => (AMap.getD t.time.pulses n {}).fired = true ∧ exec (.pulseEdge n) t = .next t) ∧
     (s.nat (K.pulsePulseMode n) = 0 → exec (.pulseEdge n) s = .next s) ∧
     (∀ rising, s.nat (K.capCaptureEdge n) = 3 → s.nat K.timeHoldoverReference = 0 → s.isFrozen 36 = false →
       ((AMap.getD s.time.caps n {}).fifo.length < 16 → Completes (.captureEdge n rising) s fun t =>
         (AMap.getD t.time.caps n {}).fifo = (AMap.getD s.time.caps n {}).fifo ++
           [{ time := nowNs s % 2 ^ 64, rising := rising, stepEpoch := s.nat K.timeStepCount % 256 }] ∧
           t.obj (K.capLastCapture n) = .int (time80 (nowNs s))) ∧
       (16 ≤ (AMap.getD s.time.caps n {}).fifo.length → Completes (.captureEdge n rising) s fun t =>
         t.time.caps = s.time.caps ∧ t.nat (K.capCaptureOverflow n) = (s.nat (K.capCaptureOverflow n) + 1) % 2 ^ 32)) ∧
     (∀ r rest, (AMap.getD s.time.caps n {}).fifo = r :: rest → Completes (.capturePop n) s fun t =>
       (AMap.getD t.time.caps n {}).fifo = rest ∧ (AMap.getD t.time.caps n {}).latchLo = r.time % 2 ^ 32 ∧
         (AMap.getD t.time.caps n {}).latchHi = r.time / 2 ^ 32 ∧ t.objs = s.objs) ∧
     ((AMap.getD s.time.caps n {}).fifo = [] → Completes (.capturePop n) s fun t =>
       (AMap.getD t.time.caps n {}).latchStat = 0 ∧ t.objs = s.objs) ∧
     Answers .timeNowRead s (.next { s with clk := { s.clk with nowLatch := nowNs s % 2 ^ 64 } }))

/-! ## Audio -/

/-- R324, R327 to R331: at a frame instant a native receive port takes one frame, with its number; a compatibility port whose FIFO runs reads one
frame, drops one more above FifoCentre + FifoHysteresis, and repeats below FifoCentre − FifoHysteresis; the external clock fills the FIFO up
to 32 frames; without it for four frame periods the port is Lost; a measured rate of no matching class makes it RateMismatch. -/
def Obligations.AudioPortsRun : Prop :=
  ∀ (s : State) (a : AudioPort),
    (∀ samples, s.flag (K.audEnable a.val) = true → s.nat (K.audDirection a.val) = 0 →
      (∀ m, (s.aport a.val).lastFrame = some m → m < frameNumber s (s.nat (K.audSampleRate a.val))) → s.isFrozen 37 = false →
      (s.aport a.val).restAt = none →
      let n := frameNumber s (s.nat (K.audSampleRate a.val))
      (s.nat (K.audClockMode a.val) = 0 → Completes (.audioFrameInstant a samples) s fun t =>
        (t.aport a.val).lastFrame = some n ∧ (t.aport a.val).last = s.wordsIn a.val samples ∧
          AMap.find? (t.aport a.val).captured n = some (s.wordsIn a.val samples)) ∧
      (s.nat (K.audClockMode a.val) = 1 → s.nat (K.audClockState a.val) = 1 → (s.aport a.val).filling = false → s.nat (K.audAudioGroup a.val) = 0 →
        (slipIntent s a.val = 0 → Completes (.audioFrameInstant a samples) s fun t =>
          (t.aport a.val).fifo = (s.aport a.val).fifo.drop 1 ∧ t.nat (K.audSlipDropCount a.val) = s.nat (K.audSlipDropCount a.val)) ∧
        (slipIntent s a.val = 1 → Completes (.audioFrameInstant a samples) s fun t =>
          (t.aport a.val).fifo = (s.aport a.val).fifo.drop 2 ∧
            t.nat (K.audSlipDropCount a.val) = (s.nat (K.audSlipDropCount a.val) + 1) % 2 ^ 32) ∧
        (slipIntent s a.val = 2 → Completes (.audioFrameInstant a samples) s fun t =>
          (t.aport a.val).fifo = (s.aport a.val).fifo ∧ (t.aport a.val).last = (s.aport a.val).last ∧
            t.nat (K.audSlipRepeatCount a.val) = (s.nat (K.audSlipRepeatCount a.val) + 1) % 2 ^ 32))) ∧
    (∀ samples, s.flag (K.audEnable a.val) = true → s.nat (K.audClockMode a.val) = 1 → s.nat (K.audClockState a.val) = 1 →
      s.nat (K.audDirection a.val) = 0 →
      ((s.aport a.val).fifo.length < 32 → Completes (.audioExtFrameSync a samples) s fun t =>
        (t.aport a.val).fifo = (s.aport a.val).fifo ++ [s.wordsIn a.val samples] ∧ (t.aport a.val).edges = (s.aport a.val).edges + 1) ∧
      (32 ≤ (s.aport a.val).fifo.length → Completes (.audioExtFrameSync a samples) s fun t => (t.aport a.val).fifo = (s.aport a.val).fifo)) ∧
    (∀ samples, s.flag (K.audEnable a.val) = true → s.nat (K.audClockMode a.val) = 1 → s.nat (K.audClockState a.val) = 2 →
      s.nat (K.audMeasuredClass a.val) = s.nat (K.audSampleRate a.val) → 255 ≤ (s.aport a.val).syncRun →
      passed s (s.aport a.val).lastSync (4 * frameInstant (s.nat (K.audSampleRate a.val)) 1) = false →
      Completes (.audioExtFrameSync a samples) s fun t =>
        t.nat (K.audClockState a.val) = 1 ∧ (t.aport a.val).fifo = [] ∧ (t.aport a.val).filling = true) ∧
    (s.flag (K.audEnable a.val) = true → s.nat (K.audClockMode a.val) = 1 → s.nat (K.audClockState a.val) = 1 →
      passed s (s.aport a.val).lastSync (4 * frameInstant (s.nat (K.audSampleRate a.val)) 1) = true →
      Completes (.audioClockLost a) s fun t => t.nat (K.audClockState a.val) = 2 ∧ (t.aport a.val).fifo = [] ∧ (t.aport a.val).filling = true) ∧
    ((s.aport a.val).measured ≠ some (nowNs s / 1000000000) → s.flag (K.audEnable a.val) = true →
      (s.nat (K.audClockMode a.val) = 0 → Completes (.rateMeasurement a) s fun t =>
        t.nat (K.audMeasuredRateMilliHz a.val) = 1000 * s.nat (K.audSampleRate a.val) ∧ t.int (K.audFreqOffsetPpb a.val) = 0 ∧
          t.nat (K.audMeasuredClass a.val) = s.nat (K.audSampleRate a.val)) ∧
      (s.nat (K.audClockMode a.val) = 1 → (s.aport a.val).edges = 0 → s.nat (K.audSampleRate a.val) ≠ 0 → s.nat (K.audClockState a.val) = 1 →
        Completes (.rateMeasurement a) s fun t => t.nat (K.audMeasuredClass a.val) = 0 ∧ t.nat (K.audClockState a.val) = 3))

/-! ## Serial lanes -/

/-- R352, R353, R356: a weft lane that gains clock recovery after BoltReady is aligned; within 65 slips it is Up, else in Fault, and from Fault it
is aligned again every 100 ms; it leaves Up when clock recovery is lost, when 16 of 64 headers are bad, when two framing blocks in a row are
missed, and 2.0 ms after its neighbour's SoakNotice where no block has come. -/
def Obligations.LanesAlign : Prop :=
  ∀ (s : State) (n : LaneId), quadMode s.view n.val = 4 →
    ((s.lane n.val).mode = .off → (s.lane n.val).cdrLock = false → s.boot.earlySet = true → s.boot.boltReady = true →
      Completes (.laneCdrLock n) s fun t => (t.lane n.val).mode = .aligning ∧ (t.lane n.val).cdrLock = true ∧
        (t.lane n.val).alignCount = ((s.lane n.val).alignCount + 1) % 256 ∧ t.nat (K.laneLaneStateNow n.val) = 1) ∧
    (∀ slips, (s.lane n.val).mode = .aligning → (s.lane n.val).cdrLock = true →
      (slips < 66 → s.nat (K.laneLanePower n.val) ≠ 2 → Completes (.laneAlignmentDone n slips) s fun t =>
        (t.lane n.val).mode = .up ∧ (t.lane n.val).blockLock = true ∧ (t.lane n.val).frameLock = true ∧ (t.lane n.val).slipCount = slips ∧
          t.nat (K.laneLaneStateNow n.val) = 2) ∧
      (66 ≤ slips → Completes (.laneAlignmentDone n slips) s fun t => (t.lane n.val).mode = .fault ∧ t.nat (K.laneLaneStateNow n.val) = 5 ∧
        t.nat (K.laneAlignFailCount n.val) = (s.nat (K.laneAlignFailCount n.val) + 1) % 2 ^ 32)) ∧
    ((s.lane n.val).mode = .fault → (s.lane n.val).cdrLock = true → passed s (s.lane n.val).faultSince 100000000 = true →
      Completes (.laneAlignRetry n) s fun t => (t.lane n.val).mode = .aligning) ∧
    ((s.lane n.val).mode = .up → (s.lane n.val).cdrLock = true → Completes (.cdrLockLoss n) s fun t =>
      (t.lane n.val).mode = .off ∧ (t.lane n.val).cdrLock = false ∧ (t.lane n.val).blockLock = false ∧ (t.lane n.val).frameLock = false) ∧
    (∀ header payload, (s.lane n.val).mode = .up →
      (laneBlock s n.val header payload = .invalid → (s.lane n.val).headers = List.replicate 15 false →
        Completes (.weftBlockReceived n ⟨header, payload⟩) s fun t =>
          (t.lane n.val).mode = .aligning ∧ t.nat (K.laneCodeErrors n.val) = (s.nat (K.laneCodeErrors n.val) + 1) % 2 ^ 32) ∧
      (∀ kind rest, laneBlock s n.val header payload = .framing kind 9 rest → (s.lane n.val).headers = [] → (s.lane n.val).noticeSeen = false →
        (s.lane n.val).framingMisses = 1 → (s.lane n.val).lastFrameSeq = some 7 → Completes (.weftBlockReceived n ⟨header, payload⟩) s fun t =>
          (t.lane n.val).mode = .aligning) ∧
      (laneBlock s n.val header payload = .soakNotice → (∀ h ∈ (s.lane n.val).headers, h = true) → (s.lane n.val).framingMisses < 2 →
        Completes (.weftBlockReceived n ⟨header, payload⟩) s fun t =>
          (t.lane n.val).noticeSeen = true ∧ (t.lane n.val).mode = .up ∧ t.objs = s.objs)) ∧
    (∀ header payload, header = 0 ∨ header = 3 → laneBlock s n.val header payload = .invalid) ∧
    ((s.lane n.val).mode = .up → (s.lane n.val).noticeSeen = true → passed s (s.lane n.val).lastBlock 2000000 = true →
      Completes (.weftRxSilenceTimeout n) s fun t => (t.lane n.val).mode = .aligning ∧ (t.lane n.val).noticeSeen = false)

/-- R354 to R356, R358, R359: an idle chain lane without seam traffic enters Soak after SoakIdleUs and leaves it as soon as a segment is ready,
and in Soak it sends a burst every millisecond; an eye scan runs on a lane that is Up, is refused on another, and reports after DwellMs. -/
def Obligations.LanesSoakAndScan : Prop :=
  ∀ (s : State) (n : LaneId),
    (∀ d, chainSide s.view n.val = some d → (s.lane n.val).mode = .up → (s.chainPort d).queue = [] → seamTraffic s d = false →
      (s.lane n.val).scanSince = none → s.nat (K.laneLanePower n.val) = 0 →
      passed s (s.chainPort d).idleSince (s.nat (K.laneSoakIdleUs n.val) * 1000) = true → Completes (.soakIdleExpiry n) s fun t =>
        (t.lane n.val).mode = .soak ∧ t.nat (K.laneSoakCount n.val) = (s.nat (K.laneSoakCount n.val) + 1) % 2 ^ 32 ∧
          t.net.sent.head? = some (.weft n.val 1)) ∧
    (∀ d, chainSide s.view n.val = some d → (s.lane n.val).mode = .soak → (s.chainPort d).queue ≠ [] → Completes (.soakExit n) s fun t =>
      (t.lane n.val).mode = .up ∧ t.net.sent.head? = some (.weft n.val 2)) ∧
    ((s.lane n.val).mode = .soak → passed s (s.lane n.val).lastBurst 1000000 = true → Completes (.soakBurst n) s fun t =>
      t.net.sent = .weft n.val 3 :: s.net.sent ∧ (t.lane n.val).lastBurst = s.clk.ticks ∧ t.objs = s.objs) ∧
    (Unheld s (K.scanScanStart n.val) → (s.lane n.val).mode = .up → Completes (.scanStart n) s fun t => t.nat (K.scanScanState n.val) = 1 ∧
      (t.lane n.val).scanSince = some s.clk.ticks ∧ (t.lane n.val).scanDwell = s.nat (K.scanDwellMs n.val)) ∧
    (Unheld s (K.scanScanStart n.val) → (s.lane n.val).mode ≠ .up → Completes (.scanStart n) s fun t => t.lanes = s.lanes ∧ t.objs = s.objs ∧
      t.net.sent = .reply .host (K.scanScanStart n.val) stInconsistent :: s.net.sent) ∧
    (∀ x errors, (s.lane n.val).scanSince = some x → passed s x ((s.lane n.val).scanDwell * 1000000) = true →
      Completes (.scanDwellEnd n errors) s fun t => t.nat (K.scanScanState n.val) = 2 ∧ (t.lane n.val).scanSince = none ∧
        t.nat (K.scanBitsCompared n.val) = floorN (laneRate s n.val * q ((s.lane n.val).scanDwell * 1000000) / 1000000000 / 32) ∧
        t.nat (K.scanErrors n.val) ≤ t.nat (K.scanBitsCompared n.val))

/-! ## The Beam -/

/-- R30: sustained bandwidth is 80 % of peak at each DRAM set point, and peak is 8 × 4 bytes at the set point's rate. -/
def Obligations.SustainedBandwidth : Prop :=
  ∀ (p : Fin 3) (rate : Nat), [8533, 7500, 6400][p.val]? = some rate → sustained p.val = 80 / 100 * (8 * 4 * (rate : Rat) * 1000000)

/-- R27: the 64 read entries of a channel that are reserved for loom reference reads go to no other read, nor to one of a master that is no
loom; a reference read that finds them in use takes an unreserved entry, and a read that finds no entry waits as it is.
R15, R16: a transaction waits while an earlier one of its order, or one that it must read after, has not been accepted. -/
def Obligations.ReservedReadEntries : Prop :=
  ∀ (s : State) (n : Nat) (f : Flight), AMap.find? s.fab.inflight n = some f → f.accepted = false → f.txn.target = .dram → f.txn.wdata = none →
    s.beam.failed = false → s.beam.trained = true → outOfRange s f.txn.addr = false →
    let c := beamChannel f.txn.addr
    let k := (unitsOf f.txn.addr f.txn.len).length
    let held (u : State) : Nat × Nat := (reservedUsed (u.bch c), unreservedUsed (u.bch c))
    (orderHolds s n f.txn = true → exec (.beamRequest n) s = .next s) ∧
    (f.txn.master < 11 ∨ 27 ≤ f.txn.master → f.txn.loomReference = false) ∧
    (orderHolds s n f.txn = false → f.txn.loomReference = false → k ≤ 128 - (held s).2 → Completes (.beamRequest n) s fun t =>
      held t = ((held s).1, (held s).2 + k) ∧ ∃ g, AMap.find? t.fab.inflight n = some g ∧ g.accepted = true) ∧
    (orderHolds s n f.txn = false → f.txn.loomReference = true → (held s).1 ≤ 64 → k ≤ (64 - (held s).1) + (128 - (held s).2) → Completes (.beamRequest n) s fun t =>
      (held t).1 = min 64 ((held s).1 + k) ∧ (held t).1 + (held t).2 = (held s).1 + (held s).2 + k ∧
        ∃ g, AMap.find? t.fab.inflight n = some g ∧ g.accepted = true) ∧
    ((f.txn.loomReference = false ∧ 128 - (held s).2 < k ∨ f.txn.loomReference = true ∧ (64 - (held s).1) + (128 - (held s).2) < k) →
      orderHolds s n f.txn = false → Completes (.beamRequest n) s fun t => (t.bch c).reads = (s.bch c).reads ∧ AMap.find? t.fab.inflight n = some f)

/-- R367, R369, R376, R382: a memory port takes a transaction into its channel's queue where the queue has the entries: a write of one unit stands
in an entry of that unit, a read of bytes that an entry covers is forwarded from the newest; outside the usable capacity, and in
beam-failed state, a read gives zeros and a write is discarded. -/
def Obligations.BeamTakesRequests : Prop :=
  ∀ (s : State) (n : Nat) (f : Flight), AMap.find? s.fab.inflight n = some f → f.accepted = false → f.done = false → f.txn.target = .dram →
    orderHolds s n f.txn = false →
    let c := beamChannel f.txn.addr
    (s.beam.failed = true → Completes (.beamRequest n) s fun t => SameMemory s t ∧ ∃ g, AMap.find? t.fab.inflight n = some g ∧ g.done = true ∧
      (f.txn.wdata = none → g.data = List.replicate f.txn.len 0)) ∧
    (s.beam.failed = false → s.beam.trained = true → outOfRange s f.txn.addr = true → Completes (.beamRequest n) s fun t =>
      SameMemory s t ∧ t.nat K.beamOutOfRange = (s.nat K.beamOutOfRange + 1) % 2 ^ 32 ∧ ∃ g, AMap.find? t.fab.inflight n = some g ∧ g.done = true ∧
        (f.txn.wdata = none → g.data = List.replicate f.txn.len 0)) ∧
    (s.beam.failed = false → s.beam.trained = true → outOfRange s f.txn.addr = false → (s.bch c).room f.txn = true →
      0 < f.txn.len → f.txn.addr % 64 + f.txn.len ≤ 64 →
      (∀ d, f.txn.wdata = some d → d.length = f.txn.len → Completes (.beamRequest n) s fun t =>
        AMap.find? t.fab.inflight n = some { f with accepted := true, done := true } ∧ t.beam.selfRefresh = false ∧ SameMemory s t ∧
          ∃ e ∈ (t.bch c).writes, e.unit = f.txn.addr / 64 ∧ e.raised = none ∧ ∀ i, i < f.txn.len → e.byte? (f.txn.addr + i) = d[i]?) ∧
      (f.txn.wdata = none → Completes (.beamRequest n) s fun t =>
        AMap.find? t.fab.inflight n = some { f with accepted := true, done := false } ∧ SameMemory s t ∧
          (t.bch c).reads.length = (s.bch c).reads.length + 1 ∧
          (∀ w, newestMeeting (s.bch c).writes f.txn.addr f.txn.len = some w → w.covers f.txn.addr f.txn.len = true →
            t.nat (K.beamForwardedReads c) = (s.nat (K.beamForwardedReads c) + 1) % 2 ^ 32 ∧
              ∃ e ∈ (t.bch c).reads, e.txn = n ∧ e.forwarded = some ((List.range f.txn.len).map fun i => (w.byte? (f.txn.addr + i)).getD 0))))

/-- R368 to R370, R383: a channel first makes up the refreshes that have reached their limit, then refreshes a quiet rank, then issues the chosen
command: a write puts its bytes into the DRAM, a read changes no memory; returned data are what the DRAM holds, a unit whose link check fails
is read once more, and one that fails again is delivered as read and counted, and freezes the loom that asked for it. -/
def Obligations.BeamIssuesCommands : Prop :=
  ∀ (s : State) (c : BeamChan),
    (s.beam.trained = true → s.beam.failed = false → s.beam.switching = none → s.beam.selfRefresh = false →
      let x := { s.bch c.val with draining := drains s (s.bch c.val) }
      (∀ r, (ranksFitted s).find? (fun r => burstDue s (s.bch c.val) r) = some r → Completes (.beamCommandSlot c) s fun t =>
        ((t.bch c.val).rank r).owed = 0 ∧ t.nat (K.beamMakeupBursts c.val) = (s.nat (K.beamMakeupBursts c.val) + 1) % 2 ^ 32 ∧
          counterOf t (592 + 8 * c.val + 4) = (counterOf s (592 + 8 * c.val + 4) + ((s.bch c.val).rank r).owed) % 2 ^ 48 ∧ SameMemory s t) ∧
      ((ranksFitted s).find? (fun r => burstDue s (s.bch c.val) r) = none →
        (∀ r, (ranksFitted s).find? (fun r => ((s.bch c.val).rank r).owed != 0 && rankQuiet s (s.bch c.val) r &&
            !blocked s ((s.bch c.val).rank r)) = some r → Completes (.beamCommandSlot c) s fun t =>
          ((t.bch c.val).rank r).owed = ((s.bch c.val).rank r).owed - 1 ∧ SameMemory s t) ∧
        ((ranksFitted s).find? (fun r => ((s.bch c.val).rank r).owed != 0 && rankQuiet s (s.bch c.val) r &&
            !blocked s ((s.bch c.val).rank r)) = none →
          (∀ d w, nextCommand (s.setBch c.val x) x = some d → x.reads.find? (fun e => e.seq == d.seq) = none →
            x.writes.find? (fun e => e.seq == d.seq) = some w → Completes (.beamCommandSlot c) s fun t =>
              t.dram = w.data.foldl (fun m b => Memory.write m (64 * w.unit + b.1) b.2) s.dram ∧
                (∀ a, Memory.read t.sram a = Memory.read s.sram a) ∧ w ∉ (t.bch c.val).writes) ∧
          (∀ d e, nextCommand (s.setBch c.val x) x = some d → x.reads.find? (fun e => e.seq == d.seq) = some e →
            Completes (.beamCommandSlot c) s fun t => SameMemory s t ∧ { e with issued := true } ∈ (t.bch c.val).reads ∧
              counterOf t (592 + 8 * c.val) = (counterOf s (592 + 8 * c.val) + 1) % 2 ^ 48)))) ∧
    (∀ e data, nextReturn (s.bch c.val) = some e → e.forwarded = none →
      (∀ f, AMap.find? s.fab.inflight e.txn = some f → Completes (.beamReadReturn c data .clean) s fun t => SameMemory s t ∧
        (∃ g, AMap.find? t.fab.inflight e.txn = some g ∧ g.data = f.data ++ Memory.readBytes s.dram e.addr e.len) ∧ e ∉ (t.bch c.val).reads) ∧
      (e.retried = false → Completes (.beamReadReturn c data .uncorrected) s fun t =>
        (∃ y ∈ (t.bch c.val).reads, y.seq = e.seq ∧ y.issued = false ∧ y.retried = true) ∧ t.objs = s.objs ∧ t.fab = s.fab ∧ SameMemory s t) ∧
      (e.retried = true → Completes (.beamReadReturn c data .uncorrected) s fun t => e ∉ (t.bch c.val).reads ∧
        ((11 ≤ e.master → 27 ≤ e.master) →
          t.nat (K.beamLinkEccUncorrected c.val) = (s.nat (K.beamLinkEccUncorrected c.val) + 1) % 2 ^ 32) ∧
        (11 ≤ e.master → e.master < 27 → s.log.safe = false → 3 < s.nat K.logLogMinSeverity →
          AMap.find? s.fab.freezes e.master = none → t.isFrozen e.master = true)))

/-- R370, R371, R375, R376, R384: at tREFI each fitted rank owes one more refresh, up to RefreshPostponeMax; MR4 sets the multiplier; a rank
without commands enters power-down, and the idle Beam self-refresh; a window of 1 ms is reported and begun again. -/
def Obligations.BeamKeepsItself : Prop :=
  (∀ (s : State) (c : BeamChan), s.beam.trained = true → s.beam.failed = false → s.beam.selfRefresh = false →
    (s.bch c.val).refiAt + 23436 / s.beam.mr4 ≤ s.clk.ticks * 25 → Completes (.refreshDue c) s fun t =>
      (t.bch c.val).refiAt = (s.bch c.val).refiAt + 23436 / s.beam.mr4 ∧
        ((s.bch c.val).rank0.owed < s.nat K.beamRefreshPostponeMax → (t.bch c.val).rank0.owed = (s.bch c.val).rank0.owed + 1) ∧
        ((s.bch c.val).rank0.owed = s.nat K.beamRefreshPostponeMax → (t.bch c.val).rank0.owed = (s.bch c.val).rank0.owed) ∧
        (s.beam.ranks ≠ 2 → (t.bch c.val).rank1 = (s.bch c.val).rank1) ∧ t.objs = s.objs) ∧
  (∀ (s : State) codes, s.beam.trained = true → s.beam.failed = false → s.beam.selfRefresh = false → passed s s.beam.mr4At 16000000 = true →
    Completes (.mr4Poll codes) s fun t => t.beam.mr4 = (if 4 ≤ maxOf codes then 4 else if 2 ≤ maxOf codes then 2 else 1) ∧
      (4 ≤ maxOf codes → s.beam.mr4 ≠ 4 → bit s.log.pending 526 = false → s.log.safe = false → bit t.log.pending 526 = true) ∧ t.objs = s.objs) ∧
  (∀ (s : State) (c : BeamChan) r, r < 2 → s.beam.trained = true → s.beam.failed = false → s.beam.selfRefresh = false → r < s.beam.ranks →
    (∀ e ∈ (s.bch c.val).reads, rankOf s e.addr ≠ r) → (∀ w ∈ (s.bch c.val).writes, rankOf s (64 * w.unit) ≠ r) →
    ((s.bch c.val).rank r).powerDown = false → passed s ((s.bch c.val).rank r).lastQueued (s.nat K.beamPowerDownIdleNs) = true →
    Completes (.powerDownEntry c r) s fun t => ((t.bch c.val).rank r).powerDown = true ∧ ((t.bch c.val).rank (1 - r)) = (s.bch c.val).rank (1 - r) ∧
      t.objs = s.objs) ∧
  (∀ (s : State), s.beam.trained = true → s.beam.failed = false → s.beam.selfRefresh = false → s.beam.switching = none →
    s.nat K.beamSelfRefreshIdleUs ≠ 0 → beamIdle s = true → passed s s.beam.idleSince (s.nat K.beamSelfRefreshIdleUs * 1000) = true →
    Completes .selfRefreshEntry s fun t => t.beam.selfRefresh = true ∧ t.nat K.beamBeamState = 3 ∧ SameMemory s t) ∧
  (∀ (s : State), nowNs s / 1000000 ≠ s.beam.window → Completes .bandwidthWindow s fun t =>
    t.beam.window = nowNs s / 1000000 ∧ (∀ c, c < 8 → t.nat (K.beamReadMBps c) = (s.bch c).readBytes / 1000 ∧
      t.nat (K.beamWriteMBps c) = (s.bch c).writeBytes / 1000 ∧ (t.bch c).readBytes = 0 ∧ (t.bch c).writeBytes = 0) ∧
      t.nat K.beamBeamLoadPermille ≤ 65535)

/-- R377 to R380, R382: a margin check below MinMarginSteps starts a retraining attempt; an attempt that fails is followed by another, and the
third failure moves every channel to the next lower set point that has trained, or into beam-failed state; a set-point change ends at its
target; ReturnToSetPoint retrains the highest set point that is allowed. -/
def Obligations.BeamRetrains : Prop :=
  ∀ (s : State) (c : BeamChan), s.beam.failed = false → s.beam.switching = none → s.isFrozen 34 = false →
    (∀ margin, s.beam.trained = true → s.beam.selfRefresh = false → (s.bch c.val).checkNow = true → s.beam.resumeAt ≤ s.clk.ticks →
      (s.bch c.val).retraining = false →
      (margin < s.int K.beamMinMarginSteps → Completes (.marginCheck c margin) s fun t => (t.bch c.val).retraining = true ∧
        (t.bch c.val).checkNow = false ∧ t.nat (K.beamRetrainAttempts c.val) = (s.nat (K.beamRetrainAttempts c.val) + 1) % 2 ^ 32) ∧
      (s.int K.beamMinMarginSteps ≤ margin → Completes (.marginCheck c margin) s fun t => (t.bch c.val).retraining = false ∧
        (t.bch c.val).marginAt = s.clk.ticks ∧ t.objs = s.objs)) ∧
    ((s.bch c.val).retraining = true → Completes (.retrainAttemptDone c true) s fun t =>
      (t.bch c.val).retraining = false ∧ (t.bch c.val).attempts = 0 ∧ t.objs = s.objs) ∧
    ((s.bch c.val).retraining = true → (s.bch c.val).attempts < 2 → Completes (.retrainAttemptDone c false) s fun t =>
      (t.bch c.val).retraining = true ∧ (t.bch c.val).attempts = (s.bch c.val).attempts + 1 ∧
        t.nat (K.beamRetrainAttempts c.val) = (s.nat (K.beamRetrainAttempts c.val) + 1) % 2 ^ 32) ∧
    (∀ p rest, (s.bch c.val).retraining = true → 2 ≤ (s.bch c.val).attempts → trainedFrom s (s.beam.setPoint + 1) = p :: rest →
      Completes (.retrainAttemptDone c false) s fun t => t.beam.switching = some p ∧ (t.bch c.val).failed = true ∧ t.beam.failed = false) ∧
    ((s.bch c.val).retraining = true → 2 ≤ (s.bch c.val).attempts → trainedFrom s (s.beam.setPoint + 1) = [] →
      Completes (.retrainAttemptDone c false) s fun t => t.beam.failed = true ∧ t.beam.failedSince = s.clk.ticks) ∧
    (s.beam.trained = true → s.beam.returning = none → s.nat K.beamMaxSetPoint < s.beam.setPoint → Unheld s K.beamReturnToSetPoint → Completes .returnToSetPoint s fun t =>
      t.beam.returning = some (s.nat K.beamMaxSetPoint, 0, 0) ∧ t.beam.setPoint = s.beam.setPoint) ∧
    (∀ u p, u.beam.switching = some p → u.beam.failed = false → Completes (.setPointChange p) u fun t =>
      t.beam.setPoint = p ∧ t.beam.switching = none ∧ t.nat K.beamSetPointChanges = (u.nat K.beamSetPointChanges + 1) % 2 ^ 32)

/-! ## The Shuttle -/

/-- R392, R396, R438: the ten commands of a core that is not frozen, each with its result code, its effect on the named or the issuing thread, and
every other thread unchanged; a frozen core issues none; a running thread that is to be cancelled ends at its core's next command. -/
def Obligations.ThreadCommands : Prop :=
  ∀ (s : State) (c : CoreId),
    (s.isFrozen (2 + c.val) = true → exec (.yield c) s = .next s ∧ ∀ n, exec (.wake c n) s = .next s) ∧
    (s.isFrozen (2 + c.val) = false → s.boot.spindle = true →
      (∀ u, (s.core c.val).running = some u → (s.thread u).cancelPending = true → ∀ i ∈ [Instr.block c, .yield c, .exit c],
        Completes i s fun t => (t.thread u).state = .cancelled ∧ (t.core c.val).running = none ∧ t.shtl.ready = s.shtl.ready) ∧
      ((∀ u, (s.core c.val).running = some u → (s.thread u).cancelPending = false) →
        let answers (t : State) (code n : Nat) : Prop :=
          (t.core c.val).resultDone = true ∧ (t.core c.val).resultCode = code ∧ (t.core c.val).resultThread = n
        let others (t : State) (n : Nat) : Prop := ∀ y, y ≠ n → t.thread y = s.thread y
        (∀ level cls mask, (∀ x, lowestFree s = some x → Completes (.create c level cls mask) s fun t =>
            answers t 0 x ∧ others t x ∧ (t.thread x).state = .blocked ∧ (t.thread x).priority = level % 64 ∧ (t.thread x).cls = cls % 4 ∧
              (t.thread x).affinity = mask % 256 ∧ (t.thread x).wakeCount = 0) ∧
          (lowestFree s = none → Completes (.create c level cls mask) s fun t => answers t 1 0 ∧ t.shtl.threads = s.shtl.threads ∧
            t.nat K.shtlCreateRefused = (s.nat K.shtlCreateRefused + 1) % 2 ^ 32)) ∧
        (∀ u, (s.core c.val).running = some u →
          ((s.thread u).wakeCount = 0 → Completes (.block c) s fun t =>
            answers t 0 u ∧ others t u ∧ (t.thread u).state = .blocked ∧ (t.core c.val).running = none) ∧
          ((s.thread u).wakeCount ≠ 0 → Completes (.block c) s fun t =>
            answers t 0 u ∧ others t u ∧ (t.thread u).wakeCount = (s.thread u).wakeCount - 1 ∧ (t.core c.val).running = some u) ∧
          (Completes (.yield c) s fun t => answers t 0 u ∧ others t u ∧ (t.core c.val).running = none ∧ isQueued (t.thread u) = true ∧
            readyList t (s.thread u).priority = readyList s (s.thread u).priority ++ [u]) ∧
          (Completes (.exit c) s fun t => answers t 0 u ∧ others t u ∧ (t.thread u).state = .cancelled ∧ (t.core c.val).running = none)) ∧
        (∀ n, let x := n % 4096
          ((s.thread x).state = .free → (∀ level cls mask, ∀ i ∈ [Instr.wake c n, .cancel c n, .setPriority c n level, .setClass c n cls mask],
            Completes i s fun t => answers t 2 x ∧ t.shtl.threads = s.shtl.threads ∧ t.shtl.intake = s.shtl.intake)) ∧
          ((s.thread x).state ≠ .free → s.shtl.intake.length < 64 → Completes (.wake c n) s fun t =>
            answers t 0 x ∧ t.shtl.intake = s.shtl.intake ++ [x] ∧ t.shtl.threads = s.shtl.threads) ∧
          ((s.thread x).state = .running → Completes (.cancel c n) s fun t =>
            answers t 0 x ∧ others t x ∧ (t.thread x).cancelPending = true ∧ (t.thread x).state = .running) ∧
          ((s.thread x).state = .blocked ∨ isQueued (s.thread x) = true → Completes (.cancel c n) s fun t =>
            answers t 0 x ∧ others t x ∧ (t.thread x).state = .cancelled ∧
              (isQueued (s.thread x) = true → x ∉ readyList t (s.thread x).priority)) ∧
          (∀ level, (s.thread x).state ≠ .free → (s.thread x).state ≠ .cancelled → Completes (.setPriority c n level) s fun t =>
            answers t 0 x ∧ others t x ∧ (t.thread x).priority = level % 64 ∧
              (isQueued (s.thread x) = true → (readyList t (level % 64)).getLast? = some x) ∧
              (isQueued (s.thread x) = false → t.shtl.ready = s.shtl.ready)) ∧
          (∀ cls mask, (s.thread x).state ≠ .free → (s.thread x).state ≠ .cancelled → Completes (.setClass c n cls mask) s fun t =>
            (mask % 256 = 0 → answers t 3 x ∧ t.shtl.threads = s.shtl.threads) ∧
              (mask % 256 ≠ 0 → answers t 0 x ∧ others t x ∧ (t.thread x).cls = cls % 4 ∧ (t.thread x).affinity = mask % 256)) ∧
          ((s.thread x).state ≠ .cancelled → Completes (.free c n) s fun t => answers t 4 x ∧ t.shtl.threads = s.shtl.threads) ∧
          ((s.thread x).state = .cancelled → Completes (.free c n) s fun t =>
            answers t 0 x ∧ others t x ∧ (t.thread x).state = .free ∧ ∀ b ∈ t.shtl.bound, b.2 ≠ x) ∧
          (∀ source, 639 < source → Completes (.bind c n source) s fun t => answers t 5 x ∧ t.shtl.threads = s.shtl.threads) ∧
          (∀ source, source ≤ 639 → Completes (.bind c n source) s fun t =>
            answers t 0 x ∧ AMap.find? t.shtl.bound source = some x ∧ (t.thread x).boundSource = source ∧ ∀ b ∈ t.shtl.bound, b.2 = x → b.1 = source))))

/-- R393 to R397, R399: a wake reaches its thread by the thread's state; a core takes a Ready thread that may run on it from the highest level
that holds one, and a thread that it preempts goes back to the head of its level; the limits of a hold, a cancel and a deferral end. -/
def Obligations.CoresTakeThreads : Prop :=
  (∀ (s : State) w rest, s.shtl.intake = w :: rest → Completes .wakeIntake s fun t =>
    t.shtl.intake = rest ++ s.shtl.stalled.take 1 ∧ (t.thread w).readyCount = ((s.thread w).readyCount + 1) % 2 ^ 32 ∧
      (∀ y, y ≠ w → t.thread y = s.thread y) ∧
      ((s.thread w).state = .blocked → isQueued (t.thread w) = true ∧
        readyList t (s.thread w).priority = readyList s (s.thread w).priority ++ [w]) ∧
      (isQueued (s.thread w) = true ∨ (s.thread w).state = .running → (t.thread w).state = (s.thread w).state ∧
        (t.thread w).wakeCount = min 65535 ((s.thread w).wakeCount + 1)) ∧
      ((s.thread w).state = .cancelled → t.nat K.shtlWakesAfterCancel = (s.nat K.shtlWakesAfterCancel + 1) % 2 ^ 32)) ∧
  (∀ (s : State) (c : CoreId) w, idleChoice s c.val = some w ∨ preemptChoice s c.val = some w →
    (s.thread w).state = .ready ∧ bit (s.thread w).affinity c.val = true ∧ ∃ level, level < 64 ∧ w ∈ readyList s level ∧
      ∀ higher v, level < higher → higher < 64 → v ∈ readyList s higher → (s.thread v).state = .ready → bit (s.thread v).affinity c.val = false) ∧
  (∀ (s : State) (c : CoreId) w, s.isFrozen (2 + c.val) = false →
    (s.core c.val).running = none ∧ idleChoice s c.val = some w ∨ (s.core c.val).running ≠ none ∧ preemptChoice s c.val = some w →
    Completes (.dispatch c) s fun t =>
      (t.core c.val).running = some w ∧ (t.core c.val).nextThread = w ∧ (t.core c.val).nextPreempt = (s.core c.val).running.isSome ∧
        (t.thread w).state = .running ∧ (t.thread w).lastCore = c.val ∧ (t.thread w).released = false ∧
        (t.thread w).dispatchCount = ((s.thread w).dispatchCount + 1) % 2 ^ 32 ∧ w ∉ readyList t (s.thread w).priority ∧
        ∀ u, (s.core c.val).running = some u → u ≠ w → ((s.thread u).cancelPending = true → (t.thread u).state = .cancelled) ∧
          ((s.thread u).cancelPending = false → isQueued (t.thread u) = true ∧ (readyList t (s.thread u).priority).head? = some u)) ∧
  (∀ (s : State) n, let x := n % 4096
    (∀ c, (s.thread x).state = .ready → passed s (s.thread x).since (s.nat K.shtlAffinityHoldNs) = true →
      (List.range 8).find? (fun c => coreIdle s c && idleChoice s c == some x) = some c → Completes (.affinityHoldExpiry n) s fun t =>
        (t.core c).running = some x ∧ (t.thread x).state = .running) ∧
    ((s.thread x).state = .running → (s.thread x).cancelPending = true → (s.thread x).overdue = false →
      passed s (s.thread x).cancelSince (s.nat K.shtlCancelGraceUs * 1000) = true → Completes (.cancelGraceExpiry n) s fun t =>
        (t.thread x).overdue = true ∧ (t.thread x).state = .running ∧ bit t.log.pending 545 = true) ∧
    ((s.thread x).state = .deferred →
      passed s (s.thread x).since ((if (s.thread x).cls = 3 then s.nat K.shtlBulkDeferLimitMs else s.nat K.shtlDeferLimitMs) * 1000000) = true →
      Completes (.deferLimitExpiry n) s fun t => (t.thread x).state = .ready ∧ (t.thread x).released = true ∧
        t.nat K.shtlDeferReleases = (s.nat K.shtlDeferReleases + 1) % 2 ^ 32))

/-! ## The Budget Governor and the supplies -/

/-- R400, R402 to R405: a due sample excludes a sensor that reads out of range and makes a fast cut above the fast limit, and no other sample moves an
effort unless too many sensors are lost; a due period leaves no loom above its cap or raised by more than RaiseLevelsPerPeriod, and every loom in
service at effort 0 in Floor and Ceiling; Ceiling is entered 10 ms after T_max has reached 105 °C in Floor. -/
def Obligations.GovernorKeepsItsLimits : Prop :=
  (∀ (s : State) sensors (rails : List Nat), s.boot.spindle = true → passed s s.gov.lastSample 100000 = true →
    Completes (.governorSample sensors rails) s fun t =>
      let p := ((rails.take 8).map (· % 65536)).sum
      t.gov.lastSample = s.clk.ticks ∧ t.gov.samples = s.gov.samples + 1 ∧ t.gov.sumPower = s.gov.sumPower + p ∧
        (∀ i x, i < 8 → rails[i]? = some x → t.nat (K.govRailPower i) = x % 65536) ∧
        (∀ i x, i < 24 → sensors[i]? = some x → x < -400 ∨ 1500 < x → bit (t.nat K.govSensorsExcluded) i = true) ∧
        (s.nat K.govBoardPowerLimit * (100 + s.nat K.govFastCutPercent) < 100 * p →
          t.gov.fastCut = true ∧ t.nat K.govFastCutCount = (s.nat K.govFastCutCount + 1) % 2 ^ 32 ∧ ∀ l, effortOf t.gov.effort l = 0) ∧
        (100 * p ≤ s.nat K.govBoardPowerLimit * (100 + s.nat K.govFastCutPercent) → t.gov.fastCut = s.gov.fastCut ∧
          (sensorsLost t = false → t.gov.effort = s.gov.effort) ∧ (sensorsLost t = true → ∀ l, effortOf t.gov.effort l = 0))) ∧
  (∀ (s : State), s.boot.spindle = true → passed s s.gov.lastPeriod (s.nat K.govGovernorPeriodUs * 1000) = true →
    Completes .governorPeriod s fun t =>
      t.gov.lastPeriod = s.clk.ticks ∧ t.gov.samples = 0 ∧ t.gov.sumPower = 0 ∧ t.gov.thermal = s.gov.thermal ∧
        (s.gov.samples ≠ 0 → t.nat K.govPowerMeasured = floorN (q s.gov.sumPower / q s.gov.samples) % 65536) ∧
        (∀ l, effortOf t.gov.effort l ≤ effortCap s l ∧ effortOf t.gov.effort l ≤ effortOf s.gov.effort l + s.nat K.govRaiseLevelsPerPeriod) ∧
        (2 ≤ s.gov.thermal ∨ sensorsLost s = true → ∀ l ∈ serviceLooms s, effortOf t.gov.effort l = 0) ∧
        bit (t.nat K.govClassGate) 2 = (decide (2 ≤ s.gov.thermal) || t.gov.fastCut)) ∧
  (∀ (s : State) x, s.gov.ceilingSince = some x → s.gov.thermal = 2 → passed s x 10000000 = true → Completes .thermalCeilingEntry s fun t =>
    t.gov.thermal = 3 ∧ t.nat K.govThermalState = 3 ∧ bit t.log.pending 550 = true ∧ t.gov.effort = s.gov.effort)

/-- R405: a sample above BoardPowerLimit × (1 + FastCutPercent / 100) takes every loom to effort 0 and raises FastCut, and no period within 10 ms of
the last fast cut raises a loom. -/
def Obligations.FastCuts : Prop :=
  (∀ (s : State) sensors (rails : List Nat), s.boot.spindle = true → passed s s.gov.lastSample 100000 = true →
    s.nat K.govBoardPowerLimit * (100 + s.nat K.govFastCutPercent) < 100 * ((rails.take 8).map (· % 65536)).sum →
    Completes (.governorSample sensors rails) s fun t => (∀ l, effortOf t.gov.effort l = 0) ∧ bit t.log.pending 552 = true ∧
      t.gov.fastCut = true ∧ t.gov.fastCutAt = some s.clk.ticks) ∧
  (∀ (s : State) x, s.gov.fastCut = true → s.gov.fastCutAt = some x → passed s x 10000000 = false →
    Completes .governorPeriod s fun t => (∀ l, effortOf t.gov.effort l ≤ effortOf s.gov.effort l) ∧
      t.gov.fastCut = true ∧ t.gov.fastCutAt = some x)

/-- R500, R501: a rail that leaves its window is seen, and the first of rails 0 to 6 to fall below it makes a fast cut; outside for 10 µs it raises
SupplyMonitor; a confirmed step of VDD_CORE moves it towards its target by at most 10 mV, and the third failure in a row writes 0.850 V. -/
def Obligations.SuppliesAreWatched : Prop :=
  (∀ (s : State) rail, rail < 9 →
    (Completes (.supplyMonitor rail .inside) s fun t => bit t.power.low rail = false ∧ bit t.power.high rail = false ∧
      (∀ r, r ≠ rail → bit t.power.low r = bit s.power.low r ∧ bit t.power.high r = bit s.power.high r) ∧ t.objs = s.objs ∧
        t.gov.effort = s.gov.effort) ∧
    (bit s.power.low rail = false → Completes (.supplyMonitor rail .below) s fun t =>
      bit t.power.low rail = true ∧ AMap.find? t.power.outSince rail = some s.clk.ticks ∧
        (rail < 7 → railsLow s = false → t.gov.fastCut = true ∧ t.nat K.govFastCutCount = (s.nat K.govFastCutCount + 1) % 2 ^ 32 ∧
          ∀ l, effortOf t.gov.effort l = 0) ∧ (7 ≤ rail → t.gov = s.gov ∧ t.objs = s.objs)) ∧
    (bit s.power.high rail = false → Completes (.supplyMonitor rail .above) s fun t => bit t.power.high rail = true ∧ t.gov = s.gov ∧ t.objs = s.objs) ∧
    (∀ x, bit s.power.low rail = true → AMap.find? s.power.outSince rail = some x → passed s x 10000 = true →
      Completes (.supplyMonitor rail .below) s fun t => bit t.log.pending 4 = true ∧ bit t.power.low rail = true ∧ t.gov = s.gov)) ∧
  (∀ (s : State), s.boot.fusesRead = true → (∀ tempC, Completes (.avsRecompute tempC) s fun t =>
      t.power = { s.power with targetMv := min 850 (s.fuses.coreMv + 15 + (if 10 * tempC < 100 then 20 else 0)) } ∧ t.objs = s.objs) ∧
    (s.power.avsFailed = false → s.power.setMv ≠ s.power.targetMv → (∀ x, s.power.lastStep = some x → passed s x 1000000 = true) →
      (∀ x, s.power.gateAt = some x → passed s x 50000 = true) →
      (Completes (.avsStep true) s fun t => t.power.setMv ≤ s.power.setMv + 10 ∧ s.power.setMv ≤ t.power.setMv + 10 ∧
        (s.power.setMv < s.power.targetMv → s.power.setMv < t.power.setMv ∧ t.power.setMv ≤ s.power.targetMv) ∧
        (s.power.targetMv < s.power.setMv → t.power.setMv < s.power.setMv ∧ s.power.targetMv ≤ t.power.setMv) ∧
        t.power.lastStep = some s.clk.ticks ∧ t.power.avsFailures = 0) ∧
      (s.power.avsFailures < 2 → Completes (.avsStep false) s fun t => t.power.setMv = s.power.setMv ∧
        t.power.avsFailures = s.power.avsFailures + 1 ∧ t.power.avsFailed = false) ∧
      (2 ≤ s.power.avsFailures → Completes (.avsStep false) s fun t => t.power.avsFailed = true ∧ bit t.log.pending 4 = true ∧
        (∀ confirmed, exec (.avsStep confirmed) t = .next t))))

/-! ## Counters and sampling -/

/-- R475, R478, R479, R480, R481, R484, R485: a read of a counter's low word latches the whole counter for its master, a snapshot copies all counters that
are not hidden at one instant, a user-mode load of a counter whose group is not open is counted and latches nothing, and a sampling record goes into its unit's hold, then into the buffer or is counted as lost. -/
def Obligations.CountersAndSamples : Prop :=
  (∀ (s : State) (reader : Reader) index, reader.masterNo < 40 → index < 768 → isHiddenCounter index = false → userDenied s index reader = false →
    let master := reader.masterNo
    Completes (.counterLoRead reader index) s fun t => AMap.find? t.pmc.latch master = some (counterOf s index) ∧
      t.pmc.counters = s.pmc.counters ∧ t.objs = s.objs ∧ ∀ m, m ≠ master → AMap.find? t.pmc.latch m = AMap.find? s.pmc.latch m) ∧
  (∀ (s : State) (core : CoreId) index, index < 768 → bit (s.nat K.pmcUserReadGroups) (counterGroup index) = false →
    Completes (.counterLoRead (.userThread core) index) s fun t => t.pmc.latch = s.pmc.latch ∧
      counterOf t 741 = (counterOf s 741 + 1) % 2 ^ 48) ∧
  (∀ (s : State) prin, boltDown s = false → s.isFrozen 38 = false → Unheld s K.pmcSnapshotRequest → Completes (.snapshotRequest prin) s fun t =>
    t.pmc.snapAsked = true ∧ t.pmc.bank = s.pmc.bank) ∧
  (∀ (s : State), s.pmc.snapAsked = true → s.isFrozen 38 = false → Completes .snapshotCopy s fun t =>
    t.pmc.snapAsked = false ∧ t.nat K.pmcSnapshotSeq = (s.nat K.pmcSnapshotSeq + 1) % 2 ^ 32 ∧ bit t.log.pending 632 = true ∧
      (∀ n, n < 768 → isHiddenCounter n = false → AMap.getD t.pmc.bank n 0 = counterOf s n) ∧
      counterOf t 740 = (counterOf s 740 + 1) % 2 ^ 48) ∧
  (∀ (s : State) (c : CoreId) pc address x, (s.core c.val).running = some x → bit (s.nat K.pmcInstrSampleCores) c.val = true →
    s.isFrozen (2 + c.val) = false → Completes (.instructionSample c pc address) s fun t =>
      AMap.find? t.pmc.retired c.val = some 0 ∧
      (s.isFrozen 38 = false → (s.pmc.holds.filter (·.1 == c.val)).length < 2 → s.pmc.level < 4095 →
        ∃ r, t.pmc.holds = s.pmc.holds ++ [(c.val, r)] ∧ r.kind = 1 ∧ r.unit = c.val ∧ r.time = nowNs s ∧
          r.body.take 4 = leBytes 4 (pc % 2 ^ 32) ∧ t.nat K.pmcSamplesLost = s.nat K.pmcSamplesLost) ∧
      (s.isFrozen 38 = true ∨ 2 ≤ (s.pmc.holds.filter (·.1 == c.val)).length ∨ 4095 ≤ s.pmc.level →
        t.pmc.holds = s.pmc.holds ∧ t.pmc.lostPending = s.pmc.lostPending + 1 ∧
          t.nat K.pmcSamplesLost = (s.nat K.pmcSamplesLost + 1) % 2 ^ 32)) ∧
  (∀ (s : State), s.isFrozen 38 = false → s.pmc.level < 4095 →
    (s.pmc.lostPending ≠ 0 → Completes .sampleRecordTaken s fun t => t.pmc.lostPending = 0 ∧ t.pmc.holds = s.pmc.holds ∧
      t.pmc.level = s.pmc.level + 1 ∧ ∃ r, AMap.find? t.pmc.buffer s.pmc.writePtr = some r ∧ r.kind = 3 ∧
        r.body.take 4 = leBytes 4 s.pmc.lostPending) ∧
    (∀ u r rest, s.pmc.lostPending = 0 → s.pmc.holds = (u, r) :: rest → Completes .sampleRecordTaken s fun t => t.pmc.holds = rest ∧
      t.pmc.level = s.pmc.level + 1 ∧ t.pmc.writePtr = (s.pmc.writePtr + 1) % 4096 ∧ AMap.find? t.pmc.buffer s.pmc.writePtr = some r ∧
        (s.pmc.level = 2047 → bit t.log.pending 630 = true))) ∧
  (∀ (s : State) val, (AMap.getD s.pcie.rings 35 {}).enable = false → Completes (.sampleRdptrWrite val) s fun t =>
    t.pmc.readPtr = val.toNat % 4096 ∧ (s.pmc.writePtr < 4096 → (t.pmc.readPtr + t.pmc.level) % 4096 = s.pmc.writePtr) ∧ t.pmc.level < 4096 ∧
      t.pmc.buffer = s.pmc.buffer)

/-! ## Saves, keys and images -/

/-- R410, R426, R427: a save writes the slot that is not chosen, and only its sealed end makes that slot the chosen one; a load puts the slot's
items into the commit queue; a DeviceReset write starts its 10 ms, or is refused in device safe state. -/
def Obligations.SavesLoadsAndResetRequests : Prop :=
  ∀ (s : State),
    (boltDown s = false → Unheld s K.bootPatternSave → (s.boot.saving = none → Completes .patternSave s fun t =>
        t.boot.saving = some (snapshotImage s) ∧ t.flash.cfg (saveSlot s) = snapshotImage s ∧ t.nat K.bootSaveState = 1 ∧
          t.flash.cfg (1 - saveSlot s) = s.flash.cfg (1 - saveSlot s)) ∧
      (∀ b, s.boot.saving = some b → Completes .patternSave s fun t => t.boot.saving = some b ∧ t.boot.saveAgain = true ∧ t.flash = s.flash)) ∧
    (∀ b, s.boot.saving = some b → s.boot.saveImage = none →
      (s.boot.saveAgain = false → Completes (.patternSaveDone true) s fun t => t.boot.saving = none ∧
        t.flash.cfg (saveSlot s) = withGeneration b (nextGeneration s) true ∧ t.flash.cfg (1 - saveSlot s) = s.flash.cfg (1 - saveSlot s) ∧
          t.nat K.bootPatternSlot = saveSlot s ∧ t.nat K.bootPatternGeneration = nextGeneration s ∧ t.nat K.bootSaveState = 2 ∧
            bit t.log.pending 625 = true ∧ t.conf = s.conf) ∧
      (s.boot.saveAgain = false → Completes (.patternSaveDone false) s fun t => t.boot.saving = none ∧ t.flash.cfgA = s.flash.cfgA ∧
        t.flash.cfgB = s.flash.cfgB ∧ t.nat K.bootPatternSlot = s.nat K.bootPatternSlot ∧ t.nat K.bootSaveState = 3 ∧
          bit t.log.pending 625 = true) ∧
      (s.boot.saveAgain = true → ∀ ok, Completes (.patternSaveDone ok) s fun t => t.boot.saving ≠ none ∧ t.boot.saveAgain = false ∧
        t.nat K.bootSaveState = 1)) ∧
    (∀ prin slot, boltDown s = false → prin ≠ .chain → slot ≤ 1 → Unheld s K.bootPatternLoadSlot →
      let b := s.flash.cfg slot
      ((∀ items dropped, patCandidate b = true → patCheck b = true → 1 ≤ patField b 4 2 → patField b 4 2 ≤ 5 → patternItems b = .ok (items, dropped) →
        s.draft.queue.length < 4 → Completes (.patternLoadSlot prin slot) s fun t => ∃ c, t.draft.queue = s.draft.queue ++ [c] ∧
          c.prin = prin ∧ c.kind = .load ∧ c.items = items ∧ t.conf = s.conf ∧
            (patField b 4 2 < 5 → t.nat K.bootMigratedFrom = patField b 4 2 ∧ bit t.log.pending 624 = true)) ∧
        (patCandidate b = false ∨ patCheck b = false → Completes (.patternLoadSlot prin slot) s fun t => t.draft.queue = s.draft.queue ∧
          t.objs = s.objs ∧ t.conf = s.conf ∧ t.net.sent = .reply prin K.bootPatternLoadSlot stInconsistent :: s.net.sent))) ∧
    (∀ prin, (prin = .host ∨ prin = .selvedge) → Unheld s K.bootDeviceReset →
      (s.log.safe = false → s.boot.resetAsked = none → Completes (.deviceReset prin) s fun t =>
        t.boot.resetAsked = some s.clk.ticks ∧ t.objs = s.objs ∧ t.conf = s.conf) ∧
      (s.log.safe = true → 2 ≤ s.log.safeCause → s.log.safeCause ≤ 4 → Completes (.deviceReset prin) s fun t =>
        t.boot = s.boot ∧ t.objs = s.objs ∧ t.net.sent = .reply prin K.bootDeviceReset stNotReady :: s.net.sent))

/-- R440, R445, R446, R501: keys are written whole or erased; an activation is scheduled for a Verified slot and withdrawn; a trial's confirmation
ends it, after the blow of the fuses that it calls for, and a blow changes nothing else in the fuses. -/
def Obligations.KeysAndActivation : Prop :=
  ∀ (s : State),
    (∀ prin slot (key : Bytes), prin = .host ∨ prin = .selvedge → slot < 8 ∨ slot = 16 →
      Unheld s (if slot = 16 then K.selvChainLinkKey else K.shedShedKey slot) →
      (key.length = 32 → Completes (.keyWrite prin slot key) s fun t => AMap.find? t.flash.keys slot = some { value := key } ∧
        (∀ k, k ≠ slot → AMap.find? t.flash.keys k = AMap.find? s.flash.keys k) ∧ t.objs = s.objs) ∧
      (key = [] → Completes (.keyWrite prin slot key) s fun t => AMap.find? t.flash.keys slot = none ∧
        ∀ k, k ≠ slot → AMap.find? t.flash.keys k = AMap.find? s.flash.keys k)) ∧
    (∀ prin slot key, prin = .net ∨ prin = .chain → slot < 8 ∨ slot = 16 → Completes (.keyWrite prin slot key) s fun t => t.flash = s.flash ∧
      t.objs = s.objs ∧ t.net.sent = .reply prin (if slot = 16 then K.selvChainLinkKey else K.shedShedKey slot) stAccessDenied :: s.net.sent) ∧
    (∀ prin, prin ≠ .chain →
      (s.nat (slotKey (inactiveSlot s)) = 3 → onTrial s = false → s.boot.activation = none → Unheld s K.selvActivate → Completes (.activate prin) s fun t =>
        t.boot.activation = some (ofTime80 (s.int K.selvActivateAt)) ∧ bit t.log.pending 583 = true ∧ governing t.flash = governing s.flash) ∧
      (s.nat (slotKey (inactiveSlot s)) ≠ 3 ∨ onTrial s = true ∨ s.boot.activation ≠ none → Completes (.activate prin) s fun t =>
        t.boot = s.boot ∧ t.flash = s.flash ∧ t.objs = s.objs ∧ ∃ st, st ≠ stOk ∧ t.net.sent = .reply prin K.selvActivate st :: s.net.sent) ∧
      (∀ x, s.boot.activation = some x → Unheld s K.selvCancelActivation → Completes (.cancelActivation prin) s fun t =>
        t.boot.activation = none ∧ bit t.log.pending 583 = true ∧ governing t.flash = governing s.flash)) ∧
    (onTrial s = true → (governing s.flash).sequence + 1 < 2 ^ 32 →
      let a := activeSlot s
      let h := slotHeader s.flash a
      let roll := max s.fuses.rollback (min 64 (hdr h 10 2))
      let rev := if bit (hdr h 21 1) 0 then s.fuses.revoked ||| (2 ^ hdr h 9 1 - 1) else s.fuses.revoked
      let confirmed (t : State) : Prop :=
        (roll = s.fuses.rollback → rev = s.fuses.revoked →
          onTrial t = false ∧ activeSlot t = a ∧ t.nat (slotKey a) = 4 ∧ bit t.log.pending 584 = true ∧ t.fuses = s.fuses) ∧
        (roll ≠ s.fuses.rollback ∨ rev ≠ s.fuses.revoked → t.boot.blowAsked = some (roll, rev) ∧ t.flash = s.flash ∧ t.fuses = s.fuses)
      (∀ prin, prin ≠ .chain → Unheld s K.selvConfirmImage → Completes (.confirmImage prin) s confirmed) ∧
      (s.boot.configCommitted = true → s.nat K.selvAutoConfirmS ≠ 0 →
        passed s s.boot.committedAt (s.nat K.selvAutoConfirmS * 1000000000) = true → Completes .autoConfirmExpiry s confirmed)) ∧
    (∀ roll rev, s.boot.blowAsked = some (roll, rev) →
      (bit s.power.low 8 = false → bit s.power.high 8 = false → (governing s.flash).sequence + 1 < 2 ^ 32 → Completes .fuseBlow s fun t =>
        t.fuses = { s.fuses with rollback := roll, revoked := rev } ∧ t.boot.blowAsked = none ∧ onTrial t = false ∧
          activeSlot t = activeSlot s) ∧
      (bit s.power.low 8 = true ∨ bit s.power.high 8 = true → exec .fuseBlow s = .next s))

/-- R417, R448 to R450: an Offer is answered by Accept and the first Request or by Decline with its reason, and waits before ImageVerified; a
Request is served block by block; a good Block is stored, a bad or late one asked for again and the transfer abandoned at its third failure; Done
verifies the slot. -/
def Obligations.ImagesCrossTheChain : Prop :=
  ∀ (s : State) (d : ChainPort) (msg : Bytes),
    let queue (t : State) : List ChainMsg := if d.val = 0 then t.net.chain.upPort.queue else t.net.chain.downPort.queue
    let sends (t : State) (ms : List Bytes) : Prop := queue t = queue s ++ ms.map fun b => { cls := 4, bytes := b }
    let abandoned (t : State) (slot : Nat) : Prop := t.boot.transfer = none ∧ t.nat (slotKey slot) = 1 ∧
      t.nat K.selvTransfersAbandoned = (s.nat K.selvTransfersAbandoned + 1) % 2 ^ 32 ∧ sends t []
    (∀ m, imageIn 1 msg = some m →
      (s.boot.imageVerified = false → Completes (.offer d msg) s fun t => AMap.find? t.boot.heldOffers d.val = some msg ∧ sends t []) ∧
      (s.boot.imageVerified = true → Completes (.offer d msg) s fun t =>
        (offerReason s (fullBlock m.body) ≠ 0 → t.boot.transfer = s.boot.transfer ∧ t.flash.fwA = s.flash.fwA ∧ t.flash.fwB = s.flash.fwB ∧
          sends t [imageMessage 3 (offerReason s (fullBlock m.body)) m.id 0 []]) ∧
        (offerReason s (fullBlock m.body) = 0 →
          (∃ x, t.boot.transfer = some x ∧ x.from_ = d.val ∧ x.id = m.id ∧ x.slot = inactiveSlot s ∧ x.blocks = imageBlocks (fullBlock m.body) ∧
            x.outstanding.length = min 16 x.blocks ∧
              sends t [imageMessage 2 0 m.id 0 [], imageMessage 4 0 m.id 0 (beBytes 2 (min 16 x.blocks))]) ∧
          slotBlocks t.flash (inactiveSlot s) = [] ∧ t.nat (slotKey (inactiveSlot s)) = 2 ∧ t.nat K.selvBlocksReceived = 0))) ∧
    (∀ m slot b, imageIn 2 msg = some m → AMap.find? s.boot.offered d.val = some (slot, m.id, b) → Completes (.accept d msg) s fun t =>
      AMap.find? t.boot.offered d.val = some (slot, m.id, true) ∧ t.flash = s.flash) ∧
    (∀ m slot b, imageIn 3 msg = some m → AMap.find? s.boot.offered d.val = some (slot, m.id, b) → Completes (.decline d msg) s fun t =>
      AMap.find? t.boot.offered d.val = none ∧ t.flash = s.flash) ∧
    (∀ m slot, imageIn 4 msg = some m → AMap.find? s.boot.offered d.val = some (slot, m.id, true) → s.nat (slotKey slot) = 3 →
      let n := imageBlocks (slotHeader s.flash slot)
      let count := hdr m.body 0 2
      m.body.length = 2 → 0 < count → count ≤ 16 → m.block + count ≤ n → Completes (.request d msg) s fun t =>
        sends t ((List.range count).map (fun i => imageMessage 5 0 m.id (m.block + i)
            (fullBlock (AMap.getD (slotBlocks s.flash slot) (m.block + i) []))) ++
          (if m.block + count = n then [imageMessage 6 0 m.id 0
            (sha384 ((List.range n).map fun i => fullBlock (AMap.getD (slotBlocks s.flash slot) i [])).flatten)] else [])) ∧
          t.flash = s.flash) ∧
    (s.boot.imageVerified = false → Completes (.blockMessage d msg) s fun t => t.boot.blocksDropped = s.boot.blocksDropped + 1 ∧ t.flash = s.flash) ∧
    (∀ m x at_ fails, s.boot.imageVerified = true → parseImage msg = some m → s.boot.transfer = some x → m.kind = 5 → x.from_ = d.val →
      m.id = x.id → x.outstanding.find? (·.1 == m.block) = some (m.block, at_, fails) →
      (m.crcOk = true → m.body.length = 4096 → Completes (.blockMessage d msg) s fun t =>
        AMap.find? (slotBlocks t.flash x.slot) m.block = some m.body ∧ t.nat K.selvBlocksReceived = (s.nat K.selvBlocksReceived + 1) % 2 ^ 32 ∧
          (x.nextAsk < x.blocks → sends t [imageMessage 4 0 x.id x.nextAsk (beBytes 2 1)]) ∧ (x.blocks ≤ x.nextAsk → sends t [])) ∧
      (m.crcOk = false ∨ m.body.length ≠ 4096 →
        (fails < 2 → Completes (.blockMessage d msg) s fun t => t.nat K.selvBlockRetries = (s.nat K.selvBlockRetries + 1) % 2 ^ 32 ∧
          sends t [imageMessage 4 0 x.id m.block (beBytes 2 1)] ∧ slotBlocks t.flash x.slot = slotBlocks s.flash x.slot) ∧
        (2 ≤ fails → Completes (.blockMessage d msg) s fun t => abandoned t x.slot))) ∧
    (∀ m x, imageIn 6 msg = some m → s.boot.transfer = some x → x.from_ = d.val → m.id = x.id →
      Completes (.done d msg) s fun t => t.boot.transfer = none ∧
        (slotValid s.fuses s.flash x.slot = true → t.nat (slotKey x.slot) = 3) ∧
        (slotValid s.fuses s.flash x.slot = false → t.nat (slotKey x.slot) = 1 ∧
          t.nat K.selvSignatureFailures = (s.nat K.selvSignatureFailures + 1) % 2 ^ 32)) ∧
    (∀ x block at_ fails, s.boot.transfer = some x → x.from_ = d.val → x.outstanding.find? (·.1 == block) = some (block, at_, fails) →
      passed s at_ 100000000 = true →
      (fails < 2 → Completes (.blockRequestTimeout block) s fun t => t.nat K.selvBlockRetries = (s.nat K.selvBlockRetries + 1) % 2 ^ 32 ∧
        sends t [imageMessage 4 0 x.id block (beBytes 2 1)]) ∧
      (2 ≤ fails → Completes (.blockRequestTimeout block) s fun t => abandoned t x.slot))

/-! ## The machine as a whole -/

/-- A step takes the command at the front of the queue and runs it on the state with the rest of the queue; with no command waiting one period of
TIME_CLK passes, which moves nothing but the clock and the queue of the Fast Responder (the model's choice, log entry 1; R57), and with the
clocks lost nothing does (R23). -/
def Obligations.StepsRunTheFrontCommand : Prop :=
  ∀ (s : State), (∀ c rest, s.pending = c :: rest → step s = exec c { s with pending := rest }) ∧
    (s.pending = [] → s.boot.clocksLost = false → ∃ k : Clock, k.ticks = s.clk.ticks + 1 ∧
      step s = .next (State.fastServe { s with clk := k }) ∧
      (fastOldest s = none → step s = .next { s with clk := k })) ∧
    (s.pending = [] → s.boot.clocksLost = true → step s = .next s)

/-- R410, R468, R475, R390: after a power-on reset every counter is 0, every thread context is Free and no core runs one, the Mending Log holds no
entry and the Reset entry is asked for, no set point is in force and nothing is frozen; the memories list nothing and no command waits (log
entries 1 and 2). -/
def Obligations.ResetLeaves : Prop :=
  let s := State.reset
  s.pending = [] ∧ MemoryCanonical s ∧ s.dram = [] ∧ s.sram = [] ∧ s.conf = [] ∧ (∀ n, counterOf s n = 0) ∧ (∀ n, (s.thread n).state = .free) ∧
    (∀ c, (s.core c).running = none) ∧ s.log.newest = 0 ∧ s.log.entries = [] ∧ bit s.log.pending 0 = true ∧ s.log.safe = false ∧
      (∃ r, s.log.intake = [r] ∧ r.source = 0) ∧ s.beam.trained = false ∧ s.nat K.beamSetPoint = 0 ∧ (∀ m, s.isFrozen m = false) ∧
        s.boot.boltReady = false ∧ s.boot.configCommitted = false ∧ s.clk.ticks = 0 ∧ s.draft.queue = []

/-- What every step keeps: the DRAM and the SRAM stay in their canonical form, the rest of the queue stays as it is, and only a fuse blow changes
a fuse (R501; the canonical form is the model's own, log entry 2). -/
def Obligations.EveryStepKeepsTheMemoriesCanonical : Prop :=
  ∀ (s t : State), step s = .next t → (MemoryCanonical s → MemoryCanonical t) ∧ t.pending = s.pending.tail ∧
    (s.pending.head? ≠ some .fuseBlow → t.fuses = s.fuses)

/-- The commands that do not reach a memory leave every byte of the DRAM and of the SRAM, the queue and, but for a fuse blow, the fuses as they
were: memory changes by a transaction of the Fabric (R18, R25), a command of a DRAM channel (R369), the host's accesses (R69, R75) and a reset
(R410) only. -/
def Obligations.OtherCommandsLeaveTheMemories : Prop :=
  ∀ (i : Instr) (s t : State), touchesMemory i = false → exec i s = .next t →
    t.dram = s.dram ∧ t.sram = s.sram ∧ t.pending = s.pending ∧ (i ≠ .fuseBlow → t.fuses = s.fuses)

/-- The frames of four families: a command of the Shuttle moves nothing of the body of the machine, of start-up, the Governor or the supplies; one of
the Governor or the supplies nothing of the body and of start-up; one that stores keys, images or Patterns nothing of the body, the Governor or
the supplies; one of the counters nothing of the body, of start-up, the Governor, the supplies or the flash but BootCount. -/
def Obligations.FamiliesKeepTheirBounds : Prop :=
  ∀ (i : Instr) (s t : State), exec i s = .next t →
    (shuttleFamily i = true → BodyKept s t ∧ t.boot = s.boot ∧ t.gov = s.gov ∧ t.power = s.power) ∧
    (governorFamily i = true → BodyKept s t ∧ t.boot = s.boot) ∧
    (storageFamily i = true → BodyKept s t ∧ t.gov = s.gov ∧ t.power = s.power) ∧
    (countingFamily i = true → BodyKept s t ∧ t.boot = s.boot ∧ t.gov = s.gov ∧ t.power = s.power ∧ t.flash.keys = s.flash.keys ∧
      t.flash.cfgA = s.flash.cfgA ∧ t.flash.cfgB = s.flash.cfgB ∧ t.flash.fwA = s.flash.fwA ∧ t.flash.fwB = s.flash.fwB)
end

