-- ==== Sys2Proof/Laws/Core4.lean ====
section
/-!
SUPPORT. Sys2Proof/Laws/Core4.lean: the four parts of the state that few commands touch (the queue of commands, the fuses, the DRAM
and the SRAM) as one value, and how a record update, a choice and a fold treat it.
-/

namespace Sys2Proof.Machine

set_option Elab.async false

/-- The queue of commands, the fuses, the DRAM and the SRAM. -/
abbrev Core4 := List Instr × Fuses × Memory × Memory

/-- These four parts of a state. -/
def State.core4 (s : State) : Core4 := (s.pending, s.fuses, s.dram, s.sram)

@[simp] theorem State.core4_fold (s : State) : (s.pending, s.fuses, s.dram, s.sram) = s.core4 := rfl

@[simp] theorem State.core4_mk (pending : List Instr) (clk : Clock) (objs conf : AMap Val) (draft : DraftSt) (pcie : PcieSt) (fab : FabSt)
    (flash : Flash) (fuses : Fuses) (boot : BootSt) (log : LogSt) (pmc : PmcSt) (shtl : ShuttleSt) (gov : GovSt) (lanes : AMap LaneSt)
    (beam : BeamSt) (time : TimeSt) (audio : AudioAll) (power : PowerSt) (video : VideoSt) (net : NetSt) (dram sram : Memory) (n : Nat) :
    (State.mk pending clk objs conf draft pcie fab flash fuses boot log pmc shtl gov lanes beam time audio power video net dram sram n).core4
      = (pending, fuses, dram, sram) := rfl

@[simp] theorem State.core4_ite (c : Prop) [Decidable c] (a b : State) : (if c then a else b).core4 = if c then a.core4 else b.core4 := by
  split <;> rfl

@[simp] theorem State.core4_ite_fst {α : Type} (c : Prop) [Decidable c] (a b : State × α) :
    (if c then a else b).1.core4 = if c then a.1.core4 else b.1.core4 := by
  split <;> rfl

/-- A state that a pair holds. -/
theorem State.core4_of_eq {α : Type} {p : State × α} {t : State} {x : α} (h : p = (t, x)) : t.core4 = p.1.core4 := by rw [h]

/-- A fold whose every step keeps the four parts keeps them. -/
@[simp] theorem State.core4_foldl {α : Type} (f : State → α → State) (h : ∀ s x, (f s x).core4 = s.core4) (l : List α) (s : State) :
    (l.foldl f s).core4 = s.core4 := by
  induction l generalizing s with
  | nil => rfl
  | cons a t ih => rw [List.foldl_cons, ih, h]

/-- The same, with the value that the four parts have. -/
theorem State.core4_fold_of {α : Type} {f : State → α → State} {l : List α} {s : State} {c : Core4}
    (hs : s.core4 = c) (h : ∀ t x, t.core4 = c → (f t x).core4 = c) : (l.foldl f s).core4 = c := by
  induction l generalizing s with
  | nil => exact hs
  | cons a t ih => rw [List.foldl_cons]; exact ih (h s a hs)

/-- A fold over a state and a value beside it. -/
theorem State.core4_foldl_fst {α β : Type} (f : State × β → α → State × β) (h : ∀ a x, (f a x).1.core4 = a.1.core4) (l : List α) (p : State × β) :
    (l.foldl f p).1.core4 = p.1.core4 := by
  induction l generalizing p with
  | nil => rfl
  | cons a t ih => rw [List.foldl_cons, ih, h]

/-- A result whose next state, where there is one, has these four parts. -/
def keepsTo (c : Core4) : Result → Prop
  | .next t => t.core4 = c
  | _ => True

@[simp] theorem keepsTo_next (c : Core4) (t : State) : keepsTo c (.next t) ↔ t.core4 = c := Iff.rfl
@[simp] theorem keepsTo_fault (c : Core4) (f : Fault) : keepsTo c (.fault f) := trivial
@[simp] theorem keepsTo_refused (c : Core4) (r : Refusal) : keepsTo c (.refused r) := trivial

/-- R23: a meaning that keeps these four parts keeps them whether its clock runs or not. -/
theorem keepsTo_clocked {s : State} {c : Core4} {r : Result} (hs : s.core4 = c) (h : keepsTo c r) : keepsTo c (whenClocked s r) := by
  unfold whenClocked
  split
  · exact hs
  · exact h

end Sys2Proof.Machine
end

