-- ==== Sys2Proof/Laws/Image.lean ====
section
/-!
SUPPORT. Sys2Proof/Laws/Image.lean: an image message (R448) reads back as it was built.
-/

namespace Sys2Proof.Laws

set_option Elab.async false

open Sys2Proof.Machine

theorem crc32cByte_lt (c : Nat) (b : Byte) (h : c < 2 ^ 32) : crc32cByte c b < 2 ^ 32 := by
  have step : ∀ x, x < 2 ^ 32 → (if x % 2 = 1 then (x / 2) ^^^ 0x82F63B78 else x / 2) < 2 ^ 32 := by
    intro x hx
    split
    · exact Nat.xor_lt_two_pow (by omega) (by decide)
    · omega
  have run : ∀ (l : List Nat) x, x < 2 ^ 32 → l.foldl (fun c _ => if c % 2 = 1 then (c / 2) ^^^ 0x82F63B78 else c / 2) x < 2 ^ 32 := by
    intro l
    induction l with
    | nil => intro x hx; exact hx
    | cons a l ih => intro x hx; exact ih _ (step x hx)
  exact run _ _ (Nat.xor_lt_two_pow h (by have := b.isLt; omega))

/-- R422: a check word is a number of 32 bits. -/
theorem crc32c_lt (b : Bytes) : crc32c b < 2 ^ 32 := by
  have run : ∀ (l : Bytes) c, c < 2 ^ 32 → l.foldl crc32cByte c < 2 ^ 32 := by
    intro l
    induction l with
    | nil => intro c hc; exact hc
    | cons a l ih => intro c hc; exact ih _ (crc32cByte_lt c a hc)
  exact Nat.xor_lt_two_pow (run b _ (by decide)) (by decide)

theorem ofBe_one (x : Byte) : ofBeBytes [x] = x.toNat := by simp [ofBeBytes]

theorem ofBe_beBytes2 (v : Nat) : ofBeBytes (beBytes 2 v) = v % 2 ^ 16 := by
  simp [ofBeBytes, beBytes, BitVec.toNat_ofNat]; omega

theorem ofBe_beBytes4 (v : Nat) : ofBeBytes (beBytes 4 v) = v % 2 ^ 32 := by
  simp [ofBeBytes, beBytes, BitVec.toNat_ofNat]; omega

/-- R448: an image message reads back as it was built, its check word holding. -/
theorem parseImage_message (kind reason id block : Nat) (body : Bytes) :
    parseImage (imageMessage kind reason id block body) =
      some { kind := kind % 256, reason := reason % 256, id := id % 2 ^ 16, block := block % 2 ^ 32, crcOk := true, body := body } := by
  have hc : ∀ l, ofBeBytes (beBytes 4 (crc32c l)) = crc32c l := fun l => by rw [ofBe_beBytes4, Nat.mod_eq_of_lt (crc32c_lt l)]
  have h2 := ofBe_beBytes2 id
  have h4 := ofBe_beBytes4 block
  simp [beBytes] at h2 h4 hc
  simp [parseImage, imageMessage, hdr, beBytes, ofBe_one, BitVec.toNat_ofNat, h2, h4, hc]

end Sys2Proof.Laws
end

