-- ==== Sys2Proof/Laws/KeepOps.lean ====
section
/-!
SUPPORT. Sys2Proof/Laws/KeepOps.lean: the operations of Machine/Ops.lean leave the queue of commands, the fuses, the DRAM and
the SRAM as they are.
-/

namespace Sys2Proof.Machine

set_option Elab.async false

@[simp] theorem State.put_core4 (s : State) (k : Nat) (v : Val) : (State.put s k v).core4 = s.core4 := by rfl

@[simp] theorem State.set_core4 (s : State) (k : Nat) (v : Int) : (State.set s k v).core4 = s.core4 := by rfl

@[simp] theorem State.setN_core4 (s : State) (k v : Nat) : (State.setN s k v).core4 = s.core4 := by rfl

@[simp] theorem State.add_core4 (s : State) (k n : Nat) : (State.add s k n).core4 = s.core4 := by rfl

@[simp] theorem State.bump_core4 (s : State) (k : Nat) : (State.bump s k).core4 = s.core4 := by rfl

@[simp] theorem State.count_core4 (s : State) (n k : Nat) : (State.count s n k).core4 = s.core4 := by rfl

@[simp] theorem State.nextFree_core4 (s : State) : (State.nextFree s).core4 = s.core4 := by rfl

@[simp] theorem State.emit_core4 (s : State) (o : Sent) : (State.emit s o).core4 = s.core4 := by rfl

@[simp] theorem State.setPort_core4 (s : State) (p : Nat) (v : PortSt) : (State.setPort s p v).core4 = s.core4 := by rfl

@[simp] theorem State.queueFrame_core4 (s : State) (f : TxFrame) : (State.queueFrame s f).core4 = s.core4 := by
  unfold State.queueFrame
  split
  · rfl
  · simp

@[simp] theorem State.queueChain_core4 (s : State) (side cls : Nat) (b : Bytes) : (State.queueChain s side cls b).core4 = s.core4 := by rfl

@[simp] theorem State.setVec_core4 (s : State) (v : Nat) (x : VecSt) : (State.setVec s v x).core4 = s.core4 := by rfl

@[simp] theorem State.fireVec_core4 (s : State) (v : Nat) : (State.fireVec s v).core4 = s.core4 := by rfl

@[simp] theorem State.vector_core4 (s : State) (v : Nat) : (State.vector s v).core4 = s.core4 := by
  unfold State.vector
  obtain ⟨c, hc⟩ : ∃ c, s.core4 = c := ⟨_, rfl⟩
  rw [hc]
  repeat' first
    | assumption
    | (with_reducible refine State.core4_fold_of ?_ fun t u ht => ?_)
    | ((try lift_lets -underBinder); intro x; first | ((have hx : x.core4 = c := by (simp only [x]; repeat' first | (simp -zeta [*]; done) | (with_reducible refine State.core4_fold_of ?_ fun t u ht => ?_) | (split <;> try (rename_i h; have h2 := State.core4_of_eq h; clear h)))); clear_value x) | clear_value x)
    | (simp -zeta [*]; done)
    | (split <;> try (rename_i h; have h2 := State.core4_of_eq h; clear h))

@[simp] theorem State.shedMessage_core4 (s : State) (type keyId tid : Nat) (items : List Bytes) (status sender : Nat) : (State.shedMessage s type keyId tid items status sender).1.core4 = s.core4 := by
  unfold State.shedMessage
  split
  · rfl
  · simp

@[simp] theorem State.logAsk_core4 (s : State) (r : LogReq) : (State.logAsk s r).core4 = s.core4 := by simp -zeta [State.logAsk]

@[simp] theorem State.notifyOne_core4 (s : State) (i : Nat) (src sev : Nat) : (State.notifyOne s i src sev).core4 = s.core4 := by
  unfold State.notifyOne
  repeat' split
  all_goals simp

@[simp] theorem State.notify_core4 (s : State) (src sev : Nat) : (State.notify s src sev).core4 = s.core4 := by simp -zeta [State.notify]

@[simp] theorem State.eventVector_core4 (s : State) (src sev : Nat) : (State.eventVector s src sev).core4 = s.core4 := by
  unfold State.eventVector
  repeat' split
  all_goals simp

@[simp] theorem State.endTracker_core4 (s : State) (t : Tracker) : (State.endTracker s t).core4 = s.core4 := by
  unfold State.endTracker
  split
  · rfl
  · simp

@[simp] theorem State.signal_core4 (s : State) (e : Ev) : (State.signal s e).1.core4 = s.core4 := by
  unfold State.signal
  split
  · rfl
  · extract_lets -underBinder sev l s1 s2
    have h1 : s1.core4 = s.core4 := rfl
    have h2 : s2.core4 = s.core4 := by
      simp only [s2]
      split
      · split <;> simp [h1]
      · exact h1
    clear_value s1 s2
    split
    · split
      · simpa using h2
      · exact h2
    · simp only [State.notify_core4, State.eventVector_core4]
      split <;> first | exact h2 | (rw [← h2]; rfl)

@[simp] theorem State.raiseBase_core4 (s : State) (e : Ev) : (State.raiseBase s e).core4 = s.core4 := by simp -zeta [State.raiseBase]

@[simp] theorem State.raiseBaseLimited_core4 (s : State) (key : Nat) (e : Ev) : (State.raiseBaseLimited s key e).core4 = s.core4 := by
  unfold State.raiseBaseLimited
  split <;> simp -zeta

@[simp] theorem State.stallWake_core4 (s : State) (t : Nat) : (State.stallWake s t).core4 = s.core4 := by rfl

@[simp] theorem State.wakeThread_core4 (s : State) (t : Nat) : (State.wakeThread s t).core4 = s.core4 := by
  unfold State.wakeThread
  repeat' split
  all_goals simp

@[simp] theorem State.wakeSource_core4 (s : State) (src : Nat) : (State.wakeSource s src).core4 = s.core4 := by
  unfold State.wakeSource
  split <;> simp -zeta

@[simp] theorem State.reportDrops_core4 (s0 s : State) : (State.reportDrops s0 s).core4 = s.core4 := by
  unfold State.reportDrops
  split
  · rfl
  · simp

@[simp] theorem State.reportPool_core4 (s0 s : State) (p : Nat) : (State.reportPool s0 s p).core4 = s.core4 := by simp -zeta [State.reportPool]

@[simp] theorem State.raise_core4 (s : State) (e : Ev) : (State.raise s e).core4 = s.core4 := by
  unfold State.raise
  repeat' split
  all_goals simp

@[simp] theorem State.raiseLimited_core4 (s : State) (key : Nat) (e : Ev) : (State.raiseLimited s key e).core4 = s.core4 := by
  unfold State.raiseLimited
  split <;> simp -zeta

@[simp] theorem State.sendFrame_core4 (s : State) (f : TxFrame) : (State.sendFrame s f).core4 = s.core4 := by
  unfold State.sendFrame
  repeat' split
  all_goals simp

@[simp] theorem tick_core4 (s : State) : (tick s).core4 = s.core4 := by
  unfold tick
  split
  · rfl
  · simp

@[simp] theorem State.setReed_core4 (s : State) (c : Nat) (r : ReedSt) : (State.setReed s c r).core4 = s.core4 := by rfl

@[simp] theorem State.setPress_core4 (s : State) (c : Nat) (r : PressSt) : (State.setPress s c r).core4 = s.core4 := by rfl

@[simp] theorem State.setChan_core4 (s : State) (c : Nat) (r : ChanSt) : (State.setChan s c r).core4 = s.core4 := by rfl

@[simp] theorem State.setLoom_core4 (s : State) (l : Nat) (r : LoomSt) : (State.setLoom s l r).core4 = s.core4 := by rfl

@[simp] theorem State.setUnp_core4 (s : State) (u : Nat) (r : UnpSt) : (State.setUnp s u r).core4 = s.core4 := by rfl

@[simp] theorem State.setLane_core4 (s : State) (n : Nat) (r : LaneSt) : (State.setLane s n r).core4 = s.core4 := by rfl

@[simp] theorem State.setDom_core4 (s : State) (d : Nat) (x : DomainSt) : (State.setDom s d x).core4 = s.core4 := by rfl

@[simp] theorem State.follow_core4 (s : State) : (State.follow s).core4 = s.core4 := by
  unfold State.follow
  repeat' split
  all_goals simp

end Sys2Proof.Machine
end

