-- ==== Sys2Proof/Laws/KeepDram.lean ====
section
/-!
SUPPORT. Sys2Proof/Laws/KeepDram.lean: the operations of Machine/Dram.lean leave the queue of commands, the fuses, the DRAM and
the SRAM as they are.
-/

namespace Sys2Proof.Machine

set_option Elab.async false

@[simp] theorem State.setBch_core4 (s : State) (n : Nat) (x : BeamChSt) : (State.setBch s n x).core4 = s.core4 := by rfl

@[simp] theorem State.eachBch_core4 (s : State) (f : BeamChSt → BeamChSt) : (State.eachBch s f).core4 = s.core4 := by simp -zeta [State.eachBch]

end Sys2Proof.Machine
end

