-- ==== Sys2Proof/Laws/KeepApply.lean ====
section
/-!
SUPPORT. Sys2Proof/Laws/KeepApply.lean: the operations of Machine/Apply.lean leave the queue of commands, the fuses, the DRAM and
the SRAM as they are.
-/

namespace Sys2Proof.Machine

set_option Elab.async false

@[simp] theorem State.showVal_core4 (s : State) (k : Nat) (v : Val) : (State.showVal s k v).core4 = s.core4 := by simp -zeta [State.showVal]

@[simp] theorem State.saveBegin_core4 (s : State) (b : Bytes) : (State.saveBegin s b).core4 = s.core4 := by rfl

@[simp] theorem State.saveAsk_core4 (s : State) : (State.saveAsk s).core4 = s.core4 := by simp -zeta [State.saveAsk]

@[simp] theorem State.saveSupplied_core4 (s : State) (b : Bytes) : (State.saveSupplied s b).core4 = s.core4 := by simp -zeta [State.saveSupplied]

@[simp] theorem State.applied_core4 (s : State) : (State.applied s).core4 = s.core4 := by
  unfold State.applied
  repeat' split
  all_goals simp

@[simp] theorem State.applyEffects_core4 (s : State) (due : Effect → Bool) : (State.applyEffects s due).core4 = s.core4 := by
  unfold State.applyEffects
  repeat' split
  all_goals simp

end Sys2Proof.Machine
end

