-- ==== Sys2Proof/Laws/KeepReed.lean ====
section
/-!
SUPPORT. Sys2Proof/Laws/KeepReed.lean: the operations of Machine/Reed.lean leave the queue of commands, the fuses, the DRAM and
the SRAM as they are.
-/

namespace Sys2Proof.Machine

set_option Elab.async false

@[simp] theorem State.showLinks_core4 (s : State) (c : Nat) : (State.showLinks s c).core4 = s.core4 := by rfl

@[simp] theorem State.slip_core4 (s : State) (c kind : Nat) : (State.slip s c kind).core4 = s.core4 := by
  unfold State.slip
  repeat' split
  all_goals simp

@[simp] theorem execSourcePictureStart_keeps (c : Chan) (s : State) (k4 : Core4) (hk4 : s.core4 = k4) : keepsTo k4 (execSourcePictureStart c s) := by
  unfold execSourcePictureStart
  refine keepsTo_clocked hk4 ?_
  repeat' first
    | assumption
    | (with_reducible refine (keepsTo_next _ _).2 ?_)
    | (with_reducible refine State.coreCommand_core4 _ _ _ _ ?_ fun t ht => ?_)
    | (with_reducible refine State.core4_fold_of ?_ fun t u ht => ?_)
    | ((try lift_lets -underBinder); intro x; first | ((have hx : x.core4 = k4 := by (simp only [x]; repeat' first | (simp -zeta [*]; done) | (with_reducible refine State.core4_fold_of ?_ fun t u ht => ?_) | (split <;> try (rename_i h; have h2 := State.core4_of_eq h; clear h)))); clear_value x) | clear_value x)
    | (simp -zeta [*]; done)
    | (split <;> try (rename_i h; have h2 := State.core4_of_eq h; clear h))

@[simp] theorem State.sourceGone_core4 (s : State) (c : Nat) : (State.sourceGone s c).core4 = s.core4 := by
  unfold State.sourceGone
  repeat' split
  all_goals simp

@[simp] theorem State.sourceBack_core4 (s : State) (c : Nat) : (State.sourceBack s c).core4 = s.core4 := by
  unfold State.sourceBack
  repeat' split
  all_goals simp

@[simp] theorem State.linkLost_core4 (s : State) (c link : Nat) (cause : LinkCause) : (State.linkLost s c link cause).core4 = s.core4 := by
  unfold State.linkLost
  repeat' split
  all_goals simp

@[simp] theorem State.countCrc_core4 (s : State) (c link : Nat) (ok : Bool) : (State.countCrc s c link ok).core4 = s.core4 := by
  unfold State.countCrc
  repeat' split
  all_goals simp

@[simp] theorem execSourceLineReceived_keeps (c : Chan) (line : Nat) (format : SourceFormat) (part : SrcPart) (s : State) (k4 : Core4) (hk4 : s.core4 = k4) : keepsTo k4 (execSourceLineReceived c line format part s) := by
  unfold execSourceLineReceived
  refine keepsTo_clocked hk4 ?_
  repeat' first
    | assumption
    | (with_reducible refine (keepsTo_next _ _).2 ?_)
    | (with_reducible refine State.coreCommand_core4 _ _ _ _ ?_ fun t ht => ?_)
    | (with_reducible refine State.core4_fold_of ?_ fun t u ht => ?_)
    | ((try lift_lets -underBinder); intro x; first | ((have hx : x.core4 = k4 := by (simp only [x]; repeat' first | (simp -zeta [*]; done) | (with_reducible refine State.core4_fold_of ?_ fun t u ht => ?_) | (split <;> try (rename_i h; have h2 := State.core4_of_eq h; clear h)))); clear_value x) | clear_value x)
    | (simp -zeta [*]; done)
    | (split <;> try (rename_i h; have h2 := State.core4_of_eq h; clear h))

@[simp] theorem execSourceAbsent_keeps (c : Chan) (s : State) (k4 : Core4) (hk4 : s.core4 = k4) : keepsTo k4 (execSourceAbsent c s) := by
  unfold execSourceAbsent
  refine keepsTo_clocked hk4 ?_
  split <;> simp [hk4]

@[simp] theorem execSdiLinkLost_keeps (c : Chan) (lost : LostLink) (s : State) (k4 : Core4) (hk4 : s.core4 = k4) : keepsTo k4 (execSdiLinkLost c lost s) := by
  unfold execSdiLinkLost
  refine keepsTo_clocked hk4 ?_
  simp -zeta [hk4]

@[simp] theorem State.decideGroup_go_core4 (g k : Nat) (u : State) : (State.decideGroup.go g k u).core4 = u.core4 := by
  unfold State.decideGroup.go
  repeat' split
  all_goals simp

@[simp] theorem State.decideGroup_core4 (s : State) (g k : Nat) : (State.decideGroup s g k).core4 = s.core4 := by
  unfold State.decideGroup
  split <;> simp -zeta

@[simp] theorem State.measureRate_core4 (s : State) (c : Nat) (n time : Nat) : (State.measureRate s c n time).core4 = s.core4 := by
  unfold State.measureRate
  obtain ⟨c, hc⟩ : ∃ c, s.core4 = c := ⟨_, rfl⟩
  rw [hc]
  repeat' first
    | assumption
    | (with_reducible refine State.core4_fold_of ?_ fun t u ht => ?_)
    | ((try lift_lets -underBinder); intro x; first | ((have hx : x.core4 = c := by (simp only [x]; repeat' first | (simp -zeta [*]; done) | (with_reducible refine State.core4_fold_of ?_ fun t u ht => ?_) | (split <;> try (rename_i h; have h2 := State.core4_of_eq h; clear h)))); clear_value x) | clear_value x)
    | (simp -zeta [*]; done)
    | (split <;> try (rename_i h; have h2 := State.core4_of_eq h; clear h))

@[simp] theorem State.showDelay_core4 (s : State) (c k : Nat) : (State.showDelay s c k).core4 = s.core4 := by
  unfold State.showDelay
  obtain ⟨c, hc⟩ : ∃ c, s.core4 = c := ⟨_, rfl⟩
  rw [hc]
  repeat' first
    | assumption
    | (with_reducible refine State.core4_fold_of ?_ fun t u ht => ?_)
    | ((try lift_lets -underBinder); intro x; first | ((have hx : x.core4 = c := by (simp only [x]; repeat' first | (simp -zeta [*]; done) | (with_reducible refine State.core4_fold_of ?_ fun t u ht => ?_) | (split <;> try (rename_i h; have h2 := State.core4_of_eq h; clear h)))); clear_value x) | clear_value x)
    | (simp -zeta [*]; done)
    | (split <;> try (rename_i h; have h2 := State.core4_of_eq h; clear h))

@[simp] theorem State.readPicture_core4 (s : State) (c n : Nat) : (State.readPicture s c n).core4 = s.core4 := by
  unfold State.readPicture
  obtain ⟨c, hc⟩ : ∃ c, s.core4 = c := ⟨_, rfl⟩
  rw [hc]
  repeat' first
    | assumption
    | (with_reducible refine State.core4_fold_of ?_ fun t u ht => ?_)
    | ((try lift_lets -underBinder); intro x; first | ((have hx : x.core4 = c := by (simp only [x]; repeat' first | (simp -zeta [*]; done) | (with_reducible refine State.core4_fold_of ?_ fun t u ht => ?_) | (split <;> try (rename_i h; have h2 := State.core4_of_eq h; clear h)))); clear_value x) | clear_value x)
    | (simp -zeta [*]; done)
    | (split <;> try (rename_i h; have h2 := State.core4_of_eq h; clear h))

@[simp] theorem State.freeHostSlot_core4 (s : State) (c : Nat) : (State.freeHostSlot s c).core4 = s.core4 := by
  unfold State.freeHostSlot
  repeat' split
  all_goals simp

@[simp] theorem State.inputGap_core4 (s : State) (c l : Nat) : (State.inputGap s c l).core4 = s.core4 := by
  unfold State.inputGap
  repeat' split
  all_goals simp

@[simp] theorem State.reedRepeat_core4 (s : State) (c : Nat) : (State.reedRepeat s c).core4 = s.core4 := by
  unfold State.reedRepeat
  repeat' split
  all_goals simp

@[simp] theorem State.beginRead_core4 (s : State) (c k action : Nat) : (State.beginRead s c k action).core4 = s.core4 := by rfl

@[simp] theorem State.reedBoundary_core4 (s : State) (c k : Nat) : (State.reedBoundary s c k).core4 = s.core4 := by
  unfold State.reedBoundary
  split
  · simp
  · split
    · simp
    · extract_lets -underBinder g s1 d x s2 s3
      have h1 : s1.core4 = s.core4 := by simp only [s1]; split <;> simp
      clear_value s1 d x
      have h2 : s2.core4 = s.core4 := by simp [s2, h1]
      clear_value s2
      have h3 : s3.core4 = s.core4 := by simp [s3, h2]
      clear_value s3
      split
      rename_i u action h
      have hu : u.core4 = s.core4 := by
        rw [State.core4_of_eq h]
        split <;> simp [h3]
      clear h
      extract_lets -underBinder w
      have hw : w.core4 = s.core4 := by simp [w, hu]
      clear_value w
      split <;> simp [hw]

@[simp] theorem State.reedChanged_core4 (s0 s : State) (c : Nat) (written : List Nat) : (State.reedChanged s0 s c written).core4 = s.core4 := by
  unfold State.reedChanged
  repeat' split
  all_goals simp

@[simp] theorem State.setSide_core4 (s : State) (c : Nat) (left : Bool) (x : SideSt) : (State.setSide s c left x).core4 = s.core4 := by rfl

@[simp] theorem State.sendSeam_core4 (s : State) (c : Nat) (toLeft : Bool) (cls kind k index : Nat) (payload : Bytes) : (State.sendSeam s c toLeft cls kind k index payload).core4 = s.core4 := by
  unfold State.sendSeam
  repeat' split
  all_goals simp

@[simp] theorem State.useStrip_core4 (s : State) (c : Nat) (left : Bool) (k l : Nat) : (State.useStrip s c left k l).core4 = s.core4 := by
  unfold State.useStrip
  obtain ⟨c, hc⟩ : ∃ c, s.core4 = c := ⟨_, rfl⟩
  rw [hc]
  repeat' first
    | assumption
    | (with_reducible refine State.core4_fold_of ?_ fun t u ht => ?_)
    | ((try lift_lets -underBinder); intro x; first | ((have hx : x.core4 = c := by (simp only [x]; repeat' first | (simp -zeta [*]; done) | (with_reducible refine State.core4_fold_of ?_ fun t u ht => ?_) | (split <;> try (rename_i h; have h2 := State.core4_of_eq h; clear h)))); clear_value x) | clear_value x)
    | (simp -zeta [*]; done)
    | (split <;> try (rename_i h; have h2 := State.core4_of_eq h; clear h))

@[simp] theorem State.useStrips_core4 (s : State) (c k l : Nat) : (State.useStrips s c k l).core4 = s.core4 := by simp -zeta [State.useStrips]

@[simp] theorem State.sendStrips_core4 (s : State) (c k n : Nat) (p : ReedPic) : (State.sendStrips s c k n p).core4 = s.core4 := by
  unfold State.sendStrips
  repeat' split
  all_goals simp

@[simp] theorem State.readOne_core4 (s : State) (c line : Nat) : (State.readOne s c line).core4 = s.core4 := by
  unfold State.readOne
  obtain ⟨c, hc⟩ : ∃ c, s.core4 = c := ⟨_, rfl⟩
  rw [hc]
  repeat' first
    | assumption
    | (with_reducible refine State.core4_fold_of ?_ fun t u ht => ?_)
    | ((try lift_lets -underBinder); intro x; first | ((have hx : x.core4 = c := by (simp only [x]; repeat' first | (simp -zeta [*]; done) | (with_reducible refine State.core4_fold_of ?_ fun t u ht => ?_) | (split <;> try (rename_i h; have h2 := State.core4_of_eq h; clear h)))); clear_value x) | clear_value x)
    | (simp -zeta [*]; done)
    | (split <;> try (rename_i h; have h2 := State.core4_of_eq h; clear h))

@[simp] theorem execLineRead_keeps (c : Chan) (pic line count : Nat) (s : State) (k4 : Core4) (hk4 : s.core4 = k4) : keepsTo k4 (execLineRead c pic line count s) := by
  unfold execLineRead
  refine keepsTo_clocked hk4 ?_
  repeat' first
    | assumption
    | (with_reducible refine (keepsTo_next _ _).2 ?_)
    | (with_reducible refine State.coreCommand_core4 _ _ _ _ ?_ fun t ht => ?_)
    | (with_reducible refine State.core4_fold_of ?_ fun t u ht => ?_)
    | ((try lift_lets -underBinder); intro x; first | ((have hx : x.core4 = k4 := by (simp only [x]; repeat' first | (simp -zeta [*]; done) | (with_reducible refine State.core4_fold_of ?_ fun t u ht => ?_) | (split <;> try (rename_i h; have h2 := State.core4_of_eq h; clear h)))); clear_value x) | clear_value x)
    | (simp -zeta [*]; done)
    | (split <;> try (rename_i h; have h2 := State.core4_of_eq h; clear h))

@[simp] theorem execReedRowComplete_keeps (c : Chan) (pic row : Nat) (s : State) (k4 : Core4) (hk4 : s.core4 = k4) : keepsTo k4 (execReedRowComplete c pic row s) := by
  unfold execReedRowComplete
  refine keepsTo_clocked hk4 ?_
  repeat' first
    | assumption
    | (with_reducible refine (keepsTo_next _ _).2 ?_)
    | (with_reducible refine State.coreCommand_core4 _ _ _ _ ?_ fun t ht => ?_)
    | (with_reducible refine State.core4_fold_of ?_ fun t u ht => ?_)
    | ((try lift_lets -underBinder); intro x; first | ((have hx : x.core4 = k4 := by (simp only [x]; repeat' first | (simp -zeta [*]; done) | (with_reducible refine State.core4_fold_of ?_ fun t u ht => ?_) | (split <;> try (rename_i h; have h2 := State.core4_of_eq h; clear h)))); clear_value x) | clear_value x)
    | (simp -zeta [*]; done)
    | (split <;> try (rename_i h; have h2 := State.core4_of_eq h; clear h))

end Sys2Proof.Machine
end

