-- ==== Sys2Proof/Laws/KeepPress.lean ====
section
/-!
SUPPORT. Sys2Proof/Laws/KeepPress.lean: the operations of Machine/Press.lean leave the queue of commands, the fuses, the DRAM and
the SRAM as they are.
-/

namespace Sys2Proof.Machine

set_option Elab.async false

@[simp] theorem State.setLayer_core4 (s : State) (c i : Nat) (x : LayerSt) : (State.setLayer s c i x).core4 = s.core4 := by rfl

@[simp] theorem State.setHem_core4 (s : State) (c h : Nat) (x : HemSt) : (State.setHem s c h x).core4 = s.core4 := by rfl

@[simp] theorem State.publishSurface_core4 (s : State) (ring addr : Nat) : (State.publishSurface s ring addr).core4 = s.core4 := by rfl

@[simp] theorem State.layerBoundary_core4 (s : State) (c k i : Nat) : (State.layerBoundary s c k i).core4 = s.core4 := by
  unfold State.layerBoundary
  repeat' split
  all_goals simp

@[simp] theorem State.showHems_core4 (s : State) (c : Nat) : (State.showHems s c).core4 = s.core4 := by
  unfold State.showHems
  repeat' split
  all_goals simp

@[simp] theorem State.hemBoundary_core4 (s : State) (c h : Nat) : (State.hemBoundary s c h).core4 = s.core4 := by
  unfold State.hemBoundary
  split
  · split <;> simp
  · simp

@[simp] theorem State.hemFinal_core4 (s : State) (c h : Nat) (p : PressPic) (x : HemPic) : (State.hemFinal s c h p x).core4 = s.core4 := by
  unfold State.hemFinal
  repeat' split
  all_goals simp

@[simp] theorem State.clipLoaded_core4 (s : State) (u : Nat) : (State.clipLoaded s u).core4 = s.core4 := by rfl

@[simp] theorem State.unpEnableChanged_core4 (s : State) (u : Nat) : (State.unpEnableChanged s u).core4 = s.core4 := by
  unfold State.unpEnableChanged
  repeat' split
  all_goals simp

@[simp] theorem State.unpBoundary_core4 (s : State) (c k : Nat) : (State.unpBoundary s c k).core4 = s.core4 := by
  unfold State.unpBoundary
  obtain ⟨c, hc⟩ : ∃ c, s.core4 = c := ⟨_, rfl⟩
  rw [hc]
  repeat' first
    | assumption
    | (with_reducible refine State.core4_fold_of ?_ fun t u ht => ?_)
    | ((try lift_lets -underBinder); intro x; first | ((have hx : x.core4 = c := by (simp only [x]; repeat' first | (simp -zeta [*]; done) | (with_reducible refine State.core4_fold_of ?_ fun t u ht => ?_) | (split <;> try (rename_i h; have h2 := State.core4_of_eq h; clear h)))); clear_value x) | clear_value x)
    | (simp -zeta [*]; done)
    | (split <;> try (rename_i h; have h2 := State.core4_of_eq h; clear h))

@[simp] theorem State.countConcealed_core4 (s : State) (u : Nat) : (State.countConcealed s u).core4 = s.core4 := by
  unfold State.countConcealed
  repeat' split
  all_goals simp

@[simp] theorem State.clipDecoded_core4 (s : State) (u : Nat) (pic : ClipPicture) : (State.clipDecoded s u pic).core4 = s.core4 := by
  unfold State.clipDecoded
  repeat' split
  all_goals simp

@[simp] theorem execUnpickerPictureDecoded_keeps (unp : Fin 2) (pic : ClipPicture) (s : State) (k4 : Core4) (hk4 : s.core4 = k4) : keepsTo k4 (execUnpickerPictureDecoded unp pic s) := by
  unfold execUnpickerPictureDecoded
  refine keepsTo_clocked hk4 ?_
  repeat' first
    | assumption
    | (with_reducible refine (keepsTo_next _ _).2 ?_)
    | (with_reducible refine State.coreCommand_core4 _ _ _ _ ?_ fun t ht => ?_)
    | (with_reducible refine State.core4_fold_of ?_ fun t u ht => ?_)
    | ((try lift_lets -underBinder); intro x; first | ((have hx : x.core4 = k4 := by (simp only [x]; repeat' first | (simp -zeta [*]; done) | (with_reducible refine State.core4_fold_of ?_ fun t u ht => ?_) | (split <;> try (rename_i h; have h2 := State.core4_of_eq h; clear h)))); clear_value x) | clear_value x)
    | (simp -zeta [*]; done)
    | (split <;> try (rename_i h; have h2 := State.core4_of_eq h; clear h))

@[simp] theorem State.openCompose_core4 (s : State) (c k : Nat) : (State.openCompose s c k).core4 = s.core4 := by rfl

@[simp] theorem State.pressBoundary_core4 (s : State) (c k : Nat) : (State.pressBoundary s c k).core4 = s.core4 := by
  unfold State.pressBoundary
  split
  · rfl
  · simp

@[simp] theorem State.showContexts_core4 (s : State) : (State.showContexts s).core4 = s.core4 := by
  unfold State.showContexts
  repeat' split
  all_goals simp

@[simp] theorem State.hemRow_core4 (s : State) (c k row : Nat) (v : View) (done plain : List YccLine) : (State.hemRow s c k row v done plain).core4 = s.core4 := by
  unfold State.hemRow
  extract_lets -underBinder chroma
  refine State.core4_fold_of rfl fun t h ht => ?_
  split
  · exact ht
  · split
    · exact ht
    · extract_lets -underBinder y0 y1 up x u
      split
      · exact ht
      · have hu : u.core4 = s.core4 := by simp [u, ht]
        clear_value u
        split <;> simp [hu]

@[simp] theorem execPressRowHandoff_keeps (c : Chan) (pic row : Nat) (s : State) (k4 : Core4) (hk4 : s.core4 = k4) : keepsTo k4 (execPressRowHandoff c pic row s) := by
  unfold execPressRowHandoff
  refine keepsTo_clocked hk4 ?_
  dsimp only
  repeat' first
    | assumption
    | (with_reducible refine (keepsTo_next _ _).2 ?_)
    | (with_reducible refine State.coreCommand_core4 _ _ _ _ ?_ fun t ht => ?_)
    | (with_reducible refine State.core4_fold_of ?_ fun t u ht => ?_)
    | (simp [*]; done)
    | (split <;> try (rename_i h; have h2 := State.core4_of_eq h; clear h))

end Sys2Proof.Machine
end

