-- ==== Sys2Proof/Laws/KeepRate.lean ====
section
/-!
SUPPORT. Sys2Proof/Laws/KeepRate.lean: the operations of Machine/Rate.lean leave the queue of commands, the fuses, the DRAM and
the SRAM as they are.
-/

namespace Sys2Proof.Machine

set_option Elab.async false

@[simp] theorem State.setRow_core4 (s : State) (x : RowSt) : (State.setRow s x).core4 = s.core4 := by rfl

@[simp] theorem State.dropRow_core4 (s : State) (c k j : Nat) : (State.dropRow s c k j).core4 = s.core4 := by rfl

@[simp] theorem State.openPool_core4 (s : State) (c k : Nat) : (State.openPool s c k).core4 = s.core4 := by
  unfold State.openPool
  repeat' split
  all_goals simp

@[simp] theorem State.giveOn_core4 (s : State) (c k bits : Nat) : (State.giveOn s c k bits).core4 = s.core4 := by
  unfold State.giveOn
  obtain ⟨c, hc⟩ : ∃ c, s.core4 = c := ⟨_, rfl⟩
  rw [hc]
  repeat' first
    | assumption
    | (with_reducible refine State.core4_fold_of ?_ fun t u ht => ?_)
    | ((try lift_lets -underBinder); intro x; first | ((have hx : x.core4 = c := by (simp only [x]; repeat' first | (simp -zeta [*]; done) | (with_reducible refine State.core4_fold_of ?_ fun t u ht => ?_) | (split <;> try (rename_i h; have h2 := State.core4_of_eq h; clear h)))); clear_value x) | clear_value x)
    | (simp -zeta [*]; done)
    | (split <;> try (rename_i h; have h2 := State.core4_of_eq h; clear h))

@[simp] theorem State.settle_core4 (s : State) (c k : Nat) : (State.settle s c k).core4 = s.core4 := by
  unfold State.settle
  repeat' split
  all_goals simp

@[simp] theorem State.settleOnce_core4 (s : State) (c k : Nat) : (State.settleOnce s c k).core4 = s.core4 := by simp -zeta [State.settleOnce]

@[simp] theorem State.endGrant_core4 (s : State) (r : RowSt) : (State.endGrant s r).core4 = s.core4 := by
  unfold State.endGrant
  obtain ⟨c, hc⟩ : ∃ c, s.core4 = c := ⟨_, rfl⟩
  rw [hc]
  repeat' first
    | assumption
    | (with_reducible refine State.core4_fold_of ?_ fun t u ht => ?_)
    | ((try lift_lets -underBinder); intro x; first | ((have hx : x.core4 = c := by (simp only [x]; repeat' first | (simp -zeta [*]; done) | (with_reducible refine State.core4_fold_of ?_ fun t u ht => ?_) | (split <;> try (rename_i h; have h2 := State.core4_of_eq h; clear h)))); clear_value x) | clear_value x)
    | (simp -zeta [*]; done)
    | (split <;> try (rename_i h; have h2 := State.core4_of_eq h; clear h))

@[simp] theorem State.readStats_core4 (s : State) (c k : Nat) : (State.readStats s c k).core4 = s.core4 := by
  unfold State.readStats
  split
  · rfl
  · simp

end Sys2Proof.Machine
end

