-- ==== Sys2Proof/Laws/KeepSampling.lean ====
section
/-!
SUPPORT. Sys2Proof/Laws/KeepSampling.lean: the operations of Machine/Sampling.lean leave the queue of commands, the fuses, the DRAM and
the SRAM as they are.
-/

namespace Sys2Proof.Machine

set_option Elab.async false

@[simp] theorem State.sampleDrop_core4 (s : State) : (State.sampleDrop s).core4 = s.core4 := by
  unfold State.sampleDrop
  repeat' split
  all_goals simp

@[simp] theorem State.sampleIn_core4 (s : State) (unit : Nat) (r : Sample) : (State.sampleIn s unit r).core4 = s.core4 := by simp -zeta [State.sampleIn]

@[simp] theorem State.rowSample_core4 (s : State) (r : RowSt) (loom : Nat) : (State.rowSample s r loom).core4 = s.core4 := by
  unfold State.rowSample
  repeat' split
  all_goals simp

end Sys2Proof.Machine
end

