-- ==== Sys2Proof/Laws/KeepPackets.lean ====
section
/-!
SUPPORT. Sys2Proof/Laws/KeepPackets.lean: the operations of Machine/Packets.lean leave the queue of commands, the fuses, the DRAM and
the SRAM as they are.
-/

namespace Sys2Proof.Machine

set_option Elab.async false

@[simp] theorem State.sendCut_core4 (s : State) (r : RowSt) (x : Cut) (opening last : Bool) (rows : Nat) : (State.sendCut s r x opening last rows).core4 = s.core4 := by
  unfold State.sendCut
  repeat' split
  all_goals simp

@[simp] theorem State.buildFrames_core4  (aArg : Nat) (bArg : State) (cArg : Nat) (dArg : Nat) (eArg : Nat) : (State.buildFrames aArg bArg cArg dArg eArg).core4 = bArg.core4 := by
  induction aArg generalizing bArg with
  | zero => rfl
  | succ n ih =>
    unfold State.buildFrames
    split
    · rfl
    · extract_lets -underBinder v rows opening done
      split
      · rfl
      · split
        · split
          · rfl
          · dsimp only
            rw [ih]
            simp
        · split
          · rfl
          · dsimp only
            rw [ih, State.setRow_core4]
            split <;> simp

@[simp] theorem State.build_core4 (s : State) (c k j : Nat) : (State.build s c k j).core4 = s.core4 := by
  unfold State.build
  split <;> simp -zeta

end Sys2Proof.Machine
end

