-- ==== Sys2Proof/Laws/KeepLoom.lean ====
section
/-!
SUPPORT. Sys2Proof/Laws/KeepLoom.lean: the operations of Machine/Loom.lean leave the queue of commands, the fuses, the DRAM and
the SRAM as they are.
-/

namespace Sys2Proof.Machine

set_option Elab.async false

@[simp] theorem State.showSweep_core4 (s : State) (c : Nat) : (State.showSweep s c).core4 = s.core4 := by rfl

@[simp] theorem State.spoil_core4 (s : State) (c k : Nat) : (State.spoil s c k).core4 = s.core4 := by
  unfold State.spoil
  repeat' split
  all_goals simp

@[simp] theorem State.copyMaps_core4 (s : State) (c : Nat) : (State.copyMaps s c).core4 = s.core4 := by
  unfold State.copyMaps
  repeat' split
  all_goals simp

@[simp] theorem State.sendRowQp_core4 (s : State) (r : RowSt) : (State.sendRowQp s r).core4 = s.core4 := by
  unfold State.sendRowQp
  repeat' split
  all_goals simp

@[simp] theorem State.rowFinished_core4 (s : State) (c k bits : Nat) : (State.rowFinished s c k bits).core4 = s.core4 := by
  unfold State.rowFinished
  obtain ⟨c, hc⟩ : ∃ c, s.core4 = c := ⟨_, rfl⟩
  rw [hc]
  repeat' first
    | assumption
    | (with_reducible refine State.core4_fold_of ?_ fun t u ht => ?_)
    | ((try lift_lets -underBinder); intro x; first | ((have hx : x.core4 = c := by (simp only [x]; repeat' first | (simp -zeta [*]; done) | (with_reducible refine State.core4_fold_of ?_ fun t u ht => ?_) | (split <;> try (rename_i h; have h2 := State.core4_of_eq h; clear h)))); clear_value x) | clear_value x)
    | (simp -zeta [*]; done)
    | (split <;> try (rename_i h; have h2 := State.core4_of_eq h; clear h))

@[simp] theorem State.rowEnded_core4 (s : State) (r : RowSt) : (State.rowEnded s r).core4 = s.core4 := by
  unfold State.rowEnded
  repeat' split
  all_goals simp

@[simp] theorem State.holdRow_core4 (s : State) (c k j : Nat) (old : RowSt) : (State.holdRow s c k j old).core4 = s.core4 := by
  unfold State.holdRow
  split
  · rfl
  · simp

@[simp] theorem State.endRow_core4 (s : State) (r : RowSt) : (State.endRow s r).core4 = s.core4 := by
  unfold State.endRow
  repeat' split
  all_goals simp

@[simp] theorem State.showLooms_core4 (s : State) : (State.showLooms s).core4 = s.core4 := by
  unfold State.showLooms
  repeat' split
  all_goals simp

@[simp] theorem State.loomState_core4 (s : State) (l st : Nat) : (State.loomState s l st).core4 = s.core4 := by
  unfold State.loomState
  split
  · rfl
  · simp

@[simp] theorem State.stopLoom_core4 (s : State) (l : Nat) : (State.stopLoom s l).core4 = s.core4 := by
  unfold State.stopLoom
  obtain ⟨c, hc⟩ : ∃ c, s.core4 = c := ⟨_, rfl⟩
  rw [hc]
  repeat' first
    | assumption
    | (with_reducible refine State.core4_fold_of ?_ fun t u ht => ?_)
    | ((try lift_lets -underBinder); intro x; first | ((have hx : x.core4 = c := by (simp only [x]; repeat' first | (simp -zeta [*]; done) | (with_reducible refine State.core4_fold_of ?_ fun t u ht => ?_) | (split <;> try (rename_i h; have h2 := State.core4_of_eq h; clear h)))); clear_value x) | clear_value x)
    | (simp -zeta [*]; done)
    | (split <;> try (rename_i h; have h2 := State.core4_of_eq h; clear h))

@[simp] theorem State.floorEvent_core4 (s : State) (c k : Nat) : (State.floorEvent s c k).core4 = s.core4 := by
  unfold State.floorEvent
  obtain ⟨c, hc⟩ : ∃ c, s.core4 = c := ⟨_, rfl⟩
  rw [hc]
  repeat' first
    | assumption
    | (with_reducible refine State.core4_fold_of ?_ fun t u ht => ?_)
    | ((try lift_lets -underBinder); intro x; first | ((have hx : x.core4 = c := by (simp only [x]; repeat' first | (simp -zeta [*]; done) | (with_reducible refine State.core4_fold_of ?_ fun t u ht => ?_) | (split <;> try (rename_i h; have h2 := State.core4_of_eq h; clear h)))); clear_value x) | clear_value x)
    | (simp -zeta [*]; done)
    | (split <;> try (rename_i h; have h2 := State.core4_of_eq h; clear h))

@[simp] theorem State.postpone_core4 (s : State) (c k : Nat) : (State.postpone s c k).core4 = s.core4 := by
  unfold State.postpone
  split
  · rfl
  · simp

@[simp] theorem execLoomRowStart_keeps (loom : LoomId) (s : State) (k4 : Core4) (hk4 : s.core4 = k4) : keepsTo k4 (execLoomRowStart loom s) := by
  unfold execLoomRowStart
  refine keepsTo_clocked hk4 ?_
  repeat' first
    | assumption
    | (with_reducible refine (keepsTo_next _ _).2 ?_)
    | (with_reducible refine State.coreCommand_core4 _ _ _ _ ?_ fun t ht => ?_)
    | (with_reducible refine State.core4_fold_of ?_ fun t u ht => ?_)
    | ((try lift_lets -underBinder); intro x; first | ((have hx : x.core4 = k4 := by (simp only [x]; repeat' first | (simp -zeta [*]; done) | (with_reducible refine State.core4_fold_of ?_ fun t u ht => ?_) | (split <;> try (rename_i h; have h2 := State.core4_of_eq h; clear h)))); clear_value x) | clear_value x)
    | (simp -zeta [*]; done)
    | (split <;> try (rename_i h; have h2 := State.core4_of_eq h; clear h))

@[simp] theorem execCtuIntake_keeps (loom : LoomId) (ctu : CtuMeasure) (s : State) (k4 : Core4) (hk4 : s.core4 = k4) : keepsTo k4 (execCtuIntake loom ctu s) := by
  unfold execCtuIntake
  refine keepsTo_clocked hk4 ?_
  repeat' first
    | assumption
    | (with_reducible refine (keepsTo_next _ _).2 ?_)
    | (with_reducible refine State.coreCommand_core4 _ _ _ _ ?_ fun t ht => ?_)
    | (with_reducible refine State.core4_fold_of ?_ fun t u ht => ?_)
    | ((try lift_lets -underBinder); intro x; first | ((have hx : x.core4 = k4 := by (simp only [x]; repeat' first | (simp -zeta [*]; done) | (with_reducible refine State.core4_fold_of ?_ fun t u ht => ?_) | (split <;> try (rename_i h; have h2 := State.core4_of_eq h; clear h)))); clear_value x) | clear_value x)
    | (simp -zeta [*]; done)
    | (split <;> try (rename_i h; have h2 := State.core4_of_eq h; clear h))

@[simp] theorem State.freeLane_core4 (s : State) (r : RowSt) (x : Nat) : (State.freeLane s r x).core4 = s.core4 := by
  unfold State.freeLane
  split
  · rfl
  · simp

@[simp] theorem execCtuCodedStaged_keeps (chan : Chan) (row : Nat) (coded : StagedCtu) (s : State) (k4 : Core4) (hk4 : s.core4 = k4) : keepsTo k4 (execCtuCodedStaged chan row coded s) := by
  unfold execCtuCodedStaged
  refine keepsTo_clocked hk4 ?_
  repeat' first
    | assumption
    | (with_reducible refine (keepsTo_next _ _).2 ?_)
    | (with_reducible refine State.coreCommand_core4 _ _ _ _ ?_ fun t ht => ?_)
    | (with_reducible refine State.core4_fold_of ?_ fun t u ht => ?_)
    | ((try lift_lets -underBinder); intro x; first | ((have hx : x.core4 = k4 := by (simp only [x]; repeat' first | (simp -zeta [*]; done) | (with_reducible refine State.core4_fold_of ?_ fun t u ht => ?_) | (split <;> try (rename_i h; have h2 := State.core4_of_eq h; clear h)))); clear_value x) | clear_value x)
    | (simp -zeta [*]; done)
    | (split <;> try (rename_i h; have h2 := State.core4_of_eq h; clear h))

end Sys2Proof.Machine
end

