-- ==== Sys2Proof/Laws/KeepDarning.lean ====
section
/-!
SUPPORT. Sys2Proof/Laws/KeepDarning.lean: the operations of Machine/Darning.lean leave the queue of commands, the fuses, the DRAM and
the SRAM as they are.
-/

namespace Sys2Proof.Machine

set_option Elab.async false

@[simp] theorem State.darnAsk_core4 (s : State) (c : Nat) (route : DarnRoute) : (State.darnAsk s c route).1.core4 = s.core4 := by
  unfold State.darnAsk
  split
  · split <;> simp
  · simp

@[simp] theorem State.sweepOn_core4 (s : State) (c k : Nat) : (State.sweepOn s c k).core4 = s.core4 := by
  unfold State.sweepOn
  obtain ⟨c, hc⟩ : ∃ c, s.core4 = c := ⟨_, rfl⟩
  rw [hc]
  repeat' first
    | assumption
    | (with_reducible refine State.core4_fold_of ?_ fun t u ht => ?_)
    | ((try lift_lets -underBinder); intro x; first | ((have hx : x.core4 = c := by (simp only [x]; repeat' first | (simp -zeta [*]; done) | (with_reducible refine State.core4_fold_of ?_ fun t u ht => ?_) | (split <;> try (rename_i h; have h2 := State.core4_of_eq h; clear h)))); clear_value x) | clear_value x)
    | (simp -zeta [*]; done)
    | (split <;> try (rename_i h; have h2 := State.core4_of_eq h; clear h))

@[simp] theorem State.sweepStart_core4 (s : State) (c k trigger : Nat) : (State.sweepStart s c k trigger).core4 = s.core4 := by
  unfold State.sweepStart
  repeat' split
  all_goals simp

@[simp] theorem State.sweepBoundary_core4 (s : State) (c k : Nat) (first : Bool) : (State.sweepBoundary s c k first).core4 = s.core4 := by
  unfold State.sweepBoundary
  obtain ⟨c, hc⟩ : ∃ c, s.core4 = c := ⟨_, rfl⟩
  rw [hc]
  repeat' first
    | assumption
    | (with_reducible refine State.core4_fold_of ?_ fun t u ht => ?_)
    | ((try lift_lets -underBinder); intro x; first | ((have hx : x.core4 = c := by (simp only [x]; repeat' first | (simp -zeta [*]; done) | (with_reducible refine State.core4_fold_of ?_ fun t u ht => ?_) | (split <;> try (rename_i h; have h2 := State.core4_of_eq h; clear h)))); clear_value x) | clear_value x)
    | (simp -zeta [*]; done)
    | (split <;> try (rename_i h; have h2 := State.core4_of_eq h; clear h))

@[simp] theorem State.showBand_core4 (s : State) (c : Nat) (p : PicSt) : (State.showBand s c p).core4 = s.core4 := by rfl

end Sys2Proof.Machine
end

