-- ==== Sys2Proof/Laws/KeepQual.lean ====
section
/-!
SUPPORT. Sys2Proof/Laws/KeepQual.lean: the operations of Machine/Qual.lean leave the queue of commands, the fuses, the DRAM and
the SRAM as they are.
-/

namespace Sys2Proof.Machine

set_option Elab.async false

@[simp] theorem State.startQual_core4 (s : State) (l : Nat) (joint again : Bool) : (State.startQual s l joint again).core4 = s.core4 := by simp -zeta [State.startQual]

@[simp] theorem State.startJoint_core4 (s : State) : (State.startJoint s).core4 = s.core4 := by simp -zeta [State.startJoint]

@[simp] theorem State.qualPoint_core4 (s : State) : (State.qualPoint s).core4 = s.core4 := by simp -zeta [State.qualPoint]

@[simp] theorem State.qualShow_core4 (s : State) (l result : Nat) : (State.qualShow s l result).core4 = s.core4 := by rfl

@[simp] theorem State.qualPass_core4 (s : State) (l result : Nat) : (State.qualPass s l result).core4 = s.core4 := by
  unfold State.qualPass
  repeat' split
  all_goals simp

@[simp] theorem State.qualFail_core4 (s : State) (l : Nat) : (State.qualFail s l).core4 = s.core4 := by
  unfold State.qualFail
  repeat' split
  all_goals simp

@[simp] theorem State.qualAbandon_core4 (s : State) (l : Nat) : (State.qualAbandon s l).core4 = s.core4 := by
  unfold State.qualAbandon
  split
  · rfl
  · simp

@[simp] theorem State.qualSingle_core4 (s : State) (l tiles : Nat) : (State.qualSingle s l tiles).core4 = s.core4 := by
  unfold State.qualSingle
  repeat' split
  all_goals simp

@[simp] theorem execQualificationDone_keeps (looms : Nat) (tiles : List Nat) (shaOk : Bool) (s : State) (k4 : Core4) (hk4 : s.core4 = k4) : keepsTo k4 (execQualificationDone looms tiles shaOk s) := by
  unfold execQualificationDone
  refine keepsTo_clocked hk4 ?_
  repeat' split
  all_goals simp [hk4]

@[simp] theorem execQualificationTimeout_keeps (loom : LoomId) (s : State) (k4 : Core4) (hk4 : s.core4 = k4) : keepsTo k4 (execQualificationTimeout loom s) := by
  subst hk4
  unfold execQualificationTimeout
  refine keepsTo_clocked rfl ?_
  extract_lets -underBinder l lm
  split
  · rfl
  · split
    · rfl
    · rw [keepsTo_next]
      simp

@[simp] theorem State.qualifyAsk_core4 (s : State) (mask : Nat) : (State.qualifyAsk s mask).1.core4 = s.core4 := by
  unfold State.qualifyAsk
  split
  · rfl
  · simp

end Sys2Proof.Machine
end

