-- ==== Sys2Proof/Laws/KeepSeam.lean ====
section
/-!
SUPPORT. Sys2Proof/Laws/KeepSeam.lean: the operations of Machine/Seam.lean leave the queue of commands, the fuses, the DRAM and
the SRAM as they are.
-/

namespace Sys2Proof.Machine

set_option Elab.async false

@[simp] theorem State.setChainPort_core4 (s : State) (side : Nat) (x : ChainPortSt) : (State.setChainPort s side x).core4 = s.core4 := by rfl

@[simp] theorem execChainPositionDerive_keeps (view : ChainView) (s : State) (k4 : Core4) (hk4 : s.core4 = k4) : keepsTo k4 (execChainPositionDerive view s) := by
  unfold execChainPositionDerive
  refine keepsTo_clocked hk4 ?_
  split <;> simp [hk4]

@[simp] theorem execChainSegmentSend_keeps (side : ChainPort) (s : State) (k4 : Core4) (hk4 : s.core4 = k4) : keepsTo k4 (execChainSegmentSend side s) := by
  unfold execChainSegmentSend
  refine keepsTo_clocked hk4 ?_
  repeat' first
    | assumption
    | (with_reducible refine (keepsTo_next _ _).2 ?_)
    | (with_reducible refine State.coreCommand_core4 _ _ _ _ ?_ fun t ht => ?_)
    | (with_reducible refine State.core4_fold_of ?_ fun t u ht => ?_)
    | ((try lift_lets -underBinder); intro x; first | ((have hx : x.core4 = k4 := by (simp only [x]; repeat' first | (simp -zeta [*]; done) | (with_reducible refine State.core4_fold_of ?_ fun t u ht => ?_) | (split <;> try (rename_i h; have h2 := State.core4_of_eq h; clear h)))); clear_value x) | clear_value x)
    | (simp -zeta [*]; done)
    | (split <;> try (rename_i h; have h2 := State.core4_of_eq h; clear h))

@[simp] theorem State.seamBad_core4 (s : State) : (State.seamBad s).core4 = s.core4 := by rfl

@[simp] theorem execStripReceived_keeps (side : ChainPort) (msg : Bytes) (s : State) (k4 : Core4) (hk4 : s.core4 = k4) : keepsTo k4 (execStripReceived side msg s) := by
  unfold execStripReceived
  refine keepsTo_clocked hk4 ?_
  repeat' first
    | assumption
    | (with_reducible refine (keepsTo_next _ _).2 ?_)
    | (with_reducible refine State.coreCommand_core4 _ _ _ _ ?_ fun t ht => ?_)
    | (with_reducible refine State.core4_fold_of ?_ fun t u ht => ?_)
    | ((try lift_lets -underBinder); intro x; first | ((have hx : x.core4 = k4 := by (simp only [x]; repeat' first | (simp -zeta [*]; done) | (with_reducible refine State.core4_fold_of ?_ fun t u ht => ?_) | (split <;> try (rename_i h; have h2 := State.core4_of_eq h; clear h)))); clear_value x) | clear_value x)
    | (simp -zeta [*]; done)
    | (split <;> try (rename_i h; have h2 := State.core4_of_eq h; clear h))

@[simp] theorem execRowQpRecordReceived_keeps (side : ChainPort) (msg : Bytes) (s : State) (k4 : Core4) (hk4 : s.core4 = k4) : keepsTo k4 (execRowQpRecordReceived side msg s) := by
  unfold execRowQpRecordReceived
  refine keepsTo_clocked hk4 ?_
  repeat' split
  all_goals simp [hk4]

@[simp] theorem execBandRecordReceived_keeps (side : ChainPort) (msg : Bytes) (s : State) (k4 : Core4) (hk4 : s.core4 = k4) : keepsTo k4 (execBandRecordReceived side msg s) := by
  unfold execBandRecordReceived
  refine keepsTo_clocked hk4 ?_
  repeat' split
  all_goals simp [hk4]

@[simp] theorem State.showMismatch_core4 (s : State) (c : Nat) : (State.showMismatch s c).core4 = s.core4 := by
  unfold State.showMismatch
  repeat' split
  all_goals simp

@[simp] theorem State.sideState_core4 (s : State) (c : Nat) (left : Bool) (st : Nat) : (State.sideState s c left st).core4 = s.core4 := by
  unfold State.sideState
  split
  · rfl
  · simp

@[simp] theorem execCanvasRecordReceived_keeps (side : ChainPort) (msg : Bytes) (s : State) (k4 : Core4) (hk4 : s.core4 = k4) : keepsTo k4 (execCanvasRecordReceived side msg s) := by
  subst hk4
  unfold execCanvasRecordReceived
  refine keepsTo_clocked rfl ?_
  split
  · rfl
  · simp
  · extract_lets -underBinder fl sd t n u
    have ht : t.core4 = s.core4 := by simp only [t, State.setSide_core4]
    have hu : u.core4 = s.core4 := by simp only [u, State.setSide_core4]
    clear_value t u fl
    split
    · simp [ht]
    · simp [hu]

@[simp] theorem execSeamSideAbsent_keeps (chan : Chan) (left : Bool) (s : State) (k4 : Core4) (hk4 : s.core4 = k4) : keepsTo k4 (execSeamSideAbsent chan left s) := by
  unfold execSeamSideAbsent
  refine keepsTo_clocked hk4 ?_
  repeat' first
    | assumption
    | (with_reducible refine (keepsTo_next _ _).2 ?_)
    | (with_reducible refine State.coreCommand_core4 _ _ _ _ ?_ fun t ht => ?_)
    | (with_reducible refine State.core4_fold_of ?_ fun t u ht => ?_)
    | ((try lift_lets -underBinder); intro x; first | ((have hx : x.core4 = k4 := by (simp only [x]; repeat' first | (simp -zeta [*]; done) | (with_reducible refine State.core4_fold_of ?_ fun t u ht => ?_) | (split <;> try (rename_i h; have h2 := State.core4_of_eq h; clear h)))); clear_value x) | clear_value x)
    | (simp -zeta [*]; done)
    | (split <;> try (rename_i h; have h2 := State.core4_of_eq h; clear h))

@[simp] theorem State.seamBoundary_core4 (s : State) (c k : Nat) : (State.seamBoundary s c k).core4 = s.core4 := by
  unfold State.seamBoundary
  repeat' split
  all_goals simp

@[simp] theorem State.sendRecords_core4 (s : State) (c k : Nat) : (State.sendRecords s c k).core4 = s.core4 := by
  unfold State.sendRecords
  repeat' split
  all_goals simp

end Sys2Proof.Machine
end

