-- ==== Sys2Proof/Laws/KeepMangle.lean ====
section
/-!
SUPPORT. Sys2Proof/Laws/KeepMangle.lean: the operations of Machine/Mangle.lean leave the queue of commands, the fuses, the DRAM and
the SRAM as they are.
-/

namespace Sys2Proof.Machine

set_option Elab.async false

@[simp] theorem State.showPort_core4 (s : State) (p : Nat) : (State.showPort s p).core4 = s.core4 := by
  unfold State.showPort
  repeat' split
  all_goals simp

@[simp] theorem State.breach_core4 (s : State) (c k j cause : Nat) : (State.breach s c k j cause).core4 = s.core4 := by
  unfold State.breach
  obtain ⟨c, hc⟩ : ∃ c, s.core4 = c := ⟨_, rfl⟩
  rw [hc]
  repeat' first
    | assumption
    | (with_reducible refine State.core4_fold_of ?_ fun t u ht => ?_)
    | ((try lift_lets -underBinder); intro x; first | ((have hx : x.core4 = c := by (simp only [x]; repeat' first | (simp -zeta [*]; done) | (with_reducible refine State.core4_fold_of ?_ fun t u ht => ?_) | (split <;> try (rename_i h; have h2 := State.core4_of_eq h; clear h)))); clear_value x) | clear_value x)
    | (simp -zeta [*]; done)
    | (split <;> try (rename_i h; have h2 := State.core4_of_eq h; clear h))

@[simp] theorem State.picClosed_core4 (s : State) (c k : Nat) : (State.picClosed s c k).core4 = s.core4 := by
  unfold State.picClosed
  repeat' split
  all_goals simp

@[simp] theorem State.blockRow_core4 (s : State) (r : RowSt) (p : Nat) : (State.blockRow s r p).core4 = s.core4 := by
  unfold State.blockRow
  obtain ⟨c, hc⟩ : ∃ c, s.core4 = c := ⟨_, rfl⟩
  rw [hc]
  repeat' first
    | assumption
    | (with_reducible refine State.core4_fold_of ?_ fun t u ht => ?_)
    | ((try lift_lets -underBinder); intro x; first | ((have hx : x.core4 = c := by (simp only [x]; repeat' first | (simp -zeta [*]; done) | (with_reducible refine State.core4_fold_of ?_ fun t u ht => ?_) | (split <;> try (rename_i h; have h2 := State.core4_of_eq h; clear h)))); clear_value x) | clear_value x)
    | (simp -zeta [*]; done)
    | (split <;> try (rename_i h; have h2 := State.core4_of_eq h; clear h))

@[simp] theorem State.retireRow_core4 (s : State) (c k j : Nat) : (State.retireRow s c k j).core4 = s.core4 := by
  unfold State.retireRow
  split
  · rfl
  · simp

@[simp] theorem State.rowOrHold_core4 (s : State) (c pic row : Nat) : (State.rowOrHold s c pic row).core4 = s.core4 := by
  unfold State.rowOrHold
  split <;> simp -zeta

@[simp] theorem State.slotNoted_core4 (s : State) (c pic row : Nat) : (State.slotNoted s c pic row).core4 = s.core4 := by rfl

@[simp] theorem State.heldAt_core4 (s : State) (c pic row p : Nat) : (State.heldAt s c pic row p).core4 = s.core4 := by
  unfold State.heldAt
  split <;> simp -zeta

@[simp] theorem State.openPort_core4 (s : State) (c pic row leg : Nat) (r : RowSt) : (State.openPort s c pic row leg r).core4 = s.core4 := by
  unfold State.openPort
  repeat' split
  all_goals simp

@[simp] theorem State.openRowSlot_core4 (s : State) (c pic row : Nat) (r : RowSt) : (State.openRowSlot s c pic row r).core4 = s.core4 := by
  unfold State.openRowSlot
  repeat' split
  all_goals simp

@[simp] theorem execRowSlotOpen_keeps (chan : Chan) (pic row : Nat) (s : State) (k4 : Core4) (hk4 : s.core4 = k4) : keepsTo k4 (execRowSlotOpen chan pic row s) := by
  unfold execRowSlotOpen
  refine keepsTo_clocked hk4 ?_
  extract_lets -underBinder c
  split
  · exact hk4
  · split
    · exact hk4
    · extract_lets -underBinder t
      have ht : t.core4 = k4 := by simp [t, hk4]
      split
      · exact ht
      · rw [keepsTo_next]
        simp [ht]

@[simp] theorem execRowSlotClose_keeps (chan : Chan) (pic row : Nat) (s : State) (k4 : Core4) (hk4 : s.core4 = k4) : keepsTo k4 (execRowSlotClose chan pic row s) := by
  unfold execRowSlotClose
  refine keepsTo_clocked hk4 ?_
  repeat' first
    | assumption
    | (with_reducible refine (keepsTo_next _ _).2 ?_)
    | (with_reducible refine State.coreCommand_core4 _ _ _ _ ?_ fun t ht => ?_)
    | (with_reducible refine State.core4_fold_of ?_ fun t u ht => ?_)
    | ((try lift_lets -underBinder); intro x; first | ((have hx : x.core4 = k4 := by (simp only [x]; repeat' first | (simp -zeta [*]; done) | (with_reducible refine State.core4_fold_of ?_ fun t u ht => ?_) | (split <;> try (rename_i h; have h2 := State.core4_of_eq h; clear h)))); clear_value x) | clear_value x)
    | (simp -zeta [*]; done)
    | (split <;> try (rename_i h; have h2 := State.core4_of_eq h; clear h))

@[simp] theorem State.noteWaits_core4 (s : State) (p : Nat) : (State.noteWaits s p).core4 = s.core4 := by
  unfold State.noteWaits
  repeat' split
  all_goals simp

@[simp] theorem State.stampRequest_core4 (s : State) (p : Nat) (f : TxFrame) : (State.stampRequest s p f).core4 = s.core4 := by
  unfold State.stampRequest
  split <;> simp -zeta

@[simp] theorem State.startFrame_core4 (s : State) (p : Nat) (f : TxFrame) : (State.startFrame s p f).core4 = s.core4 := by
  unfold State.startFrame
  repeat' split
  all_goals simp

@[simp] theorem State.rowFrameOut_core4 (s : State) (p : Nat) (f : RowFrame) : (State.rowFrameOut s p f).core4 = s.core4 := by
  unfold State.rowFrameOut
  obtain ⟨c, hc⟩ : ∃ c, s.core4 = c := ⟨_, rfl⟩
  rw [hc]
  repeat' first
    | assumption
    | (with_reducible refine State.core4_fold_of ?_ fun t u ht => ?_)
    | ((try lift_lets -underBinder); intro x; first | ((have hx : x.core4 = c := by (simp only [x]; repeat' first | (simp -zeta [*]; done) | (with_reducible refine State.core4_fold_of ?_ fun t u ht => ?_) | (split <;> try (rename_i h; have h2 := State.core4_of_eq h; clear h)))); clear_value x) | clear_value x)
    | (simp -zeta [*]; done)
    | (split <;> try (rename_i h; have h2 := State.core4_of_eq h; clear h))

@[simp] theorem execTxFrameSelect_keeps (port : PortId) (s : State) (k4 : Core4) (hk4 : s.core4 = k4) : keepsTo k4 (execTxFrameSelect port s) := by
  unfold execTxFrameSelect
  refine keepsTo_clocked hk4 ?_
  dsimp only
  repeat' first
    | assumption
    | (with_reducible refine (keepsTo_next _ _).2 ?_)
    | (with_reducible refine State.coreCommand_core4 _ _ _ _ ?_ fun t ht => ?_)
    | (with_reducible refine State.core4_fold_of ?_ fun t u ht => ?_)
    | (simp [*]; done)
    | (split <;> try (rename_i h; have h2 := State.core4_of_eq h; clear h))

@[simp] theorem execGateEntryChange_keeps (port : PortId) (s : State) (k4 : Core4) (hk4 : s.core4 = k4) : keepsTo k4 (execGateEntryChange port s) := by
  unfold execGateEntryChange
  refine keepsTo_clocked hk4 ?_
  repeat' split
  all_goals simp [hk4]

@[simp] theorem State.rowsAtChange_core4 (s : State) (p : Nat) : (State.rowsAtChange s p).core4 = s.core4 := by simp -zeta [State.rowsAtChange]

@[simp] theorem execGateListChangeover_keeps (port : PortId) (s : State) (k4 : Core4) (hk4 : s.core4 = k4) : keepsTo k4 (execGateListChangeover port s) := by
  subst hk4
  unfold execGateListChangeover
  refine keepsTo_clocked rfl ?_
  extract_lets -underBinder p ps
  split
  · rfl
  · extract_lets -underBinder x
    split
    · rfl
    · dsimp only
      rw [keepsTo_next]
      simp

@[simp] theorem execShaperRefill_keeps (port : PortId) (s : State) (k4 : Core4) (hk4 : s.core4 = k4) : keepsTo k4 (execShaperRefill port s) := by
  unfold execShaperRefill
  refine keepsTo_clocked hk4 ?_
  repeat' first
    | assumption
    | (with_reducible refine (keepsTo_next _ _).2 ?_)
    | (with_reducible refine State.coreCommand_core4 _ _ _ _ ?_ fun t ht => ?_)
    | (with_reducible refine State.core4_fold_of ?_ fun t u ht => ?_)
    | ((try lift_lets -underBinder); intro x; first | ((have hx : x.core4 = k4 := by (simp only [x]; repeat' first | (simp -zeta [*]; done) | (with_reducible refine State.core4_fold_of ?_ fun t u ht => ?_) | (split <;> try (rename_i h; have h2 := State.core4_of_eq h; clear h)))); clear_value x) | clear_value x)
    | (simp -zeta [*]; done)
    | (split <;> try (rename_i h; have h2 := State.core4_of_eq h; clear h))

@[simp] theorem execPolicerRefill_keeps (s : State) (k4 : Core4) (hk4 : s.core4 = k4) : keepsTo k4 (execPolicerRefill s) := by
  subst hk4
  unfold execPolicerRefill
  refine keepsTo_clocked rfl ?_
  extract_lets -underBinder n t flows l u rate
  have ht : t.core4 = s.core4 := by simp [t]
  clear_value t
  split
  · rfl
  · refine State.core4_fold_of (by simp [u, ht]) fun u p hu => ?_
    dsimp only
    split
    · exact hu
    · simp [hu]

@[simp] theorem execPortLinkChange_keeps (port : PortId) (up : Bool) (rate : Nat) (s : State) (k4 : Core4) (hk4 : s.core4 = k4) : keepsTo k4 (execPortLinkChange port up rate s) := by
  unfold execPortLinkChange
  refine keepsTo_clocked hk4 ?_
  dsimp only
  repeat' first
    | assumption
    | (with_reducible refine (keepsTo_next _ _).2 ?_)
    | (with_reducible refine State.coreCommand_core4 _ _ _ _ ?_ fun t ht => ?_)
    | (with_reducible refine State.core4_fold_of ?_ fun t u ht => ?_)
    | (simp [*]; done)
    | (split <;> try (rename_i h; have h2 := State.core4_of_eq h; clear h))

@[simp] theorem execRtcpSenderReport_keeps (chan : Chan) (phase : Nat) (s : State) (k4 : Core4) (hk4 : s.core4 = k4) : keepsTo k4 (execRtcpSenderReport chan phase s) := by
  unfold execRtcpSenderReport
  refine keepsTo_clocked hk4 ?_
  repeat' first
    | assumption
    | (with_reducible refine (keepsTo_next _ _).2 ?_)
    | (with_reducible refine State.coreCommand_core4 _ _ _ _ ?_ fun t ht => ?_)
    | (with_reducible refine State.core4_fold_of ?_ fun t u ht => ?_)
    | ((try lift_lets -underBinder); intro x; first | ((have hx : x.core4 = k4 := by (simp only [x]; repeat' first | (simp -zeta [*]; done) | (with_reducible refine State.core4_fold_of ?_ fun t u ht => ?_) | (split <;> try (rename_i h; have h2 := State.core4_of_eq h; clear h)))); clear_value x) | clear_value x)
    | (simp -zeta [*]; done)
    | (split <;> try (rename_i h; have h2 := State.core4_of_eq h; clear h))

end Sys2Proof.Machine
end

