-- ==== Sys2Proof/Laws/KeepBoundary.lean ====
section
/-!
SUPPORT. Sys2Proof/Laws/KeepBoundary.lean: the operations of Machine/Boundary.lean leave the queue of commands, the fuses, the DRAM and
the SRAM as they are.
-/

namespace Sys2Proof.Machine

set_option Elab.async false

@[simp] theorem State.takeLoom_core4 (s : State) (l : Nat) : (State.takeLoom s l).core4 = s.core4 := by simp -zeta [State.takeLoom]

@[simp] theorem State.freeLooms_core4 (s : State) : (State.freeLooms s).core4 = s.core4 := by simp -zeta [State.freeLooms]

@[simp] theorem State.assign_core4 (s : State) (c : Nat) (looms : List Nat) : (State.assign s c looms).core4 = s.core4 := by
  unfold State.assign
  repeat' split
  all_goals simp

@[simp] theorem State.resumeLooms_core4 (s : State) (c : Nat) : (State.resumeLooms s c).core4 = s.core4 := by
  unfold State.resumeLooms
  repeat' split
  all_goals simp

@[simp] theorem State.takeOver_core4 (s : State) (c : Nat) : (State.takeOver s c).core4 = s.core4 := by
  unfold State.takeOver
  obtain ⟨c, hc⟩ : ∃ c, s.core4 = c := ⟨_, rfl⟩
  rw [hc]
  repeat' first
    | assumption
    | (with_reducible refine State.core4_fold_of ?_ fun t u ht => ?_)
    | ((try lift_lets -underBinder); intro x; first | ((have hx : x.core4 = c := by (simp only [x]; repeat' first | (simp -zeta [*]; done) | (with_reducible refine State.core4_fold_of ?_ fun t u ht => ?_) | (split <;> try (rename_i h; have h2 := State.core4_of_eq h; clear h)))); clear_value x) | clear_value x)
    | (simp -zeta [*]; done)
    | (split <;> try (rename_i h; have h2 := State.core4_of_eq h; clear h))

@[simp] theorem State.show_core4 (s : State) (k v : Nat) : (State.show s k v).core4 = s.core4 := by simp -zeta [State.show]

@[simp] theorem State.showChannel_core4 (s : State) (c : Nat) : (State.showChannel s c).core4 = s.core4 := by
  unfold State.showChannel
  repeat' split
  all_goals simp

@[simp] theorem State.openPicture_core4 (s : State) (c k : Nat) (first : Bool) : (State.openPicture s c k first).core4 = s.core4 := by
  unfold State.openPicture
  repeat' split
  all_goals simp

@[simp] theorem State.codeBoundary_core4 (s : State) (before : View) (c k : Nat) : (State.codeBoundary s before c k).core4 = s.core4 := by
  unfold State.codeBoundary
  obtain ⟨c, hc⟩ : ∃ c, s.core4 = c := ⟨_, rfl⟩
  rw [hc]
  repeat' first
    | assumption
    | (with_reducible refine State.core4_fold_of ?_ fun t u ht => ?_)
    | ((try lift_lets -underBinder); intro x; first | ((have hx : x.core4 = c := by (simp only [x]; repeat' first | (simp -zeta [*]; done) | (with_reducible refine State.core4_fold_of ?_ fun t u ht => ?_) | (split <;> try (rename_i h; have h2 := State.core4_of_eq h; clear h)))); clear_value x) | clear_value x)
    | (simp -zeta [*]; done)
    | (split <;> try (rename_i h; have h2 := State.core4_of_eq h; clear h))

@[simp] theorem State.boundary_core4 (s : State) (c k : Nat) : (State.boundary s c k).core4 = s.core4 := by
  unfold State.boundary
  repeat' split
  all_goals simp

@[simp] theorem execPictureBoundary_keeps (chan : Chan) (s : State) (k4 : Core4) (hk4 : s.core4 = k4) : keepsTo k4 (execPictureBoundary chan s) := by
  unfold execPictureBoundary
  refine keepsTo_clocked hk4 ?_
  repeat' first
    | assumption
    | (with_reducible refine (keepsTo_next _ _).2 ?_)
    | (with_reducible refine State.coreCommand_core4 _ _ _ _ ?_ fun t ht => ?_)
    | (with_reducible refine State.core4_fold_of ?_ fun t u ht => ?_)
    | ((try lift_lets -underBinder); intro x; first | ((have hx : x.core4 = k4 := by (simp only [x]; repeat' first | (simp -zeta [*]; done) | (with_reducible refine State.core4_fold_of ?_ fun t u ht => ?_) | (split <;> try (rename_i h; have h2 := State.core4_of_eq h; clear h)))); clear_value x) | clear_value x)
    | (simp -zeta [*]; done)
    | (split <;> try (rename_i h; have h2 := State.core4_of_eq h; clear h))

end Sys2Proof.Machine
end

