-- ==== Sys2Proof/Laws/KeepAudio.lean ====
section
/-!
SUPPORT. Sys2Proof/Laws/KeepAudio.lean: the operations of Machine/Audio.lean leave the queue of commands, the fuses, the DRAM and
the SRAM as they are.
-/

namespace Sys2Proof.Machine

set_option Elab.async false

@[simp] theorem State.setAport_core4 (s : State) (a : Nat) (x : AudioSt) : (State.setAport s a x).core4 = s.core4 := by rfl

@[simp] theorem State.setAbind_core4 (s : State) (i : Nat) (x : ABindSt) : (State.setAbind s i x).core4 = s.core4 := by rfl

@[simp] theorem State.clockTo_core4 (s : State) (a st : Nat) : (State.clockTo s a st).core4 = s.core4 := by
  unfold State.clockTo
  repeat' split
  all_goals simp

@[simp] theorem State.showFifo_core4 (s : State) (a : Nat) : (State.showFifo s a).core4 = s.core4 := by simp -zeta [State.showFifo]

@[simp] theorem State.audioSlip_core4 (s : State) (a n kind : Nat) : (State.audioSlip s a n kind).core4 = s.core4 := by
  unfold State.audioSlip
  repeat' split
  all_goals simp

@[simp] theorem State.stepAudio_core4 (s : State) : (State.stepAudio s).core4 = s.core4 := by
  unfold State.stepAudio
  repeat' split
  all_goals simp

@[simp] theorem State.audioCommitted_core4 (s0 s : State) : (State.audioCommitted s0 s).core4 = s.core4 := by
  unfold State.audioCommitted
  repeat' split
  all_goals simp

@[simp] theorem State.decideSlip_fresh_core4 (u : State) (n g : Nat) : (State.decideSlip.fresh u n g).1.core4 = u.core4 := by
  unfold State.decideSlip.fresh
  repeat' split
  all_goals simp

@[simp] theorem State.decideSlip_core4 (s : State) (a n : Nat) : (State.decideSlip s a n).1.core4 = s.core4 := by
  unfold State.decideSlip
  obtain ⟨c, hc⟩ : ∃ c, s.core4 = c := ⟨_, rfl⟩
  rw [hc]
  repeat' first
    | assumption
    | (with_reducible refine State.core4_fold_of ?_ fun t u ht => ?_)
    | ((try lift_lets -underBinder); intro x; first | ((have hx : x.core4 = c := by (simp only [x]; repeat' first | (simp -zeta [*]; done) | (with_reducible refine State.core4_fold_of ?_ fun t u ht => ?_) | (split <;> try (rename_i h; have h2 := State.core4_of_eq h; clear h)))); clear_value x) | clear_value x)
    | (simp -zeta [*]; done)
    | (split <;> try (rename_i h; have h2 := State.core4_of_eq h; clear h))

@[simp] theorem State.sendAudio_core4 (s : State) (i n : Nat) (payload : Bytes) (seq : Nat) : (State.sendAudio s i n payload seq).core4 = s.core4 := by
  unfold State.sendAudio
  repeat' split
  all_goals simp

@[simp] theorem State.gather_core4 (s : State) (a n : Nat) : (State.gather s a n).core4 = s.core4 := by
  unfold State.gather
  repeat' split
  all_goals simp

@[simp] theorem State.audioGap_core4 (s : State) (i : Nat) : (State.audioGap s i).core4 = s.core4 := by simp -zeta [State.audioGap]

@[simp] theorem State.packetSeen_core4 (s : State) (i ts : Nat) : (State.packetSeen s i ts).core4 = s.core4 := by rfl

@[simp] theorem State.frameTaken_core4 (i now off : Nat) (acc : State × Nat) (n : Nat) (f : SFrame) : (State.frameTaken i now off acc n f).1.core4 = acc.1.core4 := by
  unfold State.frameTaken
  dsimp only
  split
  · rfl
  · split <;> simp

@[simp] theorem State.framesTaken_core4 (s : State) (i n0 : Nat) (pay : Bytes) : (State.framesTaken s i n0 pay).1.core4 = s.core4 := by
  unfold State.framesTaken
  dsimp only
  rw [State.core4_foldl_fst]
  intro a x
  simp

@[simp] theorem State.lateCounted_core4 (s : State) (i late : Nat) : (State.lateCounted s i late).core4 = s.core4 := by simp -zeta [State.lateCounted]

@[simp] theorem State.packetKept_core4 (s : State) (i n0 : Nat) : (State.packetKept s i n0).core4 = s.core4 := by rfl

@[simp] theorem State.audioPacket_core4 (s : State) (i : Nat) (b : Bytes) : (State.audioPacket s i b).core4 = s.core4 := by
  unfold State.audioPacket
  split
  · rfl
  · simp

@[simp] theorem State.playBinding_core4 (s : State) (a i n : Nat) : (State.playBinding s a i n).1.core4 = s.core4 := by
  unfold State.playBinding
  obtain ⟨c, hc⟩ : ∃ c, s.core4 = c := ⟨_, rfl⟩
  rw [hc]
  repeat' first
    | assumption
    | (with_reducible refine State.core4_fold_of ?_ fun t u ht => ?_)
    | ((try lift_lets -underBinder); intro x; first | ((have hx : x.core4 = c := by (simp only [x]; repeat' first | (simp -zeta [*]; done) | (with_reducible refine State.core4_fold_of ?_ fun t u ht => ?_) | (split <;> try (rename_i h; have h2 := State.core4_of_eq h; clear h)))); clear_value x) | clear_value x)
    | (simp -zeta [*]; done)
    | (split <;> try (rename_i h; have h2 := State.core4_of_eq h; clear h))

@[simp] theorem State.feedFrame_core4 (s : State) (a n : Nat) : (State.feedFrame s a n).1.core4 = s.core4 := by
  unfold State.feedFrame
  repeat' split
  all_goals simp

@[simp] theorem State.capture_core4 (s : State) (a n : Nat) (f : SFrame) : (State.capture s a n f).core4 = s.core4 := by
  unfold State.capture
  repeat' split
  all_goals simp

@[simp] theorem State.zeroFrame_core4 (s : State) (a : Nat) : (State.zeroFrame s a).core4 = s.core4 := by rfl

@[simp] theorem State.fifoRead_core4 (s : State) (a n : Nat) : (State.fifoRead s a n).1.core4 = s.core4 := by
  unfold State.fifoRead
  obtain ⟨c, hc⟩ : ∃ c, s.core4 = c := ⟨_, rfl⟩
  rw [hc]
  repeat' first
    | assumption
    | (with_reducible refine State.core4_fold_of ?_ fun t u ht => ?_)
    | ((try lift_lets -underBinder); intro x; first | ((have hx : x.core4 = c := by (simp only [x]; repeat' first | (simp -zeta [*]; done) | (with_reducible refine State.core4_fold_of ?_ fun t u ht => ?_) | (split <;> try (rename_i h; have h2 := State.core4_of_eq h; clear h)))); clear_value x) | clear_value x)
    | (simp -zeta [*]; done)
    | (split <;> try (rename_i h; have h2 := State.core4_of_eq h; clear h))

@[simp] theorem State.fifoPush_core4 (s : State) (a n : Nat) (f : SFrame) : (State.fifoPush s a n f).core4 = s.core4 := by
  unfold State.fifoPush
  obtain ⟨c, hc⟩ : ∃ c, s.core4 = c := ⟨_, rfl⟩
  rw [hc]
  repeat' first
    | assumption
    | (with_reducible refine State.core4_fold_of ?_ fun t u ht => ?_)
    | ((try lift_lets -underBinder); intro x; first | ((have hx : x.core4 = c := by (simp only [x]; repeat' first | (simp -zeta [*]; done) | (with_reducible refine State.core4_fold_of ?_ fun t u ht => ?_) | (split <;> try (rename_i h; have h2 := State.core4_of_eq h; clear h)))); clear_value x) | clear_value x)
    | (simp -zeta [*]; done)
    | (split <;> try (rename_i h; have h2 := State.core4_of_eq h; clear h))

@[simp] theorem State.drive_core4 (s : State) (a n : Nat) (out : SFrame) : (State.drive s a n out).core4 = s.core4 := by simp -zeta [State.drive]

@[simp] theorem execAudioFrameInstant_keeps (port : AudioPort) (samples : List Int) (s : State) (k4 : Core4) (hk4 : s.core4 = k4) : keepsTo k4 (execAudioFrameInstant port samples s) := by
  subst hk4
  unfold execAudioFrameInstant
  refine keepsTo_clocked rfl ?_
  extract_lets -underBinder a fs n x fresh slots zero rest t compat
  clear_value fresh
  split
  · rfl
  · have ht : t.core4 = s.core4 := by simp [t]
    clear_value t rest
    split
    · split
      rename_i u f hf
      have hu : u.core4 = s.core4 := by
        rw [State.core4_of_eq hf]
        split
        · split <;> simp [ht]
        · exact ht
      clear hf
      dsimp only
      cases f <;> simp [hu]
    · split
      rename_i u f hf
      have hu : u.core4 = s.core4 := by
        rw [State.core4_of_eq hf]
        split <;> simp [ht]
      clear hf
      dsimp only
      cases f <;> (split <;> simp [hu])

@[simp] theorem State.clockBack_core4 (s : State) (a : Nat) : (State.clockBack s a).core4 = s.core4 := by
  unfold State.clockBack
  repeat' split
  all_goals simp

@[simp] theorem execAudioExtFrameSync_keeps (port : AudioPort) (samples : List Int) (s : State) (k4 : Core4) (hk4 : s.core4 = k4) : keepsTo k4 (execAudioExtFrameSync port samples s) := by
  unfold execAudioExtFrameSync
  refine keepsTo_clocked hk4 ?_
  repeat' first
    | assumption
    | (with_reducible refine (keepsTo_next _ _).2 ?_)
    | (with_reducible refine State.coreCommand_core4 _ _ _ _ ?_ fun t ht => ?_)
    | (with_reducible refine State.core4_fold_of ?_ fun t u ht => ?_)
    | ((try lift_lets -underBinder); intro x; first | ((have hx : x.core4 = k4 := by (simp only [x]; repeat' first | (simp -zeta [*]; done) | (with_reducible refine State.core4_fold_of ?_ fun t u ht => ?_) | (split <;> try (rename_i h; have h2 := State.core4_of_eq h; clear h)))); clear_value x) | clear_value x)
    | (simp -zeta [*]; done)
    | (split <;> try (rename_i h; have h2 := State.core4_of_eq h; clear h))

@[simp] theorem execAudioClockLost_keeps (port : AudioPort) (s : State) (k4 : Core4) (hk4 : s.core4 = k4) : keepsTo k4 (execAudioClockLost port s) := by
  unfold execAudioClockLost
  refine keepsTo_clocked hk4 ?_
  repeat' first
    | assumption
    | (with_reducible refine (keepsTo_next _ _).2 ?_)
    | (with_reducible refine State.coreCommand_core4 _ _ _ _ ?_ fun t ht => ?_)
    | (with_reducible refine State.core4_fold_of ?_ fun t u ht => ?_)
    | ((try lift_lets -underBinder); intro x; first | ((have hx : x.core4 = k4 := by (simp only [x]; repeat' first | (simp -zeta [*]; done) | (with_reducible refine State.core4_fold_of ?_ fun t u ht => ?_) | (split <;> try (rename_i h; have h2 := State.core4_of_eq h; clear h)))); clear_value x) | clear_value x)
    | (simp -zeta [*]; done)
    | (split <;> try (rename_i h; have h2 := State.core4_of_eq h; clear h))

@[simp] theorem State.measureBinding_core4 (s : State) (ports : List Nat) (i : Nat) : (State.measureBinding s ports i).core4 = s.core4 := by
  unfold State.measureBinding
  repeat' split
  all_goals simp

@[simp] theorem execRateMeasurement_keeps (port : AudioPort) (s : State) (k4 : Core4) (hk4 : s.core4 = k4) : keepsTo k4 (execRateMeasurement port s) := by
  unfold execRateMeasurement
  refine keepsTo_clocked hk4 ?_
  repeat' first
    | assumption
    | (with_reducible refine (keepsTo_next _ _).2 ?_)
    | (with_reducible refine State.coreCommand_core4 _ _ _ _ ?_ fun t ht => ?_)
    | (with_reducible refine State.core4_fold_of ?_ fun t u ht => ?_)
    | ((try lift_lets -underBinder); intro x; first | ((have hx : x.core4 = k4 := by (simp only [x]; repeat' first | (simp -zeta [*]; done) | (with_reducible refine State.core4_fold_of ?_ fun t u ht => ?_) | (split <;> try (rename_i h; have h2 := State.core4_of_eq h; clear h)))); clear_value x) | clear_value x)
    | (simp -zeta [*]; done)
    | (split <;> try (rename_i h; have h2 := State.core4_of_eq h; clear h))

end Sys2Proof.Machine
end

