-- ==== Sys2Proof/Laws/KeepTime.lean ====
section
/-!
SUPPORT. Sys2Proof/Laws/KeepTime.lean: the operations of Machine/Time.lean leave the queue of commands, the fuses, the DRAM and
the SRAM as they are.
-/

namespace Sys2Proof.Machine

set_option Elab.async false

@[simp] theorem State.openGate_core4 (s : State) : (State.openGate s).core4 = s.core4 := by
  unfold State.openGate
  split
  · rfl
  · simp

@[simp] theorem State.tryGate_core4 (s : State) : (State.tryGate s).core4 = s.core4 := by simp -zeta [State.tryGate]

@[simp] theorem execEncodeStartWaitExpiry_keeps (s : State) (k4 : Core4) (hk4 : s.core4 = k4) : keepsTo k4 (execEncodeStartWaitExpiry s) := by
  unfold execEncodeStartWaitExpiry
  refine keepsTo_clocked hk4 ?_
  split <;> simp [hk4]

@[simp] theorem State.setClock_core4 (s : State) (d : Nat) (v : Int) : (State.setClock s d v).core4 = s.core4 := by rfl

@[simp] theorem State.step_core4 (s : State) : (State.step s).core4 = s.core4 := by
  unfold State.step
  repeat' split
  all_goals simp

@[simp] theorem State.retarget_core4 (s : State) (first : Bool) : (State.retarget s first).core4 = s.core4 := by
  unfold State.retarget
  repeat' split
  all_goals simp

@[simp] theorem State.moveClock_core4 (s : State) (d : Nat) (v : Int) (first : Bool) : (State.moveClock s d v first).core4 = s.core4 := by
  unfold State.moveClock
  repeat' split
  all_goals simp

@[simp] theorem State.switchTo_core4 (s : State) (d : Nat) : (State.switchTo s d).core4 = s.core4 := by
  unfold State.switchTo
  split
  · rfl
  · simp

@[simp] theorem State.chooseDomain_core4 (s : State) : (State.chooseDomain s).core4 = s.core4 := by
  unfold State.chooseDomain
  repeat' split
  all_goals simp

@[simp] theorem State.setFreq_core4 (s : State) (d : Nat) (f : Int) : (State.setFreq s d f).core4 = s.core4 := by rfl

@[simp] theorem State.domTo_core4 (s : State) (d : Nat) (st : DomState) : (State.domTo s d st).core4 = s.core4 := by
  unfold State.domTo
  split
  · split <;> simp
  · simp

@[simp] theorem State.timeCommitted_core4 (s0 s : State) : (State.timeCommitted s0 s).core4 = s.core4 := by
  unfold State.timeCommitted
  repeat' split
  all_goals simp

@[simp] theorem execPtpAnnounce_keeps (dom : DomainId) (msg : Foreign) (s : State) (k4 : Core4) (hk4 : s.core4 = k4) : keepsTo k4 (execPtpAnnounce dom msg s) := by
  unfold execPtpAnnounce
  refine keepsTo_clocked hk4 ?_
  repeat' first
    | assumption
    | (with_reducible refine (keepsTo_next _ _).2 ?_)
    | (with_reducible refine State.coreCommand_core4 _ _ _ _ ?_ fun t ht => ?_)
    | (with_reducible refine State.core4_fold_of ?_ fun t u ht => ?_)
    | ((try lift_lets -underBinder); intro x; first | ((have hx : x.core4 = k4 := by (simp only [x]; repeat' first | (simp -zeta [*]; done) | (with_reducible refine State.core4_fold_of ?_ fun t u ht => ?_) | (split <;> try (rename_i h; have h2 := State.core4_of_eq h; clear h)))); clear_value x) | clear_value x)
    | (simp -zeta [*]; done)
    | (split <;> try (rename_i h; have h2 := State.core4_of_eq h; clear h))

@[simp] theorem execAnnounceReceiptTimeout_keeps (dom : DomainId) (s : State) (k4 : Core4) (hk4 : s.core4 = k4) : keepsTo k4 (execAnnounceReceiptTimeout dom s) := by
  unfold execAnnounceReceiptTimeout
  refine keepsTo_clocked hk4 ?_
  repeat' first
    | assumption
    | (with_reducible refine (keepsTo_next _ _).2 ?_)
    | (with_reducible refine State.coreCommand_core4 _ _ _ _ ?_ fun t ht => ?_)
    | (with_reducible refine State.core4_fold_of ?_ fun t u ht => ?_)
    | ((try lift_lets -underBinder); intro x; first | ((have hx : x.core4 = k4 := by (simp only [x]; repeat' first | (simp -zeta [*]; done) | (with_reducible refine State.core4_fold_of ?_ fun t u ht => ?_) | (split <;> try (rename_i h; have h2 := State.core4_of_eq h; clear h)))); clear_value x) | clear_value x)
    | (simp -zeta [*]; done)
    | (split <;> try (rename_i h; have h2 := State.core4_of_eq h; clear h))

@[simp] theorem execHoldoverLimit_keeps (dom : DomainId) (s : State) (k4 : Core4) (hk4 : s.core4 = k4) : keepsTo k4 (execHoldoverLimit dom s) := by
  unfold execHoldoverLimit
  refine keepsTo_clocked hk4 ?_
  repeat' first
    | assumption
    | (with_reducible refine (keepsTo_next _ _).2 ?_)
    | (with_reducible refine State.coreCommand_core4 _ _ _ _ ?_ fun t ht => ?_)
    | (with_reducible refine State.core4_fold_of ?_ fun t u ht => ?_)
    | ((try lift_lets -underBinder); intro x; first | ((have hx : x.core4 = k4 := by (simp only [x]; repeat' first | (simp -zeta [*]; done) | (with_reducible refine State.core4_fold_of ?_ fun t u ht => ?_) | (split <;> try (rename_i h; have h2 := State.core4_of_eq h; clear h)))); clear_value x) | clear_value x)
    | (simp -zeta [*]; done)
    | (split <;> try (rename_i h; have h2 := State.core4_of_eq h; clear h))

@[simp] theorem State.showOffset_core4 (s : State) (d : Nat) (off : Int) : (State.showOffset s d off).core4 = s.core4 := by rfl

@[simp] theorem State.servoStep_core4 (s : State) (d : Nat) (off : Int) : (State.servoStep s d off).core4 = s.core4 := by
  unfold State.servoStep
  repeat' split
  all_goals simp

@[simp] theorem State.syncDone_core4 (s : State) (d : Nat) (t2 origin correction : Int) : (State.syncDone s d t2 origin correction).core4 = s.core4 := by
  unfold State.syncDone
  repeat' split
  all_goals simp

@[simp] theorem execPtpSync_keeps (dom : DomainId) (msg : SyncMsg) (s : State) (k4 : Core4) (hk4 : s.core4 = k4) : keepsTo k4 (execPtpSync dom msg s) := by
  unfold execPtpSync
  refine keepsTo_clocked hk4 ?_
  repeat' first
    | assumption
    | (with_reducible refine (keepsTo_next _ _).2 ?_)
    | (with_reducible refine State.coreCommand_core4 _ _ _ _ ?_ fun t ht => ?_)
    | (with_reducible refine State.core4_fold_of ?_ fun t u ht => ?_)
    | ((try lift_lets -underBinder); intro x; first | ((have hx : x.core4 = k4 := by (simp only [x]; repeat' first | (simp -zeta [*]; done) | (with_reducible refine State.core4_fold_of ?_ fun t u ht => ?_) | (split <;> try (rename_i h; have h2 := State.core4_of_eq h; clear h)))); clear_value x) | clear_value x)
    | (simp -zeta [*]; done)
    | (split <;> try (rename_i h; have h2 := State.core4_of_eq h; clear h))

@[simp] theorem execDelayReqSend_keeps (dom : DomainId) (s : State) (k4 : Core4) (hk4 : s.core4 = k4) : keepsTo k4 (execDelayReqSend dom s) := by
  unfold execDelayReqSend
  refine keepsTo_clocked hk4 ?_
  repeat' first
    | assumption
    | (with_reducible refine (keepsTo_next _ _).2 ?_)
    | (with_reducible refine State.coreCommand_core4 _ _ _ _ ?_ fun t ht => ?_)
    | (with_reducible refine State.core4_fold_of ?_ fun t u ht => ?_)
    | ((try lift_lets -underBinder); intro x; first | ((have hx : x.core4 = k4 := by (simp only [x]; repeat' first | (simp -zeta [*]; done) | (with_reducible refine State.core4_fold_of ?_ fun t u ht => ?_) | (split <;> try (rename_i h; have h2 := State.core4_of_eq h; clear h)))); clear_value x) | clear_value x)
    | (simp -zeta [*]; done)
    | (split <;> try (rename_i h; have h2 := State.core4_of_eq h; clear h))

@[simp] theorem execPtpDelayResp_keeps (dom : DomainId) (msg : DelayMsg) (s : State) (k4 : Core4) (hk4 : s.core4 = k4) : keepsTo k4 (execPtpDelayResp dom msg s) := by
  unfold execPtpDelayResp
  refine keepsTo_clocked hk4 ?_
  repeat' first
    | assumption
    | (with_reducible refine (keepsTo_next _ _).2 ?_)
    | (with_reducible refine State.coreCommand_core4 _ _ _ _ ?_ fun t ht => ?_)
    | (with_reducible refine State.core4_fold_of ?_ fun t u ht => ?_)
    | ((try lift_lets -underBinder); intro x; first | ((have hx : x.core4 = k4 := by (simp only [x]; repeat' first | (simp -zeta [*]; done) | (with_reducible refine State.core4_fold_of ?_ fun t u ht => ?_) | (split <;> try (rename_i h; have h2 := State.core4_of_eq h; clear h)))); clear_value x) | clear_value x)
    | (simp -zeta [*]; done)
    | (split <;> try (rename_i h; have h2 := State.core4_of_eq h; clear h))

@[simp] theorem execRevertHoldoffExpiry_keeps (s : State) (k4 : Core4) (hk4 : s.core4 = k4) : keepsTo k4 (execRevertHoldoffExpiry s) := by
  unfold execRevertHoldoffExpiry
  refine keepsTo_clocked hk4 ?_
  repeat' first
    | assumption
    | (with_reducible refine (keepsTo_next _ _).2 ?_)
    | (with_reducible refine State.coreCommand_core4 _ _ _ _ ?_ fun t ht => ?_)
    | (with_reducible refine State.core4_fold_of ?_ fun t u ht => ?_)
    | ((try lift_lets -underBinder); intro x; first | ((have hx : x.core4 = k4 := by (simp only [x]; repeat' first | (simp -zeta [*]; done) | (with_reducible refine State.core4_fold_of ?_ fun t u ht => ?_) | (split <;> try (rename_i h; have h2 := State.core4_of_eq h; clear h)))); clear_value x) | clear_value x)
    | (simp -zeta [*]; done)
    | (split <;> try (rename_i h; have h2 := State.core4_of_eq h; clear h))

@[simp] theorem execSlewComplete_keeps (s : State) (k4 : Core4) (hk4 : s.core4 = k4) : keepsTo k4 (execSlewComplete s) := by
  unfold execSlewComplete
  refine keepsTo_clocked hk4 ?_
  split <;> simp [hk4]

@[simp] theorem execExternalRefLost_keeps (s : State) (k4 : Core4) (hk4 : s.core4 = k4) : keepsTo k4 (execExternalRefLost s) := by
  unfold execExternalRefLost
  refine keepsTo_clocked hk4 ?_
  split <;> simp [hk4]

@[simp] theorem execExternalRefReturn_keeps (s : State) (k4 : Core4) (hk4 : s.core4 = k4) : keepsTo k4 (execExternalRefReturn s) := by
  unfold execExternalRefReturn
  refine keepsTo_clocked hk4 ?_
  split <;> simp [hk4]

@[simp] theorem State.refEdge_core4 (s : State) (pps : Bool) : (State.refEdge s pps).core4 = s.core4 := by
  unfold State.refEdge
  repeat' split
  all_goals simp

@[simp] theorem execPulseEdge_keeps (n : Nat) (s : State) (k4 : Core4) (hk4 : s.core4 = k4) : keepsTo k4 (execPulseEdge n s) := by
  unfold execPulseEdge
  refine keepsTo_clocked hk4 ?_
  repeat' first
    | assumption
    | (with_reducible refine (keepsTo_next _ _).2 ?_)
    | (with_reducible refine State.coreCommand_core4 _ _ _ _ ?_ fun t ht => ?_)
    | (with_reducible refine State.core4_fold_of ?_ fun t u ht => ?_)
    | ((try lift_lets -underBinder); intro x; first | ((have hx : x.core4 = k4 := by (simp only [x]; repeat' first | (simp -zeta [*]; done) | (with_reducible refine State.core4_fold_of ?_ fun t u ht => ?_) | (split <;> try (rename_i h; have h2 := State.core4_of_eq h; clear h)))); clear_value x) | clear_value x)
    | (simp -zeta [*]; done)
    | (split <;> try (rename_i h; have h2 := State.core4_of_eq h; clear h))

@[simp] theorem execCaptureEdge_keeps (n : Nat) (rising : Bool) (s : State) (k4 : Core4) (hk4 : s.core4 = k4) : keepsTo k4 (execCaptureEdge n rising s) := by
  unfold execCaptureEdge
  refine keepsTo_clocked hk4 ?_
  repeat' first
    | assumption
    | (with_reducible refine (keepsTo_next _ _).2 ?_)
    | (with_reducible refine State.coreCommand_core4 _ _ _ _ ?_ fun t ht => ?_)
    | (with_reducible refine State.core4_fold_of ?_ fun t u ht => ?_)
    | ((try lift_lets -underBinder); intro x; first | ((have hx : x.core4 = k4 := by (simp only [x]; repeat' first | (simp -zeta [*]; done) | (with_reducible refine State.core4_fold_of ?_ fun t u ht => ?_) | (split <;> try (rename_i h; have h2 := State.core4_of_eq h; clear h)))); clear_value x) | clear_value x)
    | (simp -zeta [*]; done)
    | (split <;> try (rename_i h; have h2 := State.core4_of_eq h; clear h))

@[simp] theorem execTimeNowRead_keeps (s : State) (k4 : Core4) (hk4 : s.core4 = k4) : keepsTo k4 (execTimeNowRead s) := by
  unfold execTimeNowRead
  refine keepsTo_clocked hk4 ?_
  simp -zeta [hk4]

@[simp] theorem execCapturePop_keeps (n : Nat) (s : State) (k4 : Core4) (hk4 : s.core4 = k4) : keepsTo k4 (execCapturePop n s) := by
  unfold execCapturePop
  refine keepsTo_clocked hk4 ?_
  repeat' first
    | assumption
    | (with_reducible refine (keepsTo_next _ _).2 ?_)
    | (with_reducible refine State.coreCommand_core4 _ _ _ _ ?_ fun t ht => ?_)
    | (with_reducible refine State.core4_fold_of ?_ fun t u ht => ?_)
    | ((try lift_lets -underBinder); intro x; first | ((have hx : x.core4 = k4 := by (simp only [x]; repeat' first | (simp -zeta [*]; done) | (with_reducible refine State.core4_fold_of ?_ fun t u ht => ?_) | (split <;> try (rename_i h; have h2 := State.core4_of_eq h; clear h)))); clear_value x) | clear_value x)
    | (simp -zeta [*]; done)
    | (split <;> try (rename_i h; have h2 := State.core4_of_eq h; clear h))

end Sys2Proof.Machine
end

