-- ==== Sys2Proof/Laws/KeepShuttle.lean ====
section
/-!
SUPPORT. Sys2Proof/Laws/KeepShuttle.lean: the operations of Machine/Shuttle.lean leave the queue of commands, the fuses, the DRAM and
the SRAM as they are.
-/

namespace Sys2Proof.Machine

set_option Elab.async false

@[simp] theorem State.setThread_core4 (s : State) (t : Nat) (x : Thread) : (State.setThread s t x).core4 = s.core4 := by rfl

@[simp] theorem State.setCore_core4 (s : State) (c : Nat) (x : CoreSt) : (State.setCore s c x).core4 = s.core4 := by rfl

@[simp] theorem State.unqueue_core4 (s : State) (t : Nat) : (State.unqueue s t).core4 = s.core4 := by rfl

@[simp] theorem State.regate_core4 (s : State) (t : Nat) : (State.regate s t).core4 = s.core4 := by
  unfold State.regate
  repeat' split
  all_goals simp

@[simp] theorem State.makeReady_core4 (s : State) (t : Nat) (head : Bool) : (State.makeReady s t head).core4 = s.core4 := by
  unfold State.makeReady
  repeat' split
  all_goals simp

@[simp] theorem State.leaveCore_core4 (s : State) (c : Nat) : (State.leaveCore s c).core4 = s.core4 := by
  unfold State.leaveCore
  obtain ⟨c, hc⟩ : ∃ c, s.core4 = c := ⟨_, rfl⟩
  rw [hc]
  repeat' first
    | assumption
    | (with_reducible refine State.core4_fold_of ?_ fun t u ht => ?_)
    | ((try lift_lets -underBinder); intro x; first | ((have hx : x.core4 = c := by (simp only [x]; repeat' first | (simp -zeta [*]; done) | (with_reducible refine State.core4_fold_of ?_ fun t u ht => ?_) | (split <;> try (rename_i h; have h2 := State.core4_of_eq h; clear h)))); clear_value x) | clear_value x)
    | (simp -zeta [*]; done)
    | (split <;> try (rename_i h; have h2 := State.core4_of_eq h; clear h))

@[simp] theorem State.cancelled_core4 (s : State) (t : Nat) : (State.cancelled s t).core4 = s.core4 := by rfl

@[simp] theorem State.result_core4 (s : State) (c code t : Nat) : (State.result s c code t).core4 = s.core4 := by rfl

@[simp] theorem State.coreCommand_core4 (s : State) (c : Nat) (f : State → State) (k4 : Core4) (h : s.core4 = k4) (hf : ∀ t, t.core4 = k4 → (f t).core4 = k4) : (State.coreCommand s c f).core4 = k4 := by
  unfold State.coreCommand
  split
  · exact h
  · extract_lets -underBinder l t u
    have h1 : t.core4 = k4 := by simp [t, h]
    clear_value t
    have h2 : u.core4 = k4 := by
      simp only [u]
      split
      · split <;> simp [h1]
      · exact h1
    exact hf u h2

@[simp] theorem execCreate_keeps (core : CoreId) (level cls mask : Nat) (s : State) (k4 : Core4) (hk4 : s.core4 = k4) : keepsTo k4 (execCreate core level cls mask s) := by
  subst hk4
  unfold execCreate
  refine keepsTo_clocked rfl ?_
  dsimp only
  rw [keepsTo_next]
  refine State.coreCommand_core4 _ _ _ _ rfl fun t ht => ?_
  split <;> simp [ht]

@[simp] theorem execWake_keeps (core : CoreId) (thread : Nat) (s : State) (k4 : Core4) (hk4 : s.core4 = k4) : keepsTo k4 (execWake core thread s) := by
  unfold execWake
  refine keepsTo_clocked hk4 ?_
  repeat' split
  all_goals simp [hk4]

@[simp] theorem execBlock_keeps (core : CoreId) (s : State) (k4 : Core4) (hk4 : s.core4 = k4) : keepsTo k4 (execBlock core s) := by
  unfold execBlock
  refine keepsTo_clocked hk4 ?_
  repeat' first
    | assumption
    | (with_reducible refine (keepsTo_next _ _).2 ?_)
    | (with_reducible refine State.coreCommand_core4 _ _ _ _ ?_ fun t ht => ?_)
    | (with_reducible refine State.core4_fold_of ?_ fun t u ht => ?_)
    | ((try lift_lets -underBinder); intro x; first | ((have hx : x.core4 = k4 := by (simp only [x]; repeat' first | (simp -zeta [*]; done) | (with_reducible refine State.core4_fold_of ?_ fun t u ht => ?_) | (split <;> try (rename_i h; have h2 := State.core4_of_eq h; clear h)))); clear_value x) | clear_value x)
    | (simp -zeta [*]; done)
    | (split <;> try (rename_i h; have h2 := State.core4_of_eq h; clear h))

@[simp] theorem execYield_keeps (core : CoreId) (s : State) (k4 : Core4) (hk4 : s.core4 = k4) : keepsTo k4 (execYield core s) := by
  unfold execYield
  refine keepsTo_clocked hk4 ?_
  repeat' first
    | assumption
    | (with_reducible refine (keepsTo_next _ _).2 ?_)
    | (with_reducible refine State.coreCommand_core4 _ _ _ _ ?_ fun t ht => ?_)
    | (with_reducible refine State.core4_fold_of ?_ fun t u ht => ?_)
    | ((try lift_lets -underBinder); intro x; first | ((have hx : x.core4 = k4 := by (simp only [x]; repeat' first | (simp -zeta [*]; done) | (with_reducible refine State.core4_fold_of ?_ fun t u ht => ?_) | (split <;> try (rename_i h; have h2 := State.core4_of_eq h; clear h)))); clear_value x) | clear_value x)
    | (simp -zeta [*]; done)
    | (split <;> try (rename_i h; have h2 := State.core4_of_eq h; clear h))

@[simp] theorem execExit_keeps (core : CoreId) (s : State) (k4 : Core4) (hk4 : s.core4 = k4) : keepsTo k4 (execExit core s) := by
  unfold execExit
  refine keepsTo_clocked hk4 ?_
  repeat' first
    | assumption
    | (with_reducible refine (keepsTo_next _ _).2 ?_)
    | (with_reducible refine State.coreCommand_core4 _ _ _ _ ?_ fun t ht => ?_)
    | (with_reducible refine State.core4_fold_of ?_ fun t u ht => ?_)
    | ((try lift_lets -underBinder); intro x; first | ((have hx : x.core4 = k4 := by (simp only [x]; repeat' first | (simp -zeta [*]; done) | (with_reducible refine State.core4_fold_of ?_ fun t u ht => ?_) | (split <;> try (rename_i h; have h2 := State.core4_of_eq h; clear h)))); clear_value x) | clear_value x)
    | (simp -zeta [*]; done)
    | (split <;> try (rename_i h; have h2 := State.core4_of_eq h; clear h))

@[simp] theorem State.cancelThread_core4 (s : State) (t : Nat) : (State.cancelThread s t).core4 = s.core4 := by
  unfold State.cancelThread
  obtain ⟨c, hc⟩ : ∃ c, s.core4 = c := ⟨_, rfl⟩
  rw [hc]
  repeat' first
    | assumption
    | (with_reducible refine State.core4_fold_of ?_ fun t u ht => ?_)
    | ((try lift_lets -underBinder); intro x; first | ((have hx : x.core4 = c := by (simp only [x]; repeat' first | (simp -zeta [*]; done) | (with_reducible refine State.core4_fold_of ?_ fun t u ht => ?_) | (split <;> try (rename_i h; have h2 := State.core4_of_eq h; clear h)))); clear_value x) | clear_value x)
    | (simp -zeta [*]; done)
    | (split <;> try (rename_i h; have h2 := State.core4_of_eq h; clear h))

@[simp] theorem execCancel_keeps (core : CoreId) (thread : Nat) (s : State) (k4 : Core4) (hk4 : s.core4 = k4) : keepsTo k4 (execCancel core thread s) := by
  unfold execCancel
  refine keepsTo_clocked hk4 ?_
  repeat' split
  all_goals simp [hk4]

@[simp] theorem execSetPriority_keeps (core : CoreId) (thread level : Nat) (s : State) (k4 : Core4) (hk4 : s.core4 = k4) : keepsTo k4 (execSetPriority core thread level s) := by
  unfold execSetPriority
  refine keepsTo_clocked hk4 ?_
  repeat' split
  all_goals simp [hk4]

@[simp] theorem execSetClass_keeps (core : CoreId) (thread cls mask : Nat) (s : State) (k4 : Core4) (hk4 : s.core4 = k4) : keepsTo k4 (execSetClass core thread cls mask s) := by
  unfold execSetClass
  refine keepsTo_clocked hk4 ?_
  split <;> simp [hk4]

@[simp] theorem State.unbind_core4 (s : State) (t : Nat) : (State.unbind s t).core4 = s.core4 := by rfl

@[simp] theorem execFree_keeps (core : CoreId) (thread : Nat) (s : State) (k4 : Core4) (hk4 : s.core4 = k4) : keepsTo k4 (execFree core thread s) := by
  unfold execFree
  refine keepsTo_clocked hk4 ?_
  repeat' split
  all_goals simp [hk4]

@[simp] theorem execBind_keeps (core : CoreId) (thread source : Nat) (s : State) (k4 : Core4) (hk4 : s.core4 = k4) : keepsTo k4 (execBind core thread source s) := by
  unfold execBind
  refine keepsTo_clocked hk4 ?_
  repeat' first
    | assumption
    | (with_reducible refine (keepsTo_next _ _).2 ?_)
    | (with_reducible refine State.coreCommand_core4 _ _ _ _ ?_ fun t ht => ?_)
    | (with_reducible refine State.core4_fold_of ?_ fun t u ht => ?_)
    | ((try lift_lets -underBinder); intro x; first | ((have hx : x.core4 = k4 := by (simp only [x]; repeat' first | (simp -zeta [*]; done) | (with_reducible refine State.core4_fold_of ?_ fun t u ht => ?_) | (split <;> try (rename_i h; have h2 := State.core4_of_eq h; clear h)))); clear_value x) | clear_value x)
    | (simp -zeta [*]; done)
    | (split <;> try (rename_i h; have h2 := State.core4_of_eq h; clear h))

@[simp] theorem State.wakeReaches_core4 (s : State) (t : Nat) : (State.wakeReaches s t).core4 = s.core4 := by
  unfold State.wakeReaches
  obtain ⟨c, hc⟩ : ∃ c, s.core4 = c := ⟨_, rfl⟩
  rw [hc]
  repeat' first
    | assumption
    | (with_reducible refine State.core4_fold_of ?_ fun t u ht => ?_)
    | ((try lift_lets -underBinder); intro x; first | ((have hx : x.core4 = c := by (simp only [x]; repeat' first | (simp -zeta [*]; done) | (with_reducible refine State.core4_fold_of ?_ fun t u ht => ?_) | (split <;> try (rename_i h; have h2 := State.core4_of_eq h; clear h)))); clear_value x) | clear_value x)
    | (simp -zeta [*]; done)
    | (split <;> try (rename_i h; have h2 := State.core4_of_eq h; clear h))

@[simp] theorem execWakeIntake_keeps (s : State) (k4 : Core4) (hk4 : s.core4 = k4) : keepsTo k4 (execWakeIntake s) := by
  unfold execWakeIntake
  refine keepsTo_clocked hk4 ?_
  split <;> simp [hk4]

@[simp] theorem State.place_core4 (s : State) (c t : Nat) : (State.place s c t).core4 = s.core4 := by
  unfold State.place
  extract_lets -underBinder old s1 s2 x s3 s4
  clear_value old
  have h1 : s1.core4 = s.core4 := by
    cases old with
    | none => rfl
    | some u =>
      simp only [s1]
      split <;> simp
  have h2 : s2.core4 = s.core4 := by simp [s2, h1]
  clear_value s2
  simp [s3, s4, h2]

@[simp] theorem execDispatch_keeps (core : CoreId) (s : State) (k4 : Core4) (hk4 : s.core4 = k4) : keepsTo k4 (execDispatch core s) := by
  unfold execDispatch
  refine keepsTo_clocked hk4 ?_
  repeat' first
    | assumption
    | (with_reducible refine (keepsTo_next _ _).2 ?_)
    | (with_reducible refine State.coreCommand_core4 _ _ _ _ ?_ fun t ht => ?_)
    | (with_reducible refine State.core4_fold_of ?_ fun t u ht => ?_)
    | ((try lift_lets -underBinder); intro x; first | ((have hx : x.core4 = k4 := by (simp only [x]; repeat' first | (simp -zeta [*]; done) | (with_reducible refine State.core4_fold_of ?_ fun t u ht => ?_) | (split <;> try (rename_i h; have h2 := State.core4_of_eq h; clear h)))); clear_value x) | clear_value x)
    | (simp -zeta [*]; done)
    | (split <;> try (rename_i h; have h2 := State.core4_of_eq h; clear h))

@[simp] theorem execAffinityHoldExpiry_keeps (thread : Nat) (s : State) (k4 : Core4) (hk4 : s.core4 = k4) : keepsTo k4 (execAffinityHoldExpiry thread s) := by
  unfold execAffinityHoldExpiry
  refine keepsTo_clocked hk4 ?_
  repeat' first
    | assumption
    | (with_reducible refine (keepsTo_next _ _).2 ?_)
    | (with_reducible refine State.coreCommand_core4 _ _ _ _ ?_ fun t ht => ?_)
    | (with_reducible refine State.core4_fold_of ?_ fun t u ht => ?_)
    | ((try lift_lets -underBinder); intro x; first | ((have hx : x.core4 = k4 := by (simp only [x]; repeat' first | (simp -zeta [*]; done) | (with_reducible refine State.core4_fold_of ?_ fun t u ht => ?_) | (split <;> try (rename_i h; have h2 := State.core4_of_eq h; clear h)))); clear_value x) | clear_value x)
    | (simp -zeta [*]; done)
    | (split <;> try (rename_i h; have h2 := State.core4_of_eq h; clear h))

@[simp] theorem execCancelGraceExpiry_keeps (thread : Nat) (s : State) (k4 : Core4) (hk4 : s.core4 = k4) : keepsTo k4 (execCancelGraceExpiry thread s) := by
  unfold execCancelGraceExpiry
  refine keepsTo_clocked hk4 ?_
  repeat' first
    | assumption
    | (with_reducible refine (keepsTo_next _ _).2 ?_)
    | (with_reducible refine State.coreCommand_core4 _ _ _ _ ?_ fun t ht => ?_)
    | (with_reducible refine State.core4_fold_of ?_ fun t u ht => ?_)
    | ((try lift_lets -underBinder); intro x; first | ((have hx : x.core4 = k4 := by (simp only [x]; repeat' first | (simp -zeta [*]; done) | (with_reducible refine State.core4_fold_of ?_ fun t u ht => ?_) | (split <;> try (rename_i h; have h2 := State.core4_of_eq h; clear h)))); clear_value x) | clear_value x)
    | (simp -zeta [*]; done)
    | (split <;> try (rename_i h; have h2 := State.core4_of_eq h; clear h))

@[simp] theorem execDeferLimitExpiry_keeps (thread : Nat) (s : State) (k4 : Core4) (hk4 : s.core4 = k4) : keepsTo k4 (execDeferLimitExpiry thread s) := by
  unfold execDeferLimitExpiry
  refine keepsTo_clocked hk4 ?_
  repeat' first
    | assumption
    | (with_reducible refine (keepsTo_next _ _).2 ?_)
    | (with_reducible refine State.coreCommand_core4 _ _ _ _ ?_ fun t ht => ?_)
    | (with_reducible refine State.core4_fold_of ?_ fun t u ht => ?_)
    | ((try lift_lets -underBinder); intro x; first | ((have hx : x.core4 = k4 := by (simp only [x]; repeat' first | (simp -zeta [*]; done) | (with_reducible refine State.core4_fold_of ?_ fun t u ht => ?_) | (split <;> try (rename_i h; have h2 := State.core4_of_eq h; clear h)))); clear_value x) | clear_value x)
    | (simp -zeta [*]; done)
    | (split <;> try (rename_i h; have h2 := State.core4_of_eq h; clear h))

@[simp] theorem State.coreFrozen_core4 (s : State) (c : Nat) : (State.coreFrozen s c).core4 = s.core4 := by
  unfold State.coreFrozen
  split
  · rfl
  · simp

end Sys2Proof.Machine
end

