-- ==== Sys2Proof/Laws/KeepGovernor.lean ====
section
/-!
SUPPORT. Sys2Proof/Laws/KeepGovernor.lean: the operations of Machine/Governor.lean leave the queue of commands, the fuses, the DRAM and
the SRAM as they are.
-/

namespace Sys2Proof.Machine

set_option Elab.async false

@[simp] theorem State.toThermal_core4 (s : State) (n : Nat) : (State.toThermal s n).core4 = s.core4 := by
  unfold State.toThermal
  repeat' split
  all_goals simp

@[simp] theorem State.allFloor_core4 (s : State) : (State.allFloor s).core4 = s.core4 := by rfl

@[simp] theorem State.fastCut_core4 (s : State) : (State.fastCut s).core4 = s.core4 := by
  unfold State.fastCut
  repeat' split
  all_goals simp

@[simp] theorem State.sensor_core4 (s : State) (i : Nat) (t : Int) : (State.sensor s i t).core4 = s.core4 := by
  unfold State.sensor
  repeat' split
  all_goals simp

@[simp] theorem execGovernorSample_keeps (sensors : List Int) (rails : List Nat) (s : State) (k4 : Core4) (hk4 : s.core4 = k4) : keepsTo k4 (execGovernorSample sensors rails s) := by
  unfold execGovernorSample
  refine keepsTo_clocked hk4 ?_
  repeat' first
    | assumption
    | (with_reducible refine (keepsTo_next _ _).2 ?_)
    | (with_reducible refine State.coreCommand_core4 _ _ _ _ ?_ fun t ht => ?_)
    | (with_reducible refine State.core4_fold_of ?_ fun t u ht => ?_)
    | ((try lift_lets -underBinder); intro x; first | ((have hx : x.core4 = k4 := by (simp only [x]; repeat' first | (simp -zeta [*]; done) | (with_reducible refine State.core4_fold_of ?_ fun t u ht => ?_) | (split <;> try (rename_i h; have h2 := State.core4_of_eq h; clear h)))); clear_value x) | clear_value x)
    | (simp -zeta [*]; done)
    | (split <;> try (rename_i h; have h2 := State.core4_of_eq h; clear h))

@[simp] theorem State.setGate_core4 (s : State) (g : Nat) : (State.setGate s g).core4 = s.core4 := by
  unfold State.setGate
  split
  · rfl
  · simp

@[simp] theorem execGovernorPeriod_keeps (s : State) (k4 : Core4) (hk4 : s.core4 = k4) : keepsTo k4 (execGovernorPeriod s) := by
  unfold execGovernorPeriod
  refine keepsTo_clocked hk4 ?_
  split <;> simp [hk4]

@[simp] theorem execThermalCeilingEntry_keeps (s : State) (k4 : Core4) (hk4 : s.core4 = k4) : keepsTo k4 (execThermalCeilingEntry s) := by
  unfold execThermalCeilingEntry
  refine keepsTo_clocked hk4 ?_
  repeat' split
  all_goals simp [hk4]

end Sys2Proof.Machine
end

