-- ==== Sys2Proof/Laws/KeepTrain.lean ====
section
/-!
SUPPORT. Sys2Proof/Laws/KeepTrain.lean: the operations of Machine/Train.lean leave the queue of commands, the fuses, the DRAM and
the SRAM as they are.
-/

namespace Sys2Proof.Machine

set_option Elab.async false

@[simp] theorem State.beamBusy_core4 (s : State) : (State.beamBusy s).core4 = s.core4 := by rfl

@[simp] theorem State.showBeam_core4 (s : State) : (State.showBeam s).core4 = s.core4 := by rfl

@[simp] theorem State.dramCheck_core4 (s : State) (sheds : Bool) : (State.dramCheck s sheds).core4 = s.core4 := by
  unfold State.dramCheck
  repeat' split
  all_goals simp

@[simp] theorem State.beamFail_core4 (s : State) (channel point : Nat) : (State.beamFail s channel point).core4 = s.core4 := by
  unfold State.beamFail
  obtain ⟨c, hc⟩ : ∃ c, s.core4 = c := ⟨_, rfl⟩
  rw [hc]
  repeat' first
    | assumption
    | (with_reducible refine State.core4_fold_of ?_ fun t u ht => ?_)
    | ((try lift_lets -underBinder); intro x; first | ((have hx : x.core4 = c := by (simp only [x]; repeat' first | (simp -zeta [*]; done) | (with_reducible refine State.core4_fold_of ?_ fun t u ht => ?_) | (split <;> try (rename_i h; have h2 := State.core4_of_eq h; clear h)))); clear_value x) | clear_value x)
    | (simp -zeta [*]; done)
    | (split <;> try (rename_i h; have h2 := State.core4_of_eq h; clear h))

@[simp] theorem State.retrainEvent_core4 (s : State) (n : Nat) : (State.retrainEvent s n).core4 = s.core4 := by simp -zeta [State.retrainEvent]

@[simp] theorem State.startAttempt_core4 (s : State) (n : Nat) : (State.startAttempt s n).core4 = s.core4 := by
  unfold State.startAttempt
  repeat' split
  all_goals simp

@[simp] theorem State.leavePoint_core4 (s : State) (n : Nat) : (State.leavePoint s n).core4 = s.core4 := by
  unfold State.leavePoint
  split <;> simp -zeta

@[simp] theorem State.attemptFailed_core4 (s : State) (n : Nat) : (State.attemptFailed s n).core4 = s.core4 := by
  unfold State.attemptFailed
  repeat' split
  all_goals simp

@[simp] theorem State.returnEnded_core4 (s : State) (n : Nat) (ok : Bool) : (State.returnEnded s n ok).core4 = s.core4 := by
  unfold State.returnEnded
  split
  · rfl
  · simp

@[simp] theorem State.freezeTraining_core4 (s : State) : (State.freezeTraining s).core4 = s.core4 := by simp -zeta [State.freezeTraining]

@[simp] theorem State.thawTraining_core4 (s : State) : (State.thawTraining s).core4 = s.core4 := by simp -zeta [State.thawTraining]

@[simp] theorem execRetrainAttemptDone_keeps (ch : BeamChan) (ok : Bool) (s : State) (k4 : Core4) (hk4 : s.core4 = k4) : keepsTo k4 (execRetrainAttemptDone ch ok s) := by
  unfold execRetrainAttemptDone
  refine keepsTo_clocked hk4 ?_
  repeat' first
    | assumption
    | (with_reducible refine (keepsTo_next _ _).2 ?_)
    | (with_reducible refine State.coreCommand_core4 _ _ _ _ ?_ fun t ht => ?_)
    | (with_reducible refine State.core4_fold_of ?_ fun t u ht => ?_)
    | ((try lift_lets -underBinder); intro x; first | ((have hx : x.core4 = k4 := by (simp only [x]; repeat' first | (simp -zeta [*]; done) | (with_reducible refine State.core4_fold_of ?_ fun t u ht => ?_) | (split <;> try (rename_i h; have h2 := State.core4_of_eq h; clear h)))); clear_value x) | clear_value x)
    | (simp -zeta [*]; done)
    | (split <;> try (rename_i h; have h2 := State.core4_of_eq h; clear h))

@[simp] theorem execMarginCheck_keeps (ch : BeamChan) (margin : Int) (s : State) (k4 : Core4) (hk4 : s.core4 = k4) : keepsTo k4 (execMarginCheck ch margin s) := by
  unfold execMarginCheck
  refine keepsTo_clocked hk4 ?_
  repeat' first
    | assumption
    | (with_reducible refine (keepsTo_next _ _).2 ?_)
    | (with_reducible refine State.coreCommand_core4 _ _ _ _ ?_ fun t ht => ?_)
    | (with_reducible refine State.core4_fold_of ?_ fun t u ht => ?_)
    | ((try lift_lets -underBinder); intro x; first | ((have hx : x.core4 = k4 := by (simp only [x]; repeat' first | (simp -zeta [*]; done) | (with_reducible refine State.core4_fold_of ?_ fun t u ht => ?_) | (split <;> try (rename_i h; have h2 := State.core4_of_eq h; clear h)))); clear_value x) | clear_value x)
    | (simp -zeta [*]; done)
    | (split <;> try (rename_i h; have h2 := State.core4_of_eq h; clear h))

@[simp] theorem State.returnAsk_core4 (s : State) : (State.returnAsk s).1.core4 = s.core4 := by
  unfold State.returnAsk
  split
  · rfl
  · simp

@[simp] theorem execSetPointChange_keeps (point : Nat) (s : State) (k4 : Core4) (hk4 : s.core4 = k4) : keepsTo k4 (execSetPointChange point s) := by
  unfold execSetPointChange
  refine keepsTo_clocked hk4 ?_
  split <;> simp [hk4]

@[simp] theorem State.beamCommitted_core4 (s : State) : (State.beamCommitted s).core4 = s.core4 := by
  unfold State.beamCommitted
  repeat' split
  all_goals simp

end Sys2Proof.Machine
end

