-- ==== Sys2Proof/Laws/KeepFaults.lean ====
section
/-!
SUPPORT. Sys2Proof/Laws/KeepFaults.lean: the operations of Machine/Faults.lean leave the queue of commands, the fuses, the DRAM and
the SRAM as they are.
-/

namespace Sys2Proof.Machine

set_option Elab.async false

@[simp] theorem State.putEntry_core4 (s : State) (r : LogReq) (p : Place) : (State.putEntry s r p).core4 = s.core4 := by
  unfold State.putEntry
  split
  · split <;> simp
  · simp

@[simp] theorem State.abandonTransfer_core4 (s : State) : (State.abandonTransfer s).core4 = s.core4 := by
  unfold State.abandonTransfer
  split
  · rfl
  · simp

@[simp] theorem State.freezeEffect_core4 (s : State) (m : Nat) : (State.freezeEffect s m).core4 = s.core4 := by
  unfold State.freezeEffect
  repeat' split
  all_goals simp

@[simp] theorem State.loomInGroup_core4 (s : State) (l : Nat) : (State.loomInGroup s l).core4 = s.core4 := by simp -zeta [State.loomInGroup]

@[simp] theorem State.freezeGroup_core4 (s : State) : (State.freezeGroup s).core4 = s.core4 := by
  unfold State.freezeGroup
  repeat' split
  all_goals simp

@[simp] theorem State.entryNow_core4 (s : State) (e : Ev) (aon : Nat) : (State.entryNow s e aon).1.core4 = s.core4 := by
  unfold State.entryNow
  repeat' split
  all_goals simp

@[simp] theorem State.enterSafe_core4 (s : State) (cause : Nat) (own : Option Ev) (at_ : Option (Nat × Nat)) : (State.enterSafe s cause own at_).core4 = s.core4 := by
  unfold State.enterSafe
  split
  · rfl
  · extract_lets -underBinder x s1 aon
    have h1 : s1.core4 = s.core4 := rfl
    clear_value s1
    split
    rename_i t place h
    have ht : t.core4 = s.core4 := by
      have h2 := State.core4_of_eq h
      rw [h2]
      split <;> simp [h1]
    clear h
    extract_lets -underBinder a b y z c
    have ha : a.core4 = s.core4 := by simp [a, ht]
    clear_value a
    have hb : b.core4 = s.core4 := by simp [b, ha]
    clear_value b
    have hz : z.core4 = s.core4 := by simp [z, hb]
    clear_value z
    have hd : c.core4 = s.core4 := by simp only [c]; split <;> simp [hz]
    clear_value c
    rw [State.follow_core4]
    split
    · exact hd
    · exact hd

@[simp] theorem execSpindleUnlock_keeps (s : State) (k4 : Core4) (hk4 : s.core4 = k4) : keepsTo k4 (execSpindleUnlock s) := by
  unfold execSpindleUnlock
  split <;> simp [hk4]

@[simp] theorem execLockstepMismatch_keeps (s : State) (k4 : Core4) (hk4 : s.core4 = k4) : keepsTo k4 (execLockstepMismatch s) := by
  unfold execLockstepMismatch
  simp -zeta [hk4]

@[simp] theorem execThermalTrip_keeps (s : State) (k4 : Core4) (hk4 : s.core4 = k4) : keepsTo k4 (execThermalTrip s) := by
  unfold execThermalTrip
  repeat' split
  all_goals simp [hk4]

@[simp] theorem execHandlerFault_keeps (s : State) (k4 : Core4) (hk4 : s.core4 = k4) : keepsTo k4 (execHandlerFault s) := by
  unfold execHandlerFault
  refine keepsTo_clocked hk4 ?_
  split <;> simp [hk4]

@[simp] theorem execHandlerTimeout_keeps (s : State) (k4 : Core4) (hk4 : s.core4 = k4) : keepsTo k4 (execHandlerTimeout s) := by
  unfold execHandlerTimeout
  refine keepsTo_clocked hk4 ?_
  repeat' split
  all_goals simp [hk4]

@[simp] theorem State.freezeNow_core4 (s : State) (m : Nat) (cause : FreezeCause) (addr target : Nat) : (State.freezeNow s m cause addr target).core4 = s.core4 := by
  unfold State.freezeNow
  repeat' split
  all_goals simp

@[simp] theorem State.freeze_core4 (s : State) (m : Nat) (cause : FreezeCause) (addr target : Nat) : (State.freeze s m cause addr target).core4 = s.core4 := by
  unfold State.freeze
  repeat' split
  all_goals simp

@[simp] theorem State.noteLanes_core4 (s : State) (m lanes : Nat) : (State.noteLanes s m lanes).core4 = s.core4 := by simp -zeta [State.noteLanes]

@[simp] theorem execFreeze_keeps (master : MasterId) (cause : FreezeCause) (addr : Nat) (report : FreezeReport) (s : State) (k4 : Core4) (hk4 : s.core4 = k4) : keepsTo k4 (execFreeze master cause addr report s) := by
  unfold execFreeze
  refine keepsTo_clocked hk4 ?_
  simp -zeta [hk4]

@[simp] theorem State.startThaw_core4 (s : State) (m : Nat) : (State.startThaw s m).core4 = s.core4 := by
  unfold State.startThaw
  split
  · rfl
  · simp

@[simp] theorem execFreezeRecord_keeps (master : MasterId) (s : State) (k4 : Core4) (hk4 : s.core4 = k4) : keepsTo k4 (execFreezeRecord master s) := by
  unfold execFreezeRecord
  refine keepsTo_clocked hk4 ?_
  repeat' first
    | assumption
    | (with_reducible refine (keepsTo_next _ _).2 ?_)
    | (with_reducible refine State.coreCommand_core4 _ _ _ _ ?_ fun t ht => ?_)
    | (with_reducible refine State.core4_fold_of ?_ fun t u ht => ?_)
    | ((try lift_lets -underBinder); intro x; first | ((have hx : x.core4 = k4 := by (simp only [x]; repeat' first | (simp -zeta [*]; done) | (with_reducible refine State.core4_fold_of ?_ fun t u ht => ?_) | (split <;> try (rename_i h; have h2 := State.core4_of_eq h; clear h)))); clear_value x) | clear_value x)
    | (simp -zeta [*]; done)
    | (split <;> try (rename_i h; have h2 := State.core4_of_eq h; clear h))

@[simp] theorem State.freezeAsk_core4 (s : State) (prin : Prin) (m : Nat) : (State.freezeAsk s prin m).1.core4 = s.core4 := by simp -zeta [State.freezeAsk]

@[simp] theorem State.thawAsk_core4 (s : State) (m : Nat) : (State.thawAsk s m).1.core4 = s.core4 := by
  unfold State.thawAsk
  repeat' split
  all_goals simp

@[simp] theorem execAutoThaw_keeps (master : MasterId) (s : State) (k4 : Core4) (hk4 : s.core4 = k4) : keepsTo k4 (execAutoThaw master s) := by
  unfold execAutoThaw
  refine keepsTo_clocked hk4 ?_
  repeat' first
    | assumption
    | (with_reducible refine (keepsTo_next _ _).2 ?_)
    | (with_reducible refine State.coreCommand_core4 _ _ _ _ ?_ fun t ht => ?_)
    | (with_reducible refine State.core4_fold_of ?_ fun t u ht => ?_)
    | ((try lift_lets -underBinder); intro x; first | ((have hx : x.core4 = k4 := by (simp only [x]; repeat' first | (simp -zeta [*]; done) | (with_reducible refine State.core4_fold_of ?_ fun t u ht => ?_) | (split <;> try (rename_i h; have h2 := State.core4_of_eq h; clear h)))); clear_value x) | clear_value x)
    | (simp -zeta [*]; done)
    | (split <;> try (rename_i h; have h2 := State.core4_of_eq h; clear h))

@[simp] theorem execThawComplete_keeps (master : MasterId) (s : State) (k4 : Core4) (hk4 : s.core4 = k4) : keepsTo k4 (execThawComplete master s) := by
  unfold execThawComplete
  refine keepsTo_clocked hk4 ?_
  repeat' first
    | assumption
    | (with_reducible refine (keepsTo_next _ _).2 ?_)
    | (with_reducible refine State.coreCommand_core4 _ _ _ _ ?_ fun t ht => ?_)
    | (with_reducible refine State.core4_fold_of ?_ fun t u ht => ?_)
    | ((try lift_lets -underBinder); intro x; first | ((have hx : x.core4 = k4 := by (simp only [x]; repeat' first | (simp -zeta [*]; done) | (with_reducible refine State.core4_fold_of ?_ fun t u ht => ?_) | (split <;> try (rename_i h; have h2 := State.core4_of_eq h; clear h)))); clear_value x) | clear_value x)
    | (simp -zeta [*]; done)
    | (split <;> try (rename_i h; have h2 := State.core4_of_eq h; clear h))

@[simp] theorem execBoltWatchdogExpiry_keeps (core : CoreId) (s : State) (k4 : Core4) (hk4 : s.core4 = k4) : keepsTo k4 (execBoltWatchdogExpiry core s) := by
  unfold execBoltWatchdogExpiry
  refine keepsTo_clocked hk4 ?_
  repeat' first
    | assumption
    | (with_reducible refine (keepsTo_next _ _).2 ?_)
    | (with_reducible refine State.coreCommand_core4 _ _ _ _ ?_ fun t ht => ?_)
    | (with_reducible refine State.core4_fold_of ?_ fun t u ht => ?_)
    | ((try lift_lets -underBinder); intro x; first | ((have hx : x.core4 = k4 := by (simp only [x]; repeat' first | (simp -zeta [*]; done) | (with_reducible refine State.core4_fold_of ?_ fun t u ht => ?_) | (split <;> try (rename_i h; have h2 := State.core4_of_eq h; clear h)))); clear_value x) | clear_value x)
    | (simp -zeta [*]; done)
    | (split <;> try (rename_i h; have h2 := State.core4_of_eq h; clear h))

@[simp] theorem State.runHandler_core4 (s : State) : (State.runHandler s).core4 = s.core4 := by
  unfold State.runHandler
  split <;> simp -zeta

@[simp] theorem execLogEntryWrite_keeps (s : State) (k4 : Core4) (hk4 : s.core4 = k4) : keepsTo k4 (execLogEntryWrite s) := by
  unfold execLogEntryWrite
  refine keepsTo_clocked hk4 ?_
  repeat' first
    | assumption
    | (with_reducible refine (keepsTo_next _ _).2 ?_)
    | (with_reducible refine State.coreCommand_core4 _ _ _ _ ?_ fun t ht => ?_)
    | (with_reducible refine State.core4_fold_of ?_ fun t u ht => ?_)
    | ((try lift_lets -underBinder); intro x; first | ((have hx : x.core4 = k4 := by (simp only [x]; repeat' first | (simp -zeta [*]; done) | (with_reducible refine State.core4_fold_of ?_ fun t u ht => ?_) | (split <;> try (rename_i h; have h2 := State.core4_of_eq h; clear h)))); clear_value x) | clear_value x)
    | (simp -zeta [*]; done)
    | (split <;> try (rename_i h; have h2 := State.core4_of_eq h; clear h))

@[simp] theorem execHandlerComplete_keeps (s : State) (k4 : Core4) (hk4 : s.core4 = k4) : keepsTo k4 (execHandlerComplete s) := by
  unfold execHandlerComplete
  refine keepsTo_clocked hk4 ?_
  repeat' split
  all_goals simp [hk4]

@[simp] theorem execEventRaise_keeps (source code master unit detail severity : Nat) (s : State) (k4 : Core4) (hk4 : s.core4 = k4) : keepsTo k4 (execEventRaise source code master unit detail severity s) := by
  unfold execEventRaise
  refine keepsTo_clocked hk4 ?_
  simp -zeta [hk4]

@[simp] theorem execTrackerWindowEnd_keeps (source code master unit : Nat) (s : State) (k4 : Core4) (hk4 : s.core4 = k4) : keepsTo k4 (execTrackerWindowEnd source code master unit s) := by
  unfold execTrackerWindowEnd
  refine keepsTo_clocked hk4 ?_
  repeat' split
  all_goals simp [hk4]

@[simp] theorem execLogPendingClear_keeps (w : Nat) (bits : Word) (s : State) (k4 : Core4) (hk4 : s.core4 = k4) : keepsTo k4 (execLogPendingClear w bits s) := by
  unfold execLogPendingClear
  refine keepsTo_clocked hk4 ?_
  simp -zeta [hk4]

@[simp] theorem execLogRdptrWrite_keeps (val : Word) (s : State) (k4 : Core4) (hk4 : s.core4 = k4) : keepsTo k4 (execLogRdptrWrite val s) := by
  unfold execLogRdptrWrite
  refine keepsTo_clocked hk4 ?_
  simp -zeta [hk4]

end Sys2Proof.Machine
end

