-- ==== Sys2Proof/Laws/KeepBeam.lean ====
section
/-!
SUPPORT. Sys2Proof/Laws/KeepBeam.lean: the operations of Machine/Beam.lean leave the queue of commands, the fuses, the DRAM and
the SRAM as they are.
-/

namespace Sys2Proof.Machine

set_option Elab.async false

@[simp] theorem State.exitSelfRefresh_core4 (s : State) : (State.exitSelfRefresh s).core4 = s.core4 := by
  unfold State.exitSelfRefresh
  split
  · rfl
  · simp

@[simp] theorem State.seqTaken_core4 (s : State) : (State.seqTaken s).core4 = s.core4 := by rfl

@[simp] theorem State.readTaken_core4 (s : State) (c : Nat) (r : BeamChSt × Bool) : (State.readTaken s c r).core4 = s.core4 := by simp -zeta [State.readTaken]

@[simp] theorem State.acceptUnit_core4 (s : State) (n c : Nat) (t : Txn) (a len : Nat) : (State.acceptUnit s n c t a len).core4 = s.core4 := by
  unfold State.acceptUnit
  split
  · rfl
  · simp

@[simp] theorem State.setFlight_core4 (s : State) (n : Nat) (f : Flight) : (State.setFlight s n f).core4 = s.core4 := by rfl

@[simp] theorem State.outOfRangeEntry_core4 (s : State) (master : Nat) : (State.outOfRangeEntry s master).core4 = s.core4 := by
  unfold State.outOfRangeEntry
  repeat' split
  all_goals simp

@[simp] theorem execBeamRequest_keeps (txn : Nat) (s : State) (k4 : Core4) (hk4 : s.core4 = k4) : keepsTo k4 (execBeamRequest txn s) := by
  unfold execBeamRequest
  refine keepsTo_clocked hk4 ?_
  repeat' first
    | assumption
    | (with_reducible refine (keepsTo_next _ _).2 ?_)
    | (with_reducible refine State.coreCommand_core4 _ _ _ _ ?_ fun t ht => ?_)
    | (with_reducible refine State.core4_fold_of ?_ fun t u ht => ?_)
    | ((try lift_lets -underBinder); intro x; first | ((have hx : x.core4 = k4 := by (simp only [x]; repeat' first | (simp -zeta [*]; done) | (with_reducible refine State.core4_fold_of ?_ fun t u ht => ?_) | (split <;> try (rename_i h; have h2 := State.core4_of_eq h; clear h)))); clear_value x) | clear_value x)
    | (simp -zeta [*]; done)
    | (split <;> try (rename_i h; have h2 := State.core4_of_eq h; clear h))

@[simp] theorem State.openRow_core4 (s : State) (c a : Nat) : (State.openRow s c a).core4 = s.core4 := by
  unfold State.openRow
  repeat' split
  all_goals simp

@[simp] theorem State.issueRead_core4 (s : State) (c : Nat) (e : ReadEntry) : (State.issueRead s c e).core4 = s.core4 := by
  unfold State.issueRead
  repeat' split
  all_goals simp

@[simp] theorem State.refLatency_core4 (s : State) (c : Nat) (since : Nat) : (State.refLatency s c since).core4 = s.core4 := by
  unfold State.refLatency
  repeat' split
  all_goals simp

@[simp] theorem State.deliver_core4 (s : State) (c : Nat) (e : ReadEntry) (d : Bytes) : (State.deliver s c e d).core4 = s.core4 := by
  unfold State.deliver
  obtain ⟨c, hc⟩ : ∃ c, s.core4 = c := ⟨_, rfl⟩
  rw [hc]
  repeat' first
    | assumption
    | (with_reducible refine State.core4_fold_of ?_ fun t u ht => ?_)
    | ((try lift_lets -underBinder); intro x; first | ((have hx : x.core4 = c := by (simp only [x]; repeat' first | (simp -zeta [*]; done) | (with_reducible refine State.core4_fold_of ?_ fun t u ht => ?_) | (split <;> try (rename_i h; have h2 := State.core4_of_eq h; clear h)))); clear_value x) | clear_value x)
    | (simp -zeta [*]; done)
    | (split <;> try (rename_i h; have h2 := State.core4_of_eq h; clear h))

@[simp] theorem State.eccFailed_core4 (s : State) (c master : Nat) : (State.eccFailed s c master).core4 = s.core4 := by
  unfold State.eccFailed
  repeat' split
  all_goals simp

@[simp] theorem execBeamReadReturn_keeps (ch : BeamChan) (data : Bytes) (ecc : EccResult) (s : State) (k4 : Core4) (hk4 : s.core4 = k4) : keepsTo k4 (execBeamReadReturn ch data ecc s) := by
  subst hk4
  unfold execBeamReadReturn
  refine keepsTo_clocked rfl ?_
  extract_lets -underBinder c
  split
  · rfl
  · extract_lets -underBinder t
    have ht : t.core4 = s.core4 := by simp [t]
    clear_value t
    split
    · simp [ht]
    · split
      · simp [ht]
      · simp [ht]
      · split <;> simp [ht]

@[simp] theorem execRefreshDue_keeps (ch : BeamChan) (s : State) (k4 : Core4) (hk4 : s.core4 = k4) : keepsTo k4 (execRefreshDue ch s) := by
  unfold execRefreshDue
  refine keepsTo_clocked hk4 ?_
  repeat' first
    | assumption
    | (with_reducible refine (keepsTo_next _ _).2 ?_)
    | (with_reducible refine State.coreCommand_core4 _ _ _ _ ?_ fun t ht => ?_)
    | (with_reducible refine State.core4_fold_of ?_ fun t u ht => ?_)
    | ((try lift_lets -underBinder); intro x; first | ((have hx : x.core4 = k4 := by (simp only [x]; repeat' first | (simp -zeta [*]; done) | (with_reducible refine State.core4_fold_of ?_ fun t u ht => ?_) | (split <;> try (rename_i h; have h2 := State.core4_of_eq h; clear h)))); clear_value x) | clear_value x)
    | (simp -zeta [*]; done)
    | (split <;> try (rename_i h; have h2 := State.core4_of_eq h; clear h))

@[simp] theorem execMr4Poll_keeps (codes : List Nat) (s : State) (k4 : Core4) (hk4 : s.core4 = k4) : keepsTo k4 (execMr4Poll codes s) := by
  unfold execMr4Poll
  refine keepsTo_clocked hk4 ?_
  split <;> simp [hk4]

@[simp] theorem execPowerDownEntry_keeps (ch : BeamChan) (rank : Nat) (s : State) (k4 : Core4) (hk4 : s.core4 = k4) : keepsTo k4 (execPowerDownEntry ch rank s) := by
  unfold execPowerDownEntry
  refine keepsTo_clocked hk4 ?_
  repeat' first
    | assumption
    | (with_reducible refine (keepsTo_next _ _).2 ?_)
    | (with_reducible refine State.coreCommand_core4 _ _ _ _ ?_ fun t ht => ?_)
    | (with_reducible refine State.core4_fold_of ?_ fun t u ht => ?_)
    | ((try lift_lets -underBinder); intro x; first | ((have hx : x.core4 = k4 := by (simp only [x]; repeat' first | (simp -zeta [*]; done) | (with_reducible refine State.core4_fold_of ?_ fun t u ht => ?_) | (split <;> try (rename_i h; have h2 := State.core4_of_eq h; clear h)))); clear_value x) | clear_value x)
    | (simp -zeta [*]; done)
    | (split <;> try (rename_i h; have h2 := State.core4_of_eq h; clear h))

@[simp] theorem execSelfRefreshEntry_keeps (s : State) (k4 : Core4) (hk4 : s.core4 = k4) : keepsTo k4 (execSelfRefreshEntry s) := by
  unfold execSelfRefreshEntry
  refine keepsTo_clocked hk4 ?_
  repeat' first
    | assumption
    | (with_reducible refine (keepsTo_next _ _).2 ?_)
    | (with_reducible refine State.coreCommand_core4 _ _ _ _ ?_ fun t ht => ?_)
    | (with_reducible refine State.core4_fold_of ?_ fun t u ht => ?_)
    | ((try lift_lets -underBinder); intro x; first | ((have hx : x.core4 = k4 := by (simp only [x]; repeat' first | (simp -zeta [*]; done) | (with_reducible refine State.core4_fold_of ?_ fun t u ht => ?_) | (split <;> try (rename_i h; have h2 := State.core4_of_eq h; clear h)))); clear_value x) | clear_value x)
    | (simp -zeta [*]; done)
    | (split <;> try (rename_i h; have h2 := State.core4_of_eq h; clear h))

@[simp] theorem State.channelWindow_core4 (s : State) (c : Nat) : (State.channelWindow s c).core4 = s.core4 := by rfl

@[simp] theorem State.loadReported_core4 (s : State) : (State.loadReported s).core4 = s.core4 := by
  unfold State.loadReported
  rw [State.setN_core4]
  exact State.core4_fold_of rfl fun t c ht => by simp [ht]

@[simp] theorem State.windowAt_core4 (s : State) (n : Nat) : (State.windowAt s n).core4 = s.core4 := by rfl

@[simp] theorem execBandwidthWindow_keeps (s : State) (k4 : Core4) (hk4 : s.core4 = k4) : keepsTo k4 (execBandwidthWindow s) := by
  unfold execBandwidthWindow
  refine keepsTo_clocked hk4 ?_
  split <;> simp [hk4]

end Sys2Proof.Machine
end

