-- ==== Sys2Proof/Laws/KeepUpdate.lean ====
section
/-!
SUPPORT. Sys2Proof/Laws/KeepUpdate.lean: the operations of Machine/Update.lean leave the queue of commands, the fuses, the DRAM and
the SRAM as they are.
-/

namespace Sys2Proof.Machine

set_option Elab.async false

@[simp] theorem State.keyAsk_core4 (s : State) (slot : Nat) (key : Bytes) : (State.keyAsk s slot key).1.core4 = s.core4 := by simp -zeta [State.keyAsk]

@[simp] theorem State.setSlot_core4 (s : State) (slot : Nat) (m : AMap Bytes) : (State.setSlot s slot m).core4 = s.core4 := by rfl

@[simp] theorem State.showSlot_core4 (s : State) (slot st : Nat) : (State.showSlot s slot st).core4 = s.core4 := by rfl

@[simp] theorem State.activateAsk_core4 (s : State) : (State.activateAsk s).1.core4 = s.core4 := by
  unfold State.activateAsk
  split
  · rfl
  · simp

@[simp] theorem State.cancelActivationAsk_core4 (s : State) : (State.cancelActivationAsk s).core4 = s.core4 := by simp -zeta [State.cancelActivationAsk]

@[simp] theorem State.confirmDone_core4 (s : State) : (State.confirmDone s).core4 = s.core4 := by
  unfold State.confirmDone
  repeat' split
  all_goals simp

@[simp] theorem State.confirm_core4 (s : State) : (State.confirm s).core4 = s.core4 := by
  unfold State.confirm
  split
  · rfl
  · simp

@[simp] theorem execAutoConfirmExpiry_keeps (s : State) (k4 : Core4) (hk4 : s.core4 = k4) : keepsTo k4 (execAutoConfirmExpiry s) := by
  unfold execAutoConfirmExpiry
  refine keepsTo_clocked hk4 ?_
  repeat' first
    | assumption
    | (with_reducible refine (keepsTo_next _ _).2 ?_)
    | (with_reducible refine State.coreCommand_core4 _ _ _ _ ?_ fun t ht => ?_)
    | (with_reducible refine State.core4_fold_of ?_ fun t u ht => ?_)
    | ((try lift_lets -underBinder); intro x; first | ((have hx : x.core4 = k4 := by (simp only [x]; repeat' first | (simp -zeta [*]; done) | (with_reducible refine State.core4_fold_of ?_ fun t u ht => ?_) | (split <;> try (rename_i h; have h2 := State.core4_of_eq h; clear h)))); clear_value x) | clear_value x)
    | (simp -zeta [*]; done)
    | (split <;> try (rename_i h; have h2 := State.core4_of_eq h; clear h))

@[simp] theorem State.sendImage_core4 (s : State) (side kind reason id block : Nat) (body : Bytes) : (State.sendImage s side kind reason id block body).core4 = s.core4 := by rfl

@[simp] theorem State.offerOn_core4 (s : State) (side slot : Nat) : (State.offerOn s side slot).core4 = s.core4 := by
  unfold State.offerOn
  repeat' split
  all_goals simp

@[simp] theorem State.forwardImage_core4 (s : State) (slot arrived : Nat) : (State.forwardImage s slot arrived).core4 = s.core4 := by simp -zeta [State.forwardImage]

@[simp] theorem State.verifySlot_core4 (s : State) (slot arrived : Nat) : (State.verifySlot s slot arrived).core4 = s.core4 := by simp -zeta [State.verifySlot]

@[simp] theorem State.askBlocks_core4 (s : State) (t : Transfer) (from_ count : Nat) : (State.askBlocks s t from_ count).core4 = s.core4 := by rfl

@[simp] theorem State.answerOffer_core4 (s : State) (side : Nat) (m : ImageMsg) : (State.answerOffer s side m).core4 = s.core4 := by
  unfold State.answerOffer
  repeat' split
  all_goals simp

@[simp] theorem execOffer_keeps (side : ChainPort) (msg : Bytes) (s : State) (k4 : Core4) (hk4 : s.core4 = k4) : keepsTo k4 (execOffer side msg s) := by
  unfold execOffer
  refine keepsTo_clocked hk4 ?_
  repeat' split
  all_goals simp [hk4]

@[simp] theorem execAccept_keeps (side : ChainPort) (msg : Bytes) (s : State) (k4 : Core4) (hk4 : s.core4 = k4) : keepsTo k4 (execAccept side msg s) := by
  unfold execAccept
  refine keepsTo_clocked hk4 ?_
  repeat' first
    | assumption
    | (with_reducible refine (keepsTo_next _ _).2 ?_)
    | (with_reducible refine State.coreCommand_core4 _ _ _ _ ?_ fun t ht => ?_)
    | (with_reducible refine State.core4_fold_of ?_ fun t u ht => ?_)
    | ((try lift_lets -underBinder); intro x; first | ((have hx : x.core4 = k4 := by (simp only [x]; repeat' first | (simp -zeta [*]; done) | (with_reducible refine State.core4_fold_of ?_ fun t u ht => ?_) | (split <;> try (rename_i h; have h2 := State.core4_of_eq h; clear h)))); clear_value x) | clear_value x)
    | (simp -zeta [*]; done)
    | (split <;> try (rename_i h; have h2 := State.core4_of_eq h; clear h))

@[simp] theorem execDecline_keeps (side : ChainPort) (msg : Bytes) (s : State) (k4 : Core4) (hk4 : s.core4 = k4) : keepsTo k4 (execDecline side msg s) := by
  unfold execDecline
  refine keepsTo_clocked hk4 ?_
  repeat' first
    | assumption
    | (with_reducible refine (keepsTo_next _ _).2 ?_)
    | (with_reducible refine State.coreCommand_core4 _ _ _ _ ?_ fun t ht => ?_)
    | (with_reducible refine State.core4_fold_of ?_ fun t u ht => ?_)
    | ((try lift_lets -underBinder); intro x; first | ((have hx : x.core4 = k4 := by (simp only [x]; repeat' first | (simp -zeta [*]; done) | (with_reducible refine State.core4_fold_of ?_ fun t u ht => ?_) | (split <;> try (rename_i h; have h2 := State.core4_of_eq h; clear h)))); clear_value x) | clear_value x)
    | (simp -zeta [*]; done)
    | (split <;> try (rename_i h; have h2 := State.core4_of_eq h; clear h))

@[simp] theorem execRequest_keeps (side : ChainPort) (msg : Bytes) (s : State) (k4 : Core4) (hk4 : s.core4 = k4) : keepsTo k4 (execRequest side msg s) := by
  unfold execRequest
  refine keepsTo_clocked hk4 ?_
  repeat' first
    | assumption
    | (with_reducible refine (keepsTo_next _ _).2 ?_)
    | (with_reducible refine State.coreCommand_core4 _ _ _ _ ?_ fun t ht => ?_)
    | (with_reducible refine State.core4_fold_of ?_ fun t u ht => ?_)
    | ((try lift_lets -underBinder); intro x; first | ((have hx : x.core4 = k4 := by (simp only [x]; repeat' first | (simp -zeta [*]; done) | (with_reducible refine State.core4_fold_of ?_ fun t u ht => ?_) | (split <;> try (rename_i h; have h2 := State.core4_of_eq h; clear h)))); clear_value x) | clear_value x)
    | (simp -zeta [*]; done)
    | (split <;> try (rename_i h; have h2 := State.core4_of_eq h; clear h))

@[simp] theorem State.blockFailed_core4 (s : State) (t : Transfer) (block : Nat) : (State.blockFailed s t block).core4 = s.core4 := by
  unfold State.blockFailed
  split
  · rfl
  · simp

@[simp] theorem execBlockMessage_keeps (side : ChainPort) (msg : Bytes) (s : State) (k4 : Core4) (hk4 : s.core4 = k4) : keepsTo k4 (execBlockMessage side msg s) := by
  unfold execBlockMessage
  refine keepsTo_clocked hk4 ?_
  repeat' first
    | assumption
    | (with_reducible refine (keepsTo_next _ _).2 ?_)
    | (with_reducible refine State.coreCommand_core4 _ _ _ _ ?_ fun t ht => ?_)
    | (with_reducible refine State.core4_fold_of ?_ fun t u ht => ?_)
    | ((try lift_lets -underBinder); intro x; first | ((have hx : x.core4 = k4 := by (simp only [x]; repeat' first | (simp -zeta [*]; done) | (with_reducible refine State.core4_fold_of ?_ fun t u ht => ?_) | (split <;> try (rename_i h; have h2 := State.core4_of_eq h; clear h)))); clear_value x) | clear_value x)
    | (simp -zeta [*]; done)
    | (split <;> try (rename_i h; have h2 := State.core4_of_eq h; clear h))

@[simp] theorem execDone_keeps (side : ChainPort) (msg : Bytes) (s : State) (k4 : Core4) (hk4 : s.core4 = k4) : keepsTo k4 (execDone side msg s) := by
  unfold execDone
  refine keepsTo_clocked hk4 ?_
  repeat' first
    | assumption
    | (with_reducible refine (keepsTo_next _ _).2 ?_)
    | (with_reducible refine State.coreCommand_core4 _ _ _ _ ?_ fun t ht => ?_)
    | (with_reducible refine State.core4_fold_of ?_ fun t u ht => ?_)
    | ((try lift_lets -underBinder); intro x; first | ((have hx : x.core4 = k4 := by (simp only [x]; repeat' first | (simp -zeta [*]; done) | (with_reducible refine State.core4_fold_of ?_ fun t u ht => ?_) | (split <;> try (rename_i h; have h2 := State.core4_of_eq h; clear h)))); clear_value x) | clear_value x)
    | (simp -zeta [*]; done)
    | (split <;> try (rename_i h; have h2 := State.core4_of_eq h; clear h))

@[simp] theorem execBlockRequestTimeout_keeps (block : Nat) (s : State) (k4 : Core4) (hk4 : s.core4 = k4) : keepsTo k4 (execBlockRequestTimeout block s) := by
  unfold execBlockRequestTimeout
  refine keepsTo_clocked hk4 ?_
  repeat' split
  all_goals simp [hk4]

@[simp] theorem State.finishUpload_core4 (s : State) : (State.finishUpload s).core4 = s.core4 := by
  unfold State.finishUpload
  repeat' split
  all_goals simp

end Sys2Proof.Machine
end

