-- ==== Sys2Proof/Laws/KeepLanes.lean ====
section
/-!
SUPPORT. Sys2Proof/Laws/KeepLanes.lean: the operations of Machine/Lanes.lean leave the queue of commands, the fuses, the DRAM and
the SRAM as they are.
-/

namespace Sys2Proof.Machine

set_option Elab.async false

@[simp] theorem State.chainLinks_core4 (s : State) : (State.chainLinks s).core4 = s.core4 := by
  unfold State.chainLinks
  repeat' split
  all_goals simp

@[simp] theorem State.scanReport_core4 (s : State) (n state bits errors : Nat) : (State.scanReport s n state bits errors).core4 = s.core4 := by
  unfold State.scanReport
  repeat' split
  all_goals simp

@[simp] theorem State.scanAbort_core4 (s : State) (n : Nat) : (State.scanAbort s n).core4 = s.core4 := by
  unfold State.scanAbort
  split
  · rfl
  · simp

@[simp] theorem State.laneTo_core4 (s : State) (n : Nat) (m : LaneMode) (quiet : Bool) : (State.laneTo s n m quiet).core4 = s.core4 := by
  unfold State.laneTo
  extract_lets -underBinder x s1 l s2 s3 s4
  split
  · rfl
  · have h1 : s1.core4 = s.core4 := by
      simp only [s1]
      split <;> simp
    have h2 : s2.core4 = s.core4 := by simp [s2, h1]
    have h3 : s3.core4 = s.core4 := by
      simp only [s3]
      split <;> simp [h2]
    have h4 : s4.core4 = s.core4 := by
      simp only [s4]
      split <;> simp [h3]
    simp [h4]

@[simp] theorem State.startAlign_core4 (s : State) (n : Nat) : (State.startAlign s n).core4 = s.core4 := by
  unfold State.startAlign
  repeat' split
  all_goals simp

@[simp] theorem execLaneCdrLock_keeps (lane : LaneId) (s : State) (k4 : Core4) (hk4 : s.core4 = k4) : keepsTo k4 (execLaneCdrLock lane s) := by
  unfold execLaneCdrLock
  refine keepsTo_clocked hk4 ?_
  repeat' first
    | assumption
    | (with_reducible refine (keepsTo_next _ _).2 ?_)
    | (with_reducible refine State.coreCommand_core4 _ _ _ _ ?_ fun t ht => ?_)
    | (with_reducible refine State.core4_fold_of ?_ fun t u ht => ?_)
    | ((try lift_lets -underBinder); intro x; first | ((have hx : x.core4 = k4 := by (simp only [x]; repeat' first | (simp -zeta [*]; done) | (with_reducible refine State.core4_fold_of ?_ fun t u ht => ?_) | (split <;> try (rename_i h; have h2 := State.core4_of_eq h; clear h)))); clear_value x) | clear_value x)
    | (simp -zeta [*]; done)
    | (split <;> try (rename_i h; have h2 := State.core4_of_eq h; clear h))

@[simp] theorem State.alignWeft_core4 (s : State) : (State.alignWeft s).core4 = s.core4 := by simp -zeta [State.alignWeft]

@[simp] theorem State.showRate_core4 (s : State) (n : Nat) : (State.showRate s n).core4 = s.core4 := by rfl

@[simp] theorem State.enterSoak_core4 (s : State) (n : Nat) (quiet : Bool) : (State.enterSoak s n quiet).core4 = s.core4 := by
  unfold State.enterSoak
  repeat' split
  all_goals simp

@[simp] theorem execLaneAlignmentDone_keeps (lane : LaneId) (slips : Nat) (s : State) (k4 : Core4) (hk4 : s.core4 = k4) : keepsTo k4 (execLaneAlignmentDone lane slips s) := by
  unfold execLaneAlignmentDone
  refine keepsTo_clocked hk4 ?_
  repeat' first
    | assumption
    | (with_reducible refine (keepsTo_next _ _).2 ?_)
    | (with_reducible refine State.coreCommand_core4 _ _ _ _ ?_ fun t ht => ?_)
    | (with_reducible refine State.core4_fold_of ?_ fun t u ht => ?_)
    | ((try lift_lets -underBinder); intro x; first | ((have hx : x.core4 = k4 := by (simp only [x]; repeat' first | (simp -zeta [*]; done) | (with_reducible refine State.core4_fold_of ?_ fun t u ht => ?_) | (split <;> try (rename_i h; have h2 := State.core4_of_eq h; clear h)))); clear_value x) | clear_value x)
    | (simp -zeta [*]; done)
    | (split <;> try (rename_i h; have h2 := State.core4_of_eq h; clear h))

@[simp] theorem execLaneAlignRetry_keeps (lane : LaneId) (s : State) (k4 : Core4) (hk4 : s.core4 = k4) : keepsTo k4 (execLaneAlignRetry lane s) := by
  unfold execLaneAlignRetry
  refine keepsTo_clocked hk4 ?_
  repeat' first
    | assumption
    | (with_reducible refine (keepsTo_next _ _).2 ?_)
    | (with_reducible refine State.coreCommand_core4 _ _ _ _ ?_ fun t ht => ?_)
    | (with_reducible refine State.core4_fold_of ?_ fun t u ht => ?_)
    | ((try lift_lets -underBinder); intro x; first | ((have hx : x.core4 = k4 := by (simp only [x]; repeat' first | (simp -zeta [*]; done) | (with_reducible refine State.core4_fold_of ?_ fun t u ht => ?_) | (split <;> try (rename_i h; have h2 := State.core4_of_eq h; clear h)))); clear_value x) | clear_value x)
    | (simp -zeta [*]; done)
    | (split <;> try (rename_i h; have h2 := State.core4_of_eq h; clear h))

@[simp] theorem execCdrLockLoss_keeps (lane : LaneId) (s : State) (k4 : Core4) (hk4 : s.core4 = k4) : keepsTo k4 (execCdrLockLoss lane s) := by
  subst hk4
  unfold execCdrLockLoss
  refine keepsTo_clocked rfl ?_
  extract_lets -underBinder n x l t u
  have ht : t.core4 = s.core4 := by simp [t]
  clear_value t
  split
  · rfl
  · refine State.core4_fold_of ?_ fun v c hv => ?_
    · simp only [u]
      split <;> simp [ht]
    · split <;> simp [hv]

@[simp] theorem execWeftBlockReceived_keeps (lane : LaneId) (wire : WireBlock) (s : State) (k4 : Core4) (hk4 : s.core4 = k4) : keepsTo k4 (execWeftBlockReceived lane wire s) := by
  unfold execWeftBlockReceived
  refine keepsTo_clocked hk4 ?_
  repeat' first
    | assumption
    | (with_reducible refine (keepsTo_next _ _).2 ?_)
    | (with_reducible refine State.coreCommand_core4 _ _ _ _ ?_ fun t ht => ?_)
    | (with_reducible refine State.core4_fold_of ?_ fun t u ht => ?_)
    | (simp -zeta [*]; done)
    | (split <;> try (rename_i h; have h2 := State.core4_of_eq h; clear h))
    | ((try lift_lets -underBinder); intro x; first | ((have hx : x.core4 = k4 := by (simp only [x]; repeat' first | (simp -zeta [*]; done) | (with_reducible refine State.core4_fold_of ?_ fun t u ht => ?_) | (split <;> try (rename_i h; have h2 := State.core4_of_eq h; clear h)))); clear_value x) | clear_value x)

@[simp] theorem execSoakIdleExpiry_keeps (lane : LaneId) (s : State) (k4 : Core4) (hk4 : s.core4 = k4) : keepsTo k4 (execSoakIdleExpiry lane s) := by
  unfold execSoakIdleExpiry
  refine keepsTo_clocked hk4 ?_
  repeat' first
    | assumption
    | (with_reducible refine (keepsTo_next _ _).2 ?_)
    | (with_reducible refine State.coreCommand_core4 _ _ _ _ ?_ fun t ht => ?_)
    | (with_reducible refine State.core4_fold_of ?_ fun t u ht => ?_)
    | ((try lift_lets -underBinder); intro x; first | ((have hx : x.core4 = k4 := by (simp only [x]; repeat' first | (simp -zeta [*]; done) | (with_reducible refine State.core4_fold_of ?_ fun t u ht => ?_) | (split <;> try (rename_i h; have h2 := State.core4_of_eq h; clear h)))); clear_value x) | clear_value x)
    | (simp -zeta [*]; done)
    | (split <;> try (rename_i h; have h2 := State.core4_of_eq h; clear h))

@[simp] theorem State.leaveSoak_core4 (s : State) (n : Nat) : (State.leaveSoak s n).core4 = s.core4 := by simp -zeta [State.leaveSoak]

@[simp] theorem execSoakExit_keeps (lane : LaneId) (s : State) (k4 : Core4) (hk4 : s.core4 = k4) : keepsTo k4 (execSoakExit lane s) := by
  unfold execSoakExit
  refine keepsTo_clocked hk4 ?_
  repeat' first
    | assumption
    | (with_reducible refine (keepsTo_next _ _).2 ?_)
    | (with_reducible refine State.coreCommand_core4 _ _ _ _ ?_ fun t ht => ?_)
    | (with_reducible refine State.core4_fold_of ?_ fun t u ht => ?_)
    | ((try lift_lets -underBinder); intro x; first | ((have hx : x.core4 = k4 := by (simp only [x]; repeat' first | (simp -zeta [*]; done) | (with_reducible refine State.core4_fold_of ?_ fun t u ht => ?_) | (split <;> try (rename_i h; have h2 := State.core4_of_eq h; clear h)))); clear_value x) | clear_value x)
    | (simp -zeta [*]; done)
    | (split <;> try (rename_i h; have h2 := State.core4_of_eq h; clear h))

@[simp] theorem execSoakBurst_keeps (lane : LaneId) (s : State) (k4 : Core4) (hk4 : s.core4 = k4) : keepsTo k4 (execSoakBurst lane s) := by
  unfold execSoakBurst
  refine keepsTo_clocked hk4 ?_
  repeat' first
    | assumption
    | (with_reducible refine (keepsTo_next _ _).2 ?_)
    | (with_reducible refine State.coreCommand_core4 _ _ _ _ ?_ fun t ht => ?_)
    | (with_reducible refine State.core4_fold_of ?_ fun t u ht => ?_)
    | ((try lift_lets -underBinder); intro x; first | ((have hx : x.core4 = k4 := by (simp only [x]; repeat' first | (simp -zeta [*]; done) | (with_reducible refine State.core4_fold_of ?_ fun t u ht => ?_) | (split <;> try (rename_i h; have h2 := State.core4_of_eq h; clear h)))); clear_value x) | clear_value x)
    | (simp -zeta [*]; done)
    | (split <;> try (rename_i h; have h2 := State.core4_of_eq h; clear h))

@[simp] theorem execWeftRxSilenceTimeout_keeps (lane : LaneId) (s : State) (k4 : Core4) (hk4 : s.core4 = k4) : keepsTo k4 (execWeftRxSilenceTimeout lane s) := by
  unfold execWeftRxSilenceTimeout
  refine keepsTo_clocked hk4 ?_
  repeat' first
    | assumption
    | (with_reducible refine (keepsTo_next _ _).2 ?_)
    | (with_reducible refine State.coreCommand_core4 _ _ _ _ ?_ fun t ht => ?_)
    | (with_reducible refine State.core4_fold_of ?_ fun t u ht => ?_)
    | ((try lift_lets -underBinder); intro x; first | ((have hx : x.core4 = k4 := by (simp only [x]; repeat' first | (simp -zeta [*]; done) | (with_reducible refine State.core4_fold_of ?_ fun t u ht => ?_) | (split <;> try (rename_i h; have h2 := State.core4_of_eq h; clear h)))); clear_value x) | clear_value x)
    | (simp -zeta [*]; done)
    | (split <;> try (rename_i h; have h2 := State.core4_of_eq h; clear h))

@[simp] theorem State.scanAsk_core4 (s : State) (n : Nat) : (State.scanAsk s n).1.core4 = s.core4 := by
  unfold State.scanAsk
  repeat' split
  all_goals simp

@[simp] theorem execScanDwellEnd_keeps (lane : LaneId) (errors : Nat) (s : State) (k4 : Core4) (hk4 : s.core4 = k4) : keepsTo k4 (execScanDwellEnd lane errors s) := by
  unfold execScanDwellEnd
  refine keepsTo_clocked hk4 ?_
  repeat' first
    | assumption
    | (with_reducible refine (keepsTo_next _ _).2 ?_)
    | (with_reducible refine State.coreCommand_core4 _ _ _ _ ?_ fun t ht => ?_)
    | (with_reducible refine State.core4_fold_of ?_ fun t u ht => ?_)
    | ((try lift_lets -underBinder); intro x; first | ((have hx : x.core4 = k4 := by (simp only [x]; repeat' first | (simp -zeta [*]; done) | (with_reducible refine State.core4_fold_of ?_ fun t u ht => ?_) | (split <;> try (rename_i h; have h2 := State.core4_of_eq h; clear h)))); clear_value x) | clear_value x)
    | (simp -zeta [*]; done)
    | (split <;> try (rename_i h; have h2 := State.core4_of_eq h; clear h))

@[simp] theorem State.laneCommitted_core4 (s0 s : State) (n : Nat) : (State.laneCommitted s0 s n).core4 = s.core4 := by
  unfold State.laneCommitted
  repeat' split
  all_goals simp

@[simp] theorem State.lanesCommitted_core4 (s0 s : State) : (State.lanesCommitted s0 s).core4 = s.core4 := by
  unfold State.lanesCommitted
  rw [State.chainLinks_core4]
  exact State.core4_fold_of rfl fun t n ht => by simp [ht]

end Sys2Proof.Machine
end

