-- ==== Sys2Proof/Laws/KeepFirewall.lean ====
section
/-!
SUPPORT. Sys2Proof/Laws/KeepFirewall.lean: the operations of Machine/Firewall.lean leave the queue of commands, the fuses, the DRAM and
the SRAM as they are.
-/

namespace Sys2Proof.Machine

set_option Elab.async false

@[simp] theorem State.openWindows_core4 (s : State) (req : List (Nat × Window)) : (State.openWindows s req).core4 = s.core4 := by
  unfold State.openWindows
  obtain ⟨c, hc⟩ : ∃ c, s.core4 = c := ⟨_, rfl⟩
  rw [hc]
  repeat' first
    | assumption
    | (with_reducible refine State.core4_fold_of ?_ fun t u ht => ?_)
    | ((try lift_lets -underBinder); intro x; first | ((have hx : x.core4 = c := by (simp only [x]; repeat' first | (simp -zeta [*]; done) | (with_reducible refine State.core4_fold_of ?_ fun t u ht => ?_) | (split <;> try (rename_i h; have h2 := State.core4_of_eq h; clear h)))); clear_value x) | clear_value x)
    | (simp -zeta [*]; done)
    | (split <;> try (rename_i h; have h2 := State.core4_of_eq h; clear h))

@[simp] theorem State.closeWindows_core4 (s : State) (m : Nat) : (State.closeWindows s m).core4 = s.core4 := by
  unfold State.closeWindows
  repeat' split
  all_goals simp

end Sys2Proof.Machine
end

