-- ==== Sys2Proof/Laws/KeepAccept.lean ====
section
/-!
SUPPORT. Sys2Proof/Laws/KeepAccept.lean: the operations of Machine/Accept.lean leave the queue of commands, the fuses, the DRAM and
the SRAM as they are.
-/

namespace Sys2Proof.Machine

set_option Elab.async false

@[simp] theorem State.makePending_core4 (s : State) (o v : View) (d : Decision) : (State.makePending s o v d).core4 = s.core4 := by
  unfold State.makePending
  obtain ⟨c, hc⟩ : ∃ c, s.core4 = c := ⟨_, rfl⟩
  rw [hc]
  repeat' first
    | assumption
    | (with_reducible refine State.core4_fold_of ?_ fun t u ht => ?_)
    | ((try lift_lets -underBinder); intro x; first | ((have hx : x.core4 = c := by (simp only [x]; repeat' first | (simp -zeta [*]; done) | (with_reducible refine State.core4_fold_of ?_ fun t u ht => ?_) | (split <;> try (rename_i h; have h2 := State.core4_of_eq h; clear h)))); clear_value x) | clear_value x)
    | (simp -zeta [*]; done)
    | (split <;> try (rename_i h; have h2 := State.core4_of_eq h; clear h))

@[simp] theorem State.listsAtOnce_core4 (s : State) : (State.listsAtOnce s).core4 = s.core4 := by
  unfold State.listsAtOnce
  repeat' split
  all_goals simp

@[simp] theorem State.placeLuts_core4 (s : State) : (State.placeLuts s).core4 = s.core4 := by
  unfold State.placeLuts
  repeat' split
  all_goals simp

@[simp] theorem State.adoptPlan_core4 (s : State) (v : View) (plan : Plan) : (State.adoptPlan s v plan).core4 = s.core4 := by
  unfold State.adoptPlan
  obtain ⟨c, hc⟩ : ∃ c, s.core4 = c := ⟨_, rfl⟩
  rw [hc]
  repeat' first
    | assumption
    | (with_reducible refine State.core4_fold_of ?_ fun t u ht => ?_)
    | ((try lift_lets -underBinder); intro x; first | ((have hx : x.core4 = c := by (simp only [x]; repeat' first | (simp -zeta [*]; done) | (with_reducible refine State.core4_fold_of ?_ fun t u ht => ?_) | (split <;> try (rename_i h; have h2 := State.core4_of_eq h; clear h)))); clear_value x) | clear_value x)
    | (simp -zeta [*]; done)
    | (split <;> try (rename_i h; have h2 := State.core4_of_eq h; clear h))

@[simp] theorem State.prepareHolds_core4 (s : State) (v : View) : (State.prepareHolds s v).core4 = s.core4 := by simp -zeta [State.prepareHolds]

@[simp] theorem State.noteCosts_core4 (s : State) (o v : View) : (State.noteCosts s o v).core4 = s.core4 := by rfl

@[simp] theorem State.fillBuckets_core4 (s : State) (o v : View) (items : AMap Val) : (State.fillBuckets s o v items).core4 = s.core4 := by rfl

@[simp] theorem State.noteCommitted_core4 (s : State) : (State.noteCommitted s).core4 = s.core4 := by rfl

@[simp] theorem State.setStat_core4 (s : State) (p : Prin) (x : CommitStat) : (State.setStat s p x).core4 = s.core4 := by
  unfold State.setStat
  split <;> simp -zeta

@[simp] theorem State.replyOne_core4 (s : State) (c : Commit) (status : Nat) : (State.replyOne s c status).core4 = s.core4 := by
  unfold State.replyOne
  split <;> simp -zeta

@[simp] theorem State.reportCommit_core4 (s : State) (c : Commit) (state status : Nat) (r : Option Refused) : (State.reportCommit s c state status r).core4 = s.core4 := by
  unfold State.reportCommit
  repeat' split
  all_goals simp

@[simp] theorem State.inForce_core4 (s0 s : State) : (State.inForce s0 s).core4 = s.core4 := by
  unfold State.inForce
  repeat' split
  all_goals simp

@[simp] theorem State.acceptCommit_core4 (s : State) (c : Commit) (d : Decision) (windows : List (Nat × Window)) : (State.acceptCommit s c d windows).core4 = s.core4 := by
  unfold State.acceptCommit
  repeat' split
  all_goals simp

@[simp] theorem State.setStage_core4 (s : State) (p : Prin) (x : StageSet) : (State.setStage s p x).core4 = s.core4 := by
  unfold State.setStage
  split <;> simp -zeta

@[simp] theorem State.refuseCommit_core4 (s : State) (c : Commit) (r : Refused) : (State.refuseCommit s c r).core4 = s.core4 := by
  unfold State.refuseCommit
  repeat' split
  all_goals simp

@[simp] theorem State.nextCommit_core4 (s : State) : (State.nextCommit s).core4 = s.core4 := by
  unfold State.nextCommit
  repeat' split
  all_goals simp

@[simp] theorem State.conclude_core4 (s : State) (c : Commit) (x : Except Refused Decision) (windows : List (Nat × Window)) : (State.conclude s c x windows).core4 = s.core4 := by
  unfold State.conclude
  repeat' split
  all_goals simp

@[simp] theorem execCommitValidationDone_keeps (windows : List (Nat × Window)) (s : State) (k4 : Core4) (hk4 : s.core4 = k4) : keepsTo k4 (execCommitValidationDone windows s) := by
  unfold execCommitValidationDone
  refine keepsTo_clocked hk4 ?_
  repeat' split
  all_goals simp [hk4]

end Sys2Proof.Machine
end

