-- ==== Sys2Proof/Laws/KeepDraft.lean ====
section
/-!
SUPPORT. Sys2Proof/Laws/KeepDraft.lean: the operations of Machine/Draft.lean leave the queue of commands, the fuses, the DRAM and
the SRAM as they are.
-/

namespace Sys2Proof.Machine

set_option Elab.async false

@[simp] theorem State.readItem_core4 (s : State) (p : Prin) (idx sub : Nat) : (State.readItem s p idx sub).1.core4 = s.core4 := by
  unfold State.readItem
  split
  · rfl
  · simp

@[simp] theorem State.stageWrite_core4 (s : State) (p : Prin) (k : Nat) (v : Val) : (State.stageWrite s p k v).1.core4 = s.core4 := by
  unfold State.stageWrite
  repeat' split
  all_goals simp

@[simp] theorem State.dropStage_core4 (s : State) (p : Prin) : (State.dropStage s p).core4 = s.core4 := by
  unfold State.dropStage
  repeat' split
  all_goals simp

@[simp] theorem State.touch_core4 (s : State) (p : Prin) : (State.touch s p).core4 = s.core4 := by simp -zeta [State.touch]

@[simp] theorem State.enqueue_core4 (s : State) (p : Prin) (tag : Nat) (kind : CommitKind) (items : AMap Val) : (State.enqueue s p tag kind items).core4 = s.core4 := by
  unfold State.enqueue
  repeat' split
  all_goals simp

@[simp] theorem State.commitAsk_core4 (s : State) (p : Prin) (tag : Nat) : (State.commitAsk s p tag).1.core4 = s.core4 := by
  unfold State.commitAsk
  repeat' split
  all_goals simp

@[simp] theorem State.discardAsk_core4 (s : State) (p : Prin) : (State.discardAsk s p).core4 = s.core4 := by simp -zeta [State.discardAsk]

@[simp] theorem State.loadAsk_core4 (s : State) (p : Prin) (slot : Nat) : (State.loadAsk s p slot).1.core4 = s.core4 := by
  unfold State.loadAsk
  obtain ⟨c, hc⟩ : ∃ c, s.core4 = c := ⟨_, rfl⟩
  rw [hc]
  repeat' first
    | assumption
    | (with_reducible refine State.core4_fold_of ?_ fun t u ht => ?_)
    | ((try lift_lets -underBinder); intro x; first | ((have hx : x.core4 = c := by (simp only [x]; repeat' first | (simp -zeta [*]; done) | (with_reducible refine State.core4_fold_of ?_ fun t u ht => ?_) | (split <;> try (rename_i h; have h2 := State.core4_of_eq h; clear h)))); clear_value x) | clear_value x)
    | (simp -zeta [*]; done)
    | (split <;> try (rename_i h; have h2 := State.core4_of_eq h; clear h))

@[simp] theorem State.resetAsk_core4 (s : State) : (State.resetAsk s).1.core4 = s.core4 := by simp -zeta [State.resetAsk]

@[simp] theorem State.snapAsk_core4 (s : State) : (State.snapAsk s).1.core4 = s.core4 := by simp -zeta [State.snapAsk]

@[simp] theorem State.setBoth_core4 (s : State) (k : Nat) (v : Val) : (State.setBoth s k v).core4 = s.core4 := by rfl

@[simp] theorem State.moveActivation_core4 (s : State) (k : Nat) (v : Val) : (State.moveActivation s k v).core4 = s.core4 := by
  unfold State.moveActivation
  split
  · rfl
  · simp

@[simp] theorem onOne_core4 (s : State) (v : Val) (f : State × Nat) (c : Core4) (h : f.1.core4 = c) (hs : s.core4 = c) : (onOne s v f).1.core4 = c := by
  unfold onOne
  split
  · exact h
  · exact hs

@[simp] theorem State.command_core4 (s : State) (p : Prin) (k : Nat) (v : Val) : (State.command s p k v).1.core4 = s.core4 := by
  unfold State.command
  dsimp only
  repeat' split
  all_goals first
    | rfl
    | (simp; done)
    | exact onOne_core4 _ _ _ _ (by simp) rfl
    | exact onOne_core4 _ _ _ _ rfl rfl

@[simp] theorem State.commitOne_core4 (s : State) (k : Nat) (v : Val) : (State.commitOne s k v).1.core4 = s.core4 := by simp -zeta [State.commitOne]

@[simp] theorem State.storeWrite_core4 (s : State) (p : Prin) (d : ObjDef) (idx sub : Nat) (v : Val) : (State.storeWrite s p d idx sub v).1.core4 = s.core4 := by simp -zeta [State.storeWrite]

@[simp] theorem State.writeItem_core4 (s : State) (p : Prin) (idx sub ty : Nat) (data : Bytes) : (State.writeItem s p idx sub ty data).1.core4 = s.core4 := by
  unfold State.writeItem
  repeat' split
  all_goals simp

@[simp] theorem State.setPartial_core4 (s : State) (p : Prin) (k : Nat) (b : Option Bytes) : (State.setPartial s p k b).core4 = s.core4 := by rfl

@[simp] theorem State.segmentItem_core4 (s : State) (p : Prin) (idx sub : Nat) (final : Bool) (offset : Nat) (data : Bytes) : (State.segmentItem s p idx sub final offset data).1.core4 = s.core4 := by
  unfold State.segmentItem
  obtain ⟨c, hc⟩ : ∃ c, s.core4 = c := ⟨_, rfl⟩
  rw [hc]
  repeat' first
    | assumption
    | (with_reducible refine State.core4_fold_of ?_ fun t u ht => ?_)
    | ((try lift_lets -underBinder); intro x; first | ((have hx : x.core4 = c := by (simp only [x]; repeat' first | (simp -zeta [*]; done) | (with_reducible refine State.core4_fold_of ?_ fun t u ht => ?_) | (split <;> try (rename_i h; have h2 := State.core4_of_eq h; clear h)))); clear_value x) | clear_value x)
    | (simp -zeta [*]; done)
    | (split <;> try (rename_i h; have h2 := State.core4_of_eq h; clear h))

@[simp] theorem State.objectWrite_core4 (s : State) (p : Prin) (k : Nat) (v : Val) : (State.objectWrite s p k v).1.core4 = s.core4 := by
  unfold State.objectWrite
  split <;> simp -zeta

@[simp] theorem State.direct_core4 (s : State) (p : Prin) (k : Nat) (v : Val) : (State.direct s p k v).core4 = s.core4 := by simp -zeta [State.direct]

@[simp] theorem execDiscard_keeps (prin : Prin) (s : State) (k4 : Core4) (hk4 : s.core4 = k4) : keepsTo k4 (execDiscard prin s) := by
  unfold execDiscard
  refine keepsTo_clocked hk4 ?_
  split <;> simp [hk4]

@[simp] theorem execSelvedgeObjectCommit_keeps (key : Nat) (val : Val) (s : State) (k4 : Core4) (hk4 : s.core4 = k4) : keepsTo k4 (execSelvedgeObjectCommit key val s) := by
  unfold execSelvedgeObjectCommit
  refine keepsTo_clocked hk4 ?_
  repeat' split
  all_goals simp [hk4]

@[simp] theorem execStagingSetTimeout_keeps (prin : Prin) (s : State) (k4 : Core4) (hk4 : s.core4 = k4) : keepsTo k4 (execStagingSetTimeout prin s) := by
  unfold execStagingSetTimeout
  refine keepsTo_clocked hk4 ?_
  split <;> simp [hk4]

@[simp] theorem execPatternSave_keeps (s : State) (k4 : Core4) (hk4 : s.core4 = k4) : keepsTo k4 (execPatternSave s) := by
  unfold execPatternSave
  refine keepsTo_clocked hk4 ?_
  split <;> simp [hk4]

@[simp] theorem execPatternLoadSlot_keeps (prin : Prin) (slot : Nat) (s : State) (k4 : Core4) (hk4 : s.core4 = k4) : keepsTo k4 (execPatternLoadSlot prin slot s) := by
  unfold execPatternLoadSlot
  refine keepsTo_clocked hk4 ?_
  split <;> simp [hk4]

@[simp] theorem execDeviceReset_keeps (prin : Prin) (s : State) (k4 : Core4) (hk4 : s.core4 = k4) : keepsTo k4 (execDeviceReset prin s) := by
  unfold execDeviceReset
  refine keepsTo_clocked hk4 ?_
  simp -zeta [hk4]

@[simp] theorem execSnapshotRequest_keeps (prin : Prin) (s : State) (k4 : Core4) (hk4 : s.core4 = k4) : keepsTo k4 (execSnapshotRequest prin s) := by
  unfold execSnapshotRequest
  refine keepsTo_clocked hk4 ?_
  split <;> simp [hk4]

@[simp] theorem execDarnRequest_keeps (route : DarnRoute) (chan : Chan) (s : State) (k4 : Core4) (hk4 : s.core4 = k4) : keepsTo k4 (execDarnRequest route chan s) := by
  unfold execDarnRequest
  refine keepsTo_clocked hk4 ?_
  split <;> simp [hk4]

@[simp] theorem execQualifyMask_keeps (prin : Prin) (mask : Nat) (s : State) (k4 : Core4) (hk4 : s.core4 = k4) : keepsTo k4 (execQualifyMask prin mask s) := by
  unfold execQualifyMask
  refine keepsTo_clocked hk4 ?_
  simp -zeta [hk4]

@[simp] theorem execReturnToSetPoint_keeps (s : State) (k4 : Core4) (hk4 : s.core4 = k4) : keepsTo k4 (execReturnToSetPoint s) := by
  unfold execReturnToSetPoint
  refine keepsTo_clocked hk4 ?_
  simp -zeta [hk4]

@[simp] theorem execFreezeMaster_keeps (prin : Prin) (master : Nat) (s : State) (k4 : Core4) (hk4 : s.core4 = k4) : keepsTo k4 (execFreezeMaster prin master s) := by
  unfold execFreezeMaster
  refine keepsTo_clocked hk4 ?_
  simp -zeta [hk4]

@[simp] theorem execThawMaster_keeps (prin : Prin) (master : Nat) (s : State) (k4 : Core4) (hk4 : s.core4 = k4) : keepsTo k4 (execThawMaster prin master s) := by
  unfold execThawMaster
  refine keepsTo_clocked hk4 ?_
  simp -zeta [hk4]

@[simp] theorem execScanStart_keeps (lane : LaneId) (s : State) (k4 : Core4) (hk4 : s.core4 = k4) : keepsTo k4 (execScanStart lane s) := by
  unfold execScanStart
  refine keepsTo_clocked hk4 ?_
  simp -zeta [hk4]

@[simp] theorem execKeyWrite_keeps (prin : Prin) (slot : Nat) (key : Bytes) (s : State) (k4 : Core4) (hk4 : s.core4 = k4) : keepsTo k4 (execKeyWrite prin slot key s) := by
  unfold execKeyWrite
  refine keepsTo_clocked hk4 ?_
  repeat' split
  all_goals simp [hk4]

@[simp] theorem execActivate_keeps (prin : Prin) (s : State) (k4 : Core4) (hk4 : s.core4 = k4) : keepsTo k4 (execActivate prin s) := by
  unfold execActivate
  refine keepsTo_clocked hk4 ?_
  simp -zeta [hk4]

@[simp] theorem execCancelActivation_keeps (prin : Prin) (s : State) (k4 : Core4) (hk4 : s.core4 = k4) : keepsTo k4 (execCancelActivation prin s) := by
  unfold execCancelActivation
  refine keepsTo_clocked hk4 ?_
  simp -zeta [hk4]

@[simp] theorem execConfirmImage_keeps (prin : Prin) (s : State) (k4 : Core4) (hk4 : s.core4 = k4) : keepsTo k4 (execConfirmImage prin s) := by
  unfold execConfirmImage
  refine keepsTo_clocked hk4 ?_
  simp -zeta [hk4]

@[simp] theorem execPatternSaveDone_keeps (ok : Bool) (s : State) (k4 : Core4) (hk4 : s.core4 = k4) : keepsTo k4 (execPatternSaveDone ok s) := by
  unfold execPatternSaveDone
  refine keepsTo_clocked hk4 ?_
  repeat' first
    | assumption
    | (with_reducible refine (keepsTo_next _ _).2 ?_)
    | (with_reducible refine State.coreCommand_core4 _ _ _ _ ?_ fun t ht => ?_)
    | (with_reducible refine State.core4_fold_of ?_ fun t u ht => ?_)
    | ((try lift_lets -underBinder); intro x; first | ((have hx : x.core4 = k4 := by (simp only [x]; repeat' first | (simp -zeta [*]; done) | (with_reducible refine State.core4_fold_of ?_ fun t u ht => ?_) | (split <;> try (rename_i h; have h2 := State.core4_of_eq h; clear h)))); clear_value x) | clear_value x)
    | (simp -zeta [*]; done)
    | (split <;> try (rename_i h; have h2 := State.core4_of_eq h; clear h))

end Sys2Proof.Machine
end

