-- ==== Sys2Proof/Laws/KeepRtcp.lean ====
section
/-!
SUPPORT. Sys2Proof/Laws/KeepRtcp.lean: the operations of Machine/Rtcp.lean leave the queue of commands, the fuses, the DRAM and
the SRAM as they are.
-/

namespace Sys2Proof.Machine

set_option Elab.async false

@[simp] theorem State.rtcpItem_core4 (s : State) (c : Nat) (aArg : RtcpItem) : (State.rtcpItem s c aArg).1.core4 = s.core4 := by
  unfold State.rtcpItem
  repeat' split
  all_goals simp

@[simp] theorem State.rtcpTake_core4 (s : State) (port c : Nat) (items : List RtcpItem) : (State.rtcpTake s port c items).core4 = s.core4 := by
  unfold State.rtcpTake
  extract_lets -underBinder w0 w x s1
  clear_value w
  split
  · simp
  · have h1 : s1.core4 = s.core4 := by simp [s1]
    clear_value s1
    split
    rename_i u asks h
    have h2 := State.core4_of_eq h
    rw [State.core4_foldl_fst] at h2
    · rw [h1] at h2
      clear h
      extract_lets -underBinder a b
      have ha : a.core4 = s.core4 := by simp only [a]; split <;> simp [h2]
      clear_value a
      have hb : b.core4 = s.core4 := by simp only [b]; split <;> simp [ha]
      clear_value b
      split
      · split
        rename_i v st hv
        have h3 := State.core4_of_eq hv
        split <;> simp [h3, hb]
      · exact hb
    · intro a j
      split
      rename_i v b hv
      simpa using State.core4_of_eq hv

end Sys2Proof.Machine
end

