-- ==== Sys2Proof/Laws/KeepShed.lean ====
section
/-!
SUPPORT. Sys2Proof/Laws/KeepShed.lean: the operations of Machine/Shed.lean leave the queue of commands, the fuses, the DRAM and
the SRAM as they are.
-/

namespace Sys2Proof.Machine

set_option Elab.async false

@[simp] theorem State.acceptSeq_core4 (s : State) (path : Path) (m : Shed) : (State.acceptSeq s path m).core4 = s.core4 := by
  unfold State.acceptSeq
  repeat' split
  all_goals simp

@[simp] theorem State.setMail_core4 (s : State) (n : Nat) (x : MailSt) : (State.setMail s n x).core4 = s.core4 := by rfl

@[simp] theorem State.replyFast_core4 (s : State) (path : Path) (b : Bytes) : (State.replyFast s path b).core4 = s.core4 := by
  unfold State.replyFast
  repeat' split
  all_goals simp

@[simp] theorem State.replyBolt_core4 (s : State) (path : Path) (b : Bytes) : (State.replyBolt s path b).core4 = s.core4 := by
  unfold State.replyBolt
  repeat' split
  all_goals simp

@[simp] theorem State.refuseAuth_core4 (s : State) (path : Path) (m : Shed) (status : Nat) : (State.refuseAuth s path m status).core4 = s.core4 := by
  unfold State.refuseAuth
  repeat' split
  all_goals simp

@[simp] theorem State.readItems_core4 (s : State) (p : Prin) (tagged : Bool) (aArg : Nat) (bArg : List Bytes) : (State.readItems s p tagged aArg bArg).1.core4 = s.core4 := by
  induction bArg generalizing s aArg with
  | nil => rfl
  | cons b t ih =>
    unfold State.readItems
    simp only [ih]
    split <;> simp

@[simp] theorem State.writeItems_core4 (s : State) (p : Prin) (readOnly : Bool) (aArg : List Bytes) : (State.writeItems s p readOnly aArg).1.core4 = s.core4 := by
  induction aArg generalizing s with
  | nil => rfl
  | cons b t ih =>
    unfold State.writeItems
    simp only [ih]
    split <;> simp

@[simp] theorem State.segmentItems_core4 (s : State) (p : Prin) (readOnly : Bool) (b : Bytes) : (State.segmentItems s p readOnly b).1.core4 = s.core4 := by
  unfold State.segmentItems
  split
  · rfl
  · simp

@[simp] theorem State.commitItems_core4 (s : State) (p : Prin) (readOnly : Bool) (b : Bytes) : (State.commitItems s p readOnly b).1.core4 = s.core4 := by
  unfold State.commitItems
  split
  · rfl
  · simp

@[simp] theorem State.ackEvent_core4 (s : State) (tid : Nat) : (State.ackEvent s tid).core4 = s.core4 := by rfl

@[simp] theorem State.runItems_core4 (s : State) (path : Path) (m : Shed) (p : Prin) (readOnly tagged : Bool) : (State.runItems s path m p readOnly tagged).1.core4 = s.core4 := by
  unfold State.runItems
  split <;> simp -zeta

@[simp] theorem State.answer_core4 (s : State) (m : Shed) (items : List Bytes) : (State.answer s m items).1.core4 = s.core4 := by simp -zeta [State.answer]

@[simp] theorem State.fastAnswer_core4 (s : State) (path : Path) (m : Shed) : (State.fastAnswer s path m).1.core4 = s.core4 := by
  unfold State.fastAnswer
  repeat' split
  all_goals simp

@[simp] theorem State.fastWait_core4 (s : State) (path : Path) (b : Bytes) : (State.fastWait s path b).core4 = s.core4 := by
  unfold State.fastWait
  repeat' split
  all_goals simp

@[simp] theorem State.fastTaken_core4 (s : State) : (State.fastTaken s).core4 = s.core4 := by rfl

@[simp] theorem State.bootDrop_core4 (s : State) (n : Nat) : (State.bootDrop s n).core4 = s.core4 := by
  unfold State.bootDrop
  repeat' split
  all_goals simp

@[simp] theorem State.enqueueBolt_core4 (s : State) (path : Path) (b : Bytes) : (State.enqueueBolt s path b).core4 = s.core4 := by rfl

@[simp] theorem State.boltControl_core4 (s : State) (q : QMsg) : (State.boltControl s q).core4 = s.core4 := by
  unfold State.boltControl
  split
  · split <;> simp
  · simp

@[simp] theorem State.boltHandle_core4 (s : State) (path : Path) (m : Shed) : (State.boltHandle s path m).core4 = s.core4 := by
  unfold State.boltHandle
  repeat' split
  all_goals simp

@[simp] theorem State.shedTake_core4 (s : State) (path : Path) (m : Shed) (b : Bytes) : (State.shedTake s path m b).core4 = s.core4 := by
  unfold State.shedTake
  split
  · split <;> simp
  · simp

@[simp] theorem State.fastServe_core4 (s : State) : (State.fastServe s).core4 = s.core4 := by
  unfold State.fastServe
  repeat' split
  all_goals simp

@[simp] theorem State.noteRoute_core4 (s : State) (r : Route) : (State.noteRoute s r).core4 = s.core4 := by rfl

@[simp] theorem State.shedReturn_core4 (s : State) (path : Path) (m : Shed) (b : Bytes) : (State.shedReturn s path m b).core4 = s.core4 := by
  unfold State.shedReturn
  repeat' split
  all_goals simp

@[simp] theorem State.shedForward_core4 (s : State) (path : Path) (m : Shed) (b : Bytes) : (State.shedForward s path m b).core4 = s.core4 := by
  unfold State.shedForward
  repeat' split
  all_goals simp

@[simp] theorem State.shedMalformed_core4 (s : State) (path : Path) : (State.shedMalformed s path).core4 = s.core4 := by rfl

@[simp] theorem State.shedRoute_core4 (s : State) (path : Path) (m : Shed) (b : Bytes) : (State.shedRoute s path m b).core4 = s.core4 := by simp -zeta [State.shedRoute]

@[simp] theorem State.mailSubmit_core4 (s : State) (n : MailSlot) (length : Nat) : (State.mailSubmit s n length).core4 = s.core4 := by
  unfold State.mailSubmit
  obtain ⟨c, hc⟩ : ∃ c, s.core4 = c := ⟨_, rfl⟩
  rw [hc]
  repeat' first
    | assumption
    | (with_reducible refine State.core4_fold_of ?_ fun t u ht => ?_)
    | ((try lift_lets -underBinder); intro x; first | ((have hx : x.core4 = c := by (simp only [x]; repeat' first | (simp -zeta [*]; done) | (with_reducible refine State.core4_fold_of ?_ fun t u ht => ?_) | (split <;> try (rename_i h; have h2 := State.core4_of_eq h; clear h)))); clear_value x) | clear_value x)
    | (simp -zeta [*]; done)
    | (split <;> try (rename_i h; have h2 := State.core4_of_eq h; clear h))

@[simp] theorem State.mailMessage_core4 (s : State) (n : MailSlot) (b : Bytes) : (State.mailMessage s n b).core4 = s.core4 := by simp -zeta [State.mailMessage]

@[simp] theorem State.shedArrive_core4 (s : State) (path : Path) (b : Bytes) : (State.shedArrive s path b).core4 = s.core4 := by
  unfold State.shedArrive
  repeat' split
  all_goals simp

@[simp] theorem State.shedTyped_core4 (s : State) (type : Nat) (path : Path) (b : Bytes) : (State.shedTyped s type path b).core4 = s.core4 := by
  unfold State.shedTyped
  split <;> simp -zeta

@[simp] theorem execReadReq_keeps (path : Path) (msg : Bytes) (s : State) (k4 : Core4) (hk4 : s.core4 = k4) : keepsTo k4 (execReadReq path msg s) := by
  unfold execReadReq
  refine keepsTo_clocked hk4 ?_
  simp -zeta [hk4]

@[simp] theorem execWriteReq_keeps (path : Path) (msg : Bytes) (s : State) (k4 : Core4) (hk4 : s.core4 = k4) : keepsTo k4 (execWriteReq path msg s) := by
  unfold execWriteReq
  refine keepsTo_clocked hk4 ?_
  simp -zeta [hk4]

@[simp] theorem execSegmentWriteReq_keeps (path : Path) (msg : Bytes) (s : State) (k4 : Core4) (hk4 : s.core4 = k4) : keepsTo k4 (execSegmentWriteReq path msg s) := by
  unfold execSegmentWriteReq
  refine keepsTo_clocked hk4 ?_
  simp -zeta [hk4]

@[simp] theorem execDescribeReq_keeps (path : Path) (msg : Bytes) (s : State) (k4 : Core4) (hk4 : s.core4 = k4) : keepsTo k4 (execDescribeReq path msg s) := by
  unfold execDescribeReq
  refine keepsTo_clocked hk4 ?_
  simp -zeta [hk4]

@[simp] theorem execCommitReq_keeps (src : CommitSrc) (s : State) (k4 : Core4) (hk4 : s.core4 = k4) : keepsTo k4 (execCommitReq src s) := by
  unfold execCommitReq
  refine keepsTo_clocked hk4 ?_
  repeat' split
  all_goals simp [hk4]

@[simp] theorem execEventAck_keeps (path : Path) (msg : Bytes) (s : State) (k4 : Core4) (hk4 : s.core4 = k4) : keepsTo k4 (execEventAck path msg s) := by
  unfold execEventAck
  refine keepsTo_clocked hk4 ?_
  simp -zeta [hk4]

@[simp] theorem State.boltFront_core4 (s : State) (n : Nat) : (State.boltFront s n).core4 = s.core4 := by
  unfold State.boltFront
  repeat' split
  all_goals simp

@[simp] theorem execBoltRequestHandled_keeps (queue : Nat) (s : State) (k4 : Core4) (hk4 : s.core4 = k4) : keepsTo k4 (execBoltRequestHandled queue s) := by
  unfold execBoltRequestHandled
  refine keepsTo_clocked hk4 ?_
  split <;> simp [hk4]

@[simp] theorem execBoltReplyTimeout_keeps (queue : Nat) (s : State) (k4 : Core4) (hk4 : s.core4 = k4) : keepsTo k4 (execBoltReplyTimeout queue s) := by
  unfold execBoltReplyTimeout
  refine keepsTo_clocked hk4 ?_
  repeat' first
    | assumption
    | (with_reducible refine (keepsTo_next _ _).2 ?_)
    | (with_reducible refine State.coreCommand_core4 _ _ _ _ ?_ fun t ht => ?_)
    | (with_reducible refine State.core4_fold_of ?_ fun t u ht => ?_)
    | ((try lift_lets -underBinder); intro x; first | ((have hx : x.core4 = k4 := by (simp only [x]; repeat' first | (simp -zeta [*]; done) | (with_reducible refine State.core4_fold_of ?_ fun t u ht => ?_) | (split <;> try (rename_i h; have h2 := State.core4_of_eq h; clear h)))); clear_value x) | clear_value x)
    | (simp -zeta [*]; done)
    | (split <;> try (rename_i h; have h2 := State.core4_of_eq h; clear h))

@[simp] theorem execEventNotifyResend_keeps (sub tid : Nat) (s : State) (k4 : Core4) (hk4 : s.core4 = k4) : keepsTo k4 (execEventNotifyResend sub tid s) := by
  unfold execEventNotifyResend
  refine keepsTo_clocked hk4 ?_
  repeat' first
    | assumption
    | (with_reducible refine (keepsTo_next _ _).2 ?_)
    | (with_reducible refine State.coreCommand_core4 _ _ _ _ ?_ fun t ht => ?_)
    | (with_reducible refine State.core4_fold_of ?_ fun t u ht => ?_)
    | ((try lift_lets -underBinder); intro x; first | ((have hx : x.core4 = k4 := by (simp only [x]; repeat' first | (simp -zeta [*]; done) | (with_reducible refine State.core4_fold_of ?_ fun t u ht => ?_) | (split <;> try (rename_i h; have h2 := State.core4_of_eq h; clear h)))); clear_value x) | clear_value x)
    | (simp -zeta [*]; done)
    | (split <;> try (rename_i h; have h2 := State.core4_of_eq h; clear h))

@[simp] theorem execMailboxSubmit_keeps (slot : MailSlot) (length : Nat) (s : State) (k4 : Core4) (hk4 : s.core4 = k4) : keepsTo k4 (execMailboxSubmit slot length s) := by
  unfold execMailboxSubmit
  refine keepsTo_clocked hk4 ?_
  simp -zeta [hk4]

@[simp] theorem execMailboxDone_keeps (slot : MailSlot) (s : State) (k4 : Core4) (hk4 : s.core4 = k4) : keepsTo k4 (execMailboxDone slot s) := by
  unfold execMailboxDone
  refine keepsTo_clocked hk4 ?_
  repeat' first
    | assumption
    | (with_reducible refine (keepsTo_next _ _).2 ?_)
    | (with_reducible refine State.coreCommand_core4 _ _ _ _ ?_ fun t ht => ?_)
    | (with_reducible refine State.core4_fold_of ?_ fun t u ht => ?_)
    | (simp -zeta [*]; done)
    | (split <;> try (rename_i h; have h2 := State.core4_of_eq h; clear h))
    | ((try lift_lets -underBinder); intro x; first | ((have hx : x.core4 = k4 := by (simp only [x]; repeat' first | (simp -zeta [*]; done) | (with_reducible refine State.core4_fold_of ?_ fun t u ht => ?_) | (split <;> try (rename_i h; have h2 := State.core4_of_eq h; clear h)))); clear_value x) | clear_value x)

@[simp] theorem execMailboxClearDone_keeps (slot : MailSlot) (s : State) (k4 : Core4) (hk4 : s.core4 = k4) : keepsTo k4 (execMailboxClearDone slot s) := by
  unfold execMailboxClearDone
  refine keepsTo_clocked hk4 ?_
  repeat' first
    | assumption
    | (with_reducible refine (keepsTo_next _ _).2 ?_)
    | (with_reducible refine State.coreCommand_core4 _ _ _ _ ?_ fun t ht => ?_)
    | (with_reducible refine State.core4_fold_of ?_ fun t u ht => ?_)
    | ((try lift_lets -underBinder); intro x; first | ((have hx : x.core4 = k4 := by (simp only [x]; repeat' first | (simp -zeta [*]; done) | (with_reducible refine State.core4_fold_of ?_ fun t u ht => ?_) | (split <;> try (rename_i h; have h2 := State.core4_of_eq h; clear h)))); clear_value x) | clear_value x)
    | (simp -zeta [*]; done)
    | (split <;> try (rename_i h; have h2 := State.core4_of_eq h; clear h))

@[simp] theorem execMailboxClearOverrun_keeps (slot : MailSlot) (s : State) (k4 : Core4) (hk4 : s.core4 = k4) : keepsTo k4 (execMailboxClearOverrun slot s) := by
  unfold execMailboxClearOverrun
  refine keepsTo_clocked hk4 ?_
  split <;> simp [hk4]

end Sys2Proof.Machine
end

