-- ==== Sys2Proof/Laws/KeepCounters.lean ====
section
/-!
SUPPORT. Sys2Proof/Laws/KeepCounters.lean: the operations of Machine/Counters.lean leave the queue of commands, the fuses, the DRAM and
the SRAM as they are.
-/

namespace Sys2Proof.Machine

set_option Elab.async false

@[simp] theorem execCounterLoRead_keeps (reader : Reader) (index : Nat) (s : State) (k4 : Core4) (hk4 : s.core4 = k4) : keepsTo k4 (execCounterLoRead reader index s) := by
  unfold execCounterLoRead
  refine keepsTo_clocked hk4 ?_
  repeat' first
    | assumption
    | (with_reducible refine (keepsTo_next _ _).2 ?_)
    | (with_reducible refine State.coreCommand_core4 _ _ _ _ ?_ fun t ht => ?_)
    | (with_reducible refine State.core4_fold_of ?_ fun t u ht => ?_)
    | ((try lift_lets -underBinder); intro x; first | ((have hx : x.core4 = k4 := by (simp only [x]; repeat' first | (simp -zeta [*]; done) | (with_reducible refine State.core4_fold_of ?_ fun t u ht => ?_) | (split <;> try (rename_i h; have h2 := State.core4_of_eq h; clear h)))); clear_value x) | clear_value x)
    | (simp -zeta [*]; done)
    | (split <;> try (rename_i h; have h2 := State.core4_of_eq h; clear h))

@[simp] theorem execSnapshotCopy_keeps (s : State) (k4 : Core4) (hk4 : s.core4 = k4) : keepsTo k4 (execSnapshotCopy s) := by
  unfold execSnapshotCopy
  refine keepsTo_clocked hk4 ?_
  split <;> simp [hk4]

@[simp] theorem execInstructionSample_keeps (core : CoreId) (pc address : Nat) (s : State) (k4 : Core4) (hk4 : s.core4 = k4) : keepsTo k4 (execInstructionSample core pc address s) := by
  unfold execInstructionSample
  refine keepsTo_clocked hk4 ?_
  repeat' first
    | assumption
    | (with_reducible refine (keepsTo_next _ _).2 ?_)
    | (with_reducible refine State.coreCommand_core4 _ _ _ _ ?_ fun t ht => ?_)
    | (with_reducible refine State.core4_fold_of ?_ fun t u ht => ?_)
    | ((try lift_lets -underBinder); intro x; first | ((have hx : x.core4 = k4 := by (simp only [x]; repeat' first | (simp -zeta [*]; done) | (with_reducible refine State.core4_fold_of ?_ fun t u ht => ?_) | (split <;> try (rename_i h; have h2 := State.core4_of_eq h; clear h)))); clear_value x) | clear_value x)
    | (simp -zeta [*]; done)
    | (split <;> try (rename_i h; have h2 := State.core4_of_eq h; clear h))

@[simp] theorem State.samplePut_core4 (s : State) (r : Sample) : (State.samplePut s r).core4 = s.core4 := by
  unfold State.samplePut
  repeat' split
  all_goals simp

@[simp] theorem execSampleRecordTaken_keeps (s : State) (k4 : Core4) (hk4 : s.core4 = k4) : keepsTo k4 (execSampleRecordTaken s) := by
  unfold execSampleRecordTaken
  refine keepsTo_clocked hk4 ?_
  repeat' first
    | assumption
    | (with_reducible refine (keepsTo_next _ _).2 ?_)
    | (with_reducible refine State.coreCommand_core4 _ _ _ _ ?_ fun t ht => ?_)
    | (with_reducible refine State.core4_fold_of ?_ fun t u ht => ?_)
    | ((try lift_lets -underBinder); intro x; first | ((have hx : x.core4 = k4 := by (simp only [x]; repeat' first | (simp -zeta [*]; done) | (with_reducible refine State.core4_fold_of ?_ fun t u ht => ?_) | (split <;> try (rename_i h; have h2 := State.core4_of_eq h; clear h)))); clear_value x) | clear_value x)
    | (simp -zeta [*]; done)
    | (split <;> try (rename_i h; have h2 := State.core4_of_eq h; clear h))

@[simp] theorem State.freeSamples_core4 (s : State) (ptr : Nat) : (State.freeSamples s ptr).core4 = s.core4 := by rfl

@[simp] theorem execSampleRdptrWrite_keeps (val : Word) (s : State) (k4 : Core4) (hk4 : s.core4 = k4) : keepsTo k4 (execSampleRdptrWrite val s) := by
  unfold execSampleRdptrWrite
  refine keepsTo_clocked hk4 ?_
  split <;> simp [hk4]

end Sys2Proof.Machine
end

