-- ==== Sys2Proof/Laws/KeepStartup.lean ====
section
/-!
SUPPORT. Sys2Proof/Laws/KeepStartup.lean: the operations of Machine/Startup.lean leave the queue of commands, the fuses, the DRAM and
the SRAM as they are.
-/

namespace Sys2Proof.Machine

set_option Elab.async false

@[simp] theorem execSpindleLock_keeps (s : State) (k4 : Core4) (hk4 : s.core4 = k4) : keepsTo k4 (execSpindleLock s) := by
  unfold execSpindleLock
  split <;> simp [hk4]

@[simp] theorem State.eraseBadKeys_core4 (s : State) (bad : Nat) : (State.eraseBadKeys s bad).core4 = s.core4 := by
  unfold State.eraseBadKeys
  repeat' split
  all_goals simp

@[simp] theorem execFusesRead_keeps (flashOk : Bool) (badKeys : Nat) (s : State) (k4 : Core4) (hk4 : s.core4 = k4) : keepsTo k4 (execFusesRead flashOk badKeys s) := by
  unfold execFusesRead
  refine keepsTo_clocked hk4 ?_
  split <;> simp [hk4]

@[simp] theorem State.factoryDefaults_core4 (s : State) (cause : Nat) : (State.factoryDefaults s cause).core4 = s.core4 := by simp -zeta [State.factoryDefaults]

@[simp] theorem execPatternChosen_keeps (s : State) (k4 : Core4) (hk4 : s.core4 = k4) : keepsTo k4 (execPatternChosen s) := by
  unfold execPatternChosen
  refine keepsTo_clocked hk4 ?_
  repeat' first
    | assumption
    | (with_reducible refine (keepsTo_next _ _).2 ?_)
    | (with_reducible refine State.coreCommand_core4 _ _ _ _ ?_ fun t ht => ?_)
    | (with_reducible refine State.core4_fold_of ?_ fun t u ht => ?_)
    | ((try lift_lets -underBinder); intro x; first | ((have hx : x.core4 = k4 := by (simp only [x]; repeat' first | (simp -zeta [*]; done) | (with_reducible refine State.core4_fold_of ?_ fun t u ht => ?_) | (split <;> try (rename_i h; have h2 := State.core4_of_eq h; clear h)))); clear_value x) | clear_value x)
    | (simp -zeta [*]; done)
    | (split <;> try (rename_i h; have h2 := State.core4_of_eq h; clear h))

@[simp] theorem State.setAll_core4 (s : State) (m : AMap Val) : (State.setAll s m).core4 = s.core4 := by
  unfold State.setAll
  obtain ⟨c, hc⟩ : ∃ c, s.core4 = c := ⟨_, rfl⟩
  rw [hc]
  repeat' first
    | assumption
    | (with_reducible refine State.core4_fold_of ?_ fun t u ht => ?_)
    | ((try lift_lets -underBinder); intro x; first | ((have hx : x.core4 = c := by (simp only [x]; repeat' first | (simp -zeta [*]; done) | (with_reducible refine State.core4_fold_of ?_ fun t u ht => ?_) | (split <;> try (rename_i h; have h2 := State.core4_of_eq h; clear h)))); clear_value x) | clear_value x)
    | (simp -zeta [*]; done)
    | (split <;> try (rename_i h; have h2 := State.core4_of_eq h; clear h))

@[simp] theorem execEarlySetApplied_keeps (s : State) (k4 : Core4) (hk4 : s.core4 = k4) : keepsTo k4 (execEarlySetApplied s) := by
  subst hk4
  unfold execEarlySetApplied
  refine keepsTo_clocked rfl ?_
  split
  · rfl
  · extract_lets -underBinder l t
    have ht : t.core4 = s.core4 := rfl
    clear_value t
    split
    · exact ht
    · split <;> simp [ht]

@[simp] theorem execActiveFirmwareVerified_keeps (s : State) (k4 : Core4) (hk4 : s.core4 = k4) : keepsTo k4 (execActiveFirmwareVerified s) := by
  unfold execActiveFirmwareVerified
  refine keepsTo_clocked hk4 ?_
  repeat' split
  all_goals simp [hk4]

@[simp] theorem execFastResponderStart_keeps (s : State) (k4 : Core4) (hk4 : s.core4 = k4) : keepsTo k4 (execFastResponderStart s) := by
  unfold execFastResponderStart
  refine keepsTo_clocked hk4 ?_
  split <;> simp [hk4]

@[simp] theorem execDramTrained_keeps (ok : Bool) (ranks densityGb points : Nat) (s : State) (k4 : Core4) (hk4 : s.core4 = k4) : keepsTo k4 (execDramTrained ok ranks densityGb points s) := by
  subst hk4
  unfold execDramTrained
  refine keepsTo_clocked rfl ?_
  split
  · rfl
  · extract_lets -underBinder k b p t1 bm t2 t3 t4
    have h1 : t3.core4 = s.core4 := by
      simp only [t3]
      rw [State.eachBch_core4]
      rfl
    clear_value t3
    rw [keepsTo_next, State.follow_core4, State.startJoint_core4]
    simp only [t4]
    split <;> simp [h1]

@[simp] theorem State.restartWaits_core4 (s : State) : (State.restartWaits s).core4 = s.core4 := by rfl

@[simp] theorem State.reserveAreas_core4 (s : State) : (State.reserveAreas s).core4 = s.core4 := by simp -zeta [State.reserveAreas]

@[simp] theorem execBoltReady_keeps (s : State) (k4 : Core4) (hk4 : s.core4 = k4) : keepsTo k4 (execBoltReady s) := by
  unfold execBoltReady
  refine keepsTo_clocked hk4 ?_
  split <;> simp [hk4]

@[simp] theorem State.migrated_core4 (s : State) (schema dropped : Nat) : (State.migrated s schema dropped).core4 = s.core4 := by simp -zeta [State.migrated]

@[simp] theorem State.bootOutcome_core4 (s : State) (cause : Nat) : (State.bootOutcome s cause).core4 = s.core4 := by
  unfold State.bootOutcome
  repeat' split
  all_goals simp

@[simp] theorem execBootCommit_keeps (windows : List (Nat × Window)) (s : State) (k4 : Core4) (hk4 : s.core4 = k4) : keepsTo k4 (execBootCommit windows s) := by
  subst hk4
  unfold execBootCommit
  refine keepsTo_clocked rfl ?_
  split
  · rfl
  · split
    · rfl
    · extract_lets -underBinder b
      split
      · simp
      · split <;> simp

@[simp] theorem State.heldOffer_core4 (s : State) (side : Nat) : (State.heldOffer s side).core4 = s.core4 := by
  unfold State.heldOffer
  split <;> simp -zeta

@[simp] theorem execImageVerified_keeps (s : State) (k4 : Core4) (hk4 : s.core4 = k4) : keepsTo k4 (execImageVerified s) := by
  unfold execImageVerified
  refine keepsTo_clocked hk4 ?_
  split <;> simp [hk4]

end Sys2Proof.Machine
end

