-- ==== Sys2Proof/Laws/KeepPcie.lean ====
section
/-!
SUPPORT. Sys2Proof/Laws/KeepPcie.lean: the operations of Machine/Pcie.lean leave the queue of commands, the fuses, the DRAM and
the SRAM as they are.
-/

namespace Sys2Proof.Machine

set_option Elab.async false

@[simp] theorem State.setRing_core4 (s : State) (r : Nat) (x : RingSt) : (State.setRing s r x).core4 = s.core4 := by rfl

@[simp] theorem State.dropWrite_core4 (s : State) : (State.dropWrite s).core4 = s.core4 := by rfl

@[simp] theorem State.writeStatus_core4 (s : State) (x : RingSt) (code tag done : Nat) : (State.writeStatus s x code tag done).core4 = s.core4 := by rfl

@[simp] theorem State.ringFetch_core4 (s : State) (r : Nat) (host : List Bytes) : (State.ringFetch s r host).core4 = s.core4 := by rfl

@[simp] theorem State.completeDesc_core4 (s : State) (r code tag done : Nat) (irq : Bool) : (State.completeDesc s r code tag done irq).core4 = s.core4 := by
  unfold State.completeDesc
  split
  · split <;> simp
  · simp

@[simp] theorem State.abortDesc_core4 (s : State) (r : Nat) (d : Desc) : (State.abortDesc s r d).core4 = s.core4 := by simp -zeta [State.abortDesc]

@[simp] theorem State.abortRing_core4 (s : State) (r : Nat) : (State.abortRing s r).core4 = s.core4 := by
  unfold State.abortRing
  repeat' split
  all_goals simp

@[simp] theorem execRingEnable_keeps (ring : RingId) (log2Size : Nat) (s : State) (k4 : Core4) (hk4 : s.core4 = k4) : keepsTo k4 (execRingEnable ring log2Size s) := by
  unfold execRingEnable
  refine keepsTo_clocked hk4 ?_
  repeat' first
    | assumption
    | (with_reducible refine (keepsTo_next _ _).2 ?_)
    | (with_reducible refine State.coreCommand_core4 _ _ _ _ ?_ fun t ht => ?_)
    | (with_reducible refine State.core4_fold_of ?_ fun t u ht => ?_)
    | ((try lift_lets -underBinder); intro x; first | ((have hx : x.core4 = k4 := by (simp only [x]; repeat' first | (simp -zeta [*]; done) | (with_reducible refine State.core4_fold_of ?_ fun t u ht => ?_) | (split <;> try (rename_i h; have h2 := State.core4_of_eq h; clear h)))); clear_value x) | clear_value x)
    | (simp -zeta [*]; done)
    | (split <;> try (rename_i h; have h2 := State.core4_of_eq h; clear h))

@[simp] theorem execRingDisable_keeps (ring : RingId) (s : State) (k4 : Core4) (hk4 : s.core4 = k4) : keepsTo k4 (execRingDisable ring s) := by
  unfold execRingDisable
  refine keepsTo_clocked hk4 ?_
  repeat' first
    | assumption
    | (with_reducible refine (keepsTo_next _ _).2 ?_)
    | (with_reducible refine State.coreCommand_core4 _ _ _ _ ?_ fun t ht => ?_)
    | (with_reducible refine State.core4_fold_of ?_ fun t u ht => ?_)
    | ((try lift_lets -underBinder); intro x; first | ((have hx : x.core4 = k4 := by (simp only [x]; repeat' first | (simp -zeta [*]; done) | (with_reducible refine State.core4_fold_of ?_ fun t u ht => ?_) | (split <;> try (rename_i h; have h2 := State.core4_of_eq h; clear h)))); clear_value x) | clear_value x)
    | (simp -zeta [*]; done)
    | (split <;> try (rename_i h; have h2 := State.core4_of_eq h; clear h))

@[simp] theorem execRingTailWrite_keeps (ring : RingId) (write : TailWrite) (s : State) (k4 : Core4) (hk4 : s.core4 = k4) : keepsTo k4 (execRingTailWrite ring write s) := by
  unfold execRingTailWrite
  refine keepsTo_clocked hk4 ?_
  repeat' first
    | assumption
    | (with_reducible refine (keepsTo_next _ _).2 ?_)
    | (with_reducible refine State.coreCommand_core4 _ _ _ _ ?_ fun t ht => ?_)
    | (with_reducible refine State.core4_fold_of ?_ fun t u ht => ?_)
    | ((try lift_lets -underBinder); intro x; first | ((have hx : x.core4 = k4 := by (simp only [x]; repeat' first | (simp -zeta [*]; done) | (with_reducible refine State.core4_fold_of ?_ fun t u ht => ?_) | (split <;> try (rename_i h; have h2 := State.core4_of_eq h; clear h)))); clear_value x) | clear_value x)
    | (simp -zeta [*]; done)
    | (split <;> try (rename_i h; have h2 := State.core4_of_eq h; clear h))

@[simp] theorem execRingErrorClear_keeps (ring : RingId) (s : State) (k4 : Core4) (hk4 : s.core4 = k4) : keepsTo k4 (execRingErrorClear ring s) := by
  unfold execRingErrorClear
  refine keepsTo_clocked hk4 ?_
  repeat' first
    | assumption
    | (with_reducible refine (keepsTo_next _ _).2 ?_)
    | (with_reducible refine State.coreCommand_core4 _ _ _ _ ?_ fun t ht => ?_)
    | (with_reducible refine State.core4_fold_of ?_ fun t u ht => ?_)
    | ((try lift_lets -underBinder); intro x; first | ((have hx : x.core4 = k4 := by (simp only [x]; repeat' first | (simp -zeta [*]; done) | (with_reducible refine State.core4_fold_of ?_ fun t u ht => ?_) | (split <;> try (rename_i h; have h2 := State.core4_of_eq h; clear h)))); clear_value x) | clear_value x)
    | (simp -zeta [*]; done)
    | (split <;> try (rename_i h; have h2 := State.core4_of_eq h; clear h))

@[simp] theorem State.hostBytes_core4 (s : State) (c off : Nat) (b : Bytes) : (State.hostBytes s c off b).core4 = s.core4 := by rfl

@[simp] theorem State.hostPicture_core4 (s : State) (c : Nat) : (State.hostPicture s c).core4 = s.core4 := by
  unfold State.hostPicture
  repeat' split
  all_goals simp

@[simp] theorem State.delivered_core4 (s : State) (r : Nat) (d : Desc) : (State.delivered s r d).core4 = s.core4 := by
  unfold State.delivered
  split
  · rfl
  · simp

@[simp] theorem State.functionReset_core4 (s : State) : (State.functionReset s).core4 = s.core4 := by
  unfold State.functionReset
  repeat' split
  all_goals simp

@[simp] theorem execFunctionLevelReset_keeps (s : State) (k4 : Core4) (hk4 : s.core4 = k4) : keepsTo k4 (execFunctionLevelReset s) := by simp -zeta [execFunctionLevelReset, hk4]

@[simp] theorem execPcieFundamentalReset_keeps (s : State) (k4 : Core4) (hk4 : s.core4 = k4) : keepsTo k4 (execPcieFundamentalReset s) := by
  unfold execPcieFundamentalReset
  repeat' split
  all_goals simp [hk4]

@[simp] theorem execPcieLinkChange_keeps (up : Bool) (rate width : Nat) (s : State) (k4 : Core4) (hk4 : s.core4 = k4) : keepsTo k4 (execPcieLinkChange up rate width s) := by
  unfold execPcieLinkChange
  repeat' first
    | assumption
    | (with_reducible refine (keepsTo_next _ _).2 ?_)
    | (with_reducible refine State.coreCommand_core4 _ _ _ _ ?_ fun t ht => ?_)
    | (with_reducible refine State.core4_fold_of ?_ fun t u ht => ?_)
    | ((try lift_lets -underBinder); intro x; first | ((have hx : x.core4 = k4 := by (simp only [x]; repeat' first | (simp -zeta [*]; done) | (with_reducible refine State.core4_fold_of ?_ fun t u ht => ?_) | (split <;> try (rename_i h; have h2 := State.core4_of_eq h; clear h)))); clear_value x) | clear_value x)
    | (simp -zeta [*]; done)
    | (split <;> try (rename_i h; have h2 := State.core4_of_eq h; clear h))

@[simp] theorem execPcieError_keeps (uncorrectable : Bool) (s : State) (k4 : Core4) (hk4 : s.core4 = k4) : keepsTo k4 (execPcieError uncorrectable s) := by simp -zeta [execPcieError, hk4]

@[simp] theorem State.pcieConfigWrite_core4 (s : State) (off v : Nat) : (State.pcieConfigWrite s off v).core4 = s.core4 := by
  unfold State.pcieConfigWrite
  repeat' split
  all_goals simp

@[simp] theorem execMsixUnmask_keeps (vec : VectorId) (s : State) (k4 : Core4) (hk4 : s.core4 = k4) : keepsTo k4 (execMsixUnmask vec s) := by
  unfold execMsixUnmask
  refine keepsTo_clocked hk4 ?_
  repeat' first
    | assumption
    | (with_reducible refine (keepsTo_next _ _).2 ?_)
    | (with_reducible refine State.coreCommand_core4 _ _ _ _ ?_ fun t ht => ?_)
    | (with_reducible refine State.core4_fold_of ?_ fun t u ht => ?_)
    | ((try lift_lets -underBinder); intro x; first | ((have hx : x.core4 = k4 := by (simp only [x]; repeat' first | (simp -zeta [*]; done) | (with_reducible refine State.core4_fold_of ?_ fun t u ht => ?_) | (split <;> try (rename_i h; have h2 := State.core4_of_eq h; clear h)))); clear_value x) | clear_value x)
    | (simp -zeta [*]; done)
    | (split <;> try (rename_i h; have h2 := State.core4_of_eq h; clear h))

@[simp] theorem execMsixIntervalExpiry_keeps (vec : VectorId) (s : State) (k4 : Core4) (hk4 : s.core4 = k4) : keepsTo k4 (execMsixIntervalExpiry vec s) := by
  unfold execMsixIntervalExpiry
  refine keepsTo_clocked hk4 ?_
  repeat' first
    | assumption
    | (with_reducible refine (keepsTo_next _ _).2 ?_)
    | (with_reducible refine State.coreCommand_core4 _ _ _ _ ?_ fun t ht => ?_)
    | (with_reducible refine State.core4_fold_of ?_ fun t u ht => ?_)
    | ((try lift_lets -underBinder); intro x; first | ((have hx : x.core4 = k4 := by (simp only [x]; repeat' first | (simp -zeta [*]; done) | (with_reducible refine State.core4_fold_of ?_ fun t u ht => ?_) | (split <;> try (rename_i h; have h2 := State.core4_of_eq h; clear h)))); clear_value x) | clear_value x)
    | (simp -zeta [*]; done)
    | (split <;> try (rename_i h; have h2 := State.core4_of_eq h; clear h))

end Sys2Proof.Machine
end

