-- ==== Sys2Proof/Laws/KeepPower.lean ====
section
/-!
SUPPORT. Sys2Proof/Laws/KeepPower.lean: the operations of Machine/Power.lean leave the queue of commands, the fuses, the DRAM and
the SRAM as they are.
-/

namespace Sys2Proof.Machine

set_option Elab.async false

@[simp] theorem State.railOut_core4 (s : State) (r : Nat) (high : Bool) : (State.railOut s r high).core4 = s.core4 := by
  unfold State.railOut
  repeat' split
  all_goals simp

@[simp] theorem State.railIn_core4 (s : State) (r : Nat) : (State.railIn s r).core4 = s.core4 := by
  unfold State.railIn
  repeat' split
  all_goals simp

@[simp] theorem execSupplyMonitor_keeps (rail : Nat) (reading : RailReading) (s : State) (k4 : Core4) (hk4 : s.core4 = k4) : keepsTo k4 (execSupplyMonitor rail reading s) := by
  unfold execSupplyMonitor
  refine keepsTo_clocked hk4 ?_
  repeat' first
    | assumption
    | (with_reducible refine (keepsTo_next _ _).2 ?_)
    | (with_reducible refine State.coreCommand_core4 _ _ _ _ ?_ fun t ht => ?_)
    | (with_reducible refine State.core4_fold_of ?_ fun t u ht => ?_)
    | ((try lift_lets -underBinder); intro x; first | ((have hx : x.core4 = k4 := by (simp only [x]; repeat' first | (simp -zeta [*]; done) | (with_reducible refine State.core4_fold_of ?_ fun t u ht => ?_) | (split <;> try (rename_i h; have h2 := State.core4_of_eq h; clear h)))); clear_value x) | clear_value x)
    | (simp -zeta [*]; done)
    | (split <;> try (rename_i h; have h2 := State.core4_of_eq h; clear h))

@[simp] theorem execAvsRecompute_keeps (tempC : Int) (s : State) (k4 : Core4) (hk4 : s.core4 = k4) : keepsTo k4 (execAvsRecompute tempC s) := by
  unfold execAvsRecompute
  refine keepsTo_clocked hk4 ?_
  split <;> simp [hk4]

@[simp] theorem execAvsStep_keeps (confirmed : Bool) (s : State) (k4 : Core4) (hk4 : s.core4 = k4) : keepsTo k4 (execAvsStep confirmed s) := by
  unfold execAvsStep
  refine keepsTo_clocked hk4 ?_
  repeat' first
    | assumption
    | (with_reducible refine (keepsTo_next _ _).2 ?_)
    | (with_reducible refine State.coreCommand_core4 _ _ _ _ ?_ fun t ht => ?_)
    | (with_reducible refine State.core4_fold_of ?_ fun t u ht => ?_)
    | ((try lift_lets -underBinder); intro x; first | ((have hx : x.core4 = k4 := by (simp only [x]; repeat' first | (simp -zeta [*]; done) | (with_reducible refine State.core4_fold_of ?_ fun t u ht => ?_) | (split <;> try (rename_i h; have h2 := State.core4_of_eq h; clear h)))); clear_value x) | clear_value x)
    | (simp -zeta [*]; done)
    | (split <;> try (rename_i h; have h2 := State.core4_of_eq h; clear h))

end Sys2Proof.Machine
end

