-- ==== Sys2Proof/Laws/KeepReceive.lean ====
section
/-!
SUPPORT. Sys2Proof/Laws/KeepReceive.lean: the operations of Machine/Receive.lean leave the queue of commands, the fuses, the DRAM and
the SRAM as they are.
-/

namespace Sys2Proof.Machine

set_option Elab.async false

@[simp] theorem State.unmatched_core4 (s : State) (p : Nat) : (State.unmatched s p).core4 = s.core4 := by simp -zeta [State.unmatched]

@[simp] theorem State.bumpFlow_core4 (s : State) (f sub : Nat) : (State.bumpFlow s f sub).core4 = s.core4 := by rfl

@[simp] theorem State.countColour_core4 (s : State) (p f : Nat) (aArg : Colour) : (State.countColour s p f aArg).core4 = s.core4 := by
  unfold State.countColour
  repeat' split
  all_goals simp

@[simp] theorem State.policed_core4 (s : State) (p f : Nat) (x : RxFrame) : (State.policed s p f x).1.core4 = s.core4 := by
  unfold State.policed
  repeat' split
  all_goals simp

@[simp] theorem State.audioFlow_core4 (s : State) (f : Nat) (x : RxFrame) : (State.audioFlow s f x).core4 = s.core4 := by
  unfold State.audioFlow
  split
  · rfl
  · simp

@[simp] theorem State.mediaFrame_core4 (s : State) (p : Nat) (take : State → State) (h : ∀ t, (take t).core4 = t.core4) : (State.mediaFrame s p take).core4 = s.core4 := by
  unfold State.mediaFrame
  extract_lets -underBinder ps t
  split
  · simp
  · split
    · exact h s
    · have ht : t.core4 = s.core4 := by simp [t]
      clear_value t
      split <;> simp [ht]

@[simp] theorem State.controlPass_core4 (s : State) (p : Nat) : (State.controlPass s p).1.core4 = s.core4 := by
  unfold State.controlPass
  repeat' split
  all_goals simp

@[simp] theorem State.controlTake_core4 (s : State) (q : QMsg) : (State.controlTake s q).core4 = s.core4 := by
  unfold State.controlTake
  split
  · rfl
  · simp

@[simp] theorem State.controlFrame_core4 (s : State) (p : PortId) (x : RxFrame) (kind : Nat) (b : Bytes) : (State.controlFrame s p x kind b).core4 = s.core4 := by
  unfold State.controlFrame
  obtain ⟨c, hc⟩ : ∃ c, s.core4 = c := ⟨_, rfl⟩
  rw [hc]
  repeat' first
    | assumption
    | (with_reducible refine State.core4_fold_of ?_ fun t u ht => ?_)
    | ((try lift_lets -underBinder); intro x; first | ((have hx : x.core4 = c := by (simp only [x]; repeat' first | (simp -zeta [*]; done) | (with_reducible refine State.core4_fold_of ?_ fun t u ht => ?_) | (split <;> try (rename_i h; have h2 := State.core4_of_eq h; clear h)))); clear_value x) | clear_value x)
    | (simp -zeta [*]; done)
    | (split <;> try (rename_i h; have h2 := State.core4_of_eq h; clear h))

@[simp] theorem State.ptpFrame_core4 (s : State) (p : Nat) : (State.ptpFrame s p).core4 = s.core4 := by
  unfold State.ptpFrame
  repeat' split
  all_goals simp

@[simp] theorem execFrameReceived_keeps (port : PortId) (frame : RxFrame) (s : State) (k4 : Core4) (hk4 : s.core4 = k4) : keepsTo k4 (execFrameReceived port frame s) := by
  unfold execFrameReceived
  refine keepsTo_clocked hk4 ?_
  dsimp only
  repeat' first
    | assumption
    | (with_reducible refine (keepsTo_next _ _).2 ?_)
    | (with_reducible refine State.coreCommand_core4 _ _ _ _ ?_ fun t ht => ?_)
    | (with_reducible refine State.core4_fold_of ?_ fun t u ht => ?_)
    | (simp [*]; done)
    | (split <;> try (rename_i h; have h2 := State.core4_of_eq h; clear h))

@[simp] theorem execRtcpReceived_keeps (port : PortId) (chan : Chan) (items : List RtcpItem) (s : State) (k4 : Core4) (hk4 : s.core4 = k4) : keepsTo k4 (execRtcpReceived port chan items s) := by
  unfold execRtcpReceived
  refine keepsTo_clocked hk4 ?_
  repeat' first
    | assumption
    | (with_reducible refine (keepsTo_next _ _).2 ?_)
    | (with_reducible refine State.coreCommand_core4 _ _ _ _ ?_ fun t ht => ?_)
    | (with_reducible refine State.core4_fold_of ?_ fun t u ht => ?_)
    | ((try lift_lets -underBinder); intro x; first | ((have hx : x.core4 = k4 := by (simp only [x]; repeat' first | (simp -zeta [*]; done) | (with_reducible refine State.core4_fold_of ?_ fun t u ht => ?_) | (split <;> try (rename_i h; have h2 := State.core4_of_eq h; clear h)))); clear_value x) | clear_value x)
    | (simp -zeta [*]; done)
    | (split <;> try (rename_i h; have h2 := State.core4_of_eq h; clear h))

end Sys2Proof.Machine
end

