-- ==== Sys2Proof/Laws/KeepRegs.lean ====
section
/-!
SUPPORT. Sys2Proof/Laws/KeepRegs.lean: the operations of Machine/Regs.lean leave the queue of commands, the fuses, the DRAM and
the SRAM as they are.
-/

namespace Sys2Proof.Machine

set_option Elab.async false

@[simp] theorem stateAfter_core4 (s : State) (r : Result) (k4 : Core4) (h : s.core4 = k4) (hr : keepsTo k4 r) : (stateAfter s r).core4 = k4 := by
  cases r with
  | next t => exact hr
  | fault f => exact h
  | refused f => exact h

@[simp] theorem State.latchFor_core4 (s : State) (master a : Nat) : (State.latchFor s master a).core4 = s.core4 := by simp -zeta [State.latchFor]

@[simp] theorem State.regRead_core4 (s : State) (master a : Nat) : (State.regRead s master a).1.core4 = s.core4 := by
  unfold State.regRead
  obtain ⟨c, hc⟩ : ∃ c, s.core4 = c := ⟨_, rfl⟩
  rw [hc]
  repeat' first
    | assumption
    | (with_reducible refine State.core4_fold_of ?_ fun t u ht => ?_)
    | ((try lift_lets -underBinder); intro x; first | ((have hx : x.core4 = c := by (simp only [x]; repeat' first | (simp -zeta [*]; done) | (with_reducible refine State.core4_fold_of ?_ fun t u ht => ?_) | (split <;> try (rename_i h; have h2 := State.core4_of_eq h; clear h)))); clear_value x) | clear_value x)
    | (simp -zeta [*]; done)
    | (split <;> try (rename_i h; have h2 := State.core4_of_eq h; clear h))

@[simp] theorem State.ringWrite_core4 (s : State) (r : RingId) (off : Nat) (v : Word) : (State.ringWrite s r off v).core4 = s.core4 := by
  unfold State.ringWrite
  repeat' split
  all_goals simp

@[simp] theorem State.msixWrite_core4 (s : State) (n : VectorId) (off : Nat) (v : Word) : (State.msixWrite s n off v).core4 = s.core4 := by
  unfold State.msixWrite
  repeat' split
  all_goals simp

@[simp] theorem State.mailWrite_core4 (s : State) (off : Nat) (v : Word) : (State.mailWrite s off v).core4 = s.core4 := by
  unfold State.mailWrite
  repeat' split
  all_goals simp

@[simp] theorem State.shuttleCommand_core4 (s : State) (c : CoreId) (v : Nat) : (State.shuttleCommand s c v).core4 = s.core4 := by
  unfold State.shuttleCommand
  repeat' split
  all_goals simp

@[simp] theorem State.threadWrite_core4 (s : State) (master t off v : Nat) : (State.threadWrite s master t off v).core4 = s.core4 := by simp -zeta [State.threadWrite]

@[simp] theorem State.shuttleWrite_core4 (s : State) (master off : Nat) (v : Word) : (State.shuttleWrite s master off v).core4 = s.core4 := by
  unfold State.shuttleWrite
  split <;> simp -zeta

@[simp] theorem State.logWrite_core4 (s : State) (off : Nat) (v : Word) : (State.logWrite s off v).core4 = s.core4 := by simp -zeta [State.logWrite]

@[simp] theorem State.regWrite_core4 (s : State) (master a : Nat) (v : Word) : (State.regWrite s master a v).core4 = s.core4 := by
  unfold State.regWrite
  repeat' split
  all_goals simp

@[simp] theorem execRegisterWrite_keeps (addr : Nat) (val : Word) (s : State) (k4 : Core4) (hk4 : s.core4 = k4) : keepsTo k4 (execRegisterWrite addr val s) := by
  unfold execRegisterWrite
  refine keepsTo_clocked hk4 ?_
  repeat' split
  all_goals simp [hk4]

end Sys2Proof.Machine
end

