-- ==== Sys2Proof/Laws/KeepFabric.lean ====
section
/-!
SUPPORT. Sys2Proof/Laws/KeepFabric.lean: the operations of Machine/Fabric.lean leave the queue of commands, the fuses, the DRAM and
the SRAM as they are.
-/

namespace Sys2Proof.Machine

set_option Elab.async false

@[simp] theorem State.ringRead_core4 (s : State) (master : Nat) (aArg : List Nat) : (State.ringRead s master aArg).1.core4 = s.core4 := by
  induction aArg generalizing s with
  | nil => rfl
  | cons a t ih =>
    unfold State.ringRead
    simp only [ih]
    simp

@[simp] theorem State.ringWrites_core4 (s : State) (t : Txn) (d : Bytes) : (State.ringWrites s t d).core4 = s.core4 := by simp -zeta [State.ringWrites]

@[simp] theorem State.frozenRequest_core4 (s : State) (t : Txn) : (State.frozenRequest s t).core4 = s.core4 := by simp -zeta [State.frozenRequest]

end Sys2Proof.Machine
end

