-- ==== Sys2Proof/Laws/Memory.lean ====
section
/-!
SUPPORT. Sys2Proof/Laws/Memory.lean: a sparse map answers what was put into it; every memory operation keeps the canonical form; a byte
written reads back, and every other byte reads as before.
-/

namespace Sys2Proof.Machine

set_option Elab.async false

/-! ## Sparse maps -/

@[simp] theorem AMap.find?_put_self {α : Type} (m : AMap α) (k : Nat) (v : α) : AMap.find? (AMap.put m k v) k = some v := by
  induction m with
  | nil => simp [AMap.put, AMap.find?]
  | cons e t ih =>
    obtain ⟨k', v'⟩ := e
    unfold AMap.put
    split
    · simp [AMap.find?]
    · split
      · simp [AMap.find?]
      · simp [AMap.find?, *]

theorem AMap.find?_put_ne {α : Type} (m : AMap α) {k j : Nat} (v : α) (h : k ≠ j) : AMap.find? (AMap.put m k v) j = AMap.find? m j := by
  induction m with
  | nil => simp [AMap.put, AMap.find?, h]
  | cons e t ih =>
    obtain ⟨k', v'⟩ := e
    unfold AMap.put
    split
    · simp [AMap.find?, h]
    · split
      · rename_i hk
        subst hk
        simp [AMap.find?, h]
      · simp [AMap.find?, ih]

@[simp] theorem AMap.getD_put_self {α : Type} (m : AMap α) (k : Nat) (v d : α) : AMap.getD (AMap.put m k v) k d = v := by
  simp [AMap.getD]

theorem AMap.getD_put_ne {α : Type} (m : AMap α) {k j : Nat} (v d : α) (h : k ≠ j) :
    AMap.getD (AMap.put m k v) j d = AMap.getD m j d := by
  simp [AMap.getD, AMap.find?_put_ne m v h]

/-! ## The canonical form -/

theorem Memory.wf_cons {c : Host.Cell} {t : Memory} :
    Memory.wf (c :: t) = true ↔ c.2 ≠ 0 ∧ (∀ d ∈ t.head?, c.1 < d.1) ∧ Memory.wf t = true := by
  cases t with
  | nil => simp [Memory.wf]
  | cons d t => simp [Memory.wf, and_assoc]

/-- The first address of a memory after a write is the one written or the one that was first. -/
theorem Memory.head_write (m : Memory) (a : Nat) (b : Byte) (n : Nat) (h : ∀ d ∈ m.head?, n < d.1) (hn : n < a) (hm : Memory.wf m = true) :
    ∀ d ∈ (Memory.write m a b).head?, n < d.1 := by
  cases m with
  | nil => unfold Memory.write; split <;> simp [hn]
  | cons c t =>
    obtain ⟨a', b'⟩ := c
    have ha : n < a' := by simpa using h
    obtain ⟨-, ht, -⟩ := Memory.wf_cons.1 hm
    unfold Memory.write
    split
    · split <;> simp [ha, hn]
    · split
      · split
        · intro d hd
          exact Nat.lt_trans ha (ht d hd)
        · simp [hn]
      · simp [ha]

theorem Memory.write_wf (m : Memory) (a : Nat) (b : Byte) (h : Memory.wf m = true) : Memory.wf (Memory.write m a b) = true := by
  induction m with
  | nil =>
    unfold Memory.write
    split
    · rfl
    · rename_i hb
      simpa [Memory.wf] using hb
  | cons c t ih =>
    obtain ⟨a', b'⟩ := c
    obtain ⟨hb, ht, hw⟩ := Memory.wf_cons.1 h
    unfold Memory.write
    split
    · rename_i hlt
      split
      · exact h
      · exact Memory.wf_cons.2 ⟨by assumption, by simpa using hlt, h⟩
    · split
      · rename_i he
        subst he
        split
        · exact hw
        · exact Memory.wf_cons.2 ⟨by assumption, ht, hw⟩
      · exact Memory.wf_cons.2 ⟨hb, Memory.head_write t a b a' ht (by dsimp only at *; omega) hw, ih hw⟩

theorem Memory.writeBytes_wf (m : Memory) (a : Nat) (b : Bytes) (h : Memory.wf m = true) : Memory.wf (Memory.writeBytes m a b) = true := by
  induction b generalizing m a with
  | nil => exact h
  | cons x t ih => exact ih _ _ (Memory.write_wf m a x h)

/-! ## Reading what was written -/

theorem Memory.read_cons (a' a : Nat) (b' : Byte) (t : Memory) :
    Memory.read ((a', b') :: t) a = if a' = a then b' else Memory.read t a := by
  unfold Memory.read AMap.getD
  rw [AMap.find?]
  split <;> rfl

/-- An address below the first of a canonical memory reads as 0. -/
theorem Memory.read_low {m : Memory} (h : Memory.wf m = true) {a : Nat} (hl : ∀ d ∈ m.head?, a < d.1) : Memory.read m a = 0 := by
  induction m with
  | nil => rfl
  | cons c t ih =>
    obtain ⟨a', b'⟩ := c
    obtain ⟨-, ht, hw⟩ := Memory.wf_cons.1 h
    have ha : a < a' := by simpa using hl
    rw [Memory.read_cons, if_neg (by omega)]
    exact ih hw fun d hd => Nat.lt_trans ha (ht d hd)

theorem Memory.read_write_self (m : Memory) (a : Nat) (b : Byte) (h : Memory.wf m = true) : Memory.read (Memory.write m a b) a = b := by
  induction m with
  | nil =>
    unfold Memory.write
    split
    · rename_i hb
      rw [hb]
      rfl
    · rw [Memory.read_cons, if_pos rfl]
  | cons c t ih =>
    obtain ⟨a', b'⟩ := c
    obtain ⟨-, ht, hw⟩ := Memory.wf_cons.1 h
    unfold Memory.write
    split
    · rename_i hlt
      split
      · rename_i hb
        rw [hb]
        exact Memory.read_low h (by simpa using hlt)
      · rw [Memory.read_cons, if_pos rfl]
    · split
      · rename_i he
        subst he
        split
        · rename_i hb
          rw [hb]
          exact Memory.read_low hw ht
        · rw [Memory.read_cons, if_pos rfl]
      · rename_i he
        rw [Memory.read_cons, if_neg he]
        exact ih hw

theorem Memory.read_write_ne (m : Memory) {a x : Nat} (b : Byte) (h : a ≠ x) : Memory.read (Memory.write m a b) x = Memory.read m x := by
  induction m with
  | nil =>
    unfold Memory.write
    split
    · rfl
    · rw [Memory.read_cons, if_neg h]
  | cons c t ih =>
    obtain ⟨a', b'⟩ := c
    unfold Memory.write
    split
    · split
      · rfl
      · rw [Memory.read_cons, if_neg h]
    · split
      · rename_i he
        subst he
        split
        · rw [Memory.read_cons, if_neg h]
        · rw [Memory.read_cons, Memory.read_cons, if_neg h, if_neg h]
      · rw [Memory.read_cons, Memory.read_cons, ih]

theorem Memory.read_writeBytes_out (m : Memory) (a : Nat) (b : Bytes) {x : Nat} (h : x < a ∨ a + b.length ≤ x) :
    Memory.read (Memory.writeBytes m a b) x = Memory.read m x := by
  induction b generalizing m a with
  | nil => rfl
  | cons y t ih =>
    simp only [List.length_cons] at h
    unfold Memory.writeBytes
    rw [ih _ _ (by omega), Memory.read_write_ne m y (by omega)]

theorem Memory.readBytes_length (m : Memory) (a n : Nat) : (Memory.readBytes m a n).length = n := by
  induction n generalizing a with
  | zero => rfl
  | succ n ih => simp [Memory.readBytes, ih]

/-- A run of bytes written to a canonical memory reads back. -/
theorem Memory.readBytes_writeBytes (m : Memory) (a : Nat) (b : Bytes) (h : Memory.wf m = true) :
    Memory.readBytes (Memory.writeBytes m a b) a b.length = b := by
  induction b generalizing m a with
  | nil => rfl
  | cons x t ih =>
    simp only [List.length_cons, Memory.readBytes, Memory.writeBytes]
    rw [ih _ _ (Memory.write_wf m a x h), Memory.read_writeBytes_out _ _ _ (by omega), Memory.read_write_self m a x h]

/-- Bytes written at several addresses. -/
theorem Memory.foldl_write_wf {α : Type} (f : α → Nat) (g : α → Byte) (l : List α) (m : Memory) (h : Memory.wf m = true) :
    Memory.wf (l.foldl (fun m b => Memory.write m (f b) (g b)) m) = true := by
  induction l generalizing m with
  | nil => exact h
  | cons x t ih => exact ih _ (Memory.write_wf m _ _ h)

end Sys2Proof.Machine
end

