-- ==== Sys2Proof/Laws/Kept.lean ====
section
/-!
SUPPORT. Sys2Proof/Laws/Kept.lean: the commands that write a memory, blow fuses or reset the device: what they do to the queue, the fuses
and the canonical form of the memories.
-/

namespace Sys2Proof.Machine

set_option Elab.async false

/-- The queue of commands and the fuses are the same, and a memory in canonical form stays so. -/
def Kept (s t : State) : Prop :=
  t.pending = s.pending ∧ t.fuses = s.fuses ∧ (Memory.wf s.dram = true → Memory.wf t.dram = true) ∧
    (Memory.wf s.sram = true → Memory.wf t.sram = true)

theorem Kept.refl (s : State) : Kept s s := ⟨rfl, rfl, id, id⟩

theorem Kept.trans {s t u : State} (h : Kept s t) (k : Kept t u) : Kept s u :=
  ⟨k.1.trans h.1, k.2.1.trans h.2.1, k.2.2.1 ∘ h.2.2.1, k.2.2.2 ∘ h.2.2.2⟩

theorem Kept.of_core4 {s t : State} (h : t.core4 = s.core4) : Kept s t := by
  simp only [State.core4, Prod.mk.injEq] at h
  obtain ⟨hp, hf, hd, hs⟩ := h
  exact ⟨hp, hf, fun w => hd ▸ w, fun w => hs ▸ w⟩

/-- A state whose four parts are those of one that is kept. -/
theorem Kept.then {s t u : State} (h : Kept s t) (k : u.core4 = t.core4) : Kept s u := h.trans (.of_core4 k)

/-- A state reached from one with the same four parts. -/
theorem Kept.after {s t u : State} (k : Kept t u) (h : t.core4 = s.core4) : Kept s u := (Kept.of_core4 h).trans k

/-- A meaning whose clock may stand still answers the state itself or what it would answer otherwise. -/
theorem whenClocked_next {s t : State} {r : Result} (h : whenClocked s r = .next t) : t = s ∨ r = .next t := by
  unfold whenClocked at h
  split at h
  · cases h
    exact .inl rfl
  · exact .inr h

/-! ## Resets -/

theorem State.afterReset_kept (s : State) (cause : Nat) (warm : Bool) : Kept s (s.afterReset cause warm) := by
  refine ⟨rfl, rfl, fun _ => rfl, fun _ => rfl⟩

theorem State.warm_kept (s : State) (cause : Nat) : Kept s (s.warm cause) := s.afterReset_kept cause true

theorem execPowerOnReset_kept {lowNs : Nat} {s t : State} (h : execPowerOnReset lowNs s = .next t) : Kept s t := by
  unfold execPowerOnReset at h
  split at h <;> cases h
  · exact .refl s
  · exact s.afterReset_kept 0 false

theorem execWarmReset_kept {cause : WarmCause} {s t : State} (h : execWarmReset cause s = .next t) : Kept s t := by
  unfold execWarmReset at h
  split at h
  · split at h <;> cases h
    · exact .refl s
    · exact s.warm_kept 1
  · split at h
    · split at h <;> cases h
      · exact s.warm_kept 2
      · exact .refl s
    · cases h
      exact .refl s
  · split at h <;> cases h
    · exact .refl s
    · exact s.warm_kept 3

theorem execAonUndervoltage_kept {s t : State} (h : execAonUndervoltage s = .next t) : Kept s t := by
  cases h
  exact s.afterReset_kept 0 false

theorem execPowerDown_kept {s t : State} (h : execPowerDown s = .next t) : Kept s t := by
  cases h
  exact ⟨rfl, rfl, fun _ => rfl, fun _ => rfl⟩

theorem execActivationInstant_kept {s t : State} (h : execActivationInstant s = .next t) : Kept s t := by
  unfold execActivationInstant at h
  obtain rfl | h := whenClocked_next h
  · exact .refl _
  split at h
  · cases h
    exact .refl s
  · split at h <;> cases h
    · exact .refl s
    · exact (State.warm_kept _ 3).after rfl

theorem execTrialBoltReadyTimeout_kept {s t : State} (h : execTrialBoltReadyTimeout s = .next t) : Kept s t := by
  unfold execTrialBoltReadyTimeout at h
  obtain rfl | h := whenClocked_next h
  · exact .refl _
  split at h <;> cases h
  · exact s.warm_kept 3
  · exact .refl s

theorem execSafeStateResetExpiry_kept {s t : State} (h : execSafeStateResetExpiry s = .next t) : Kept s t := by
  unfold execSafeStateResetExpiry at h
  dsimp only at h
  split at h <;> cases h
  · exact s.warm_kept 3
  · exact .refl s

/-! ## The memories -/

theorem State.dramWrite_kept (s : State) (addr : Nat) (b : Bytes) : Kept s (s.dramWrite addr b) := by
  unfold State.dramWrite
  split
  · exact .refl s
  · extract_lets -underBinder u
    have hu : u.core4 = s.core4 := by simp [u]
    clear_value u
    exact Kept.after (Kept.then (s := u) (t := { u with dram := Memory.writeBytes u.dram addr b }) ⟨rfl, rfl, Memory.writeBytes_wf u.dram addr b, id⟩ (by simp)) hu

theorem State.issueWrite_kept (s : State) (c : Nat) (w : WriteEntry) : Kept s (s.issueWrite c w) := by
  unfold State.issueWrite
  extract_lets -underBinder t x u
  have h : u.core4 = s.core4 := by simp [u, t]
  clear_value u
  exact Kept.then (t := { u with dram := w.data.foldl (fun m b => Memory.write m (64 * w.unit + b.1) b.2) u.dram })
    (Kept.after (t := u) ⟨rfl, rfl, Memory.foldl_write_wf _ _ _ _, id⟩ h) (by simp)

theorem State.sramWrite_kept (s : State) (master a : Nat) (b : Byte) : Kept s (s.sramWrite master a b) := by
  unfold State.sramWrite
  split
  · exact .refl s
  · split
    · exact .of_core4 (by simp)
    · exact ⟨rfl, rfl, id, Memory.write_wf s.sram a b⟩

theorem State.sramWrites_kept (s : State) (master a : Nat) (b : Bytes) : Kept s (s.sramWrites master a b) := by
  induction b generalizing s a with
  | nil => exact .refl s
  | cons x t ih => exact (s.sramWrite_kept master a x).trans (ih _ _)

/-! ## The fabric -/

theorem State.reach_kept (s : State) (t : Txn) : Kept s (s.reach t).1 := by
  unfold State.reach
  split
  · exact s.sramWrites_kept _ _ _
  · exact .refl s
  · exact .of_core4 (by simp)
  · exact .of_core4 (by simp)
  · exact .refl s

theorem State.issue_kept (s : State) (t : Txn) : Kept s (s.issue t) := by
  unfold State.issue
  split
  · exact .of_core4 (by simp)
  · exact (s.reach_kept t).then rfl

theorem execFabricTransaction_kept {x : Txn} {s t : State} (h : execFabricTransaction x s = .next t) : Kept s t := by
  unfold execFabricTransaction at h
  obtain rfl | h := whenClocked_next h
  · exact .refl _
  split at h
  · cases h
  · split at h
    · cases h
    · split at h
      · split at h <;> cases h <;> exact .of_core4 (by simp)
      · split at h
        · cases h
          exact .refl s
        · split at h <;> cases h
          · exact ⟨rfl, rfl, id, id⟩
          · exact s.issue_kept x

theorem execFabricTagReturned_kept {m : MasterId} {s t : State} (h : execFabricTagReturned m s = .next t) : Kept s t := by
  unfold execFabricTagReturned at h
  obtain rfl | h := whenClocked_next h
  · exact .refl _
  dsimp only at h
  split at h
  · cases h
    exact .refl s
  · split at h <;> cases h
    · exact .of_core4 (by simp)
    · exact (State.issue_kept _ _).after (by simp)

/-! ## The DRAM channels and the Host -/

theorem execBeamCommandSlot_kept {ch : BeamChan} {s t : State} (h : execBeamCommandSlot ch s = .next t) : Kept s t := by
  unfold execBeamCommandSlot at h
  obtain rfl | h := whenClocked_next h
  · exact .refl _
  dsimp only at h
  split at h
  · cases h
    exact .refl s
  · split at h
    · cases h
      exact .of_core4 (by simp)
    · split at h
      · cases h
        exact .of_core4 (by simp)
      · split at h
        · cases h
          exact .of_core4 (by simp)
        · split at h <;> cases h
          · exact .of_core4 (by simp)
          · exact Kept.then ((State.issueWrite_kept _ _ _).after (by simp)) (State.beamBusy_core4 _)
          · exact .of_core4 (by simp)

theorem execBar2Access_kept {offset len : Nat} {wdata : Option Bytes} {s t : State} (h : execBar2Access offset len wdata s = .next t) :
    Kept s t := by
  unfold execBar2Access at h
  obtain rfl | h := whenClocked_next h
  · exact .refl _
  dsimp only at h
  split at h
  · cases h
    exact .refl s
  · split at h
    · cases h
      exact .of_core4 (by split <;> simp)
    · split at h
      · cases h
        exact .of_core4 (by simp)
      · split at h <;> cases h
        · exact s.dramWrite_kept _ _
        · exact ⟨rfl, rfl, id, id⟩

theorem State.hostToDevice_kept (s : State) (r : Nat) (d : Desc) (data : Bytes) : Kept s (s.hostToDevice r d data) := by
  unfold State.hostToDevice
  split
  · refine .of_core4 ?_
    dsimp only
    split <;> simp
  · split
    · exact ⟨rfl, rfl, id, id⟩
    · exact s.dramWrite_kept _ _

theorem State.unitEnd_kept (s : State) (r : Nat) (d : Desc) : Kept s (s.unitEnd r d) := by
  unfold State.unitEnd
  split
  · exact .of_core4 (by simp)
  · split
    · exact .of_core4 (by simp)
    · split
      · dsimp only
        split
        · exact (State.warm_kept _ 3).after (by simp)
        · exact .of_core4 (by simp)
      · exact .refl s

theorem execDmaDescriptorComplete_kept {ring : RingId} {host : List Bytes} {data : Bytes} {hostOk : Bool} {s t : State}
    (h : execDmaDescriptorComplete ring host data hostOk s = .next t) : Kept s t := by
  unfold execDmaDescriptorComplete at h
  obtain rfl | h := whenClocked_next h
  · exact .refl _
  extract_lets -underBinder r u x at h
  have hu : u.core4 = s.core4 := by simp only [u]; split <;> simp
  clear_value u
  refine Kept.after ?_ hu
  split at h
  · cases h
    exact .refl _
  · extract_lets -underBinder toDevice code y v at h
    split at h
    · cases h
      exact .refl _
    · split at h
      · cases h
        exact .of_core4 (by simp)
      · split at h
        · split at h
          · cases h
            exact .refl _
          · split at h
            · cases h
              exact .of_core4 (by simp)
            · cases h
              have hv : Kept u v := Kept.then (State.hostToDevice_kept _ _ _ _) (State.completeDesc_core4 _ _ _ _ _ _)
              split
              · exact hv.trans (State.unitEnd_kept _ _ _)
              · exact hv
        · split at h <;> cases h
          · exact .refl _
          · exact .of_core4 (by simp)

/-! ## The fuses -/

/-- R433: blowing fuses changes the fuses and leaves the queue and the memories as they are. -/
theorem execFuseBlow_memories {s t : State} (h : execFuseBlow s = .next t) : t.pending = s.pending ∧ t.dram = s.dram ∧ t.sram = s.sram := by
  have key : ∀ u : State, u.confirmDone.core4 = u.core4 := fun u => by simp
  unfold execFuseBlow at h
  obtain rfl | h := whenClocked_next h
  · exact ⟨rfl, rfl, rfl⟩
  split at h
  · cases h
    exact ⟨rfl, rfl, rfl⟩
  · split at h <;> cases h
    · exact ⟨rfl, rfl, rfl⟩
    · rename_i roll rev _ _
      have k := key { s with fuses := { s.fuses with rollback := roll, revoked := rev }, boot := { s.boot with blowAsked := none } }
      simp only [State.core4, Prod.mk.injEq] at k
      exact ⟨k.1, k.2.2⟩

end Sys2Proof.Machine
end

