-- ==== Sys2Proof/Laws/State.lean ====
section
/-!
SUPPORT. Sys2Proof/Laws/State.lean: what each update of the state leaves as it is, field by field and by every accessor, and what it sets.
The lemmas of one update stand in one conjunction, which simp takes apart.
-/

namespace Sys2Proof.Machine

set_option Elab.async false

/-! ## What an update leaves as it is -/

@[simp] theorem State.put_fields (s : State) (k : Nat) (v : Val) :
    (s.put k v).pending = s.pending ∧ (s.put k v).clk = s.clk ∧ (s.put k v).conf = s.conf ∧ (s.put k v).draft = s.draft ∧
    (s.put k v).pcie = s.pcie ∧ (s.put k v).fab = s.fab ∧ (s.put k v).flash = s.flash ∧ (s.put k v).fuses = s.fuses ∧
    (s.put k v).boot = s.boot ∧ (s.put k v).log = s.log ∧ (s.put k v).pmc = s.pmc ∧ (s.put k v).shtl = s.shtl ∧
    (s.put k v).gov = s.gov ∧ (s.put k v).lanes = s.lanes ∧ (s.put k v).beam = s.beam ∧ (s.put k v).time = s.time ∧
    (s.put k v).audio = s.audio ∧ (s.put k v).power = s.power ∧ (s.put k v).video = s.video ∧ (s.put k v).net = s.net ∧
    (s.put k v).dram = s.dram ∧ (s.put k v).sram = s.sram ∧ (s.put k v).freeCtr = s.freeCtr :=
  ⟨rfl, rfl, rfl, rfl, rfl, rfl, rfl, rfl, rfl, rfl, rfl, rfl, rfl, rfl, rfl, rfl, rfl, rfl, rfl, rfl, rfl, rfl, rfl⟩

@[simp] theorem State.set_fields (s : State) (k : Nat) (v : Int) :
    (s.set k v).pending = s.pending ∧ (s.set k v).clk = s.clk ∧ (s.set k v).conf = s.conf ∧ (s.set k v).draft = s.draft ∧
    (s.set k v).pcie = s.pcie ∧ (s.set k v).fab = s.fab ∧ (s.set k v).flash = s.flash ∧ (s.set k v).fuses = s.fuses ∧
    (s.set k v).boot = s.boot ∧ (s.set k v).log = s.log ∧ (s.set k v).pmc = s.pmc ∧ (s.set k v).shtl = s.shtl ∧
    (s.set k v).gov = s.gov ∧ (s.set k v).lanes = s.lanes ∧ (s.set k v).beam = s.beam ∧ (s.set k v).time = s.time ∧
    (s.set k v).audio = s.audio ∧ (s.set k v).power = s.power ∧ (s.set k v).video = s.video ∧ (s.set k v).net = s.net ∧
    (s.set k v).dram = s.dram ∧ (s.set k v).sram = s.sram ∧ (s.set k v).freeCtr = s.freeCtr :=
  ⟨rfl, rfl, rfl, rfl, rfl, rfl, rfl, rfl, rfl, rfl, rfl, rfl, rfl, rfl, rfl, rfl, rfl, rfl, rfl, rfl, rfl, rfl, rfl⟩

@[simp] theorem State.setN_fields (s : State) (k v : Nat) :
    (s.setN k v).pending = s.pending ∧ (s.setN k v).clk = s.clk ∧ (s.setN k v).conf = s.conf ∧ (s.setN k v).draft = s.draft ∧
    (s.setN k v).pcie = s.pcie ∧ (s.setN k v).fab = s.fab ∧ (s.setN k v).flash = s.flash ∧ (s.setN k v).fuses = s.fuses ∧
    (s.setN k v).boot = s.boot ∧ (s.setN k v).log = s.log ∧ (s.setN k v).pmc = s.pmc ∧ (s.setN k v).shtl = s.shtl ∧
    (s.setN k v).gov = s.gov ∧ (s.setN k v).lanes = s.lanes ∧ (s.setN k v).beam = s.beam ∧ (s.setN k v).time = s.time ∧
    (s.setN k v).audio = s.audio ∧ (s.setN k v).power = s.power ∧ (s.setN k v).video = s.video ∧ (s.setN k v).net = s.net ∧
    (s.setN k v).dram = s.dram ∧ (s.setN k v).sram = s.sram ∧ (s.setN k v).freeCtr = s.freeCtr :=
  ⟨rfl, rfl, rfl, rfl, rfl, rfl, rfl, rfl, rfl, rfl, rfl, rfl, rfl, rfl, rfl, rfl, rfl, rfl, rfl, rfl, rfl, rfl, rfl⟩

@[simp] theorem State.add_fields (s : State) (k n : Nat) :
    (s.add k n).pending = s.pending ∧ (s.add k n).clk = s.clk ∧ (s.add k n).conf = s.conf ∧ (s.add k n).draft = s.draft ∧
    (s.add k n).pcie = s.pcie ∧ (s.add k n).fab = s.fab ∧ (s.add k n).flash = s.flash ∧ (s.add k n).fuses = s.fuses ∧
    (s.add k n).boot = s.boot ∧ (s.add k n).log = s.log ∧ (s.add k n).pmc = s.pmc ∧ (s.add k n).shtl = s.shtl ∧
    (s.add k n).gov = s.gov ∧ (s.add k n).lanes = s.lanes ∧ (s.add k n).beam = s.beam ∧ (s.add k n).time = s.time ∧
    (s.add k n).audio = s.audio ∧ (s.add k n).power = s.power ∧ (s.add k n).video = s.video ∧ (s.add k n).net = s.net ∧
    (s.add k n).dram = s.dram ∧ (s.add k n).sram = s.sram ∧ (s.add k n).freeCtr = s.freeCtr :=
  ⟨rfl, rfl, rfl, rfl, rfl, rfl, rfl, rfl, rfl, rfl, rfl, rfl, rfl, rfl, rfl, rfl, rfl, rfl, rfl, rfl, rfl, rfl, rfl⟩

@[simp] theorem State.bump_fields (s : State) (k : Nat) :
    (s.bump k).pending = s.pending ∧ (s.bump k).clk = s.clk ∧ (s.bump k).conf = s.conf ∧ (s.bump k).draft = s.draft ∧
    (s.bump k).pcie = s.pcie ∧ (s.bump k).fab = s.fab ∧ (s.bump k).flash = s.flash ∧ (s.bump k).fuses = s.fuses ∧
    (s.bump k).boot = s.boot ∧ (s.bump k).log = s.log ∧ (s.bump k).pmc = s.pmc ∧ (s.bump k).shtl = s.shtl ∧ (s.bump k).gov = s.gov ∧
    (s.bump k).lanes = s.lanes ∧ (s.bump k).beam = s.beam ∧ (s.bump k).time = s.time ∧ (s.bump k).audio = s.audio ∧
    (s.bump k).power = s.power ∧ (s.bump k).video = s.video ∧ (s.bump k).net = s.net ∧ (s.bump k).dram = s.dram ∧
    (s.bump k).sram = s.sram ∧ (s.bump k).freeCtr = s.freeCtr :=
  ⟨rfl, rfl, rfl, rfl, rfl, rfl, rfl, rfl, rfl, rfl, rfl, rfl, rfl, rfl, rfl, rfl, rfl, rfl, rfl, rfl, rfl, rfl, rfl⟩

@[simp] theorem State.count_fields (s : State) (n k : Nat) :
    (s.count n k).pending = s.pending ∧ (s.count n k).clk = s.clk ∧ (s.count n k).objs = s.objs ∧ (s.count n k).conf = s.conf ∧
    (s.count n k).draft = s.draft ∧ (s.count n k).pcie = s.pcie ∧ (s.count n k).fab = s.fab ∧ (s.count n k).flash = s.flash ∧
    (s.count n k).fuses = s.fuses ∧ (s.count n k).boot = s.boot ∧ (s.count n k).log = s.log ∧ (s.count n k).shtl = s.shtl ∧
    (s.count n k).gov = s.gov ∧ (s.count n k).lanes = s.lanes ∧ (s.count n k).beam = s.beam ∧ (s.count n k).time = s.time ∧
    (s.count n k).audio = s.audio ∧ (s.count n k).power = s.power ∧ (s.count n k).video = s.video ∧ (s.count n k).net = s.net ∧
    (s.count n k).dram = s.dram ∧ (s.count n k).sram = s.sram ∧ (s.count n k).freeCtr = s.freeCtr :=
  ⟨rfl, rfl, rfl, rfl, rfl, rfl, rfl, rfl, rfl, rfl, rfl, rfl, rfl, rfl, rfl, rfl, rfl, rfl, rfl, rfl, rfl, rfl, rfl⟩

@[simp] theorem State.nextFree_fields (s : State) :
    (s.nextFree).pending = s.pending ∧ (s.nextFree).clk = s.clk ∧ (s.nextFree).objs = s.objs ∧ (s.nextFree).conf = s.conf ∧
    (s.nextFree).draft = s.draft ∧ (s.nextFree).pcie = s.pcie ∧ (s.nextFree).fab = s.fab ∧ (s.nextFree).flash = s.flash ∧
    (s.nextFree).fuses = s.fuses ∧ (s.nextFree).boot = s.boot ∧ (s.nextFree).log = s.log ∧ (s.nextFree).pmc = s.pmc ∧
    (s.nextFree).shtl = s.shtl ∧ (s.nextFree).gov = s.gov ∧ (s.nextFree).lanes = s.lanes ∧ (s.nextFree).beam = s.beam ∧
    (s.nextFree).time = s.time ∧ (s.nextFree).audio = s.audio ∧ (s.nextFree).power = s.power ∧ (s.nextFree).video = s.video ∧
    (s.nextFree).net = s.net ∧ (s.nextFree).dram = s.dram ∧ (s.nextFree).sram = s.sram :=
  ⟨rfl, rfl, rfl, rfl, rfl, rfl, rfl, rfl, rfl, rfl, rfl, rfl, rfl, rfl, rfl, rfl, rfl, rfl, rfl, rfl, rfl, rfl, rfl⟩

@[simp] theorem State.emit_fields (s : State) (o : Sent) :
    (s.emit o).pending = s.pending ∧ (s.emit o).clk = s.clk ∧ (s.emit o).objs = s.objs ∧ (s.emit o).conf = s.conf ∧
    (s.emit o).draft = s.draft ∧ (s.emit o).pcie = s.pcie ∧ (s.emit o).fab = s.fab ∧ (s.emit o).flash = s.flash ∧
    (s.emit o).fuses = s.fuses ∧ (s.emit o).boot = s.boot ∧ (s.emit o).log = s.log ∧ (s.emit o).pmc = s.pmc ∧ (s.emit o).shtl = s.shtl ∧
    (s.emit o).gov = s.gov ∧ (s.emit o).lanes = s.lanes ∧ (s.emit o).beam = s.beam ∧ (s.emit o).time = s.time ∧
    (s.emit o).audio = s.audio ∧ (s.emit o).power = s.power ∧ (s.emit o).video = s.video ∧ (s.emit o).dram = s.dram ∧
    (s.emit o).sram = s.sram ∧ (s.emit o).freeCtr = s.freeCtr :=
  ⟨rfl, rfl, rfl, rfl, rfl, rfl, rfl, rfl, rfl, rfl, rfl, rfl, rfl, rfl, rfl, rfl, rfl, rfl, rfl, rfl, rfl, rfl, rfl⟩

@[simp] theorem State.setPort_fields (s : State) (p : Nat) (x : PortSt) :
    (s.setPort p x).pending = s.pending ∧ (s.setPort p x).clk = s.clk ∧ (s.setPort p x).objs = s.objs ∧ (s.setPort p x).conf = s.conf ∧
    (s.setPort p x).draft = s.draft ∧ (s.setPort p x).pcie = s.pcie ∧ (s.setPort p x).fab = s.fab ∧ (s.setPort p x).flash = s.flash ∧
    (s.setPort p x).fuses = s.fuses ∧ (s.setPort p x).boot = s.boot ∧ (s.setPort p x).log = s.log ∧ (s.setPort p x).pmc = s.pmc ∧
    (s.setPort p x).shtl = s.shtl ∧ (s.setPort p x).gov = s.gov ∧ (s.setPort p x).lanes = s.lanes ∧ (s.setPort p x).beam = s.beam ∧
    (s.setPort p x).time = s.time ∧ (s.setPort p x).audio = s.audio ∧ (s.setPort p x).power = s.power ∧
    (s.setPort p x).video = s.video ∧ (s.setPort p x).dram = s.dram ∧ (s.setPort p x).sram = s.sram ∧
    (s.setPort p x).freeCtr = s.freeCtr :=
  ⟨rfl, rfl, rfl, rfl, rfl, rfl, rfl, rfl, rfl, rfl, rfl, rfl, rfl, rfl, rfl, rfl, rfl, rfl, rfl, rfl, rfl, rfl, rfl⟩

@[simp] theorem State.setVec_fields (s : State) (v : Nat) (x : VecSt) :
    (s.setVec v x).pending = s.pending ∧ (s.setVec v x).clk = s.clk ∧ (s.setVec v x).objs = s.objs ∧ (s.setVec v x).conf = s.conf ∧
    (s.setVec v x).draft = s.draft ∧ (s.setVec v x).fab = s.fab ∧ (s.setVec v x).flash = s.flash ∧ (s.setVec v x).fuses = s.fuses ∧
    (s.setVec v x).boot = s.boot ∧ (s.setVec v x).log = s.log ∧ (s.setVec v x).pmc = s.pmc ∧ (s.setVec v x).shtl = s.shtl ∧
    (s.setVec v x).gov = s.gov ∧ (s.setVec v x).lanes = s.lanes ∧ (s.setVec v x).beam = s.beam ∧ (s.setVec v x).time = s.time ∧
    (s.setVec v x).audio = s.audio ∧ (s.setVec v x).power = s.power ∧ (s.setVec v x).video = s.video ∧ (s.setVec v x).net = s.net ∧
    (s.setVec v x).dram = s.dram ∧ (s.setVec v x).sram = s.sram ∧ (s.setVec v x).freeCtr = s.freeCtr :=
  ⟨rfl, rfl, rfl, rfl, rfl, rfl, rfl, rfl, rfl, rfl, rfl, rfl, rfl, rfl, rfl, rfl, rfl, rfl, rfl, rfl, rfl, rfl, rfl⟩

@[simp] theorem State.setReed_fields (s : State) (c : Nat) (x : ReedSt) :
    (s.setReed c x).pending = s.pending ∧ (s.setReed c x).clk = s.clk ∧ (s.setReed c x).objs = s.objs ∧ (s.setReed c x).conf = s.conf ∧
    (s.setReed c x).draft = s.draft ∧ (s.setReed c x).pcie = s.pcie ∧ (s.setReed c x).fab = s.fab ∧ (s.setReed c x).flash = s.flash ∧
    (s.setReed c x).fuses = s.fuses ∧ (s.setReed c x).boot = s.boot ∧ (s.setReed c x).log = s.log ∧ (s.setReed c x).pmc = s.pmc ∧
    (s.setReed c x).shtl = s.shtl ∧ (s.setReed c x).gov = s.gov ∧ (s.setReed c x).lanes = s.lanes ∧ (s.setReed c x).beam = s.beam ∧
    (s.setReed c x).time = s.time ∧ (s.setReed c x).audio = s.audio ∧ (s.setReed c x).power = s.power ∧ (s.setReed c x).net = s.net ∧
    (s.setReed c x).dram = s.dram ∧ (s.setReed c x).sram = s.sram ∧ (s.setReed c x).freeCtr = s.freeCtr :=
  ⟨rfl, rfl, rfl, rfl, rfl, rfl, rfl, rfl, rfl, rfl, rfl, rfl, rfl, rfl, rfl, rfl, rfl, rfl, rfl, rfl, rfl, rfl, rfl⟩

@[simp] theorem State.setPress_fields (s : State) (c : Nat) (x : PressSt) :
    (s.setPress c x).pending = s.pending ∧ (s.setPress c x).clk = s.clk ∧ (s.setPress c x).objs = s.objs ∧
    (s.setPress c x).conf = s.conf ∧ (s.setPress c x).draft = s.draft ∧ (s.setPress c x).pcie = s.pcie ∧ (s.setPress c x).fab = s.fab ∧
    (s.setPress c x).flash = s.flash ∧ (s.setPress c x).fuses = s.fuses ∧ (s.setPress c x).boot = s.boot ∧
    (s.setPress c x).log = s.log ∧ (s.setPress c x).pmc = s.pmc ∧ (s.setPress c x).shtl = s.shtl ∧ (s.setPress c x).gov = s.gov ∧
    (s.setPress c x).lanes = s.lanes ∧ (s.setPress c x).beam = s.beam ∧ (s.setPress c x).time = s.time ∧
    (s.setPress c x).audio = s.audio ∧ (s.setPress c x).power = s.power ∧ (s.setPress c x).net = s.net ∧
    (s.setPress c x).dram = s.dram ∧ (s.setPress c x).sram = s.sram ∧ (s.setPress c x).freeCtr = s.freeCtr :=
  ⟨rfl, rfl, rfl, rfl, rfl, rfl, rfl, rfl, rfl, rfl, rfl, rfl, rfl, rfl, rfl, rfl, rfl, rfl, rfl, rfl, rfl, rfl, rfl⟩

@[simp] theorem State.setChan_fields (s : State) (c : Nat) (x : ChanSt) :
    (s.setChan c x).pending = s.pending ∧ (s.setChan c x).clk = s.clk ∧ (s.setChan c x).objs = s.objs ∧ (s.setChan c x).conf = s.conf ∧
    (s.setChan c x).draft = s.draft ∧ (s.setChan c x).pcie = s.pcie ∧ (s.setChan c x).fab = s.fab ∧ (s.setChan c x).flash = s.flash ∧
    (s.setChan c x).fuses = s.fuses ∧ (s.setChan c x).boot = s.boot ∧ (s.setChan c x).log = s.log ∧ (s.setChan c x).pmc = s.pmc ∧
    (s.setChan c x).shtl = s.shtl ∧ (s.setChan c x).gov = s.gov ∧ (s.setChan c x).lanes = s.lanes ∧ (s.setChan c x).beam = s.beam ∧
    (s.setChan c x).time = s.time ∧ (s.setChan c x).audio = s.audio ∧ (s.setChan c x).power = s.power ∧ (s.setChan c x).net = s.net ∧
    (s.setChan c x).dram = s.dram ∧ (s.setChan c x).sram = s.sram ∧ (s.setChan c x).freeCtr = s.freeCtr :=
  ⟨rfl, rfl, rfl, rfl, rfl, rfl, rfl, rfl, rfl, rfl, rfl, rfl, rfl, rfl, rfl, rfl, rfl, rfl, rfl, rfl, rfl, rfl, rfl⟩

@[simp] theorem State.setLoom_fields (s : State) (l : Nat) (x : LoomSt) :
    (s.setLoom l x).pending = s.pending ∧ (s.setLoom l x).clk = s.clk ∧ (s.setLoom l x).objs = s.objs ∧ (s.setLoom l x).conf = s.conf ∧
    (s.setLoom l x).draft = s.draft ∧ (s.setLoom l x).pcie = s.pcie ∧ (s.setLoom l x).fab = s.fab ∧ (s.setLoom l x).flash = s.flash ∧
    (s.setLoom l x).fuses = s.fuses ∧ (s.setLoom l x).boot = s.boot ∧ (s.setLoom l x).log = s.log ∧ (s.setLoom l x).pmc = s.pmc ∧
    (s.setLoom l x).shtl = s.shtl ∧ (s.setLoom l x).gov = s.gov ∧ (s.setLoom l x).lanes = s.lanes ∧ (s.setLoom l x).beam = s.beam ∧
    (s.setLoom l x).time = s.time ∧ (s.setLoom l x).audio = s.audio ∧ (s.setLoom l x).power = s.power ∧ (s.setLoom l x).net = s.net ∧
    (s.setLoom l x).dram = s.dram ∧ (s.setLoom l x).sram = s.sram ∧ (s.setLoom l x).freeCtr = s.freeCtr :=
  ⟨rfl, rfl, rfl, rfl, rfl, rfl, rfl, rfl, rfl, rfl, rfl, rfl, rfl, rfl, rfl, rfl, rfl, rfl, rfl, rfl, rfl, rfl, rfl⟩

@[simp] theorem State.setUnp_fields (s : State) (u : Nat) (x : UnpSt) :
    (s.setUnp u x).pending = s.pending ∧ (s.setUnp u x).clk = s.clk ∧ (s.setUnp u x).objs = s.objs ∧ (s.setUnp u x).conf = s.conf ∧
    (s.setUnp u x).draft = s.draft ∧ (s.setUnp u x).pcie = s.pcie ∧ (s.setUnp u x).fab = s.fab ∧ (s.setUnp u x).flash = s.flash ∧
    (s.setUnp u x).fuses = s.fuses ∧ (s.setUnp u x).boot = s.boot ∧ (s.setUnp u x).log = s.log ∧ (s.setUnp u x).pmc = s.pmc ∧
    (s.setUnp u x).shtl = s.shtl ∧ (s.setUnp u x).gov = s.gov ∧ (s.setUnp u x).lanes = s.lanes ∧ (s.setUnp u x).beam = s.beam ∧
    (s.setUnp u x).time = s.time ∧ (s.setUnp u x).audio = s.audio ∧ (s.setUnp u x).power = s.power ∧ (s.setUnp u x).net = s.net ∧
    (s.setUnp u x).dram = s.dram ∧ (s.setUnp u x).sram = s.sram ∧ (s.setUnp u x).freeCtr = s.freeCtr :=
  ⟨rfl, rfl, rfl, rfl, rfl, rfl, rfl, rfl, rfl, rfl, rfl, rfl, rfl, rfl, rfl, rfl, rfl, rfl, rfl, rfl, rfl, rfl, rfl⟩

@[simp] theorem State.setLane_fields (s : State) (n : Nat) (x : LaneSt) :
    (s.setLane n x).pending = s.pending ∧ (s.setLane n x).clk = s.clk ∧ (s.setLane n x).objs = s.objs ∧ (s.setLane n x).conf = s.conf ∧
    (s.setLane n x).draft = s.draft ∧ (s.setLane n x).pcie = s.pcie ∧ (s.setLane n x).fab = s.fab ∧ (s.setLane n x).flash = s.flash ∧
    (s.setLane n x).fuses = s.fuses ∧ (s.setLane n x).boot = s.boot ∧ (s.setLane n x).log = s.log ∧ (s.setLane n x).pmc = s.pmc ∧
    (s.setLane n x).shtl = s.shtl ∧ (s.setLane n x).gov = s.gov ∧ (s.setLane n x).beam = s.beam ∧ (s.setLane n x).time = s.time ∧
    (s.setLane n x).audio = s.audio ∧ (s.setLane n x).power = s.power ∧ (s.setLane n x).video = s.video ∧ (s.setLane n x).net = s.net ∧
    (s.setLane n x).dram = s.dram ∧ (s.setLane n x).sram = s.sram ∧ (s.setLane n x).freeCtr = s.freeCtr :=
  ⟨rfl, rfl, rfl, rfl, rfl, rfl, rfl, rfl, rfl, rfl, rfl, rfl, rfl, rfl, rfl, rfl, rfl, rfl, rfl, rfl, rfl, rfl, rfl⟩

@[simp] theorem State.setDom_fields (s : State) (d : Nat) (x : DomainSt) :
    (s.setDom d x).pending = s.pending ∧ (s.setDom d x).clk = s.clk ∧ (s.setDom d x).objs = s.objs ∧ (s.setDom d x).conf = s.conf ∧
    (s.setDom d x).draft = s.draft ∧ (s.setDom d x).pcie = s.pcie ∧ (s.setDom d x).fab = s.fab ∧ (s.setDom d x).flash = s.flash ∧
    (s.setDom d x).fuses = s.fuses ∧ (s.setDom d x).boot = s.boot ∧ (s.setDom d x).log = s.log ∧ (s.setDom d x).pmc = s.pmc ∧
    (s.setDom d x).shtl = s.shtl ∧ (s.setDom d x).gov = s.gov ∧ (s.setDom d x).lanes = s.lanes ∧ (s.setDom d x).beam = s.beam ∧
    (s.setDom d x).audio = s.audio ∧ (s.setDom d x).power = s.power ∧ (s.setDom d x).video = s.video ∧ (s.setDom d x).net = s.net ∧
    (s.setDom d x).dram = s.dram ∧ (s.setDom d x).sram = s.sram ∧ (s.setDom d x).freeCtr = s.freeCtr :=
  ⟨rfl, rfl, rfl, rfl, rfl, rfl, rfl, rfl, rfl, rfl, rfl, rfl, rfl, rfl, rfl, rfl, rfl, rfl, rfl, rfl, rfl, rfl, rfl⟩

@[simp] theorem State.setRing_fields (s : State) (r : Nat) (x : RingSt) :
    (s.setRing r x).pending = s.pending ∧ (s.setRing r x).clk = s.clk ∧ (s.setRing r x).objs = s.objs ∧ (s.setRing r x).conf = s.conf ∧
    (s.setRing r x).draft = s.draft ∧ (s.setRing r x).fab = s.fab ∧ (s.setRing r x).flash = s.flash ∧ (s.setRing r x).fuses = s.fuses ∧
    (s.setRing r x).boot = s.boot ∧ (s.setRing r x).log = s.log ∧ (s.setRing r x).pmc = s.pmc ∧ (s.setRing r x).shtl = s.shtl ∧
    (s.setRing r x).gov = s.gov ∧ (s.setRing r x).lanes = s.lanes ∧ (s.setRing r x).beam = s.beam ∧ (s.setRing r x).time = s.time ∧
    (s.setRing r x).audio = s.audio ∧ (s.setRing r x).power = s.power ∧ (s.setRing r x).video = s.video ∧ (s.setRing r x).net = s.net ∧
    (s.setRing r x).dram = s.dram ∧ (s.setRing r x).sram = s.sram ∧ (s.setRing r x).freeCtr = s.freeCtr :=
  ⟨rfl, rfl, rfl, rfl, rfl, rfl, rfl, rfl, rfl, rfl, rfl, rfl, rfl, rfl, rfl, rfl, rfl, rfl, rfl, rfl, rfl, rfl, rfl⟩

@[simp] theorem State.setBch_fields (s : State) (n : Nat) (x : BeamChSt) :
    (s.setBch n x).pending = s.pending ∧ (s.setBch n x).clk = s.clk ∧ (s.setBch n x).objs = s.objs ∧ (s.setBch n x).conf = s.conf ∧
    (s.setBch n x).draft = s.draft ∧ (s.setBch n x).pcie = s.pcie ∧ (s.setBch n x).fab = s.fab ∧ (s.setBch n x).flash = s.flash ∧
    (s.setBch n x).fuses = s.fuses ∧ (s.setBch n x).boot = s.boot ∧ (s.setBch n x).log = s.log ∧ (s.setBch n x).pmc = s.pmc ∧
    (s.setBch n x).shtl = s.shtl ∧ (s.setBch n x).gov = s.gov ∧ (s.setBch n x).lanes = s.lanes ∧ (s.setBch n x).time = s.time ∧
    (s.setBch n x).audio = s.audio ∧ (s.setBch n x).power = s.power ∧ (s.setBch n x).video = s.video ∧ (s.setBch n x).net = s.net ∧
    (s.setBch n x).dram = s.dram ∧ (s.setBch n x).sram = s.sram ∧ (s.setBch n x).freeCtr = s.freeCtr :=
  ⟨rfl, rfl, rfl, rfl, rfl, rfl, rfl, rfl, rfl, rfl, rfl, rfl, rfl, rfl, rfl, rfl, rfl, rfl, rfl, rfl, rfl, rfl, rfl⟩

@[simp] theorem State.setAport_fields (s : State) (a : Nat) (x : AudioSt) :
    (s.setAport a x).pending = s.pending ∧ (s.setAport a x).clk = s.clk ∧ (s.setAport a x).objs = s.objs ∧
    (s.setAport a x).conf = s.conf ∧ (s.setAport a x).draft = s.draft ∧ (s.setAport a x).pcie = s.pcie ∧ (s.setAport a x).fab = s.fab ∧
    (s.setAport a x).flash = s.flash ∧ (s.setAport a x).fuses = s.fuses ∧ (s.setAport a x).boot = s.boot ∧
    (s.setAport a x).log = s.log ∧ (s.setAport a x).pmc = s.pmc ∧ (s.setAport a x).shtl = s.shtl ∧ (s.setAport a x).gov = s.gov ∧
    (s.setAport a x).lanes = s.lanes ∧ (s.setAport a x).beam = s.beam ∧ (s.setAport a x).time = s.time ∧
    (s.setAport a x).power = s.power ∧ (s.setAport a x).video = s.video ∧ (s.setAport a x).net = s.net ∧
    (s.setAport a x).dram = s.dram ∧ (s.setAport a x).sram = s.sram ∧ (s.setAport a x).freeCtr = s.freeCtr :=
  ⟨rfl, rfl, rfl, rfl, rfl, rfl, rfl, rfl, rfl, rfl, rfl, rfl, rfl, rfl, rfl, rfl, rfl, rfl, rfl, rfl, rfl, rfl, rfl⟩

@[simp] theorem State.setAbind_fields (s : State) (i : Nat) (x : ABindSt) :
    (s.setAbind i x).pending = s.pending ∧ (s.setAbind i x).clk = s.clk ∧ (s.setAbind i x).objs = s.objs ∧
    (s.setAbind i x).conf = s.conf ∧ (s.setAbind i x).draft = s.draft ∧ (s.setAbind i x).pcie = s.pcie ∧ (s.setAbind i x).fab = s.fab ∧
    (s.setAbind i x).flash = s.flash ∧ (s.setAbind i x).fuses = s.fuses ∧ (s.setAbind i x).boot = s.boot ∧
    (s.setAbind i x).log = s.log ∧ (s.setAbind i x).pmc = s.pmc ∧ (s.setAbind i x).shtl = s.shtl ∧ (s.setAbind i x).gov = s.gov ∧
    (s.setAbind i x).lanes = s.lanes ∧ (s.setAbind i x).beam = s.beam ∧ (s.setAbind i x).time = s.time ∧
    (s.setAbind i x).power = s.power ∧ (s.setAbind i x).video = s.video ∧ (s.setAbind i x).net = s.net ∧
    (s.setAbind i x).dram = s.dram ∧ (s.setAbind i x).sram = s.sram ∧ (s.setAbind i x).freeCtr = s.freeCtr :=
  ⟨rfl, rfl, rfl, rfl, rfl, rfl, rfl, rfl, rfl, rfl, rfl, rfl, rfl, rfl, rfl, rfl, rfl, rfl, rfl, rfl, rfl, rfl, rfl⟩

@[simp] theorem State.setThread_fields (s : State) (t : Nat) (x : Thread) :
    (s.setThread t x).pending = s.pending ∧ (s.setThread t x).clk = s.clk ∧ (s.setThread t x).objs = s.objs ∧
    (s.setThread t x).conf = s.conf ∧ (s.setThread t x).draft = s.draft ∧ (s.setThread t x).pcie = s.pcie ∧
    (s.setThread t x).fab = s.fab ∧ (s.setThread t x).flash = s.flash ∧ (s.setThread t x).fuses = s.fuses ∧
    (s.setThread t x).boot = s.boot ∧ (s.setThread t x).log = s.log ∧ (s.setThread t x).pmc = s.pmc ∧ (s.setThread t x).gov = s.gov ∧
    (s.setThread t x).lanes = s.lanes ∧ (s.setThread t x).beam = s.beam ∧ (s.setThread t x).time = s.time ∧
    (s.setThread t x).audio = s.audio ∧ (s.setThread t x).power = s.power ∧ (s.setThread t x).video = s.video ∧
    (s.setThread t x).net = s.net ∧ (s.setThread t x).dram = s.dram ∧ (s.setThread t x).sram = s.sram ∧
    (s.setThread t x).freeCtr = s.freeCtr :=
  ⟨rfl, rfl, rfl, rfl, rfl, rfl, rfl, rfl, rfl, rfl, rfl, rfl, rfl, rfl, rfl, rfl, rfl, rfl, rfl, rfl, rfl, rfl, rfl⟩

@[simp] theorem State.setCore_fields (s : State) (c : Nat) (x : CoreSt) :
    (s.setCore c x).pending = s.pending ∧ (s.setCore c x).clk = s.clk ∧ (s.setCore c x).objs = s.objs ∧ (s.setCore c x).conf = s.conf ∧
    (s.setCore c x).draft = s.draft ∧ (s.setCore c x).pcie = s.pcie ∧ (s.setCore c x).fab = s.fab ∧ (s.setCore c x).flash = s.flash ∧
    (s.setCore c x).fuses = s.fuses ∧ (s.setCore c x).boot = s.boot ∧ (s.setCore c x).log = s.log ∧ (s.setCore c x).pmc = s.pmc ∧
    (s.setCore c x).gov = s.gov ∧ (s.setCore c x).lanes = s.lanes ∧ (s.setCore c x).beam = s.beam ∧ (s.setCore c x).time = s.time ∧
    (s.setCore c x).audio = s.audio ∧ (s.setCore c x).power = s.power ∧ (s.setCore c x).video = s.video ∧ (s.setCore c x).net = s.net ∧
    (s.setCore c x).dram = s.dram ∧ (s.setCore c x).sram = s.sram ∧ (s.setCore c x).freeCtr = s.freeCtr :=
  ⟨rfl, rfl, rfl, rfl, rfl, rfl, rfl, rfl, rfl, rfl, rfl, rfl, rfl, rfl, rfl, rfl, rfl, rfl, rfl, rfl, rfl, rfl, rfl⟩

@[simp] theorem State.queueChain_fields (s : State) (side cls : Nat) (b : Bytes) :
    (s.queueChain side cls b).pending = s.pending ∧ (s.queueChain side cls b).clk = s.clk ∧ (s.queueChain side cls b).objs = s.objs ∧
    (s.queueChain side cls b).conf = s.conf ∧ (s.queueChain side cls b).draft = s.draft ∧ (s.queueChain side cls b).pcie = s.pcie ∧
    (s.queueChain side cls b).fab = s.fab ∧ (s.queueChain side cls b).flash = s.flash ∧ (s.queueChain side cls b).fuses = s.fuses ∧
    (s.queueChain side cls b).boot = s.boot ∧ (s.queueChain side cls b).log = s.log ∧ (s.queueChain side cls b).pmc = s.pmc ∧
    (s.queueChain side cls b).shtl = s.shtl ∧ (s.queueChain side cls b).gov = s.gov ∧ (s.queueChain side cls b).lanes = s.lanes ∧
    (s.queueChain side cls b).beam = s.beam ∧ (s.queueChain side cls b).time = s.time ∧ (s.queueChain side cls b).audio = s.audio ∧
    (s.queueChain side cls b).power = s.power ∧ (s.queueChain side cls b).video = s.video ∧ (s.queueChain side cls b).dram = s.dram ∧
    (s.queueChain side cls b).sram = s.sram ∧ (s.queueChain side cls b).freeCtr = s.freeCtr :=
  ⟨rfl, rfl, rfl, rfl, rfl, rfl, rfl, rfl, rfl, rfl, rfl, rfl, rfl, rfl, rfl, rfl, rfl, rfl, rfl, rfl, rfl, rfl, rfl⟩

@[simp] theorem State.setMail_fields (s : State) (n : Nat) (x : MailSt) :
    (s.setMail n x).pending = s.pending ∧ (s.setMail n x).clk = s.clk ∧ (s.setMail n x).objs = s.objs ∧ (s.setMail n x).conf = s.conf ∧
    (s.setMail n x).draft = s.draft ∧ (s.setMail n x).fab = s.fab ∧ (s.setMail n x).flash = s.flash ∧ (s.setMail n x).fuses = s.fuses ∧
    (s.setMail n x).boot = s.boot ∧ (s.setMail n x).log = s.log ∧ (s.setMail n x).pmc = s.pmc ∧ (s.setMail n x).shtl = s.shtl ∧
    (s.setMail n x).gov = s.gov ∧ (s.setMail n x).lanes = s.lanes ∧ (s.setMail n x).beam = s.beam ∧ (s.setMail n x).time = s.time ∧
    (s.setMail n x).audio = s.audio ∧ (s.setMail n x).power = s.power ∧ (s.setMail n x).video = s.video ∧ (s.setMail n x).net = s.net ∧
    (s.setMail n x).dram = s.dram ∧ (s.setMail n x).sram = s.sram ∧ (s.setMail n x).freeCtr = s.freeCtr :=
  ⟨rfl, rfl, rfl, rfl, rfl, rfl, rfl, rfl, rfl, rfl, rfl, rfl, rfl, rfl, rfl, rfl, rfl, rfl, rfl, rfl, rfl, rfl, rfl⟩

/-! ## Accessors -/

@[simp] theorem State.emit_accessors (s : State) (o : Sent) :
    (s.emit o).port = s.port :=
  rfl

@[simp] theorem State.setVec_accessors (s : State) (v : Nat) (x : VecSt) :
    (s.setVec v x).ring = s.ring ∧
    (s.setVec v x).mail = s.mail :=
  ⟨rfl, rfl⟩

@[simp] theorem State.setReed_accessors (s : State) (c : Nat) (x : ReedSt) :
    (s.setReed c x).press = s.press ∧
    (s.setReed c x).chan = s.chan ∧
    (s.setReed c x).loom = s.loom ∧
    (s.setReed c x).unp = s.unp :=
  ⟨rfl, rfl, rfl, rfl⟩

@[simp] theorem State.setPress_accessors (s : State) (c : Nat) (x : PressSt) :
    (s.setPress c x).reed = s.reed ∧
    (s.setPress c x).chan = s.chan ∧
    (s.setPress c x).loom = s.loom ∧
    (s.setPress c x).unp = s.unp :=
  ⟨rfl, rfl, rfl, rfl⟩

@[simp] theorem State.setChan_accessors (s : State) (c : Nat) (x : ChanSt) :
    (s.setChan c x).reed = s.reed ∧
    (s.setChan c x).press = s.press ∧
    (s.setChan c x).loom = s.loom ∧
    (s.setChan c x).unp = s.unp :=
  ⟨rfl, rfl, rfl, rfl⟩

@[simp] theorem State.setLoom_accessors (s : State) (l : Nat) (x : LoomSt) :
    (s.setLoom l x).reed = s.reed ∧
    (s.setLoom l x).press = s.press ∧
    (s.setLoom l x).chan = s.chan ∧
    (s.setLoom l x).unp = s.unp :=
  ⟨rfl, rfl, rfl, rfl⟩

@[simp] theorem State.setUnp_accessors (s : State) (u : Nat) (x : UnpSt) :
    (s.setUnp u x).reed = s.reed ∧
    (s.setUnp u x).press = s.press ∧
    (s.setUnp u x).chan = s.chan ∧
    (s.setUnp u x).loom = s.loom :=
  ⟨rfl, rfl, rfl, rfl⟩

@[simp] theorem State.setRing_accessors (s : State) (r : Nat) (x : RingSt) :
    (s.setRing r x).vec = s.vec ∧
    (s.setRing r x).mail = s.mail :=
  ⟨rfl, rfl⟩

@[simp] theorem State.setAport_accessors (s : State) (a : Nat) (x : AudioSt) :
    (s.setAport a x).abind = s.abind :=
  rfl

@[simp] theorem State.setAbind_accessors (s : State) (i : Nat) (x : ABindSt) :
    (s.setAbind i x).aport = s.aport :=
  rfl

@[simp] theorem State.setThread_accessors (s : State) (t : Nat) (x : Thread) :
    (s.setThread t x).core = s.core :=
  rfl

@[simp] theorem State.setCore_accessors (s : State) (c : Nat) (x : CoreSt) :
    (s.setCore c x).thread = s.thread :=
  rfl

@[simp] theorem State.queueChain_accessors (s : State) (side cls : Nat) (b : Bytes) :
    (s.queueChain side cls b).port = s.port :=
  by
  unfold State.queueChain
  split <;> rfl

@[simp] theorem State.setMail_accessors (s : State) (n : Nat) (x : MailSt) :
    (s.setMail n x).vec = s.vec ∧
    (s.setMail n x).ring = s.ring :=
  ⟨rfl, rfl⟩

@[simp] theorem State.reed_setReed (s : State) (c : Nat) (x : ReedSt) : (s.setReed c x).reed c = x := AMap.getD_put_self _ _ _ _
theorem State.reed_setReed_ne (s : State) (c : Nat) (x : ReedSt) {j : Nat} (h : c ≠ j) : (s.setReed c x).reed j = s.reed j := AMap.getD_put_ne _ _ _ h

@[simp] theorem State.press_setPress (s : State) (c : Nat) (x : PressSt) : (s.setPress c x).press c = x := AMap.getD_put_self _ _ _ _
theorem State.press_setPress_ne (s : State) (c : Nat) (x : PressSt) {j : Nat} (h : c ≠ j) : (s.setPress c x).press j = s.press j := AMap.getD_put_ne _ _ _ h

@[simp] theorem State.chan_setChan (s : State) (c : Nat) (x : ChanSt) : (s.setChan c x).chan c = x := AMap.getD_put_self _ _ _ _
theorem State.chan_setChan_ne (s : State) (c : Nat) (x : ChanSt) {j : Nat} (h : c ≠ j) : (s.setChan c x).chan j = s.chan j := AMap.getD_put_ne _ _ _ h

@[simp] theorem State.loom_setLoom (s : State) (l : Nat) (x : LoomSt) : (s.setLoom l x).loom l = x := AMap.getD_put_self _ _ _ _
theorem State.loom_setLoom_ne (s : State) (l : Nat) (x : LoomSt) {j : Nat} (h : l ≠ j) : (s.setLoom l x).loom j = s.loom j := AMap.getD_put_ne _ _ _ h

@[simp] theorem State.unp_setUnp (s : State) (u : Nat) (x : UnpSt) : (s.setUnp u x).unp u = x := AMap.getD_put_self _ _ _ _
theorem State.unp_setUnp_ne (s : State) (u : Nat) (x : UnpSt) {j : Nat} (h : u ≠ j) : (s.setUnp u x).unp j = s.unp j := AMap.getD_put_ne _ _ _ h

@[simp] theorem State.lane_setLane (s : State) (n : Nat) (x : LaneSt) : (s.setLane n x).lane n = x := AMap.getD_put_self _ _ _ _
theorem State.lane_setLane_ne (s : State) (n : Nat) (x : LaneSt) {j : Nat} (h : n ≠ j) : (s.setLane n x).lane j = s.lane j := AMap.getD_put_ne _ _ _ h

@[simp] theorem State.port_setPort (s : State) (p : Nat) (x : PortSt) : (s.setPort p x).port p = x := AMap.getD_put_self _ _ _ _
theorem State.port_setPort_ne (s : State) (p : Nat) (x : PortSt) {j : Nat} (h : p ≠ j) : (s.setPort p x).port j = s.port j := AMap.getD_put_ne _ _ _ h

@[simp] theorem State.vec_setVec (s : State) (v : Nat) (x : VecSt) : (s.setVec v x).vec v = x := AMap.getD_put_self _ _ _ _
theorem State.vec_setVec_ne (s : State) (v : Nat) (x : VecSt) {j : Nat} (h : v ≠ j) : (s.setVec v x).vec j = s.vec j := AMap.getD_put_ne _ _ _ h

@[simp] theorem State.ring_setRing (s : State) (r : Nat) (x : RingSt) : (s.setRing r x).ring r = x := AMap.getD_put_self _ _ _ _
theorem State.ring_setRing_ne (s : State) (r : Nat) (x : RingSt) {j : Nat} (h : r ≠ j) : (s.setRing r x).ring j = s.ring j := AMap.getD_put_ne _ _ _ h

@[simp] theorem State.bch_setBch (s : State) (n : Nat) (x : BeamChSt) : (s.setBch n x).bch n = x := AMap.getD_put_self _ _ _ _
theorem State.bch_setBch_ne (s : State) (n : Nat) (x : BeamChSt) {j : Nat} (h : n ≠ j) : (s.setBch n x).bch j = s.bch j := AMap.getD_put_ne _ _ _ h

@[simp] theorem State.aport_setAport (s : State) (a : Nat) (x : AudioSt) : (s.setAport a x).aport a = x := AMap.getD_put_self _ _ _ _
theorem State.aport_setAport_ne (s : State) (a : Nat) (x : AudioSt) {j : Nat} (h : a ≠ j) : (s.setAport a x).aport j = s.aport j := AMap.getD_put_ne _ _ _ h

@[simp] theorem State.abind_setAbind (s : State) (i : Nat) (x : ABindSt) : (s.setAbind i x).abind i = x := AMap.getD_put_self _ _ _ _
theorem State.abind_setAbind_ne (s : State) (i : Nat) (x : ABindSt) {j : Nat} (h : i ≠ j) : (s.setAbind i x).abind j = s.abind j := AMap.getD_put_ne _ _ _ h

@[simp] theorem State.thread_setThread (s : State) (t : Nat) (x : Thread) : (s.setThread t x).thread t = x := AMap.getD_put_self _ _ _ _
theorem State.thread_setThread_ne (s : State) (t : Nat) (x : Thread) {j : Nat} (h : t ≠ j) : (s.setThread t x).thread j = s.thread j := AMap.getD_put_ne _ _ _ h

@[simp] theorem State.core_setCore (s : State) (c : Nat) (x : CoreSt) : (s.setCore c x).core c = x := AMap.getD_put_self _ _ _ _
theorem State.core_setCore_ne (s : State) (c : Nat) (x : CoreSt) {j : Nat} (h : c ≠ j) : (s.setCore c x).core j = s.core j := AMap.getD_put_ne _ _ _ h

@[simp] theorem State.mail_setMail (s : State) (n : Nat) (x : MailSt) : (s.setMail n x).mail n = x := AMap.getD_put_self _ _ _ _
theorem State.mail_setMail_ne (s : State) (n : Nat) (x : MailSt) {j : Nat} (h : n ≠ j) : (s.setMail n x).mail j = s.mail j := AMap.getD_put_ne _ _ _ h

@[simp] theorem State.dom_setDom (s : State) (d : Nat) (x : DomainSt) (hd : d < 2) : (s.setDom d x).dom d = x := by
  obtain rfl | rfl : d = 0 ∨ d = 1 := by omega
  all_goals rfl

/-! ## Object values -/

@[simp] theorem State.obj_put (s : State) (k : Nat) (v : Val) : (s.put k v).obj k = v := by
  simp [State.obj, look, State.put]

theorem State.obj_put_ne (s : State) {k j : Nat} (v : Val) (h : k ≠ j) : (s.put k v).obj j = s.obj j := by
  simp [State.obj, look, State.put, AMap.find?_put_ne _ _ h]

@[simp] theorem State.obj_set (s : State) (k : Nat) (v : Int) : (s.set k v).obj k = .int v := State.obj_put s k (.int v)

theorem State.obj_set_ne (s : State) {k j : Nat} (v : Int) (h : k ≠ j) : (s.set k v).obj j = s.obj j := State.obj_put_ne s (.int v) h

@[simp] theorem State.nat_setN (s : State) (k v : Nat) : (s.setN k v).nat k = v := by
  unfold State.nat
  rw [show (s.setN k v).obj k = .int v from State.obj_put s k (.int v)]
  rfl

theorem State.nat_setN_ne (s : State) {k j : Nat} (v : Nat) (h : k ≠ j) : (s.setN k v).nat j = s.nat j := by
  unfold State.nat
  rw [show (s.setN k v).obj j = s.obj j from State.obj_put_ne s (.int v) h]

@[simp] theorem State.int_set (s : State) (k : Nat) (v : Int) : (s.set k v).int k = v := by
  unfold State.int
  rw [State.obj_set]
  rfl

theorem State.int_set_ne (s : State) {k j : Nat} (v : Int) (h : k ≠ j) : (s.set k v).int j = s.int j := by
  unfold State.int
  rw [State.obj_set_ne s v h]

@[simp] theorem State.nat_bump (s : State) (k : Nat) : (s.bump k).nat k = (s.nat k + 1) % 2 ^ 32 := State.nat_setN s k _

theorem State.nat_bump_ne (s : State) {k j : Nat} (h : k ≠ j) : (s.bump k).nat j = s.nat j := State.nat_setN_ne s _ h

@[simp] theorem State.nat_add (s : State) (k n : Nat) : (s.add k n).nat k = (s.nat k + n) % 2 ^ 32 := State.nat_setN s k _

/-- A reading of objects looks at the objects and the fuses only. -/
theorem State.obj_congr {s t : State} (h : t.objs = s.objs) (hf : t.fuses = s.fuses) : t.obj = s.obj := by
  unfold State.obj
  rw [h, hf]

theorem State.nat_congr {s t : State} (h : t.objs = s.objs) (hf : t.fuses = s.fuses) (k : Nat) : t.nat k = s.nat k := by
  unfold State.nat
  rw [State.obj_congr h hf]

theorem State.int_congr {s t : State} (h : t.objs = s.objs) (hf : t.fuses = s.fuses) (k : Nat) : t.int k = s.int k := by
  unfold State.int
  rw [State.obj_congr h hf]

theorem State.flag_congr {s t : State} (h : t.objs = s.objs) (hf : t.fuses = s.fuses) (k : Nat) : t.flag k = s.flag k := by
  unfold State.flag
  rw [State.obj_congr h hf]

/-! ## Counters -/

/-- R475: a counter after it has been advanced. -/
theorem State.count_counter (s : State) (n k : Nat) :
    AMap.getD (s.count n k).pmc.counters n 0 = (AMap.getD s.pmc.counters n 0 + k) % 2 ^ 48 := AMap.getD_put_self _ _ _ _

theorem State.count_counter_ne (s : State) {n j : Nat} (k : Nat) (h : n ≠ j) :
    AMap.getD (s.count n k).pmc.counters j 0 = AMap.getD s.pmc.counters j 0 := AMap.getD_put_ne _ _ _ h

end Sys2Proof.Machine
end

