-- ==== Sys2Proof/Laws/Raise.lean ====
section
/-!
SUPPORT. Sys2Proof/Laws/Raise.lean: the parts of the state that raising an event, waking a thread, sending a message and counting leave as
they are.
-/

namespace Sys2Proof.Machine

set_option Elab.async false

/-- A state without what an event's own consequences change: the log's intake and trackers, the messages and their numbers, the vectors'
registers, the wakes that wait, the queues of the ports, the counters and the count of starts that a message may raise. -/
def State.still (s : State) : State :=
  { s with
    log := { s.log with pending := 0, intake := [], waiting := [], trackers := [], dropped := 0, lastRaise := [] }
    draft := { s.draft with txCount := [], notifyLost := [], unacked := [], nextTid := 0 }
    pcie := { s.pcie with vecs := [] }
    shtl := { s.shtl with intake := [], stalled := [] }
    net := { s.net with sent := [], ports := [] }
    pmc := { s.pmc with counters := [] }
    flash := { s.flash with bootCount := 0 } }

/-- A state that a pair holds. -/
theorem State.still_of_eq {α : Type} {p : State × α} {t : State} {x : α} (h : p = (t, x)) : t.still = p.1.still := by rw [h]

theorem State.still_fold_of {α : Type} {f : State → α → State} {l : List α} {s : State} {c : State}
    (hs : s.still = c) (h : ∀ t x, t.still = c → (f t x).still = c) : (l.foldl f s).still = c := by
  induction l generalizing s with
  | nil => exact hs
  | cons a t ih => rw [List.foldl_cons]; exact ih (h s a hs)

@[simp] theorem State.emit_still (s : State) (o : Sent) : (State.emit s o).still = s.still := rfl

@[simp] theorem State.setPort_still (s : State) (p : Nat) (x : PortSt) : (State.setPort s p x).still = s.still := rfl

@[simp] theorem State.queueFrame_still (s : State) (f : TxFrame) : (State.queueFrame s f).still = s.still := by
  unfold State.queueFrame
  split <;> rfl

@[simp] theorem State.setVec_still (s : State) (v : Nat) (x : VecSt) : (State.setVec s v x).still = s.still := rfl

@[simp] theorem State.fireVec_still (s : State) (v : Nat) : (State.fireVec s v).still = s.still := rfl

@[simp] theorem State.vector_still (s : State) (v : Nat) : (State.vector s v).still = s.still := by
  unfold State.vector
  split
  · rfl
  · dsimp only
    split
    · rfl
    · split
      · rfl
      · split
        · split <;> rfl
        · rfl

@[simp] theorem State.shedMessage_still (s : State) (type keyId tid : Nat) (items : List Bytes) (status sender : Nat) : (State.shedMessage s type keyId tid items status sender).1.still = s.still := by
  unfold State.shedMessage
  dsimp only
  split <;> rfl

@[simp] theorem State.count_still (s : State) (n k : Nat) : (State.count s n k).still = s.still := rfl

@[simp] theorem State.logAsk_still (s : State) (r : LogReq) : (State.logAsk s r).still = s.still := by
  unfold State.logAsk
  split
  · rfl
  · split
    · split <;> rfl
    · split <;> rfl

@[simp] theorem State.notifyOne_still (s : State) (i src sev : Nat) : (State.notifyOne s i src sev).still = s.still := by
  unfold State.notifyOne
  extract_lets -underBinder addr held item tid
  split
  · rfl
  · split
    · rfl
    · split
      rename_i t msg h
      have k := State.still_of_eq h
      rw [State.shedMessage_still] at k
      rw [← k]
      extract_lets -underBinder p l u
      rw [State.queueFrame_still]
      rfl

@[simp] theorem State.notify_still (s : State) (src sev : Nat) : (State.notify s src sev).still = s.still := by
  unfold State.notify
  exact State.still_fold_of rfl fun t i ht => by rw [State.notifyOne_still, ht]

@[simp] theorem State.eventVector_still (s : State) (src sev : Nat) : (State.eventVector s src sev).still = s.still := by
  unfold State.eventVector
  dsimp only
  split <;> simp only [State.vector_still]

@[simp] theorem State.endTracker_still (s : State) (t : Tracker) : (State.endTracker s t).still = s.still := by
  unfold State.endTracker
  dsimp only
  split
  · rfl
  · rw [State.logAsk_still]
    rfl

@[simp] theorem State.signal_still (s : State) (e : Ev) : (State.signal s e).1.still = s.still := by
  unfold State.signal
  split
  · rfl
  · extract_lets -underBinder sev l s1 s2
    have h1 : s1.still = s.still := rfl
    have h2 : s2.still = s.still := by
      simp only [s2]
      split
      · split
        · rw [State.endTracker_still, h1]
        · exact h1
      · exact h1
    clear_value s1 s2
    split
    · split
      · simp only [State.notify_still, State.eventVector_still]
        exact h2
      · exact h2
    · simp only [State.notify_still, State.eventVector_still]
      split <;> exact h2

@[simp] theorem State.raiseBase_still (s : State) (e : Ev) : (State.raiseBase s e).still = s.still := by
  unfold State.raiseBase
  split
  rename_i t b h
  have k := State.still_of_eq h
  rw [State.signal_still] at k
  split
  · rw [State.logAsk_still, k]
  · exact k

@[simp] theorem State.raiseBaseLimited_still (s : State) (key : Nat) (e : Ev) : (State.raiseBaseLimited s key e).still = s.still := by
  unfold State.raiseBaseLimited
  split
  · split
    · rw [State.raiseBase_still]
      rfl
    · rfl
  · rw [State.raiseBase_still]
    rfl

@[simp] theorem State.stallWake_still (s : State) (t : Nat) : (State.stallWake s t).still = s.still := rfl

@[simp] theorem State.wakeThread_still (s : State) (t : Nat) : (State.wakeThread s t).still = s.still := by
  unfold State.wakeThread
  split
  · rfl
  · dsimp only
    split
    · split <;> simp only [State.stallWake_still, State.raiseBaseLimited_still]
    · simp only [State.stallWake_still, State.raiseBaseLimited_still]

@[simp] theorem State.wakeSource_still (s : State) (src : Nat) : (State.wakeSource s src).still = s.still := by
  unfold State.wakeSource
  split
  · exact State.wakeThread_still _ _
  · rfl

@[simp] theorem State.reportDrops_still (s0 s : State) : (State.reportDrops s0 s).still = s.still := by
  unfold State.reportDrops
  split
  · rfl
  · dsimp only
    split
    · exact State.raiseBaseLimited_still _ _ _
    · rw [State.wakeSource_still]
      exact State.raiseBaseLimited_still _ _ _

@[simp] theorem State.reportPool_still (s0 s : State) (p : Nat) : (State.reportPool s0 s p).still = s.still := by
  unfold State.reportPool
  split
  · rw [State.wakeSource_still, State.raiseBase_still]
  · rfl

@[simp] theorem State.raise_still (s : State) (e : Ev) : (State.raise s e).still = s.still := by
  unfold State.raise
  dsimp only
  rw [State.reportDrops_still]
  refine State.still_fold_of ?_ fun t p ht => by rw [State.reportPool_still, ht]
  split
  · rw [State.wakeSource_still, State.raiseBase_still]
  · exact State.raiseBase_still s e

@[simp] theorem State.raiseLimited_still (s : State) (key : Nat) (e : Ev) : (State.raiseLimited s key e).still = s.still := by
  unfold State.raiseLimited
  split
  · split
    · rw [State.raise_still]
      rfl
    · rfl
  · rw [State.raise_still]
    rfl

@[simp] theorem State.sendFrame_still (s : State) (f : TxFrame) : (State.sendFrame s f).still = s.still := by
  unfold State.sendFrame
  dsimp only
  split
  · rw [State.raise_still, State.queueFrame_still]
  · exact State.queueFrame_still s f

/-! ## The same, field by field -/

theorem State.still_fields {s t : State} (h : t.still = s.still) :
    t.pending = s.pending ∧ t.clk = s.clk ∧ t.objs = s.objs ∧ t.conf = s.conf ∧ t.fab = s.fab ∧ t.fuses = s.fuses ∧ t.boot = s.boot ∧
    t.gov = s.gov ∧ t.lanes = s.lanes ∧ t.beam = s.beam ∧ t.time = s.time ∧ t.audio = s.audio ∧ t.power = s.power ∧ t.video = s.video ∧
    t.dram = s.dram ∧ t.sram = s.sram ∧ t.freeCtr = s.freeCtr ∧ t.log.entries = s.log.entries ∧ t.log.newest = s.log.newest ∧
    t.log.rdptr = s.log.rdptr ∧ t.log.wrapRaised = s.log.wrapRaised ∧ t.log.lastIncident = s.log.lastIncident ∧
    t.log.handlers = s.log.handlers ∧ t.log.openIncident = s.log.openIncident ∧ t.log.lastFatal = s.log.lastFatal ∧
    t.log.safe = s.log.safe ∧ t.log.safeCause = s.log.safeCause ∧ t.log.safeSince = s.log.safeSince ∧
    t.log.timeValid = s.log.timeValid ∧ t.draft.host = s.draft.host ∧ t.draft.net = s.draft.net ∧ t.draft.chain = s.draft.chain ∧
    t.draft.partials = s.draft.partials ∧ t.draft.queue = s.draft.queue ∧ t.draft.statHost = s.draft.statHost ∧
    t.draft.statNet = s.draft.statNet ∧ t.draft.statChain = s.draft.statChain ∧ t.draft.statSelv = s.draft.statSelv ∧
    t.draft.entered = s.draft.entered ∧ t.draft.effects = s.draft.effects ∧ t.draft.held = s.draft.held ∧
    t.draft.boltQ = s.draft.boltQ ∧ t.draft.fastQ = s.draft.fastQ ∧ t.draft.replay = s.draft.replay ∧
    t.draft.malformed = s.draft.malformed ∧ t.draft.unanswered = s.draft.unanswered ∧ t.draft.refusals = s.draft.refusals ∧
    t.draft.flowSelect = s.draft.flowSelect ∧ t.draft.readSeq = s.draft.readSeq ∧ t.draft.ctrSelect = s.draft.ctrSelect ∧
    t.pcie.mail = s.pcie.mail ∧ t.pcie.rings = s.pcie.rings ∧ t.pcie.linkUp = s.pcie.linkUp ∧ t.pcie.linkRate = s.pcie.linkRate ∧
    t.pcie.linkWidth = s.pcie.linkWidth ∧ t.pcie.droppedWrites = s.pcie.droppedWrites ∧ t.pcie.unitBytes = s.pcie.unitBytes ∧
    t.shtl.threads = s.shtl.threads ∧ t.shtl.ready = s.shtl.ready ∧ t.shtl.cores = s.shtl.cores ∧ t.shtl.bound = s.shtl.bound ∧
    t.shtl.nextSeq = s.shtl.nextSeq ∧ t.net.flows = s.net.flows ∧ t.net.policerAt = s.net.policerAt ∧ t.net.chain = s.net.chain ∧
    t.pmc.latch = s.pmc.latch ∧ t.pmc.bank = s.pmc.bank ∧ t.pmc.snapAsked = s.pmc.snapAsked ∧ t.pmc.holds = s.pmc.holds ∧
    t.pmc.buffer = s.pmc.buffer ∧ t.pmc.writePtr = s.pmc.writePtr ∧ t.pmc.readPtr = s.pmc.readPtr ∧ t.pmc.level = s.pmc.level ∧
    t.pmc.lostPending = s.pmc.lostPending ∧ t.pmc.retired = s.pmc.retired ∧ t.pmc.period = s.pmc.period ∧
    t.flash.present = s.flash.present ∧ t.flash.selA = s.flash.selA ∧ t.flash.selB = s.flash.selB ∧ t.flash.keys = s.flash.keys ∧
    t.flash.cfgA = s.flash.cfgA ∧ t.flash.cfgB = s.flash.cfgB ∧ t.flash.fwA = s.flash.fwA ∧ t.flash.fwB = s.flash.fwB :=
  ⟨congrArg (fun u => u.pending) h,
    congrArg (fun u => u.clk) h,
    congrArg (fun u => u.objs) h,
    congrArg (fun u => u.conf) h,
    congrArg (fun u => u.fab) h,
    congrArg (fun u => u.fuses) h,
    congrArg (fun u => u.boot) h,
    congrArg (fun u => u.gov) h,
    congrArg (fun u => u.lanes) h,
    congrArg (fun u => u.beam) h,
    congrArg (fun u => u.time) h,
    congrArg (fun u => u.audio) h,
    congrArg (fun u => u.power) h,
    congrArg (fun u => u.video) h,
    congrArg (fun u => u.dram) h,
    congrArg (fun u => u.sram) h,
    congrArg (fun u => u.freeCtr) h,
    congrArg (fun u => u.log.entries) h,
    congrArg (fun u => u.log.newest) h,
    congrArg (fun u => u.log.rdptr) h,
    congrArg (fun u => u.log.wrapRaised) h,
    congrArg (fun u => u.log.lastIncident) h,
    congrArg (fun u => u.log.handlers) h,
    congrArg (fun u => u.log.openIncident) h,
    congrArg (fun u => u.log.lastFatal) h,
    congrArg (fun u => u.log.safe) h,
    congrArg (fun u => u.log.safeCause) h,
    congrArg (fun u => u.log.safeSince) h,
    congrArg (fun u => u.log.timeValid) h,
    congrArg (fun u => u.draft.host) h,
    congrArg (fun u => u.draft.net) h,
    congrArg (fun u => u.draft.chain) h,
    congrArg (fun u => u.draft.partials) h,
    congrArg (fun u => u.draft.queue) h,
    congrArg (fun u => u.draft.statHost) h,
    congrArg (fun u => u.draft.statNet) h,
    congrArg (fun u => u.draft.statChain) h,
    congrArg (fun u => u.draft.statSelv) h,
    congrArg (fun u => u.draft.entered) h,
    congrArg (fun u => u.draft.effects) h,
    congrArg (fun u => u.draft.held) h,
    congrArg (fun u => u.draft.boltQ) h,
    congrArg (fun u => u.draft.fastQ) h,
    congrArg (fun u => u.draft.replay) h,
    congrArg (fun u => u.draft.malformed) h,
    congrArg (fun u => u.draft.unanswered) h,
    congrArg (fun u => u.draft.refusals) h,
    congrArg (fun u => u.draft.flowSelect) h,
    congrArg (fun u => u.draft.readSeq) h,
    congrArg (fun u => u.draft.ctrSelect) h,
    congrArg (fun u => u.pcie.mail) h,
    congrArg (fun u => u.pcie.rings) h,
    congrArg (fun u => u.pcie.linkUp) h,
    congrArg (fun u => u.pcie.linkRate) h,
    congrArg (fun u => u.pcie.linkWidth) h,
    congrArg (fun u => u.pcie.droppedWrites) h,
    congrArg (fun u => u.pcie.unitBytes) h,
    congrArg (fun u => u.shtl.threads) h,
    congrArg (fun u => u.shtl.ready) h,
    congrArg (fun u => u.shtl.cores) h,
    congrArg (fun u => u.shtl.bound) h,
    congrArg (fun u => u.shtl.nextSeq) h,
    congrArg (fun u => u.net.flows) h,
    congrArg (fun u => u.net.policerAt) h,
    congrArg (fun u => u.net.chain) h,
    congrArg (fun u => u.pmc.latch) h,
    congrArg (fun u => u.pmc.bank) h,
    congrArg (fun u => u.pmc.snapAsked) h,
    congrArg (fun u => u.pmc.holds) h,
    congrArg (fun u => u.pmc.buffer) h,
    congrArg (fun u => u.pmc.writePtr) h,
    congrArg (fun u => u.pmc.readPtr) h,
    congrArg (fun u => u.pmc.level) h,
    congrArg (fun u => u.pmc.lostPending) h,
    congrArg (fun u => u.pmc.retired) h,
    congrArg (fun u => u.pmc.period) h,
    congrArg (fun u => u.flash.present) h,
    congrArg (fun u => u.flash.selA) h,
    congrArg (fun u => u.flash.selB) h,
    congrArg (fun u => u.flash.keys) h,
    congrArg (fun u => u.flash.cfgA) h,
    congrArg (fun u => u.flash.cfgB) h,
    congrArg (fun u => u.flash.fwA) h,
    congrArg (fun u => u.flash.fwB) h⟩

theorem State.still_accessors {s t : State} (h : t.still = s.still) :
    t.reed = s.reed ∧ t.press = s.press ∧ t.chan = s.chan ∧ t.loom = s.loom ∧ t.unp = s.unp ∧ t.lane = s.lane ∧ t.dom = s.dom ∧ t.bch = s.bch ∧ t.aport = s.aport ∧ t.abind = s.abind ∧ t.thread = s.thread ∧ t.core = s.core ∧ t.ring = s.ring ∧ t.mail = s.mail ∧ t.obj = s.obj ∧ t.nat = s.nat ∧ t.int = s.int ∧ t.flag = s.flag ∧ t.isFrozen = s.isFrozen := by
  have k := State.still_fields h
  unfold State.reed State.press State.chan State.loom State.unp State.lane State.dom State.bch State.aport State.abind State.thread State.core State.ring State.mail State.nat State.int State.flag State.isFrozen State.obj
  simp only [k, and_self]

@[simp] theorem State.queueFrame_fields (s : State) (f : TxFrame) :
    (State.queueFrame s f).pending = s.pending ∧ (State.queueFrame s f).clk = s.clk ∧ (State.queueFrame s f).objs = s.objs ∧
    (State.queueFrame s f).conf = s.conf ∧ (State.queueFrame s f).fab = s.fab ∧ (State.queueFrame s f).fuses = s.fuses ∧
    (State.queueFrame s f).boot = s.boot ∧ (State.queueFrame s f).gov = s.gov ∧ (State.queueFrame s f).lanes = s.lanes ∧
    (State.queueFrame s f).beam = s.beam ∧ (State.queueFrame s f).time = s.time ∧ (State.queueFrame s f).audio = s.audio ∧
    (State.queueFrame s f).power = s.power ∧ (State.queueFrame s f).video = s.video ∧ (State.queueFrame s f).dram = s.dram ∧
    (State.queueFrame s f).sram = s.sram ∧ (State.queueFrame s f).freeCtr = s.freeCtr ∧
    (State.queueFrame s f).log.entries = s.log.entries ∧ (State.queueFrame s f).log.newest = s.log.newest ∧
    (State.queueFrame s f).log.rdptr = s.log.rdptr ∧ (State.queueFrame s f).log.wrapRaised = s.log.wrapRaised ∧
    (State.queueFrame s f).log.lastIncident = s.log.lastIncident ∧ (State.queueFrame s f).log.handlers = s.log.handlers ∧
    (State.queueFrame s f).log.openIncident = s.log.openIncident ∧ (State.queueFrame s f).log.lastFatal = s.log.lastFatal ∧
    (State.queueFrame s f).log.safe = s.log.safe ∧ (State.queueFrame s f).log.safeCause = s.log.safeCause ∧
    (State.queueFrame s f).log.safeSince = s.log.safeSince ∧ (State.queueFrame s f).log.timeValid = s.log.timeValid ∧
    (State.queueFrame s f).draft.host = s.draft.host ∧ (State.queueFrame s f).draft.net = s.draft.net ∧
    (State.queueFrame s f).draft.chain = s.draft.chain ∧ (State.queueFrame s f).draft.partials = s.draft.partials ∧
    (State.queueFrame s f).draft.queue = s.draft.queue ∧ (State.queueFrame s f).draft.statHost = s.draft.statHost ∧
    (State.queueFrame s f).draft.statNet = s.draft.statNet ∧ (State.queueFrame s f).draft.statChain = s.draft.statChain ∧
    (State.queueFrame s f).draft.statSelv = s.draft.statSelv ∧ (State.queueFrame s f).draft.entered = s.draft.entered ∧
    (State.queueFrame s f).draft.effects = s.draft.effects ∧ (State.queueFrame s f).draft.held = s.draft.held ∧
    (State.queueFrame s f).draft.boltQ = s.draft.boltQ ∧ (State.queueFrame s f).draft.fastQ = s.draft.fastQ ∧
    (State.queueFrame s f).draft.replay = s.draft.replay ∧ (State.queueFrame s f).draft.malformed = s.draft.malformed ∧
    (State.queueFrame s f).draft.unanswered = s.draft.unanswered ∧ (State.queueFrame s f).draft.refusals = s.draft.refusals ∧
    (State.queueFrame s f).draft.flowSelect = s.draft.flowSelect ∧ (State.queueFrame s f).draft.readSeq = s.draft.readSeq ∧
    (State.queueFrame s f).draft.ctrSelect = s.draft.ctrSelect ∧ (State.queueFrame s f).pcie.mail = s.pcie.mail ∧
    (State.queueFrame s f).pcie.rings = s.pcie.rings ∧ (State.queueFrame s f).pcie.linkUp = s.pcie.linkUp ∧
    (State.queueFrame s f).pcie.linkRate = s.pcie.linkRate ∧ (State.queueFrame s f).pcie.linkWidth = s.pcie.linkWidth ∧
    (State.queueFrame s f).pcie.droppedWrites = s.pcie.droppedWrites ∧ (State.queueFrame s f).pcie.unitBytes = s.pcie.unitBytes ∧
    (State.queueFrame s f).shtl.threads = s.shtl.threads ∧ (State.queueFrame s f).shtl.ready = s.shtl.ready ∧
    (State.queueFrame s f).shtl.cores = s.shtl.cores ∧ (State.queueFrame s f).shtl.bound = s.shtl.bound ∧
    (State.queueFrame s f).shtl.nextSeq = s.shtl.nextSeq ∧ (State.queueFrame s f).net.flows = s.net.flows ∧
    (State.queueFrame s f).net.policerAt = s.net.policerAt ∧ (State.queueFrame s f).net.chain = s.net.chain ∧
    (State.queueFrame s f).pmc.latch = s.pmc.latch ∧ (State.queueFrame s f).pmc.bank = s.pmc.bank ∧
    (State.queueFrame s f).pmc.snapAsked = s.pmc.snapAsked ∧ (State.queueFrame s f).pmc.holds = s.pmc.holds ∧
    (State.queueFrame s f).pmc.buffer = s.pmc.buffer ∧ (State.queueFrame s f).pmc.writePtr = s.pmc.writePtr ∧
    (State.queueFrame s f).pmc.readPtr = s.pmc.readPtr ∧ (State.queueFrame s f).pmc.level = s.pmc.level ∧
    (State.queueFrame s f).pmc.lostPending = s.pmc.lostPending ∧ (State.queueFrame s f).pmc.retired = s.pmc.retired ∧
    (State.queueFrame s f).pmc.period = s.pmc.period ∧ (State.queueFrame s f).flash.present = s.flash.present ∧
    (State.queueFrame s f).flash.selA = s.flash.selA ∧ (State.queueFrame s f).flash.selB = s.flash.selB ∧
    (State.queueFrame s f).flash.keys = s.flash.keys ∧ (State.queueFrame s f).flash.cfgA = s.flash.cfgA ∧
    (State.queueFrame s f).flash.cfgB = s.flash.cfgB ∧ (State.queueFrame s f).flash.fwA = s.flash.fwA ∧
    (State.queueFrame s f).flash.fwB = s.flash.fwB :=
  State.still_fields (State.queueFrame_still s f)

@[simp] theorem State.queueFrame_accessors (s : State) (f : TxFrame) :
    (State.queueFrame s f).reed = s.reed ∧ (State.queueFrame s f).press = s.press ∧ (State.queueFrame s f).chan = s.chan ∧
    (State.queueFrame s f).loom = s.loom ∧ (State.queueFrame s f).unp = s.unp ∧ (State.queueFrame s f).lane = s.lane ∧
    (State.queueFrame s f).dom = s.dom ∧ (State.queueFrame s f).bch = s.bch ∧ (State.queueFrame s f).aport = s.aport ∧
    (State.queueFrame s f).abind = s.abind ∧ (State.queueFrame s f).thread = s.thread ∧ (State.queueFrame s f).core = s.core ∧
    (State.queueFrame s f).ring = s.ring ∧ (State.queueFrame s f).mail = s.mail ∧ (State.queueFrame s f).obj = s.obj ∧
    (State.queueFrame s f).nat = s.nat ∧ (State.queueFrame s f).int = s.int ∧ (State.queueFrame s f).flag = s.flag ∧
    (State.queueFrame s f).isFrozen = s.isFrozen :=
  State.still_accessors (State.queueFrame_still s f)

@[simp] theorem State.vector_fields (s : State) (v : Nat) :
    (State.vector s v).pending = s.pending ∧ (State.vector s v).clk = s.clk ∧ (State.vector s v).objs = s.objs ∧
    (State.vector s v).conf = s.conf ∧ (State.vector s v).fab = s.fab ∧ (State.vector s v).fuses = s.fuses ∧
    (State.vector s v).boot = s.boot ∧ (State.vector s v).gov = s.gov ∧ (State.vector s v).lanes = s.lanes ∧
    (State.vector s v).beam = s.beam ∧ (State.vector s v).time = s.time ∧ (State.vector s v).audio = s.audio ∧
    (State.vector s v).power = s.power ∧ (State.vector s v).video = s.video ∧ (State.vector s v).dram = s.dram ∧
    (State.vector s v).sram = s.sram ∧ (State.vector s v).freeCtr = s.freeCtr ∧ (State.vector s v).log.entries = s.log.entries ∧
    (State.vector s v).log.newest = s.log.newest ∧ (State.vector s v).log.rdptr = s.log.rdptr ∧
    (State.vector s v).log.wrapRaised = s.log.wrapRaised ∧ (State.vector s v).log.lastIncident = s.log.lastIncident ∧
    (State.vector s v).log.handlers = s.log.handlers ∧ (State.vector s v).log.openIncident = s.log.openIncident ∧
    (State.vector s v).log.lastFatal = s.log.lastFatal ∧ (State.vector s v).log.safe = s.log.safe ∧
    (State.vector s v).log.safeCause = s.log.safeCause ∧ (State.vector s v).log.safeSince = s.log.safeSince ∧
    (State.vector s v).log.timeValid = s.log.timeValid ∧ (State.vector s v).draft.host = s.draft.host ∧
    (State.vector s v).draft.net = s.draft.net ∧ (State.vector s v).draft.chain = s.draft.chain ∧
    (State.vector s v).draft.partials = s.draft.partials ∧ (State.vector s v).draft.queue = s.draft.queue ∧
    (State.vector s v).draft.statHost = s.draft.statHost ∧ (State.vector s v).draft.statNet = s.draft.statNet ∧
    (State.vector s v).draft.statChain = s.draft.statChain ∧ (State.vector s v).draft.statSelv = s.draft.statSelv ∧
    (State.vector s v).draft.entered = s.draft.entered ∧ (State.vector s v).draft.effects = s.draft.effects ∧
    (State.vector s v).draft.held = s.draft.held ∧ (State.vector s v).draft.boltQ = s.draft.boltQ ∧
    (State.vector s v).draft.fastQ = s.draft.fastQ ∧ (State.vector s v).draft.replay = s.draft.replay ∧
    (State.vector s v).draft.malformed = s.draft.malformed ∧ (State.vector s v).draft.unanswered = s.draft.unanswered ∧
    (State.vector s v).draft.refusals = s.draft.refusals ∧ (State.vector s v).draft.flowSelect = s.draft.flowSelect ∧
    (State.vector s v).draft.readSeq = s.draft.readSeq ∧ (State.vector s v).draft.ctrSelect = s.draft.ctrSelect ∧
    (State.vector s v).pcie.mail = s.pcie.mail ∧ (State.vector s v).pcie.rings = s.pcie.rings ∧
    (State.vector s v).pcie.linkUp = s.pcie.linkUp ∧ (State.vector s v).pcie.linkRate = s.pcie.linkRate ∧
    (State.vector s v).pcie.linkWidth = s.pcie.linkWidth ∧ (State.vector s v).pcie.droppedWrites = s.pcie.droppedWrites ∧
    (State.vector s v).pcie.unitBytes = s.pcie.unitBytes ∧ (State.vector s v).shtl.threads = s.shtl.threads ∧
    (State.vector s v).shtl.ready = s.shtl.ready ∧ (State.vector s v).shtl.cores = s.shtl.cores ∧
    (State.vector s v).shtl.bound = s.shtl.bound ∧ (State.vector s v).shtl.nextSeq = s.shtl.nextSeq ∧
    (State.vector s v).net.flows = s.net.flows ∧ (State.vector s v).net.policerAt = s.net.policerAt ∧
    (State.vector s v).net.chain = s.net.chain ∧ (State.vector s v).pmc.latch = s.pmc.latch ∧ (State.vector s v).pmc.bank = s.pmc.bank ∧
    (State.vector s v).pmc.snapAsked = s.pmc.snapAsked ∧ (State.vector s v).pmc.holds = s.pmc.holds ∧
    (State.vector s v).pmc.buffer = s.pmc.buffer ∧ (State.vector s v).pmc.writePtr = s.pmc.writePtr ∧
    (State.vector s v).pmc.readPtr = s.pmc.readPtr ∧ (State.vector s v).pmc.level = s.pmc.level ∧
    (State.vector s v).pmc.lostPending = s.pmc.lostPending ∧ (State.vector s v).pmc.retired = s.pmc.retired ∧
    (State.vector s v).pmc.period = s.pmc.period ∧ (State.vector s v).flash.present = s.flash.present ∧
    (State.vector s v).flash.selA = s.flash.selA ∧ (State.vector s v).flash.selB = s.flash.selB ∧
    (State.vector s v).flash.keys = s.flash.keys ∧ (State.vector s v).flash.cfgA = s.flash.cfgA ∧
    (State.vector s v).flash.cfgB = s.flash.cfgB ∧ (State.vector s v).flash.fwA = s.flash.fwA ∧
    (State.vector s v).flash.fwB = s.flash.fwB :=
  State.still_fields (State.vector_still s v)

@[simp] theorem State.vector_accessors (s : State) (v : Nat) :
    (State.vector s v).reed = s.reed ∧ (State.vector s v).press = s.press ∧ (State.vector s v).chan = s.chan ∧
    (State.vector s v).loom = s.loom ∧ (State.vector s v).unp = s.unp ∧ (State.vector s v).lane = s.lane ∧
    (State.vector s v).dom = s.dom ∧ (State.vector s v).bch = s.bch ∧ (State.vector s v).aport = s.aport ∧
    (State.vector s v).abind = s.abind ∧ (State.vector s v).thread = s.thread ∧ (State.vector s v).core = s.core ∧
    (State.vector s v).ring = s.ring ∧ (State.vector s v).mail = s.mail ∧ (State.vector s v).obj = s.obj ∧
    (State.vector s v).nat = s.nat ∧ (State.vector s v).int = s.int ∧ (State.vector s v).flag = s.flag ∧
    (State.vector s v).isFrozen = s.isFrozen :=
  State.still_accessors (State.vector_still s v)

@[simp] theorem State.wakeThread_fields (s : State) (t : Nat) :
    (State.wakeThread s t).pending = s.pending ∧ (State.wakeThread s t).clk = s.clk ∧ (State.wakeThread s t).objs = s.objs ∧
    (State.wakeThread s t).conf = s.conf ∧ (State.wakeThread s t).fab = s.fab ∧ (State.wakeThread s t).fuses = s.fuses ∧
    (State.wakeThread s t).boot = s.boot ∧ (State.wakeThread s t).gov = s.gov ∧ (State.wakeThread s t).lanes = s.lanes ∧
    (State.wakeThread s t).beam = s.beam ∧ (State.wakeThread s t).time = s.time ∧ (State.wakeThread s t).audio = s.audio ∧
    (State.wakeThread s t).power = s.power ∧ (State.wakeThread s t).video = s.video ∧ (State.wakeThread s t).dram = s.dram ∧
    (State.wakeThread s t).sram = s.sram ∧ (State.wakeThread s t).freeCtr = s.freeCtr ∧
    (State.wakeThread s t).log.entries = s.log.entries ∧ (State.wakeThread s t).log.newest = s.log.newest ∧
    (State.wakeThread s t).log.rdptr = s.log.rdptr ∧ (State.wakeThread s t).log.wrapRaised = s.log.wrapRaised ∧
    (State.wakeThread s t).log.lastIncident = s.log.lastIncident ∧ (State.wakeThread s t).log.handlers = s.log.handlers ∧
    (State.wakeThread s t).log.openIncident = s.log.openIncident ∧ (State.wakeThread s t).log.lastFatal = s.log.lastFatal ∧
    (State.wakeThread s t).log.safe = s.log.safe ∧ (State.wakeThread s t).log.safeCause = s.log.safeCause ∧
    (State.wakeThread s t).log.safeSince = s.log.safeSince ∧ (State.wakeThread s t).log.timeValid = s.log.timeValid ∧
    (State.wakeThread s t).draft.host = s.draft.host ∧ (State.wakeThread s t).draft.net = s.draft.net ∧
    (State.wakeThread s t).draft.chain = s.draft.chain ∧ (State.wakeThread s t).draft.partials = s.draft.partials ∧
    (State.wakeThread s t).draft.queue = s.draft.queue ∧ (State.wakeThread s t).draft.statHost = s.draft.statHost ∧
    (State.wakeThread s t).draft.statNet = s.draft.statNet ∧ (State.wakeThread s t).draft.statChain = s.draft.statChain ∧
    (State.wakeThread s t).draft.statSelv = s.draft.statSelv ∧ (State.wakeThread s t).draft.entered = s.draft.entered ∧
    (State.wakeThread s t).draft.effects = s.draft.effects ∧ (State.wakeThread s t).draft.held = s.draft.held ∧
    (State.wakeThread s t).draft.boltQ = s.draft.boltQ ∧ (State.wakeThread s t).draft.fastQ = s.draft.fastQ ∧
    (State.wakeThread s t).draft.replay = s.draft.replay ∧ (State.wakeThread s t).draft.malformed = s.draft.malformed ∧
    (State.wakeThread s t).draft.unanswered = s.draft.unanswered ∧ (State.wakeThread s t).draft.refusals = s.draft.refusals ∧
    (State.wakeThread s t).draft.flowSelect = s.draft.flowSelect ∧ (State.wakeThread s t).draft.readSeq = s.draft.readSeq ∧
    (State.wakeThread s t).draft.ctrSelect = s.draft.ctrSelect ∧ (State.wakeThread s t).pcie.mail = s.pcie.mail ∧
    (State.wakeThread s t).pcie.rings = s.pcie.rings ∧ (State.wakeThread s t).pcie.linkUp = s.pcie.linkUp ∧
    (State.wakeThread s t).pcie.linkRate = s.pcie.linkRate ∧ (State.wakeThread s t).pcie.linkWidth = s.pcie.linkWidth ∧
    (State.wakeThread s t).pcie.droppedWrites = s.pcie.droppedWrites ∧ (State.wakeThread s t).pcie.unitBytes = s.pcie.unitBytes ∧
    (State.wakeThread s t).shtl.threads = s.shtl.threads ∧ (State.wakeThread s t).shtl.ready = s.shtl.ready ∧
    (State.wakeThread s t).shtl.cores = s.shtl.cores ∧ (State.wakeThread s t).shtl.bound = s.shtl.bound ∧
    (State.wakeThread s t).shtl.nextSeq = s.shtl.nextSeq ∧ (State.wakeThread s t).net.flows = s.net.flows ∧
    (State.wakeThread s t).net.policerAt = s.net.policerAt ∧ (State.wakeThread s t).net.chain = s.net.chain ∧
    (State.wakeThread s t).pmc.latch = s.pmc.latch ∧ (State.wakeThread s t).pmc.bank = s.pmc.bank ∧
    (State.wakeThread s t).pmc.snapAsked = s.pmc.snapAsked ∧ (State.wakeThread s t).pmc.holds = s.pmc.holds ∧
    (State.wakeThread s t).pmc.buffer = s.pmc.buffer ∧ (State.wakeThread s t).pmc.writePtr = s.pmc.writePtr ∧
    (State.wakeThread s t).pmc.readPtr = s.pmc.readPtr ∧ (State.wakeThread s t).pmc.level = s.pmc.level ∧
    (State.wakeThread s t).pmc.lostPending = s.pmc.lostPending ∧ (State.wakeThread s t).pmc.retired = s.pmc.retired ∧
    (State.wakeThread s t).pmc.period = s.pmc.period ∧ (State.wakeThread s t).flash.present = s.flash.present ∧
    (State.wakeThread s t).flash.selA = s.flash.selA ∧ (State.wakeThread s t).flash.selB = s.flash.selB ∧
    (State.wakeThread s t).flash.keys = s.flash.keys ∧ (State.wakeThread s t).flash.cfgA = s.flash.cfgA ∧
    (State.wakeThread s t).flash.cfgB = s.flash.cfgB ∧ (State.wakeThread s t).flash.fwA = s.flash.fwA ∧
    (State.wakeThread s t).flash.fwB = s.flash.fwB :=
  State.still_fields (State.wakeThread_still s t)

@[simp] theorem State.wakeThread_accessors (s : State) (t : Nat) :
    (State.wakeThread s t).reed = s.reed ∧ (State.wakeThread s t).press = s.press ∧ (State.wakeThread s t).chan = s.chan ∧
    (State.wakeThread s t).loom = s.loom ∧ (State.wakeThread s t).unp = s.unp ∧ (State.wakeThread s t).lane = s.lane ∧
    (State.wakeThread s t).dom = s.dom ∧ (State.wakeThread s t).bch = s.bch ∧ (State.wakeThread s t).aport = s.aport ∧
    (State.wakeThread s t).abind = s.abind ∧ (State.wakeThread s t).thread = s.thread ∧ (State.wakeThread s t).core = s.core ∧
    (State.wakeThread s t).ring = s.ring ∧ (State.wakeThread s t).mail = s.mail ∧ (State.wakeThread s t).obj = s.obj ∧
    (State.wakeThread s t).nat = s.nat ∧ (State.wakeThread s t).int = s.int ∧ (State.wakeThread s t).flag = s.flag ∧
    (State.wakeThread s t).isFrozen = s.isFrozen :=
  State.still_accessors (State.wakeThread_still s t)

@[simp] theorem State.wakeSource_fields (s : State) (src : Nat) :
    (State.wakeSource s src).pending = s.pending ∧ (State.wakeSource s src).clk = s.clk ∧ (State.wakeSource s src).objs = s.objs ∧
    (State.wakeSource s src).conf = s.conf ∧ (State.wakeSource s src).fab = s.fab ∧ (State.wakeSource s src).fuses = s.fuses ∧
    (State.wakeSource s src).boot = s.boot ∧ (State.wakeSource s src).gov = s.gov ∧ (State.wakeSource s src).lanes = s.lanes ∧
    (State.wakeSource s src).beam = s.beam ∧ (State.wakeSource s src).time = s.time ∧ (State.wakeSource s src).audio = s.audio ∧
    (State.wakeSource s src).power = s.power ∧ (State.wakeSource s src).video = s.video ∧ (State.wakeSource s src).dram = s.dram ∧
    (State.wakeSource s src).sram = s.sram ∧ (State.wakeSource s src).freeCtr = s.freeCtr ∧
    (State.wakeSource s src).log.entries = s.log.entries ∧ (State.wakeSource s src).log.newest = s.log.newest ∧
    (State.wakeSource s src).log.rdptr = s.log.rdptr ∧ (State.wakeSource s src).log.wrapRaised = s.log.wrapRaised ∧
    (State.wakeSource s src).log.lastIncident = s.log.lastIncident ∧ (State.wakeSource s src).log.handlers = s.log.handlers ∧
    (State.wakeSource s src).log.openIncident = s.log.openIncident ∧ (State.wakeSource s src).log.lastFatal = s.log.lastFatal ∧
    (State.wakeSource s src).log.safe = s.log.safe ∧ (State.wakeSource s src).log.safeCause = s.log.safeCause ∧
    (State.wakeSource s src).log.safeSince = s.log.safeSince ∧ (State.wakeSource s src).log.timeValid = s.log.timeValid ∧
    (State.wakeSource s src).draft.host = s.draft.host ∧ (State.wakeSource s src).draft.net = s.draft.net ∧
    (State.wakeSource s src).draft.chain = s.draft.chain ∧ (State.wakeSource s src).draft.partials = s.draft.partials ∧
    (State.wakeSource s src).draft.queue = s.draft.queue ∧ (State.wakeSource s src).draft.statHost = s.draft.statHost ∧
    (State.wakeSource s src).draft.statNet = s.draft.statNet ∧ (State.wakeSource s src).draft.statChain = s.draft.statChain ∧
    (State.wakeSource s src).draft.statSelv = s.draft.statSelv ∧ (State.wakeSource s src).draft.entered = s.draft.entered ∧
    (State.wakeSource s src).draft.effects = s.draft.effects ∧ (State.wakeSource s src).draft.held = s.draft.held ∧
    (State.wakeSource s src).draft.boltQ = s.draft.boltQ ∧ (State.wakeSource s src).draft.fastQ = s.draft.fastQ ∧
    (State.wakeSource s src).draft.replay = s.draft.replay ∧ (State.wakeSource s src).draft.malformed = s.draft.malformed ∧
    (State.wakeSource s src).draft.unanswered = s.draft.unanswered ∧ (State.wakeSource s src).draft.refusals = s.draft.refusals ∧
    (State.wakeSource s src).draft.flowSelect = s.draft.flowSelect ∧ (State.wakeSource s src).draft.readSeq = s.draft.readSeq ∧
    (State.wakeSource s src).draft.ctrSelect = s.draft.ctrSelect ∧ (State.wakeSource s src).pcie.mail = s.pcie.mail ∧
    (State.wakeSource s src).pcie.rings = s.pcie.rings ∧ (State.wakeSource s src).pcie.linkUp = s.pcie.linkUp ∧
    (State.wakeSource s src).pcie.linkRate = s.pcie.linkRate ∧ (State.wakeSource s src).pcie.linkWidth = s.pcie.linkWidth ∧
    (State.wakeSource s src).pcie.droppedWrites = s.pcie.droppedWrites ∧ (State.wakeSource s src).pcie.unitBytes = s.pcie.unitBytes ∧
    (State.wakeSource s src).shtl.threads = s.shtl.threads ∧ (State.wakeSource s src).shtl.ready = s.shtl.ready ∧
    (State.wakeSource s src).shtl.cores = s.shtl.cores ∧ (State.wakeSource s src).shtl.bound = s.shtl.bound ∧
    (State.wakeSource s src).shtl.nextSeq = s.shtl.nextSeq ∧ (State.wakeSource s src).net.flows = s.net.flows ∧
    (State.wakeSource s src).net.policerAt = s.net.policerAt ∧ (State.wakeSource s src).net.chain = s.net.chain ∧
    (State.wakeSource s src).pmc.latch = s.pmc.latch ∧ (State.wakeSource s src).pmc.bank = s.pmc.bank ∧
    (State.wakeSource s src).pmc.snapAsked = s.pmc.snapAsked ∧ (State.wakeSource s src).pmc.holds = s.pmc.holds ∧
    (State.wakeSource s src).pmc.buffer = s.pmc.buffer ∧ (State.wakeSource s src).pmc.writePtr = s.pmc.writePtr ∧
    (State.wakeSource s src).pmc.readPtr = s.pmc.readPtr ∧ (State.wakeSource s src).pmc.level = s.pmc.level ∧
    (State.wakeSource s src).pmc.lostPending = s.pmc.lostPending ∧ (State.wakeSource s src).pmc.retired = s.pmc.retired ∧
    (State.wakeSource s src).pmc.period = s.pmc.period ∧ (State.wakeSource s src).flash.present = s.flash.present ∧
    (State.wakeSource s src).flash.selA = s.flash.selA ∧ (State.wakeSource s src).flash.selB = s.flash.selB ∧
    (State.wakeSource s src).flash.keys = s.flash.keys ∧ (State.wakeSource s src).flash.cfgA = s.flash.cfgA ∧
    (State.wakeSource s src).flash.cfgB = s.flash.cfgB ∧ (State.wakeSource s src).flash.fwA = s.flash.fwA ∧
    (State.wakeSource s src).flash.fwB = s.flash.fwB :=
  State.still_fields (State.wakeSource_still s src)

@[simp] theorem State.wakeSource_accessors (s : State) (src : Nat) :
    (State.wakeSource s src).reed = s.reed ∧ (State.wakeSource s src).press = s.press ∧ (State.wakeSource s src).chan = s.chan ∧
    (State.wakeSource s src).loom = s.loom ∧ (State.wakeSource s src).unp = s.unp ∧ (State.wakeSource s src).lane = s.lane ∧
    (State.wakeSource s src).dom = s.dom ∧ (State.wakeSource s src).bch = s.bch ∧ (State.wakeSource s src).aport = s.aport ∧
    (State.wakeSource s src).abind = s.abind ∧ (State.wakeSource s src).thread = s.thread ∧ (State.wakeSource s src).core = s.core ∧
    (State.wakeSource s src).ring = s.ring ∧ (State.wakeSource s src).mail = s.mail ∧ (State.wakeSource s src).obj = s.obj ∧
    (State.wakeSource s src).nat = s.nat ∧ (State.wakeSource s src).int = s.int ∧ (State.wakeSource s src).flag = s.flag ∧
    (State.wakeSource s src).isFrozen = s.isFrozen :=
  State.still_accessors (State.wakeSource_still s src)

@[simp] theorem State.raise_fields (s : State) (e : Ev) :
    (State.raise s e).pending = s.pending ∧ (State.raise s e).clk = s.clk ∧ (State.raise s e).objs = s.objs ∧
    (State.raise s e).conf = s.conf ∧ (State.raise s e).fab = s.fab ∧ (State.raise s e).fuses = s.fuses ∧
    (State.raise s e).boot = s.boot ∧ (State.raise s e).gov = s.gov ∧ (State.raise s e).lanes = s.lanes ∧
    (State.raise s e).beam = s.beam ∧ (State.raise s e).time = s.time ∧ (State.raise s e).audio = s.audio ∧
    (State.raise s e).power = s.power ∧ (State.raise s e).video = s.video ∧ (State.raise s e).dram = s.dram ∧
    (State.raise s e).sram = s.sram ∧ (State.raise s e).freeCtr = s.freeCtr ∧ (State.raise s e).log.entries = s.log.entries ∧
    (State.raise s e).log.newest = s.log.newest ∧ (State.raise s e).log.rdptr = s.log.rdptr ∧
    (State.raise s e).log.wrapRaised = s.log.wrapRaised ∧ (State.raise s e).log.lastIncident = s.log.lastIncident ∧
    (State.raise s e).log.handlers = s.log.handlers ∧ (State.raise s e).log.openIncident = s.log.openIncident ∧
    (State.raise s e).log.lastFatal = s.log.lastFatal ∧ (State.raise s e).log.safe = s.log.safe ∧
    (State.raise s e).log.safeCause = s.log.safeCause ∧ (State.raise s e).log.safeSince = s.log.safeSince ∧
    (State.raise s e).log.timeValid = s.log.timeValid ∧ (State.raise s e).draft.host = s.draft.host ∧
    (State.raise s e).draft.net = s.draft.net ∧ (State.raise s e).draft.chain = s.draft.chain ∧
    (State.raise s e).draft.partials = s.draft.partials ∧ (State.raise s e).draft.queue = s.draft.queue ∧
    (State.raise s e).draft.statHost = s.draft.statHost ∧ (State.raise s e).draft.statNet = s.draft.statNet ∧
    (State.raise s e).draft.statChain = s.draft.statChain ∧ (State.raise s e).draft.statSelv = s.draft.statSelv ∧
    (State.raise s e).draft.entered = s.draft.entered ∧ (State.raise s e).draft.effects = s.draft.effects ∧
    (State.raise s e).draft.held = s.draft.held ∧ (State.raise s e).draft.boltQ = s.draft.boltQ ∧
    (State.raise s e).draft.fastQ = s.draft.fastQ ∧ (State.raise s e).draft.replay = s.draft.replay ∧
    (State.raise s e).draft.malformed = s.draft.malformed ∧ (State.raise s e).draft.unanswered = s.draft.unanswered ∧
    (State.raise s e).draft.refusals = s.draft.refusals ∧ (State.raise s e).draft.flowSelect = s.draft.flowSelect ∧
    (State.raise s e).draft.readSeq = s.draft.readSeq ∧ (State.raise s e).draft.ctrSelect = s.draft.ctrSelect ∧
    (State.raise s e).pcie.mail = s.pcie.mail ∧ (State.raise s e).pcie.rings = s.pcie.rings ∧
    (State.raise s e).pcie.linkUp = s.pcie.linkUp ∧ (State.raise s e).pcie.linkRate = s.pcie.linkRate ∧
    (State.raise s e).pcie.linkWidth = s.pcie.linkWidth ∧ (State.raise s e).pcie.droppedWrites = s.pcie.droppedWrites ∧
    (State.raise s e).pcie.unitBytes = s.pcie.unitBytes ∧ (State.raise s e).shtl.threads = s.shtl.threads ∧
    (State.raise s e).shtl.ready = s.shtl.ready ∧ (State.raise s e).shtl.cores = s.shtl.cores ∧
    (State.raise s e).shtl.bound = s.shtl.bound ∧ (State.raise s e).shtl.nextSeq = s.shtl.nextSeq ∧
    (State.raise s e).net.flows = s.net.flows ∧ (State.raise s e).net.policerAt = s.net.policerAt ∧
    (State.raise s e).net.chain = s.net.chain ∧ (State.raise s e).pmc.latch = s.pmc.latch ∧ (State.raise s e).pmc.bank = s.pmc.bank ∧
    (State.raise s e).pmc.snapAsked = s.pmc.snapAsked ∧ (State.raise s e).pmc.holds = s.pmc.holds ∧
    (State.raise s e).pmc.buffer = s.pmc.buffer ∧ (State.raise s e).pmc.writePtr = s.pmc.writePtr ∧
    (State.raise s e).pmc.readPtr = s.pmc.readPtr ∧ (State.raise s e).pmc.level = s.pmc.level ∧
    (State.raise s e).pmc.lostPending = s.pmc.lostPending ∧ (State.raise s e).pmc.retired = s.pmc.retired ∧
    (State.raise s e).pmc.period = s.pmc.period ∧ (State.raise s e).flash.present = s.flash.present ∧
    (State.raise s e).flash.selA = s.flash.selA ∧ (State.raise s e).flash.selB = s.flash.selB ∧
    (State.raise s e).flash.keys = s.flash.keys ∧ (State.raise s e).flash.cfgA = s.flash.cfgA ∧
    (State.raise s e).flash.cfgB = s.flash.cfgB ∧ (State.raise s e).flash.fwA = s.flash.fwA ∧ (State.raise s e).flash.fwB = s.flash.fwB :=
  State.still_fields (State.raise_still s e)

@[simp] theorem State.raise_accessors (s : State) (e : Ev) :
    (State.raise s e).reed = s.reed ∧ (State.raise s e).press = s.press ∧ (State.raise s e).chan = s.chan ∧
    (State.raise s e).loom = s.loom ∧ (State.raise s e).unp = s.unp ∧ (State.raise s e).lane = s.lane ∧ (State.raise s e).dom = s.dom ∧
    (State.raise s e).bch = s.bch ∧ (State.raise s e).aport = s.aport ∧ (State.raise s e).abind = s.abind ∧
    (State.raise s e).thread = s.thread ∧ (State.raise s e).core = s.core ∧ (State.raise s e).ring = s.ring ∧
    (State.raise s e).mail = s.mail ∧ (State.raise s e).obj = s.obj ∧ (State.raise s e).nat = s.nat ∧ (State.raise s e).int = s.int ∧
    (State.raise s e).flag = s.flag ∧ (State.raise s e).isFrozen = s.isFrozen :=
  State.still_accessors (State.raise_still s e)

@[simp] theorem State.raiseLimited_fields (s : State) (key : Nat) (e : Ev) :
    (State.raiseLimited s key e).pending = s.pending ∧ (State.raiseLimited s key e).clk = s.clk ∧
    (State.raiseLimited s key e).objs = s.objs ∧ (State.raiseLimited s key e).conf = s.conf ∧ (State.raiseLimited s key e).fab = s.fab ∧
    (State.raiseLimited s key e).fuses = s.fuses ∧ (State.raiseLimited s key e).boot = s.boot ∧
    (State.raiseLimited s key e).gov = s.gov ∧ (State.raiseLimited s key e).lanes = s.lanes ∧
    (State.raiseLimited s key e).beam = s.beam ∧ (State.raiseLimited s key e).time = s.time ∧
    (State.raiseLimited s key e).audio = s.audio ∧ (State.raiseLimited s key e).power = s.power ∧
    (State.raiseLimited s key e).video = s.video ∧ (State.raiseLimited s key e).dram = s.dram ∧
    (State.raiseLimited s key e).sram = s.sram ∧ (State.raiseLimited s key e).freeCtr = s.freeCtr ∧
    (State.raiseLimited s key e).log.entries = s.log.entries ∧ (State.raiseLimited s key e).log.newest = s.log.newest ∧
    (State.raiseLimited s key e).log.rdptr = s.log.rdptr ∧ (State.raiseLimited s key e).log.wrapRaised = s.log.wrapRaised ∧
    (State.raiseLimited s key e).log.lastIncident = s.log.lastIncident ∧ (State.raiseLimited s key e).log.handlers = s.log.handlers ∧
    (State.raiseLimited s key e).log.openIncident = s.log.openIncident ∧ (State.raiseLimited s key e).log.lastFatal = s.log.lastFatal ∧
    (State.raiseLimited s key e).log.safe = s.log.safe ∧ (State.raiseLimited s key e).log.safeCause = s.log.safeCause ∧
    (State.raiseLimited s key e).log.safeSince = s.log.safeSince ∧ (State.raiseLimited s key e).log.timeValid = s.log.timeValid ∧
    (State.raiseLimited s key e).draft.host = s.draft.host ∧ (State.raiseLimited s key e).draft.net = s.draft.net ∧
    (State.raiseLimited s key e).draft.chain = s.draft.chain ∧ (State.raiseLimited s key e).draft.partials = s.draft.partials ∧
    (State.raiseLimited s key e).draft.queue = s.draft.queue ∧ (State.raiseLimited s key e).draft.statHost = s.draft.statHost ∧
    (State.raiseLimited s key e).draft.statNet = s.draft.statNet ∧ (State.raiseLimited s key e).draft.statChain = s.draft.statChain ∧
    (State.raiseLimited s key e).draft.statSelv = s.draft.statSelv ∧ (State.raiseLimited s key e).draft.entered = s.draft.entered ∧
    (State.raiseLimited s key e).draft.effects = s.draft.effects ∧ (State.raiseLimited s key e).draft.held = s.draft.held ∧
    (State.raiseLimited s key e).draft.boltQ = s.draft.boltQ ∧ (State.raiseLimited s key e).draft.fastQ = s.draft.fastQ ∧
    (State.raiseLimited s key e).draft.replay = s.draft.replay ∧ (State.raiseLimited s key e).draft.malformed = s.draft.malformed ∧
    (State.raiseLimited s key e).draft.unanswered = s.draft.unanswered ∧
    (State.raiseLimited s key e).draft.refusals = s.draft.refusals ∧
    (State.raiseLimited s key e).draft.flowSelect = s.draft.flowSelect ∧ (State.raiseLimited s key e).draft.readSeq = s.draft.readSeq ∧
    (State.raiseLimited s key e).draft.ctrSelect = s.draft.ctrSelect ∧ (State.raiseLimited s key e).pcie.mail = s.pcie.mail ∧
    (State.raiseLimited s key e).pcie.rings = s.pcie.rings ∧ (State.raiseLimited s key e).pcie.linkUp = s.pcie.linkUp ∧
    (State.raiseLimited s key e).pcie.linkRate = s.pcie.linkRate ∧ (State.raiseLimited s key e).pcie.linkWidth = s.pcie.linkWidth ∧
    (State.raiseLimited s key e).pcie.droppedWrites = s.pcie.droppedWrites ∧
    (State.raiseLimited s key e).pcie.unitBytes = s.pcie.unitBytes ∧ (State.raiseLimited s key e).shtl.threads = s.shtl.threads ∧
    (State.raiseLimited s key e).shtl.ready = s.shtl.ready ∧ (State.raiseLimited s key e).shtl.cores = s.shtl.cores ∧
    (State.raiseLimited s key e).shtl.bound = s.shtl.bound ∧ (State.raiseLimited s key e).shtl.nextSeq = s.shtl.nextSeq ∧
    (State.raiseLimited s key e).net.flows = s.net.flows ∧ (State.raiseLimited s key e).net.policerAt = s.net.policerAt ∧
    (State.raiseLimited s key e).net.chain = s.net.chain ∧ (State.raiseLimited s key e).pmc.latch = s.pmc.latch ∧
    (State.raiseLimited s key e).pmc.bank = s.pmc.bank ∧ (State.raiseLimited s key e).pmc.snapAsked = s.pmc.snapAsked ∧
    (State.raiseLimited s key e).pmc.holds = s.pmc.holds ∧ (State.raiseLimited s key e).pmc.buffer = s.pmc.buffer ∧
    (State.raiseLimited s key e).pmc.writePtr = s.pmc.writePtr ∧ (State.raiseLimited s key e).pmc.readPtr = s.pmc.readPtr ∧
    (State.raiseLimited s key e).pmc.level = s.pmc.level ∧ (State.raiseLimited s key e).pmc.lostPending = s.pmc.lostPending ∧
    (State.raiseLimited s key e).pmc.retired = s.pmc.retired ∧ (State.raiseLimited s key e).pmc.period = s.pmc.period ∧
    (State.raiseLimited s key e).flash.present = s.flash.present ∧ (State.raiseLimited s key e).flash.selA = s.flash.selA ∧
    (State.raiseLimited s key e).flash.selB = s.flash.selB ∧ (State.raiseLimited s key e).flash.keys = s.flash.keys ∧
    (State.raiseLimited s key e).flash.cfgA = s.flash.cfgA ∧ (State.raiseLimited s key e).flash.cfgB = s.flash.cfgB ∧
    (State.raiseLimited s key e).flash.fwA = s.flash.fwA ∧ (State.raiseLimited s key e).flash.fwB = s.flash.fwB :=
  State.still_fields (State.raiseLimited_still s key e)

@[simp] theorem State.raiseLimited_accessors (s : State) (key : Nat) (e : Ev) :
    (State.raiseLimited s key e).reed = s.reed ∧ (State.raiseLimited s key e).press = s.press ∧
    (State.raiseLimited s key e).chan = s.chan ∧ (State.raiseLimited s key e).loom = s.loom ∧ (State.raiseLimited s key e).unp = s.unp ∧
    (State.raiseLimited s key e).lane = s.lane ∧ (State.raiseLimited s key e).dom = s.dom ∧ (State.raiseLimited s key e).bch = s.bch ∧
    (State.raiseLimited s key e).aport = s.aport ∧ (State.raiseLimited s key e).abind = s.abind ∧
    (State.raiseLimited s key e).thread = s.thread ∧ (State.raiseLimited s key e).core = s.core ∧
    (State.raiseLimited s key e).ring = s.ring ∧ (State.raiseLimited s key e).mail = s.mail ∧ (State.raiseLimited s key e).obj = s.obj ∧
    (State.raiseLimited s key e).nat = s.nat ∧ (State.raiseLimited s key e).int = s.int ∧ (State.raiseLimited s key e).flag = s.flag ∧
    (State.raiseLimited s key e).isFrozen = s.isFrozen :=
  State.still_accessors (State.raiseLimited_still s key e)

end Sys2Proof.Machine
end

