-- ==== Sys2Proof/Machine/Package.lean ====
section
/-!
DEFINITION. Sys2Proof/Machine/Package.lean: what stands at each ball of the package (R490 to R496), the rails (R498, R502), the states of
the low-speed pins (R504), and the test access port (R511).
-/

namespace Sys2Proof.Machine

/-- R498: the rails that the board supplies. -/
inductive Rail where
  | core | sram | aon | pll | fuse | io | ddrq | ddrPhy | lane | laneH | pcie | pcieH
  deriving DecidableEq, Repr

/-- R498: nominal voltage in mV (VDD_CORE: the value at which the regulator must start, R499), tolerance in thousandths, and the
greatest current in mA. -/
def Rail.limits : Rail → Nat × Nat × Nat
  | .core => (850, 30, 60000) | .sram => (800, 30, 8000) | .aon => (800, 50, 200) | .pll => (850, 30, 150)
  | .fuse => (1800, 50, 150) | .io => (1800, 50, 300) | .ddrq => (500, 30, 4000) | .ddrPhy => (850, 30, 3000)
  | .lane => (850, 30, 6000) | .laneH => (1200, 30, 2000) | .pcie => (850, 30, 1500) | .pcieH => (1200, 30, 500)

/-- R502: the group in which the board brings a rail up. -/
def Rail.group : Rail → Nat
  | .io | .fuse => 1
  | .aon | .pll | .core | .sram | .ddrPhy | .lane | .pcie => 2
  | .laneH | .pcieH | .ddrq => 3

/-- R501: the rail that a monitor's number names. -/
def monitoredRail (n : Nat) : Option Rail :=
  ([.core, .sram, .aon, .ddrq, .ddrPhy, .lane, .laneH, .io, .fuse] : List Rail)[n]?

/-- What a ball carries. -/
inductive Ball where
  | vss
  | reserved
  | supply (r : Rail)
  | signal (name : String)
  deriving DecidableEq, Repr

/-- R493: the balls of a quad's band by band row and by column counted from the package's edge. -/
def laneBall (quad r c : Nat) : Ball :=
  let lane := "LANE" ++ toString (4 * quad + r / 2)
  if r = 8 then (if c = 3 then .signal ("LANE" ++ toString quad ++ "_RCAL") else .vss)
  else if r % 2 = 0 then
    match c with
    | 1 => .signal (lane ++ "_TXP") | 2 => .signal (lane ++ "_TXN") | 4 => .signal (lane ++ "_RXP") | 5 => .signal (lane ++ "_RXN") | _ => .vss
  else match c with | 2 | 5 => .supply .lane | 3 => .supply .laneH | _ => .vss

/-- R494: the names of a row of a Beam block that carries signals at every place; an empty name is VSS, a dash VDDQ_DDR. -/
def beamRow : Nat → List String
  | 1 => ["DQ0_A", "DQ1_A", "", "DQ2_A", "DQ3_A", "", "DQ0_B", "DQ1_B", "", "DQ2_B", "DQ3_B"]
  | 2 => ["DQ4_A", "DQ5_A", "", "DQ6_A", "DQ7_A", "", "DQ4_B", "DQ5_B", "", "DQ6_B", "DQ7_B"]
  | 3 => ["DMI0_A", "RDQS0T_A", "RDQS0C_A", "WCK0T_A", "WCK0C_A", "-", "DMI0_B", "RDQS0T_B", "RDQS0C_B", "WCK0T_B", "WCK0C_B"]
  | 4 => ["", "-", "", "-", "", "ZQ", "", "-", "", "-", ""]
  | 5 => ["DQ8_A", "DQ9_A", "", "DQ10_A", "DQ11_A", "", "DQ8_B", "DQ9_B", "", "DQ10_B", "DQ11_B"]
  | 6 => ["DQ12_A", "DQ13_A", "", "DQ14_A", "DQ15_A", "", "DQ12_B", "DQ13_B", "", "DQ14_B", "DQ15_B"]
  | 7 => ["DMI1_A", "RDQS1T_A", "RDQS1C_A", "WCK1T_A", "WCK1C_A", "-", "DMI1_B", "RDQS1T_B", "RDQS1C_B", "WCK1T_B", "WCK1C_B"]
  | 8 => ["CA0_A", "CA1_A", "CA2_A", "CKT_A", "CKC_A", "CA3_A", "CA0_B", "CA1_B", "CA2_B", "CKT_B", "CKC_B"]
  | 9 => ["CA4_A", "CA5_A", "CA6_A", "CS0_A", "CS1_A", "CA3_B", "CA4_B", "CA5_B", "CA6_B", "CS0_B", "CS1_B"]
  | _ => []

/-- R494: the ball at row r and column k of the block of Beam channel b. -/
def beamBall (b r k : Nat) : Ball :=
  let n := (beamRow r).getD k ""
  if n = "" then .vss else if n = "-" then .supply .ddrq else .signal ("DDR" ++ toString b ++ "_" ++ n)

/-- R495: the balls of the top left corner. -/
def controlBall (row col : Nat) : Ball :=
  let names : List (List String) :=
    [["REF25_IN", "", "PORST_N", "WRST_N", "FAULT_N", "TESTEN"], [], ["TCK", "TMS", "TDI", "TDO", "TRST_N"],
     ["AVS_CLK", "AVS_MDATA", "AVS_SDATA", "VCORE_SNS_P", "VCORE_SNS_N"],
     ["THERM_DA", "THERM_DC", "PCIE_PERST_N", "PCIE_CLKREQ_N", "PCIE_WAKE_N", "DDR_RESET_N"],
     ["FL_CLK", "FL_CS_N", "FL_DQS", "FL_RESET_N"], ["FL_DQ0", "FL_DQ1", "FL_DQ2", "FL_DQ3"],
     ["FL_DQ4", "FL_DQ5", "FL_DQ6", "FL_DQ7"]]
  match row, col with
  | 2, 2 | 2, 3 => .supply .pll
  | 2, 4 | 2, 5 | 9, 4 | 9, 5 => .supply .aon
  | 9, 1 | 9, 2 => .supply .fuse
  | 3, 6 | 4, 6 | 6, 5 | 7, 5 | 8, 5 | 9, 3 => .supply .io
  | _, _ => let n := (names.getD (row - 1) []).getD (col - 1) ""; if n = "" then .vss else .signal n

/-- R495: the balls of the top right corner, by row and by column counted from 51. -/
def audioBall (row k : Nat) : Ball :=
  if row = 9 then (match (["AUD_RXBCK", "AUD_RXFS", "AUD_TXBCK", "AUD_TXFS"] : List String)[k]? with | some n => .signal n | none => .vss)
  else match (["_SCK", "_WS", "_SD"] : List String)[k]? with | some n => .signal ("AUD" ++ toString (row - 1) ++ n) | none => .vss

/-- R495: the balls of the bottom left corner. -/
def pcieBall (row col : Nat) : Ball :=
  let lane := toString (row - 46)
  if row = 54 then
    match col with | 1 => .signal "PCIE_REFCLK_P" | 2 => .signal "PCIE_REFCLK_N" | 4 => .signal "PCIE_RCAL" | _ => .vss
  else match col with
    | 1 => .signal ("PCIE_TXP" ++ lane) | 2 => .signal ("PCIE_TXN" ++ lane) | 4 => .signal ("PCIE_RXP" ++ lane)
    | 5 => .signal ("PCIE_RXN" ++ lane) | _ => .vss

/-- R495: the balls of the bottom right corner. -/
def pulseBall (row col : Nat) : Ball :=
  if row = 54 then (if col = 51 || col = 52 then .supply .io else .vss)
  else match col with
    | 51 => .signal ("TP" ++ toString (row - 46)) | 53 => .signal ("CAP" ++ toString (row - 46)) | 54 => .supply .io | _ => .vss

/-- R496: the balls of the core field, rows 10 to 45 and columns 7 to 48. -/
def fieldBall (row col : Nat) : Ball :=
  if row ≤ 11 || 44 ≤ row then
    (if col % 2 = 1 then .vss else .supply (if row = 10 || row = 45 then .ddrq else .ddrPhy))
  else if col = 7 then (if 32 ≤ row then .supply .pcie else .vss)
  else if col = 8 then (if 36 ≤ row then .supply .pcieH else .vss)
  else if 27 ≤ col && col ≤ 28 && 17 ≤ row && row ≤ 27 then .reserved
  else if (row + col) % 2 = 1 then .vss
  else .supply (if row ≤ 13 || 42 ≤ row then .sram else .core)

/-- R490, R492: the ball at a row and a column, each from 1 to 54. -/
def ballAt (row col : Nat) : Ball :=
  if row ≤ 9 then
    (if col ≤ 6 then controlBall row col else if col ≤ 50 then beamBall ((col - 7) / 11) row ((col - 7) % 11) else audioBall row (col - 51))
  else if row ≤ 45 then
    (if col ≤ 6 then laneBall ((row - 10) / 9) ((row - 10) % 9) col
     else if 49 ≤ col then laneBall (4 + (row - 10) / 9) ((row - 10) % 9) (55 - col)
     else fieldBall row col)
  else if col ≤ 6 then pcieBall row col
  else if col ≤ 50 then beamBall (4 + (col - 7) / 11) (55 - row) ((col - 7) % 11)
  else pulseBall row col

/-! ## Pins (R504) -/

/-- R504: what stands at a pin: a level, no drive with or without a 50 kΩ pull, or what the block that owns the pin drives. -/
inductive PinState where
  | low
  | released
  | input (pullUp pullDown : Bool)
  | owner
  deriving DecidableEq, Repr

/-- R504: the low-speed pins by group. -/
inductive PinGroup where
  | fault | pulse | capture | audio | flashSelect | flashData | dramReset | testUp | testDown | avs
  deriving DecidableEq, Repr

/-- R504: the state of a group of pins; `ported` says whether a pin of the audio group belongs to an enabled port. -/
def pinState (s : State) (ported : Bool) : PinGroup → PinState
  | .fault => if s.power.inReset || deviceState s == 5 || deviceState s == 6 then .low else .released
  | .pulse => if s.power.inReset then .low else .owner
  | .capture => if s.power.inReset then .input false true else .input false false
  | .audio => if s.power.inReset || !ported then .input false true else .owner
  | .flashSelect => if s.power.inReset then .input true false else .owner
  | .flashData => if s.power.inReset then .input false true else .owner
  | .dramReset => if s.power.ddrReset then .low else .owner
  | .testUp => .input true false
  | .testDown => .input false true
  | .avs => if s.power.inReset then .input false false else .owner

/-! ## The test access port (R511) -/

/-- R511: IDCODE. -/
def tapIdcode : BitVec 32 := 0x291404D3

/-- R511: the standard of IEEE 1149 by which the TAP serves a ball, 1 or 6; none for a ball that carries no signal. The PCIe
sidebands count with the low-speed balls (R491). -/
def tapStandard : Ball → Option Nat
  | .signal n =>
    let sideband := n == "PCIE_PERST_N" || n == "PCIE_CLKREQ_N" || n == "PCIE_WAKE_N"
    some (if n.startsWith "LANE" || (n.startsWith "PCIE" && !sideband) then 6 else 1)
  | _ => none

end Sys2Proof.Machine
end

