-- ==== Sys2Proof/Tests/Base.lean ====
section
/-!
SUPPORT. Sys2Proof/Tests/Base.lean: small states that the tests and the witnesses of the statements start from.
-/

namespace Sys2Proof.Tests

set_option Elab.async false

open Sys2Proof.Machine

/-- A device that has started up, so many TIME_CLK periods after reset. -/
def up (ticks : Nat) : State :=
  { State.reset with
    clk := { ticks := ticks }
    fab := { windowsOpen := true, selvLocked := true }
    beam := { trained := true, ranks := 1, densityGb := 8, trainedMask := 7 }
    boot := { spindle := true, fusesRead := true, patternChosen := true, earlySet := true, fwVerified := true, fastStarted := true,
              dramTrained := true, qualified := true, boltReady := true, configured := true, imageVerified := true,
              configCommitted := true } }

/-- One second of TIME_CLK periods. -/
def second : Nat := 240000000

/-- A state so many ns after the epoch in presented time. -/
def atNs (s : State) (n : Nat) : State := { s with clk := { s.clk with presented := (n : Int) * unitsPerNs } }

/-- Objects in force beside those of a state. -/
def withObjs (s : State) (l : List (Nat × Nat)) : State := l.foldl (fun s e => s.setN e.1 e.2) s

end Sys2Proof.Tests
end

