-- ==== Sys2Proof/WellFormed.lean ====
section
/-!
DEFINITION. Sys2Proof/WellFormed.lean: the limits that the spec puts on the operands of a command.
-/

namespace Sys2Proof

open Sys2Proof.Machine

/-- Whether the operands of a command lie within the limits that the spec gives them. -/
def Instr.wf : Instr → Bool
  | .dramTrained _ ranks density points => (ranks == 1 || ranks == 2) && (density == 8 || density == 12 || density == 16) && decide (points < 8)
  | .mailboxSubmit _ length => decide (32 ≤ length) && decide (length ≤ 4096)
  | .bar2Access offset len wdata =>
    decide (offset + len ≤ 2 ^ 32) && (match wdata with | some d => d.length == len | none => true)
  | .ringEnable _ n => decide (4 ≤ n) && decide (n ≤ 16)
  | .ringTailWrite _ w => decide (w.tail < 65536)
  | .registerWrite addr _ => (decide (addr < 2 ^ 26) || (decide (2 ^ 32 ≤ addr) && decide (addr < 2 ^ 32 + 4096))) && decide (addr % 4 = 0)
  | .fabricTransaction t => decide (t.master < 40) && decide (1 ≤ t.len) && decide (t.addr % 256 + t.len ≤ 256)
  | .sdiLinkLost _ lost => decide (lost.link < 4)
  | .sourceLineReceived _ _ _ part => decide (part.link < 4)
  | .freeze _ _ _ report => decide (report.lanes < 16)
  | .ctuIntake _ ctu => decide (ctu.ops ≤ 384)
  | .boltRequestHandled n => decide (n < 10)
  | .boltReplyTimeout n => decide (n < 10)
  | .eventNotifyResend sub _ => decide (sub < 4)
  | .pulseEdge n => decide (n < 8)
  | .captureEdge n _ => decide (n < 8)
  | .capturePop n => decide (n < 8)
  | .powerDownEntry _ r => decide (r < 2)
  | .setPointChange p => decide (p < 3)
  | .create _ l k m => decide (l < 64) && decide (k < 4) && decide (m < 256)
  | .wake _ t => decide (t < 4096)
  | .cancel _ t => decide (t < 4096)
  | .setPriority _ t l => decide (t < 4096) && decide (l < 64)
  | .setClass _ t k m => decide (t < 4096) && decide (k < 4) && decide (m < 256)
  | .free _ t => decide (t < 4096)
  | .bind _ t src => decide (t < 4096) && decide (src < 1024)
  | .affinityHoldExpiry t => decide (t < 4096)
  | .cancelGraceExpiry t => decide (t < 4096)
  | .deferLimitExpiry t => decide (t < 4096)
  | .qualifyMask _ m => decide (m < 65536)
  | .eventRaise src _ _ _ _ sev => decide (src < 640) && decide (sev ≤ 4)
  | .logPendingClear n _ => decide (n < 20)
  | .supplyMonitor r _ => decide (r < 9)
  | .rtcpSenderReport _ p => decide (p < 16)
  | .patternLoadSlot _ slot => decide (slot < 2)
  | .keyWrite _ slot key => (decide (slot < 8) || slot == 16) && (key.length == 32 || key.isEmpty)
  | _ => true

end Sys2Proof
end

