-- ==== Sys2Proof/Tests/Slice0.lean ====
section
/-!
SUPPORT. Sys2Proof/Tests/Slice0.lean: the model's own tests: ill-formed operands that the check of WellFormed refuses, the worked figures
of the spec, and single steps on small states.
-/

namespace Sys2Proof.Tests

open Sys2Proof.Machine

set_option Elab.async false

/-! ## Operands: for each check of Instr.wf a command that it passes and one beyond its limit that it refuses -/

theorem test_wf_dramTrained : (Instr.dramTrained true 2 16 7).wf = true ∧ (Instr.dramTrained true 3 8 7).wf = false ∧
    (Instr.dramTrained true 1 9 7).wf = false ∧ (Instr.dramTrained true 1 8 8).wf = false := by decide
theorem test_wf_mailboxSubmit : (Instr.mailboxSubmit 0 32).wf = true ∧ (Instr.mailboxSubmit 0 31).wf = false ∧ (Instr.mailboxSubmit 0 4097).wf = false := by decide
theorem test_wf_bar2Access : (Instr.bar2Access 0 1 (some [0])).wf = true ∧ (Instr.bar2Access (2 ^ 32) 1 none).wf = false ∧
    (Instr.bar2Access 0 2 (some [0])).wf = false := by decide
theorem test_wf_rings : (Instr.ringEnable 0 16).wf = true ∧ (Instr.ringEnable 0 3).wf = false ∧ (Instr.ringEnable 0 17).wf = false ∧
    (Instr.ringTailWrite 0 ⟨65536, []⟩).wf = false := by decide
theorem test_wf_registerWrite : (Instr.registerWrite 4 0).wf = true ∧ (Instr.registerWrite 2 0).wf = false ∧ (Instr.registerWrite (2 ^ 26) 0).wf = false := by decide
theorem test_wf_fabricTransaction :
    let t : Txn := { master := 39, stream := 0, target := .dram, addr := 255, len := 1, wdata := none }
    (Instr.fabricTransaction t).wf = true ∧ (Instr.fabricTransaction { t with len := 2 }).wf = false ∧
      (Instr.fabricTransaction { t with len := 0 }).wf = false ∧ (Instr.fabricTransaction { t with master := 40 }).wf = false := by decide
theorem test_wf_links : (Instr.sdiLinkLost 0 ⟨3, .lock⟩).wf = true ∧ (Instr.sdiLinkLost 0 ⟨4, .lock⟩).wf = false ∧
    (let f : SourceFormat := { payload := none, raster := { width := 1920, height := 1080, rateNum := 50, rateDen := 1 } }
     (Instr.sourceLineReceived 0 0 f { link := 3, x := 0, step := 1, pairs := [] }).wf = true ∧
       (Instr.sourceLineReceived 0 0 f { link := 4, x := 0, step := 1, pairs := [] }).wf = false) := by decide
theorem test_wf_queues : (Instr.boltRequestHandled 9).wf = true ∧ (Instr.boltRequestHandled 10).wf = false ∧ (Instr.boltReplyTimeout 10).wf = false ∧
    (Instr.eventNotifyResend 4 0).wf = false := by decide
theorem test_wf_pulses : (Instr.pulseEdge 7).wf = true ∧ (Instr.pulseEdge 8).wf = false ∧ (Instr.captureEdge 8 true).wf = false ∧
    (Instr.capturePop 8).wf = false := by decide
theorem test_wf_beam : (Instr.powerDownEntry 0 1).wf = true ∧ (Instr.powerDownEntry 0 2).wf = false ∧ (Instr.setPointChange 3).wf = false := by decide
theorem test_wf_create : (Instr.create 0 63 3 255).wf = true ∧ (Instr.create 0 64 3 255).wf = false ∧ (Instr.create 0 63 4 255).wf = false ∧
    (Instr.create 0 63 3 256).wf = false := by decide
theorem test_wf_threads : (Instr.wake 0 4095).wf = true ∧ (Instr.wake 0 4096).wf = false ∧ (Instr.cancel 0 4096).wf = false ∧
    (Instr.setPriority 0 4096 0).wf = false ∧ (Instr.setPriority 0 0 64).wf = false ∧ (Instr.setClass 0 4096 0 1).wf = false ∧
    (Instr.setClass 0 0 4 1).wf = false ∧ (Instr.setClass 0 0 0 256).wf = false ∧ (Instr.free 0 4096).wf = false := by decide
theorem test_wf_bind : (Instr.bind 0 4095 1023).wf = true ∧ (Instr.bind 0 4096 0).wf = false ∧ (Instr.bind 0 0 1024).wf = false := by decide
theorem test_wf_limits : (Instr.affinityHoldExpiry 4096).wf = false ∧ (Instr.cancelGraceExpiry 4096).wf = false ∧ (Instr.deferLimitExpiry 4096).wf = false := by decide
theorem test_wf_ctuIntake :
    let m : CtuCoding := { bits := 0, blocks := [] }
    (Instr.ctuIntake 0 { chosen := m, floor := m, activity := 0, meanActivity := 0, ops := 384 }).wf = true ∧
      (Instr.ctuIntake 0 { chosen := m, floor := m, activity := 0, meanActivity := 0, ops := 385 }).wf = false := by decide
theorem test_wf_masks : (Instr.qualifyMask .host 65535).wf = true ∧ (Instr.qualifyMask .host 65536).wf = false := by decide
theorem test_wf_events : (Instr.eventRaise 639 0 255 255 0 4).wf = true ∧ (Instr.eventRaise 640 0 255 255 0 4).wf = false ∧
    (Instr.eventRaise 639 0 255 255 0 5).wf = false ∧ (Instr.logPendingClear 20 0).wf = false := by decide
theorem test_wf_supplyMonitor : (Instr.supplyMonitor 8 .below).wf = true ∧ (Instr.supplyMonitor 9 .below).wf = false := by decide
theorem test_wf_rtcpSenderReport : (Instr.rtcpSenderReport 0 15).wf = true ∧ (Instr.rtcpSenderReport 0 16).wf = false := by decide
theorem test_wf_patternLoadSlot : (Instr.patternLoadSlot .host 1).wf = true ∧ (Instr.patternLoadSlot .host 2).wf = false := by decide
theorem test_wf_keyWrite : (Instr.keyWrite .host 16 []).wf = true ∧ (Instr.keyWrite .host 8 []).wf = false ∧ (Instr.keyWrite .host 0 [1]).wf = false := by decide

/-- The table gives its rows no bits, so no word spells a command, and placing one leaves the state as it is. -/
theorem test_no_word_spells_a_command : decodeTableWord 32 0 = none ∧ State.withFetchWord State.reset 32 0 = State.reset := by decide +kernel

/-! ## Figures of the spec -/

/-- R518 gives these totals. -/
theorem test_line_totals : [1080, 2160, 4320, 4352, 1088].map vTotal = [1125, 2250, 4500, 4534, 1134] := by decide +kernel

/-- R30 gives 218.4, 192.0 and 163.8 GB/s as the sustained rates, to a tenth. -/
theorem test_sustained : [0, 1, 2].map (fun p => (sustained p / 100000000 + 1 / 2).floor) = [2184, 1920, 1638] := by decide +kernel

/-- The Tower's sign channel of chapter 6: 3840 × 2160 at 120 Hz in HEVC 4:2:0 at 1 Gb/s, a lossless hem of 12 CTUs in rows 14 to 19, a band of
2 CTUs, SlotFactor as given. -/
def tower (factor : Nat) : State :=
  withObjs (up 0)
    [(K.reedSourceType 5, 1), (K.reedWidth 5, 3840), (K.reedHeight 5, 2160), (K.reedRateNum 5, 120), (K.reedRateDen 5, 1),
     (K.loomEncodeEnable 5, 1), (K.loomCodec 5, 0), (K.loomChromaFormat 5, 0), (K.rateBitrate 5, 1000000000), (K.rateSlotFactor 5, factor),
     (K.rateLatencyRows 5, 2), (K.darnBandColumns 5, 2), (K.hemHemEnable 5 0, 1), (K.hemLossless 5 0, 1), (K.hemX 5 0, 640), (K.hemWidth 5 0, 768),
     (K.hemY 5 0, 896), (K.hemHeight 5 0, 384)]

/-- The figures that chapter 6 works out for it, the band to the left of the hem. -/
theorem test_tower_floors :
    let v := (tower 115).view
    rowFloorBits v 5 14 0 2 = 891712 ∧ rowFloorBits v 5 1 0 2 = 8128 ∧ pictureFloor v 5 = 5594240 ∧ pictureBits v 5 = 8333333 ∧
      slotRate v 5 = 7187500000 ∧ phases v 5 = 3 := by decide +kernel

/-- R187: the row interval of a 2160p120 source is 237.04 µs, and its two-row latency 474.1 µs. -/
theorem test_tower_rows :
    (rowInterval (tower 24).view 5 / 10 + 1 / 2).floor = 23704 ∧ (latencyNs (tower 24).view 5 false 2 / 100 + 1 / 2).floor = 4741 := by decide +kernel

/-- The Truck's channel of chapter 7: 120 columns and a band of 2 make sweeps of 60 pictures and the postponements. -/
theorem test_truck_sweep :
    sweepLength (withObjs (up 0) [(K.reedSourceType 1, 1), (K.reedWidth 1, 7680), (K.reedHeight 1, 4320), (K.darnBandColumns 1, 2)]).view 1 = 60 := by
  decide +kernel

/-- R490, R492 and R494 give these places, and R511 the IDCODE. -/
theorem test_package : ballAt 19 54 = .signal "LANE20_TXP" ∧ ballAt 21 5 = .signal "LANE5_RXN" ∧ ballAt 51 34 = .signal "DDR6_ZQ" ∧ tapIdcode = 0x291404D3 := by
  decide +kernel

/-! ## Single steps -/

/-- What holds of the state that a step answers; a stop holds of nothing. -/
def after (c : Instr) (s : State) (p : State → Bool) : Bool :=
  match step { s with pending := [c] } with
  | .next t => t.pending.isEmpty && p t
  | _ => false

/-- R303: with no command waiting, one period of TIME_CLK passes. -/
theorem test_idle : (match step State.reset with | .next t => t.clk.ticks | _ => 0) = 1 := by decide +kernel
/-- R410, R62: a power-on reset empties the memories and counts the start. -/
theorem test_powerOnReset : after (.powerOnReset 1000000) { up second with dram := [(5, 1)] } (fun t => t.dram.isEmpty && t.flash.bootCount == 2 && t.clk.ticks == 0) = true := by
  decide +kernel
/-- R23. -/
theorem test_spindleLock : after .spindleLock State.reset (fun t => t.boot.spindle) = true := by decide +kernel
/-- R400: a sensor above 150 °C is excluded, and a rail's estimate shown. -/
theorem test_governorSample : after (.governorSample [1501] [100]) (up second) (fun t => t.nat K.govSensorsExcluded == 1 && t.nat (K.govRailPower 0) == 100) = true := by
  decide +kernel
/-- R392: the lowest Free context is taken, and the core reads it back. -/
theorem test_create : after (.create 3 17 1 8) (up 0) (fun t => (t.thread 0).state == .blocked && (t.thread 0).priority == 17 && (t.core 3).resultThread == 0) = true := by
  decide +kernel
/-- R392: SetClass with an empty mask answers code 3. -/
theorem test_setClass_empty_mask :
    after (.setClass 3 0 1 0) { up 0 with shtl := { threads := [(0, { state := .blocked, affinity := 8 })] } }
      (fun t => (t.core 3).resultCode == 3 && (t.thread 0).affinity == 8) = true := by decide +kernel
/-- R392: Yield goes to the tail of its level, behind an older thread. -/
theorem test_yield :
    after (.yield 3) { up 0 with shtl := { threads := [(4, { state := .running, affinity := 8 }), (7, { state := .ready, affinity := 8 })],
                                           cores := [(3, { running := some 4 })], ready := [(0, [7])] } }
      (fun t => readyList t 0 == [7, 4]) = true := by decide +kernel
/-- R393: a wake of a Ready thread is counted, and not lost. -/
theorem test_wakeIntake_counts :
    after .wakeIntake { up 0 with shtl := { threads := [(7, { state := .ready })], intake := [7] } }
      (fun t => (t.thread 7).wakeCount == 1 && (t.thread 7).state == .ready) = true := by decide +kernel
/-- R320: a pop latches the oldest of two records and leaves the other. -/
theorem test_capturePop :
    after (.capturePop 2) { up 0 with time := { caps := [(2, { fifo := [{ time := 2 ^ 32 + 5, rising := true, stepEpoch := 0 }, { time := 9, rising := false, stepEpoch := 0 }] })] } }
      (fun t => (AMap.getD t.time.caps 2 {}).latchLo == 5 && (AMap.getD t.time.caps 2 {}).latchHi == 1 && (AMap.getD t.time.caps 2 {}).fifo.length == 1) = true := by
  decide +kernel
/-- R315: a PPS output at an offset of 250 ns places its edge there in the present second. -/
theorem test_pulseEdge_pps :
    after (.pulseEdge 0) (withObjs (atNs (up second) 5000000300) [(K.pulsePulseMode 0, 4), (K.pulseOffsetNs 0, 250), (K.pulseWidthNs 0, 100)])
      (fun t => t.net.sent == [.pulse 0 false 5000000350, .pulse 0 true 5000000250]) = true := by decide +kernel
/-- R371: MR4 codes of 2 to 3 double the refresh rate. -/
theorem test_mr4Poll : after (.mr4Poll [1, 3]) (up second) (fun t => t.beam.mr4 == 2) = true := by decide +kernel
/-- R370: tREFI is 3,906 ns; at 3,905 nothing is owed. -/
theorem test_refreshDue_early : after (.refreshDue 0) (up 937) (fun t => (t.bch 0).rank0.owed == 0) = true := by decide +kernel
theorem test_refreshDue : after (.refreshDue 0) (up 938) (fun t => (t.bch 0).rank0.owed == 1 && (t.bch 0).rank1.owed == 0) = true := by decide +kernel
/-- R366: the channel of an address is bits 10 to 8 exclusive-or bits 23 to 21. -/
theorem test_beam_interleave : [0, 0x100, 0x700, 0x200000, 0xE00700].map beamChannel = [0, 1, 7, 1, 0] := by decide +kernel
/-- R330: a native port measures its own rate exactly. -/
theorem test_rateMeasurement :
    after (.rateMeasurement 2) (withObjs (up second) [(K.audEnable 2, 1), (K.audSampleRate 2, 96000)])
      (fun t => t.nat (K.audMeasuredRateMilliHz 2) == 96000000 && t.nat (K.audMeasuredClass 2) == 96000) = true := by decide +kernel
/-- R352: the 66th slip is a failure, the 65th is not. -/
theorem test_laneAlignment_fails :
    after (.laneAlignmentDone 31 66) (withObjs { up 0 with lanes := [(31, { mode := .aligning, cdrLock := true })] } [(K.quadQuadMode 7, 4)])
      (fun t => (t.lane 31).mode == .fault) = true := by decide +kernel
theorem test_laneAlignment_holds :
    after (.laneAlignmentDone 31 65) (withObjs { up 0 with lanes := [(31, { mode := .aligning, cdrLock := true })] } [(K.quadQuadMode 7, 4)])
      (fun t => (t.lane 31).mode == .up) = true := by decide +kernel
/-- R440: a key of 32 bytes is written whole. -/
theorem test_keyWrite : after (.keyWrite .host 7 (List.replicate 32 5)) (up 0)
    (fun t => AMap.find? t.flash.keys 7 == some { value := List.replicate 32 5 }) = true := by decide +kernel
/-- R440: the network may write no key. -/
theorem test_keyWrite_net : after (.keyWrite .net 7 (List.replicate 32 5)) (up 0) (fun t => t.flash.keys.isEmpty) = true := by decide +kernel
/-- R410: in device safe state of cause 3 a DeviceReset is refused. -/
theorem test_deviceReset_refused : after (.deviceReset .host) { up 0 with log := { safe := true, safeCause := 3 } } (fun t => t.boot.resetAsked == none) = true := by
  decide +kernel
/-- R500: VDD_CORE moves by 10 mV at most. -/
theorem test_avsStep :
    after (.avsStep true) { up second with power := { setMv := 850, targetMv := 805 } } (fun t => t.power.setMv == 840) = true := by decide +kernel
/-- R403: 105 °C for 10 ms in Floor is Ceiling; 25/6 ns less is not. -/
theorem test_thermalCeiling :
    after .thermalCeilingEntry { up 2400000 with gov := { thermal := 2, ceilingSince := some 0 } } (fun t => t.gov.thermal == 3) = true ∧
    after .thermalCeilingEntry { up 2399999 with gov := { thermal := 2, ceilingSince := some 0 } } (fun t => t.gov.thermal == 2) = true := by decide +kernel
/-- R75: an enabled ring takes the host's Tail. -/
theorem test_ringTailWrite :
    after (.ringTailWrite 3 ⟨5, []⟩) { up 0 with pcie := { rings := [(3, { enable := true })], linkUp := true } } (fun t => (AMap.getD t.pcie.rings 3 {}).tail == 5) = true := by
  decide +kernel
/-- R71: Overrun is cleared by its own write, and Done is not. -/
theorem test_mailboxClearOverrun :
    after (.mailboxClearOverrun 2) { up 0 with pcie := { mail := [(2, { overrun := true, done := true })] } }
      (fun t => !(AMap.getD t.pcie.mail 2 {}).overrun && (AMap.getD t.pcie.mail 2 {}).done) = true := by decide +kernel
/-- R24: a write reaches the SRAM; a byte of 0 leaves the memory as an unlisted one. -/
theorem test_fabric_sram_write :
    after (.fabricTransaction { master := 0, stream := 0, target := .sram, addr := 16, len := 2, wdata := some [0xA5, 0] }) (up 0)
      (fun t => t.sram == [(16, 0xA5)]) = true := by decide +kernel
/-- R435, R437: a loom's write outside its windows does not reach the SRAM, and freezes it. -/
theorem test_fabric_firewall :
    after (.fabricTransaction { master := 12, stream := 0, target := .sram, addr := 0x3FFFFFF, len := 1, wdata := some [1] }) (up 0)
      (fun t => t.sram.isEmpty && t.isFrozen 12) = true := by decide +kernel
/-- R301: a link goes up at the rate of its binding. -/
theorem test_portLinkChange :
    after (.portLinkChange 7 true 10000) (withObjs (up 0) [(K.portPortEnable 7, 1), (K.quadPortBinding 7, 28), (K.quadQuadMode 7, 2), (K.quadLineRate 7, 0)])
      (fun t => (t.port 7).linkUp && t.nat (K.portLineRateMbps 7) == 10000) = true := by decide +kernel
/-- R290: a frame of 63 bytes is malformed. -/
theorem test_frameReceived_short :
    after (.frameReceived 7 { fcsOk := true, length := 63, dstMac := List.replicate 6 0xFF, etherType := 0x0800, vid := none, dei := false,
                              checksumOk := true, fragment := false, udpOk := true, srcIp := [], dstIp := [], dscp := 0, proto := 17, sport := 0, dport := 0,
                              payload := [] }) { up 0 with net := { ports := [(7, { linkUp := true })] } }
      (fun t => t.nat (K.portMalformedFrames 7) == 1) = true := by decide +kernel
/-- R248: a device whose upstream neighbour is at 15 is a seventeenth. -/
theorem test_chainPosition :
    after (.chainPositionDerive { upstream := some 15, heads := 0, length := 17, ringPosition := 0, upUp := true, downUp := false }) (withObjs (up 0) [(K.chainChainMode, 1)])
      (fun t => t.net.chain.fault && t.nat K.chainChainFaultCount == 1) = true := by decide +kernel
/-- R311: a slew ends where the clocks have met. -/
theorem test_slewComplete : after .slewComplete { up 0 with time := { slewing := true } } (fun t => !t.time.slewing) = true := by decide +kernel
/-- R233: an RTCP request that DarnSources leaves out is dropped and counted. -/
theorem test_darnRequest_refused :
    after (.darnRequest .rtcp 4) (withObjs (up 0) [(K.darnDarnSources 4, 0)]) (fun t => t.nat (K.darnDarnRefused 4) == 1) = true := by decide +kernel
/-- R241: a QualifyMask of a quarantined loom starts its qualification. -/
theorem test_qualifyMask :
    after (.qualifyMask .host 2) (withObjs (up 0) [(K.loomGLoomState 1, 4)]) (fun t => t.nat (K.loomGLoomState 1) == 3 && (t.loom 1).qualSince == some 0) = true := by
  decide +kernel
/-- R474: writing 1 to a pending bit clears that bit only. -/
theorem test_logPendingClear : after (.logPendingClear 1 2) { up 0 with log := { pending := 2 ^ 33 + 2 ^ 34 } } (fun t => t.log.pending == 2 ^ 34) = true := by decide +kernel

end Sys2Proof.Tests
end

