-- ==== Sys2Proof/Tests/Witness1.lean ====
section
/-!
SUPPORT. Sys2Proof/Tests/Witness1.lean: for each clause of the statements on resets, the Draft, the log and freezes, a state and operands that meet
its hypotheses.
-/

namespace Sys2Proof.Tests

set_option Elab.async false

open Sys2Proof.Machine

/-- A ReadReq without items, untagged, to every device: 32 bytes. -/
def readMsg (type : Nat) : Bytes :=
  ([0x5A, 0x44, 1, type, 0, 0, 0xFF, 0xFF, 0, 0, 0, 0, 0, 0, 0, 0, 0, 0, 0, 7, 0, 0, 0, 0xFF, 0, 0, 0, 0, 0, 0, 0, 0] : List Nat).map (BitVec.ofNat 8)

/-- A device whose port 0 is linked and takes Shed messages. -/
def shedUp : State := withObjs ((up second).setPort 0 { (up second).port 0 with linkUp := true }) [(K.shedShedPortEnable, 1)]

/-- The path of a message that comes by port 0. -/
def path0 : Path := .port 0 [] 0

/-- The clocks of a device that has started up run (R23), and no function of it is held (R43). -/
theorem wit_Completes : (up 0).boot.clocksLost = false ∧ State.reset.boot.clocksLost = false ∧ ∀ k, Unheld (up 0) k := by
  refine ⟨rfl, rfl, fun k => ?_⟩
  simp [Unheld, heldPlain, up, State.reset, State.fresh, bit]

theorem wit_ResetsStartAfresh :
    (1000 ≤ 1000 ∧ 999 < 1000) ∧
    (let s := { up (2 * second) with boot := { (up 0).boot with resetAsked := some 0 } }
     s.boot.resetAsked = some 0 ∧ resetTaken s = true ∧ s.log.safe = false ∧ passed s 0 10000000 = true) ∧
    (let s := { up 0 with log := { safe := true, safeCause := 4 } }; s.log.safe = true ∧ 2 ≤ s.log.safeCause ∧ s.log.safeCause ≤ 4) ∧
    (let s := withObjs { up 0 with log := { safe := true, safeCause := 5 } } [(K.govJunctionMax, 950)]
     s.log.safeCause = 5 ∧ 950 ≤ s.int K.govJunctionMax) := by decide +kernel

theorem wit_PointsOfStartUp :
    (State.reset.boot.spindle = false ∧ State.reset.log.safe = false ∧ State.reset.power.inReset = false) ∧
    (let s := { State.reset with boot := { spindle := true } }; s.boot.spindle = true ∧ s.boot.fusesRead = false) ∧
    (let s := { State.reset with boot := { fusesRead := true } }
     s.boot.patternChosen = false ∧ chosenSlot s.flash = none ∧ s.boot.fastStarted = false) ∧
    (let s := { State.reset with boot := { patternChosen := true } }; s.boot.earlySet = false ∧ s.boot.hasPattern = false) ∧
    (let s := { State.reset with boot := { earlySet := true } }; s.boot.fwVerified = false ∧ s.boot.stayBooting = false) ∧
    passed (up second) 0 50000000 = true ∧
    (let s := { State.reset with boot := { fwVerified := true } }; s.boot.dramTrained = false) ∧
    (let s := { State.reset with boot := { qualified := true } }; s.boot.boltReady = false ∧ s.log.safe = false) ∧
    (let s := { State.reset with boot := { configured := true } }; s.boot.imageVerified = false ∧ s.boot.heldOffers = []) ∧
    (let s := up (100 * second)
     s.boot.configCommitted = true ∧ passed s s.boot.committedAt (s.nat K.bootEncodeStartWaitS * 1000000000) = true) ∧
    boltDown (up 0) = false := by decide +kernel

/-- Bytes of zeros, a Pattern without records once Schema reads 5. -/
def emptyPattern : Bytes :=
  (([0x5A, 0x53, 0x50, 0x54, 0, 5, 0, 0, 0, 0, 0, 1, 0, 0, 0, 68] : List Nat).map (BitVec.ofNat 8)) ++ List.replicate 52 0

/-- A device that has chosen that Pattern. -/
def withPattern : State :=
  withObjs { State.reset with flash := { State.reset.flash with cfgA := emptyPattern }, boot := { patternChosen := true, hasPattern := true } }
    [(K.bootPatternSchema, 5), (K.bootPatternSlot, 0)]

theorem wit_PointsOfStartUp_pattern :
    withPattern.boot.earlySet = false ∧ withPattern.nat K.bootPatternSchema = 5 ∧ withPattern.nat K.bootPatternSlot = 0 ∧
      earlySet { withPattern with boot := { withPattern.boot with earlySet := true } } emptyPattern = some [] := by decide +kernel

theorem wit_PointsOfStartUp_boot :
    (let s := { up 0 with draft := { queue := [{ prin := .selvedge, tag := 0, kind := .boot, items := [] }] } }
     ∃ c ∈ s.draft.queue, c.kind = .boot ∧ boltDown s = false) ∧
    (let s := { State.reset with boot := { qualified := true, hasPattern := true } }; s.boot.boltReady = false ∧ s.draft.queue = []) := by
  decide +kernel

theorem wit_SelvedgeWarmResets :
    (let s := { up 0 with boot := { (up 0).boot with activation := some 0 } }; s.boot.activation = some 0 ∧ 0 ≤ nowNs s ∧ s.log.safe = false) ∧
    (let s := { State.reset with clk := { ticks := second }, flash := { State.reset.flash with selA := { trialState := 1 } } }
     (governing s.flash).trialState ≠ 0 ∧ s.boot.boltReady = false ∧ s.boot.stayBooting = false ∧ s.log.safe = false ∧ passed s 0 1000000000 = true) ∧
    (let s := withObjs { up second with log := { safe := true, safeCause := 1 } } [(K.logSafeStateResetS, 1)]
     s.log.safe = true ∧ s.log.safeCause = 1 ∧ 0 < s.nat K.logSafeStateResetS ∧
       passed s s.log.safeSince (s.nat K.logSafeStateResetS * 1000000000) = true) ∧
    (let s := withObjs { up second with log := { safe := true, safeCause := 5 } } [(K.logSafeStateResetS, 1), (K.govJunctionMax, 949)]
     s.log.safeCause = 5 ∧ s.int K.govJunctionMax < 950 ∧ 0 < s.nat K.logSafeStateResetS ∧
       passed s s.log.safeSince (s.nat K.logSafeStateResetS * 1000000000) = true) ∧
    (let s := withObjs { up second with beam := { failed := true } } [(K.logSafeStateResetS, 1)]
     s.log.safe = false ∧ s.beam.failed = true ∧ 0 < s.nat K.logSafeStateResetS ∧
       passed s s.beam.failedSince (s.nat K.logSafeStateResetS * 1000000000) = true) ∧
    State.reset.nat K.logSafeStateResetS = 0 := by decide +kernel

/-- What a message of a type is read as. -/
theorem wit_ShedRequestsAreHandled_parse : ∀ t ∈ ([0x01, 0x02, 0x05, 0x86] : List Nat),
    ((Path.parse path0 (readMsg t)).map fun m => (m.type, m.target)) = some (t, 0xFF) := by decide +kernel

theorem wit_ShedRequestsAreHandled_bolt (t : Nat) (m : Shed) (h : t ∈ ([0x02, 0x05, 0x86] : List Nat)) (hp : Path.parse path0 (readMsg t) = some m) :
    AtBolt shedUp path0 (readMsg t) m := by
  have ht : (Path.parse path0 (readMsg t)).map (fun m => (m.target == 0xFF, fastServes shedUp path0 m)) = some (true, false) := by
    have ha : ∀ t ∈ ([0x02, 0x05, 0x86] : List Nat), (Path.parse path0 (readMsg t)).map
        (fun m => (m.target == 0xFF, fastServes shedUp path0 m)) = some (true, false) := by decide +kernel
    exact ha t h
  rw [hp] at ht
  simp only [Option.map_some, Option.some.injEq, Prod.mk.injEq, beq_iff_eq] at ht
  refine ⟨?_, hp, .inl ht.1, ht.2, ?_, ?_, ?_, ?_⟩
  · intro p a u e
    cases e
    decide +kernel
  all_goals decide +kernel

/-- A ReadReq of the fast object 0x1000:01. -/
def fastMsg : Bytes := (readMsg 1).take 20 ++ ([0, 4, 1, 0xFF, 0, 0, 0, 0, 0, 0, 0, 0, 0x10, 0, 1, 0] : List Nat).map (BitVec.ofNat 8)

theorem wit_ShedRequestsAreHandled_fast :
    (shedUp.port 0).linkUp = true ∧ bit (shedUp.nat K.shedShedPortEnable) 0 = true ∧
      ((Path.parse path0 fastMsg).map fun m => (m.target, m.type, fastServes shedUp path0 m)) = some (0xFF, 0x01, true) ∧
      fastIdle shedUp = true ∧ fastOldest shedUp = none := by decide +kernel

theorem wit_ShedRequestsAreHandled_ack : ∀ m, Path.parse path0 (readMsg 0x86) = some m → m.type = 0x86 ∧ authOf shedUp path0 m = .untagged .net := by
  intro m hp
  have ht : (Path.parse path0 (readMsg 0x86)).map (fun m => (m.type == 0x86, decide (authOf shedUp path0 m = .untagged .net))) = some (true, true) := by
    decide +kernel
  rw [hp] at ht
  simpa using ht

theorem wit_StagedValuesAreNotRead :
    objKey 0x1000 1 ≠ K.commitStagedCount ∧ objKey 0x1000 1 ≠ K.commitStagedBytes := by decide +kernel

theorem wit_WritesAndCommitsAreTaken_writes :
    (∃ d v, lookup 0x2000 1 = .ok d ∧ d.acc.of .host = .rwc ∧ checkValue d 0x2000 1 d.ty.code [1] = .ok v ∧ d.ty ≠ .octets) ∧
      readOnlyFlow (up 0) .host 0x2000 = false ∧ heldPlain (up 0) 0x2000 = false ∧
      (((up 0).touch .host).stageWrite .host (keyFor (up 0) .host 0x2000 1) (natVal 1)).2 = stStaged := by
  refine ⟨?_, by decide +kernel⟩
  refine ⟨_, _, rfl, by decide +kernel, rfl, by decide +kernel⟩

theorem wit_WritesAndCommitsAreTaken_commits :
    (let s := (up 0).setStage .host { (up 0).stage .host with items := [(objKey 0x2000 1, natVal 1)] }
     boltDown s = false ∧ 0 < 1 ∧ 1 < 2 ^ 32 ∧ s.draft.queue.length < 4 ∧ (s.stage .host).items ≠ []) ∧
    (let key := objKey 0x1E80 1
     ((findDef (keyIdx key) (keySub key)).map fun d => (d.acc.of .selvedge == .rwc, valueOk d (keyIdx key) (keySub key) (natVal 1))) = some (true, true) ∧
       boltDown (up 0) = false ∧ readOnlyFlow (up 0) .selvedge (keyIdx key) = false ∧ heldPlain (up 0) (keyIdx key) = false ∧
       (up 0).draft.queue.length < 4) ∧
    (∀ k ∈ ([.tagged, .oneObject] : List CommitKind),
      let c : Commit := { prin := .host, tag := 1, kind := k, items := [] }
      let s := { up 0 with draft := { queue := [c] } }
      s.draft.queue = [c] ∧ c.kind = k ∧ boltDown s = false) ∧
    (let s := up (60 * second); passed s (s.stage .net).lastWrite 60000000000 = true) := by decide +kernel

theorem wit_CausesOfDeviceSafeState :
    (let s := { up 0 with boot := { (up 0).boot with clocksLost := true } }; s.boot.clocksLost = true ∧ s.pending = [] ∧ onOwnClock .timeNowRead = false) ∧
    (up 0).log.safe = false ∧ (up 0).boot.spindle = true ∧
    (let s := { up second with gov := { tripSince := some 0 } }; s.log.safe = false ∧ passed s 0 1000000 = true) ∧
    (let s := { up second with log := { handlers := [{ source := 523, code := 0, master := 11, unit := 0, depth := 0, incident := 1, since := 0 }] } }
     s.log.safe = false ∧ s.log.handlers ≠ [] ∧ passed s 0 1000000 = true) := by decide +kernel

/-- A request for an entry of a severity. -/
def req (sev : Nat) : LogReq := { source := 523, code := 0, master := 11, unit := 0, detail := 0, severity := sev, time := 0, stepEpoch := 0 }

/-- So many open handlers of another source. -/
def open_ (n : Nat) : List Handler := List.replicate n { source := 522, code := 0, master := 255, unit := 0, depth := 0, incident := 1, since := 0 }

theorem wit_LogEntriesAreWritten : ∀ n ∈ ([0, 1, 4, 5] : List Nat), ∀ sev ∈ ([2, 3, 4] : List Nat),
    let s := { up 0 with log := { intake := [req sev], handlers := open_ n } }
    s.log.intake = [req sev] ∧ (req sev).action = none ∧ bit (req sev).flags 2 = false ∧ s.log.handlers.length = n ∧ s.log.safe = false ∧
      ∀ h ∈ s.log.handlers, ¬(h.source = (req sev).source ∧ h.code = (req sev).code ∧ h.unit = (req sev).unit ∧ h.master = (req sev).master) := by
  decide +kernel

theorem wit_LogCommands :
    (isSource 0 = true ∧ isDoorbell 0 = false ∧ isSource 633 = true ∧ isDoorbell 633 = false) ∧ isDoorbell 608 = true ∧
    (let h : Handler := { source := 522, code := 0, master := 255, unit := 0, depth := 0, incident := 1, since := 0 }
     let s := { up 0 with log := { handlers := [h] } }; s.log.handlers = [h] ∧ handlerDone s h = true) ∧
    (let x : Tracker := { source := 1, code := 0, master := 255, unit := 255, start := 0, entries := 1, count := 0, severity := 1, lastTime := 0, lastEpoch := 0 }
     let s := { up second with log := { trackers := [x] } }; x ∈ s.log.trackers ∧ passed s x.start 1000000000 = true) := by decide +kernel

/-- A record of a freeze of a loom at reset. -/
def frz : FreezeSt := { cause := .watchdog, addr := 0, target := 0, violations := 0, since := 0, time := 0 }

/-- A device with master m frozen. -/
def frozenUp (m : Nat) (x : FreezeSt) : State :=
  { up second with fab := { (up 0).fab with frozen := 2 ^ m, freezes := [(m, x)] } }

theorem wit_FreezesAreRecorded :
    ((up 0).log.safe = false ∧ AMap.find? (up 0).fab.freezes 2 = none ∧ AMap.find? (up 0).fab.freezes 39 = none ∧ 11 ≤ 26 ∧ 26 < 27) ∧
    (AMap.find? (frozenUp 2 frz).fab.freezes 2 = some frz ∧ frz.thawing = false ∧ frz.recorded = false ∧ frz.thawAsked = false ∧
      (frozenUp 2 frz).log.safe = false ∧ passed (frozenUp 2 frz) frz.since 20000 = true) := by decide +kernel

theorem wit_MastersAreThawed :
    ((up 0).isFrozen 2 = false ∧ (up 0).log.safe = false ∧ AMap.find? (up 0).fab.freezes 2 = none ∧ (up 0).isFrozen 10 = false) ∧
    ((frozenUp 39 frz).isFrozen 39 = true ∧ (frozenUp 39 frz).nat (K.frzThawPolicy 39) = 0 ∧ frz.thawing = false) ∧
    (let s := withObjs (frozenUp 11 frz) [(K.frzThawPolicy 11, 1)]
     s.log.safe = false ∧ AMap.find? s.fab.freezes 11 = some frz ∧ frz.heldFrozen = false ∧ s.nat (K.frzThawPolicy 11) = 1 ∧
       passed s frz.since 10000000 = true) ∧
    (let s := frozenUp 11 { frz with heldFrozen := true }
     s.isFrozen 11 = true ∧ AMap.find? s.fab.freezes 11 = some { frz with heldFrozen := true }) ∧
    (let s := frozenUp 10 { frz with thawing := true, recorded := true }
     AMap.find? s.fab.freezes 10 = some { frz with thawing := true, recorded := true }) ∧
    (let s := (up second).setCore 0 { running := some 5 }
     s.isFrozen 2 = false ∧ AMap.find? s.fab.freezes 2 = none ∧ (s.core 0).running = some 5 ∧
       passed s (s.core 0).lastCommand (s.nat K.frzWatchdogMs * 1000000) = true) := by decide +kernel

theorem wit_WaitingMessagesAreServed :
    (let q : QMsg := { path := path0, bytes := readMsg 1, since := 0 }
     let s := { up second with draft := { boltQ := [(0, [q])] } }
     boltDown s = false ∧ AMap.getD s.draft.boltQ 0 [] = [q] ∧ q.timedOut = false ∧ q.kind = 0 ∧ q.path = .port 0 [] 0 ∧
       (q.path.parse q.bytes).map (fun m => decide (m.type < 0x80)) = some true ∧ s.boot.boltReady = true ∧ passed s q.since 2000000 = true) ∧
    (let q : QMsg := { path := path0, bytes := readMsg 1, since := 0, timedOut := true }
     let s := { up second with draft := { boltQ := [(0, [q])] } }
     boltDown s = false ∧ AMap.getD s.draft.boltQ 0 [] = [q] ∧ q.timedOut = true) ∧
    (∀ n ∈ ([2, 3] : List Nat), let u : Unacked := { tid := 1, bytes := [], resends := n }
      let s := { up second with draft := { unacked := [(3, [u])] } }
      (AMap.getD s.draft.unacked 3 []).find? (fun v => v.tid == 1) = some u ∧ passed s u.lastSent 10000000 = true) := by decide +kernel

/-- A device whose mailbox slot 0 holds a request. -/
def mailed (b : Bytes) : State := (up 0).setMail 0 { request := Memory.writeBytes [] 0 b }

theorem wit_MailboxSlots :
    (∀ e ∈ ([(fastMsg, true), (readMsg 2, false)] : List (Bytes × Bool)), let s := mailed e.1
      s.isFrozen 10 = false ∧ (s.mail 0).busy = false ∧ (s.mail 0).done = false ∧ e.1.length ≠ 0 ∧
        ((Path.parse (.mailbox 0) (Memory.readBytes (s.mail 0).request 0 e.1.length)).map
          fun m => (m.target, decide (m.type < 0x80), fastServes s (.mailbox 0) m)) = some (0xFF, true, e.2) ∧
        s.log.safe = false ∧ boltDown s = false ∧ AMap.getD s.draft.boltQ 9 [] = []) ∧
    (let s := { up 0 with boot := { (up 0).boot with boltReady := false } }; boltDown s = true) ∧
    (let s := (up 0).setMail 0 { done := true, overrun := true }; s.isFrozen 10 = false ∧ (s.mail 0).done = true) ∧
    (let s := (up 0).setMail 0 { busy := true, reply := some [] }; (s.mail 0).busy = true ∧ (s.mail 0).reply = some []) ∧
    (let s := (up 0).setMail 0 { busy := true, fastReq := some (readMsg 1) }
     (s.mail 0).reply = none ∧ (s.mail 0).fastReq = some (readMsg 1) ∧ (Path.parse (.mailbox 0) (readMsg 1)).isSome = true) ∧
    (frozenUp 10 frz).isFrozen 10 = true := by decide +kernel

/-- A descriptor as the host stores it (R74). -/
def descBytes (hostAddr devAddr length : Nat) : Bytes := leBytes 8 hostAddr ++ leBytes 8 devAddr ++ leBytes 4 length ++ leBytes 4 0 ++ List.replicate 8 0

/-- The descriptor at a ring's front once it has fetched what the host holds. -/
def fetched (s : State) (r : Nat) (b : Bytes) : Option Desc := ((s.ring r).fetch [b]).front

theorem wit_RingsRun :
    ((up 0).isFrozen 10 = false ∧ ringServed (up 0) 47 = true ∧ ((up 0).ring 47).enable = false) ∧
    (let s := (up 0).setRing 38 { enable := true, error := true, stopped := true }
     s.isFrozen 10 = false ∧ (s.ring 38).enable = true ∧ (s.ring 38).error = true) ∧
    (let s := (up 0).setRing 38 { enable := true, tail := 1 }
     let d : Desc := { hostAddr := 2, devAddr := 0, length := 4, irq := false, endOfUnit := false, userTag := 0 }
     (s.ring 38).stopped = false ∧ fetched s 38 (descBytes 2 0 4) = some d ∧ descError s 38 d true = 2) ∧
    (let s := withObjs ((up 0).setRing 16 { enable := true, tail := 1 })
        [(K.selvHostDramBase 0, 0), (K.selvHostDramSize 0, 4096), (K.selvHostDramRights 0, 3)]
     let d : Desc := { hostAddr := 0, devAddr := 4092, length := 4, irq := false, endOfUnit := false, userTag := 0 }
     descError s 16 d true = 0 ∧ s.beam.failed = false ∧ fetched s 16 (descBytes 0 4092 4) = some d) ∧
    (let s := withObjs ((up 0).setRing 47 { enable := true, tail := 1 })
        [(K.selvHostDramBase 0, 0), (K.selvHostDramSize 0, 4096), (K.selvHostDramRights 0, 1)]
     let d : Desc := { hostAddr := 0, devAddr := 0, length := 4096, irq := false, endOfUnit := false, userTag := 0 }
     descError s 47 d true = 0 ∧ d.irq = false ∧ fetched s 47 (descBytes 0 0 4096) = some d) := by decide +kernel

theorem wit_PcieFunctionAndBar2 :
    ((up 0).isFrozen 10 = false ∧ ((up 0).vec 63).masked = true ∧ ((up 0).vec 63).pba = false) ∧
    (pcieSupports 5 8 = true ∧ pcieSupports 5 16 = false) ∧
    (∀ mask ∈ [true, false], let s := (up 0).setVec 0 { pba := true }
      let s := { s with pcie := { s.pcie with config := { msixEnable := true, functionMask := mask } } }
      (s.vec 0).masked = true ∧ (s.vec 0).pba = true ∧ (s.vec 0).lastSent = none ∧ s.pcie.config.functionMask = mask ∧
        s.pcie.config.msixEnable = true ∧ s.isFrozen 10 = false) ∧
    (∀ m ∈ [true, false], let s := (up second).setVec 0 { masked := m, waiting := true, lastSent := some 0 }
      (s.vec 0).waiting = true ∧ (s.vec 0).lastSent = some 0 ∧ passed s 0 (s.nat (K.irqMinIntervalUs 0) * 1000) = true) ∧
    (let s := withObjs (up 0) [(K.selvHostDramBase 0, 0), (K.selvHostDramSize 0, 4096), (K.selvHostDramRights 0, 3)]
     s.log.safe = false ∧ hostMay s (s.nat K.irqBar2Window * 2 ^ 32 + 4092 % 2 ^ 32) 4 true = true ∧
       hostMay s (s.nat K.irqBar2Window * 2 ^ 32 + 4093 % 2 ^ 32) 4 true = false ∧ AMap.find? s.fab.freezes 10 = none ∧ s.beam.failed = false) ∧
    (let s := frozenUp 10 frz; s.log.safe = false ∧ s.isFrozen 10 = true) ∧
    (let s := { up 0 with log := { safe := true } }; s.log.safe = true) := by decide +kernel

theorem wit_RegisterWrites :
    ((up 0).isFrozen 10 = false ∧ (up 0).log.safe = false ∧ ((up 0).ring 0).enable = false ∧ ((up 0).ring 63).enable = false) ∧
    (let s := (up 0).setRing 33 { enable := true }; (s.ring 33).enable = true) ∧
    (let s := { up 0 with log := { safe := true } }; s.isFrozen 10 = false ∧ s.log.safe = true) ∧
    (frozenUp 10 frz).isFrozen 10 = true := by decide +kernel

/-- A transaction of a master. -/
def txn (master : Nat) (target : Target) (addr len : Nat) (wdata : Option Bytes) : Txn :=
  { master := master, stream := 0, target := target, addr := addr, len := len, wdata := wdata, reference := false }

theorem wit_FabricTransactionsAndTags :
    txnForm (txn 2 .sram 1 256 none) = false ∧
    (txnForm (txn 1 .sram 67108864 1 none) = true ∧ txnPlace (txn 1 .sram 67108864 1 none) = false) ∧
    (let t := txn 3 .sram 0 256 none
     txnForm t = true ∧ (up 0).isFrozen 3 = false ∧ tagsHeld (up 0) 3 < tagShare 3 ∧ passes (up 0) t = false ∧ (up 0).log.safe = false) ∧
    (let s := { up 0 with fab := { (up 0).fab with inflight := (List.range (tagShare 36)).map fun i =>
        (i, ({ txn := txn 36 .dram 0 64 none, accepted := false, done := false, data := [] } : Flight)) } }
     txnForm (txn 36 .dram 0 64 none) = true ∧ s.isFrozen 36 = false ∧ tileStalls s (txn 36 .dram 0 64 none) = false ∧ tagShare 36 ≤ tagsHeld s 36) ∧
    (passes (up 0) (txn 9 .dram 64 64 none) = true ∧ tagsHeld (up 0) 9 < tagShare 9 ∧ tileStalls (up 0) (txn 9 .dram 64 64 none) = false ∧
      ((up 0).fab.stalled.any fun u => u.master == 9) = false) ∧
    (let s := { up 0 with fab := { (up 0).fab with stalled := List.replicate 512 (txn 28 .dram 0 64 none) } }
     txnForm (txn 28 .dram 0 64 none) = true ∧ s.isFrozen 28 = false ∧ tileStalls s (txn 28 .dram 0 64 none) = true) ∧
    (let s := { up 0 with fab := { (up 0).fab with stalled := [txn 9 .dram 0 64 none] } }
     (s.fab.stalled.any fun u => u.master == 9) = true ∧ tagsHeld s 9 < tagShare 9) ∧
    (passes (up 0) (txn 2 .sram regBolt.base 256 none) = true ∧ passes (up 0) (txn 2 .sram regBolt.base 1 (some [7])) = true) ∧
    (let f : Flight := { txn := txn 9 .dram 0 64 none, accepted := true, done := true, data := [] }
     let s := { up 0 with fab := { (up 0).fab with inflight := [(0, f)], stalled := [txn 9 .dram 0 64 none] } }
     s.fab.inflight.find? (fun (e : Nat × Flight) => e.2.txn.master == 9 && mayReturn s e) = some (0, f) ∧
       s.fab.stalled.find? (fun t => t.master == 9) = some (txn 9 .dram 0 64 none) ∧ s.fab.stalled.find? (fun t => t.master == 8) = none) := by
  decide +kernel

end Sys2Proof.Tests
end

