-- ==== Sys2Proof/Tests/Witness2.lean ====
section
/-!
SUPPORT. Sys2Proof/Tests/Witness2.lean: for each clause of the statements on the video path, a state and operands that meet its hypotheses.
-/

namespace Sys2Proof.Tests

set_option Elab.async false

open Sys2Proof.Machine

/-- A device whose channel 15 has a source of a type, 1080 lines at 50 pictures a second, one second after the epoch. -/
def video (type : Nat) : State :=
  withObjs (atNs (up second) 1000000000)
    [(K.reedSourceType 15, type), (K.reedHeight 15, 1080), (K.reedWidth 15, 1920), (K.reedRateNum 15, 50), (K.reedRateDen 15, 1), (K.reedSdiLinks 15, 1)]

/-- What the raster of that source is, and a line of it. -/
def sdiFormat (width : Nat) : SourceFormat :=
  let r : Raster := { width := width, height := 1080, rateNum := 50, rateDen := 1 }
  { payload := some r, raster := r }
def part0 : SrcPart := { link := 0, x := 0, step := 1, pairs := [] }

/-- The source's second picture arrives. -/
def arriving (type : Nat) : State := (video type).setReed 15 { slots := [{ n := 1 }, { n := 2 }], arriving := some 2 }

theorem wit_SourcesAreFollowed :
    (∀ t ∈ ([1, 2, 3, 4] : List Nat), sourceWritten (video t) 15 = true ∧ (video t).nat (K.reedSourceType 15) = t ∧
      ((video t).reed 15).arriving = none ∧ ((video t).reed 15).slots.length < 4) ∧
    (∀ t ∈ ([1, 4] : List Nat), let s := (video t).setReed 15 { slots := [{ n := 1 }, { n := 2 }, { n := 3 }, { n := 4 }], last := some 2 }
      4 ≤ (s.reed 15).slots.length ∧ (s.reed 15).newer = { n := 3 } :: [{ n := 4 }] ∧ (s.reed 15).arriving = none) ∧
    (∀ t ∈ ([1, 2] : List Nat), let s := arriving t
      sourceWritten s 15 = true ∧ boundLink s.view 15 part0.link = true ∧ formatMatches s.view 15 (sdiFormat 1920) = true ∧
        bit (s.reed 15).linksLost part0.link = false ∧ s.nat (K.reedSdiLinks 15) ≤ 1 ∧ (s.reed 15).slots = [{ n := 1 }] ++ [{ n := 2 }] ∧
        (s.reed 15).arriving = some 2 ∧ (placePart s.view 15 1079 part0).1 < s.nat (K.reedHeight 15)) ∧
    (let s := withObjs { arriving 3 with lanes := [0, 1, 2, 3].map fun n => (n, { mode := .up }) } [(K.reedWeftQuad 15, 0), (K.quadWeftRole 0, 1), (K.quadQuadMode 0, 4)]
     boundLink s.view 15 0 = true ∧ pictureLinkUp s (s.nat (K.reedWeftQuad 15)) = true) ∧
    (sourceWritten (video 1) 15 = true ∧ part0.link < (video 1).nat (K.reedSdiLinks 15) ∧ formatMatches (video 1).view 15 (sdiFormat 1922) = false ∧
      ((video 1).reed 15).mismatch = false ∧ bit ((video 1).reed 15).linksLost 0 = false) ∧
    (let s := (video 1).setReed 15 { present := true }
     (s.reed 15).present = true ∧ passed s (s.reed 15).lastLine (floorN (pictureNs s.view 15)) = true) := by decide +kernel

/-- Channel 15 in step with its source: picture 1 was read last. -/
def inStep (newer : List SrcPic) : State :=
  (video 1).setReed 15 { k := some 49, slots := { n := 1, done := true, time := some 0 } :: newer, last := some 1, nextN := 2 + newer.length,
                         acquired := true, present := true }

/-- Its hypotheses at each kind of age of the next picture. -/
theorem wit_PicturesAreChosen :
    (∀ n ∈ ([[], [{ n := 2, time := some 1000000000 }], [{ n := 2, time := some 990000000 }],
        [{ n := 2, time := some 900000000 }, { n := 3, time := some 920000000 }]] : List (List SrcPic)),
      let s := inStep n
      s.nat (K.reedSourceType 15) ≠ 0 ∧ s.log.safe = false ∧ s.nat (K.reedAlignGroup 15) = 0 ∧ (s.reed 15).present = true ∧
        (s.reed 15).acquired = true ∧ (s.reed 15).rotRepeat = false ∧ (s.reed 15).hostStall = false ∧ (s.reed 15).linksLost = 0 ∧
        (s.reed 15).last = some 1 ∧ (s.reed 15).newer = n) ∧
    (let s := inStep []
     let line := readLine s.view 15
     let dMin := q (s.view.nat (K.reedSyncMarginLines 15)) * line
     let hyst := q (s.view.nat (K.reedSyncHysteresisLines 15)) * line
     let age (x : Nat) : Rat := q (boundaryNs s.view 15 50) - q x
     age 1000000000 < dMin - hyst ∧ dMin + pictureNs s.view 15 + hyst < age 900000000 ∧ ¬(age 990000000 < dMin - hyst) ∧
       ¬(dMin + pictureNs s.view 15 + hyst < age 990000000) ∧ 0 ≤ hyst ∧ 0 ≤ dMin ∧ 0 ≤ pictureNs s.view 15) := by decide +kernel

theorem wit_PicturesAreRead :
    (let s := inStep []
     boundaryNs s.view 15 (rasterPic s.view 15 (nowExact s)) ≤ nowNs s ∧ (s.reed 15).k = some 49 ∧ 49 < rasterPic s.view 15 (nowExact s)) ∧
    (let s := (video 1).setReed 15 { k := some 49, nextLine := 1079 }
     boundaryTime s.view 15 (s.pic 15) + q 1079 * readLine s.view 15 ≤ nowExact s ∧ (s.reed 15).nextLine = 1079 ∧
       1079 < s.view.nat (K.reedHeight 15) ∧ (s.reed 15).k.isSome = true ∧ s.log.safe = false) ∧
    (∀ a ∈ ([0, 1] : List Nat), let s := video 1
      let p : ReedPic := { pic := 49, vals := s.objs, action := a }
      let s := s.setReed 15 { k := some 49, pics := [p] }
      (rowPicture s 15 49 fun v x => tRow v 15 x.rot 16) = some p ∧ 16 < ceilDiv (outHeight (p.view s.fuses) 15) 64 ∧
        AMap.find? p.sad 16 = none ∧ p.action = a ∧ s.log.safe = false) := by decide +kernel

/-- A picture that is read has no line of its source. -/
def gapPic : ReedPic := { pic := 49, vals := (video 1).objs, src := some 1 }
def gapped : State := (video 1).setReed 15 { k := some 49, nextLine := 1079, pics := [gapPic], slots := [{ n := 1 }] }

/-- A line one of whose samples is missing is not complete. -/
theorem none_of_missing {α : Type} (n : Nat) (h0 : 0 < n) (f : Nat → Option α) (hf : ∀ i, f i = none) (b : Option SrcLine) :
    (if ((List.range n).map f).all (·.isSome) = true then b else none) = none := by
  refine if_neg fun h => ?_
  have hn := List.all_eq_true.mp h (f 0) (List.mem_map.mpr ⟨0, List.mem_range.mpr h0, rfl⟩)
  rw [hf] at hn
  cases hn

theorem wit_PicturesAreRead_gap :
    (gapped.reed 15).picOf (gapped.pic 15) = some gapPic ∧ gapPic.gapFrom = none ∧ ∀ before, readLineOf gapped 15 gapPic before 1079 = none := by
  refine ⟨by decide +kernel, by decide, fun before => ?_⟩
  have hs : (gapPic.src.bind fun n => (gapped.reed 15).slots.find? fun x => x.n == n) = some { n := 1 } := by decide +kernel
  have hw : 0 < gapped.view.nat (K.reedWidth 15) / 2 := by decide +kernel
  have hl : (gapped.reed 15).linksLost = 0 := by decide +kernel
  have hp : ∀ i, SrcPic.pair { n := 1 } 1079 i = none := fun i => by simp [SrcPic.pair, AMap.getD, AMap.find?]
  simp only [readLineOf, hs, hl, show gapPic.loss = false from rfl, show gapPic.gapFrom = none from rfl, show gapPic.lost = 0 from rfl,
    SrcPic.readLine, hp, Option.isSome_none, Bool.false_eq_true, if_false]
  exact none_of_missing _ hw _ (fun i => by simp [bit]) _

/-- A layer of channel 15 that is enabled, of a kind, in a state, with its source unchanged. -/
def layer (kind st policy : Nat) : State :=
  let s := withObjs (video 1) [(K.layerEnable 15 15, 1), (K.layerSourceKind 15 15, kind), (K.layerStState 15 15, st), (K.layerNotReadyPolicy 15 15, policy)]
  s.setPress 15 { layers := [(15, { source := [s.int (K.layerSourceKind 15 15), s.int (K.layerSourceRef 15 15), s.int (K.layerSurfaceBase 15 15),
    s.int (K.layerBufferStride 15 15)] })] }

/-- The source of that layer is unchanged. -/
def sameSource (s : State) : Bool :=
  (s.layer 15 15).source == [s.int (K.layerSourceKind 15 15), s.int (K.layerSourceRef 15 15), s.int (K.layerSurfaceBase 15 15),
    s.int (K.layerBufferStride 15 15)]

theorem wit_LayerStatesAtABoundary :
    (up 0).flag (K.layerEnable 0 0) = false ∧
    (let s := layer 1 2 0; s.flag (K.layerEnable 15 15) = true ∧ s.isFrozen 28 = false ∧ s.nat (K.layerSourceKind 15 15) = 1 ∧
      sameSource s = true ∧ s.nat (K.layerStState 15 15) = 2 ∧ layerReady s 15 15 49 false = true) ∧
    (let s := { layer 1 0 0 with fab := { (up 0).fab with frozen := 2 ^ 28 } }
     s.flag (K.layerEnable 15 15) = true ∧ s.isFrozen 28 = true ∧ s.nat (K.layerStState 15 15) = 0) ∧
    (let s := layer 2 1 0; sameSource s = true ∧ s.nat (K.layerStState 15 15) = 1 ∧ layerReady s 15 15 49 true = false) ∧
    (let s := layer 2 2 0; sameSource s = true ∧ layerReady s 15 15 49 false = false ∧ s.nat (K.layerNotReadyPolicy 15 15) = 0) ∧
    (let s := layer 2 4 1; sameSource s = true ∧ layerReady s 15 15 49 false = false ∧ s.nat (K.layerNotReadyPolicy 15 15) = 1 ∧
      2 ≤ s.nat (K.layerStState 15 15)) := by decide +kernel

theorem wit_HemRegionsAreCompared :
    (let s := withObjs (video 1) [(K.hemCompare 15 15, 1), (K.hemExpected 15 15, 5), (K.hemHemEnable 15 15, 1), (K.hemLayerRef 15 15, 15)]
     let p : PressPic := { pic := 49, vals := s.objs }
     (p.view s.fuses).flag (K.hemCompare 15 15) = true ∧ s.flag (K.hemHemEnable 15 15) = true ∧
       s.nat (K.hemLayerRef 15 15) < 16 ∧ s.nat (K.layerStState 15 (s.nat (K.hemLayerRef 15 15))) ≠ 2 ∧
       ∀ b ∈ ([true, false] : List Bool), let x : HemPic := { subst := b, crc := 6 }
         x.crc ≠ (p.view s.fuses).nat (if x.subst then K.hemSafeSignature 15 15 else K.hemExpected 15 15)) ∧
    (let s := (withObjs (video 1) [(K.hemExpected 15 15, 5), (K.hemSafeSignature 15 15, 7)]).setPress 15 { hems := [(15, { alarm := true })] }
     let p : PressPic := { pic := 49, vals := s.objs }
     (s.hem 15 15).alarm = true ∧ ∀ x ∈ ([{ crc := 5 }, { subst := true, crc := 7, live := 5 }] : List HemPic), x.layerLive = true ∧
       (if x.subst then x.live else x.crc) = (p.view s.fuses).nat (K.hemExpected 15 15) ∧
       (x.subst = true → x.crc = (p.view s.fuses).nat (K.hemSafeSignature 15 15))) := by
  decide +kernel

theorem wit_BlendingStaysInRange : (0 : Int) ≤ 4096 ∧ (4096 : Int) ≤ 4096 := by decide

/-- A state in which the pictures that channel 15 codes have the objects now in force. -/
def fixed (s : State) : State := s.setChan 15 { s.chan 15 with pics := (s.chan 15).pics.map fun p => { p with vals := s.objs } }

/-- Channel 15 codes picture 49 of 17 rows of 30 CTUs. -/
def coding : State := fixed <|
  let s := withObjs ((video 1).setReed 15 { k := some 49 }) [(K.loomEncodeEnable 15, 1), (K.loomGLoomState 15, 1), (K.loomCodec 15, 0), (K.loomChromaFormat 15, 0)]
  s.setChan 15 { encoding := true, positions := [{ loom := 15 }], pics := [{ pic := 49, pos := 0, rows := 17, cols := 30, rate := 100, gap := 1000, open0 := 0 }],
                 toStart := [(49, 16)] }

theorem wit_RowsAndClipsArrive :
    (let s := coding
     let p : PressPic := { pic := 49, vals := s.objs }
     let s := s.setPress 15 { pics := [p] }
     handoffPicture s 15 49 16 = some p ∧ s.log.safe = false ∧ s.isFrozen 28 = false ∧
       16 < rowCount (p.view s.fuses) 15 ∧ 16 ∉ p.rows ∧ (s.chan 15).pics.any (fun p => p.pic == 49) = true) ∧
    (∀ e ∈ ([(none, false), (some 1920, true), (some 3842, true)] : List (Option Nat × Bool)),
      let s := withObjs { video 1 with video := { unp := [(1, { start := some 0, first := some 1 })] }, dram := [(3, 1)] }
        [(K.unpEnable 1, 1), (K.unpClipBytes 1, 1000), (K.unpMasterChannel 1, 15), (K.unpRateDivider 1, 1), (K.unpCodec 1, 0)]
      let pic (missing : Bool) : ClipPicture :=
        { length := 1000, params := e.1.map fun w => { width := w, height := 1080, profile := 1, level := 120, chromaFormat := 1, bitDepth := 8 },
          entry := e.2, recovers := e.2, missing := missing, bad := [], samples := { width := 1, height := 1, y := [], cb := [], cr := [] } }
      unpTakes s 1 (pic true) = true ∧ unpTakes s 1 (pic false) = true ∧
        (pic true).params.map (clipFits s.view 1) = e.1.map (fun w => w == 1920) ∧ (s.unp 1).first.isSome = true ∧
        (s.unp 1).concealing = false) := by decide +kernel

/-- A row of channel 15 in a loom's hands: its slice has begun in staging. -/
def rowOf (intake staged : Nat) : RowSt :=
  { chan := 15, pic := 49, row := 16, kind := .coded, loom := some 15, intake := intake, staged := staged, refs := [{ back := 1, edge := 0, margin := 0 }],
    nals := [{ don := 0, bytes := unitHeader true .trail, content := { kind := .trail } }] }
def rowIn (intake staged : Nat) : State :=
  let s := coding
  { s with video := { s.video with rows := [rowOf intake staged], looms := [(15, { row := some (15, 49, 16) })] } }

/-- Its CTU column x coded by coding units of one kind of prediction, its 56 lines by blocks of 16 and of 8. -/
def codedBy (x : Nat) (p : Prediction) : CtuCoding :=
  { bits := 0, blocks := ((List.range 12).map fun i => { x := 64 * x + i % 4 * 16, y := 1024 + i / 4 * 16, w := 16, h := 16, parts := [p] })
      ++ (List.range 8).map fun i => { x := 64 * x + i * 8, y := 1072, w := 8, h := 8, parts := [p] } }

/-- A reference unit of zeros. -/
def zeroUnit : RefUnit := { mode := 0, data := List.replicate (rawUnitBytes 0) 0 }

theorem wit_LoomsCodeRows :
    (let s := coding
     s.nat (K.loomGLoomState 15) = 1 ∧ s.isFrozen (11 + 15) = false ∧ s.log.safe = false ∧ s.beam.failed = false ∧
       (s.loom 15).freeAt ≤ s.clk.ticks ∧ inIntake s 15 = none ∧ nextRow s 15 = some (15, 49, 16) ∧ ((s.chan 15).picSt 49).isSome = true ∧
       s.findRow 15 49 16 = none) ∧
    (let s := rowIn 29 25
     intakeRow s 15 = some (rowOf 29 25) ∧ (((s.chan 15).picSt 49).map (·.cols)) = some 30 ∧ 960 * 29 ≤ s.clk.ticks ∧ 29 ≤ 25 + 4 ∧
       AMap.getD (s.loom 15).lanes (laneOf 29) 0 + 384 ≤ 384) ∧
    (let s := rowIn 30 28
     (s.video.rows.find? fun x => x.chan == 15 && x.row == 16 && x.kind == .coded && decide (x.staged < x.intake) && !x.lastStaged) =
        some (rowOf 30 28) ∧ 28 + 1 ≠ 30) := by
  decide +kernel

theorem wit_LoomsCodeRows_codings :
    let s := rowIn 29 25
    ((s.chan 15).picSt 49).map (fun p => chosenOk (ctuCase s (rowOf 29 25) p 29) ((s.picView 15 49).nat (K.loomChromaFormat 15))
        (codedBy 29 (.intra 1 false)) &&
      floorOk (ctuCase s (rowOf 29 25) p 29) ((s.picView 15 49).nat (K.loomChromaFormat 15))
        (codedBy 29 (.inter (.merge 0) [{ list := 0, back := 1, x := 0, y := 0 }]))) = some true := by decide +kernel

theorem wit_LoomsCodeRows_staging :
    let s := rowIn 30 28
    ((s.chan 15).picSt 49).map (fun p => stagingFits s (rowOf 30 28) p [] (List.replicate 14 zeroUnit)) = some true := by decide +kernel

theorem wit_DarnRequestsAreHandled :
    (∀ r ∈ ([.host, .net, .chain, .rtcp] : List DarnRoute),
      let s := withObjs coding [(K.darnDarnSources 15, 15)]
      bit (s.nat (K.darnDarnSources 15)) (routeBit r) = true ∧ s.flag (K.loomEncodeEnable 15) = true ∧ (s.chan 15).encoding = true ∧
        (s.chan 15).pendingReq = none ∧ (s.chan 15).waiting = none ∧ (s.chan 15).sweep = none) ∧
    (let s := withObjs coding [(K.darnDarnSources 15, 15)]
     let w : Sweep := { b := 0, columns := 1, count := 1, recovery := 0, trigger := 0, start := 0 }
     let s1 := s.setChan 15 { s.chan 15 with sweep := some w }
     let s2 := s.setChan 15 { s.chan 15 with waiting := some { arrived := 0 } }
     (s1.chan 15).sweep = some w ∧ (s1.chan 15).pendingReq = none ∧ (s1.chan 15).waiting = none ∧ (s1.chan 15).encoding = true ∧
       (s2.chan 15).waiting = some { arrived := 0 }) ∧
    bit ((withObjs coding [(K.darnDarnSources 15, 11)]).nat (K.darnDarnSources 15)) 2 = false := by decide +kernel

theorem wit_LoomsQualify :
    (let s := withObjs (up 0) [(K.loomGLoomState 15, 4)]
     s.video.qualMask = 0 ∧ (∀ n ∈ List.range 16, bit 0xFFFF n = true → s.nat (K.loomGLoomState n) = 0 ∨ s.nat (K.loomGLoomState n) = 4)) ∧
    (∀ second ∈ [true, false],
      let s := withObjs { up (10 * Tests.second) with video := { looms := [(15, { qualSince := some 0, second := second })] } } [(K.loomGLoomState 15, 3)]
      (s.loom 15).qualSince = some 0 ∧ s.nat (K.loomGLoomState 15) = 3 ∧ (s.loom 15).joint = false ∧ (s.loom 15).second = second ∧
        passed s 0 (2 * qualBound (s.loom 15).joint) = true ∧ ∀ c ∈ List.range 16, ∀ p ∈ (s.chan c).positions, p.loom ≠ 15) := by decide +kernel

/-- Channel 15 in a canvas, its left side on the upstream port and Active. -/
def seamed (state : Nat) : State :=
  withObjs coding [(K.reedSeamCanvas 15, 7), (K.reedBandIndex 15, 1), (K.reedLeftPort 15, 1), (K.reedLeftState 15, state)]

/-- The neighbour to the left, whose message reaches that side. -/
def neighbour : State := withObjs coding [(K.reedSeamCanvas 15, 7), (K.reedBandIndex 15, 0)]

/-- A message of the neighbour. -/
def seamMsg (kind k index len : Nat) : Bytes := seamMessage neighbour 15 false kind k index (List.replicate len 0)

/-- What a check comes to: 0 early, 1 bad, 2 taken for the left side of channel 15. -/
def checked (s : State) (kind : Nat) (b : Bytes) : Nat :=
  match seamCheck s 0 kind b with | .early => 0 | .bad => 1 | .ok c l _ => if c = 15 && l then 2 else 3

theorem wit_SeamMessagesAndSides_kinds : ∀ e ∈ ([(1, 160), (2, 16), (3, 8), (4, 40)] : List (Nat × Nat)),
    checked (seamed 3) e.1 (seamMsg e.1 50 0 e.2) = 2 ∧ checked (seamed 3) e.1 (seamMsg e.1 50 0 (e.2 + 1)) = 1 ∧
      checked (up 0) e.1 (seamMsg e.1 50 0 e.2) = 0 := by decide +kernel

theorem wit_SeamMessagesAndSides_windows :
    let s := seamed 3
    s.nat (sideKey 15 true) = 3 ∧ seamPicture s 15 50 = some 50 ∧
      (let at_ (i : Nat) : Rat := boundaryTime s.view 15 50 + q i * readLine s.view 15
       (at_ 3 - 3 * readLine s.view 15 ≤ nowExact s ∧ nowExact s ≤ at_ 3 + 3 * readLine s.view 15) ∧
         nowExact s < at_ 4 - 3 * readLine s.view 15) := by decide +kernel

theorem wit_SeamMessagesAndSides_canvas :
    let s := withObjs (seamed 2) [(K.reedCanvasX 15, 1920)]
    let n := withObjs (video 1) [(K.reedSeamCanvas 15, 7), (K.reedBandIndex 15, 0)]
    canvasFlags s.view 15 true (List.replicate 40 0) % 4 ≠ 0 ∧ canvasFlags s.view 15 true (canvasRecord n.view 15) % 4 = 0 ∧
      (let u := s.setSide 15 true { matched := 1, lastPass := some 49 }
       (u.side 15 true).lastPass = some 49 ∧ (u.side 15 true).matched = 1) ∧
      sidePort s 15 true ≠ 0 ∧ 2 ≤ s.nat (sideKey 15 true) ∧ (s.chainPort 0).up = false ∧
      (let u := { s with clk := { s.clk with ticks := (s.chainPort 0).idleSince + 2400 } }
       (u.chainPort 0).up = false ∧ passed u (u.chainPort 0).idleSince 10000 = true) := by decide +kernel

/-- A message that waits on the chain. -/
def waitingMsg (cls len : Nat) : ChainMsg := { cls := cls, bytes := List.replicate len 0 }

theorem wit_ChainPositionsAndSegments :
    (withObjs (up 0) [(K.chainChainMode, 1)]).nat K.chainChainMode = 1 ∧
    (let s := withObjs (up 0) [(K.chainChainMode, 2), (K.chainChainHead, 1)]; s.nat K.chainChainMode = 2 ∧ s.flag K.chainChainHead = true) ∧
    (let s := { up 0 with net := { chain := { upPort := { up := true, queue := [waitingMsg 4 10, waitingMsg 1 257, waitingMsg 1 256] } } } }
     (s.chainPort 0).up = true ∧ s.isFrozen 35 = false ∧ portSoaks s 0 = false ∧
       (s.chainPort 0).queue = [waitingMsg 4 10] ++ waitingMsg 1 257 :: [waitingMsg 1 256] ∧ (waitingMsg 1 257).sent + 256 < (waitingMsg 1 257).bytes.length) ∧
    (let s := { up 0 with net := { chain := { upPort := { up := true, queue := [waitingMsg 1 256] } } } }
     (s.chainPort 0).queue = [] ++ waitingMsg 1 256 :: [] ∧ (waitingMsg 1 256).bytes.length ≤ (waitingMsg 1 256).sent + 256) := by decide +kernel

/-- A ReadReq without items for position 5, with a HopLimit. -/
def farMsg (hop : Nat) : Bytes :=
  ([0x5A, 0x44, 1, 1, 0, 0, 0xFF, 0xFF, 0, 0, 0, 0, 0, 0, 0, 0, 0, 0, 0, 7, 0, 0, 0, 5, hop, 0, 0, 0, 0, 0, 0, 0] : List Nat).map (BitVec.ofNat 8)

/-- A device at position 4 of a line, both of its chain ports up. -/
def inLine (fault : Bool) : State :=
  withObjs { up 0 with net := { chain := { position := 4, fault := fault, upPort := { up := true }, downPort := { up := true } } } } [(K.chainChainMode, 1)]

theorem wit_ChainPositionsAndSegments_forward :
    (∀ h ∈ ([0, 3] : List Nat), ((Path.parse (.chain 0) (farMsg h)).map fun m => (m.type, m.target, m.hop)) = some (1, 5, h)) ∧
    (∀ f ∈ ([true, false] : List Bool), (inLine f).net.chain.position = 4 ∧ ((inLine f).chainPort 0).up = true ∧
      (inLine f).nat K.chainChainMode = 1 ∧ (inLine f).net.chain.fault = f ∧ ((inLine f).chainPort 1).queue = [] ∧
      ((inLine f).chainPort 1).stalled = []) := by decide +kernel

end Sys2Proof.Tests
end

