-- ==== Sys2Proof/Tests/Witness3.lean ====
section
/-!
SUPPORT. Sys2Proof/Tests/Witness3.lean: for each clause of the statements on the Mangle, the Timekeeper, the audio ports and the lanes, a
state and operands that meet its hypotheses.
-/

namespace Sys2Proof.Tests

set_option Elab.async false

open Sys2Proof.Machine

/-- Channel 15 on port 7, whose list gives it a share. -/
def carried : State :=
  let s := fixed <| withObjs coding [(K.streamPortA 15, 7), (K.streamPortB 15, 255), (K.portPortEnable 7, 1), (K.quadPortBinding 7, 28), (K.quadQuadMode 7, 2),
                            (K.quadLineRate 7, 0), (K.portMaxIpBytes 7, 1500)]
  s.setPort 7 { list := { entries := [{ interval := 125000, gates := 0xFF, rows := 2 ^ 15 }], cycle := 125000, base := 0 } }

/-- A row of channel 15 that is wholly staged. -/
def staged (opened : Bool) (kind : RowKind) : RowSt :=
  { chan := 15, pic := 49, row := 16, kind := kind, opened := opened, lastStaged := true }

theorem wit_RowSlotsOpenAndClose :
    (let s := carried
     ((s.chan 15).picSt 49).map (fun p => (p.rows, bit p.opened 16)) = some (17, false) ∧ s.videoStopped = false ∧
       slotOpen s 15 49 16 ≤ nowExact s ∧ slotClose s 15 49 16 ≤ nowExact s) ∧
    (let s := { carried with video := { carried.video with rows := [staged false .coded] } }
     s.findRow 15 49 16 = some (staged false .coded) ∧ legPort (s.picView 15 49) 15 0 = 7 ∧ s.isFrozen 31 = false ∧
       hasShare (s.port (legPort (s.picView 15 49) 15 0)).list 15 = true ∧ (s.port (legPort (s.picView 15 49) 15 0)).linkUp = false) ∧
    (let s := { carried with video := { carried.video with rows := [staged true .hold] } }
     s.findRow 15 49 16 = some (staged true .hold) ∧ rowSent (s.picView 15 49) (staged true .hold) = true ∧ s.videoStopped = false) ∧
    (let r := { staged true .coded with lastStaged := false }
     let s := { carried with video := { carried.video with rows := [r] } }
     s.findRow 15 49 16 = some r ∧ rowSent (s.picView 15 49) r = false ∧ channelPorts (s.picView 15 49) 15 ≠ [] ∧ r.breach = 0) := by decide +kernel

/-- A frame of class 6 on port 7, and a row frame there. -/
def frame6 : TxFrame :=
  { port := 7, cls := 6, tagged := false, vid := 0, pcp := 0, ip := 4, dscp := 0, dst := [], dport := 1, sport := 1, payload := List.replicate 46 0 }
def frame7 : RowFrame :=
  { frame := { frame6 with cls := 7 }, chan := 15, pic := 49, row := 16, phase := 0, opening := true, lastOfRow := true, upTo := 1 }

/-- Port 7 up at 10 Gb/s, its gates open throughout. -/
def portUp (x : PortSt) : State :=
  carried.setPort 7 { x with linkUp := true, rate := 10000, list := { entries := [{ interval := 125000, gates := 0xFF, rows := 2 ^ 16 - 1 }], cycle := 125000, base := 0 } }

/-- What is picked: 0 nothing, 1 a row frame, 2 another. -/
def picked (s : State) : Nat := match pickFrame (s.noteWaits 7) 7 with | .none => 0 | .row _ => 1 | .other _ => 2

theorem wit_FramesAreChosen :
    ((portUp {}).port 7).linkUp = true ∧ (portUp {}).videoStopped = false ∧ (portUp {}).isFrozen 31 = false ∧
      ((portUp {}).port 7).busyUntil ≤ (portUp {}).clk.ticks ∧ picked (portUp {}) = 0 ∧
      picked (portUp { queues := [(6, [frame6])] }) = 2 ∧ picked (portUp { queues := [(6, [frame6])], rowFrames := [frame7] }) = 1 ∧
    pickFrame (portUp { queues := [(6, [frame6])] }) 7 = .other frame6 ∧
    (let f := { frame6 with cls := 4, ptp := some (1, 0) }
     pickFrame ((portUp { queues := [(4, [f])] }).noteWaits 7) 7 = .other f ∧ ((portUp {}).dom 1).delaySeq = 0) ∧
    (let s := withObjs carried [(K.streamRtcpIntervalMs 15, 1000)]
     (s.chan 15).encoding = true ∧ s.nat (K.streamRtcpIntervalMs 15) ≠ 0 ∧ 0 < phases s.view 15 ∧ AMap.find? (s.chan 15).lastSr 0 = none ∧
       s.videoStopped = false ∧ channelPorts s.view 15 ≠ [] ∧ legPort s.view 15 0 < 8 ∧ 8 ≤ legPort s.view 15 1) := by decide +kernel

theorem wit_GateListsChange :
    (let s := carried
     (s.port 7).list.entries ≠ [] ∧ 0 < (s.port 7).list.cycle ∧ ((s.port 7).list.entries.map (·.interval)).sum = (s.port 7).list.cycle ∧
       (s.port 7).linkUp = false ∧ portUsable s.view 7 = true) ∧
    (let l : GateList := { entries := [{ interval := 125000, gates := 0xFF, rows := 0 }], cycle := 125000, base := 0 }
     let due := carried.setPort 7 { pending := some { list := l, change := 1000000000 } }
     let later := carried.setPort 7 { pending := some { list := l, change := 1000000001 } }
     (due.port 7).pending.isSome = true ∧ boundaryAfter (due.port 7).list 1000000000 ≤ nowNs due ∧
       nowNs later < boundaryAfter (later.port 7).list 1000000001) ∧
    ((portUp {}).port 7).linkUp = true := by decide +kernel

theorem wit_CreditsAndTokensRefill :
    (let s := withObjs carried [(K.portShaperRateKbps 7 6, 1000)]
     (s.port 7).refillAt < nowNs s / 256 ∧ s.nat (K.portShaperRateKbps 7 6) ≠ 0 ∧ loCredit s.view 7 6 ≤ hiCredit s.view 7 6 ∧
       loCredit s.view 7 6 ≤ 0 ∧ 0 ≤ hiCredit s.view 7 6 ∧ (s.port 7).sending ≠ some 6 ∧ AMap.getD (s.port 7).queues 6 [] = [] ∧
       0 ≤ AMap.getD (s.port 7).credit 6 0 ∧ s.draft.effects = []) ∧
    (let s := { up second with boot := { (up 0).boot with configCommitted := false } }
     s.net.policerAt < uptimeNs s / 256 ∧ s.boot.configCommitted = false ∧ (s.port 7).control ≤ 256000000000) ∧
    uptimeNs (up 0) / 256 ≤ (up 0).net.policerAt := by decide +kernel

/-- A frame that port 7 takes, to a MAC address of its own. -/
def heard (etherType dport : Nat) : RxFrame :=
  { fcsOk := true, length := 64, dstMac := List.replicate 6 0xFF, etherType := etherType, vid := none, dei := false, checksumOk := true,
    fragment := false, udpOk := true, srcIp := List.replicate 16 1, dstIp := List.replicate 16 2, dscp := 0, proto := 17, sport := 5, dport := dport,
    payload := [] }

/-- Port 7 up, and flow 3 of a use that matches such a frame; its buckets as given. -/
def flowUp (use rate peak : Nat) (b : FlowSt) : State :=
  let s := portUp {}
  let s := withObjs s [(flowKey 3 1, use), (flowKey 3 2, 0xFF), (flowKey 3 5, 5004), (flowKey 3 6, 0xFFFF), (flowKey 3 8, rate), (flowKey 3 10, peak)]
  { s with objs := AMap.put s.objs (flowKey 3 4) (.oct (List.replicate 16 2)), net := { s.net with flows := [(3, b)] } }

theorem wit_FramesAreReceived :
    (let s := portUp {}
     (s.port 7).linkUp = true ∧ malformed s 7 { heard 0x0800 7 with length := 63 } = true ∧ malformed s 7 (heard 0x88F7 319) = false ∧
       macOk s 7 (heard 0x88F7 319) = true ∧ 1000000000 ≤ (s.port 7).ptp ∧ ((portUp { ptp := 999999999 }).port 7).ptp < 1000000000 ∧
       (let x := { heard 0x0800 7 with dstMac := [0x02, 0, 0, 0, 0, 1] }; malformed s 7 x = false ∧ macOk s 7 x = false)) ∧
    (let s := flowUp 1 0 0 {}
     malformed s 7 (heard 0x0800 5004) = false ∧ macOk s 7 (heard 0x0800 5004) = true ∧ flowFor s 7 (heard 0x0800 5004) = some 3 ∧ s.flow 3 1 = 1 ∧
       s.flow 3 8 = 0 ∧ s.flow 3 10 = 0 ∧ (s.port 7).rxMedia < 384 ∧ s.isFrozen 32 = false) ∧
    (let s := (flowUp 1 0 0 {}).setPort 7 { (flowUp 1 0 0 {}).port 7 with rxMedia := 384 }
     s.flow 3 1 = 1 ∧ 384 ≤ (s.port 7).rxMedia ∧ flowFor s 7 (heard 0x0800 5004) = some 3) ∧
    (let s := flowUp 1 1000 1000 { tc := 0, tp := 64000000 }
     flowFor s 7 (heard 0x0800 5004) = some 3 ∧ s.flow 3 1 = 1 ∧ (police s 3 (heard 0x0800 5004)).1 = .yellow ∧ (s.port 7).rxMedia < 384 ∧
       s.isFrozen 32 = false) ∧
    (let s := flowUp 3 0 0 {}
     flowFor s 7 (heard 0x0800 5004) = some 3 ∧ s.flow 3 1 = 3) ∧
    (let s := portUp {}
     7 ∈ channelPorts s.view 15 ∧ boltDown s = false ∧ AMap.getD s.draft.boltQ 7 [] = [] ∧ (s.chan 15).rtcpWin.count = 0 ∧
       phaseSsrc s 15 (s.nat (K.streamSsrcBase 15)) = true) ∧
    (let s := (portUp {}).setChan 15 { (portUp {}).chan 15 with rtcpWin := { start := second, count := 1000 } }
     1000 ≤ (s.chan 15).rtcpWin.count ∧ passed s (s.chan 15).rtcpWin.start 1000000000 = false) := by decide +kernel

/-- A master that a domain knows. -/
def known : Foreign :=
  { port := 7, identity := 9, quality := [128, 6, 33, 1, 128, 9], gm := 9, stepsRemoved := 0, utcOffset := 37, logInterval := 0, lastSeen := 0 }

/-- Domain 1 in a state, with that master. -/
def domIn (st : DomState) (ticks : Nat) (x : DomainSt) : State :=
  withObjs ((up ticks).setDom 1 { x with state := st, master := some (7, 9), foreign := [known] })
    [(K.domPortMask 1, 128), (K.domAnnounceReceiptTimeout 1, 3), (K.domLockThresholdNs 1, 100)]

theorem wit_MastersAreSelected :
    domHears (domIn .listening 0 {}) 1 7 = true ∧
    (∀ st ∈ ([.locked, .acquiring] : List DomState), let s := domIn st (3 * second) {}
      (s.dom 1).state = st ∧ (s.dom 1).master = some (7, 9) ∧ (s.dom 1).foreign.find? (fun f => f.port == 7 && f.identity == 9) = some known ∧
        passed s (s.dom 1).lastAnnounce (announceTimeout s 1 known) = true ∧ lockedTicks s (s.dom 1) * 25 < 16 * 1000000000 * 6) ∧
    (let s := domIn .locked (3 * second) {}
     let s := { s with time := { s.time with active := 1, dom0 := { state := .locked } } }
     s.time.active = 1 ∧ (s.dom (1 - 1)).state = .locked ∧ s.nat K.timeActiveDomainSelect = 0) ∧
    (let s := domIn .acquiring (20 * second) { lockedTicks := 16 * second }
     16 * 1000000000 * 6 ≤ lockedTicks s (s.dom 1) * 25) ∧
    (let s := withObjs (domIn .holdover (60 * second) { holdoverAt := some 0 }) [(K.timeHoldoverLimitS, 60)]
     (s.dom 1).holdoverAt = some 0 ∧ passed s 0 (s.nat K.timeHoldoverLimitS * 1000000000) = true) := by decide +kernel

/-- A Sync of that master, so many ns behind the domain's clock. -/
def sync (origin : Int) : SyncMsg := { port := 7, identity := 9, seq := 1, twoStep := false, followUp := false, origin := origin, correction := 0 }

theorem wit_DomainsAcquireAndLock :
    (∀ e ∈ ([(.acquiring, false, 0, 0, 5), (.acquiring, true, 15, 0, 100), (.locked, true, 0, 3, 401)] : List (DomState × Bool × Nat × Nat × Int)),
      let s := domIn e.1 second { clockSet := e.2.1, inLock := e.2.2.1, outLock := e.2.2.2.1 }
      let msg := sync (-e.2.2.2.2)
      let off : Int := (domainNs s 1 : Int) + s.int (K.tcorrIngressCorrNs msg.port) - msg.origin - msg.correction - (s.dom 1).pathDelay
        - s.int (K.domAsymmetryNs 1)
      domHears s 1 msg.port = true ∧ (s.dom 1).master = some (msg.port, msg.identity) ∧ msg.followUp = false ∧ msg.twoStep = false ∧
        off = e.2.2.2.2 ∧ s.nat (K.domLockThresholdNs 1) = 100 ∧ (s.dom 1).state = e.1) ∧
    (let s := domIn .acquiring second { delayReq := some (65535, 0) }
     peerDelay s 1 = false ∧ (s.dom 1).state ≠ .disabled ∧ s.boot.boltReady = true ∧ (s.dom 1).master = some (7, 9) ∧ (s.dom 1).delayReq = some (65535, 0)) := by decide +kernel

theorem wit_TimeFollowsAndPulsesFire_domains :
    (let s := withObjs (up (5 * second)) [(K.timeRevertHoldoffS, 5)]
     let s := { s with time := { s.time with active := 1, dom0 := { state := .locked, lockedAt := some 0 } } }
     s.time.dom0.lockedAt = some 0 ∧ s.nat K.timeActiveDomainSelect = 0 ∧ s.nat K.timeRevertHoldoffS ≠ 0 ∧ s.time.active = 1 ∧
       passed s 0 (s.nat K.timeRevertHoldoffS * 1000000000) = true) ∧
    (let s := { up 0 with time := { slewing := true } }; s.time.slewing = true ∧ s.clock s.time.active = s.clk.presented) ∧
    (∀ b ∈ ([true, false] : List Bool), let s := withObjs { up 0 with time := { extDropped := b } } [(K.timeHoldoverReference, 1)]
      s.nat K.timeHoldoverReference ≠ 0 ∧ s.time.extDropped = b ∧ passed s s.time.extEdge 3000000000 = false) := by decide +kernel

/-- Pulse output 7 and capture input 7, one second after the epoch. -/
def pulsing (mode : Nat) (x : PulseSt) (fifo : List CapRec) : State :=
  withObjs { atNs (up second) 1000000000 with time := { pulses := [(7, x)], caps := [(7, { fifo := fifo })] } }
    [(K.pulsePulseMode 7, mode), (K.pulsePeriodNs 7, 1000), (K.pulseWidthNs 7, 100), (K.capCaptureEdge 7, 3)]

theorem wit_TimeFollowsAndPulsesFire_pulses :
    (∀ m ∈ ([2, 3, 4] : List Nat), pulseInstant (pulsing m {} []) 7 = some 1000000000) ∧ (AMap.getD (pulsing 2 {} []).time.pulses 7 {}).from_ < 1000000000 ∧
    1000000000 ≤ (AMap.getD (pulsing 2 { from_ := 1000000000 } []).time.pulses 7 {}).from_ ∧
    (let s := pulsing 1 {} []; s.nat (K.pulsePulseMode 7) = 1 ∧ (pulseInstant s 7).isSome = true ∧ (AMap.getD s.time.pulses 7 {}).fired = false) ∧
    (pulsing 0 {} []).nat (K.pulsePulseMode 7) = 0 ∧
    (∀ n ∈ ([15, 16] : List Nat), let s := pulsing 0 {} (List.replicate n { time := 1, rising := true, stepEpoch := 0 })
      s.nat (K.capCaptureEdge 7) = 3 ∧ s.nat K.timeHoldoverReference = 0 ∧ s.isFrozen 36 = false ∧ (AMap.getD s.time.caps 7 {}).fifo.length = n) ∧
    (AMap.getD (pulsing 0 {} []).time.caps 7 {}).fifo = [] := by decide +kernel

/-- Audio port 7, receiving in a clock mode and state, its FIFO of so many frames. -/
def audio (mode st : Nat) (x : AudioSt) : State :=
  withObjs { atNs (up second) 1000000000 with audio := { ports := [(7, x)] } }
    [(K.audEnable 7, 1), (K.audClockMode 7, mode), (K.audClockState 7, st), (K.audSampleRate 7, 48000), (K.audFifoCentre 7, 8),
     (K.audFifoHysteresis 7, 2), (K.audSlots 7, 2), (K.audSampleBits 7, 24)]

/-- A FIFO of so many frames, which runs. -/
def fifoOf (n : Nat) : AudioSt := { fifo := List.replicate n [0, 0], filling := false, lastFrame := some 47999 }

theorem wit_AudioPortsRun :
    (∀ m ∈ ([0, 1] : List Nat), let s := audio m 1 (fifoOf 8)
      s.flag (K.audEnable 7) = true ∧ s.nat (K.audDirection 7) = 0 ∧ (s.aport 7).lastFrame = some 47999 ∧
        47999 < frameNumber s (s.nat (K.audSampleRate 7)) ∧ s.isFrozen 37 = false ∧ (s.aport 7).restAt = none ∧ s.nat (K.audClockMode 7) = m ∧
        s.nat (K.audClockState 7) = 1 ∧ (s.aport 7).filling = false ∧ s.nat (K.audAudioGroup 7) = 0) ∧
    slipIntent (audio 1 1 (fifoOf 10)) 7 = 0 ∧ slipIntent (audio 1 1 (fifoOf 11)) 7 = 1 ∧ slipIntent (audio 1 1 (fifoOf 5)) 7 = 2 ∧
    ((audio 1 1 (fifoOf 31)).aport 7).fifo.length < 32 ∧ 32 ≤ ((audio 1 1 (fifoOf 32)).aport 7).fifo.length ∧
    (let s := audio 1 1 (fifoOf 8)
     passed s (s.aport 7).lastSync (4 * frameInstant (s.nat (K.audSampleRate 7)) 1) = true ∧
       (s.aport 7).measured ≠ some (nowNs s / 1000000000) ∧ (s.aport 7).edges = 0 ∧ s.nat (K.audSampleRate 7) ≠ 0) ∧
    (let s := withObjs (audio 1 2 { syncRun := 255, lastSync := (audio 1 2 {}).clk.ticks }) [(K.audMeasuredClass 7, 48000)]
     s.flag (K.audEnable 7) = true ∧ s.nat (K.audClockMode 7) = 1 ∧ s.nat (K.audClockState 7) = 2 ∧
       s.nat (K.audMeasuredClass 7) = s.nat (K.audSampleRate 7) ∧ 255 ≤ (s.aport 7).syncRun ∧
       passed s (s.aport 7).lastSync (4 * frameInstant (s.nat (K.audSampleRate 7)) 1) = false) := by decide +kernel

/-- Lane 31, of a weft quad on the downstream chain port, after so many periods. -/
def laneIn (ticks : Nat) (x : LaneSt) : State :=
  withObjs { up ticks with lanes := [(31, x)] } [(K.quadQuadMode 7, 4)]

theorem wit_LanesAlign :
    (let s := laneIn 0 {}
     quadMode s.view 31 = 4 ∧ (s.lane 31).mode = .off ∧ (s.lane 31).cdrLock = false ∧ s.boot.earlySet = true ∧ s.boot.boltReady = true) ∧
    (let s := laneIn 0 { mode := .aligning, cdrLock := true }
     (s.lane 31).mode = .aligning ∧ (s.lane 31).cdrLock = true ∧ s.nat (K.laneLanePower 31) ≠ 2 ∧ 65 < 66 ∧ 66 ≤ 66) ∧
    (let s := laneIn (second / 10) { mode := .fault, cdrLock := true }
     (s.lane 31).mode = .fault ∧ passed s (s.lane 31).faultSince 100000000 = true) ∧
    (let s := laneIn 480000 { mode := .up, cdrLock := true, headers := List.replicate 15 false, noticeSeen := true }
     (s.lane 31).mode = .up ∧ (s.lane 31).cdrLock = true ∧ (s.lane 31).headers = List.replicate 15 false ∧ (s.lane 31).noticeSeen = true ∧
       passed s (s.lane 31).lastBlock 2000000 = true) ∧
    (let s := laneIn 0 { mode := .up, framingMisses := 1, lastFrameSeq := some 7 }
     (s.lane 31).headers = [] ∧ (s.lane 31).noticeSeen = false ∧ (s.lane 31).framingMisses = 1 ∧ (s.lane 31).lastFrameSeq = some 7 ∧
       (∀ h ∈ (s.lane 31).headers, h = true)) := by decide +kernel

/-- Blocks as a lane reads them: a header of two equal bits, a framing block of sequence 9, a SoakNotice. -/
theorem wit_LanesAlign_blocks :
    laneBlock (laneIn 0 {}) 31 0 0 = .invalid ∧ laneBlock (laneIn 0 {}) 31 3 0 = .invalid ∧
    (∃ p, (match laneBlock (laneIn 0 {}) 31 2 p with | .framing _ seq _ => seq == 9 | _ => false) = true) ∧
    (∃ p, laneBlock (laneIn 0 {}) 31 2 p = .soakNotice) := by
  refine ⟨by decide +kernel, by decide +kernel, ⟨0x78000f090000001e, by decide +kernel⟩, ⟨0xcc00198000000033, by decide +kernel⟩⟩

theorem wit_LanesSoakAndScan :
    (let s := withObjs (laneIn 240000 { mode := .up }) [(K.chainChainMode, 1), (K.chainDownLanes, 31), (K.laneSoakIdleUs 31, 1000)]
     (chainSide s.view 31).isSome = true ∧ (s.lane 31).mode = .up ∧ (s.chainPort 1).queue = [] ∧ seamTraffic s 1 = false ∧
       (s.lane 31).scanSince = none ∧ s.nat (K.laneLanePower 31) = 0 ∧
       passed s (s.chainPort 1).idleSince (s.nat (K.laneSoakIdleUs 31) * 1000) = true) ∧
    (let s := laneIn 240000 { mode := .soak, scanSince := some 0, scanDwell := 1 }
     let s := { s with net := { chain := { downPort := { up := true, queue := [waitingMsg 1 1] } } } }
     (s.lane 31).mode = .soak ∧ (s.chainPort 1).queue ≠ [] ∧ passed s (s.lane 31).lastBurst 1000000 = true ∧ (s.lane 31).mode ≠ .up ∧
       (s.lane 31).scanSince = some 0 ∧ passed s 0 ((s.lane 31).scanDwell * 1000000) = true) := by decide +kernel

/-- R290: the frame after 128 waits with its producer; the next start frees a descriptor for it. -/
theorem test_pool_fills :
    let full : PortSt := { queues := [(6, List.replicate 128 frame6)] }
    full.full = true ∧ (full.enqueue frame6).stalled = [frame6] ∧ (full.enqueue frame6).taken = 128 ∧
      (PortSt.takeWaiting { queues := [(6, List.replicate 127 frame6)], stalled := [frame6] }).taken = 128 ∧
      bit (State.sendFrame (portUp { queues := [(6, List.replicate 127 { frame6 with port := 7 })] }) { frame6 with port := 7 }).log.pending 375 = true := by
  decide +kernel

end Sys2Proof.Tests
end

