-- ==== Sys2Proof/Tests/Witness4.lean ====
section
/-!
SUPPORT. Sys2Proof/Tests/Witness4.lean: for each clause of the statements on the Beam, the Shuttle, the Governor, the supplies, the counters,
storage and the machine as a whole, a state and operands that meet its hypotheses.
-/

namespace Sys2Proof.Tests

set_option Elab.async false

open Sys2Proof.Machine

theorem wit_SustainedBandwidth : ∀ p : Fin 3, ([8533, 7500, 6400] : List Nat)[p.val]?.isSome = true := by decide

/-! ## The Beam -/

/-- A transaction of the DRAM, and the state in which it holds tag 3. -/
def dramTxn (addr len : Nat) (data : Option Bytes) (reference : Bool) : Txn :=
  { master := 11, stream := 0, target := .dram, addr := addr, len := len, wdata := data, reference := reference }
def flying (t : Txn) (x : BeamChSt) : State :=
  let s := { up 0 with fab := { (up 0).fab with inflight := [(3, { txn := t })] } }
  { s with beam := { s.beam with channels := [(beamChannel t.addr, x)] } }

/-- Read entries that are held: so many reserved ones and so many others. -/
def heldEntries (reserved others : Nat) : BeamChSt :=
  { reads := List.replicate reserved { txn := 1, master := 11, unit := 11, addr := 0, len := 64, reserved := true, since := 0, seq := 0 }
          ++ List.replicate others { txn := 1, master := 11, unit := 11, addr := 0, len := 64, reserved := false, since := 0, seq := 0 } }

/-- The hypotheses that every request has, the entries its units need, and the entries held. -/
def requestIs (s : State) (k reserved others : Nat) : Bool :=
  match AMap.find? s.fab.inflight 3 with
  | some f => !f.accepted && !f.done && f.txn.target == .dram && !s.beam.failed && s.beam.trained && !outOfRange s f.txn.addr &&
      (unitsOf f.txn.addr f.txn.len).length == k && reservedUsed (s.bch (beamChannel f.txn.addr)) == reserved &&
      unreservedUsed (s.bch (beamChannel f.txn.addr)) == others && !orderHolds s 3 f.txn
  | none => false

theorem wit_ReservedReadEntries :
    (∀ e ∈ ([(false, 0, 124), (false, 64, 125), (true, 63, 127), (true, 64, 124), (true, 62, 127)] : List (Bool × Nat × Nat)),
      requestIs (flying (dramTxn 0x100 256 none e.1) (heldEntries e.2.1 e.2.2)) 4 e.2.1 e.2.2 = true) ∧
    (dramTxn 0 64 none true).loomReference = true ∧ { dramTxn 0 64 none true with master := 10 }.loomReference = false ∧
    (let s := flying (dramTxn 0 64 none false) {}
     let s := { s with fab := { s.fab with inflight := [(2, { txn := dramTxn 0 64 none false }), (3, { txn := dramTxn 0 64 none false })] } }
     orderHolds s 3 (dramTxn 0 64 none false) = true) ∧
    4 ≤ 128 - 124 ∧ 128 - 125 < 4 ∧ (64 - 63) + (128 - 127) < 4 ∧ 4 ≤ (64 - 64) + (128 - 124) := by decide +kernel

/-- A queued write of one unit. -/
def wentry (seq : Nat) (raised : Option Nat) : WriteEntry :=
  { master := 11, unit := 4, data := [(0, 1), (1, 2)], since := 0, seq := seq, raised := raised }

theorem wit_BeamTakesRequests :
    (let s := flying (dramTxn 0x100 64 none false) {}
     requestIs s 1 0 0 = true ∧ (s.bch (beamChannel 0x100)).room (dramTxn 0x100 64 none false) = true ∧ 0x100 % 64 + 64 ≤ 64) ∧
    (let s := flying (dramTxn 0x13F 1 (some [7]) false) {}
     requestIs s 1 0 0 = true ∧ (s.bch (beamChannel 0x13F)).room (dramTxn 0x13F 1 (some [7]) false) = true ∧ 0x13F % 64 + 1 ≤ 64) ∧
    (let s := flying (dramTxn 0x100 2 none false) { writes := [wentry 1 none] }
     newestMeeting (s.bch (beamChannel 0x100)).writes 0x100 2 = some (wentry 1 none) ∧ (wentry 1 none).covers 0x100 2 = true) ∧
    (let s := flying (dramTxn (16 * 2 ^ 30 - 524288) 64 none false) {}
     outOfRange s (16 * 2 ^ 30 - 524288) = true ∧ outOfRange s (16 * 2 ^ 30 - 524289) = false) ∧
    (let s := flying (dramTxn 0 64 none false) {}
     let u := { s with beam := { s.beam with failed := true } }
     u.beam.failed = true) := by decide +kernel

/-- Channel 7 of the Beam, after so many periods. -/
def beam7 (ticks : Nat) (x : BeamChSt) : State :=
  withObjs { up ticks with beam := { (up 0).beam with channels := [(7, x)] } } [(K.beamRefreshPostponeMax, 8), (K.beamWriteHighWatermark, 48), (K.beamWriteLowWatermark, 16)]

/-- A read entry of channel 7. -/
def rentry (seq : Nat) (issued retried : Bool) : ReadEntry :=
  { txn := 3, master := 26, unit := 0, addr := 0x700, len := 64, reserved := false, since := 0, seq := seq, issued := issued, retried := retried }

/-- The channel with its draining as the next command finds it. -/
def seen7 (s : State) : BeamChSt := { s.bch 7 with draining := drains s (s.bch 7) }

theorem wit_BeamIssuesCommands :
    (let s := beam7 second { rank0 := { owed := 8 } }
     s.beam.trained = true ∧ s.beam.failed = false ∧ s.beam.switching = none ∧ s.beam.selfRefresh = false ∧
       (ranksFitted s).find? (fun r => burstDue s (s.bch 7) r) = some 0) ∧
    (let s := beam7 second { rank0 := { owed := 7 } }
     (ranksFitted s).find? (fun r => burstDue s (s.bch 7) r) = none ∧
       (ranksFitted s).find? (fun r => ((s.bch 7).rank r).owed != 0 && rankQuiet s (s.bch 7) r && !blocked s ((s.bch 7).rank r)) = some 0) ∧
    (let s := beam7 second { writes := [wentry 5 none] }
     (ranksFitted s).find? (fun r => burstDue s (s.bch 7) r) = none ∧
       (ranksFitted s).find? (fun r => ((s.bch 7).rank r).owed != 0 && rankQuiet s (s.bch 7) r && !blocked s ((s.bch 7).rank r)) = none ∧
       (nextCommand (s.setBch 7 (seen7 s)) (seen7 s)).map (·.seq) = some 5 ∧ (seen7 s).reads.find? (fun e => e.seq == 5) = none ∧
       (seen7 s).writes.find? (fun e => e.seq == 5) = some (wentry 5 none)) ∧
    (let s := beam7 second { reads := [rentry 5 false false] }
     (nextCommand (s.setBch 7 (seen7 s)) (seen7 s)).map (·.seq) = some 5 ∧ (seen7 s).reads.find? (fun e => e.seq == 5) = some (rentry 5 false false)) ∧
    (∀ b ∈ ([true, false] : List Bool),
      let s := { beam7 0 { reads := [rentry 5 true b] } with fab := { inflight := [(3, { txn := dramTxn 0x700 64 none false, accepted := true })] } }
      nextReturn (s.bch 7) = some (rentry 5 true b) ∧ (rentry 5 true b).forwarded = none ∧ (rentry 5 true b).retried = b ∧
        (AMap.find? s.fab.inflight 3).isSome = true ∧ 11 ≤ (rentry 5 true b).master ∧ (rentry 5 true b).master < 27 ∧ s.log.safe = false ∧
        3 < (withObjs s [(K.logLogMinSeverity, 4)]).nat K.logLogMinSeverity ∧ AMap.find? s.fab.freezes 26 = none) := by decide +kernel

theorem wit_BeamKeepsItself :
    (∀ n ∈ ([7, 8] : List Nat), let s := beam7 938 { rank0 := { owed := n } }
      (s.bch 7).refiAt + 23436 / s.beam.mr4 ≤ s.clk.ticks * 25 ∧ s.nat K.beamRefreshPostponeMax = 8 ∧ (s.bch 7).rank0.owed = n ∧ s.beam.ranks ≠ 2) ∧
    (let s := beam7 3840000 {}; passed s s.beam.mr4At 16000000 = true ∧ s.beam.mr4 ≠ 4 ∧ bit s.log.pending 526 = false) ∧
    maxOf [4, 0] = 4 ∧ maxOf [2] = 2 ∧ maxOf [1] = 1 ∧
    (let s := beam7 second {}
     0 < s.beam.ranks ∧ ((s.bch 7).rank 0).powerDown = false ∧ passed s ((s.bch 7).rank 0).lastQueued (s.nat K.beamPowerDownIdleNs) = true) ∧
    (let s := withObjs (beam7 second {}) [(K.beamSelfRefreshIdleUs, 1000)]
     s.nat K.beamSelfRefreshIdleUs ≠ 0 ∧ beamIdle s = true ∧ passed s s.beam.idleSince (s.nat K.beamSelfRefreshIdleUs * 1000) = true) ∧
    (let s := atNs (beam7 second {}) 1000000; nowNs s / 1000000 ≠ s.beam.window) := by decide +kernel

theorem wit_BeamRetrains :
    (let s := withObjs (beam7 0 { checkNow := true }) [(K.beamMinMarginSteps, 4)]
     s.beam.switching = none ∧ s.isFrozen 34 = false ∧ (s.bch 7).checkNow = true ∧ s.beam.resumeAt ≤ s.clk.ticks ∧ (s.bch 7).retraining = false ∧
       3 < s.int K.beamMinMarginSteps ∧ s.int K.beamMinMarginSteps ≤ 4) ∧
    (∀ n ∈ ([1, 2] : List Nat), let s := beam7 0 { retraining := true, attempts := n }
      (s.bch 7).retraining = true ∧ (s.bch 7).attempts = n ∧ trainedFrom s (s.beam.setPoint + 1) = [1, 2]) ∧
    (let s := beam7 0 { retraining := true, attempts := 2 }
     let s := { s with beam := { s.beam with setPoint := 2 } }
     trainedFrom s (s.beam.setPoint + 1) = []) ∧
    (let s := beam7 0 {}
     let s := { s with beam := { s.beam with setPoint := 2 } }
     s.beam.trained = true ∧ s.beam.returning = none ∧ s.nat K.beamMaxSetPoint < s.beam.setPoint) ∧
    (let s := beam7 0 {}
     let s := { s with beam := { s.beam with switching := some 2 } }
     s.beam.switching = some 2 ∧ s.beam.failed = false) := by decide +kernel

/-! ## The Shuttle -/

/-- Core 7 runs a thread, and there is another thread in a state. -/
def shuttle (running : Option Nat) (r x : Thread) : State :=
  let s := { up second with shtl := { threads := [(9, x), (4095, r)], cores := [(7, { running := running })] } }
  if isQueued x then { s with shtl := { s.shtl with ready := [(x.priority, [9])] } } else s

theorem wit_ThreadCommands :
    (let s := { up 0 with fab := { frozen := 2 ^ 9 } }; s.isFrozen (2 + 7) = true) ∧
    (let s := shuttle (some 4095) { state := .running, cancelPending := true } {}
     s.isFrozen (2 + 7) = false ∧ s.boot.spindle = true ∧ (s.core 7).running = some 4095 ∧ (s.thread 4095).cancelPending = true) ∧
    (∀ n ∈ ([0, 1] : List Nat), let s := shuttle (some 4095) { state := .running, wakeCount := n } {}
      (s.core 7).running = some 4095 ∧ (s.thread 4095).cancelPending = false ∧ (s.thread 4095).wakeCount = n ∧ lowestFree s = some 0 ∧
        (s.thread (9 % 4096)).state = .free) ∧
    (∀ st ∈ ([.blocked, .ready, .deferred, .cancelled] : List ThState),
      let s := shuttle none {} { state := st }
      (s.core 7).running = none ∧ (s.thread (9 % 4096)).state = st ∧ s.shtl.intake.length < 64) ∧
    (let s := shuttle (some 4095) { state := .running } { state := .running }; (s.thread (9 % 4096)).state = .running) ∧
    256 % 256 = 0 ∧ 255 % 256 ≠ 0 ∧ 639 < 640 := by decide +kernel

/-- Every context is in use. -/
def fullThreads : AMap Thread := (List.range 4096).map fun t => (t, { state := .blocked })

/-- A key of a map that gives every listed key one value is found there. -/
theorem find_map_const {α : Type} (v : α) (l : List Nat) (k : Nat) (h : k ∈ l) : AMap.find? (l.map fun t => (t, v)) k = some v := by
  induction l with
  | nil => cases h
  | cons a l ih =>
    by_cases e : a = k
    · simp [AMap.find?, e]
    · simp [AMap.find?, e, ih (List.mem_of_ne_of_mem (Ne.symm e) h)]

theorem wit_ThreadCommands_full : lowestFree { up 0 with shtl := { threads := fullThreads } } = none := by
  simp only [lowestFree, List.find?_eq_none]
  intro t ht
  simp [State.thread, fullThreads, AMap.getD, find_map_const _ _ t ht]

theorem wit_CoresTakeThreads :
    (∀ st ∈ ([.blocked, .ready, .running, .cancelled] : List ThState),
      let s := shuttle none {} { state := st }
      let s := { s with shtl := { s.shtl with intake := [9] } }
      s.shtl.intake = [9] ∧ (s.thread 9).state = st) ∧
    (let s := shuttle none {} { state := .ready, affinity := 128, priority := 63, lastCore := 7 }
     idleChoice s 7 = some 9 ∧ (s.core 7).running = none ∧ s.isFrozen (2 + 7) = false) ∧
    (∀ b ∈ ([true, false] : List Bool),
      let s := shuttle (some 4095) { state := .running, priority := 62, affinity := 128, cancelPending := b } { state := .ready, affinity := 128, priority := 63 }
      preemptChoice s 7 = some 9 ∧ (s.core 7).running ≠ none ∧ (s.thread 4095).cancelPending = b) ∧
    (let s := shuttle none {} { state := .ready, affinity := 128, priority := 63 }
     passed s (s.thread 9).since (s.nat K.shtlAffinityHoldNs) = true ∧
       (List.range 8).find? (fun c => coreIdle s c && idleChoice s c == some 9) = some 7) ∧
    (let s := withObjs (shuttle none {} { state := .running, cancelPending := true }) [(K.shtlCancelGraceUs, 1000)]
     (s.thread 9).overdue = false ∧ passed s (s.thread 9).cancelSince (s.nat K.shtlCancelGraceUs * 1000) = true) ∧
    (∀ c ∈ ([2, 3] : List Nat), let s := withObjs (shuttle none {} { state := .deferred, cls := c }) [(K.shtlDeferLimitMs, 100), (K.shtlBulkDeferLimitMs, 100)]
      (s.thread 9).state = .deferred ∧
        passed s (s.thread 9).since ((if (s.thread 9).cls = 3 then s.nat K.shtlBulkDeferLimitMs else s.nat K.shtlDeferLimitMs) * 1000000) = true) := by
  decide +kernel

/-! ## The Governor and the supplies -/

/-- The Governor after so many periods, with a limit of 60.0 W and cuts of 10 % above it. -/
def governed (ticks : Nat) (g : GovSt) : State :=
  withObjs { up ticks with gov := g } [(K.govBoardPowerLimit, 600), (K.govFastCutPercent, 10), (K.govGovernorPeriodUs, 1000), (K.loomGLoomState 15, 1)]

theorem wit_GovernorKeepsItsLimits :
    (let s := governed 24000 {}
     s.boot.spindle = true ∧ passed s s.gov.lastSample 100000 = true ∧
       s.nat K.govBoardPowerLimit * (100 + s.nat K.govFastCutPercent) < 100 * ((([661] : List Nat).take 8).map (· % 65536)).sum ∧
       100 * ((([660] : List Nat).take 8).map (· % 65536)).sum ≤ s.nat K.govBoardPowerLimit * (100 + s.nat K.govFastCutPercent)) ∧
    ((-401 : Int) < -400 ∧ (1500 : Int) < 1501) ∧
    (∀ n ∈ ([0, 10] : List Nat), ∀ th ∈ ([0, 1, 2, 3] : List Nat), let s := governed 240000 { samples := n, sumPower := 6000, thermal := th }
      passed s s.gov.lastPeriod (s.nat K.govGovernorPeriodUs * 1000) = true ∧ s.gov.samples = n ∧ s.gov.thermal = th ∧ 15 ∈ serviceLooms s) ∧
    sensorsLost (withObjs (governed 0 {}) [(K.govSensorsExcluded, 31)]) = true ∧
    (let s := governed 2400000 { ceilingSince := some 0, thermal := 2 }
     s.gov.ceilingSince = some 0 ∧ s.gov.thermal = 2 ∧ passed s 0 10000000 = true) := by decide +kernel

theorem wit_FastCuts :
    (let s := governed 24000 {}
     s.boot.spindle = true ∧ passed s s.gov.lastSample 100000 = true ∧
       s.nat K.govBoardPowerLimit * (100 + s.nat K.govFastCutPercent) < 100 * ((([661] : List Nat).take 8).map (· % 65536)).sum) ∧
    (let s := governed 2399999 { fastCut := true, fastCutAt := some 0 }
     s.gov.fastCut = true ∧ s.gov.fastCutAt = some 0 ∧ passed s 0 10000000 = false) := by decide +kernel

theorem wit_SuppliesAreWatched :
    (let s := up 0
     bit s.power.low 8 = false ∧ bit s.power.high 8 = false ∧ bit s.power.low 6 = false ∧ railsLow s = false ∧ s.boot.fusesRead = true) ∧
    (let s := { up 2400 with power := { low := 256, outSince := [(8, 0)] } }
     bit s.power.low 8 = true ∧ AMap.find? s.power.outSince 8 = some 0 ∧ passed s 0 10000 = true) ∧
    (∀ e ∈ ([(845, 850, 1), (850, 845, 2), (860, 800, 2)] : List (Nat × Nat × Nat)),
      let s := { up (2 * second) with power := { setMv := e.1, targetMv := e.2.1, avsFailures := e.2.2, lastStep := some 0, gateAt := some 0 } }
      s.power.avsFailed = false ∧ s.power.setMv ≠ s.power.targetMv ∧ (∀ x, s.power.lastStep = some x → passed s x 1000000 = true) ∧
        (∀ x, s.power.gateAt = some x → passed s x 50000 = true) ∧ s.power.avsFailures = e.2.2) := by
  refine ⟨by decide +kernel, by decide +kernel, ?_⟩
  intro e he
  have h : passed (up (2 * second)) 0 1000000 = true ∧ passed (up (2 * second)) 0 50000 = true := by decide +kernel
  simp only [List.mem_cons, List.not_mem_nil, or_false] at he
  obtain rfl | rfl | rfl := he <;>
    exact ⟨rfl, by decide, fun x hx => by cases hx; exact h.1, fun x hx => by cases hx; exact h.2, rfl⟩

/-! ## Counters and sampling -/

/-- A sampling record of core 7. -/
def record7 : Sample := { kind := 1, unit := 7, flags := 0, time := 0, body := List.replicate 20 0 }

/-- The sampling engine's state while core 7 runs thread 9. -/
def sampling (p : PmcSt) : State :=
  withObjs { up 0 with pmc := p, shtl := { cores := [(7, { running := some 9 })] } } [(K.pmcInstrSampleCores, 128)]

theorem wit_CountersAndSamples :
    (39 < 40 ∧ 767 < 768 ∧ isHiddenCounter 767 = false) ∧
    (userDenied (up 0) 767 (.master 39) = false ∧ bit ((withObjs (up 0) [(K.pmcUserReadGroups, 1)]).nat K.pmcUserReadGroups) (counterGroup 767) = false) ∧
    (let s := sampling { snapAsked := true }; boltDown s = false ∧ s.isFrozen 38 = false ∧ s.pmc.snapAsked = true) ∧
    (let s := sampling { holds := [(7, record7)], level := 4094 }
     (s.core 7).running = some 9 ∧ bit (s.nat K.pmcInstrSampleCores) 7 = true ∧ s.isFrozen (2 + 7) = false ∧
       (s.pmc.holds.filter (·.1 == 7)).length < 2 ∧ s.pmc.level < 4095 ∧ s.pmc.lostPending = 0 ∧ s.pmc.holds = (7, record7) :: []) ∧
    (let s := sampling { holds := [(7, record7), (7, record7)], level := 4095 }
     2 ≤ (s.pmc.holds.filter (·.1 == 7)).length ∧ 4095 ≤ s.pmc.level) ∧
    (let s := { sampling {} with fab := { frozen := 2 ^ 38 } }; s.isFrozen 38 = true ∧ s.isFrozen (2 + 7) = false) ∧
    (let s := sampling { lostPending := 1, level := 2047, writePtr := 4095 }
     s.pmc.lostPending ≠ 0 ∧ s.pmc.level = 2047 ∧ s.pmc.writePtr < 4096 ∧ (AMap.getD s.pcie.rings 35 {}).enable = false) := by decide +kernel

/-! ## Saves, keys and images -/

/-- A sealed Pattern of no records. -/
def plainPattern (schema : Nat) : Bytes :=
  let head := beBytes 4 0x5A535054 ++ beBytes 2 schema ++ beBytes 2 64 ++ beBytes 4 1 ++ beBytes 4 68 ++ List.replicate 44 0
  head ++ [0, 0, 0, 0] ++ beBytes 4 (crc32c head)

/-- Slot B holds a Pattern. -/
def stored (b : Bytes) : State := { up 0 with flash := { cfgB := b } }

theorem wit_SavesLoadsAndResetRequests :
    (boltDown (up 0) = false ∧ (up 0).boot.saving = none ∧ (up 0).log.safe = false ∧ (up 0).boot.resetAsked = none) ∧
    (∀ again ∈ ([true, false] : List Bool),
      let s := { up 0 with boot := { (up 0).boot with saving := some (plainPattern 5), saveAgain := again } }
      boltDown s = false ∧ s.boot.saving = some (plainPattern 5) ∧ s.boot.saveImage = none ∧ s.boot.saveAgain = again) ∧
    (∀ n ∈ ([1, 4, 5] : List Nat), let s := stored (plainPattern n)
      let b := s.flash.cfg 1
      patCandidate b = true ∧ patCheck b = true ∧ patField b 4 2 = n ∧ (match patternItems b with | .ok _ => true | .error _ => false) = true ∧
        s.draft.queue.length < 4) ∧
    (let b := (stored []).flash.cfg 1; patCandidate b = false ∧ patCheck b = false) ∧
    (∀ n ∈ ([2, 4] : List Nat), let s := { up 0 with log := { safe := true, safeCause := n } }
      s.log.safe = true ∧ 2 ≤ s.log.safeCause ∧ s.log.safeCause ≤ 4) := by decide +kernel

/-- A block that is the header of an image for a fuse set, with a key and a signature of zeros: it calls for 2 fuses. -/
def imageHeader : Bytes :=
  let h := beBytes 4 0x5A53494D ++ beBytes 2 1 ++ beBytes 2 0x9140 ++ [0xB1, 0] ++ beBytes 2 2 ++ beBytes 4 7 ++ beBytes 4 8192 ++ [1, 1]
  let key := [4] ++ beBytes 48 0xfbf96095915eb587390f850ec95b35f618ae121c72a70808ad8f9f4c261b602b63541743e395f7c778e52bb28c18dc83
    ++ beBytes 48 0x16a6ff3f72c9368326ad50a3bd148a53cd2213bb480e4730ad019db87ae100995ec65df011e19811a15dc9ddfc9ab3c
  fullBlock (h ++ List.replicate (576 - h.length) 0 ++ key ++ List.replicate 7 0
    ++ beBytes 48 0x3648633c5ccb451a03c358fda490ac0428e8f4a89f252b0062ac69df00fccb55f68e114410aafec82bea177fc31a2a8b
    ++ beBytes 48 0x502cbf7d5d12523e7dbad5ff632d650e9280a45ecd85ce840eb9ef749b49eafb55201a2d2e947f34fad45e57f7509c37)

/-- A device on trial in slot B. -/
def trial (f : Fuses) : State :=
  withObjs { up (600 * second) with fuses := f, flash := { selA := { trialState := 2, activeSlot := 1 }, fwB := [(0, imageHeader)] } }
    [(K.selvAutoConfirmS, 600)]

theorem wit_KeysAndActivation :
    (List.replicate 32 (0 : Byte)).length = 32 ∧
    (let s := withObjs (up 0) [(slotKey 1, 3)]
     s.nat (slotKey (inactiveSlot s)) = 3 ∧ onTrial s = false ∧ s.boot.activation = none) ∧
    (up 0).nat (slotKey (inactiveSlot (up 0))) ≠ 3 ∧
    (let s := { up 0 with boot := { (up 0).boot with activation := some 5 } }; s.boot.activation = some 5) ∧
    (let s := trial Fuses.sample
     let h := slotHeader s.flash (activeSlot s)
     onTrial s = true ∧ (governing s.flash).sequence + 1 < 2 ^ 32 ∧ s.boot.configCommitted = true ∧ s.nat K.selvAutoConfirmS ≠ 0 ∧
       passed s s.boot.committedAt (s.nat K.selvAutoConfirmS * 1000000000) = true ∧ max s.fuses.rollback (min 64 (hdr h 10 2)) = 2 ∧
       bit (hdr h 21 1) 0 = true ∧ s.fuses.rollback ≠ 2) ∧
    (let s := trial { Fuses.sample with rollback := 2 }
     let h := slotHeader s.flash (activeSlot s)
     max s.fuses.rollback (min 64 (hdr h 10 2)) = s.fuses.rollback ∧ s.fuses.revoked ||| (2 ^ hdr h 9 1 - 1) = s.fuses.revoked) ∧
    (∀ low ∈ ([0, 256] : List Nat), let s := { up 0 with boot := { (up 0).boot with blowAsked := some (2, 0) }, power := { low := low } }
      s.boot.blowAsked = some (2, 0) ∧ (bit s.power.low 8 = true ↔ low = 256) ∧ bit s.power.high 8 = false) := by decide +kernel

/-- An image message as this device's neighbour sends it. -/
def imageMsg (kind block : Nat) (body : Bytes) : Bytes := imageMessage kind 0 5 block body

/-- A transfer in progress, 2 blocks long, into slot B; block 1 is asked for after so many failures. -/
def receiving (fails nextAsk : Nat) : State :=
  { up (second / 10) with boot := { (up 0).boot with transfer := some { from_ := 1, id := 5, slot := 1, header := [], blocks := 2, outstanding := [(1, 0, fails)], nextAsk := nextAsk } } }

theorem wit_ImagesCrossTheChain_offers :
    ((imageIn 1 (imageMsg 1 0 [1])).map (fun m => (m.id, m.body))) = some (5, [1]) ∧
    (let s := { up 0 with boot := { (up 0).boot with imageVerified := false } }; s.boot.imageVerified = false) ∧ (up 0).boot.imageVerified = true ∧
    offerReason (up 0) (fullBlock [1]) ≠ 0 := by decide +kernel

theorem wit_ImagesCrossTheChain_answers :
    (∀ b ∈ ([true, false] : List Bool), ∀ kind ∈ ([2, 3] : List Nat),
      let s := { up 0 with boot := { (up 0).boot with offered := [(1, (1, 5, b))] } }
      (imageIn kind (imageMsg kind 0 [])).map (·.id) = some 5 ∧ AMap.find? s.boot.offered 1 = some (1, 5, b)) ∧
    (let s := withObjs { up 0 with boot := { (up 0).boot with offered := [(1, (1, 5, true))] }, flash := { fwB := [(0, imageHeader)] } } [(slotKey 1, 3)]
     s.nat (slotKey 1) = 3 ∧ AMap.find? s.boot.offered 1 = some (1, 5, true) ∧ imageBlocks (slotHeader s.flash 1) = 2 ∧
       ((imageIn 4 (imageMsg 4 1 (beBytes 2 1))).map fun m => (m.id, m.block, hdr m.body 0 2, m.body.length)) = some (5, 1, 1, 2)) := by
  decide +kernel

theorem wit_ImagesCrossTheChain_accepted :
    headerReason { Fuses.sample with keyHash := [(0, sha384 ((imageHeader.drop 576).take 97))] } imageHeader = 0 := by decide +kernel

theorem wit_ImagesCrossTheChain_blocks :
    (∀ n ∈ ([0, 1, 2] : List Nat), ∀ ask ∈ ([1, 2] : List Nat), let s := receiving n ask
      s.boot.imageVerified = true ∧ (s.boot.transfer.map fun x => (x.from_, x.id, x.blocks, x.nextAsk)) = some (1, 5, 2, ask) ∧
        (s.boot.transfer.bind fun x => x.outstanding.find? (·.1 == 1)) = some (1, 0, n) ∧ passed s 0 100000000 = true) := by decide +kernel

theorem wit_ImagesCrossTheChain_messages :
    ((parseImage (imageMsg 5 1 [1])).map fun m => (m.kind, m.id, m.block, m.body.length)) = some (5, 5, 1, 1) ∧
    ((imageIn 6 (imageMsg 6 0 [])).map (·.id)) = some 5 ∧ slotValid (receiving 0 1).fuses (receiving 0 1).flash 1 = false := by decide +kernel

theorem wit_ImagesCrossTheChain_good : ∃ m, parseImage (imageMsg 5 1 (List.replicate 4096 0)) = some m ∧ m.crcOk = true ∧ m.body.length = 4096 :=
  ⟨_, Laws.parseImage_message 5 0 5 1 _, rfl, List.length_replicate⟩

/-! ## The machine as a whole -/

theorem wit_StepsRunTheFrontCommand :
    ({ up 0 with pending := [.timeNowRead, .yield 0] } : State).pending = .timeNowRead :: [.yield 0] ∧ (up 0).pending = [] ∧
      (up 0).boot.clocksLost = false ∧ fastOldest (up 0) = none ∧
      ({ up 0 with boot := { clocksLost := true } } : State).boot.clocksLost = true := by decide +kernel

theorem wit_WholeMachine :
    (∃ t, step { up 0 with pending := [.timeNowRead] } = .next t) ∧ MemoryCanonical (up 0) ∧ touchesMemory .timeNowRead = false ∧
      (∃ t, exec .timeNowRead (up 0) = .next t) ∧ shuttleFamily (.yield 0) = true ∧ (∃ t, exec (.yield 0) (up 0) = .next t) ∧
      governorFamily .governorPeriod = true ∧ (∃ t, exec .governorPeriod (up 0) = .next t) ∧
      storageFamily (.keyWrite .host 0 []) = true ∧ (∃ t, exec (.keyWrite .host 0 []) (up 0) = .next t) ∧
      countingFamily .snapshotCopy = true ∧ (∃ t, exec .snapshotCopy (up 0) = .next t) :=
  ⟨⟨_, rfl⟩, by unfold MemoryCanonical; decide +kernel, by decide, ⟨_, rfl⟩, by decide, ⟨_, rfl⟩, by decide, ⟨_, rfl⟩, by decide, ⟨_, rfl⟩, by decide, ⟨_, rfl⟩⟩

end Sys2Proof.Tests
end

section
/-!
PROOFS. The host's register writes (spec/00_scope.md, R11; R67, R69, R74, R77, R464, R472): where a write of an aligned word goes, and what it
leaves.
-/

namespace Sys2Proof.Machine

/-! ## The clocks (R23) -/

theorem whenClocked_of_clocked {s : State} (h : s.boot.clocksLost = false) (r : Result) : whenClocked s r = r := by
  simp [whenClocked, h]

/-- A command that leaves the state does so whether its clock runs or not. -/
@[simp] theorem whenClocked_next_self (s : State) : whenClocked s (.next s) = .next s := ite_self _

/-- What a command leaves is its answer, also where its clock stands still. -/
@[simp] theorem whenClocked_next_stateAfter (s t : State) :
    whenClocked s (.next (stateAfter s (whenClocked s (.next t)))) = whenClocked s (.next t) := by
  unfold whenClocked
  split <;> rfl

/-! ## What a register write answers -/

theorem exec_registerWrite (a : Nat) (v : Word) (s : State) : exec (.registerWrite a v) s = execRegisterWrite a v s := rfl

/-- While the device is in service a write to BAR0 is that of master 10. -/
theorem execRegisterWrite_bar0 {s : State} {a : Nat} (ha : a < 2 ^ 32) (hf : s.isFrozen 10 = false) (hs : s.log.safe = false) (v : Word) :
    execRegisterWrite a v s = whenClocked s (.next (s.regWrite 10 a v)) := by
  have hc : ¬ configSpace ≤ a := Nat.not_le.mpr ha
  simp [execRegisterWrite, writeServed, hc, hf, hs]

/-- A write to BAR0 that leaves the registers as they are leaves the device as it is. -/
theorem execRegisterWrite_eq_self {s : State} {a : Nat} {v : Word} (ha : a < 2 ^ 32) (hf : s.isFrozen 10 = false) (hs : s.log.safe = false)
    (hw : s.regWrite 10 a v = s) : execRegisterWrite a v s = .next s := by
  rw [execRegisterWrite_bar0 ha hf hs, hw, whenClocked_next_self]

theorem completes_registerWrite {s : State} {a : Nat} {v : Word} {post : State → Prop} (ha : a < 2 ^ 32) (hf : s.isFrozen 10 = false)
    (hs : s.log.safe = false) (hw : post (s.regWrite 10 a v)) : Completes (.registerWrite a v) s post := fun hclk =>
  ⟨_, by rw [exec_registerWrite, execRegisterWrite_bar0 ha hf hs, whenClocked_of_clocked hclk], hw⟩

/-- R464: below ring 34 there is no register that device safe state serves. -/
theorem execRegisterWrite_safe {s : State} {a : Nat} (ha : a < 0x80880) (hf : s.isFrozen 10 = false) (hs : s.log.safe = true) (v : Word) :
    execRegisterWrite a v s = .next s := by
  have hc : ¬ configSpace ≤ a := by unfold configSpace; omega
  have hserved : writeServed s 10 a = false := by
    simp [writeServed, hs]
    omega
  simp [execRegisterWrite, hc, hf, hserved]

/-- R69: while master 10 is frozen a write to BAR0 is dropped. -/
theorem execRegisterWrite_frozen {s : State} {a : Nat} (ha : a < 2 ^ 32) (hf : s.isFrozen 10 = true) (v : Word) :
    execRegisterWrite a v s = whenClocked s (.next s.dropWrite) := by
  have hc : ¬ configSpace ≤ a := Nat.not_le.mpr ha
  simp [execRegisterWrite, hc, hf]

/-! ## Where a write goes (R67) -/

theorem State.regWrite_unaligned {a : Nat} (h : a % 4 ≠ 0) (s : State) (master : Nat) (v : Word) : s.regWrite master a v = s := by
  simp [State.regWrite, h]

/-- Every register of configuration space that takes a write stands at a word address. -/
theorem State.pcieConfigWrite_unaligned {off : Nat} (h : off % 4 ≠ 0) (s : State) (v : Nat) : s.pcieConfigWrite off v = s := by
  unfold State.pcieConfigWrite
  split
  case h_5 => rfl
  all_goals exact absurd rfl h

theorem State.regWrite_ring (s : State) (master : Nat) {a off : Nat} (r : RingId) (ha : a = 0x80000 + 64 * r.val + off) (ho : off < 64)
    (h4 : off % 4 = 0) (v : Word) : s.regWrite master a v = s.ringWrite r off v := by
  have hr := r.isLt
  have hin : 0x80000 ≤ a ∧ (a - 0x80000) / 64 < 64 := by omega
  have hal : a % 4 = 0 := by omega
  have hoff : a % 64 = off := by omega
  have hidx : (⟨(a - 0x80000) / 64, hin.2⟩ : RingId) = r := Fin.ext (by simp only; omega)
  simp only [State.regWrite, hal, hin, hoff, hidx, bne_self_eq_false, Bool.false_eq_true, and_self, if_false, dif_pos]

theorem State.regWrite_msix (s : State) (master : Nat) {a off : Nat} (n : VectorId) (ha : a = 0xF0000 + 16 * n.val + off) (ho : off < 16)
    (h4 : off % 4 = 0) (v : Word) : s.regWrite master a v = s.msixWrite n off v := by
  have hn := n.isLt
  have hring : ¬ (0x80000 ≤ a ∧ (a - 0x80000) / 64 < 64) := by omega
  have hin : 0xF0000 ≤ a ∧ (a - 0xF0000) / 16 < 64 := by omega
  have hal : a % 4 = 0 := by omega
  have hoff : a % 16 = off := by omega
  have hidx : (⟨(a - 0xF0000) / 16, hin.2⟩ : VectorId) = n := Fin.ext (by simp only; omega)
  simp only [State.regWrite, hal, hring, hin, hoff, hidx, bne_self_eq_false, Bool.false_eq_true, and_self, if_false, dif_pos, dif_neg,
    not_false_eq_true]

theorem State.regWrite_log (s : State) (master : Nat) {off : Nat} (ho : off < 0x100000) (h4 : off % 4 = 0) (v : Word) :
    s.regWrite master (0x2E00000 + off) v = s.logWrite off v := by
  have hring : ¬ (0x80000 ≤ 0x2E00000 + off ∧ (0x2E00000 + off - 0x80000) / 64 < 64) := by omega
  have hmsix : ¬ (0xF0000 ≤ 0x2E00000 + off ∧ (0x2E00000 + off - 0xF0000) / 16 < 64) := by omega
  have hmail : ¬ 0x2E00000 + off < 0x200000 := by omega
  have hshtl : ¬ 0x2E00000 + off < 0x300000 := by omega
  have hin : 0x2E00000 + off < 0x2F00000 := by omega
  have hal : (0x2E00000 + off) % 4 = 0 := by omega
  simp [State.regWrite, hal, hring, hmsix, hmail, hshtl, hin]

/-! ## Rings, vectors and the Mending Log -/

/-- R75: a base takes a write only while Enable is 0. -/
theorem State.ringWrite_baseLo (s : State) (r : RingId) (v : Word) :
    s.ringWrite r 0 v = if (s.ring r.val).enable then s else s.setRing r.val { s.ring r.val with baseLo := v &&& 0xFFFFFFC0 } := rfl

theorem State.ringWrite_baseHi (s : State) (r : RingId) (v : Word) :
    s.ringWrite r 4 v = if (s.ring r.val).enable then s else s.setRing r.val { s.ring r.val with baseHi := v } := rfl

theorem State.msixWrite_addrLo (s : State) (n : VectorId) (v : Word) :
    s.msixWrite n 0 v = s.setVec n.val { s.vec n.val with addrLo := v &&& 0xFFFFFFFC } := rfl

theorem State.msixWrite_data (s : State) (n : VectorId) (v : Word) : s.msixWrite n 8 v = s.setVec n.val { s.vec n.val with data := v } := rfl

theorem State.logWrite_pending {w : Nat} (hw : w < 20) (s : State) (v : Word) :
    s.logWrite (4 * w) v = stateAfter s (execLogPendingClear w v s) := by
  have hoff : 4 * w < 0x50 := by omega
  simp [State.logWrite, hoff]

theorem State.logWrite_rdptr (s : State) (v : Word) : s.logWrite 0x108 v = stateAfter s (execLogRdptrWrite v s) := rfl

/-! ## The statement's clauses -/

section InService

variable {s : State} (hf : s.isFrozen 10 = false) (hs : s.log.safe = false) (v : Word)
include hf hs

theorem registerWrite_baseLo (r : RingId) (he : (s.ring r.val).enable = false) :
    Completes (.registerWrite (0x80000 + 64 * r.val) v) s fun t =>
      t.ring r.val = { s.ring r.val with baseLo := v &&& 0xFFFFFFC0 } := by
  refine completes_registerWrite (by omega) hf hs ?_
  rw [State.regWrite_ring s 10 r (off := 0) (by omega) (by omega) rfl, State.ringWrite_baseLo]
  simp only [he, Bool.false_eq_true, if_false, State.ring_setRing]

theorem registerWrite_baseHi (r : RingId) (he : (s.ring r.val).enable = false) :
    Completes (.registerWrite (0x80004 + 64 * r.val) v) s fun t => t.ring r.val = { s.ring r.val with baseHi := v } := by
  refine completes_registerWrite (by omega) hf hs ?_
  rw [State.regWrite_ring s 10 r (off := 4) (by omega) (by omega) rfl, State.ringWrite_baseHi]
  simp only [he, Bool.false_eq_true, if_false, State.ring_setRing]

theorem registerWrite_base_enabled (r : RingId) (he : (s.ring r.val).enable = true) :
    exec (.registerWrite (0x80000 + 64 * r.val) v) s = .next s := by
  refine execRegisterWrite_eq_self (by omega) hf hs ?_
  rw [State.regWrite_ring s 10 r (off := 0) (by omega) (by omega) rfl, State.ringWrite_baseLo, if_pos he]

theorem registerWrite_addrLo (n : VectorId) :
    Completes (.registerWrite (0xF0000 + 16 * n.val) v) s fun t => t.vec n.val = { s.vec n.val with addrLo := v &&& 0xFFFFFFFC } := by
  refine completes_registerWrite (by omega) hf hs ?_
  rw [State.regWrite_msix s 10 n (off := 0) (by omega) (by omega) rfl, State.msixWrite_addrLo, State.vec_setVec]

theorem registerWrite_data (n : VectorId) :
    Completes (.registerWrite (0xF0008 + 16 * n.val) v) s fun t => t.vec n.val = { s.vec n.val with data := v } := by
  refine completes_registerWrite (by omega) hf hs ?_
  rw [State.regWrite_msix s 10 n (off := 8) (by omega) (by omega) rfl, State.msixWrite_data, State.vec_setVec]

theorem registerWrite_logPending {w : Nat} (hw : w < 20) :
    exec (.registerWrite (0x2E00000 + 4 * w) v) s = exec (.logPendingClear w v) s := by
  rw [exec_registerWrite, execRegisterWrite_bar0 (by omega) hf hs, State.regWrite_log s 10 (by omega) (by omega), State.logWrite_pending hw]
  exact whenClocked_next_stateAfter s _

theorem registerWrite_logRdptr : exec (.registerWrite 0x2E00108 v) s = exec (.logRdptrWrite v) s := by
  rw [exec_registerWrite, execRegisterWrite_bar0 (by omega) hf hs, State.regWrite_log s 10 (off := 0x108) (by omega) rfl, State.logWrite_rdptr]
  exact whenClocked_next_stateAfter s _

/-- In BAR0 and in configuration space alike. -/
theorem registerWrite_unaligned {a : Nat} (ha : a % 4 ≠ 0) : exec (.registerWrite a v) s = .next s := by
  by_cases hc : configSpace ≤ a
  · have hoff : (a - configSpace) % 4 ≠ 0 := by unfold configSpace at *; omega
    simp [exec_registerWrite, execRegisterWrite, hc, State.pcieConfigWrite_unaligned hoff]
  · exact execRegisterWrite_eq_self (Nat.not_le.mp hc) hf hs (State.regWrite_unaligned ha s 10 v)

end InService

theorem registerWrite_frozen {s : State} (hf : s.isFrozen 10 = true) (v : Word) {a : Nat} (ha : a < 2 ^ 32) :
    Completes (.registerWrite a v) s fun t =>
      t = { s with pcie := { s.pcie with droppedWrites := s.pcie.droppedWrites + 1 } } := fun hclk =>
  ⟨s.dropWrite, by rw [exec_registerWrite, execRegisterWrite_frozen ha hf, whenClocked_of_clocked hclk], rfl⟩

/-- Settles O16, by where each address of BAR0 sends its word: in service to a ring, a vector or the Mending Log, in safe state and under a
freeze of master 10 nowhere. -/
theorem registerWrites : Obligations.RegisterWrites := by
  unfold Obligations.RegisterWrites
  intro s v
  refine ⟨fun hf hs => ⟨registerWrite_baseLo hf hs v, registerWrite_baseHi hf hs v, registerWrite_base_enabled hf hs v,
      registerWrite_addrLo hf hs v, registerWrite_data hf hs v, fun _ => registerWrite_logPending hf hs v, registerWrite_logRdptr hf hs v,
      fun _ => registerWrite_unaligned hf hs v⟩, ?safe, ?frozen⟩
  case safe => exact fun hf hs _ ha => execRegisterWrite_safe ha hf hs v
  case frozen => exact fun hf _ => registerWrite_frozen hf v

end Sys2Proof.Machine
end

section
/-!
PROOFS. What the machine as a whole keeps (spec/01_architecture.md; R20, R23, R410, R501): a step runs the command at the front of the queue,
and the queue, the fuses and the memories change by the commands that name them only.
-/

namespace Sys2Proof.Machine

/-! ## A step (R20, R23, R57) -/

theorem step_of_pending {s : State} {c : Instr} {rest : List Instr} (h : s.pending = c :: rest) :
    step s = exec c { s with pending := rest } := by
  unfold step
  rw [h]

theorem step_of_idle {s : State} (h : s.pending = []) : step s = .next (tick s).fastServe := by
  unfold step
  rw [h]

/-- R23: TIME_CLK is one of the clocks that stop. -/
theorem tick_of_clocksLost {s : State} (h : s.boot.clocksLost = true) : tick s = s := by
  simp [tick, h]

theorem tick_eq_clk {s : State} (h : s.boot.clocksLost = false) : ∃ k : Clock, k.ticks = s.clk.ticks + 1 ∧ tick s = { s with clk := k } := by
  refine ⟨(tick s).clk, ?_, ?_⟩ <;> simp [tick, h]

theorem State.fastServe_of_clocksLost {s : State} (h : s.boot.clocksLost = true) : s.fastServe = s := by
  simp [State.fastServe, h]

/-- R57: with no request waiting the Fast Responder takes none. -/
theorem State.fastServe_of_fastOldest_none {s : State} (h : fastOldest s = none) : s.fastServe = s := by
  simp [State.fastServe, h]

/-- R23: with the clocks lost and no command waiting nothing moves. -/
theorem step_of_clocksLost {s : State} (h : s.boot.clocksLost = true) (hp : s.pending = []) : step s = .next s := by
  rw [step_of_idle hp, tick_of_clocksLost h, State.fastServe_of_clocksLost h]

/-- Settles O56: a step is `exec` of the front command, or a tick with the Fast Responder's turn. -/
theorem stepsRunTheFrontCommand : Obligations.StepsRunTheFrontCommand := by
  unfold Obligations.StepsRunTheFrontCommand
  refine fun s => ⟨fun c rest => step_of_pending, fun hp hclk => ?idle, fun hp hlost => step_of_clocksLost hlost hp⟩
  case idle =>
    obtain ⟨k, hk, htick⟩ := tick_eq_clk hclk
    refine ⟨k, hk, ?_, fun hf => ?_⟩
    · rw [step_of_idle hp, htick]
    · rw [step_of_idle hp, htick]
      exact congrArg Host.Outcome.next (State.fastServe_of_fastOldest_none hf)

/-! ## What a command keeps (R18, R25, R69, R75, R369, R410, R501) -/

/-- A command that reaches no memory and blows no fuse leaves the queue, the fuses and both memories as they are. -/
theorem exec_keepsTo_core4 {i : Instr} (s : State) (hm : touchesMemory i = false) (hf : i ≠ .fuseBlow) : keepsTo s.core4 (exec i s) := by
  cases i with
  | fuseBlow => exact absurd rfl hf
  | fabricTransaction | fabricTagReturned | beamCommandSlot | bar2Access | dmaDescriptorComplete => cases hm
  | powerOnReset | warmReset | powerDown | aonUndervoltage | activationInstant | trialBoltReadyTimeout | safeStateResetExpiry => cases hm
  | _ => simp [exec]

theorem exec_core4_of_next {i : Instr} {s t : State} (hm : touchesMemory i = false) (hf : i ≠ .fuseBlow) (h : exec i s = .next t) :
    t.core4 = s.core4 := by
  have hk := exec_keepsTo_core4 s hm hf
  rwa [h] at hk

/-- A command that may reach a memory keeps the canonical form, and the queue and the fuses as they are. -/
theorem exec_kept_of_touchesMemory {i : Instr} {s t : State} (hm : touchesMemory i = true) (h : exec i s = .next t) : Kept s t := by
  cases i with
  | fabricTransaction => exact execFabricTransaction_kept h
  | fabricTagReturned => exact execFabricTagReturned_kept h
  | beamCommandSlot => exact execBeamCommandSlot_kept h
  | bar2Access => exact execBar2Access_kept h
  | dmaDescriptorComplete => exact execDmaDescriptorComplete_kept h
  | powerOnReset => exact execPowerOnReset_kept h
  | warmReset => exact execWarmReset_kept h
  | powerDown => exact execPowerDown_kept h
  | aonUndervoltage => exact execAonUndervoltage_kept h
  | activationInstant => exact execActivationInstant_kept h
  | trialBoltReadyTimeout => exact execTrialBoltReadyTimeout_kept h
  | safeStateResetExpiry => exact execSafeStateResetExpiry_kept h
  | _ => cases hm

theorem exec_kept {i : Instr} {s t : State} (hf : i ≠ .fuseBlow) (h : exec i s = .next t) : Kept s t := by
  cases hm : touchesMemory i
  · exact .of_core4 (exec_core4_of_next hm hf h)
  · exact exec_kept_of_touchesMemory hm h

/-- R23, R57: one period of TIME_CLK and the Fast Responder's turn. -/
theorem tick_fastServe_core4 (s : State) : (tick s).fastServe.core4 = s.core4 := by
  rw [State.fastServe_core4]
  unfold tick
  split <;> rfl

theorem Kept.memoryCanonical {s t : State} (h : Kept s t) (hs : MemoryCanonical s) : MemoryCanonical t := by
  obtain ⟨-, -, hd, hr⟩ := h
  exact ⟨hd hs.1, hr hs.2⟩

/-- Settles O58, by the three kinds of step: the idle step, a fuse blow, and any other command (`exec_kept`). -/
theorem everyStepKeepsTheMemoriesCanonical : Obligations.EveryStepKeepsTheMemoriesCanonical := by
  unfold Obligations.EveryStepKeepsTheMemoriesCanonical
  intro s t h
  cases hp : s.pending with
  | nil =>
    rw [step_of_idle hp] at h
    cases h
    have hk : Kept s (tick s).fastServe := .of_core4 (tick_fastServe_core4 s)
    exact ⟨hk.memoryCanonical, hk.1.trans hp, fun _ => hk.2.1⟩
  | cons c rest =>
    rw [step_of_pending hp] at h
    by_cases hc : c = .fuseBlow
    · subst hc
      obtain ⟨hq, hd, hr⟩ := execFuseBlow_memories h
      exact ⟨fun hs => ⟨hd ▸ hs.1, hr ▸ hs.2⟩, hq, fun hne => absurd rfl hne⟩
    · have hk := exec_kept hc h
      exact ⟨hk.memoryCanonical, hk.1, fun _ => hk.2.1⟩

/-- Settles O59, by `exec_core4_of_next`; a fuse blow leaves all but the fuses. -/
theorem otherCommandsLeaveTheMemories : Obligations.OtherCommandsLeaveTheMemories := by
  unfold Obligations.OtherCommandsLeaveTheMemories
  intro i s t hm h
  by_cases hf : i = .fuseBlow
  · subst hf
    obtain ⟨hq, hd, hr⟩ := execFuseBlow_memories h
    exact ⟨hd, hr, hq, fun hne => absurd rfl hne⟩
  · have hk := exec_core4_of_next hm hf h
    simp only [State.core4, Prod.mk.injEq] at hk
    obtain ⟨hq, hfuses, hd, hr⟩ := hk
    exact ⟨hd, hr, hq, fun _ => hfuses⟩

/-! ## The set points of the DRAM (R30) -/

/-- Settles O41, set point by set point. -/
theorem sustainedBandwidth : Obligations.SustainedBandwidth := by
  unfold Obligations.SustainedBandwidth
  intro p rate h
  match p with
  | 0 | 1 | 2 =>
    obtain rfl := Option.some.inj h
    decide +kernel

end Sys2Proof.Machine
end

section
/-!
PROOFS. A channel's read entries (spec/01_architecture.md; R15, R16, R25, R27): which of them the units of a transaction take when its memory
port accepts it.
-/

namespace Sys2Proof.Machine


/-! ## What the waking of the Beam leaves (R375, R376) -/

theorem BeamChSt.setRank_reads (x : BeamChSt) (r : Nat) (k : RankSt) : (x.setRank r k).reads = x.reads := by
  unfold BeamChSt.setRank
  split <;> rfl

theorem unitQueued_reads (s : State) (c a : Nat) : (unitQueued s c a).reads = (s.bch c).reads := BeamChSt.setRank_reads _ _ _

theorem State.setBch_reads {s : State} {n : Nat} {x : BeamChSt} (h : x.reads = (s.bch n).reads) (c : Nat) :
    ((s.setBch n x).bch c).reads = (s.bch c).reads := by
  by_cases hn : n = c
  · subst hn
    rw [State.bch_setBch, h]
  · rw [State.bch_setBch_ne s n x hn]

/-- What no step of a fold over states changes, the fold does not change. -/
theorem foldl_view {α β : Type} {f : State → α → State} {view : State → β} (h : ∀ s x, view (f s x) = view s) (l : List α) (s : State) :
    view (l.foldl f s) = view s :=
  List.foldlRecOn (motive := fun u => view u = view s) l f rfl fun u hu x _ => (h u x).trans hu

theorem State.eachBch_fab (s : State) (f : BeamChSt → BeamChSt) : (s.eachBch f).fab = s.fab := by
  unfold State.eachBch
  exact foldl_view (view := State.fab) (by exact fun _ _ => rfl) _ s

theorem State.eachBch_reads (s : State) {f : BeamChSt → BeamChSt} (h : ∀ x, (f x).reads = x.reads) (c : Nat) :
    ((s.eachBch f).bch c).reads = (s.bch c).reads := by
  unfold State.eachBch
  exact foldl_view (view := fun u => (u.bch c).reads) (by exact fun _ _ => State.setBch_reads (h _) c) _ s

/-- R376: leaving self-refresh drops no transaction and no read entry. -/
theorem State.exitSelfRefresh_fab (s : State) : s.exitSelfRefresh.fab = s.fab := by
  unfold State.exitSelfRefresh
  split
  · rfl
  · simp [State.showBeam, State.eachBch_fab]

theorem State.raise_bch (s : State) (e : Ev) : (s.raise e).bch = s.bch := by simp only [State.raise_accessors]

theorem State.showBeam_bch (s : State) : s.showBeam.bch = s.bch := rfl

theorem State.exitSelfRefresh_reads (s : State) (c : Nat) : (s.exitSelfRefresh.bch c).reads = (s.bch c).reads := by
  unfold State.exitSelfRefresh
  split
  · rfl
  · extract_lets t beam awake u
    rw [State.raise_bch, State.showBeam_bch]
    have hu : (u.bch c).reads = (awake.bch c).reads := State.eachBch_reads awake (by exact fun _ => rfl) c
    exact hu

/-! ## Read entries in use (R25, R27) -/

theorem reservedUsed_congr {x y : BeamChSt} (h : x.reads = y.reads) : reservedUsed x = reservedUsed y := by
  unfold reservedUsed
  rw [h]

theorem unreservedUsed_congr {x y : BeamChSt} (h : x.reads = y.reads) : unreservedUsed x = unreservedUsed y := by
  unfold unreservedUsed
  rw [h]

/-- A read unit enters the queue as one entry, with the mark that it came with, whether its data were forwarded or not. -/
theorem BeamChSt.acceptRead_reads (x : BeamChSt) (e : ReadEntry) (cls : Nat) :
    ∃ g : ReadEntry, g.reserved = e.reserved ∧ (x.acceptRead e cls).1.reads = x.reads ++ [g] := by
  unfold BeamChSt.acceptRead
  split
  · exact ⟨e, rfl, rfl⟩
  · split
    · refine ⟨_, ?_, rfl⟩
      rfl
    · exact ⟨e, rfl, rfl⟩

theorem reservedUsed_acceptRead (x : BeamChSt) (e : ReadEntry) (cls : Nat) :
    reservedUsed (x.acceptRead e cls).1 = reservedUsed x + if e.reserved then 1 else 0 := by
  obtain ⟨g, hg, hreads⟩ := x.acceptRead_reads e cls
  unfold reservedUsed
  rw [hreads, ← hg]
  cases h : g.reserved <;> simp [h]

theorem unreservedUsed_acceptRead (x : BeamChSt) (e : ReadEntry) (cls : Nat) :
    unreservedUsed (x.acceptRead e cls).1 = unreservedUsed x + if e.reserved then 0 else 1 := by
  obtain ⟨g, hg, hreads⟩ := x.acceptRead_reads e cls
  unfold unreservedUsed
  rw [hreads, ← hg]
  cases h : g.reserved <;> simp [h]

theorem State.readTaken_bch (s : State) (c : Nat) (r : BeamChSt × Bool) : (s.readTaken c r).bch c = r.1 := by
  unfold State.readTaken
  split <;> exact State.bch_setBch s c r.1

/-- R27: whether the next unit of a read takes a reserved entry. -/
def takesReserved (t : Txn) (x : BeamChSt) : Bool := t.loomReference && decide (reservedUsed x < 64)

/-- R27: one unit of a read is taken into the queue: it holds a reserved entry or another. -/
theorem State.acceptUnit_held {t : Txn} (hw : t.wdata = none) (s : State) (n c a len : Nat) :
    reservedUsed ((s.acceptUnit n c t a len).bch c) = reservedUsed (s.bch c) + (if takesReserved t (s.bch c) then 1 else 0) ∧
    unreservedUsed ((s.acceptUnit n c t a len).bch c) = unreservedUsed (s.bch c) + (if takesReserved t (s.bch c) then 0 else 1) := by
  have hres := reservedUsed_congr (unitQueued_reads s c a)
  have hunres := unreservedUsed_congr (unitQueued_reads s c a)
  unfold State.acceptUnit takesReserved
  simp only [hw, State.readTaken_bch, reservedUsed_acceptRead, unreservedUsed_acceptRead, hres, hunres, and_self]

/-- The units of a transaction are taken into channel c's queue, one after another. -/
def State.acceptUnits (s : State) (n c : Nat) (t : Txn) (us : List (Nat × Nat)) : State :=
  us.foldl (fun s u => s.acceptUnit n c t u.1 u.2) s

theorem State.acceptUnits_cons (s : State) (n c : Nat) (t : Txn) (u : Nat × Nat) (us : List (Nat × Nat)) :
    s.acceptUnits n c t (u :: us) = (s.acceptUnit n c t u.1 u.2).acceptUnits n c t us := rfl

/-- R27: the units of a read that is no loom's reference take unreserved entries only. -/
theorem State.acceptUnits_held_plain {t : Txn} (hw : t.wdata = none) (ht : t.loomReference = false) (n c : Nat) (us : List (Nat × Nat))
    (s : State) :
    reservedUsed ((s.acceptUnits n c t us).bch c) = reservedUsed (s.bch c) ∧
    unreservedUsed ((s.acceptUnits n c t us).bch c) = unreservedUsed (s.bch c) + us.length := by
  induction us generalizing s with
  | nil => exact ⟨rfl, rfl⟩
  | cons u us ih =>
    obtain ⟨hr, hu⟩ := State.acceptUnit_held hw s n c u.1 u.2
    obtain ⟨ihr, ihu⟩ := ih (s.acceptUnit n c t u.1 u.2)
    simp only [takesReserved, ht, Bool.false_and, Bool.false_eq_true, if_false] at hr hu
    rw [State.acceptUnits_cons, ihr, ihu, hr, hu, List.length_cons]
    omega

/-- R27: the units of a loom's reference read take reserved entries while there are any, and others after them. -/
theorem State.acceptUnits_held_reference {t : Txn} (hw : t.wdata = none) (ht : t.loomReference = true) (n c : Nat) (us : List (Nat × Nat))
    (s : State) (h64 : reservedUsed (s.bch c) ≤ 64) :
    reservedUsed ((s.acceptUnits n c t us).bch c) = min 64 (reservedUsed (s.bch c) + us.length) ∧
    reservedUsed ((s.acceptUnits n c t us).bch c) + unreservedUsed ((s.acceptUnits n c t us).bch c)
      = reservedUsed (s.bch c) + unreservedUsed (s.bch c) + us.length := by
  induction us generalizing s with
  | nil => exact ⟨(Nat.min_eq_right h64).symm, rfl⟩
  | cons u us ih =>
    obtain ⟨hr, hu⟩ := State.acceptUnit_held hw s n c u.1 u.2
    simp only [takesReserved, ht, Bool.true_and, decide_eq_true_eq] at hr hu
    obtain ⟨ihr, ihs⟩ := ih (s.acceptUnit n c t u.1 u.2) (by split at hr <;> omega)
    rw [State.acceptUnits_cons, ihs, ihr, List.length_cons]
    by_cases hfree : reservedUsed (s.bch c) < 64
    · rw [if_pos hfree] at hr hu
      omega
    · rw [if_neg hfree] at hr hu
      omega

/-! ## A read at its memory port (R15, R16, R27) -/

/-- R27: the entries that a read finds are those in use. -/
theorem BeamChSt.room_congr {x y : BeamChSt} (h : x.reads = y.reads) {t : Txn} (hw : t.wdata = none) : x.room t = y.room t := by
  simp only [BeamChSt.room, hw, reservedUsed_congr h, unreservedUsed_congr h]

theorem BeamChSt.room_plain {x : BeamChSt} {t : Txn} (hw : t.wdata = none) (ht : t.loomReference = false) :
    x.room t = decide ((unitsOf t.addr t.len).length ≤ 128 - unreservedUsed x) := by
  simp [BeamChSt.room, hw, ht]

theorem BeamChSt.room_reference {x : BeamChSt} {t : Txn} (hw : t.wdata = none) (ht : t.loomReference = true) :
    x.room t = decide ((unitsOf t.addr t.len).length ≤ (64 - reservedUsed x) + (128 - unreservedUsed x)) := by
  simp [BeamChSt.room, hw, ht]

/-- R27: only looms have reference reads. -/
theorem Txn.loomReference_of_not_loom {t : Txn} (h : t.master < 11 ∨ 27 ≤ t.master) : t.loomReference = false := by
  simp only [Txn.loomReference, Bool.and_eq_false_iff, decide_eq_false_iff_not]
  omega

/-- R15, R16: a transaction that must come after one that its port has not accepted stays as it is. -/
theorem beamRequest_held {s : State} {n : Nat} {f : Flight} (hf : AMap.find? s.fab.inflight n = some f) (ho : orderHolds s n f.txn = true) :
    exec (.beamRequest n) s = .next s := by
  show execBeamRequest n s = .next s
  simp [execBeamRequest, hf, ho]

section Port

variable {s : State} {n : Nat} {f : Flight} (hf : AMap.find? s.fab.inflight n = some f) (hacc : f.accepted = false)
  (hdram : f.txn.target = .dram) (hread : f.txn.wdata = none) (hfail : s.beam.failed = false) (htrain : s.beam.trained = true)
  (hrange : outOfRange s f.txn.addr = false) (hord : orderHolds s n f.txn = false)
include hf hacc hdram hread hfail htrain hrange hord

/-- A read whose turn has come at a DRAM that serves it, where the channel has the entries. -/
theorem beamRequest_accepts (hroom : (s.bch (beamChannel f.txn.addr)).room f.txn = true) (hclk : s.boot.clocksLost = false) :
    exec (.beamRequest n) s = .next ((s.exitSelfRefresh.beamBusy.acceptUnits n (beamChannel f.txn.addr) f.txn
      (unitsOf f.txn.addr f.txn.len)).setFlight n { f with accepted := true, done := false }) := by
  have hroom' : (s.exitSelfRefresh.beamBusy.bch (beamChannel f.txn.addr)).room f.txn = true :=
    (BeamChSt.room_congr (s.exitSelfRefresh_reads _) hread).trans hroom
  show execBeamRequest n s = _
  rw [execBeamRequest, whenClocked_of_clocked hclk]
  simp [hf, hacc, hdram, hread, hfail, htrain, hrange, hord, hroom', State.acceptUnits]

/-- The same where the channel has not the entries. -/
theorem beamRequest_waits (hroom : (s.bch (beamChannel f.txn.addr)).room f.txn = false) (hclk : s.boot.clocksLost = false) :
    exec (.beamRequest n) s = .next s.exitSelfRefresh.beamBusy := by
  have hroom' : (s.exitSelfRefresh.beamBusy.bch (beamChannel f.txn.addr)).room f.txn = false :=
    (BeamChSt.room_congr (s.exitSelfRefresh_reads _) hread).trans hroom
  show execBeamRequest n s = _
  rw [execBeamRequest, whenClocked_of_clocked hclk]
  simp [hf, hacc, hdram, hfail, htrain, hrange, hord, hroom']

end Port

/-- Settles O42: a read that has its turn is accepted by `beamRequest_accepts`, and its units take the entries that
`State.acceptUnits_held_plain` and `State.acceptUnits_held_reference` name, or waits by `beamRequest_waits`. -/
theorem reservedReadEntries : Obligations.ReservedReadEntries := by
  unfold Obligations.ReservedReadEntries
  intro s n f hf hacc hdram hread hfail htrain hrange c k held
  have hreads := s.exitSelfRefresh_reads c
  have hr := reservedUsed_congr hreads
  have hu := unreservedUsed_congr hreads
  refine ⟨beamRequest_held hf, Txn.loomReference_of_not_loom, fun hord ht hk hclk => ?plain, fun hord ht h64 hk hclk => ?reference,
    fun hk hord hclk => ?waits⟩
  case plain =>
    have hroom : (s.bch c).room f.txn = true := (BeamChSt.room_plain hread ht).trans (decide_eq_true hk)
    obtain ⟨hr', hu'⟩ := State.acceptUnits_held_plain hread ht n c (unitsOf f.txn.addr f.txn.len) s.exitSelfRefresh.beamBusy
    exact ⟨_, beamRequest_accepts hf hacc hdram hread hfail htrain hrange hord hroom hclk,
      Prod.ext (hr'.trans hr) (hu'.trans (congrArg (· + k) hu)), _, AMap.find?_put_self _ _ _, rfl⟩
  case reference =>
    have hroom : (s.bch c).room f.txn = true := (BeamChSt.room_reference hread ht).trans (decide_eq_true hk)
    obtain ⟨hr', hs'⟩ := State.acceptUnits_held_reference hread ht n c (unitsOf f.txn.addr f.txn.len) s.exitSelfRefresh.beamBusy
      (Nat.le_trans (Nat.le_of_eq hr) h64)
    refine ⟨_, beamRequest_accepts hf hacc hdram hread hfail htrain hrange hord hroom hclk, hr'.trans ?_, hs'.trans ?_, _,
      AMap.find?_put_self _ _ _, rfl⟩
    · exact congrArg (fun r => min 64 (r + k)) hr
    · have hsum : reservedUsed (s.exitSelfRefresh.bch c) + unreservedUsed (s.exitSelfRefresh.bch c) = (held s).1 + (held s).2 := by
        rw [hr, hu]
      exact congrArg (· + k) hsum
  case waits =>
    have hroom : (s.bch c).room f.txn = false := by
      obtain ⟨ht, hlt⟩ | ⟨ht, hlt⟩ := hk
      · exact (BeamChSt.room_plain hread ht).trans (decide_eq_false (Nat.not_le.mpr hlt))
      · exact (BeamChSt.room_reference hread ht).trans (decide_eq_false (Nat.not_le.mpr hlt))
    exact ⟨_, beamRequest_waits hf hacc hdram hread hfail htrain hrange hord hroom hclk, hreads,
      (congrArg (fun fab => AMap.find? fab.inflight n) s.exitSelfRefresh_fab).trans hf⟩

end Sys2Proof.Machine
end

section
/-!
PROOFS. Writes of the SRAM over the Fabric (spec/01_architecture.md; R14, R18, R24, log entry 2): what a run of bytes leaves of a memory in
canonical form, and a write that does not read back where the SRAM stands out of that form.
-/

namespace Sys2Proof.Machine


/-! ## A memory in canonical form -/

theorem State.threadWrite_fab_sram (s : State) (master t off v : Nat) :
    (s.threadWrite master t off v).fab = s.fab ∧ (s.threadWrite master t off v).sram = s.sram := by
  unfold State.threadWrite
  split <;> exact ⟨rfl, rfl⟩

theorem State.sramWrite_fab (s : State) (master a : Nat) (b : Byte) : (s.sramWrite master a b).fab = s.fab := by
  unfold State.sramWrite
  split
  · rfl
  · split
    · exact (State.threadWrite_fab_sram s _ _ _ _).1
    · rfl

theorem plainSram_congr {s t : State} (h : t.fab = s.fab) : plainSram t = plainSram s := by
  funext a
  simp only [plainSram, h]

/-- R24: only a plain byte is written as a byte. -/
theorem State.sramWrite_sram (s : State) (master a : Nat) (b : Byte) :
    (s.sramWrite master a b).sram = if plainSram s a then Memory.write s.sram a b else s.sram := by
  unfold State.sramWrite
  split
  · rename_i hfixed
    rw [if_neg (by grind [plainSram])]
  · rename_i hopen
    split
    · rename_i hthread
      rw [if_neg (by simp [plainSram, hthread])]
      exact (State.threadWrite_fab_sram s _ _ _ _).2
    · rename_i hplain
      rw [if_pos (by grind [plainSram])]

theorem State.sramWrite_read {s : State} (h : Memory.wf s.sram = true) (master a x : Nat) (b : Byte) :
    Memory.read (s.sramWrite master a b).sram x = if x = a ∧ plainSram s a = true then b else Memory.read s.sram x := by
  rw [State.sramWrite_sram]
  by_cases hp : plainSram s a = true
  · by_cases hx : x = a
    · rw [hx, if_pos hp, if_pos ⟨rfl, hp⟩, Memory.read_write_self s.sram a b h]
    · rw [if_pos hp, if_neg fun k => hx k.1, Memory.read_write_ne s.sram b (Ne.symm hx)]
  · rw [if_neg hp, if_neg fun k => hp k.2]

/-- A run of bytes reads back from a memory in canonical form. -/
theorem State.sramWrites_read {s : State} (h : Memory.wf s.sram = true) (master a : Nat) (d : Bytes) (x : Nat) :
    Memory.read (s.sramWrites master a d).sram x =
      if a ≤ x ∧ x < a + d.length ∧ plainSram s x = true then d.getD (x - a) 0 else Memory.read s.sram x := by
  induction d generalizing s a with
  | nil => simp [State.sramWrites]; omega
  | cons b d ih =>
    have hwf : Memory.wf (s.sramWrite master a b).sram = true := by
      obtain ⟨-, -, -, hsram⟩ := s.sramWrite_kept master a b
      exact hsram h
    rw [State.sramWrites, ih hwf, State.sramWrite_read h, plainSram_congr (s.sramWrite_fab master a b), List.length_cons]
    obtain hlt | rfl | hgt := Nat.lt_trichotomy x a
    · rw [if_neg (by omega), if_neg (by omega), if_neg (by omega)]
    · rw [if_neg (by omega)]
      simp
    · obtain ⟨k, rfl⟩ : ∃ k, x = a + 1 + k := ⟨x - (a + 1), by omega⟩
      have hk : a + 1 + k - a = k + 1 := by omega
      have hiff : (a + 1 ≤ a + 1 + k ∧ a + 1 + k < a + 1 + d.length ∧ plainSram s (a + 1 + k) = true) ↔
          (a ≤ a + 1 + k ∧ a + 1 + k < a + (d.length + 1) ∧ plainSram s (a + 1 + k) = true) :=
        ⟨fun ⟨_, _, hp⟩ => ⟨by omega, by omega, hp⟩, fun ⟨_, _, hp⟩ => ⟨by omega, by omega, hp⟩⟩
      rw [if_neg (c := a + 1 + k = a ∧ _) (by omega), hk, Nat.add_sub_cancel_left, List.getD_cons_succ]
      simp only [hiff]

theorem txnForm_wdata_length {t : Txn} (h : txnForm t = true) {d : Bytes} (hd : t.wdata = some d) : d.length = t.len := by
  simp only [txnForm, hd, Bool.and_eq_true, beq_iff_eq] at h
  exact h.2

/-- R18, R24: what O17 says of a write of the SRAM, where the memories stand in their canonical form, as every step keeps them (O58). -/
theorem fabricTransaction_writes_canonical_sram {s : State} (hc : MemoryCanonical s) {t : Txn} {d : Bytes} (hform : txnForm t = true)
    (hplace : 2 ≤ t.master ∨ txnPlace t = true) (hfrozen : s.isFrozen t.master = false) (hstall : tileStalls s t = false)
    (htag : tagsHeld s t.master < tagShare t.master) (hwait : (s.fab.stalled.any fun u => u.master == t.master) = false)
    (hpass : passes s t = true) (hsram : t.target = .sram) (hd : t.wdata = some d) : Completes (.fabricTransaction t) s fun u =>
      ∀ a, Memory.read u.sram a =
        if t.addr ≤ a ∧ a < t.addr + t.len ∧ plainSram s a = true then d.getD (a - t.addr) 0 else Memory.read s.sram a := fun hclk => by
  have hissue : (s.issue t).sram = (s.sramWrites t.master t.addr d).sram := by
    simp [State.issue, State.reach, hpass, hsram, hd]
  refine ⟨s.issue t, ?_, fun a => ?_⟩
  · have hplace' : (decide (t.master < 2) && !txnPlace t) = false := by
      obtain h | h := hplace
      · simp [Nat.not_lt.mpr h]
      · simp [h]
    show execFabricTransaction t s = _
    rw [execFabricTransaction, whenClocked_of_clocked hclk]
    simp only [hform, hplace', hfrozen, hstall, hwait, Nat.not_le.mpr htag, decide_false, Bool.not_true, Bool.or_false, Bool.false_eq_true,
      if_false]
  · rw [hissue, State.sramWrites_read hc.2, txnForm_wdata_length hform hd]

/-! ## A memory out of canonical form -/

/-- A device whose SRAM lists address 0 behind address 1, out of the canonical form: a write of 0 to address 0 finds nothing to take away before
address 1, and the value listed behind it stays. -/
def unsortedSram : State := { State.reset with sram := [(1, 1), (0, 7)] }

/-- Master 0, which no window limits, writes one byte of 0 to address 0 of the SRAM. -/
def zeroWrite : Txn := { master := 0, stream := 0, target := .sram, addr := 0, len := 1, wdata := some [0] }

theorem exec_zeroWrite : exec (.fabricTransaction zeroWrite) unsortedSram = .next (unsortedSram.issue zeroWrite) := rfl

theorem issue_zeroWrite_sram : (unsortedSram.issue zeroWrite).sram = [(1, 1), (0, 7)] := rfl

/-- Refutes O17: its clause on a write of the SRAM asks for no canonical form of the memory (see `fabricTransaction_writes_canonical_sram`). In
`unsortedSram` the write of 0 to address 0 is well formed, passes and completes, and the byte still reads as 7. -/
theorem not_fabricTransactionsAndTags : ¬ Obligations.FabricTransactionsAndTags := by
  unfold Obligations.FabricTransactionsAndTags
  rintro ⟨⟨-, -, -, -, -, htaken⟩, -⟩
  obtain ⟨-, -, hwrite⟩ := htaken unsortedSram zeroWrite (by decide) (.inr rfl) (by decide) (by decide) (by decide) (by decide) (by decide)
  obtain ⟨u, hu, -, -, hread⟩ := hwrite [0] rfl rfl rfl
  rw [exec_zeroWrite] at hu
  cases hu
  have hzero := hread 0
  rw [issue_zeroWrite_sram] at hzero
  revert hzero
  decide

end Sys2Proof.Machine
end

section
/-!
PROOFS. Device safe state (spec/01_architecture.md, R23; R403, R434, R461, R464 to R466): what the sequencer's entries, the freeze of the masters
as one group and the objects on show leave of the parts that the state of a device in safe state is told by.
-/

namespace Sys2Proof.Machine


/-! ## Bits of a mask -/

theorem maskOf_succ (n : Nat) (p : Nat → Bool) : maskOf (n + 1) p = maskOf n p + if p n then 2 ^ n else 0 := by
  simp [maskOf, List.range_succ]

theorem maskOf_lt (n : Nat) (p : Nat → Bool) : maskOf n p < 2 ^ n := by
  induction n with
  | zero => exact Nat.one_pos
  | succ n ih =>
    rw [maskOf_succ, Nat.pow_succ]
    split <;> omega

theorem bit_eq_testBit (v i : Nat) : bit v i = v.testBit i := Nat.testBit_eq_decide_div_mod_eq.symm

theorem bit_maskOf {n m : Nat} (p : Nat → Bool) (h : m < n) : bit (maskOf n p) m = p m := by
  induction n with
  | zero => exact absurd h (Nat.not_lt_zero m)
  | succ n ih =>
    have hlt := maskOf_lt n p
    rw [bit_eq_testBit] at ih ⊢
    rw [maskOf_succ, Nat.add_comm]
    obtain hm | rfl : m < n ∨ m = n := by omega
    · split
      · rw [Nat.testBit_two_pow_add_gt hm, ih hm]
      · rw [Nat.zero_add, ih hm]
    · cases hp : p m
      · simpa using Nat.testBit_lt_two_pow hlt
      · simp [Nat.testBit_two_pow_add_eq, Nat.testBit_lt_two_pow hlt]

/-! ## The parts that device safe state is told by -/

/-- The parts of a state that tell of device safe state: the log's own record of it with the entries, the committed configuration, the Spindle,
the Fabric and the Bolt cores. -/
structure SafeParts where
  safe : Bool
  cause : Nat
  since : Nat
  entries : AMap LogEntry
  newest : Nat
  conf : AMap Val
  spindle : Bool
  clocksLost : Bool
  fab : FabSt
  cores : AMap CoreSt

/-- These parts of a state. -/
def State.safeParts (s : State) : SafeParts where
  safe := s.log.safe
  cause := s.log.safeCause
  since := s.log.safeSince
  entries := s.log.entries
  newest := s.log.newest
  conf := s.conf
  spindle := s.boot.spindle
  clocksLost := s.boot.clocksLost
  fab := s.fab
  cores := s.shtl.cores

theorem cores_of_safeParts {s t : State} (h : s.safeParts = t.safeParts) : s.shtl.cores = t.shtl.cores := congrArg SafeParts.cores h

@[simp] theorem State.raise_safeParts (s : State) (e : Ev) : (s.raise e).safeParts = s.safeParts := by
  simp only [State.safeParts, State.raise_fields]

@[simp] theorem State.signal_safeParts (s : State) (e : Ev) : (s.signal e).1.safeParts = s.safeParts := by
  simp only [State.safeParts, State.still_fields (State.signal_still s e)]

@[simp] theorem State.setN_safeParts (s : State) (k v : Nat) : (s.setN k v).safeParts = s.safeParts := rfl

theorem State.setN_unless_safeParts (s : State) (p : Prop) [Decidable p] (k v : Nat) : (if p then s else s.setN k v).safeParts = s.safeParts := by
  split <;> rfl

@[simp] theorem State.bump_safeParts (s : State) (k : Nat) : (s.bump k).safeParts = s.safeParts := rfl

theorem foldl_safeParts {α : Type} {f : State → α → State} (h : ∀ s x, (f s x).safeParts = s.safeParts) (l : List α) (s : State) :
    (l.foldl f s).safeParts = s.safeParts := foldl_view h l s

@[simp] theorem State.follow_safeParts (s : State) : s.follow.safeParts = s.safeParts := by
  unfold State.follow
  dsimp only
  split
  · rfl
  · rw [State.raise_safeParts, State.setN_safeParts]

@[simp] theorem State.showBeam_safeParts (s : State) : s.showBeam.safeParts = s.safeParts := rfl

@[simp] theorem State.showLooms_safeParts (s : State) : s.showLooms.safeParts = s.safeParts := by
  unfold State.showLooms
  simp only [State.setN_safeParts]
  rw [foldl_safeParts, foldl_safeParts]
  · exact fun s c => State.setN_unless_safeParts s _ _ _
  · intro s l
    rw [State.setN_unless_safeParts, State.setN_unless_safeParts]

@[simp] theorem State.loomState_safeParts (s : State) (l st : Nat) : (s.loomState l st).safeParts = s.safeParts := by
  unfold State.loomState
  dsimp only
  split <;> rfl

@[simp] theorem State.qualAbandon_safeParts (s : State) (l : Nat) : (s.qualAbandon l).safeParts = s.safeParts := by
  unfold State.qualAbandon
  split
  · rfl
  · rw [State.raise_safeParts]
    rfl

@[simp] theorem State.loomInGroup_safeParts (s : State) (l : Nat) : (s.loomInGroup l).safeParts = s.safeParts := by
  unfold State.loomInGroup
  split
  · rfl
  · rw [State.loomState_safeParts, State.qualAbandon_safeParts]

@[simp] theorem State.abandonTransfer_safeParts (s : State) : s.abandonTransfer.safeParts = s.safeParts := by
  unfold State.abandonTransfer
  split
  · rfl
  · simp only [State.raise_safeParts, State.bump_safeParts, State.setN_safeParts]
    rfl

/-! ## The freeze of the masters as one group (R438, R464) -/

theorem State.coreFrozen_safeParts (s : State) (c : Nat) :
    (s.coreFrozen c).safeParts = { s.safeParts with cores := (s.coreFrozen c).shtl.cores } := by
  unfold State.coreFrozen State.leaveCore
  split
  · rfl
  · rename_i t h
    simp only [h]
    rfl

/-- R438: no thread runs on a frozen core; what runs on the others goes on. -/
theorem State.coreFrozen_running (s : State) (c d : Nat) :
    ((s.coreFrozen c).core d).running = if d = c then none else (s.core d).running := by
  unfold State.coreFrozen State.leaveCore
  split
  · rename_i h
    split
    · rename_i hd
      rw [hd, h]
    · rfl
  · rename_i t h
    simp only [h, State.cancelled, State.setThread_accessors]
    split
    · rename_i hd
      subst hd
      rw [State.core_setCore]
    · rename_i hd
      rw [State.core_setCore_ne _ _ _ (Ne.symm hd), State.setThread_accessors]

/-- R438: several cores freeze. -/
def State.coresFrozen (s : State) (cs : List Nat) : State := cs.foldl (fun s c => s.coreFrozen c) s

theorem State.coresFrozen_safeParts (s : State) (cs : List Nat) :
    (s.coresFrozen cs).safeParts = { s.safeParts with cores := (s.coresFrozen cs).shtl.cores } := by
  induction cs generalizing s with
  | nil => rfl
  | cons c cs ih =>
    refine (ih (s.coreFrozen c)).trans ?_
    rw [State.coreFrozen_safeParts]
    rfl

theorem State.coresFrozen_running (s : State) (cs : List Nat) {d : Nat} (h : d ∈ cs ∨ (s.core d).running = none) :
    ((s.coresFrozen cs).core d).running = none := by
  induction cs generalizing s with
  | nil => exact h.resolve_left List.not_mem_nil
  | cons c cs ih =>
    refine ih (s.coreFrozen c) ?_
    rw [State.coreFrozen_running]
    by_cases hd : d = c
    · exact .inr (if_pos hd)
    · rw [if_neg hd]
      exact h.imp_left fun hm => (List.mem_cons.mp hm).resolve_left hd

/-- R464: the Fabric once the masters are frozen as one group. -/
def groupFab (f : FabSt) : FabSt :=
  { f with frozen := maskOf 40 fun m => bit f.frozen m || !keptInSafe m
           freezes := f.freezes.filter fun e => keptInSafe e.1
           inflight := f.inflight.filter fun t => keptInSafe t.2.txn.master
           stalled := f.stalled.filter fun t => keptInSafe t.master }

theorem State.freezeGroup_safeParts (s : State) :
    s.freezeGroup.safeParts = { s.safeParts with fab := groupFab s.fab, cores := s.freezeGroup.shtl.cores } ∧
    ∀ c, c < 8 → (s.freezeGroup.core c).running = none := by
  have h : s.freezeGroup.safeParts = (State.coresFrozen { s with fab := groupFab s.fab } (List.range 8)).safeParts := by
    unfold State.freezeGroup State.coresFrozen groupFab
    extract_lets mask f u v
    rw [State.showLooms_safeParts, foldl_safeParts State.loomInGroup_safeParts]
    exact State.abandonTransfer_safeParts _
  have hcores : s.freezeGroup.shtl.cores = (State.coresFrozen { s with fab := groupFab s.fab } (List.range 8)).shtl.cores :=
    cores_of_safeParts h
  refine ⟨?_, fun c hc => ?_⟩
  · rw [h, State.coresFrozen_safeParts, hcores]
    rfl
  · have hrun := State.coresFrozen_running { s with fab := groupFab s.fab } (List.range 8) (.inl (List.mem_range.mpr hc))
    unfold State.core at hrun ⊢
    rwa [hcores]

/-! ## The sequencer's entries (R458, R466, R470) -/

/-- R458 to R460: the place of an entry keeps the severity of a Fatal request. -/
theorem placeOf_severity (s : State) {r : LogReq} (h : r.severity = 4) : (placeOf s r).severity = 4 := by
  unfold placeOf
  repeat' split
  all_goals simp [h]

/-- R470: the place adds flags below FromAon only: Nested, Action and Escalated. -/
theorem placeOf_flags (s : State) {r : LogReq} (h : r.flags % 16 = 0) : (placeOf s r).flags / 16 = r.flags / 16 := by
  unfold placeOf flagAction flagEscalated flagNested
  repeat' split
  all_goals simp only <;> omega

/-- Of the parts that tell of safe state, t may differ from s in the log's entries only. -/
def EntriesOnly (s t : State) : Prop := t.safeParts = { s.safeParts with entries := t.log.entries, newest := t.log.newest }

theorem EntriesOnly.of_eq {s t : State} (h : t.safeParts = s.safeParts) : EntriesOnly s t := by
  unfold EntriesOnly
  rw [← h]
  rfl

theorem EntriesOnly.trans {s t u : State} (h : EntriesOnly s t) (k : EntriesOnly t u) : EntriesOnly s u := by
  unfold EntriesOnly at *
  rw [k, h]

/-- The newest entry of the Mending Log, as a reading of the parts. -/
def SafeParts.newestEntry (p : SafeParts) : Option LogEntry := AMap.find? p.entries (p.newest % 8192)

/-- R468, R470: the entry that is written is the newest one. -/
theorem State.putEntry_newest (s : State) (r : LogReq) (p : Place) : EntriesOnly s (s.putEntry r p) ∧
    ∃ e : LogEntry, (s.putEntry r p).safeParts.newestEntry = some e ∧
      e.source = r.source ∧ e.code = r.code ∧ e.severity = p.severity ∧ e.flags = p.flags := by
  unfold State.putEntry
  extract_lets n wraps e h l written noted counted
  have hnoted : noted.safeParts = written.safeParts := by
    simp only [noted]
    split <;> rfl
  have hlast : (if wraps = true then counted.raise { src := 628 } else counted).safeParts = written.safeParts := by
    rw [← hnoted]
    split
    · exact State.raise_safeParts counted _
    · rfl
  generalize (if wraps = true then counted.raise { src := 628 } else counted) = t at hlast
  constructor
  · show t.safeParts = { s.safeParts with entries := t.safeParts.entries, newest := t.safeParts.newest }
    rw [hlast]
    rfl
  · refine ⟨e, ?_, rfl, rfl, rfl, rfl⟩
    rw [hlast]
    exact AMap.find?_put_self _ _ _

/-- The flag that the sequencer adds to its own entries (R466). -/
def aonFlag (aon : Bool) : Nat := if aon then flagFromAon else 0

theorem Ev.request_flags (ev : Ev) (s : State) (aon : Bool) :
    ((ev.request s).flags + aonFlag aon) % 16 = 0 ∧ bit ((ev.request s).flags + aonFlag aon) 4 = aon := by
  show (timeValidFlag s + _) % 16 = 0 ∧ bit (timeValidFlag s + _) 4 = aon
  unfold timeValidFlag
  cases s.log.timeValid <;> cases aon <;> decide

/-- R466: the sequencer's entry of an event moves the log's entries only. -/
theorem State.entryNow_entriesOnly (s : State) (ev : Ev) (aon : Nat) : EntriesOnly s (s.entryNow ev aon).1 := by
  unfold State.entryNow
  extract_lets u r r' p
  have hu : EntriesOnly s u := .of_eq (State.signal_safeParts s ev)
  exact hu.trans (u.putEntry_newest r' p).1

/-- R466: the entry of a Fatal event that the sequencer writes at once. -/
theorem State.entryNow_newest (s : State) (ev : Ev) (aon : Bool) (h4 : ev.severity = 4) :
    EntriesOnly s (s.entryNow ev (aonFlag aon)).1 ∧
    ∃ e : LogEntry, (s.entryNow ev (aonFlag aon)).1.safeParts.newestEntry = some e ∧
      e.source = ev.src ∧ e.code = ev.code ∧ e.severity = 4 ∧ bit e.flags 4 = aon := by
  unfold State.entryNow
  extract_lets u r r' p
  obtain ⟨hlow, hbit⟩ := ev.request_flags u aon
  obtain ⟨-, e, hnew, hsrc, hcode, hsev, hflags⟩ := u.putEntry_newest r' p
  refine ⟨State.entryNow_entriesOnly s ev _, e, hnew, hsrc, hcode, hsev.trans (placeOf_severity u h4), ?_⟩
  have hp : p.flags / 16 = r'.flags / 16 := placeOf_flags u hlow
  rw [hflags, ← hbit]
  show (p.flags / 16 % 2 == 1) = (r'.flags / 16 % 2 == 1)
  rw [hp]

/-! ## The entry into device safe state (R464 to R466) -/

/-- R457: DeviceState follows: 6 while the device is in safe state. -/
theorem State.follow_deviceState {s : State} (h : s.log.safe = true) : s.follow.nat K.fastDeviceState = 6 := by
  have hd : deviceState s = 6 := by simp [deviceState, h]
  unfold State.follow
  rw [hd]
  dsimp only
  split
  · assumption
  · simp only [State.raise_accessors, State.nat_setN]

/-- R466: the causes that the sequencer enters by itself. -/
def aonCause (cause : Nat) : Bool := decide (cause = 2) || decide (cause = 3) || decide (cause = 4)

/-- R464 to R466: what the entry of s into device safe state by a cause leaves. -/
structure EntersSafe (s : State) (cause : Nat) (t : State) : Prop where
  parts : t.safeParts = { s.safeParts with safe := true, cause := cause, since := s.clk.ticks, fab := groupFab s.fab,
                                           entries := t.log.entries, newest := t.log.newest, cores := t.shtl.cores }
  running : ∀ c, c < 8 → (t.core c).running = none
  shown : t.nat K.fastDeviceState = 6
  entry : ∃ e, t.safeParts.newestEntry = some e ∧ e.source = 2 ∧ e.code = cause ∧ e.severity = 4 ∧ bit e.flags 4 = aonCause cause

/-- The parts once the entry into safe state is written, the masters are frozen and DeviceState follows. -/
theorem EntersSafe.of_written {s written last : State} {cause : Nat} {e : LogEntry}
    (hwritten : written.safeParts = { s.safeParts with safe := true, cause := cause, since := s.clk.ticks,
                                                       entries := written.log.entries, newest := written.log.newest })
    (he : written.safeParts.newestEntry = some e)
    (hentry : e.source = 2 ∧ e.code = cause ∧ e.severity = 4 ∧ bit e.flags 4 = aonCause cause)
    (hlast : last.safeParts = written.freezeGroup.safeParts) : EntersSafe s cause last.follow := by
  obtain ⟨hgroup, hrun⟩ := written.freezeGroup_safeParts
  generalize written.freezeGroup = frozen at hgroup hrun hlast
  have hfab : written.fab = s.fab := congrArg SafeParts.fab hwritten
  rw [hgroup, hwritten, hfab] at hlast
  have hshown := State.follow_deviceState (congrArg SafeParts.safe hlast)
  rw [← State.follow_safeParts] at hlast
  generalize last.follow = t at hlast hshown
  have hentries : t.log.entries = written.log.entries := congrArg SafeParts.entries hlast
  have hnewest : t.log.newest = written.log.newest := congrArg SafeParts.newest hlast
  have hcores : t.shtl.cores = frozen.shtl.cores := congrArg SafeParts.cores hlast
  refine ⟨?_, fun c hc => ?_, hshown, e, ?_, hentry⟩
  · rw [hlast, hentries, hnewest, hcores]
  · have hnone := hrun c hc
    unfold State.core at hnone ⊢
    rwa [hcores]
  · rw [hwritten] at he
    rw [hlast]
    exact he

theorem State.enterSafe_enters {s : State} (h : s.log.safe = false) (cause : Nat) (own : Option Ev) (at_ : Option (Nat × Nat)) :
    EntersSafe s cause (s.enterSafe cause own at_) := by
  unfold State.enterSafe
  rw [if_neg (by simp [h])]
  extract_lets l marked aon
  have haon : aon = aonFlag (aonCause cause) := rfl
  clear_value aon
  subst haon
  split
  rename_i caused place hown
  have hcaused : EntriesOnly marked caused := by
    cases own with
    | none =>
      cases hown
      exact .of_eq rfl
    | some ev =>
      cases hown
      exact State.entryNow_entriesOnly marked ev _
  clear hown
  extract_lets written frozen beam shown told log
  obtain ⟨hwritten, e, he, hentry⟩ := caused.entryNow_newest { src := 2, code := cause, action := place } (aonCause cause) rfl
  refine EntersSafe.of_written (hcaused.trans hwritten) he hentry ?_
  show _ = frozen.safeParts
  clear_value frozen
  have hshown : shown.safeParts = frozen.safeParts := State.showBeam_safeParts _
  have htold : told.safeParts = shown.safeParts := by
    simp only [told]
    split
    · exact State.raise_safeParts shown _
    · rfl
  rw [← hshown, ← htold]
  split <;> rfl

theorem EntersSafe.fab_eq {s t : State} {cause : Nat} (h : EntersSafe s cause t) : t.fab = groupFab s.fab := congrArg SafeParts.fab h.parts

theorem EntersSafe.spindle_eq {s t : State} {cause : Nat} (h : EntersSafe s cause t) :
    t.boot.spindle = s.boot.spindle ∧ t.boot.clocksLost = s.boot.clocksLost :=
  ⟨congrArg SafeParts.spindle h.parts, congrArg SafeParts.clocksLost h.parts⟩

/-- R464: the masters that the Fabric of the group shows frozen. -/
theorem isFrozen_of_groupFab {s t : State} (h : t.fab = groupFab s.fab) {m : Nat} (hm : m < 40) :
    t.isFrozen m = (s.isFrozen m || !keptInSafe m) := by
  unfold State.isFrozen
  rw [h]
  exact bit_maskOf _ hm

theorem EntersSafe.safeEntered {s t : State} {cause : Nat} (h : EntersSafe s cause t) : SafeEntered s cause (aonCause cause) t := by
  refine ⟨congrArg SafeParts.safe h.parts, congrArg SafeParts.cause h.parts, congrArg SafeParts.since h.parts,
    fun m hm => isFrozen_of_groupFab h.fab_eq hm, fun x hx => ?_, h.running, h.shown, congrArg SafeParts.conf h.parts, h.entry⟩
  rw [h.fab_eq] at hx
  exact (List.mem_filter.mp hx).2

theorem State.enterSafe_safeEntered {s : State} (h : s.log.safe = false) (cause : Nat) (own : Option Ev) (at_ : Option (Nat × Nat)) :
    SafeEntered s cause (aonCause cause) (s.enterSafe cause own at_) := (State.enterSafe_enters h cause own at_).safeEntered

/-! ## The loss of the Spindle (R23) and the causes (R403, R434, R461) -/

/-- R23: what a block does whose clock is divided from the Spindle, once the Spindle is lost. -/
theorem whenClocked_of_clocksLost {s : State} (h : s.boot.clocksLost = true) (r : Result) : whenClocked s r = .next s := if_pos h

/-- R23: every command but those with a clock of their own is one of such a block. -/
theorem exec_of_clocksLost {s : State} (h : s.boot.clocksLost = true) {i : Instr} (hi : onOwnClock i = false) : exec i s = .next s := by
  cases i with
  | powerOnReset | warmReset | aonUndervoltage | powerDown | spindleLock | spindleUnlock | safeStateResetExpiry => cases hi
  | lockstepMismatch | thermalTrip | functionLevelReset | pcieFundamentalReset | pcieLinkChange | pcieError => cases hi
  | _ => exact whenClocked_of_clocksLost h _

/-- R23: the Spindle has lost lock in service. -/
def State.spindleLost (s : State) : State := { s with boot := { s.boot with spindle := false, clocksLost := true } }

theorem execSpindleUnlock_of_running {s : State} (hsafe : s.log.safe = false) (hspindle : s.boot.spindle = true) :
    execSpindleUnlock s = .next (s.spindleLost.enterSafe 4 (some { src := 3 }) none) := by
  simp [execSpindleUnlock, State.spindleLost, hspindle, hsafe]

theorem spindleUnlock_entersSafe {s : State} (hsafe : s.log.safe = false) (hspindle : s.boot.spindle = true) :
    CompletesAlways .spindleUnlock s fun t => SafeEntered s 4 true t ∧ t.boot.spindle = false ∧ t.boot.clocksLost = true := by
  have henters := State.enterSafe_enters (s := s.spindleLost) hsafe 4 (some { src := 3 }) none
  exact ⟨_, execSpindleUnlock_of_running hsafe hspindle, henters.safeEntered, henters.spindle_eq⟩

theorem thermalTrip_entersSafe {s : State} (hsafe : s.log.safe = false) {since : Nat} (ht : s.gov.tripSince = some since)
    (hp : passed s since 1000000 = true) : CompletesAlways .thermalTrip s (SafeEntered s 5 false) := by
  refine ⟨_, ?_, State.enterSafe_safeEntered hsafe 5 (some { src := 555 }) none⟩
  show execThermalTrip s = _
  simp [execThermalTrip, ht, hp]

theorem handlerFault_entersSafe {s : State} (hsafe : s.log.safe = false) (hh : s.log.handlers ≠ []) :
    Completes .handlerFault s (SafeEntered s 2 true) := fun hclk => by
  refine ⟨_, ?_, State.enterSafe_safeEntered hsafe 2 none none⟩
  show execHandlerFault s = _
  simp [execHandlerFault, whenClocked_of_clocked hclk, hh]

theorem handlerTimeout_entersSafe {s : State} (hsafe : s.log.safe = false) {h : Handler} {rest : List Handler} (hh : s.log.handlers = h :: rest)
    (hp : passed s h.since 1000000 = true) : Completes .handlerTimeout s (SafeEntered s 2 true) := fun hclk => by
  refine ⟨_, ?_, State.enterSafe_safeEntered hsafe 2 none none⟩
  show execHandlerTimeout s = _
  simp [execHandlerTimeout, whenClocked_of_clocked hclk, hh, hp]

/-- Settles O7: with the clocks lost by `exec_of_clocksLost`, and each cause by `State.enterSafe_enters`. -/
theorem causesOfDeviceSafeState : Obligations.CausesOfDeviceSafeState := by
  unfold Obligations.CausesOfDeviceSafeState
  refine ⟨fun s hlost => ⟨fun i => exec_of_clocksLost hlost, step_of_clocksLost hlost⟩, fun s hsafe => ⟨spindleUnlock_entersSafe hsafe, ?_,
    fun x => thermalTrip_entersSafe hsafe, handlerFault_entersSafe hsafe, fun h rest => handlerTimeout_entersSafe hsafe⟩⟩
  exact ⟨_, rfl, State.enterSafe_safeEntered hsafe 3 (some { src := 587 }) none⟩

end Sys2Proof.Machine
end

section
/-!
PROOFS. What the Press's families share (spec/04_press_composition.md): objects of different subindexes, and what an update of a channel of the
Press or of an Unpicker leaves.
-/

namespace Sys2Proof.Machine

/-! ## Objects of different subindexes (R36) -/

theorem keySub_objKey (idx sub : Nat) : keySub (objKey idx sub) = sub % 256 := Nat.mul_add_mod_self_right idx 256 sub

/-- The status objects of one table stand at one index, each at a subindex of its own. -/
@[simp] theorem keySub_layerStatus (c i : Nat) :
    keySub (K.layerSourceKind c i) = 2 ∧ keySub (K.layerStState c i) = 1 ∧ keySub (K.layerStRepeatCount c i) = 2 ∧
      keySub (K.layerStHoldOffCount c i) = 3 ∧ keySub (K.layerStConcealCount c i) = 4 ∧ keySub (K.layerStShownBuffer c i) = 6 :=
  ⟨keySub_objKey _ 2, keySub_objKey _ 1, keySub_objKey _ 2, keySub_objKey _ 3, keySub_objKey _ 4, keySub_objKey _ 6⟩

@[simp] theorem keySub_hemStatus (c h : Nat) :
    keySub (K.hemStLastSignature c h) = 2 ∧ keySub (K.hemStLiveSignature c h) = 3 ∧ keySub (K.hemStMismatchCount c h) = 4 :=
  ⟨keySub_objKey _ 2, keySub_objKey _ 3, keySub_objKey _ 4⟩

@[simp] theorem keySub_unpStatus (u : Nat) :
    keySub (K.unpStUnpickerState u) = 1 ∧ keySub (K.unpStDecodedCount u) = 2 ∧ keySub (K.unpStConcealCount u) = 3 ∧
      keySub (K.unpStClipWidth u) = 4 ∧ keySub (K.unpStClipHeight u) = 5 :=
  ⟨keySub_objKey _ 1, keySub_objKey _ 2, keySub_objKey _ 3, keySub_objKey _ 4, keySub_objKey _ 5⟩

/-- An object set leaves every object at another subindex. -/
theorem State.nat_setN_of_keySub (s : State) {k j : Nat} (v : Nat) (h : keySub k ≠ keySub j) : (s.setN k v).nat j = s.nat j :=
  s.nat_setN_ne v fun hk => h (congrArg keySub hk)

theorem State.nat_bump_of_keySub (s : State) {k j : Nat} (h : keySub k ≠ keySub j) : (s.bump k).nat j = s.nat j :=
  s.nat_setN_of_keySub _ h

/-! ## Objects beside a channel's own state -/

@[simp] theorem State.nat_count (s : State) (n k : Nat) : (s.count n k).nat = s.nat := rfl
@[simp] theorem State.nat_setPress (s : State) (c : Nat) (x : PressSt) : (s.setPress c x).nat = s.nat := rfl
@[simp] theorem State.nat_setLayer (s : State) (c i : Nat) (x : LayerSt) : (s.setLayer c i x).nat = s.nat := rfl
@[simp] theorem State.nat_setHem (s : State) (c h : Nat) (x : HemSt) : (s.setHem c h x).nat = s.nat := rfl
@[simp] theorem State.nat_setUnp (s : State) (u : Nat) (x : UnpSt) : (s.setUnp u x).nat = s.nat := rfl

end Sys2Proof.Machine
end

section
/-!
PROOFS. The layers of the Press at a picture boundary (spec/04_press_composition.md; R115 to R118), and the blend of a layer (R119, R120).
-/

namespace Sys2Proof.Machine

/-! ## A layer's boundary (R115 to R117) -/

/-- R117: what tells the source of a layer from another. -/
def layerSource (s : State) (c i : Nat) : List Int :=
  [s.int (K.layerSourceKind c i), s.int (K.layerSourceRef c i), s.int (K.layerSurfaceBase c i), s.int (K.layerBufferStride c i)]

/-- R117: a layer starts afresh at a boundary that finds it Off or its source changed. -/
def layerFresh (s : State) (c i : Nat) : Bool := s.nat (K.layerStState c i) == 0 || (s.layer c i).source != layerSource s c i

/-- R117: a layer as it enters its boundary: one that starts afresh with nothing shown. -/
def State.layerEntered (s : State) (c i : Nat) : State :=
  if layerFresh s c i then (s.setLayer c i { source := layerSource s c i }).setN (K.layerStShownBuffer c i) 0xFF else s

/-- R117: the state in which a layer enters its boundary: Waiting where it starts afresh. -/
def layerEntryState (s : State) (c i : Nat) : Nat := if layerFresh s c i then 1 else (s.layerEntered c i).nat (K.layerStState c i)

/-- R117: a layer whose source is no longer ready repeats its picture or is held off, and the boundary is counted. -/
def State.layerLapsed (s : State) (c i : Nat) : State :=
  let held := s.nat (K.layerNotReadyPolicy c i) == 1
  ((((s.setLayer c i { s.layer c i with sinceLive := (s.layer c i).sinceLive + 1 }).setN (K.layerStState c i) (if held then 4 else 3)).bump
    (if held then K.layerStHoldOffCount c i else K.layerStRepeatCount c i)).count (128 + 4 * c + 1) 1).raise { src := 96 + 4 * c, unit := c }

theorem layerEntryState_of_off {s : State} {c i : Nat} (h : s.nat (K.layerStState c i) = 0) : layerEntryState s c i = 1 := by
  simp [layerEntryState, layerFresh, h]

/-- A layer that is on and keeps its source enters its boundary as it stands. -/
theorem layerEntered_of_same {s : State} {c i : Nat} (hsrc : (s.layer c i).source = layerSource s c i) (hst : s.nat (K.layerStState c i) ≠ 0) :
    s.layerEntered c i = s ∧ layerEntryState s c i = s.nat (K.layerStState c i) := by
  have hf : layerFresh s c i = false := by simp [layerFresh, hsrc, hst]
  simp [State.layerEntered, layerEntryState, hf]

theorem State.layerEntered_isFrozen (s : State) (c i : Nat) : (s.layerEntered c i).isFrozen = s.isFrozen := by
  unfold State.layerEntered
  split <;> rfl

/-- What enters a boundary differs from what stood before it in ShownBuffer only. -/
theorem State.layerEntered_nat (s : State) {c i k : Nat} (h : keySub k ≠ 6) : (s.layerEntered c i).nat k = s.nat k := by
  unfold State.layerEntered
  split
  · rw [State.nat_setN_of_keySub _ _ (by simpa using h.symm), State.nat_setLayer]
  · rfl

theorem State.layerLapsed_repeats {s : State} {c i : Nat} (h : s.nat (K.layerNotReadyPolicy c i) = 0) :
    (s.layerLapsed c i).nat (K.layerStState c i) = 3 ∧
      (s.layerLapsed c i).nat (K.layerStRepeatCount c i) = (s.nat (K.layerStRepeatCount c i) + 1) % 2 ^ 32 := by
  simp [State.layerLapsed, h, State.nat_setN_of_keySub, State.nat_bump_of_keySub]

theorem State.layerLapsed_holdsOff {s : State} {c i : Nat} (h : s.nat (K.layerNotReadyPolicy c i) = 1) :
    (s.layerLapsed c i).nat (K.layerStState c i) = 4 ∧
      (s.layerLapsed c i).nat (K.layerStHoldOffCount c i) = (s.nat (K.layerStHoldOffCount c i) + 1) % 2 ^ 32 := by
  simp [State.layerLapsed, h, State.nat_setN_of_keySub, State.nat_bump_of_keySub]

theorem layerReady_of_frozen {s : State} (h : s.isFrozen 28 = true) (c i k : Nat) (waiting : Bool) : layerReady s c i k waiting = false := by
  simp [layerReady, h]

/-- R116: a solid colour and a Reed channel are always ready. -/
theorem layerReady_of_kind {s : State} {c i : Nat} (hf : s.isFrozen 28 = false) (hk : s.nat (K.layerSourceKind c i) ≤ 1) (k : Nat)
    (waiting : Bool) : layerReady s c i k waiting = true := by
  have hkind : s.nat (K.layerSourceKind c i) = 0 ∨ s.nat (K.layerSourceKind c i) = 1 := by omega
  simp [layerReady, hf, hkind]

/-- R115: a layer that is not enabled is Off from the boundary on. -/
theorem State.layerBoundary_off {s : State} {c i : Nat} (h : s.flag (K.layerEnable c i) = false) (k : Nat) :
    (s.layerBoundary c k i).nat (K.layerStState c i) = 0 := by
  by_cases hst : s.nat (K.layerStState c i) = 0
  · simp [State.layerBoundary, h, hst]
  · simp [State.layerBoundary, h, hst, State.nat_setN_of_keySub]

section Enabled

variable {s : State} {c i k : Nat} (hen : s.flag (K.layerEnable c i) = true)
include hen

/-- R115 to R117: what the boundary of an enabled layer leaves: it is Live, still Waiting, or lapsed. -/
theorem State.layerBoundary_enabled : ∃ live : State, s.layerBoundary c k i =
    if layerReady (s.layerEntered c i) c i k (layerEntryState s c i == 1) then live.setN (K.layerStState c i) 2
    else if layerEntryState s c i = 1 then (s.layerEntered c i).setN (K.layerStState c i) 1 else (s.layerEntered c i).layerLapsed c i := by
  rw [State.layerBoundary, if_neg (by simp [hen])]
  exact ⟨_, rfl⟩

theorem State.layerBoundary_live (h : layerReady (s.layerEntered c i) c i k (layerEntryState s c i == 1) = true) :
    (s.layerBoundary c k i).nat (K.layerStState c i) = 2 := by
  obtain ⟨live, heq⟩ := State.layerBoundary_enabled (k := k) hen
  rw [heq, if_pos h, State.nat_setN]

theorem State.layerBoundary_waits (h : layerReady (s.layerEntered c i) c i k (layerEntryState s c i == 1) = false)
    (hst : layerEntryState s c i = 1) : s.layerBoundary c k i = (s.layerEntered c i).setN (K.layerStState c i) 1 := by
  obtain ⟨live, heq⟩ := State.layerBoundary_enabled (k := k) hen
  rw [heq, if_neg (by simp [h]), if_pos hst]

theorem State.layerBoundary_lapses (h : layerReady (s.layerEntered c i) c i k (layerEntryState s c i == 1) = false)
    (hst : layerEntryState s c i ≠ 1) : s.layerBoundary c k i = (s.layerEntered c i).layerLapsed c i := by
  obtain ⟨live, heq⟩ := State.layerBoundary_enabled (k := k) hen
  rw [heq, if_neg (by simp [h]), if_neg hst]

theorem State.layerBoundary_same_waits (hsrc : (s.layer c i).source = layerSource s c i) (hst : s.nat (K.layerStState c i) = 1)
    (h : layerReady s c i k true = false) : s.layerBoundary c k i = s.setN (K.layerStState c i) 1 := by
  obtain ⟨hs, hentry⟩ := layerEntered_of_same hsrc (by omega)
  have hone := hentry.trans hst
  rw [State.layerBoundary_waits hen (by rwa [hs, hone]) hone, hs]

theorem State.layerBoundary_same_lapses (hsrc : (s.layer c i).source = layerSource s c i) (hst : 2 ≤ s.nat (K.layerStState c i))
    (h : layerReady s c i k false = false) : s.layerBoundary c k i = s.layerLapsed c i := by
  obtain ⟨hs, hentry⟩ := layerEntered_of_same hsrc (by omega)
  have hne : layerEntryState s c i ≠ 1 := by omega
  rw [State.layerBoundary_lapses hen (by rwa [hs, beq_false_of_ne hne]) hne, hs]

end Enabled

/-- Settles O21: a layer that is not enabled by `State.layerBoundary_off`, and an enabled one by the three ways in which
`State.layerBoundary_enabled` leaves it. -/
theorem layerStatesAtABoundary : Obligations.LayerStatesAtABoundary := by
  unfold Obligations.LayerStatesAtABoundary
  intro s c i k t st same
  refine ⟨fun hoff => State.layerBoundary_off hoff k, fun hen => ⟨fun hf hk => ?always, fun hf hst => ?frozen, fun hsrc hst hr => ?waiting,
    fun hsrc hst hr => ?live, fun hsrc hst hr hp => ?repeats, fun hsrc hst hr hp => ?holdsOff⟩⟩
  case always =>
    refine State.layerBoundary_live hen (layerReady_of_kind ?_ ?_ k _)
    · rwa [State.layerEntered_isFrozen]
    · rwa [State.layerEntered_nat s (by simp)]
  case frozen =>
    have hr := layerReady_of_frozen ((congrFun (s.layerEntered_isFrozen c i) 28).trans hf) c i k (layerEntryState s c i == 1)
    rw [show t = _ from State.layerBoundary_waits hen hr (layerEntryState_of_off hst)]
    exact State.nat_setN _ _ _
  case waiting =>
    rw [show t = _ from State.layerBoundary_same_waits hen hsrc hst hr]
    exact ⟨State.nat_setN _ _ _, State.nat_setN_of_keySub _ _ (by simp)⟩
  case live =>
    obtain ⟨hs, hentry⟩ := layerEntered_of_same hsrc (by omega)
    refine State.layerBoundary_live hen ?_
    rwa [hs, hentry, beq_false_of_ne (by omega)]
  case repeats =>
    rw [show t = _ from State.layerBoundary_same_lapses hen hsrc hst hr]
    exact State.layerLapsed_repeats hp
  case holdsOff =>
    rw [show t = _ from State.layerBoundary_same_lapses hen hsrc hst hr]
    exact State.layerLapsed_holdsOff hp

/-! ## The blend of a component (R119, R120) -/

theorem blendComp_same (a x : Int) : blendComp a x x = x := by
  have hsum : a * x + (4096 - a) * x = 4096 * x := by rw [← Int.add_mul, Int.add_comm a, Int.sub_add_cancel]
  unfold blendComp
  omega

/-- R120: the weights sum to 4,096, so a blend of two samples in range is in range. -/
theorem blendComp_range {a x y : Int} (ha : 0 ≤ a) (ha' : a ≤ 4096) (hx : 0 ≤ x) (hx' : x ≤ 4096) (hy : 0 ≤ y) (hy' : y ≤ 4096) :
    0 ≤ blendComp a x y ∧ blendComp a x y ≤ 4096 := by
  have hb : 0 ≤ 4096 - a := Int.sub_nonneg.mpr ha'
  have hlo : 0 ≤ a * x + (4096 - a) * y := Int.add_nonneg (Int.mul_nonneg ha hx) (Int.mul_nonneg hb hy)
  have hhi : a * x + (4096 - a) * y ≤ a * 4096 + (4096 - a) * 4096 :=
    Int.add_le_add (Int.mul_le_mul_of_nonneg_left hx' ha) (Int.mul_le_mul_of_nonneg_left hy' hb)
  unfold blendComp
  omega

/-- Settles O23: the range by `blendComp_range`, a blend of equals by `blendComp_same`. -/
theorem blendingStaysInRange : Obligations.BlendingStaysInRange := by
  unfold Obligations.BlendingStaysInRange
  intro a x y ha ha' hx hx' hy hy'
  obtain ⟨hlo, hhi⟩ := blendComp_range ha ha' hx hx' hy hy'
  have hlayer : blendComp 4096 x y = x := by
    unfold blendComp
    omega
  have hunder : blendComp 0 x y = y := by
    unfold blendComp
    omega
  exact ⟨hlo, hhi, hlayer, hunder, blendComp_same a x⟩

end Sys2Proof.Machine
end

section
/-!
PROOFS. The hem regions of the Press (spec/04_press_composition.md; R131, R132): what a final signature and a picture boundary leave of a region.
-/

namespace Sys2Proof.Machine

@[simp] theorem State.hem_setHem (s : State) (c h : Nat) (x : HemSt) : (s.setHem c h x).hem c h = x := by
  simp [State.setHem, State.hem]

@[simp] theorem State.setN_hem (s : State) (k v : Nat) : (s.setN k v).hem = s.hem := rfl

@[simp] theorem State.bump_hem (s : State) (k : Nat) : (s.bump k).hem = s.hem := rfl

@[simp] theorem State.raise_hem (s : State) (e : Ev) : (s.raise e).hem = s.hem := by
  funext c h
  simp [State.hem]

/-- A change of a channel's pictures leaves its regions. -/
theorem State.hem_setPress_onPic (s : State) (c k : Nat) (f : PressPic → PressPic) (h : Nat) :
    (s.setPress c ((s.press c).onPic k f)).hem c h = s.hem c h := by
  simp [State.hem, PressSt.onPic]

/-! ## A final signature (R131, R132) -/

/-- R131: the value that a region's signature is compared with: the safe image's where that is substituted. -/
def hemWanted (v : View) (c h : Nat) (x : HemPic) : Nat := if x.subst then v.nat (K.hemSafeSignature c h) else v.nat (K.hemExpected c h)

/-- R131: a final signature is a mismatch. -/
def hemMismatch (v : View) (c h : Nat) (x : HemPic) : Bool := v.flag (K.hemCompare c h) && x.crc != hemWanted v c h x

/-- R132: a picture counts towards the return of a region in alarm. -/
def hemMatch (v : View) (c h : Nat) (x : HemPic) : Bool :=
  x.layerLive && (!v.flag (K.hemCompare c h) || (if x.subst then x.live else x.crc) == v.nat (K.hemExpected c h))

/-- R131: a region's status after its comparison: the signatures, and a mismatch counted, raised and recorded in the picture. -/
def State.hemCompared (s : State) (c h : Nat) (p : PressPic) (x : HemPic) : State :=
  let signed := (s.setN (K.hemStLastSignature c h) x.crc).setN (K.hemStLiveSignature c h) x.live
  if hemMismatch (p.view s.fuses) c h x then
    let counted := ((signed.bump (K.hemStMismatchCount c h)).count (128 + 4 * c + 2) 1).raise { src := 97 + 4 * c, unit := c }
    counted.setPress c ((counted.press c).onPic p.pic fun y => { y with hems := AMap.put y.hems h { x with alarmFlag := true } })
  else signed

/-- R132: the alarm of a region after a comparison: a mismatch brings it, and `returns` matches in a row end it. -/
def State.hemJudged (s : State) (c h : Nat) (mismatch good : Bool) (returns : Nat) : State :=
  let y := s.hem c h
  if !y.alarm then (if mismatch then s.setHem c h { y with alarm := true, hits := 0 } else s)
  else
    let hits := if good then y.hits + 1 else 0
    if good && !mismatch && decide (returns ≤ hits) then (s.setHem c h { y with alarm := false, hits := 0 }).raise { src := 97 + 4 * c, unit := c }
    else s.setHem c h { y with hits := hits }

theorem State.hemFinal_eq (s : State) (c h : Nat) (p : PressPic) (x : HemPic) :
    s.hemFinal c h p x = (s.hemCompared c h p x).hemJudged c h (hemMismatch (p.view s.fuses) c h x) (hemMatch (p.view s.fuses) c h x)
      ((p.view s.fuses).nat (K.hemReturnMatches c h)) := rfl

theorem State.hemCompared_hem (s : State) (c h : Nat) (p : PressPic) (x : HemPic) : (s.hemCompared c h p x).hem c h = s.hem c h := by
  unfold State.hemCompared
  dsimp only
  split
  · rw [State.hem_setPress_onPic, State.raise_hem]
    rfl
  · rfl

theorem State.hemCompared_count {s : State} {c h : Nat} {p : PressPic} {x : HemPic} (hm : hemMismatch (p.view s.fuses) c h x = true) :
    (s.hemCompared c h p x).nat (K.hemStMismatchCount c h) = (s.nat (K.hemStMismatchCount c h) + 1) % 2 ^ 32 := by
  simp [State.hemCompared, hm, State.nat_setN_of_keySub]

theorem State.hemJudged_nat (s : State) (c h : Nat) (mismatch good : Bool) (returns : Nat) :
    (s.hemJudged c h mismatch good returns).nat = s.nat := by
  unfold State.hemJudged
  dsimp only
  repeat' split
  all_goals simp

/-- R132: a mismatch brings a region into alarm, or keeps it there. -/
theorem State.hemJudged_alarm_of_mismatch (s : State) (c h : Nat) (good : Bool) (returns : Nat) :
    ((s.hemJudged c h true good returns).hem c h).alarm = true := by
  cases ha : (s.hem c h).alarm <;> simp [State.hemJudged, ha]

/-- R132: a match keeps a region in alarm while fewer than `returns` have come in a row. -/
theorem State.hemJudged_alarm_of_match {s : State} {c h : Nat} (ha : (s.hem c h).alarm = true) (returns : Nat) :
    ((s.hemJudged c h false true returns).hem c h).alarm = decide ((s.hem c h).hits + 1 < returns) := by
  by_cases hr : returns ≤ (s.hem c h).hits + 1
  · simp [State.hemJudged, ha, hr, Nat.not_lt.mpr hr]
  · simp [State.hemJudged, ha, hr, Nat.not_le.mp hr]

/-! ## A region at a boundary (R131, R132) -/

/-- R131: from a boundary on, the safe image stands in the place of a region that is in alarm under policy 1. -/
theorem State.hemBoundary_subst {s : State} {c h : Nat} (hen : s.flag (K.hemHemEnable c h) = true) :
    ((s.hemBoundary c h).hem c h).subst = (((s.hemBoundary c h).hem c h).alarm && s.nat (K.hemPolicy c h) == 1) := by
  cases hl : hemLive s c h <;> cases ha : (s.hem c h).alarm <;> simp [State.hemBoundary, hen, hl, ha]

/-- R132: a region whose layer is not Live is in alarm from the boundary on. -/
theorem State.hemBoundary_alarm {s : State} {c h : Nat} (hen : s.flag (K.hemHemEnable c h) = true) (hl : hemLive s c h = false) :
    ((s.hemBoundary c h).hem c h).alarm = true := by
  cases ha : (s.hem c h).alarm <;> simp [State.hemBoundary, hen, hl, ha]

theorem hemLive_of_layer {s : State} {c h : Nat} (href : s.nat (K.hemLayerRef c h) < 16)
    (hst : s.nat (K.layerStState c (s.nat (K.hemLayerRef c h))) ≠ 2) : hemLive s c h = false := by
  simp [hemLive, href, hst]

/-- Settles O22: a final signature by `State.hemFinal_eq`, and a boundary by `State.hemBoundary_subst` and `State.hemBoundary_alarm`. -/
theorem hemRegionsAreCompared : Obligations.HemRegionsAreCompared := by
  unfold Obligations.HemRegionsAreCompared
  refine fun s c h => ⟨fun p x => ⟨fun hcmp hne => ?mismatch, fun ha hlive hexp hsafe => ?returns⟩, fun hen =>
    ⟨State.hemBoundary_subst hen, fun href hst => State.hemBoundary_alarm hen (hemLive_of_layer href hst)⟩⟩
  case mismatch =>
    have hm : hemMismatch (p.view s.fuses) c h x = true := by
      rw [apply_ite (p.view s.fuses).nat] at hne
      simp [hemMismatch, hcmp, hemWanted, hne]
    rw [State.hemFinal_eq, State.hemJudged_nat, hm]
    exact ⟨State.hemCompared_count hm, State.hemJudged_alarm_of_mismatch _ _ _ _ _⟩
  case returns =>
    have hgood : hemMatch (p.view s.fuses) c h x = true := by simp [hemMatch, hlive, hexp]
    have hm : hemMismatch (p.view s.fuses) c h x = false := by
      cases hx : x.subst with
      | false =>
        have hcrc : x.crc = (p.view s.fuses).nat (K.hemExpected c h) := by simpa [hx] using hexp
        simp [hemMismatch, hemWanted, hx, hcrc]
      | true => simp [hemMismatch, hemWanted, hx, hsafe hx]
    have hsame := s.hemCompared_hem c h p x
    rw [State.hemFinal_eq, hgood, hm, State.hemJudged_alarm_of_match (hsame ▸ ha), hsame]

end Sys2Proof.Machine
end

section
/-!
PROOFS. The hand-off of composed rows (spec/04_press_composition.md; R119 to R138): what the composition of a row leaves of the channel's pictures
and of its looms.
-/

namespace Sys2Proof.Machine

/-! ## The pictures of a channel -/

/-- A picture of the Press is found after a change of one that keeps its number. -/
theorem PressSt.picOf_onPic (x : PressSt) {k : Nat} {f : PressPic → PressPic} (hf : ∀ p, (f p).pic = p.pic) (j : Nat) :
    (x.onPic k f).picOf j = (x.picOf j).map fun p => if p.pic = k then f p else p := by
  have hpic : ∀ p : PressPic, (if p.pic = k then f p else p).pic = p.pic := fun p => by
    split
    · exact hf p
    · rfl
  simp only [PressSt.picOf, PressSt.onPic, List.find?_map, Function.comp_def, hpic]

theorem PressSt.picOf_onPic_self {x : PressSt} {k : Nat} {f : PressPic → PressPic} (hf : ∀ p, (f p).pic = p.pic) {p : PressPic}
    (h : x.picOf k = some p) : (x.onPic k f).picOf k = some (f p) := by
  have hk : p.pic = k := by simpa using List.find?_some h
  rw [PressSt.picOf_onPic x hf, h, Option.map_some, if_pos hk]

/-! ## What the composition of a row keeps -/

/-- What the composition of a row keeps: that channel c of the Press has picture k, and what every channel codes. -/
def State.rowParts (s : State) (c k : Nat) : Bool × (Nat → ChanSt) := (((s.press c).picOf k).isSome, s.chan)

theorem rowParts_eq {s t : State} {c k : Nat} (h : s.rowParts c k = t.rowParts c k) :
    ((s.press c).picOf k).isSome = ((t.press c).picOf k).isSome ∧ s.chan = t.chan := Prod.mk.inj h

section Kept

variable (s : State) (c k : Nat)

@[simp] theorem State.raise_rowParts (e : Ev) : (s.raise e).rowParts c k = s.rowParts c k := by simp [State.rowParts]
@[simp] theorem State.setN_rowParts (j v : Nat) : (s.setN j v).rowParts c k = s.rowParts c k := rfl
theorem State.setN_unless_rowParts (q : Prop) [Decidable q] (j v : Nat) : (if q then s else s.setN j v).rowParts c k = s.rowParts c k := by
  split <;> rfl
@[simp] theorem State.bump_rowParts (j : Nat) : (s.bump j).rowParts c k = s.rowParts c k := rfl
@[simp] theorem State.count_rowParts (n m : Nat) : (s.count n m).rowParts c k = s.rowParts c k := rfl

@[simp] theorem State.setHem_rowParts (h : Nat) (x : HemSt) : (s.setHem c h x).rowParts c k = s.rowParts c k := by
  simp [State.rowParts, State.setHem, PressSt.picOf]

theorem State.setPress_onPic_rowParts (j : Nat) {f : PressPic → PressPic} (hf : ∀ p, (f p).pic = p.pic) :
    (s.setPress c ((s.press c).onPic j f)).rowParts c k = s.rowParts c k := by
  simp [State.rowParts, PressSt.picOf_onPic _ hf]

theorem State.hemCompared_rowParts (h : Nat) (p : PressPic) (x : HemPic) : (s.hemCompared c h p x).rowParts c k = s.rowParts c k := by
  unfold State.hemCompared
  dsimp only
  split
  · rw [State.setPress_onPic_rowParts _ _ _ _ (by exact fun _ => rfl)]
    simp
  · simp

theorem State.hemJudged_rowParts (h : Nat) (mismatch good : Bool) (returns : Nat) :
    (s.hemJudged c h mismatch good returns).rowParts c k = s.rowParts c k := by
  unfold State.hemJudged
  dsimp only
  repeat' split
  all_goals simp

theorem State.hemFinal_rowParts (h : Nat) (p : PressPic) (x : HemPic) : (s.hemFinal c h p x).rowParts c k = s.rowParts c k := by
  rw [State.hemFinal_eq, State.hemJudged_rowParts, State.hemCompared_rowParts]

theorem State.hemRow_rowParts (j row : Nat) (v : View) (done plain : List YccLine) :
    (s.hemRow c j row v done plain).rowParts c k = s.rowParts c k := by
  unfold State.hemRow
  refine foldl_view (view := (·.rowParts c k)) (fun s h => ?_) _ s
  split
  · rfl
  split
  · rfl
  dsimp only
  split
  · rfl
  split
  · rw [State.hemFinal_rowParts, State.setPress_onPic_rowParts _ _ _ _ (by exact fun _ => rfl)]
  · exact State.setPress_onPic_rowParts _ _ _ _ fun _ => rfl

theorem State.showHems_rowParts : (s.showHems c).rowParts c k = s.rowParts c k := by
  unfold State.showHems
  dsimp only
  rw [State.setN_rowParts, State.setN_rowParts]
  exact foldl_view (view := (·.rowParts c k)) (fun s h => State.setN_unless_rowParts s c k _ _ _) _ s

end Kept

/-! ## The hand-off (R138) -/

/-- R121: the lines of row j of a picture, composed. -/
def rowDone (s : State) (c row : Nat) (p : PressPic) : List YccLine :=
  (rowYs (p.view s.fuses) c row).map fun y => composeLine s (p.view s.fuses) p c p.safe y

/-- R131: the same without the safe images. -/
def rowPlain (s : State) (c row : Nat) (p : PressPic) : List YccLine :=
  if p.safe.isEmpty then rowDone s c row p else (rowYs (p.view s.fuses) c row).map fun y => composeLine s (p.view s.fuses) p c [] y

/-- R121, R131: a composed row leaves the faults of its layers and the signatures of its regions. -/
def State.rowComposed (s : State) (c row : Nat) (p : PressPic) : State :=
  (((rowFaults s (p.view s.fuses) p c row).foldl (fun s i =>
    (s.bump (K.layerStFaultCount c i)).raise { src := 99 + 4 * c, unit := c }) s).hemRow c p.pic row (p.view s.fuses) (rowDone s c row p)
      (rowPlain s c row p)).showHems c

/-- R138: a picture with one more composed row and its lines. -/
def PressPic.withRow (p : PressPic) (row : Nat) (lines : List (Nat × YccLine)) : PressPic :=
  { p with rows := p.rows ++ [row], lines := lines.foldl (fun m e => AMap.put m e.1 e.2) p.lines }

/-- R138: a composed row stands among its picture's rows, and the last one counts the picture. -/
def State.rowStored (s : State) (c k row rows : Nat) (lines : List (Nat × YccLine)) : State :=
  let stored := s.setPress c ((s.press c).onPic k (·.withRow row lines))
  if row + 1 = rows then stored.count (128 + 4 * c) 1 else stored

/-- R138: the looms of a channel that codes a picture are handed a row of it. -/
def State.rowHanded (s : State) (c k row : Nat) : State :=
  if (s.chan c).pics.any (·.pic == k) then s.setChan c { s.chan c with toStart := (s.chan c).toStart ++ [(k, row)] } else s

theorem State.rowComposed_rowParts (s : State) (c row : Nat) (p : PressPic) (k : Nat) :
    (s.rowComposed c row p).rowParts c k = s.rowParts c k := by
  rw [State.rowComposed, State.showHems_rowParts, State.hemRow_rowParts]
  exact foldl_view (view := (·.rowParts c k)) (by simp) _ s

theorem State.rowStored_picOf {s : State} {c k : Nat} (h : ((s.press c).picOf k).isSome = true) (row rows : Nat) (lines : List (Nat × YccLine)) :
    ∃ y, ((s.rowStored c k row rows lines).press c).picOf k = some y ∧ row ∈ y.rows := by
  obtain ⟨y, hy⟩ := Option.isSome_iff_exists.mp h
  have hstored := PressSt.picOf_onPic_self (f := (·.withRow row lines)) (fun _ => rfl) hy
  refine ⟨y.withRow row lines, ?_, by simp [PressPic.withRow]⟩
  unfold State.rowStored
  dsimp only
  split <;> exact (congrArg (·.picOf k) (State.press_setPress s c _)).trans hstored

theorem State.rowStored_chan (s : State) (c k row rows : Nat) (lines : List (Nat × YccLine)) : (s.rowStored c k row rows lines).chan = s.chan := by
  unfold State.rowStored
  dsimp only
  split <;> rfl

theorem State.rowHanded_press (s : State) (c k row : Nat) : (s.rowHanded c k row).press = s.press := by
  unfold State.rowHanded
  split <;> rfl

theorem State.rowHanded_toStart {s : State} {c k : Nat} (h : (s.chan c).pics.any (·.pic == k) = true) (row : Nat) :
    (k, row) ∈ ((s.rowHanded c k row).chan c).toStart := by
  simp [State.rowHanded, h]

/-- A picture whose row is due is one of the channel's. -/
theorem handoffPicture_picOf {s : State} {c k row : Nat} {p : PressPic} (h : handoffPicture s c k row = some p) :
    ((s.press c).picOf p.pic).isSome = true :=
  List.find?_isSome.mpr ⟨p, List.mem_of_find?_eq_some h, beq_self_eq_true p.pic⟩

section Due

variable {s : State} {c : Chan} {k row : Nat} {p : PressPic} (hp : handoffPicture s c k row = some p)
  (hsafe : s.log.safe = false) (hf : s.isFrozen 28 = false) (hrow : row < rowCount (p.view s.fuses) c) (hnew : row ∉ p.rows)
include hp hsafe hf hrow hnew

/-- R138: a row that is due and has not been composed is composed, stored and handed to the looms. -/
theorem execPressRowHandoff_due (hclk : s.boot.clocksLost = false) : exec (.pressRowHandoff c k row) s =
    .next (((s.rowComposed c row p).rowStored c p.pic row (rowCount (p.view s.fuses) c)
      ((rowYs (p.view s.fuses) c row).zip (rowDone s c row p))).rowHanded c p.pic row) := by
  have hgo : ¬ (s.videoStopped || s.isFrozen 28 || decide (rowCount (p.view s.fuses) c ≤ row) || p.rows.contains row) = true := by
    simp [State.videoStopped, hsafe, hf, hrow, hnew]
  show execPressRowHandoff c k row s = _
  rw [execPressRowHandoff, whenClocked_of_clocked hclk, hp]
  exact if_neg hgo

/-- R138: the row is then one of its picture's, and the looms of a channel that codes the picture have it to start. -/
theorem pressRowHandoff_due : Completes (.pressRowHandoff c k row) s fun t =>
    (∃ y, (t.press c.val).picOf p.pic = some y ∧ row ∈ y.rows) ∧
      ((s.chan c.val).pics.any (fun x => x.pic == p.pic) = true → (p.pic, row) ∈ (t.chan c.val).toStart) := fun hclk => by
  obtain ⟨hpic, hchan⟩ := rowParts_eq (s.rowComposed_rowParts c row p p.pic)
  refine ⟨_, execPressRowHandoff_due hp hsafe hf hrow hnew hclk, ?_, fun hcodes => State.rowHanded_toStart ?_ row⟩
  · rw [State.rowHanded_press]
    exact State.rowStored_picOf (hpic.trans (handoffPicture_picOf hp)) _ _ _
  · rwa [State.rowStored_chan, hchan]

end Due

end Sys2Proof.Machine
end

section
/-!
PROOFS. The Unpickers (spec/04_press_composition.md; R135 to R137): what a decoded picture of a clip leaves.
-/

namespace Sys2Proof.Machine

/-! ## A picture of a clip (R137) -/

/-- R137: a picture refers to what was never decoded, or has slices that do not parse. -/
def clipBad (pic : ClipPicture) : Bool := pic.missing || !pic.bad.isEmpty

/-- R137: an Unpicker conceals from a bad picture up to the next point of recovery. -/
def clipConceals (x : UnpSt) (pic : ClipPicture) : Bool := if pic.recovers && !clipBad pic then false else x.concealing || clipBad pic

/-- R137: the decoded samples, with substitutes in place of the areas that do not parse. -/
def clipOut (x : UnpSt) (pic : ClipPicture) : ClipPic :=
  pic.bad.foldl (fun p a => p.patch (x.good.getD (greyPic pic.samples.width pic.samples.height)) a) pic.samples

theorem clipConceals_of_missing (x : UnpSt) {pic : ClipPicture} (h : pic.missing = true) : clipConceals x pic = true := by
  simp [clipConceals, clipBad, h]

theorem clipConceals_of_clean {x : UnpSt} {pic : ClipPicture} (hm : pic.missing = false) (hb : pic.bad = [])
    (h : x.concealing = false ∨ pic.recovers = true) : clipConceals x pic = false := by
  obtain hx | hr := h
  · simp [clipConceals, clipBad, hm, hb, hx]
  · simp [clipConceals, clipBad, hm, hb, hr]

theorem clipOut_of_clean (x : UnpSt) {pic : ClipPicture} (hb : pic.bad = []) : clipOut x pic = pic.samples := by simp [clipOut, hb]

@[simp] theorem State.setN_unp (s : State) (k v : Nat) : (s.setN k v).unp = s.unp := rfl

/-! ## What the counts and the size of a clip leave (R135, R137) -/

theorem State.raise_unp (s : State) (e : Ev) : (s.raise e).unp = s.unp := by simp only [State.raise_accessors]
theorem State.raise_nat (s : State) (e : Ev) : (s.raise e).nat = s.nat := by simp only [State.raise_accessors]

theorem State.countConcealed_unp (s : State) (u : Nat) : (s.countConcealed u).unp = s.unp := by
  unfold State.countConcealed
  refine foldl_view (view := State.unp) (fun s c => ?_) _ (s.bump _)
  have hlayers := foldl_view (view := State.unp) (f := fun s i => s.bump (K.layerStConcealCount c i)) fun _ _ => rfl
  dsimp only
  split
  · exact hlayers _ s
  · rw [State.raise_unp]
    exact hlayers _ s

/-- R137: of the objects at a subindex other than that of a layer's ConcealCount, a concealed picture moves the Unpicker's own only. -/
theorem State.countConcealed_nat (s : State) (u : Nat) {k : Nat} (hk : keySub k ≠ 4) :
    (s.countConcealed u).nat k = (s.bump (K.unpStConcealCount u)).nat k := by
  unfold State.countConcealed
  refine foldl_view (view := (·.nat k)) (fun s c => ?_) _ _
  have hlayers := foldl_view (view := (·.nat k)) (f := fun s i => s.bump (K.layerStConcealCount c i))
    fun s _ => s.nat_bump_of_keySub (by simpa using hk.symm)
  dsimp only
  split
  · exact hlayers _ s
  · rw [State.raise_nat, State.nat_count]
    exact hlayers _ s

/-- R135: the size of a clip whose parameter sets have come. -/
def State.clipSized (s : State) (u : Nat) (pic : ClipPicture) : State :=
  match pic.params with
  | some p => (s.setN (K.unpStClipWidth u) p.width).setN (K.unpStClipHeight u) p.height
  | none => s

theorem State.clipSized_unp (s : State) (u : Nat) (pic : ClipPicture) : (s.clipSized u pic).unp = s.unp := by
  unfold State.clipSized
  split <;> rfl

theorem State.clipSized_nat (s : State) (u : Nat) (pic : ClipPicture) {k : Nat} (hk : keySub k < 4) : (s.clipSized u pic).nat k = s.nat k := by
  unfold State.clipSized
  split
  · rw [State.nat_setN_of_keySub _ _ (by simp; omega), State.nat_setN_of_keySub _ _ (by simp; omega)]
  · rfl

/-! ## A picture decoded into a buffer (R136, R137) -/

/-- R136: an Unpicker that has put a picture into a free buffer counts it, and plays or conceals. -/
def State.clipStored (s : State) (u : Nat) (y : UnpSt) (conceals : Bool) : State :=
  ((s.setUnp u y).bump (K.unpStDecodedCount u)).setN (K.unpStUnpickerState u) (if conceals then 2 else 1)

/-- R136, R137: the buffer takes the picture under the next number, with its substitutes, as concealed or not. -/
theorem State.clipDecoded_eq (s : State) (u : Nat) (pic : ClipPicture) : ∃ y : UnpSt,
    y.ready = (s.unp u).ready ++ [{ index := (s.unp u).next, concealed := clipConceals (s.unp u) pic, pic := clipOut (s.unp u) pic }] ∧
      s.clipDecoded u pic = if clipConceals (s.unp u) pic then (s.clipStored u y (clipConceals (s.unp u) pic)).countConcealed u
        else s.clipStored u y (clipConceals (s.unp u) pic) := ⟨_, rfl, rfl⟩

theorem State.clipStored_unp (s : State) (u : Nat) (y : UnpSt) (conceals : Bool) : (s.clipStored u y conceals).unp u = y := State.unp_setUnp s u y

theorem State.clipStored_nat (s : State) (u : Nat) (y : UnpSt) (conceals : Bool) :
    (s.clipStored u y conceals).nat (K.unpStUnpickerState u) = (if conceals then 2 else 1) ∧
      (s.clipStored u y conceals).nat (K.unpStDecodedCount u) = (s.nat (K.unpStDecodedCount u) + 1) % 2 ^ 32 ∧
      (s.clipStored u y conceals).nat (K.unpStConcealCount u) = s.nat (K.unpStConcealCount u) := by
  simp [State.clipStored, State.nat_setN_of_keySub, State.nat_bump_of_keySub]

/-- R136: a picture that is not concealed. -/
theorem State.clipDecoded_plays {s : State} {u : Nat} {pic : ClipPicture} (h : clipConceals (s.unp u) pic = false) :
    ((s.clipDecoded u pic).unp u).ready =
        (s.unp u).ready ++ [{ index := (s.unp u).next, concealed := false, pic := clipOut (s.unp u) pic }] ∧
      (s.clipDecoded u pic).nat (K.unpStDecodedCount u) = (s.nat (K.unpStDecodedCount u) + 1) % 2 ^ 32 ∧
      (s.clipDecoded u pic).nat (K.unpStUnpickerState u) = 1 := by
  obtain ⟨y, hready, heq⟩ := s.clipDecoded_eq u pic
  rw [h] at hready heq
  obtain ⟨hstate, hcount, -⟩ := s.clipStored_nat u y false
  rw [show s.clipDecoded u pic = s.clipStored u y false from heq, State.clipStored_unp]
  exact ⟨hready, hcount, hstate⟩

/-- R137: a concealed picture. -/
theorem State.clipDecoded_conceals {s : State} {u : Nat} {pic : ClipPicture} (h : clipConceals (s.unp u) pic = true) :
    ((s.clipDecoded u pic).unp u).ready =
        (s.unp u).ready ++ [{ index := (s.unp u).next, concealed := true, pic := clipOut (s.unp u) pic }] ∧
      (s.clipDecoded u pic).nat (K.unpStConcealCount u) = (s.nat (K.unpStConcealCount u) + 1) % 2 ^ 32 ∧
      (s.clipDecoded u pic).nat (K.unpStUnpickerState u) = 2 := by
  obtain ⟨y, hready, heq⟩ := s.clipDecoded_eq u pic
  rw [h] at hready heq
  obtain ⟨hstate, -, hconceal⟩ := s.clipStored_nat u y true
  rw [show s.clipDecoded u pic = (s.clipStored u y true).countConcealed u from heq, State.countConcealed_unp, State.clipStored_unp,
    State.countConcealed_nat _ _ (by simp), State.countConcealed_nat _ _ (by simp), State.nat_bump, hconceal,
    State.nat_bump_of_keySub _ (by simp)]
  exact ⟨hready, rfl, hstate⟩

/-! ## The command (R135 to R137) -/

section Taken

variable {s : State} {u : Fin 2} {pic : ClipPicture} (ht : unpTakes s u pic = true) (hclk : s.boot.clocksLost = false)
include ht hclk

/-- R135: an Unpicker rejects a clip whose parameter sets are beyond the limits. -/
theorem execUnpickerPictureDecoded_rejects {m : ClipParams} (hm : pic.params = some m) (hfit : clipFits s.view u m = false) :
    exec (.unpickerPictureDecoded u pic) s =
      .next (((s.setUnp u { s.unp u with rejected := true, ready := [] }).setN (K.unpStUnpickerState u) 3).raise
        { src := 99 + 4 * s.nat (K.unpMasterChannel u), unit := s.nat (K.unpMasterChannel u) }) := by
  show execUnpickerPictureDecoded u pic s = _
  rw [execUnpickerPictureDecoded, whenClocked_of_clocked hclk]
  simp [ht, hm, hfit]

/-- R135, R136: an Unpicker decodes a picture of a clip within the limits, from the first entry point on. -/
theorem execUnpickerPictureDecoded_decodes (hfit : ∀ m, pic.params = some m → clipFits s.view u m = true)
    (hentry : (s.unp u).first.isSome = true ∨ pic.entry = true) :
    exec (.unpickerPictureDecoded u pic) s = .next ((s.clipSized u pic).clipDecoded u pic) := by
  have hfits : pic.params.any (fun p => !clipFits s.view u p) = false := by
    cases hp : pic.params with
    | none => rfl
    | some m => simp [hfit m hp]
  have hgo : ¬ ((s.unp u).first.isNone && !pic.entry) = true := by
    obtain hfirst | hpic := hentry
    · simp [Option.isSome_iff_ne_none.mp hfirst]
    · simp [hpic]
  show execUnpickerPictureDecoded u pic s = _
  rw [execUnpickerPictureDecoded, whenClocked_of_clocked hclk]
  simp only [ht, hfits, Bool.not_true, Bool.false_eq_true, if_false]
  exact if_neg hgo

end Taken

/-- Settles O24: a row by `pressRowHandoff_due`, a clip beyond the limits by `execUnpickerPictureDecoded_rejects`, and a decoded picture by
`State.clipDecoded_plays` and `State.clipDecoded_conceals`. -/
theorem rowsAndClipsArrive : Obligations.RowsAndClipsArrive := by
  unfold Obligations.RowsAndClipsArrive
  refine ⟨fun s c k row p => pressRowHandoff_due, fun s u pic ht => ⟨fun m hm hfit hclk => ?rejects, fun hfit hentry =>
    ⟨fun hm hb hrec hclk => ?plays, fun hm hclk => ?conceals⟩⟩⟩
  case rejects => exact ⟨_, execUnpickerPictureDecoded_rejects ht hclk hm hfit, by simp⟩
  case plays =>
    refine ⟨_, execUnpickerPictureDecoded_decodes ht hclk hfit hentry, ?_⟩
    have hunp := s.clipSized_unp u pic
    have hplays := State.clipDecoded_plays (s := s.clipSized u pic) (u := u) (pic := pic) (hunp ▸ clipConceals_of_clean hm hb hrec)
    rwa [hunp, clipOut_of_clean _ hb, State.clipSized_nat _ _ _ (by simp)] at hplays
  case conceals =>
    refine ⟨_, execUnpickerPictureDecoded_decodes ht hclk hfit hentry, ?_⟩
    have hunp := s.clipSized_unp u pic
    obtain ⟨hready, hcount, hstate⟩ := State.clipDecoded_conceals (s := s.clipSized u pic) (u := u) (clipConceals_of_missing _ hm)
    rw [hunp] at hready
    rw [State.clipSized_nat _ _ _ (by simp)] at hcount
    exact ⟨⟨_, hready, rfl, rfl⟩, hcount, hstate⟩

end Sys2Proof.Machine
end

section
/-!
PROOFS. What the rows' families share (spec/05_loom_encoding.md, spec/09_mangle_network.md): the bits of a mask, and records that are found by their
key.
-/

namespace Sys2Proof.Machine

/-! ## Bits of a mask -/

/-- A bit set in a mask stands beside those that were set. -/
theorem bit_setBit_true (v i p : Nat) : bit (setBit v i true) p = (bit v p || decide (p = i)) := by
  unfold setBit
  cases hi : bit v i with
  | true =>
    by_cases hp : p = i
    · simp [hp, hi]
    · simp [hp]
  | false =>
    rw [bit_eq_testBit] at hi
    simp only [bit_eq_testBit, Bool.false_eq_true, if_false, if_true, Nat.add_comm v]
    obtain hp | hp | hp := Nat.lt_trichotomy p i
    · simp [Nat.testBit_two_pow_add_gt hp, Nat.ne_of_lt hp]
    · simp [hp, Nat.testBit_two_pow_add_eq, hi]
    · have heven : v / 2 ^ i % 2 = 0 := by simpa [Nat.testBit_eq_decide_div_mod_eq] using hi
      have hdiv : (2 ^ i + v) / 2 ^ (i + 1) = v / 2 ^ (i + 1) := by
        rw [Nat.pow_succ, ← Nat.div_div_eq_div_mul, ← Nat.div_div_eq_div_mul, Nat.add_div_left _ (Nat.two_pow_pos i)]
        omega
      obtain ⟨d, rfl⟩ := Nat.exists_eq_add_of_lt hp
      rw [show i + d + 1 = d + (i + 1) by omega, ← Nat.testBit_div_two_pow, hdiv, Nat.testBit_div_two_pow]
      simp [show d + (i + 1) ≠ i by omega]

/-! ## Records found by their key -/

/-- A record put in the place of those with its key, or at the end where there is none, is the one that is found. -/
theorem find?_replaced {α : Type} {same : α → Bool} (x : α) (hx : same x = true) (l : List α) :
    (if l.any same then l.map (fun y => if same y then x else y) else l ++ [x]).find? same = some x := by
  split
  next h =>
    have hsame : (same ∘ fun y => if same y then x else y) = same := by
      funext y
      by_cases hy : same y = true <;> simp [hy, hx]
    obtain ⟨y, hy⟩ := Option.isSome_iff_exists.mp (List.find?_isSome.mpr (List.any_eq_true.mp h))
    rw [List.find?_map, hsame, hy, Option.map_some, if_pos (List.find?_some hy)]
  next h =>
    have hnone : l.find? same = none := by simpa using h
    rw [List.find?_append, hnone]
    simp [hx]

theorem State.findRow_setRow (s : State) {x : RowSt} {c k j : Nat} (hx : x.chan = c ∧ x.pic = k ∧ x.row = j) :
    (s.setRow x).findRow c k j = some x := by
  obtain ⟨rfl, rfl, rfl⟩ := hx
  exact find?_replaced (same := fun r : RowSt => r.chan == x.chan && r.pic == x.pic && r.row == x.row) x (by simp) s.video.rows

theorem ChanSt.picSt_setPic (ch : ChanSt) (x : PicSt) : (ch.setPic x).picSt x.pic = some x :=
  find?_replaced (same := fun p : PicSt => p.pic == x.pic) x (by simp) ch.pics

theorem State.findRow_key {s : State} {c k j : Nat} {r : RowSt} (h : s.findRow c k j = some r) : r.chan = c ∧ r.pic = k ∧ r.row = j := by
  simpa [and_assoc] using List.find?_some h

theorem ChanSt.picSt_pic {ch : ChanSt} {k : Nat} {p : PicSt} (h : ch.picSt k = some p) : p.pic = k := by
  simpa using List.find?_some h

end Sys2Proof.Machine
end

section
/-!
PROOFS. The links of the ports (spec/09_mangle_network.md; R301): an event and all that follows from it move none.
-/

namespace Sys2Proof.Machine

/-! ## The links of the ports -/

/-- R301: whether each port's link is up. -/
def State.links (s : State) (p : Nat) : Bool := (s.port p).linkUp

/-- A port that changes otherwise keeps its link. -/
theorem State.setPort_links (s : State) {p : Nat} {x : PortSt} (h : x.linkUp = (s.port p).linkUp) : (s.setPort p x).links = s.links := by
  funext j
  by_cases hj : p = j
  · subst hj
    simp [State.links, h]
  · simp [State.links, State.port_setPort_ne s p x hj]

theorem PortSt.enqueue_linkUp (x : PortSt) (f : TxFrame) : (x.enqueue f).linkUp = x.linkUp := by
  unfold PortSt.enqueue
  split <;> rfl

theorem State.queueFrame_links (s : State) (f : TxFrame) : (s.queueFrame f).links = s.links := by
  unfold State.queueFrame
  split
  · rfl
  · exact s.setPort_links (PortSt.enqueue_linkUp _ f)

theorem State.shedMessage_links (s : State) (type keyId tid : Nat) (items : List Bytes) (status sender : Nat) :
    (s.shedMessage type keyId tid items status sender).1.links = s.links := by
  unfold State.shedMessage
  dsimp only
  split <;> rfl

theorem State.notifyOne_links (s : State) (i src sev : Nat) : (s.notifyOne i src sev).links = s.links := by
  unfold State.notifyOne
  extract_lets -underBinder addr held item tid
  split
  · rfl
  split
  · rfl
  split
  next t msg h =>
    exact (State.queueFrame_links _ _).trans ((congrArg (fun x => x.1.links) h).symm.trans (State.shedMessage_links ..))

theorem State.notify_links (s : State) (src sev : Nat) : (s.notify src sev).links = s.links :=
  foldl_view (view := State.links) (fun s i => s.notifyOne_links i src sev) _ s

theorem State.vector_links (s : State) (v : Nat) : (s.vector v).links = s.links := by
  unfold State.vector
  dsimp only
  repeat' split
  all_goals rfl

theorem State.eventVector_links (s : State) (src sev : Nat) : (s.eventVector src sev).links = s.links := by
  unfold State.eventVector
  dsimp only
  split <;> simp only [State.vector_links]

theorem State.logAsk_links (s : State) (r : LogReq) : (s.logAsk r).links = s.links := by
  unfold State.logAsk
  repeat' split
  all_goals rfl

theorem State.endTracker_links (s : State) (t : Tracker) : (s.endTracker t).links = s.links := by
  unfold State.endTracker
  dsimp only
  split
  · rfl
  · exact State.logAsk_links _ _

theorem State.signal_links (s : State) (e : Ev) : (s.signal e).1.links = s.links := by
  unfold State.signal
  split
  · rfl
  extract_lets -underBinder sev l marked ended
  have hended : ended.links = s.links := by
    simp only [ended]
    split
    · split
      · exact State.endTracker_links marked _
      · rfl
    · rfl
  clear_value marked ended
  split
  · split
    · simp only [State.notify_links, State.eventVector_links]
      exact hended
    · exact hended
  · simp only [State.notify_links, State.eventVector_links]
    split <;> exact hended

theorem State.raiseBase_links (s : State) (e : Ev) : (s.raiseBase e).links = s.links := by
  unfold State.raiseBase
  split
  next t entry h =>
    have ht : t.links = s.links := (congrArg (fun x => x.1.links) h).symm.trans (s.signal_links e)
    split
    · rw [State.logAsk_links, ht]
    · exact ht

theorem State.raiseBaseLimited_links (s : State) (key : Nat) (e : Ev) : (s.raiseBaseLimited key e).links = s.links := by
  unfold State.raiseBaseLimited
  split
  · split
    · exact State.raiseBase_links _ e
    · rfl
  · exact State.raiseBase_links _ e

theorem State.wakeThread_links (s : State) (t : Nat) : (s.wakeThread t).links = s.links := by
  have hfull := (s.stallWake t).raiseBaseLimited_links 544 { src := 544 }
  unfold State.wakeThread
  dsimp only
  split
  · rfl
  split
  · split <;> exact hfull
  · exact hfull

theorem State.wakeSource_links (s : State) (src : Nat) : (s.wakeSource src).links = s.links := by
  unfold State.wakeSource
  split
  · exact s.wakeThread_links _
  · rfl

theorem State.reportDrops_links (s0 s : State) : (State.reportDrops s0 s).links = s.links := by
  unfold State.reportDrops
  dsimp only
  repeat' split
  · rfl
  · exact s.raiseBaseLimited_links 629 _
  · exact (State.wakeSource_links _ _).trans (s.raiseBaseLimited_links 629 _)

theorem State.reportPool_links (s0 s : State) (p : Nat) : (State.reportPool s0 s p).links = s.links := by
  unfold State.reportPool
  split
  · exact (State.wakeSource_links _ _).trans (s.raiseBase_links _)
  · rfl

/-- R456: an event moves no link. -/
@[simp] theorem State.raise_links (s : State) (e : Ev) : (s.raise e).links = s.links := by
  unfold State.raise
  dsimp only
  rw [State.reportDrops_links, foldl_view (view := State.links) (State.reportPool_links s)]
  split
  · rw [State.wakeSource_links, State.raiseBase_links]
  · exact s.raiseBase_links e

end Sys2Proof.Machine
end

section
/-!
PROOFS. Hold rows (spec/05_loom_encoding.md; R176, log entry 94): what a row that is held leaves of the rows in progress and of its picture.
-/

namespace Sys2Proof.Machine

/-! ## The rows and a picture's open slots -/

/-- R52, R188: the slots of a picture that have opened, and the values by which its rows are sent. -/
def PicSt.slots (p : PicSt) : Nat × AMap Val := (p.opened, p.vals)

/-- The rows in progress, and the slots and values of channel c's picture k. -/
def State.slotParts (s : State) (c k : Nat) : List RowSt × Option (Nat × AMap Val) := (s.video.rows, ((s.chan c).picSt k).map (·.slots))

theorem findRow_of_slotParts {s t : State} {c k : Nat} (h : t.slotParts c k = s.slotParts c k) (j : Nat) :
    t.findRow c k j = s.findRow c k j := by
  have hrows : t.video.rows = s.video.rows := congrArg Prod.fst h
  rw [State.findRow, hrows, State.findRow]

theorem slots_of_slotParts {s t : State} {c k : Nat} (h : t.slotParts c k = s.slotParts c k) :
    ((t.chan c).picSt k).map (·.slots) = ((s.chan c).picSt k).map (·.slots) := congrArg Prod.snd h

/-- What a picture put in the place of the one with its number has as that one had. -/
theorem ChanSt.setPic_map {α : Type} (f : PicSt → α) {ch : ChanSt} {k : Nat} {p x : PicSt} (h : ch.picSt k = some p) (hpic : x.pic = p.pic)
    (hf : f x = f p) : ((ch.setPic x).picSt k).map f = (ch.picSt k).map f := by
  obtain rfl : x.pic = k := hpic.trans (ChanSt.picSt_pic h)
  rw [ChanSt.picSt_setPic, h, Option.map_some, Option.map_some, hf]

/-- A change of the pictures that keeps their numbers, slots and values. -/
theorem find?_map_slots {f : PicSt → PicSt} (hf : ∀ p, (f p).pic = p.pic ∧ (f p).slots = p.slots) (pics : List PicSt) (k : Nat) :
    ((pics.map f).find? (·.pic == k)).map (·.slots) = (pics.find? (·.pic == k)).map (·.slots) := by
  have hsame : ((fun p : PicSt => p.pic == k) ∘ f) = fun p => p.pic == k := funext fun p => by simp [(hf p).1]
  rw [List.find?_map, hsame, Option.map_map]
  exact congrArg (Option.map · _) (funext fun p => (hf p).2)

section Kept

variable (s : State) (c k : Nat)

theorem State.setChan_slotParts {x : ChanSt} (h : (x.picSt k).map (·.slots) = ((s.chan c).picSt k).map (·.slots)) :
    (s.setChan c x).slotParts c k = s.slotParts c k := by
  rw [State.slotParts, State.chan_setChan, h]
  rfl

/-- A change of the channel beside its pictures. -/
theorem State.setChan_slotParts_of_pics {x : ChanSt} (h : x.pics = (s.chan c).pics) : (s.setChan c x).slotParts c k = s.slotParts c k := by
  refine s.setChan_slotParts c k ?_
  rw [ChanSt.picSt, h, ChanSt.picSt]

@[simp] theorem State.raise_slotParts (e : Ev) : (s.raise e).slotParts c k = s.slotParts c k := by simp [State.slotParts]
@[simp] theorem State.raiseLimited_slotParts (key : Nat) (e : Ev) : (s.raiseLimited key e).slotParts c k = s.slotParts c k := by
  simp [State.slotParts]
@[simp] theorem State.setN_slotParts (i v : Nat) : (s.setN i v).slotParts c k = s.slotParts c k := rfl

end Kept

/-! ## A hold row (R176, log entry 94) -/

section Held

variable (s : State) (c k : Nat)

theorem State.showSweep_slotParts : (s.showSweep c).slotParts c k = s.slotParts c k := rfl

theorem State.spoil_slotParts (j : Nat) : (s.spoil c j).slotParts c k = s.slotParts c k := by
  unfold State.spoil
  extract_lets ch first pics swept coalesced spoiled shown
  have hcoalesced : coalesced.slotParts c k = s.slotParts c k ∧ coalesced.chan = s.chan := by
    simp only [coalesced, swept]
    split <;> split <;> exact ⟨rfl, rfl⟩
  have hpics : (pics.find? (·.pic == k)).map (·.slots) = ((coalesced.chan c).picSt k).map (·.slots) := by
    rw [hcoalesced.2]
    refine find?_map_slots (fun p => ?_) ch.pics k
    split <;> exact ⟨rfl, rfl⟩
  have hshown : shown.slotParts c k = s.slotParts c k := by
    simp only [shown, State.showSweep_slotParts, spoiled]
    exact (coalesced.setChan_slotParts c k (by exact hpics)).trans hcoalesced.1
  split
  · rw [State.raise_slotParts, hshown]
  · exact hshown

theorem mapHeld_slots (ch : ChanSt) (j : Nat) : ((mapHeld ch k j).picSt k).map (·.slots) = (ch.picSt k).map (·.slots) := by
  unfold mapHeld
  split
  · rfl
  next p h => exact ChanSt.setPic_map _ (x := { p with map := _ }) h rfl rfl

theorem State.copyMaps_slotParts : (s.copyMaps c).slotParts c k = s.slotParts c k := by
  unfold State.copyMaps
  exact foldl_view (view := (·.slotParts c k)) (by exact fun _ _ => rfl) _ s

theorem ChanSt.setRate_pics (ch : ChanSt) (x : PicRate) : (ch.setRate x).pics = ch.pics := rfl

theorem State.giveOn_slotParts (i bits : Nat) : (s.giveOn c i bits).slotParts c k = s.slotParts c k := by
  unfold State.giveOn
  extract_lets b ch after
  split
  extract_lets key g given
  have hgiven : given.slotParts c k = s.slotParts c k := by
    simp only [given]
    split
    · exact s.setChan_slotParts_of_pics c k rfl
    · rfl
  clear_value given after
  split
  · rw [State.setN_slotParts, State.setChan_slotParts_of_pics _ _ _ (ChanSt.setRate_pics _ _), hgiven]
  · exact hgiven

theorem State.settleOnce_slotParts (i : Nat) : (s.settleOnce c i).slotParts c k = s.slotParts c k := by
  unfold State.settleOnce State.settle
  split
  · split
    · exact (State.giveOn_slotParts _ c k i _).trans (s.setChan_slotParts_of_pics c k rfl)
    · rfl
  · rfl

theorem State.sendSeam_slotParts (toLeft : Bool) (cls kind i index : Nat) (payload : Bytes) :
    (s.sendSeam c toLeft cls kind i index payload).slotParts c k = s.slotParts c k := by
  unfold State.sendSeam
  dsimp only
  split
  · rfl
  · simp [State.slotParts, State.chan]

theorem State.sampleIn_slotParts (unit : Nat) (x : Sample) : (s.sampleIn unit x).slotParts c k = s.slotParts c k := by
  unfold State.sampleIn State.sampleDrop
  split
  · rw [State.raiseLimited_slotParts]
    rfl
  · rfl

theorem State.rowSample_slotParts (r : RowSt) (loom : Nat) : (s.rowSample r loom).slotParts c k = s.slotParts c k := by
  unfold State.rowSample
  extract_lets c' rows band flags body
  split
  · exact s.sampleIn_slotParts c k _ _
  · rfl

theorem State.rowFinished_slotParts (bits : Nat) : (s.rowFinished c k bits).slotParts c k = s.slotParts c k := by
  unfold State.rowFinished
  split
  · rfl
  next p h =>
    extract_lets p' finished
    have hfinished : finished.slotParts c k = s.slotParts c k := s.setChan_slotParts c k (ChanSt.setPic_map _ h rfl rfl)
    clear_value finished
    split
    · split <;> exact hfinished
    · exact hfinished

/-- R282: no frame is built of a row whose slot is not open. -/
theorem State.build_of_unopened {s : State} {c k j : Nat} {r : RowSt} (h : s.findRow c k j = some r) (ho : r.opened = false) :
    s.build c k j = s := by
  simp [State.build, h, State.buildFrames, ho]

theorem State.endGrant_of_hold {r : RowSt} (h : r.kind = .hold) (s : State) : s.endGrant r = s := by simp [State.endGrant, h]

/-- R176: the end of a hold row leaves the row as it is. -/
theorem State.rowEnded_slotParts {r : RowSt} (hk : r.kind = .hold) (ho : r.opened = false) :
    (s.rowEnded r).slotParts r.chan r.pic = (s.setRow r).slotParts r.chan r.pic := by
  unfold State.rowEnded
  extract_lets set seamed sampled finished
  have hfinished : finished.slotParts r.chan r.pic = (s.setRow r).slotParts r.chan r.pic := by
    simp only [finished, State.rowFinished_slotParts, sampled, State.rowSample_slotParts, seamed, State.sendRowQp, State.sendSeam_slotParts, set,
      State.endGrant_of_hold hk]
  have hfound : finished.findRow r.chan r.pic r.row = some r := by rw [findRow_of_slotParts hfinished, State.findRow_setRow _ ⟨rfl, rfl, rfl⟩]
  rw [State.build_of_unopened hfound ho, hfinished]

/-- R176: what a row that is held leaves: its end as a hold row, of a state whose rows and open slots are those of s. -/
theorem State.holdRow_eq {s : State} {old : RowSt} {p : PicSt} (hp : (s.chan old.chan).picSt old.pic = some p) :
    ∃ (t : State) (r : RowSt), s.holdRow old.chan old.pic old.row old = t.rowEnded r ∧
      t.slotParts old.chan old.pic = s.slotParts old.chan old.pic ∧
      r.chan = old.chan ∧ r.pic = old.pic ∧ r.row = old.row ∧ r.kind = .hold ∧ r.lastStaged = true ∧ r.opened = old.opened := by
  unfold State.holdRow
  split
  next h => exact absurd (hp.symm.trans h) (Option.some_ne_none p)
  extract_lets r counted ch begins held copied raised settled
  refine ⟨settled.spoil old.chan old.pic, r, rfl, ?_, rfl, rfl, rfl, rfl, rfl, rfl⟩
  have hcopied : copied.slotParts old.chan old.pic = s.slotParts old.chan old.pic := by
    simp only [copied, State.copyMaps_slotParts]
    exact counted.setChan_slotParts old.chan old.pic (mapHeld_slots old.pic ch old.row)
  have hraised : raised.slotParts old.chan old.pic = s.slotParts old.chan old.pic := by
    simp only [raised]
    split
    · rw [State.raise_slotParts, hcopied]
    · exact hcopied
  rw [State.spoil_slotParts]
  simp only [settled]
  split
  · rw [State.settleOnce_slotParts, hraised]
  · exact hraised

/-- R176, log entry 94: a row that is held stands in progress, and its picture has the slots that it had. -/
theorem State.holdRow_found {s : State} {old : RowSt} {p : PicSt} (hp : (s.chan old.chan).picSt old.pic = some p) (ho : old.opened = false) :
    (∃ r, (s.holdRow old.chan old.pic old.row old).findRow old.chan old.pic old.row = some r ∧ r.kind = .hold ∧ r.lastStaged = true) ∧
      (((s.holdRow old.chan old.pic old.row old).chan old.chan).picSt old.pic).map (·.slots) = some p.slots := by
  obtain ⟨t, r, heq, ht, hchan, hpic, hrow, hk, hl, hopen⟩ := State.holdRow_eq hp
  have hended := t.rowEnded_slotParts hk (hopen.trans ho)
  have hrow' := findRow_of_slotParts hended old.row
  have hslots := slots_of_slotParts hended
  rw [hchan, hpic] at hrow' hslots
  rw [heq]
  exact ⟨⟨r, hrow'.trans (t.findRow_setRow ⟨hchan, hpic, hrow⟩), hk, hl⟩, hslots.trans ((slots_of_slotParts ht).trans (congrArg _ hp))⟩

end Held

end Sys2Proof.Machine
end

section
/-!
PROOFS. Breaches and the closing of a slot (spec/06_latency_rate.md; R189, R212, R213; R284): what a breach counts, and what becomes of a row whose
slot closes.
-/

namespace Sys2Proof.Machine

/-! ## What an update beside the rows keeps -/

/-- The rows in progress, the slots and values of channel c's picture k, the objects, the fuses and the links. -/
def State.slotFrame (s : State) (c k : Nat) : (List RowSt × Option (Nat × AMap Val)) × Look × Fuses × (Nat → Bool) :=
  (s.slotParts c k, s.obj, s.fuses, s.links)

theorem slotFrame_eq {s t : State} {c k : Nat} (h : t.slotFrame c k = s.slotFrame c k) :
    (∀ j, t.findRow c k j = s.findRow c k j) ∧ ((t.chan c).picSt k).map (·.slots) = ((s.chan c).picSt k).map (·.slots) ∧
      t.nat = s.nat ∧ t.fuses = s.fuses ∧ t.links = s.links := by
  obtain ⟨hparts, hrest⟩ := Prod.mk.inj h
  obtain ⟨hobj, hrest⟩ := Prod.mk.inj hrest
  obtain ⟨hfuses, hlinks⟩ := Prod.mk.inj hrest
  have hnat : t.nat = s.nat := by
    unfold State.nat
    rw [hobj]
  exact ⟨findRow_of_slotParts hparts, slots_of_slotParts hparts, hnat, hfuses, hlinks⟩

section Kept

variable (s : State) (c k : Nat)

@[simp] theorem State.raise_slotFrame (e : Ev) : (s.raise e).slotFrame c k = s.slotFrame c k := by simp [State.slotFrame]

theorem State.setChan_slotFrame {x : ChanSt} (h : (x.picSt k).map (·.slots) = ((s.chan c).picSt k).map (·.slots)) :
    (s.setChan c x).slotFrame c k = s.slotFrame c k := by
  rw [State.slotFrame, s.setChan_slotParts c k h]
  rfl

/-- A port whose frames change. -/
theorem State.setPort_slotFrame {p : Nat} {x : PortSt} (h : x.linkUp = (s.port p).linkUp) : (s.setPort p x).slotFrame c k = s.slotFrame c k := by
  rw [State.slotFrame, s.setPort_links h]
  rfl

end Kept

/-! ## Breaches (R212, R213) -/

/-- R212: the row is in breach, and its channel counts it with its cause and its time. -/
def State.breachCounted (s : State) (c k j cause : Nat) (r : RowSt) : State :=
  let counted := ((s.setRow { r with breach := cause }).bump (K.rateLatencyBreachCount c)).count (192 + 8 * c + 6) 1
  let noted := counted.setN (K.rateLastBreachCause c) cause
  noted.set (K.rateLastBreachTime c) (time80 (floorN (slotOpen noted c k j)))

/-- R213: the picture of a row in breach. -/
def State.picBreached (s : State) (c k : Nat) : State :=
  match (s.chan c).picSt k with
  | some p =>
    if p.breached then s
    else (s.setChan c { (s.chan c).setPic { p with breached := true } with breachPic := some k, breachOpen := true }).raise
      { src := 165 + 8 * c, unit := c }
  | none => s

/-- The status objects of a channel's breaches, each at a subindex of its own. -/
@[simp] theorem keySub_breach (c : Nat) :
    keySub (K.rateLatencyBreachCount c) = 13 ∧ keySub (K.rateLastBreachCause c) = 14 ∧ keySub (K.rateLastBreachTime c) = 15 :=
  ⟨keySub_objKey _ 13, keySub_objKey _ 14, keySub_objKey _ 15⟩

@[simp] theorem keySub_streamPort (c : Nat) : keySub (K.streamPortA c) = 2 ∧ keySub (K.streamPortB c) = 3 :=
  ⟨keySub_objKey _ 2, keySub_objKey _ 3⟩

theorem State.nat_set_of_keySub (s : State) {k j : Nat} (v : Int) (h : keySub k ≠ keySub j) : (s.set k v).nat j = s.nat j := by
  rw [State.nat, State.obj_set_ne s v fun hk => h (congrArg keySub hk), State.nat]

@[simp] theorem State.setRow_nat (s : State) (x : RowSt) : (s.setRow x).nat = s.nat := rfl

section Breach

variable {s : State} {c k j : Nat} {r : RowSt}

theorem State.breach_of_new (h : s.findRow c k j = some r) (h0 : r.breach = 0) (cause : Nat) :
    s.breach c k j cause = (s.breachCounted c k j cause r).picBreached c k := by
  simp only [State.breach, h, h0]
  rfl

/-- R212: a row counts once. -/
theorem State.breach_of_counted (h : s.findRow c k j = some r) (h0 : r.breach ≠ 0) (cause : Nat) : s.breach c k j cause = s := by
  simp [State.breach, h, h0]

theorem State.breachCounted_findRow (h : s.findRow c k j = some r) (cause : Nat) :
    (s.breachCounted c k j cause r).findRow c k j = some { r with breach := cause } := by
  have hkey := State.findRow_key h
  exact s.findRow_setRow (x := { r with breach := cause }) hkey

theorem State.breachCounted_nat (cause : Nat) :
    (s.breachCounted c k j cause r).nat (K.rateLatencyBreachCount c) = (s.nat (K.rateLatencyBreachCount c) + 1) % 2 ^ 32 ∧
      (s.breachCounted c k j cause r).nat (K.rateLastBreachCause c) = cause := by
  simp [State.breachCounted, State.nat_set_of_keySub, State.nat_setN_of_keySub]

theorem State.breachCounted_nat_of_keySub (cause : Nat) {i : Nat} (hi : keySub i < 13) : (s.breachCounted c k j cause r).nat i = s.nat i := by
  rw [State.breachCounted, State.nat_set_of_keySub _ _ (by simp; omega), State.nat_setN_of_keySub _ _ (by simp; omega), State.nat_count,
    State.nat_bump_of_keySub _ (by simp; omega), State.setRow_nat]

theorem State.picBreached_slotFrame (s : State) (c k : Nat) : (s.picBreached c k).slotFrame c k = s.slotFrame c k := by
  unfold State.picBreached
  split
  next p h =>
    split
    · rfl
    · rw [State.raise_slotFrame]
      exact s.setChan_slotFrame c k (ChanSt.setPic_map _ (x := { p with breached := true }) h rfl rfl)
  · rfl

/-- R212: a row that is not in breach is, and is counted, with its cause. -/
theorem State.breach_new (h : s.findRow c k j = some r) (h0 : r.breach = 0) (cause : Nat) :
    (s.breach c k j cause).findRow c k j = some { r with breach := cause } ∧
      (s.breach c k j cause).nat (K.rateLatencyBreachCount c) = (s.nat (K.rateLatencyBreachCount c) + 1) % 2 ^ 32 ∧
      (s.breach c k j cause).nat (K.rateLastBreachCause c) = cause := by
  obtain ⟨hfind, -, hnat, -⟩ := slotFrame_eq ((s.breachCounted c k j cause r).picBreached_slotFrame c k)
  rw [State.breach_of_new h h0, hfind, hnat]
  exact ⟨State.breachCounted_findRow h cause, State.breachCounted_nat cause⟩

variable (s c k j)

/-- A breach leaves the fuses, the links, and the slots and values of its picture. -/
theorem State.breach_keeps (cause : Nat) : (s.breach c k j cause).fuses = s.fuses ∧ (s.breach c k j cause).links = s.links ∧
    (((s.breach c k j cause).chan c).picSt k).map (·.slots) = ((s.chan c).picSt k).map (·.slots) := by
  cases h : s.findRow c k j with
  | none => simp [State.breach, h]
  | some r =>
    by_cases h0 : r.breach = 0
    · obtain ⟨-, hslots, -, hfuses, hlinks⟩ := slotFrame_eq ((s.breachCounted c k j cause r).picBreached_slotFrame c k)
      rw [State.breach_of_new h h0]
      exact ⟨hfuses, hlinks, hslots⟩
    · rw [State.breach_of_counted h h0]
      exact ⟨rfl, rfl, rfl⟩

theorem State.breach_nat_of_keySub (cause : Nat) {i : Nat} (hi : keySub i < 13) : (s.breach c k j cause).nat i = s.nat i := by
  cases h : s.findRow c k j with
  | none => simp [State.breach, h]
  | some r =>
    by_cases h0 : r.breach = 0
    · obtain ⟨-, -, hnat, -⟩ := slotFrame_eq ((s.breachCounted c k j cause r).picBreached_slotFrame c k)
      rw [State.breach_of_new h h0, hnat, State.breachCounted_nat_of_keySub cause hi]
    · rw [State.breach_of_counted h h0]

end Breach

/-! ## The ports of a picture's rows (R52) -/

section Ports

variable {s t : State} {c k : Nat}

/-- R52: the values of a picture, or the values in force where there is none, give what its rows are sent by. -/
theorem State.picView_nat_congr (hf : t.fuses = s.fuses) (hp : ((t.chan c).picSt k).map (·.slots) = ((s.chan c).picSt k).map (·.slots))
    {i : Nat} (hi : t.nat i = s.nat i) : (t.picView c k).nat i = (s.picView c k).nat i := by
  unfold State.picView
  cases ht : (t.chan c).picSt k with
  | none =>
    rw [ht, Option.map_none, eq_comm, Option.map_eq_none_iff] at hp
    simp only [hp]
    exact hi
  | some p =>
    rw [ht, Option.map_some, eq_comm, Option.map_eq_some_iff] at hp
    obtain ⟨p', hs, hpp⟩ := hp
    have hvals : p'.vals = p.vals := congrArg Prod.snd hpp
    simp only [hs, hf, hvals]

theorem legPort_eq {v w : View} (ha : v.nat (K.streamPortA c) = w.nat (K.streamPortA c)) (hb : v.nat (K.streamPortB c) = w.nat (K.streamPortB c))
    (leg : Nat) : legPort v c leg = legPort w c leg := by rw [legPort, ha, hb, legPort]

theorem sentEverywhere_eq {v w : View} {r : RowSt} (h : channelPorts v r.chan = channelPorts w r.chan) :
    sentEverywhere v r = sentEverywhere w r := by
  unfold sentEverywhere
  rw [h]

/-- Whether a row has left depends on a view by the ports of its channel only. -/
theorem rowSent_eq {v w : View} {r : RowSt} (h : channelPorts v r.chan = channelPorts w r.chan) : rowSent v r = rowSent w r := by
  rw [rowSent, sentEverywhere_eq h, h, rowSent]

/-- A breach leaves the ports to which its picture's rows go. -/
theorem State.breach_ports (s : State) (c k j cause : Nat) :
    ((s.breach c k j cause).picView c k).nat (K.streamPortA c) = (s.picView c k).nat (K.streamPortA c) ∧
      ((s.breach c k j cause).picView c k).nat (K.streamPortB c) = (s.picView c k).nat (K.streamPortB c) := by
  obtain ⟨hfuses, -, hslots⟩ := s.breach_keeps c k j cause
  exact ⟨State.picView_nat_congr hfuses hslots (s.breach_nat_of_keySub c k j cause (by simp)),
    State.picView_nat_congr hfuses hslots (s.breach_nat_of_keySub c k j cause (by simp))⟩

end Ports

/-! ## The closing of a slot (R189, R212, R284) -/

theorem State.picClosed_slotFrame (s : State) (c k : Nat) : (s.picClosed c k).slotFrame c k = s.slotFrame c k := by
  unfold State.picClosed
  split
  next p h =>
    extract_lets p' closed
    have hclosed : closed.slotFrame c k = s.slotFrame c k := s.setChan_slotFrame c k (ChanSt.setPic_map _ h rfl rfl)
    split
    · rw [State.raise_slotFrame, State.setChan_slotFrame _ _ _ (by rfl), hclosed]
    · exact hclosed
  · rfl

theorem State.picClosed_conf (s : State) (c k : Nat) : (s.picClosed c k).conf = s.conf := by
  unfold State.picClosed
  split
  · dsimp only
    split
    · simp
    · rfl
  · rfl

theorem State.findRow_dropRow (s : State) (c k j : Nat) : (s.dropRow c k j).findRow c k j = none := by
  simp only [State.findRow, State.dropRow, List.find?_filter, List.find?_eq_none]
  intro r _
  cases r.chan == c && r.pic == k && r.row == j <;> simp

section Close

variable {s : State} {c k j : Nat} {r : RowSt} (h : s.findRow c k j = some r)
include h

theorem State.retireRow_gone (hc : r.closed = true) (hr : rowSent (s.picView c k) r = true) :
    (s.retireRow c k j).findRow c k j = none ∧ (s.retireRow c k j).conf = s.conf := by
  simp only [State.retireRow, h, hc, hr]
  exact ⟨State.findRow_dropRow _ c k j, rfl⟩

theorem State.retireRow_of_unsent (hr : rowSent (s.picView c k) r = false) : s.retireRow c k j = s := by
  simp [State.retireRow, h, hr]

/-- R189: a row whose slot closes, having wholly left, is gone. -/
theorem State.slotClosed_sent (hr : rowSent (s.picView c k) r = true) :
    (((s.setRow { r with closed := true }).retireRow c k j).picClosed c k).findRow c k j = none ∧
      (((s.setRow { r with closed := true }).retireRow c k j).picClosed c k).conf = s.conf := by
  have hkey := State.findRow_key h
  obtain ⟨hgone, hconf⟩ := State.retireRow_gone (s.findRow_setRow (x := { r with closed := true }) hkey) rfl hr
  obtain ⟨hfind, -⟩ := slotFrame_eq (((s.setRow { r with closed := true }).retireRow c k j).picClosed_slotFrame c k)
  exact ⟨(hfind j).trans hgone, (State.picClosed_conf _ c k).trans hconf⟩

/-- R212: a row whose slot closes before it has left is in breach, and stays. -/
theorem State.slotClosed_late (hr : rowSent (s.picView c k) r = false) (h0 : r.breach = 0) :
    let t := (((s.setRow { r with closed := true }).breach c k j 4).retireRow c k j).picClosed c k
    t.nat (K.rateLatencyBreachCount c) = (s.nat (K.rateLatencyBreachCount c) + 1) % 2 ^ 32 ∧ t.nat (K.rateLastBreachCause c) = 4 ∧
      t.findRow c k j = some { r with closed := true, breach := 4 } := by
  intro t
  have hkey := State.findRow_key h
  have hclosed := s.findRow_setRow (x := { r with closed := true }) hkey
  obtain ⟨hrow, hcount, hcause⟩ := State.breach_new hclosed h0 4
  obtain ⟨ha, hb⟩ := (s.setRow { r with closed := true }).breach_ports c k j 4
  have hunsent : rowSent (((s.setRow { r with closed := true }).breach c k j 4).picView c k) { r with closed := true, breach := 4 } = false := by
    obtain ⟨rfl, -, -⟩ := hkey
    rw [rowSent_eq (w := s.picView r.chan k) (by simp only [channelPorts, ha, hb]; rfl)]
    exact hr
  obtain ⟨hfind, -, hnat, -⟩ := slotFrame_eq (((s.setRow { r with closed := true }).breach c k j 4).picClosed_slotFrame c k)
  have ht : t = ((s.setRow { r with closed := true }).breach c k j 4).picClosed c k := by
    simp only [t, State.retireRow_of_unsent hrow hunsent]
  rw [ht, hnat, hfind]
  exact ⟨hcount, hcause, hrow⟩

/-- R189: at Z(k, j) an open slot closes. -/
theorem execRowSlotClose_due {ch : Chan} (hch : c = ch.val) (ho : r.opened = true) (hc : r.closed = false) (hv : s.videoStopped = false)
    (hz : slotClose s c k j ≤ nowExact s) (hclk : s.boot.clocksLost = false) : exec (.rowSlotClose ch k j) s =
    .next (((if !(channelPorts (s.picView c k) c).isEmpty && !rowSent (s.picView c k) r then (s.setRow { r with closed := true }).breach c k j 4
      else s.setRow { r with closed := true }).retireRow c k j).picClosed c k) := by
  subst hch
  show execRowSlotClose ch k j s = _
  rw [execRowSlotClose, whenClocked_of_clocked hclk]
  simp only [h]
  have hdue : ¬ nowExact s < slotClose s ch.val k j := Rat.not_lt.mpr hz
  exact if_neg (by simp [ho, hc, hv, hdue])

end Close

end Sys2Proof.Machine
end

section
/-!
PROOFS. Rows whose slots are open (spec/09_mangle_network.md; R275, R278, R280 to R284): what a port and the building of frames leave of a row.
-/

namespace Sys2Proof.Machine

/-! ## How a row goes on while its slot is open -/

/-- What a row keeps from its slot's opening on: that its slot is open, its kind and its last byte; and it stays in breach (R212) and off the
ports on which it is blocked (R284). -/
structure RowSt.GoesOn (r r' : RowSt) : Prop where
  opened : r'.opened = r.opened
  kind : r'.kind = r.kind
  lastStaged : r'.lastStaged = r.lastStaged
  breach : r.breach ≠ 0 → r'.breach ≠ 0
  blocked : ∀ p, bit r.blocked p = true → bit r'.blocked p = true

/-- R212: the breach of a row counts once, where it begins. -/
def BreachCounts (c : Nat) (s t : State) (r r' : RowSt) : Prop :=
  t.nat (K.rateLatencyBreachCount c) =
    if r.breach = 0 ∧ r'.breach ≠ 0 then (s.nat (K.rateLatencyBreachCount c) + 1) % 2 ^ 32 else s.nat (K.rateLatencyBreachCount c)

/-- From s to t the row (c, k, j) goes on, and its picture keeps its slots and values. -/
structure SlotGoesOn (c k j : Nat) (s t : State) : Prop where
  slots : ((t.chan c).picSt k).map (·.slots) = ((s.chan c).picSt k).map (·.slots)
  row : ∀ r, s.findRow c k j = some r → ∃ r', t.findRow c k j = some r' ∧ r.GoesOn r' ∧ BreachCounts c s t r r'

theorem RowSt.GoesOn.refl (r : RowSt) : r.GoesOn r := ⟨rfl, rfl, rfl, id, fun _ => id⟩

theorem RowSt.GoesOn.trans {r r' r'' : RowSt} (h : r.GoesOn r') (h' : r'.GoesOn r'') : r.GoesOn r'' :=
  ⟨h'.opened.trans h.opened, h'.kind.trans h.kind, h'.lastStaged.trans h.lastStaged, h'.breach ∘ h.breach,
    fun p => h'.blocked p ∘ h.blocked p⟩

theorem BreachCounts.of_same {c : Nat} {s t : State} {r r' : RowSt} (hnat : t.nat = s.nat) (hr : r'.breach = r.breach) : BreachCounts c s t r r' := by
  unfold BreachCounts
  rw [hnat, hr, if_neg fun h => h.2 h.1]

theorem BreachCounts.trans {c : Nat} {s t u : State} {r r' r'' : RowSt} (h : BreachCounts c s t r r') (hr : r.GoesOn r')
    (h' : BreachCounts c t u r' r'') (hr' : r'.GoesOn r'') : BreachCounts c s u r r'' := by
  unfold BreachCounts at *
  rw [h', h]
  by_cases h1 : r'.breach = 0
  · have h0 : r.breach = 0 := Decidable.byContradiction fun h0 => hr.breach h0 h1
    simp [h0, h1]
  · simp [h1, hr'.breach h1]

section GoesOn

variable {c k j : Nat} {s t u : State}

theorem SlotGoesOn.trans (h : SlotGoesOn c k j s t) (h' : SlotGoesOn c k j t u) : SlotGoesOn c k j s u := by
  refine ⟨h'.slots.trans h.slots, fun r hr => ?_⟩
  obtain ⟨r', hr', hgoes, hcounts⟩ := h.row r hr
  obtain ⟨r'', hr'', hgoes', hcounts'⟩ := h'.row r' hr'
  exact ⟨r'', hr'', hgoes.trans hgoes', hcounts.trans hgoes hcounts' hgoes'⟩

theorem SlotGoesOn.of_slotFrame (h : t.slotFrame c k = s.slotFrame c k) : SlotGoesOn c k j s t := by
  obtain ⟨hfind, hslots, hnat, -⟩ := slotFrame_eq h
  exact ⟨hslots, fun r hr => ⟨r, (hfind j).trans hr, .refl r, .of_same hnat rfl⟩⟩

theorem SlotGoesOn.refl (s : State) : SlotGoesOn c k j s s := .of_slotFrame rfl

/-- A row that goes on in its place. -/
theorem SlotGoesOn.of_setRow {r x : RowSt} (h : s.findRow c k j = some r) (hx : x.chan = c ∧ x.pic = k ∧ x.row = j)
    (hgoes : r.GoesOn x) (hbreach : x.breach = r.breach) : SlotGoesOn c k j s (s.setRow x) := by
  refine ⟨rfl, fun r' hr' => ⟨x, s.findRow_setRow hx, ?_⟩⟩
  obtain rfl : r = r' := Option.some.inj (h.symm.trans hr')
  exact ⟨hgoes, .of_same rfl hbreach⟩

end GoesOn

section Row

variable (s : State) (c k j : Nat)

theorem State.raise_goesOn (e : Ev) : SlotGoesOn c k j s (s.raise e) := .of_slotFrame (s.raise_slotFrame c k e)

theorem State.breach_goesOn {cause : Nat} (hcause : cause ≠ 0) : SlotGoesOn c k j s (s.breach c k j cause) := by
  obtain ⟨-, -, hslots⟩ := s.breach_keeps c k j cause
  refine ⟨hslots, fun r hr => ?_⟩
  by_cases h0 : r.breach = 0
  · obtain ⟨hrow, hcount, -⟩ := State.breach_new hr h0 cause
    refine ⟨_, hrow, ⟨rfl, rfl, rfl, fun h => absurd h0 h, fun _ => id⟩, ?_⟩
    rw [BreachCounts, hcount, if_pos ⟨h0, hcause⟩]
  · rw [State.breach_of_counted hr h0]
    exact (SlotGoesOn.refl s).row r hr

/-- R278: a row that its gate holds goes on. -/
theorem State.heldAt_goesOn (p : Nat) : SlotGoesOn c k j s (s.heldAt c k j p) := by
  unfold State.heldAt
  split
  next r h =>
    have hkey := State.findRow_key h
    exact .of_setRow h hkey ⟨rfl, rfl, rfl, id, fun _ => id⟩ rfl
  next => exact .refl s

theorem State.blockRow_found {r x : RowSt} (h : s.findRow c k j = some x) (hr : r.chan = c ∧ r.pic = k ∧ r.row = j) (p : Nat) :
    (s.blockRow r p).findRow c k j = some { x with blocked := setBit x.blocked p true } := by
  obtain ⟨rfl, rfl, rfl⟩ := hr
  unfold State.blockRow
  extract_lets ps cleared
  have hcleared : cleared.findRow r.chan r.pic r.row = some x := h
  rw [hcleared]
  have hkey := State.findRow_key h
  exact cleared.findRow_setRow (x := { x with blocked := setBit x.blocked p true }) hkey

/-- R284: a row that is taken off a port is blocked there, and goes on. -/
theorem State.blockRow_goesOn {r : RowSt} (hr : r.chan = c ∧ r.pic = k ∧ r.row = j) (p : Nat) : SlotGoesOn c k j s (s.blockRow r p) := by
  obtain ⟨rfl, rfl, rfl⟩ := hr
  unfold State.blockRow
  extract_lets ps cleared
  have hcleared : SlotGoesOn r.chan r.pic r.row s cleared := .of_slotFrame (s.setPort_slotFrame r.chan r.pic (by exact rfl))
  split
  next x h =>
    have hkey := State.findRow_key h
    refine hcleared.trans (.of_setRow h hkey ⟨rfl, rfl, rfl, id, fun i hi => ?_⟩ rfl)
    rw [bit_setBit_true, hi, Bool.true_or]
  next => exact hcleared

/-- R275, R284: a row whose port cannot take it is taken off that port and is in breach. -/
theorem State.openPort_of_block {r : RowSt} {leg p : Nat} (hleg : legPort (s.picView c k) c leg = p) (hp : p < 8)
    (hwhy : openBlock s c k leg p ≠ 0) :
    (s.openPort c k j leg r).slotFrame c k = ((s.blockRow r p).breach c k j (openBlock s c k leg p)).slotFrame c k := by
  subst hleg
  unfold State.openPort
  extract_lets p why barred
  rw [if_neg (Nat.not_le.mpr hp), if_pos (by simpa using hwhy)]
  split
  · exact State.raise_slotFrame ..
  split
  · exact State.raise_slotFrame ..
  · rfl

/-- R275, R278, R284: what a row meets at a port lets it go on. -/
theorem State.openPort_goesOn {r : RowSt} (hr : r.chan = c ∧ r.pic = k ∧ r.row = j) (leg : Nat) :
    SlotGoesOn c k j s (s.openPort c k j leg r) := by
  by_cases hp : legPort (s.picView c k) c leg < 8
  · by_cases hwhy : openBlock s c k leg (legPort (s.picView c k) c leg) = 0
    · unfold State.openPort
      extract_lets p why
      rw [if_neg (Nat.not_le.mpr hp), if_neg (by simpa using hwhy)]
      split
      · exact ((s.heldAt_goesOn c k j p).trans (State.breach_goesOn _ c k j Nat.one_ne_zero)).trans (State.raise_goesOn ..)
      · exact .refl s
    · exact ((s.blockRow_goesOn c k j hr _).trans (State.breach_goesOn _ c k j hwhy)).trans (.of_slotFrame (s.openPort_of_block c k j rfl hp hwhy))
  · rw [State.openPort, if_pos (Nat.not_lt.mp hp)]
    exact .refl s

/-! ## The frames of a row (R280, R282) -/

theorem State.sendCut_slotFrame (r : RowSt) (x : Cut) (opening last : Bool) (rows : Nat) :
    (s.sendCut r x opening last rows).slotFrame r.chan k = s.slotFrame r.chan k := by
  unfold State.sendCut
  extract_lets v c ch seq rowEnd picEnd flags pkt numbered
  have hnumbered : numbered.slotFrame r.chan k = s.slotFrame r.chan k := s.setChan_slotFrame r.chan k (by rfl)
  rw [← hnumbered]
  refine foldl_view (view := (·.slotFrame r.chan k)) (fun s leg => ?_) _ numbered
  extract_lets p dst f ps sent
  have hsent : sent.slotFrame r.chan k = s.slotFrame r.chan k := s.setPort_slotFrame r.chan k (by exact rfl)
  split
  · rfl
  split
  · rw [State.raise_slotFrame, hsent]
  · exact hsent

/-- R282: a row goes on as its frames are built. -/
theorem State.buildFrames_goesOn (fuel : Nat) : SlotGoesOn c k j s (State.buildFrames fuel s c k j) := by
  induction fuel generalizing s with
  | zero => exact .refl s
  | succ fuel ih =>
    unfold State.buildFrames
    split
    · exact .refl s
    next r h =>
      have hcut {t : State} (ht : t.slotFrame c k = s.slotFrame c k) {x : RowSt} (hx : x.chan = c ∧ x.pic = k ∧ x.row = j)
          (hgoes : r.GoesOn x) (hbreach : x.breach = r.breach) : SlotGoesOn c k j s (State.buildFrames fuel (t.setRow x) c k j) := by
        obtain ⟨hfind, -⟩ := slotFrame_eq ht
        exact ((SlotGoesOn.of_slotFrame ht).trans (.of_setRow ((hfind j).trans h) hx hgoes hbreach)).trans (ih _)
      obtain ⟨rfl, rfl, rfl⟩ := State.findRow_key h
      extract_lets v rows opening
      split
      · exact .refl s
      split
      · split
        · exact .refl s
        next x cont _ =>
          refine hcut ?_ ⟨rfl, rfl, rfl⟩ ⟨rfl, rfl, rfl, id, fun _ => id⟩ rfl
          rw [State.sendCut_slotFrame]
          exact s.setChan_slotFrame _ _ (by rfl)
      · split
        · exact .refl s
        next x _ =>
          refine hcut ?_ ⟨rfl, rfl, rfl⟩ ⟨rfl, rfl, rfl, id, fun _ => id⟩ rfl
          split
          · rfl
          · exact State.sendCut_slotFrame _ _ r x _ _ _

theorem State.build_goesOn : SlotGoesOn c k j s (s.build c k j) := by
  unfold State.build
  split
  · exact s.buildFrames_goesOn c k j _
  · exact .refl s

end Row

end Sys2Proof.Machine
end

section
/-!
PROOFS. The slots of rows (spec/05_loom_encoding.md, spec/06_latency_rate.md; R176, R188, R189, R212, R284): their opening and their closing.
-/

namespace Sys2Proof.Machine

/-! ## The opening of a slot (R188, R189, R275, R284) -/

/-- R212: a row over whose opening a step of presented time has passed is in breach. -/
def State.slotStepped (s : State) (c k j : Nat) : State :=
  if steppedOver s (slotOpen s c k j) && !(channelPorts (s.picView c k) c).isEmpty then s.breach c k j 2 else s

section Open

variable {s : State} {c k j : Nat} {p : PicSt}

/-- R176, R188: at its slot a row is in progress, a hold row where no loom has started it; its picture is there still. -/
theorem State.rowOrHold_found (hp : (s.chan c).picSt k = some p) :
    (∃ r, (s.rowOrHold c k j).findRow c k j = some r ∧ (s.findRow c k j = none → r.kind = .hold ∧ r.lastStaged = true)) ∧
      ∃ p', ((s.rowOrHold c k j).chan c).picSt k = some p' := by
  unfold State.rowOrHold
  cases h : s.findRow c k j with
  | some r => exact ⟨⟨r, h, nofun⟩, p, hp⟩
  | none =>
    obtain ⟨⟨r, hr, hhold⟩, hslots⟩ := State.holdRow_found (old := { chan := c, pic := k, row := j, kind := .hold }) hp rfl
    obtain ⟨p', hp', -⟩ := Option.map_eq_some_iff.mp hslots
    exact ⟨⟨r, hr, fun _ => hhold⟩, p', hp'⟩

theorem State.rowOrHold_of_found {r : RowSt} (h : s.findRow c k j = some r) : s.rowOrHold c k j = s := by simp [State.rowOrHold, h]

theorem State.slotNoted_picSt (hp : (s.chan c).picSt k = some p) :
    ((s.slotNoted c k j).chan c).picSt k = some { p with opened := setBit p.opened j true } := by
  obtain rfl := ChanSt.picSt_pic hp
  simp only [State.slotNoted, hp, State.chan_setChan]
  exact (s.chan c).picSt_setPic { p with opened := setBit p.opened j true }

theorem State.slotNoted_picView (hp : (s.chan c).picSt k = some p) : (s.slotNoted c k j).picView c k = s.picView c k := by
  simp only [State.picView, State.slotNoted_picSt hp, hp]
  rfl

theorem State.slotStepped_goesOn (s : State) : SlotGoesOn c k j s (s.slotStepped c k j) := by
  unfold State.slotStepped
  split
  · exact s.breach_goesOn c k j (by decide)
  · exact .refl s

theorem State.openRowSlot_eq (s : State) (r : RowSt) : s.openRowSlot c k j r =
    ((((s.setRow r).slotStepped c k j).openPort c k j 0 r).openPort c k j 1 r).build c k j := rfl

/-- A step over the opening leaves the ports of the row and their links. -/
theorem State.slotStepped_ports (s : State) : (s.slotStepped c k j).links = s.links ∧
    ∀ leg, legPort ((s.slotStepped c k j).picView c k) c leg = legPort (s.picView c k) c leg := by
  unfold State.slotStepped
  split
  · obtain ⟨ha, hb⟩ := s.breach_ports c k j 2
    obtain ⟨-, hlinks, -⟩ := s.breach_keeps c k j 2
    exact ⟨hlinks, legPort_eq ha hb⟩
  · exact ⟨rfl, fun _ => rfl⟩

/-- R275: a port whose link is down cannot take a row. -/
theorem openBlock_of_down {port : Nat} (h : s.links port = false) (leg : Nat) : openBlock s c k leg port ≠ 0 := by
  have hdown : (s.port port).linkUp = false := h
  unfold openBlock
  extract_lets v ps dst
  split
  · decide
  split
  · decide
  rw [if_pos (by simp [ps, hdown])]
  decide

/-- R212, R284: a row that meets a port whose link is down is in breach and is not sent there. -/
theorem State.openPort_down {r x : RowSt} (h : s.findRow c k j = some x) (hr : r.chan = c ∧ r.pic = k ∧ r.row = j) {leg port : Nat}
    (hleg : legPort (s.picView c k) c leg = port) (hport : port < 8) (hdown : s.links port = false) :
    ∃ r', (s.openPort c k j leg r).findRow c k j = some r' ∧ r'.breach ≠ 0 ∧ bit r'.blocked port = true := by
  have hwhy := openBlock_of_down (c := c) (k := k) hdown leg
  obtain ⟨hfind, -⟩ := slotFrame_eq (s.openPort_of_block c k j (r := r) hleg hport hwhy)
  have hblocked := s.blockRow_found c k j h hr port
  have hbit : bit (setBit x.blocked port true) port = true := by simp [bit_setBit_true]
  rw [hfind]
  by_cases h0 : x.breach = 0
  · exact ⟨_, (State.breach_new hblocked h0 _).1, hwhy, hbit⟩
  · rw [State.breach_of_counted hblocked h0]
    exact ⟨_, hblocked, h0, hbit⟩

/-- R188: at O(k, j) a slot that has not opened opens. -/
theorem execRowSlotOpen_due {ch : Chan} (hch : c = ch.val) (hp : (s.chan c).picSt k = some p) (hv : s.videoStopped = false) (hj : j < p.rows)
    (ho : bit p.opened j = false) (hz : slotOpen s c k j ≤ nowExact s) {r : RowSt} (hr : (s.rowOrHold c k j).findRow c k j = some r)
    (hclk : s.boot.clocksLost = false) : exec (.rowSlotOpen ch k j) s =
      .next (((s.rowOrHold c k j).slotNoted c k j).openRowSlot c k j { r with opened := true, phase := ((s.rowOrHold c k j).chan c).nextPhase }) := by
  subst hch
  have hnoted : ((s.rowOrHold ch.val k j).slotNoted ch.val k j).findRow ch.val k j = some r := hr
  show execRowSlotOpen ch k j s = _
  rw [execRowSlotOpen, whenClocked_of_clocked hclk]
  simp only [hp, hnoted]
  have hdue : ¬ nowExact s < slotOpen s ch.val k j := Rat.not_lt.mpr hz
  exact if_neg (by simp [hv, hj, ho, hdue])

theorem State.openRowSlot_goesOn (s : State) {r : RowSt} (hr : r.chan = c ∧ r.pic = k ∧ r.row = j) :
    SlotGoesOn c k j (s.setRow r) (s.openRowSlot c k j r) := by
  rw [State.openRowSlot_eq]
  exact (((State.slotStepped_goesOn _).trans (State.openPort_goesOn _ c k j hr 0)).trans (State.openPort_goesOn _ c k j hr 1)).trans
    (State.build_goesOn _ c k j)

/-- R212, R284: a row whose first port's link is down at its slot is in breach, once, and is not sent there. -/
theorem State.openRowSlot_down {r : RowSt} (hr : r.chan = c ∧ r.pic = k ∧ r.row = j) (h0 : r.breach = 0) {port : Nat}
    (hleg : legPort (s.picView c k) c 0 = port) (hport : port < 8) (hdown : s.links port = false) :
    (s.openRowSlot c k j r).nat (K.rateLatencyBreachCount c) = (s.nat (K.rateLatencyBreachCount c) + 1) % 2 ^ 32 ∧
      ∃ r', (s.openRowSlot c k j r).findRow c k j = some r' ∧ r'.breach ≠ 0 ∧ bit r'.blocked port = true := by
  have hset := s.findRow_setRow hr
  obtain ⟨hlinks, hlegs⟩ := (s.setRow r).slotStepped_ports (c := c) (k := k) (j := j)
  obtain ⟨stepped, hstepped, -, -⟩ := ((s.setRow r).slotStepped_goesOn (c := c) (k := k) (j := j)).row r hset
  obtain ⟨barred, hbarred, hbreach, hblocked⟩ :=
    State.openPort_down hstepped hr ((hlegs 0).trans hleg) hport ((congrFun hlinks port).trans hdown)
  obtain ⟨last, hlast, hgoes, -⟩ := ((State.openPort_goesOn _ c k j hr 1).trans (State.build_goesOn _ c k j)).row barred hbarred
  obtain ⟨last', hlast', -, hcount⟩ := (s.openRowSlot_goesOn hr).row r hset
  obtain rfl : last = last' := Option.some.inj (hlast.symm.trans hlast')
  have hin : last.breach ≠ 0 := hgoes.breach hbreach
  rw [BreachCounts, if_pos ⟨h0, hin⟩] at hcount
  exact ⟨hcount, last, hlast, hin, hgoes.blocked _ hblocked⟩

end Open

/-! ## The commands (R188, R189) -/

section Due

variable {s : State} {c : Chan} {k j : Nat} {p : PicSt} (hp : (s.chan c.val).picSt k = some p) (hv : s.videoStopped = false) (hj : j < p.rows)
  (ho : bit p.opened j = false) (hz : slotOpen s c.val k j ≤ nowExact s)
include hp hv hj ho hz

/-- R176, R188: at O(k, j) the slot is open and its row in it. -/
theorem rowSlotOpen_opens : Completes (.rowSlotOpen c k j) s fun t =>
    (∃ p', (t.chan c.val).picSt k = some p' ∧ bit p'.opened j = true) ∧ ∃ r, t.findRow c.val k j = some r ∧ r.opened = true ∧
      (s.findRow c.val k j = none → r.kind = .hold ∧ r.lastStaged = true) := fun hclk => by
  obtain ⟨⟨r, hr, hhold⟩, p', hp'⟩ := State.rowOrHold_found (j := j) hp
  refine ⟨_, execRowSlotOpen_due rfl hp hv hj ho hz hr hclk, ?_⟩
  generalize ((s.rowOrHold c.val k j).chan c.val).nextPhase = phase
  have hkey := State.findRow_key hr
  have hset := ((s.rowOrHold c.val k j).slotNoted c.val k j).findRow_setRow (x := { r with opened := true, phase := phase }) hkey
  obtain ⟨hslots, hrow⟩ := ((s.rowOrHold c.val k j).slotNoted c.val k j).openRowSlot_goesOn (r := { r with opened := true, phase := phase }) hkey
  obtain ⟨r', hr', hgoes, -⟩ := hrow _ hset
  obtain ⟨p'', hp'', hopened⟩ := Option.map_eq_some_iff.mp (hslots.trans (congrArg _ (State.slotNoted_picSt (j := j) hp')))
  refine ⟨⟨p'', hp'', ?_⟩, r', hr', hgoes.opened, fun hnone => ⟨hgoes.kind.trans (hhold hnone).1, hgoes.lastStaged.trans (hhold hnone).2⟩⟩
  have hbits : p''.opened = setBit p'.opened j true := congrArg Prod.fst hopened
  simp [hbits, bit_setBit_true]

/-- R212, R284: where the row's first port has lost its link, the row is in breach, and is not sent there. -/
theorem rowSlotOpen_down {r : RowSt} (hr : s.findRow c.val k j = some r) (h0 : r.breach = 0) (hport : legPort (s.picView c.val k) c.val 0 < 8)
    (hdown : (s.port (legPort (s.picView c.val k) c.val 0)).linkUp = false) : Completes (.rowSlotOpen c k j) s fun t =>
      t.nat (K.rateLatencyBreachCount c.val) = (s.nat (K.rateLatencyBreachCount c.val) + 1) % 2 ^ 32 ∧
        ∃ r', t.findRow c.val k j = some r' ∧ r'.breach ≠ 0 ∧ bit r'.blocked (legPort (s.picView c.val k) c.val 0) = true := fun hclk => by
  have hself := State.rowOrHold_of_found hr
  refine ⟨_, execRowSlotOpen_due rfl hp hv hj ho hz ((congrArg (·.findRow c.val k j) hself).trans hr) hclk, ?_⟩
  rw [hself]
  have hkey := State.findRow_key hr
  have hleg := congrArg (legPort · c.val 0) (State.slotNoted_picView (j := j) hp)
  exact State.openRowSlot_down (r := { r with opened := true, phase := (s.chan c.val).nextPhase }) hkey h0 hleg hport hdown

end Due

section Close

variable {s : State} {c : Chan} {k j : Nat} {r : RowSt} (hr : s.findRow c.val k j = some r) (ho : r.opened = true) (hc : r.closed = false)
  (hv : s.videoStopped = false) (hz : slotClose s c.val k j ≤ nowExact s)
include hr ho hc hv hz

theorem rowSlotClose_sent (hsent : rowSent (s.picView c.val k) r = true) :
    Completes (.rowSlotClose c k j) s fun t => t.findRow c.val k j = none ∧ t.conf = s.conf := fun hclk => by
  refine ⟨_, execRowSlotClose_due hr rfl ho hc hv hz hclk, ?_⟩
  rw [if_neg (by simp [hsent])]
  exact State.slotClosed_sent hr hsent

theorem rowSlotClose_late (hsent : rowSent (s.picView c.val k) r = false) (hports : channelPorts (s.picView c.val k) c.val ≠ [])
    (h0 : r.breach = 0) : Completes (.rowSlotClose c k j) s fun t =>
      t.nat (K.rateLatencyBreachCount c.val) = (s.nat (K.rateLatencyBreachCount c.val) + 1) % 2 ^ 32 ∧
        t.nat (K.rateLastBreachCause c.val) = 4 ∧ ∃ r', t.findRow c.val k j = some r' ∧ r'.closed = true ∧ r'.breach = 4 := fun hclk => by
  refine ⟨_, execRowSlotClose_due hr rfl ho hc hv hz hclk, ?_⟩
  rw [if_pos (by simp [hsent, hports])]
  obtain ⟨hcount, hcause, hrow⟩ := State.slotClosed_late hr hsent h0
  exact ⟨hcount, hcause, _, hrow, rfl, rfl⟩

end Close

/-- Settles O30: a slot opens by `rowSlotOpen_opens`, over a port whose link is down by `rowSlotOpen_down`, and closes by `rowSlotClose_sent`
and `rowSlotClose_late`. -/
theorem rowSlotsOpenAndClose : Obligations.RowSlotsOpenAndClose := by
  unfold Obligations.RowSlotsOpenAndClose
  exact ⟨fun s c k j p hp hv hj ho hz => ⟨rowSlotOpen_opens hp hv hj ho hz,
      fun r hr h0 hport _ _ hdown => rowSlotOpen_down hp hv hj ho hz hr h0 hport hdown⟩,
    fun s c k j r hr ho hc hv hz => ⟨rowSlotClose_sent hr ho hc hv hz, rowSlotClose_late hr ho hc hv hz⟩⟩

end Sys2Proof.Machine
end

section
/-!
PROOFS. The pending bits of the Mending Log (spec/17_faults_log.md; R456): what an event and all that follows from it leave of them.
-/

namespace Sys2Proof.Machine

/-! ## What leaves the log as it is -/

theorem State.vector_log (s : State) (v : Nat) : (s.vector v).log = s.log := by
  unfold State.vector
  dsimp only
  repeat' split
  all_goals rfl

theorem State.eventVector_log (s : State) (src sev : Nat) : (s.eventVector src sev).log = s.log := by
  unfold State.eventVector
  dsimp only
  split <;> simp only [State.vector_log]

theorem State.queueFrame_log (s : State) (f : TxFrame) : (s.queueFrame f).log = s.log := by
  unfold State.queueFrame
  split <;> rfl

theorem State.shedMessage_log (s : State) (type keyId tid : Nat) (items : List Bytes) (status sender : Nat) :
    (s.shedMessage type keyId tid items status sender).1.log = s.log := by
  unfold State.shedMessage
  dsimp only
  split <;> rfl

theorem State.notifyOne_log (s : State) (i src sev : Nat) : (s.notifyOne i src sev).log = s.log := by
  unfold State.notifyOne
  extract_lets -underBinder addr held item tid
  split
  · rfl
  split
  · rfl
  split
  next t msg h =>
    exact (State.queueFrame_log _ _).trans ((congrArg (fun x => x.1.log) h).symm.trans (State.shedMessage_log ..))

theorem State.notify_log (s : State) (src sev : Nat) : (s.notify src sev).log = s.log :=
  foldl_view (view := State.log) (fun s i => s.notifyOne_log i src sev) _ s

/-! ## What leaves the pending bits as they are -/

theorem State.logAsk_pending (s : State) (r : LogReq) : (s.logAsk r).log.pending = s.log.pending := by
  unfold State.logAsk
  repeat' split
  all_goals rfl

theorem State.endTracker_pending (s : State) (t : Tracker) : (s.endTracker t).log.pending = s.log.pending := by
  unfold State.endTracker
  dsimp only
  split
  · rfl
  · exact State.logAsk_pending _ _

/-! ## An event (R456) -/

/-- R456: the sources whose events set a pending bit. -/
def pends (src : Nat) : Bool := isSource src && !isDoorbell src

/-- R456: an event of a source that pends sets the bit of its source. -/
theorem State.signal_pending (s : State) (e : Ev) :
    (s.signal e).1.log.pending = if pends e.src then setBit s.log.pending e.src true else s.log.pending := by
  unfold State.signal pends
  cases hsource : isSource e.src with
  | false => rfl
  | true =>
  cases hbell : isDoorbell e.src with
  | true => rfl
  | false =>
  rw [if_neg (by decide), if_pos (by decide)]
  extract_lets -underBinder sev l marked ended
  have hended : ended.log.pending = setBit s.log.pending e.src true := by
    simp only [ended]
    split
    · split
      · exact State.endTracker_pending marked _
      · rfl
    · rfl
  clear_value marked ended
  split
  · split
    · rw [State.notify_log, State.eventVector_log]
      exact hended
    · exact hended
  · rw [State.notify_log, State.eventVector_log]
    split <;> exact hended

theorem State.raiseBase_pending (s : State) (e : Ev) :
    (s.raiseBase e).log.pending = if pends e.src then setBit s.log.pending e.src true else s.log.pending := by
  unfold State.raiseBase
  rw [← s.signal_pending e]
  split
  next t entry h =>
    rw [h]
    split
    · exact State.logAsk_pending t _
    · rfl

/-- Every pending bit of s stands in t. -/
def PendingKept (s t : State) : Prop := ∀ i, bit s.log.pending i = true → bit t.log.pending i = true

theorem PendingKept.of_eq {s t : State} (h : t.log.pending = s.log.pending) : PendingKept s t := fun i => by rw [h]; exact id

theorem PendingKept.trans {s t u : State} (h : PendingKept s t) (k : PendingKept t u) : PendingKept s u := fun i hi => k i (h i hi)

theorem PendingKept.foldl {α : Type} {f : State → α → State} (h : ∀ s x, PendingKept s (f s x)) (l : List α) (s : State) :
    PendingKept s (l.foldl f s) := by
  induction l generalizing s with
  | nil => exact .of_eq rfl
  | cons x l ih => exact (h s x).trans (ih (f s x))

/-- An event of a state whose pending bits are those of s. -/
theorem State.raiseBase_pendingKept {s t : State} (h : t.log.pending = s.log.pending) (e : Ev) : PendingKept s (t.raiseBase e) := fun i hi => by
  rw [State.raiseBase_pending, h]
  split
  · rw [bit_setBit_true, hi, Bool.true_or]
  · exact hi

theorem State.raiseBaseLimited_pendingKept (s : State) (key : Nat) (e : Ev) : PendingKept s (s.raiseBaseLimited key e) := by
  unfold State.raiseBaseLimited
  split
  · split
    · exact State.raiseBase_pendingKept (by exact rfl) e
    · exact .of_eq rfl
  · exact State.raiseBase_pendingKept (by exact rfl) e

theorem State.wakeThread_pendingKept (s : State) (t : Nat) : PendingKept s (s.wakeThread t) := by
  have hfull : PendingKept s ((s.stallWake t).raiseBaseLimited 544 { src := 544 }) := fun i =>
    (s.stallWake t).raiseBaseLimited_pendingKept 544 _ i
  unfold State.wakeThread
  dsimp only
  split
  · exact .of_eq rfl
  split
  · split <;> exact hfull
  · exact hfull

theorem State.wakeSource_pendingKept (s : State) (src : Nat) : PendingKept s (s.wakeSource src) := by
  unfold State.wakeSource
  split
  · exact s.wakeThread_pendingKept _
  · exact .of_eq rfl

theorem State.reportDrops_pendingKept (s0 s : State) : PendingKept s (State.reportDrops s0 s) := by
  unfold State.reportDrops
  dsimp only
  repeat' split
  · exact .of_eq rfl
  · exact s.raiseBaseLimited_pendingKept 629 _
  · exact (s.raiseBaseLimited_pendingKept 629 _).trans (State.wakeSource_pendingKept _ _)

theorem State.reportPool_pendingKept (s0 s : State) (p : Nat) : PendingKept s (State.reportPool s0 s p) := by
  unfold State.reportPool
  split
  · exact (State.raiseBase_pendingKept rfl _).trans (State.wakeSource_pendingKept _ _)
  · exact .of_eq rfl

/-- What follows from an event after its own bit is set takes no bit away. -/
theorem State.raise_pendingKept_base (s : State) (e : Ev) : PendingKept (s.raiseBase e) (s.raise e) := by
  unfold State.raise
  extract_lets base woken
  have hwoken : PendingKept base woken := by
    simp only [woken]
    split
    · exact State.wakeSource_pendingKept base _
    · exact .of_eq rfl
  exact (hwoken.trans (PendingKept.foldl (State.reportPool_pendingKept s) (List.range 8) woken)).trans (State.reportDrops_pendingKept s _)

/-- R456: the bit of its source is set once an event is raised. -/
theorem State.raise_pending (s : State) {e : Ev} (h : pends e.src = true) : bit (s.raise e).log.pending e.src = true :=
  s.raise_pendingKept_base e e.src (by rw [State.raiseBase_pending, if_pos h, bit_setBit_true]; simp)

end Sys2Proof.Machine
end

section
/-!
PROOFS. A principal's own write of one object (spec/02_draft_control.md; R38, R43, R47): what reaches an object that takes effect at once, and what
the write and its reply leave beside that effect.
-/

namespace Sys2Proof.Machine

/-! ## Keys (R36) -/

theorem keyIdx_objKey (idx : Nat) {sub : Nat} (h : sub < 256) : keyIdx (objKey idx sub) = idx := by
  unfold keyIdx objKey
  omega

theorem objKey_keyIdx_keySub (k : Nat) : objKey (keyIdx k) (keySub k) = k := Nat.div_add_mod' k 256

/-- Objects of different indexes are different. -/
theorem key_ne_of_keyIdx {k j : Nat} (h : keyIdx k ≠ keyIdx j) : k ≠ j := fun hk => h (congrArg keyIdx hk)

/-- An object set leaves every object of another index. -/
theorem State.nat_setN_of_keyIdx (s : State) {k j : Nat} (v : Nat) (h : keyIdx k ≠ keyIdx j) : (s.setN k v).nat j = s.nat j :=
  s.nat_setN_ne v (key_ne_of_keyIdx h)

/-! ## Beside a write's effect -/

/-- The objects, the video, the clocks and the log stand in t as in s: t differs by what a write does beside its effect. -/
structure BesideWrite (s t : State) : Prop where
  objs : t.objs = s.objs
  fuses : t.fuses = s.fuses
  video : t.video = s.video
  clk : t.clk = s.clk
  log : t.log = s.log

theorem BesideWrite.refl (s : State) : BesideWrite s s := ⟨rfl, rfl, rfl, rfl, rfl⟩

/-- R47: the reply. -/
theorem State.emit_besideWrite (s : State) (o : Sent) : BesideWrite s (s.emit o) := ⟨rfl, rfl, rfl, rfl, rfl⟩

/-- R48: the renewal of the 60 s of the writer's set. -/
theorem State.touch_besideWrite (s : State) (p : Prin) : BesideWrite s (s.touch p) := by
  cases p <;> exact ⟨rfl, rfl, rfl, rfl, rfl⟩

/-- What reads the objects and the video reads the same. -/
theorem BesideWrite.readings {s t : State} (h : BesideWrite s t) :
    t.nat = s.nat ∧ t.flag = s.flag ∧ t.chan = s.chan ∧ t.loom = s.loom ∧ nowNs t = nowNs s := by
  refine ⟨funext (State.nat_congr h.objs h.fuses), funext (State.flag_congr h.objs h.fuses), ?_, ?_, ?_⟩
  · funext c
    rw [State.chan, h.video, State.chan]
  · funext l
    rw [State.loom, h.video, State.loom]
  · rw [nowNs, h.clk, nowNs]

/-! ## A write that takes effect at once (R47) -/

theorem heldPlain_touch (s : State) (p : Prin) (idx : Nat) : heldPlain (s.touch p) idx = heldPlain s idx := by
  cases p <;> rfl

section Command

variable {s : State} {p : Prin} {k : Nat} {v : Val} {d : ObjDef} (hrow : lookup (keyIdx k) (keySub k) = .ok d)
  (hacc : d.acc.of p = .wo ∨ d.acc.of p = .rw) (hval : valueOk d (keyIdx k) (keySub k) v = true) (hflow : keyIdx k ≠ 0x5801) (hheld : Unheld s k)
include hrow hacc hval hflow hheld

/-- R47: a good write of an object that its writer's access makes immediate is the object's own command. -/
theorem State.objectWrite_command : s.objectWrite p k v = (s.touch p).command p k v := by
  have hmay : mayWrite d p = true := by
    unfold mayWrite
    obtain h | h := hacc <;> rw [h]
  have hrwc : d.acc.of p ≠ .rwc := by
    obtain h | h := hacc <;> simp [h]
  have hheld' : heldPlain (s.touch p) (keyIdx k) = false := (heldPlain_touch s p _).trans hheld
  simp [State.objectWrite, hrow, hmay, hval, State.storeWrite, readOnlyFlow, hflow, hheld', hrwc, keyFor, objKey_keyIdx_keySub]

/-- R47: beside that command there is its reply. -/
theorem State.direct_command (hst : ((s.touch p).command p k v).2 ≠ stStaged) :
    BesideWrite ((s.touch p).command p k v).1 (s.direct p k v) := by
  simp only [State.direct, State.objectWrite_command hrow hacc hval hflow hheld]
  rw [if_neg (by simp [hst])]
  exact State.emit_besideWrite _ _

end Command

end Sys2Proof.Machine
end

section
/-!
PROOFS. Darn requests (spec/07_darning_qualification.md; R233, R245): what a request by an open route comes to, and one by a closed route.
-/

namespace Sys2Proof.Machine

/-! ## The objects of a channel's sweep -/

/-- The counts of darn requests stand beside the objects on show at one index. -/
@[simp] theorem keySub_darnStatus (c : Nat) :
    keySub (K.darnSweepState c) = 1 ∧ keySub (K.darnPostponedThisSweep c) = 4 ∧ keySub (K.darnRefreshFlags c) = 5 ∧
      keySub (K.darnDarnRequests c) = 10 ∧ keySub (K.darnDarnCoalesced c) = 11 :=
  ⟨keySub_objKey _ 1, keySub_objKey _ 4, keySub_objKey _ 5, keySub_objKey _ 10, keySub_objKey _ 11⟩

theorem State.showSweep_chan (s : State) (c : Nat) : (s.showSweep c).chan = s.chan := rfl

@[simp] theorem State.nat_setChan (s : State) (c : Nat) (x : ChanSt) : (s.setChan c x).nat = s.nat := rfl

theorem State.nat_showSweep_darnRequests (s : State) (c : Nat) : (s.showSweep c).nat (K.darnDarnRequests c) = s.nat (K.darnDarnRequests c) := by
  simp [State.showSweep, State.nat_setN_of_keySub]

/-- R457: a channel's darn request events pend. -/
theorem pends_sweep : ∀ c : Chan, pends (167 + 8 * c.val) = true := by decide

/-! ## What a request comes to (R233, R245) -/

/-- No answer to a darn request says that it is staged. -/
theorem State.darnAsk_status (s : State) (c : Nat) (route : DarnRoute) : (s.darnAsk c route).2 ≠ stStaged := by
  unfold State.darnAsk
  extract_lets
  repeat' split
  all_goals simp [stStaged]

/-- R245: a request by RTCP while its route is closed. -/
theorem State.darnAsk_closed {s : State} {c : Nat} (h : bit (s.nat (K.darnDarnSources c)) 2 = false) :
    (s.darnAsk c .rtcp).1 = s.bump (K.darnDarnRefused c) := by
  simp [State.darnAsk, routeBit, h]

/-- R233: a request by this route to channel c is taken: the route is open, and the channel is coded. -/
structure DarnOpen (s : State) (c : Nat) (route : DarnRoute) : Prop where
  source : bit (s.nat (K.darnDarnSources c)) (routeBit route) = true
  enabled : s.flag (K.loomEncodeEnable c) = true
  coded : (s.chan c).encoding = true

theorem DarnOpen.beside {s u : State} {c : Nat} {route : DarnRoute} (h : DarnOpen s c route) (hu : BesideWrite s u) : DarnOpen u c route := by
  obtain ⟨hnat, hflag, hchan, -, -⟩ := hu.readings
  exact ⟨by rw [hnat, h.source], by rw [hflag, h.enabled], by rw [hchan, h.coded]⟩

section Open

variable {s : State} {c : Nat} {route : DarnRoute} (h : DarnOpen s c route)
include h

/-- R233: a request beside one that waits. -/
theorem State.darnAsk_coalesced (hone : (s.chan c).pendingReq.isSome = true ∨ (s.chan c).waiting.isSome = true) :
    (s.darnAsk c route).1 = (s.bump (K.darnDarnRequests c)).bump (K.darnDarnCoalesced c) := by
  have hchan : (s.bump (K.darnDarnRequests c)).chan = s.chan := rfl
  simp [State.darnAsk, h.source, h.enabled, h.coded, hchan, hone]

variable (hpend : (s.chan c).pendingReq = none) (hwait : (s.chan c).waiting = none)
include hpend hwait

/-- R233: a request while a sweep runs. -/
theorem State.darnAsk_joins {w : Sweep} (hsweep : (s.chan c).sweep = some w) :
    (s.darnAsk c route).1 =
      ((s.bump (K.darnDarnRequests c)).setChan c { s.chan c with pendingReq := some { arrived := nowNs s } }).showSweep c := by
  have hchan : (s.bump (K.darnDarnRequests c)).chan = s.chan := rfl
  have hnow : nowNs (s.bump (K.darnDarnRequests c)) = nowNs s := rfl
  simp [State.darnAsk, h.source, h.enabled, h.coded, hchan, hnow, hpend, hwait, hsweep]

/-- R233: a request while no sweep runs. -/
theorem State.darnAsk_waits (hsweep : (s.chan c).sweep = none) :
    (s.darnAsk c route).1 = State.raise
      (((s.bump (K.darnDarnRequests c)).setChan c { s.chan c with waiting := some { arrived := nowNs s } }).showSweep c)
      { src := 167 + 8 * c, unit := c } := by
  have hchan : (s.bump (K.darnDarnRequests c)).chan = s.chan := rfl
  have hnow : nowNs (s.bump (K.darnDarnRequests c)) = nowNs s := rfl
  simp [State.darnAsk, h.source, h.enabled, h.coded, hchan, hnow, hpend, hwait, hsweep]

end Open

/-! ## The write of DarnRequest (R45) -/

/-- The row of DarnRequest in the object tables. -/
def darnRequestRow : ObjDef := ⟨0x4020, 0x80, 16, 0, 1, 4, 1, .bool, 0, 0, accWoWoWoWo, .none, none⟩

theorem keyIdx_darnRequest (c : Nat) : keyIdx (K.darnDarnRequest c) = 0x4020 + 0x80 * c := keyIdx_objKey _ (by decide)

theorem findDef_darnRequest : ∀ c : Chan,
    findDef (keyIdx (K.darnDarnRequest c.val)) (keySub (K.darnDarnRequest c.val)) = some darnRequestRow := by
  decide

theorem lookup_darnRequest (c : Chan) : lookup (keyIdx (K.darnDarnRequest c.val)) (keySub (K.darnDarnRequest c.val)) = .ok darnRequestRow := by
  simp only [lookup, findDef_darnRequest]

theorem valueOk_darnRequest : ∀ c : Chan,
    valueOk darnRequestRow (keyIdx (K.darnDarnRequest c.val)) (keySub (K.darnDarnRequest c.val)) (.int 1) = true := by
  decide

theorem State.command_darnRequest (s : State) (p : Prin) (c : Chan) :
    s.command p (K.darnDarnRequest c.val) (.int 1) = s.darnAsk c.val p.route := by
  have hidx := keyIdx_darnRequest c.val
  have hc := c.isLt
  have hne {j : Nat} (hj : keyIdx j < 0x4000 ∨ 0x4800 ≤ keyIdx j) : K.darnDarnRequest c.val ≠ j := key_ne_of_keyIdx (by omega)
  have hkeys : ¬(0x1180 ≤ 0x4020 + 0x80 * c.val ∧ 0x4020 + 0x80 * c.val < 0x1188) := by omega
  have hdarn : 0x4000 ≤ 0x4020 + 0x80 * c.val ∧ 0x4020 + 0x80 * c.val < 0x4800 := by omega
  have hchan : (0x4020 + 0x80 * c.val - 0x4000) / 128 = c.val := by omega
  have hone (f : State × Nat) : onOne s (.int 1) f = f := rfl
  unfold State.command
  simp (disch := decide) only [hidx, hne, if_false, Bool.and_eq_true, decide_eq_true_eq, hkeys, hdarn, and_self, if_true, hchan, hone]

/-- R45, R233: a request that no held function refuses is asked of the channel, with the objects, the video, the clocks and the log as they are;
beside that there is at most a principal's reply. -/
theorem completes_darnRequest {s : State} {route : DarnRoute} {c : Chan} {post : State → Prop}
    (hheld : route = .rtcp ∨ Unheld s (K.darnDarnRequest c.val))
    (hpost : ∀ u t, BesideWrite s u → BesideWrite (u.darnAsk c.val route).1 t → post t) : Completes (.darnRequest route c) s post := fun hclk => by
  have hwrite (p : Prin) (hp : p.route = route) (hh : Unheld s (K.darnDarnRequest c.val)) :
      post (s.direct p (K.darnDarnRequest c.val) (.int 1)) := by
    have hflow : keyIdx (K.darnDarnRequest c.val) ≠ 0x5801 := by
      have hidx := keyIdx_darnRequest c.val
      omega
    have hacc : darnRequestRow.acc.of p = .wo := by cases p <;> rfl
    have hbeside := State.direct_command (lookup_darnRequest c) (.inl hacc) (valueOk_darnRequest c) hflow hh
    rw [State.command_darnRequest, hp] at hbeside
    exact hpost _ _ (s.touch_besideWrite p) (hbeside (State.darnAsk_status _ _ _))
  have hplain (h : route ≠ .rtcp) : Unheld s (K.darnDarnRequest c.val) := hheld.resolve_left h
  cases route with
  | host => exact ⟨_, whenClocked_of_clocked hclk _, hwrite .host rfl (hplain nofun)⟩
  | net => exact ⟨_, whenClocked_of_clocked hclk _, hwrite .net rfl (hplain nofun)⟩
  | chain => exact ⟨_, whenClocked_of_clocked hclk _, hwrite .chain rfl (hplain nofun)⟩
  | rtcp => exact ⟨_, whenClocked_of_clocked hclk _, hpost s _ (.refl s) (.refl _)⟩

/-! ## The clauses of R233 and R245 -/

section Open

variable {s : State} {c : Chan} {route : DarnRoute} (h : DarnOpen s c.val route) (hheld : route = .rtcp ∨ Unheld s (K.darnDarnRequest c.val))
include h hheld

/-- R233: a request beside one that waits is coalesced. -/
theorem darnRequest_coalesced (hone : (s.chan c.val).pendingReq.isSome = true ∨ (s.chan c.val).waiting.isSome = true) :
    Completes (.darnRequest route c) s fun t =>
      t.video = s.video ∧ t.nat (K.darnDarnCoalesced c.val) = (s.nat (K.darnDarnCoalesced c.val) + 1) % 2 ^ 32 :=
  completes_darnRequest hheld fun u t hu ht => by
    obtain ⟨hnat, -, hchan, -, -⟩ := hu.readings
    rw [← hchan] at hone
    rw [State.darnAsk_coalesced (h.beside hu) hone] at ht
    obtain ⟨htnat, -, -, -, -⟩ := ht.readings
    refine ⟨ht.video.trans hu.video, ?_⟩
    rw [htnat, State.nat_bump, State.nat_bump_of_keySub _ (by simp), hnat]

variable (hpend : (s.chan c.val).pendingReq = none) (hwait : (s.chan c.val).waiting = none)
include hpend hwait

/-- R233: a request that comes while a sweep runs is kept for its end. -/
theorem darnRequest_joins {w : Sweep} (hsweep : (s.chan c.val).sweep = some w) : Completes (.darnRequest route c) s fun t =>
    (t.chan c.val).pendingReq = some { arrived := nowNs s } ∧ (t.chan c.val).sweep = some w ∧ (t.chan c.val).waiting = none :=
  completes_darnRequest hheld fun u t hu ht => by
    obtain ⟨-, -, hchan, -, hnow⟩ := hu.readings
    rw [← hchan] at hpend hwait hsweep
    rw [State.darnAsk_joins (h.beside hu) hpend hwait hsweep, hnow] at ht
    obtain ⟨-, -, htchan, -, -⟩ := ht.readings
    rw [htchan, State.showSweep_chan, State.chan_setChan]
    exact ⟨rfl, hsweep, hwait⟩

/-- R233: a request that comes while no sweep runs waits for one. -/
theorem darnRequest_waits (hsweep : (s.chan c.val).sweep = none) : Completes (.darnRequest route c) s fun t =>
    (t.chan c.val).waiting = some { arrived := nowNs s } ∧
      t.nat (K.darnDarnRequests c.val) = (s.nat (K.darnDarnRequests c.val) + 1) % 2 ^ 32 ∧ bit t.log.pending (167 + 8 * c.val) = true :=
  completes_darnRequest hheld fun u t hu ht => by
    obtain ⟨hnat, -, hchan, -, hnow⟩ := hu.readings
    rw [← hchan] at hpend hwait hsweep
    rw [State.darnAsk_waits (h.beside hu) hpend hwait hsweep, hnow] at ht
    obtain ⟨htnat, -, htchan, -, -⟩ := ht.readings
    rw [htchan, htnat, ht.log]
    refine ⟨?_, ?_, State.raise_pending _ (pends_sweep c)⟩
    · simp [State.showSweep_chan]
    · simp [State.nat_showSweep_darnRequests, ← hnat]

end Open

/-- R245: an RTCP request by a closed route is dropped and counted. -/
theorem darnRequest_refused {s : State} {c : Chan} (h : bit (s.nat (K.darnDarnSources c.val)) 2 = false) : Completes (.darnRequest .rtcp c) s fun t =>
    t.video = s.video ∧ t.nat (K.darnDarnRefused c.val) = (s.nat (K.darnDarnRefused c.val) + 1) % 2 ^ 32 :=
  completes_darnRequest (.inl rfl) fun u t hu ht => by
    obtain ⟨hnat, -, -, -, -⟩ := hu.readings
    rw [State.darnAsk_closed (by rw [hnat, h])] at ht
    obtain ⟨htnat, -, -, -, -⟩ := ht.readings
    exact ⟨ht.video.trans hu.video, by rw [htnat, State.nat_bump, hnat]⟩

/-- Settles O26: a request by an open route by `darnRequest_waits`, `darnRequest_joins` and `darnRequest_coalesced`, one by a closed route by
`darnRequest_refused`. -/
theorem darnRequestsAreHandled : Obligations.DarnRequestsAreHandled := by
  unfold Obligations.DarnRequestsAreHandled
  refine fun s c route => ⟨fun hsource henable hcoded hheld => ?_, darnRequest_refused⟩
  have hopen : DarnOpen s c.val route := ⟨hsource, henable, hcoded⟩
  refine ⟨darnRequest_waits hopen hheld, fun w hpend hwait => darnRequest_joins hopen hheld hpend hwait, fun r hr => darnRequest_coalesced hopen hheld ?_⟩
  exact hr.imp (fun h => Option.isSome_of_eq_some h) fun h => Option.isSome_of_eq_some h

end Sys2Proof.Machine
end

section
/-!
PROOFS. The qualification of looms (spec/07_darning_qualification.md; R237 to R241, R243): what the start and the end of a loom's qualification leave
of the objects and the state that tell of it.
-/

namespace Sys2Proof.Machine

/-! ## The parts that tell of a loom's qualification -/

/-- What tells of one loom's qualification: its result, its state, the count of its failures, the mask of the looms that were asked for and what
QualifyMask shows of it, since when the loom qualifies, and whether it does so again after a failure. -/
structure QualParts where
  result : Nat
  state : Nat
  fails : Nat
  mask : Nat
  shown : Nat
  since : Option Nat
  second : Bool

/-- These parts of a state. -/
def State.qualParts (s : State) (l : Nat) : QualParts where
  result := s.nat (K.qualQualResult l)
  state := s.nat (K.loomGLoomState l)
  fails := s.nat (K.qualQualFailCount l)
  mask := s.video.qualMask
  shown := s.nat K.qualQualifyMask
  since := (s.loom l).qualSince
  second := (s.loom l).second

theorem qualParts_readings {s t : State} {l : Nat} (h : t.qualParts l = s.qualParts l) :
    t.nat (K.loomGLoomState l) = s.nat (K.loomGLoomState l) ∧ t.video.qualMask = s.video.qualMask ∧
      t.nat K.qualQualifyMask = s.nat K.qualQualifyMask ∧ (t.loom l).qualSince = (s.loom l).qualSince :=
  ⟨congrArg QualParts.state h, congrArg QualParts.mask h, congrArg QualParts.shown h, congrArg QualParts.since h⟩

/-- The indexes of the objects among these parts. -/
def qualIndexes : List Nat := [0x4F01, 0x4F58, 0x4F59, 0x4F5A]

theorem keyIdx_qual {l : Nat} (hl : l < 16) :
    keyIdx (K.loomGLoomState l) = 0x4F01 ∧ keyIdx (K.qualQualResult l) = 0x4F59 ∧ keyIdx (K.qualQualFailCount l) = 0x4F5A ∧
      keyIdx K.qualQualifyMask = 0x4F58 :=
  ⟨keyIdx_objKey _ (by omega), keyIdx_objKey _ (by omega), keyIdx_objKey _ (by omega), rfl⟩

theorem State.nat_set_ne (s : State) {k j : Nat} (v : Int) (h : k ≠ j) : (s.set k v).nat j = s.nat j :=
  congrArg (fun v : Val => v.toInt.toNat) (s.obj_set_ne v h)

/-- The objects that show a loom's channels and load are none of these. -/
theorem keyIdx_loomShown {m : Nat} (hm : m < 16) : keyIdx (K.loomGLoomChannels m) ∉ qualIndexes ∧ keyIdx (K.loomGLoomCodedLoad m) ∉ qualIndexes := by
  simp [K.loomGLoomChannels, K.loomGLoomCodedLoad, keyIdx_objKey _ (show 1 + m < 256 by omega), qualIndexes]

/-- The objects that show a channel's looms are none of these. -/
theorem keyIdx_assignedLooms (c : Nat) : keyIdx (K.loomAssignedLooms c) ∉ qualIndexes := by
  have hidx : keyIdx (K.loomAssignedLooms c) = 0x4002 + 0x80 * c := keyIdx_objKey _ (by decide)
  simp only [hidx, qualIndexes, List.mem_cons, List.not_mem_nil, or_false]
  omega

/-- What no step of a fold over the members of a list changes, the fold does not change. -/
theorem foldl_view_of_mem {α β : Type} {f : State → α → State} {view : State → β} {l : List α} (h : ∀ x ∈ l, ∀ s, view (f s x) = view s)
    (s : State) : view (l.foldl f s) = view s :=
  List.foldlRecOn (motive := fun u => view u = view s) l f rfl fun u hu x hx => (h x hx u).trans hu

section Loom

variable {l : Nat} (hl : l < 16)

@[simp] theorem State.raise_qualParts (s : State) (e : Ev) : (s.raise e).qualParts l = s.qualParts l := by simp [State.qualParts]

theorem State.setLoom_qualParts (s : State) (x : LoomSt) :
    (s.setLoom l x).qualParts l = { s.qualParts l with since := x.qualSince, second := x.second } := by
  simp only [State.qualParts, State.loom_setLoom]
  rfl

theorem State.qualMask_qualParts (s : State) (m : Nat) :
    State.qualParts { s with video := { s.video with qualMask := m } } l = { s.qualParts l with mask := m } := rfl

include hl

/-- An object of no such index. -/
theorem State.set_qualParts (s : State) {k : Nat} (h : keyIdx k ∉ qualIndexes) (v : Int) : (s.set k v).qualParts l = s.qualParts l := by
  obtain ⟨hstate, hresult, hfails, hmask⟩ := keyIdx_qual hl
  have hne {j : Nat} (hj : keyIdx j ∈ qualIndexes) : k ≠ j := fun hk => h (hk ▸ hj)
  simp only [State.qualParts]
  rw [s.nat_set_ne v (hne (by simp [hresult, qualIndexes])), s.nat_set_ne v (hne (by simp [hstate, qualIndexes])),
    s.nat_set_ne v (hne (by simp [hfails, qualIndexes])), s.nat_set_ne v (hne (by simp [hmask, qualIndexes]))]
  rfl

theorem State.setN_qualParts (s : State) {k : Nat} (h : keyIdx k ∉ qualIndexes) (v : Nat) : (s.setN k v).qualParts l = s.qualParts l :=
  s.set_qualParts hl h v

theorem State.setN_unless_qualParts (s : State) (p : Prop) [Decidable p] {k : Nat} (h : keyIdx k ∉ qualIndexes) (v : Nat) :
    (if p then s else s.setN k v).qualParts l = s.qualParts l := by
  split
  · rfl
  · exact s.setN_qualParts hl h v

/-- An object of the loom's own is set. -/
theorem State.setN_own_qualParts (s : State) (v : Nat) :
    (s.setN (K.qualQualResult l) v).qualParts l = { s.qualParts l with result := v } ∧
    (s.setN (K.loomGLoomState l) v).qualParts l = { s.qualParts l with state := v } ∧
    (s.setN (K.qualQualFailCount l) v).qualParts l = { s.qualParts l with fails := v } ∧
    (s.setN K.qualQualifyMask v).qualParts l = { s.qualParts l with shown := v } := by
  obtain ⟨hstate, hresult, hfails, hmask⟩ := keyIdx_qual hl
  simp only [State.qualParts, State.nat_setN]
  refine ⟨?_, ?_, ?_, ?_⟩ <;> simp [State.nat_setN_of_keyIdx, hstate, hresult, hfails, hmask] <;> exact ⟨rfl, rfl⟩

/-! ## A loom's state, and what follows when one has changed -/

theorem State.loomState_qualParts (s : State) (st : Nat) : (s.loomState l st).qualParts l = { s.qualParts l with state := st } := by
  obtain ⟨-, hset, -, -⟩ := s.setN_own_qualParts hl st
  rw [← hset]
  unfold State.loomState
  dsimp only
  split <;> rfl

theorem State.follow_qualParts (s : State) : s.follow.qualParts l = s.qualParts l := by
  unfold State.follow
  dsimp only
  split
  · rfl
  · rw [State.raise_qualParts, s.setN_qualParts hl (by decide)]

theorem State.qualPoint_qualParts (s : State) : s.qualPoint.qualParts l = s.qualParts l := by
  unfold State.qualPoint
  split
  · exact State.follow_qualParts hl _
  · rfl

/-- R182, R184: the objects that show which looms hold positions are none of these. -/
theorem State.showLooms_qualParts (s : State) : s.showLooms.qualParts l = s.qualParts l := by
  unfold State.showLooms
  extract_lets holds on s1 s2
  have hs1 : s1.qualParts l = s.qualParts l :=
    foldl_view (view := (·.qualParts l)) (fun s c => s.setN_unless_qualParts hl _ (keyIdx_assignedLooms c) _) _ s
  have hs2 : s2.qualParts l = s1.qualParts l :=
    foldl_view_of_mem (view := (·.qualParts l)) (fun m hm s => by
      obtain ⟨hchannels, hload⟩ := keyIdx_loomShown (List.mem_range.mp hm)
      rw [State.setN_unless_qualParts hl _ _ hload, State.setN_unless_qualParts hl _ _ hchannels]) s1
  rw [State.setN_qualParts hl _ (by decide), State.setN_qualParts hl _ (by decide), State.setN_qualParts hl _ (by decide), hs2, hs1]

/-- What every command on a loom's qualification ends with. -/
def State.qualShown (s : State) : State := s.showLooms.qualPoint.follow

theorem State.qualShown_qualParts (s : State) : s.qualShown.qualParts l = s.qualParts l := by
  rw [State.qualShown, State.follow_qualParts hl, State.qualPoint_qualParts hl, State.showLooms_qualParts hl]

/-! ## The start and the end of a loom's qualification (R237, R240, R243) -/

theorem State.startQual_qualParts (s : State) (joint again : Bool) : (s.startQual l joint again).qualParts l =
    { s.qualParts l with state := 3, since := some s.clk.ticks, second := again } := by
  rw [State.startQual, State.loomState_qualParts hl, State.setLoom_qualParts]

/-- R243: a result as the objects show it. -/
theorem State.qualShow_qualParts (s : State) (result : Nat) : (s.qualShow l result).qualParts l =
    { s.qualParts l with result := result, mask := setBit s.video.qualMask l false, shown := setBit s.video.qualMask l false } := by
  have htime : keyIdx (K.qualQualTime l) ∉ qualIndexes := by
    simp [K.qualQualTime, keyIdx_objKey _ (show 1 + l < 256 by omega), qualIndexes]
  simp [State.qualShow, State.setN_own_qualParts hl, State.set_qualParts hl _ htime, State.qualMask_qualParts]

/-- R240: a loom that holds no position and passes is Spare. -/
theorem State.qualPass_qualParts_spare (s : State) (result : Nat) (h : ∀ c, c < 16 → ∀ p ∈ (s.chan c).positions, p.loom ≠ l) :
    (s.qualPass l result).qualParts l = { (s.qualShow l result).qualParts l with state := 0, since := none, second := false } := by
  have hmine : ((List.range 16).filter fun c => (s.chan c).positions.any fun p => p.loom == l && p.stopped.isSome) = [] := by
    refine List.filter_eq_nil_iff.mpr fun c hc => ?_
    simp only [List.any_eq_true, Bool.and_eq_true, beq_iff_eq, not_exists, not_and]
    exact fun p hp hpl => absurd hpl (h c (List.mem_range.mp hc) p hp)
  have hchan : (s.qualShow l result).chan = s.chan := rfl
  simp [State.qualPass, hchan, hmine, State.loomState_qualParts hl, State.setLoom_qualParts]

/-- R240: a loom that fails again is quarantined. -/
theorem State.qualFail_qualParts_again (s : State) (h : (s.loom l).second = true) :
    (s.qualFail l).qualParts l = { (s.qualShow l 2).qualParts l with state := 4, since := none, second := false } := by
  simp [State.qualFail, h, State.loomState_qualParts hl, State.setLoom_qualParts]

/-- R240: a loom that fails for the first time is qualified again at once, as it was asked for. -/
theorem State.qualFail_qualParts_first (s : State) (h : (s.loom l).second = false) :
    (s.qualFail l).qualParts l =
      { result := 2, state := 3, fails := (s.nat (K.qualQualFailCount l) + 1) % 65536, since := some s.clk.ticks, second := true,
        mask := setBit (setBit s.video.qualMask l false) l (bit s.video.qualMask l),
        shown := setBit (setBit s.video.qualMask l false) l (bit s.video.qualMask l) } := by
  unfold State.qualFail
  extract_lets again asked shown lm ended src counted src' asking
  have hended : ended.qualParts l = { (s.qualShow l 2).qualParts l with since := none } := State.setLoom_qualParts shown _
  rw [State.qualShow_qualParts hl] at hended
  have hcounted : counted.qualParts l = { ended.qualParts l with fails := (ended.nat (K.qualQualFailCount l) + 1) % 65536 } := by
    simp only [counted, State.setN_own_qualParts hl]
  have hfails : ended.nat (K.qualQualFailCount l) = s.nat (K.qualQualFailCount l) := congrArg QualParts.fails hended
  have hmask : counted.video.qualMask = setBit s.video.qualMask l false := congrArg QualParts.mask hended
  have hasking : asking.qualParts l = { counted.qualParts l with mask := setBit counted.video.qualMask l asked } := rfl
  rw [if_neg (by simp [again, h])]
  simp only [State.startQual_qualParts hl, State.setN_own_qualParts hl, hasking, hcounted, hended, hmask, hfails]
  rfl

/-! ## A run that ends in single mode (R239, R240) -/

/-- R239: the tiles of a run that differ, as the loom shows them. -/
def State.tilesNoted (s : State) (l tiles : Nat) : State := s.setLoom l { s.loom l with mismatch := tiles % 65536 }

omit hl in
theorem State.tilesNoted_second (s : State) (tiles : Nat) : ((s.tilesNoted l tiles).loom l).second = (s.loom l).second := by
  rw [State.tilesNoted, State.loom_setLoom]

omit hl in
theorem State.qualSingle_qualParts (s : State) (tiles : Nat) : (s.qualSingle l tiles).qualParts l =
    (if tiles % 65536 = 0 then (s.tilesNoted l tiles).qualPass l 1 else (s.tilesNoted l tiles).qualFail l).qualParts l := by
  simp [State.qualSingle, State.tilesNoted]

end Loom

/-! ## The commands that end a qualification (R239, R240) -/

/-- A loom alone in the mask of a command. -/
theorem bit_two_pow (l m : Nat) : bit (2 ^ l) m = decide (l = m) := by rw [bit_eq_testBit, Nat.testBit_two_pow]

theorem filter_range_one : ∀ l : LoomId, (List.range 16).filter (fun m => decide (l.val = m)) = [l.val] := by decide

section Commands

variable {s : State} {l : LoomId}

theorem execQualificationDone_single (hsince : (s.loom l.val).qualSince.isSome = true) (hstate : s.nat (K.loomGLoomState l.val) = 3)
    (hjoint : (s.loom l.val).joint = false) (tiles : List Nat) (sha : Bool) (hclk : s.boot.clocksLost = false) :
    exec (.qualificationDone (2 ^ l.val) tiles sha) s = .next (s.qualSingle l.val (tiles.getD l.val 0)).qualShown := by
  have hruns : ((List.range 16).filter fun m => bit (2 ^ l.val) m && (s.loom m).qualSince.isSome && s.nat (K.loomGLoomState m) == 3) = [l.val] := by
    rw [← filter_range_one l]
    refine List.filter_congr fun m _ => ?_
    by_cases hm : l.val = m
    · simp [← hm, bit_two_pow, hsince, hstate]
    · simp [bit_two_pow, hm]
  show execQualificationDone _ _ _ s = _
  rw [execQualificationDone, whenClocked_of_clocked hclk, hruns]
  simp [hjoint, State.qualShown]

section Single

variable {x : Nat} (hsince : (s.loom l.val).qualSince = some x) (hstate : s.nat (K.loomGLoomState l.val) = 3) (hjoint : (s.loom l.val).joint = false)
include hsince hstate hjoint

theorem completes_qualificationDone {tiles : List Nat} {sha : Bool} {post : QualParts → Prop}
    (hpost : post ((s.qualSingle l.val (tiles.getD l.val 0)).qualParts l.val)) :
    Completes (.qualificationDone (2 ^ l.val) tiles sha) s fun t => post (t.qualParts l.val) := fun hclk =>
  ⟨_, execQualificationDone_single (by rw [hsince, Option.isSome_some]) hstate hjoint tiles sha hclk, by
    dsimp only
    rwa [State.qualShown_qualParts l.isLt]⟩

/-- R240: a loom whose tiles all agree. -/
theorem qualificationDone_passes {tiles : List Nat} {sha : Bool} (htiles : tiles.getD l.val 0 = 0)
    (hfree : ∀ c, c < 16 → ∀ p ∈ (s.chan c).positions, p.loom ≠ l.val) : Completes (.qualificationDone (2 ^ l.val) tiles sha) s fun t =>
      t.nat (K.qualQualResult l.val) = 1 ∧ t.nat (K.loomGLoomState l.val) = 0 ∧ (t.loom l.val).qualSince = none :=
  completes_qualificationDone (post := fun q => q.result = 1 ∧ q.state = 0 ∧ q.since = none) hsince hstate hjoint <| by
    rw [State.qualSingle_qualParts, htiles, if_pos rfl, State.qualPass_qualParts_spare l.isLt (s.tilesNoted l.val 0) 1 hfree,
      State.qualShow_qualParts l.isLt]
    exact ⟨rfl, rfl, rfl⟩

/-- R240: a loom of which tiles differ for the first time. -/
theorem qualificationDone_fails {tiles : List Nat} {sha : Bool} (htiles : tiles.getD l.val 0 % 65536 ≠ 0) (hsecond : (s.loom l.val).second = false) :
    Completes (.qualificationDone (2 ^ l.val) tiles sha) s fun t =>
      t.nat (K.qualQualResult l.val) = 2 ∧ t.nat (K.loomGLoomState l.val) = 3 ∧ (t.loom l.val).second = true ∧
        t.nat (K.qualQualFailCount l.val) = (s.nat (K.qualQualFailCount l.val) + 1) % 65536 :=
  completes_qualificationDone
      (post := fun q => q.result = 2 ∧ q.state = 3 ∧ q.second = true ∧ q.fails = (s.nat (K.qualQualFailCount l.val) + 1) % 65536)
      hsince hstate hjoint <| by
    rw [State.qualSingle_qualParts, if_neg htiles, State.qualFail_qualParts_first l.isLt _ ((s.tilesNoted_second _).trans hsecond)]
    exact ⟨rfl, rfl, rfl, rfl⟩

/-- R240: a loom of which tiles differ again. -/
theorem qualificationDone_quarantines {tiles : List Nat} {sha : Bool} (htiles : tiles.getD l.val 0 % 65536 ≠ 0)
    (hsecond : (s.loom l.val).second = true) : Completes (.qualificationDone (2 ^ l.val) tiles sha) s fun t =>
      t.nat (K.qualQualResult l.val) = 2 ∧ t.nat (K.loomGLoomState l.val) = 4 ∧ (t.loom l.val).qualSince = none :=
  completes_qualificationDone (post := fun q => q.result = 2 ∧ q.state = 4 ∧ q.since = none) hsince hstate hjoint <| by
    rw [State.qualSingle_qualParts, if_neg htiles, State.qualFail_qualParts_again l.isLt _ ((s.tilesNoted_second _).trans hsecond),
      State.qualShow_qualParts l.isLt]
    exact ⟨rfl, rfl, rfl⟩

end Single

/-- R239, R240: a loom that has not ended its run in twice its bound fails. -/
theorem qualificationTimeout_fails {x : Nat} (hsince : (s.loom l.val).qualSince = some x)
    (hlate : passed s x (2 * qualBound (s.loom l.val).joint) = true) : Completes (.qualificationTimeout l) s fun t =>
      t.nat (K.qualQualResult l.val) = 2 ∧ t.nat (K.loomGLoomState l.val) = if (s.loom l.val).second then 4 else 3 := fun hclk => by
  generalize hend : ((s.qualFail l.val).raise { src := 612, unit := l.val, sev := if (s.loom l.val).second then 3 else 0 }).qualShown = t
  have hexec : exec (.qualificationTimeout l) s = .next t := by
    show execQualificationTimeout l s = _
    rw [execQualificationTimeout, whenClocked_of_clocked hclk]
    simp [hsince, hlate, ← hend, State.qualShown]
  have hparts : t.qualParts l.val = (s.qualFail l.val).qualParts l.val := by
    rw [← hend, State.qualShown_qualParts l.isLt, State.raise_qualParts]
  refine ⟨t, hexec, ?_⟩
  show (t.qualParts l.val).result = 2 ∧ (t.qualParts l.val).state = _
  rw [hparts]
  cases hsecond : (s.loom l.val).second with
  | true =>
    rw [State.qualFail_qualParts_again l.isLt _ hsecond, State.qualShow_qualParts l.isLt]
    exact ⟨rfl, rfl⟩
  | false =>
    rw [State.qualFail_qualParts_first l.isLt _ hsecond]
    exact ⟨rfl, rfl⟩

end Commands

end Sys2Proof.Machine
end

section
/-!
PROOFS. The write of QualifyMask (spec/07_darning_qualification.md; R241).
-/

namespace Sys2Proof.Machine

/-! ## The looms that are asked for begin (R237, R241) -/

/-- A loom qualifies from now on. -/
def State.Qualifying (s : State) (l : Nat) : Prop := s.nat (K.loomGLoomState l) = 3 ∧ (s.loom l).qualSince = some s.clk.ticks

/-- What QualifyMask asked for, what it shows of it, and the clock. -/
def State.qualAsked (s : State) : Nat × Nat × Nat := (s.video.qualMask, s.nat K.qualQualifyMask, s.clk.ticks)

theorem State.loomState_fields (s : State) (l st : Nat) :
    (s.loomState l st).nat = (s.setN (K.loomGLoomState l) st).nat ∧ (s.loomState l st).clk = s.clk ∧ (s.loomState l st).video = s.video ∧
      (s.loomState l st).loom = s.loom := by
  unfold State.loomState
  dsimp only
  split <;> exact ⟨rfl, rfl, rfl, rfl⟩

/-- The start of a loom sets its state, and moves no other loom, no mask and no clock. -/
theorem State.startQual_fields (s : State) (m : Nat) (joint again : Bool) :
    (s.startQual m joint again).nat = (s.setN (K.loomGLoomState m) 3).nat ∧ (s.startQual m joint again).clk = s.clk ∧
      (s.startQual m joint again).video.qualMask = s.video.qualMask ∧ ∀ l, m ≠ l → (s.startQual m joint again).loom l = s.loom l := by
  unfold State.startQual
  generalize hset : s.setLoom m _ = set
  obtain ⟨hnat, hclk, hvideo, hloom⟩ := set.loomState_fields m 3
  rw [hnat, hclk, hvideo, hloom, ← hset]
  exact ⟨rfl, rfl, rfl, fun l hl => s.loom_setLoom_ne m _ hl⟩

theorem State.startQual_qualAsked (s : State) {m : Nat} (hm : m < 16) (joint again : Bool) : (s.startQual m joint again).qualAsked = s.qualAsked := by
  obtain ⟨hstate, -, -, hmask⟩ := keyIdx_qual hm
  obtain ⟨hnat, hclk, hasked, -⟩ := s.startQual_fields m joint again
  rw [State.qualAsked, hnat, hclk, hasked, State.nat_setN_of_keyIdx _ _ (by simp [hstate, hmask]), State.qualAsked]

theorem State.startQual_qualifying (s : State) {l : Nat} (hl : l < 16) (joint again : Bool) : (s.startQual l joint again).Qualifying l := by
  have hparts := s.startQual_qualParts hl joint again
  obtain ⟨-, hclk, -, -⟩ := s.startQual_fields l joint again
  exact ⟨congrArg QualParts.state hparts, hclk ▸ congrArg QualParts.since hparts⟩

theorem State.Qualifying.startQual_other {s : State} {l : Nat} (h : s.Qualifying l) {m : Nat} (hne : m ≠ l) (joint again : Bool) :
    (s.startQual m joint again).Qualifying l := by
  have hkey : K.loomGLoomState m ≠ K.loomGLoomState l := by
    unfold K.loomGLoomState objKey
    omega
  obtain ⟨hnat, hclk, -, hloom⟩ := s.startQual_fields m joint again
  unfold State.Qualifying
  rwa [hnat, State.nat_setN_ne _ _ hkey, hclk, hloom l hne]

/-- R241: the looms of a list begin. -/
def State.startQuals (s : State) (ls : List Nat) : State := ls.foldl (fun s l => s.startQual l false false) s

theorem State.startQuals_asked (s : State) {ls : List Nat} (hls : ∀ m ∈ ls, m < 16) :
    (s.startQuals ls).video.qualMask = s.video.qualMask ∧ (s.startQuals ls).nat K.qualQualifyMask = s.nat K.qualQualifyMask ∧
      (s.startQuals ls).clk.ticks = s.clk.ticks := by
  have hasked : (s.startQuals ls).qualAsked = s.qualAsked :=
    foldl_view_of_mem (view := State.qualAsked) (fun m hm s => s.startQual_qualAsked (hls m hm) false false) s
  simpa only [State.qualAsked, Prod.mk.injEq] using hasked

theorem State.startQuals_qualifying {ls : List Nat} (hls : ∀ m ∈ ls, m < 16) {l : Nat} (s : State) (h : l ∈ ls ∨ s.Qualifying l) :
    (s.startQuals ls).Qualifying l := by
  induction ls generalizing s with
  | nil => exact h.resolve_left List.not_mem_nil
  | cons m ls ih =>
    refine ih (fun k hk => hls k (List.mem_cons_of_mem m hk)) (s.startQual m false false) ?_
    by_cases hm : m = l
    · exact .inr (hm ▸ s.startQual_qualifying (hls m List.mem_cons_self) false false)
    · exact h.imp (fun hmem => (List.mem_cons.mp hmem).resolve_left (Ne.symm hm)) fun hnow => hnow.startQual_other hm false false

/-- The looms that a mask names. -/
def maskLooms (mask : Nat) : List Nat := (List.range 16).filter (bit mask)

theorem mem_maskLooms {mask m : Nat} : m ∈ maskLooms mask ↔ m < 16 ∧ bit mask m = true := by simp [maskLooms]

/-- R241: the mask that is asked for, as it is kept and shown. -/
def State.maskNoted (s : State) (mask : Nat) : State :=
  State.setN { s with video := { s.video with qualMask := mask } } K.qualQualifyMask mask

/-- No answer to a QualifyMask write says that it is staged. -/
theorem State.qualifyAsk_status (s : State) (mask : Nat) : (s.qualifyAsk mask).2 ≠ stStaged := by
  unfold State.qualifyAsk
  extract_lets
  repeat' split
  all_goals simp [stStaged, stBusy, stInconsistent]

/-- R241: a write while no asked-for loom qualifies, of looms that are Spare or Quarantined. -/
theorem State.qualifyAsk_starts {s : State} {mask : Nat} (hnone : s.video.qualMask = 0) (hmask : mask < 65536)
    (hidle : ∀ n, n < 16 → bit mask n = true → s.nat (K.loomGLoomState n) = 0 ∨ s.nat (K.loomGLoomState n) = 4) :
    s.qualifyAsk mask = (((s.maskNoted mask).startQuals (maskLooms mask)).showLooms, 0) := by
  have hbusy : (maskLooms mask).any (fun l => let st := s.nat (K.loomGLoomState l); st == 1 || st == 2 || st == 3) = false := by
    refine List.any_eq_false.mpr fun l hl => ?_
    obtain ⟨hl16, hbit⟩ := mem_maskLooms.mp hl
    obtain h | h := hidle l hl16 hbit <;> simp [h]
  rw [maskLooms] at hbusy
  simp only [State.qualifyAsk, hnone, hbusy, Nat.mod_eq_of_lt hmask]
  rfl

/-- R241: a loom that the mask names qualifies from now on, and QualifyMask shows the mask. -/
theorem State.qualifyAsk_qualifying {s : State} {mask l : Nat} (hnone : s.video.qualMask = 0) (hmask : mask < 65536)
    (hidle : ∀ n, n < 16 → bit mask n = true → s.nat (K.loomGLoomState n) = 0 ∨ s.nat (K.loomGLoomState n) = 4)
    (hl : l < 16) (hbit : bit mask l = true) :
    (s.qualifyAsk mask).1.nat (K.loomGLoomState l) = 3 ∧ ((s.qualifyAsk mask).1.loom l).qualSince = some s.clk.ticks ∧
      (s.qualifyAsk mask).1.video.qualMask = mask ∧ (s.qualifyAsk mask).1.nat K.qualQualifyMask = mask := by
  rw [State.qualifyAsk_starts hnone hmask hidle]
  have hls : ∀ m ∈ maskLooms mask, m < 16 := fun m hm => (mem_maskLooms.mp hm).1
  obtain ⟨hask, hshown, hticks⟩ := (s.maskNoted mask).startQuals_asked hls
  obtain ⟨hstate, hsince⟩ := State.startQuals_qualifying hls (s.maskNoted mask) (.inl (mem_maskLooms.mpr ⟨hl, hbit⟩))
  have hnoted : (s.maskNoted mask).nat K.qualQualifyMask = mask := State.nat_setN _ _ _
  generalize (s.maskNoted mask).startQuals (maskLooms mask) = begun at hask hshown hticks hstate hsince
  obtain ⟨hstate', hmask', hshown', hsince'⟩ := qualParts_readings (State.showLooms_qualParts hl begun)
  rw [hstate', hsince', hmask', hshown']
  exact ⟨hstate, hsince.trans (congrArg some hticks), hask, hshown.trans hnoted⟩

/-! ## The write of QualifyMask (R241) -/

/-- The row of QualifyMask in the object tables. -/
def qualifyMaskRow : ObjDef := ⟨0x4F58, 0x0, 1, 0, 1, 1, 1, .u16, 0, 0, accRwRwRoRw, .int 0, none⟩

theorem lookup_qualifyMask : lookup (keyIdx K.qualQualifyMask) (keySub K.qualQualifyMask) = .ok qualifyMaskRow := rfl

/-- R37: every number of 16 bits is a value of a U16 object without a range. -/
theorem valueOk_u16 {d : ObjDef} (hty : d.ty = .u16) (hrng : d.rng = none) (idx sub : Nat) {n : Nat} (hn : n < 65536) :
    valueOk d idx sub (.int n) = true := by
  have hpattern : toPattern 16 (n : Int) = n := by
    unfold toPattern
    omega
  have hbytes : encodeVal .u16 (.int n) = beBytes 2 n := congrArg (beBytes 2) hpattern
  have hlen : (beBytes 2 n).length = 2 := rfl
  have hback : decodeVal .u16 (beBytes 2 n) = .int n := by
    simp [decodeVal, OType.signed, Laws.ofBe_beBytes2, Nat.mod_eq_of_lt hn]
  simp [valueOk, checkValue, hty, hrng, hbytes, hlen, hback, OType.size, encodingOk]

theorem State.command_qualifyMask (s : State) (p : Prin) (mask : Nat) : s.command p K.qualQualifyMask (.int mask) = s.qualifyAsk mask := rfl

theorem qualifyMask_starts {s : State} {l : LoomId} {prin : Prin} {mask : Nat} (hprin : prin ≠ .chain) (hnone : s.video.qualMask = 0)
    (hmask : mask < 65536) (hheld : Unheld s K.qualQualifyMask)
    (hidle : ∀ n, n < 16 → bit mask n = true → s.nat (K.loomGLoomState n) = 0 ∨ s.nat (K.loomGLoomState n) = 4) (hbit : bit mask l.val = true) :
    Completes (.qualifyMask prin mask) s fun t => t.nat (K.loomGLoomState l.val) = 3 ∧ (t.loom l.val).qualSince = some s.clk.ticks ∧
      t.video.qualMask = mask ∧ t.nat K.qualQualifyMask = mask := fun hclk => by
  refine ⟨_, whenClocked_of_clocked hclk _, ?_⟩
  have hacc : qualifyMaskRow.acc.of prin = .rw := by
    cases prin with
    | chain => exact absurd rfl hprin
    | host | net | selvedge => rfl
  have htouch := s.touch_besideWrite prin
  obtain ⟨hnat, -, -, -, -⟩ := htouch.readings
  have hnone' : (s.touch prin).video.qualMask = 0 := by rw [htouch.video, hnone]
  have hwrite := State.direct_command lookup_qualifyMask (.inr hacc) (valueOk_u16 rfl rfl _ _ hmask) (by decide) hheld
  rw [State.command_qualifyMask] at hwrite
  rw [← hnat] at hidle
  have hbeside := hwrite (State.qualifyAsk_status _ _)
  have hqualifying := State.qualifyAsk_qualifying hnone' hmask hidle l.isLt hbit
  obtain ⟨htnat, -, -, htloom, -⟩ := hbeside.readings
  dsimp only
  rw [htnat, htloom, hbeside.video]
  rwa [htouch.clk] at hqualifying

/-- Settles O27: the start by `qualifyMask_starts`, the ends by `qualificationDone_passes`, `qualificationDone_fails`,
`qualificationDone_quarantines` and `qualificationTimeout_fails`. -/
theorem loomsQualify : Obligations.LoomsQualify := by
  unfold Obligations.LoomsQualify
  refine fun s l => ⟨fun prin mask => qualifyMask_starts, fun x hsince hstate hjoint => ⟨?_, ?_, ?_⟩, fun x => qualificationTimeout_fails⟩
  · exact fun tiles sha => qualificationDone_passes hsince hstate hjoint
  · exact fun tiles sha => qualificationDone_fails hsince hstate hjoint
  · exact fun tiles sha => qualificationDone_quarantines hsince hstate hjoint

end Sys2Proof.Machine
end

section
/-!
PROOFS. The strips of a seam (spec/08_seam_chain.md, spec/03_reed_input.md; R98, R257, R259): the window in which a strip line is stored.
-/

namespace Sys2Proof.Machine

/-! ## A side of a seam channel -/

@[simp] theorem State.side_setSide (s : State) (c : Nat) (left : Bool) (x : SideSt) : (s.setSide c left x).side c left = x := by
  cases left <;> simp [State.setSide, State.side]

/-! ## The window of a strip line (R259) -/

/-- The instant at which line n of the picture that leaves the synchroniser, or the rotator, with T_k begins (R98, R257). -/
def stripInstant (v : View) (c k n : Nat) : Rat := boundaryTime v c k + q n * rowLine v c

/-- A strip line of an Active side that arrives within three of the channel's line periods of its instant is stored. -/
theorem stripReceived_stored {s : State} {d : ChainPort} {msg : Bytes} {c : Nat} {l : Bool} {m : SeamMsg} {k : Nat}
    (hcheck : seamCheck s d.val 1 msg = .ok c l m) (hactive : s.nat (sideKey c l) = 3) (hpic : seamPicture s c m.pic = some k)
    (hfrom : stripInstant s.view c k m.index - 3 * rowLine s.view c ≤ nowExact s)
    (hto : nowExact s ≤ stripInstant s.view c k m.index + 3 * rowLine s.view c) :
    Completes (.stripReceived d msg) s fun t =>
      (t.side c l).strips = (s.side c l).strips ++ [{ pic := m.pic, line := m.index, data := m.payload }] ∧ t.objs = s.objs := fun hclk => by
  have hexec : exec (.stripReceived d msg) s = execStripReceived d msg s := rfl
  rw [stripInstant] at hfrom hto
  rw [CompletesAlways, hexec, execStripReceived, whenClocked_of_clocked hclk, hcheck]
  simp only [hactive, hpic, hfrom, hto, bne_self_eq_false, Bool.false_eq_true, decide_true, Bool.and_self, if_false, if_true]
  exact ⟨_, rfl, by rw [State.side_setSide], rfl⟩

/-! ## A turned picture (R98) -/

/-- Objects in force, in the order of their keys. -/
def seamObjs (l : List (Nat × Nat)) : AMap Val := l.foldl (fun m e => AMap.put m e.1 (.int e.2)) []

/-- A device 10 ms after the epoch, whose channel 0 codes a source of 1920 × 1080 at 50 pictures a second, turned by 90°: 1,125 line periods make a
picture period, and the rotator presents its 1,920 lines 10 µs apart. Its left side is on the upstream chain port and Active. -/
def turnedBand : State :=
  { State.reset with
    clk := { presented := 10000000 * unitsPerNs }
    video := { chans := [(0, { encoding := true })] }
    objs := seamObjs [(K.reedWidth 0, 1920), (K.reedHeight 0, 1080), (K.reedRateNum 0, 50), (K.reedRateDen 0, 1), (K.reedRotation 0, 1),
      (K.reedSeamCanvas 0, 1), (K.reedBandIndex 0, 1), (K.reedLeftPort 0, 1), (K.reedLeftState 0, 3)] }

/-- The neighbour to its left, of the same canvas. -/
def turnedNeighbour : State := { State.reset with objs := seamObjs [(K.reedSeamCanvas 0, 1)] }

/-- Line 1,000 of the neighbour's picture 0. -/
def turnedStrip : Bytes := seamMessage turnedNeighbour 0 false 1 0 1000 (List.replicate 160 0)

/-- That line as it is read. -/
def turnedLine : SeamMsg := { kind := 1, canvas := 1, band := 0, fromLeft := true, pic := 0, index := 1000, payload := List.replicate 160 0 }

theorem seamCheck_turnedStrip : seamCheck turnedBand 0 1 turnedStrip = .ok 0 true turnedLine := by decide +kernel

/-- The line arrives within its window, counted in line periods of the turned picture. -/
theorem nowExact_turnedBand_within :
    stripInstant turnedBand.view 0 0 1000 - 3 * rowLine turnedBand.view 0 ≤ nowExact turnedBand ∧
      nowExact turnedBand ≤ stripInstant turnedBand.view 0 0 1000 + 3 * rowLine turnedBand.view 0 := by decide +kernel

/-- Counted in line periods of the source, it arrives before its window. -/
theorem nowExact_turnedBand_before :
    nowExact turnedBand < boundaryTime turnedBand.view 0 0 + q 1000 * readLine turnedBand.view 0 - 3 * readLine turnedBand.view 0 := by decide +kernel

/-- Refutes O28: its clause on strips counts a line's instant in line periods of the source, where the lines of a turned picture are as far apart as
the rotator presents them (R98; see `stripReceived_stored`). In `turnedBand` line 1,000 arrives within its window and is stored, where the clause has
it arrive before its window and leave no trace. -/
theorem not_seamMessagesAndSides : ¬ Obligations.SeamMessagesAndSides := by
  unfold Obligations.SeamMessagesAndSides
  rintro ⟨hmessages, -⟩
  have hactive : turnedBand.nat (sideKey 0 true) = 3 := by decide +kernel
  have hpic : seamPicture turnedBand 0 turnedLine.pic = some 0 := by decide +kernel
  obtain ⟨hstrips, -⟩ := hmessages turnedBand 0 turnedStrip 0 true turnedLine
  obtain ⟨-, houtside⟩ := hstrips seamCheck_turnedStrip hactive 0 hpic
  have hsame := houtside (.inr nowExact_turnedBand_before)
  obtain ⟨hfrom, hto⟩ := nowExact_turnedBand_within
  obtain ⟨t, ht, hstored, -⟩ := stripReceived_stored (d := 0) seamCheck_turnedStrip hactive hpic hfrom hto rfl
  obtain rfl : turnedBand = t := Host.Outcome.next.inj (hsame.symm.trans ht)
  exact absurd (congrArg List.length hstored) (by simp)

end Sys2Proof.Machine
end

section
/-!
PROOFS. The segments of the chain (spec/08_seam_chain.md, spec/01_architecture.md; R25, R250): which message a chain port sends next, and what the
last segment of a message leaves of the port.
-/

namespace Sys2Proof.Machine

/-! ## A chain port -/

@[simp] theorem State.chainPort_setChainPort (s : State) (d : ChainPort) (x : ChainPortSt) : (s.setChainPort d.val x).chainPort d.val = x := by
  unfold State.setChainPort State.chainPort
  split <;> rfl

@[simp] theorem State.emit_chainPort (s : State) (o : Sent) : (s.emit o).chainPort = s.chainPort := rfl

@[simp] theorem State.count_chainPort (s : State) (n k : Nat) : (s.count n k).chainPort = s.chainPort := rfl

/-! ## The message that is sent next (R250) -/

/-- The oldest message of each class that waits, the most urgent class first. -/
def urgentFirst (queue : List ChainMsg) : List ChainMsg := [1, 2, 3, 4].filterMap fun cls => queue.find? (·.cls == cls)

/-- A message is the next: the oldest of its class, and none of a more urgent class waits. -/
theorem urgentFirst_eq_cons {queue : List ChainMsg} {m : ChainMsg} (hown : queue.find? (·.cls == m.cls) = some m)
    (hnone : ∀ cls < m.cls, queue.find? (·.cls == cls) = none) (h1 : 1 ≤ m.cls) (h4 : m.cls ≤ 4) : ∃ rest, urgentFirst queue = m :: rest := by
  unfold urgentFirst
  obtain h | h | h | h : m.cls = 1 ∨ m.cls = 2 ∨ m.cls = 3 ∨ m.cls = 4 := by omega
  all_goals
    rw [h] at hown hnone
    simp [List.filterMap_cons, hown, hnone]

section Urgent

variable {before after : List ChainMsg} {m : ChainMsg} (hbefore : ∀ x ∈ before, m.cls < x.cls)

include hbefore

theorem find?_cls_urgent : (before ++ m :: after).find? (·.cls == m.cls) = some m := by
  have hnone : before.find? (·.cls == m.cls) = none := List.find?_eq_none.mpr fun x hx => by simpa using Nat.ne_of_gt (hbefore x hx)
  simp [List.find?_append, hnone]

theorem find?_cls_above_urgent (hafter : ∀ x ∈ after, m.cls ≤ x.cls) {cls : Nat} (hcls : cls < m.cls) :
    (before ++ m :: after).find? (·.cls == cls) = none := by
  refine List.find?_eq_none.mpr fun x hx => ?_
  have hle : m.cls ≤ x.cls := by
    obtain hx | hx := List.mem_append.mp hx
    · exact Nat.le_of_lt (hbefore x hx)
    · obtain rfl | hx := List.mem_cons.mp hx
      · exact Nat.le_refl _
      · exact hafter x hx
  simpa using Nat.ne_of_gt (Nat.lt_of_lt_of_le hcls hle)

theorem forall_ne_urgent : ∀ x ∈ before, (x != m) = true := fun x hx =>
  bne_iff_ne.mpr fun h => Nat.ne_of_gt (hbefore x hx) (congrArg ChainMsg.cls h)

theorem takeWhile_urgent : (before ++ m :: after).takeWhile (· != m) = before := by
  rw [List.takeWhile_append_of_pos (forall_ne_urgent hbefore), List.takeWhile_cons_of_neg (by simp), List.append_nil]

theorem dropWhile_urgent : (before ++ m :: after).dropWhile (· != m) = m :: after := by
  rw [List.dropWhile_append_of_pos (forall_ne_urgent hbefore), List.dropWhile_cons_of_neg (by simp)]

end Urgent

/-! ## The last segment of a message (R25, R250) -/

/-- A message whose last segment is sent has left its queue, and the descriptors that are free go to the oldest messages that wait for one. -/
theorem chainSegmentSend_last {s : State} {d : ChainPort} {before after : List ChainMsg} {m : ChainMsg} (hup : (s.chainPort d.val).up = true)
    (hfrozen : s.isFrozen 35 = false) (hsoak : portSoaks s d.val = false) (hqueue : (s.chainPort d.val).queue = before ++ m :: after)
    (h1 : 1 ≤ m.cls) (h4 : m.cls ≤ 4) (hbefore : ∀ x ∈ before, m.cls < x.cls) (hafter : ∀ x ∈ after, m.cls ≤ x.cls)
    (hlast : m.bytes.length ≤ m.sent + 256) : Completes (.chainSegmentSend d) s fun t =>
      (t.chainPort d.val).queue = before ++ after ++ (s.chainPort d.val).stalled.take (32 - (before ++ after).length) ∧
        t.net.sent = .chain d.val m.cls m.bytes :: s.net.sent := fun hclk => by
  obtain ⟨rest, hnext⟩ := urgentFirst_eq_cons (find?_cls_urgent hbefore) (fun _ => find?_cls_above_urgent hbefore hafter) h1 h4
  rw [urgentFirst] at hnext
  have hexec : exec (.chainSegmentSend d) s = execChainSegmentSend d s := rfl
  rw [CompletesAlways, hexec, execChainSegmentSend, whenClocked_of_clocked hclk]
  simp only [hup, hfrozen, hsoak, hqueue, hnext, takeWhile_urgent hbefore, dropWhile_urgent hbefore, Nat.not_lt.mpr hlast, if_false,
    Bool.not_true, Bool.or_self, Bool.false_eq_true]
  refine ⟨_, rfl, ?_⟩
  split
  all_goals exact ⟨by simp [ChainPortSt.takeWaiting], rfl⟩

/-- A message of the class of the seam's records, one segment long. -/
def recordMsg : ChainMsg := { cls := 2, bytes := [0] }

/-- A device whose upstream chain port is up: 32 messages hold the descriptors of its lane (R25), and the producer of one more waits. -/
def chainFull : State :=
  { State.reset with net := { chain := { upPort := { up := true, queue := List.replicate 32 recordMsg, stalled := [recordMsg] } } } }

/-- Refutes O29: its clause on the last segment of a message leaves out the messages that wait for a descriptor (see `chainSegmentSend_last`). In
`chainFull` the descriptor of the message that leaves is taken at once by the one that waits, and the queue holds 32 messages again, not 31. -/
theorem not_chainPositionsAndSegments : ¬ Obligations.ChainPositionsAndSegments := by
  unfold Obligations.ChainPositionsAndSegments
  rintro ⟨-, -, hsegments, -⟩
  have hup : (chainFull.chainPort (0 : ChainPort).val).up = true := rfl
  have hqueue : (chainFull.chainPort (0 : ChainPort).val).queue = [] ++ recordMsg :: List.replicate 31 recordMsg := rfl
  have hafter : ∀ x ∈ List.replicate 31 recordMsg, recordMsg.cls ≤ x.cls := fun x hx => (List.eq_of_mem_replicate hx) ▸ Nat.le_refl _
  obtain ⟨-, hclaim⟩ := hsegments chainFull 0 [] _ recordMsg hup rfl (by decide) hqueue (by decide) (by decide) (by simp) hafter
  obtain ⟨t, ht, hleft, -⟩ := hclaim (by decide) rfl
  obtain ⟨u, hu, hheld, -⟩ := chainSegmentSend_last (s := chainFull) (d := 0) hup rfl (by decide) hqueue (by decide) (by decide) (by simp) hafter
    (by decide) rfl
  obtain rfl : t = u := Host.Outcome.next.inj (ht.symm.trans hu)
  rw [hleft] at hheld
  exact absurd (congrArg List.length hheld) (by decide)

end Sys2Proof.Machine
end

section
/-!
PROOFS. What an event and all that follows from it leaves of the Mangle (spec/09_mangle_network.md; R290, R301, R475): the ports beside the queues
of classes 0 to 6, what has been sent, and the counters.
-/

namespace Sys2Proof.Machine

/-! ## What a step leaves of the ports and of what was sent -/

/-- A port beside its frames that wait. -/
def PortSt.beside (x : PortSt) : PortSt := { x with queues := [], stalled := [], rowFrames := [] }

/-- Each port differs by its waiting frames at most, and what was sent stays sent. -/
structure PortsGoOn (s t : State) : Prop where
  ports : ∀ p, (t.port p).beside = (s.port p).beside
  sent : s.net.sent <:+ t.net.sent

/-- Each port differs by its waiting frames at most, what was sent stays sent, and no counter but that of dropped log entries (R469) moves. -/
structure EventGoesOn (s t : State) : Prop extends PortsGoOn s t where
  counters : ∀ n, n ≠ 733 → counterOf t n = counterOf s n

section Relation

variable {s t u : State}

theorem PortsGoOn.of_net (h : t.net = s.net) : PortsGoOn s t :=
  ⟨fun p => by rw [State.port, h, State.port], h ▸ List.suffix_rfl⟩

theorem PortsGoOn.refl (s : State) : PortsGoOn s s := .of_net rfl

theorem PortsGoOn.trans (h : PortsGoOn s t) (k : PortsGoOn t u) : PortsGoOn s u :=
  ⟨fun p => (k.ports p).trans (h.ports p), h.sent.trans k.sent⟩

/-- What stays of a port that differs by its waiting frames at most. -/
theorem PortsGoOn.fields (h : PortsGoOn s t) (p : Nat) :
    (t.port p).linkUp = (s.port p).linkUp ∧ (t.port p).rate = (s.port p).rate ∧ (t.port p).list = (s.port p).list ∧
      (t.port p).pending = (s.port p).pending ∧ (t.port p).buffer = (s.port p).buffer ∧ (t.port p).cycles = (s.port p).cycles ∧
      (t.port p).sending = (s.port p).sending ∧ (t.port p).control = (s.port p).control :=
  have hp := h.ports p
  ⟨(congrArg PortSt.linkUp hp :), (congrArg PortSt.rate hp :), (congrArg PortSt.list hp :), (congrArg PortSt.pending hp :),
    (congrArg PortSt.buffer hp :), (congrArg PortSt.cycles hp :), (congrArg PortSt.sending hp :), (congrArg PortSt.control hp :)⟩

theorem PortsGoOn.foldl {α : Type} {f : State → α → State} (h : ∀ s x, PortsGoOn s (f s x)) (l : List α) (s : State) : PortsGoOn s (l.foldl f s) :=
  List.foldlRecOn (motive := PortsGoOn s) l f (.refl s) fun u hu x _ => hu.trans (h u x)

/-- A port that changes by its waiting frames only. -/
theorem PortsGoOn.setPort (s : State) {p : Nat} {x : PortSt} (h : x.beside = (s.port p).beside) : PortsGoOn s (s.setPort p x) := by
  refine ⟨fun j => ?_, List.suffix_rfl⟩
  by_cases hj : p = j
  · subst hj
    rw [State.port_setPort, h]
  · rw [State.port_setPort_ne s p x hj]

theorem EventGoesOn.of_eq (hnet : t.net = s.net) (hpmc : t.pmc = s.pmc) : EventGoesOn s t :=
  ⟨.of_net hnet, fun n _ => by rw [counterOf, hpmc, counterOf]⟩

theorem EventGoesOn.refl (s : State) : EventGoesOn s s := .of_eq rfl rfl

theorem EventGoesOn.trans (h : EventGoesOn s t) (k : EventGoesOn t u) : EventGoesOn s u :=
  ⟨h.toPortsGoOn.trans k.toPortsGoOn, fun n hn => (k.counters n hn).trans (h.counters n hn)⟩

/-- A state that a pair holds. -/
theorem EventGoesOn.of_pair {α : Type} {p : State × α} {x : α} (h : p = (t, x)) (hp : EventGoesOn s p.1) : EventGoesOn s t := by rwa [h] at hp

theorem EventGoesOn.foldl {α : Type} {f : State → α → State} (h : ∀ s x, EventGoesOn s (f s x)) (l : List α) (s : State) :
    EventGoesOn s (l.foldl f s) :=
  List.foldlRecOn (motive := EventGoesOn s) l f (.refl s) fun u hu x _ => hu.trans (h u x)

/-- What is sent beside the ports and the counters. -/
theorem EventGoesOn.emit (s : State) (o : Sent) : EventGoesOn s (s.emit o) :=
  ⟨⟨fun _ => rfl, List.suffix_cons o _⟩, fun _ _ => rfl⟩

end Relation

/-! ## The messages of an event (R64, R78, R456) -/

theorem PortSt.enqueue_beside (x : PortSt) (f : TxFrame) : (x.enqueue f).beside = x.beside := by
  unfold PortSt.enqueue
  split <;> rfl

theorem State.queueFrame_eventGoesOn (s : State) (f : TxFrame) : EventGoesOn s (s.queueFrame f) := by
  unfold State.queueFrame
  split
  · exact .refl s
  · exact ⟨.setPort s (PortSt.enqueue_beside _ f), fun _ _ => rfl⟩

theorem State.shedMessage_eventGoesOn (s : State) (type keyId tid : Nat) (items : List Bytes) (status sender : Nat) :
    EventGoesOn s (s.shedMessage type keyId tid items status sender).1 := by
  unfold State.shedMessage
  dsimp only
  split <;> exact .of_eq rfl rfl

theorem State.notifyOne_eventGoesOn (s : State) (i src sev : Nat) : EventGoesOn s (s.notifyOne i src sev) := by
  unfold State.notifyOne
  extract_lets -underBinder addr held item tid
  split
  · exact .refl s
  split
  · exact .of_eq rfl rfl
  split
  next t msg h =>
    refine .trans ?_ (State.queueFrame_eventGoesOn _ _)
    exact (EventGoesOn.of_pair h (s.shedMessage_eventGoesOn ..)).trans (.of_eq rfl rfl)

theorem State.notify_eventGoesOn (s : State) (src sev : Nat) : EventGoesOn s (s.notify src sev) :=
  .foldl (fun s i => s.notifyOne_eventGoesOn i src sev) _ s

theorem State.fireVec_eventGoesOn (s : State) (v : Nat) : EventGoesOn s (s.fireVec v) :=
  EventGoesOn.trans (t := s.setVec v _) (.of_eq rfl rfl) (.emit _ _)

theorem State.vector_eventGoesOn (s : State) (v : Nat) : EventGoesOn s (s.vector v) := by
  unfold State.vector
  dsimp only
  split
  · exact .refl s
  split
  · exact .of_eq rfl rfl
  split
  · exact .refl s
  split
  · split
    · exact s.fireVec_eventGoesOn v
    · exact .of_eq rfl rfl
  · exact s.fireVec_eventGoesOn v

theorem State.eventVector_eventGoesOn (s : State) (src sev : Nat) : EventGoesOn s (s.eventVector src sev) := by
  unfold State.eventVector
  dsimp only
  split
  · exact (s.vector_eventGoesOn _).trans (State.vector_eventGoesOn _ _)
  · exact s.vector_eventGoesOn _

/-! ## An event (R456, R462, R469) -/

theorem State.logAsk_eventGoesOn (s : State) (r : LogReq) : EventGoesOn s (s.logAsk r) := by
  unfold State.logAsk
  split
  · exact .refl s
  split
  · split <;> exact .of_eq rfl rfl
  split
  · exact .of_eq rfl rfl
  · exact ⟨.of_net rfl, fun n hn => State.count_counter_ne _ 1 (Ne.symm hn)⟩

theorem State.endTracker_eventGoesOn (s : State) (t : Tracker) : EventGoesOn s (s.endTracker t) := by
  unfold State.endTracker
  extract_lets trackers ended
  have hended : EventGoesOn s ended := .of_eq rfl rfl
  split
  · exact hended
  · exact hended.trans (ended.logAsk_eventGoesOn _)

theorem State.signal_eventGoesOn (s : State) (e : Ev) : EventGoesOn s (s.signal e).1 := by
  have hmessages (t : State) (sev : Nat) : EventGoesOn t ((t.eventVector e.src sev).notify e.src sev) :=
    (t.eventVector_eventGoesOn _ _).trans (State.notify_eventGoesOn _ _ _)
  unfold State.signal
  split
  · exact .refl s
  extract_lets -underBinder sev l marked ended
  have hended : EventGoesOn s ended := by
    refine EventGoesOn.trans (t := marked) (.of_eq rfl rfl) ?_
    simp only [ended]
    split
    · split
      · exact State.endTracker_eventGoesOn marked _
      · exact .refl marked
    · exact .refl marked
  clear_value marked ended
  split
  · split
    · dsimp only
      refine .trans ?_ (hmessages _ sev)
      exact hended.trans (.of_eq rfl rfl)
    · exact hended.trans (.of_eq rfl rfl)
  · dsimp only
    refine .trans ?_ (hmessages _ sev)
    split
    · exact hended.trans (.of_eq rfl rfl)
    · exact hended

theorem State.raiseBase_eventGoesOn (s : State) (e : Ev) : EventGoesOn s (s.raiseBase e) := by
  unfold State.raiseBase
  split
  next t entry h =>
    have ht : EventGoesOn s t := .of_pair h (s.signal_eventGoesOn e)
    split
    · exact ht.trans (t.logAsk_eventGoesOn _)
    · exact ht

theorem State.raiseBaseLimited_eventGoesOn (s : State) (key : Nat) (e : Ev) : EventGoesOn s (s.raiseBaseLimited key e) := by
  have hnoted (u : State) (hnet : u.net = s.net) (hpmc : u.pmc = s.pmc) : EventGoesOn s (u.raiseBase e) :=
    (EventGoesOn.of_eq hnet hpmc).trans (u.raiseBase_eventGoesOn e)
  unfold State.raiseBaseLimited
  split
  · split
    · exact hnoted _ (by exact rfl) (by exact rfl)
    · exact .refl s
  · exact hnoted _ (by exact rfl) (by exact rfl)

/-! ## The wakes of an event (R394, R456) -/

theorem State.stallWake_eventGoesOn (s : State) (t : Nat) : EventGoesOn s (s.stallWake t) := .of_eq rfl rfl

theorem State.wakeThread_eventGoesOn (s : State) (t : Nat) : EventGoesOn s (s.wakeThread t) := by
  have hfull := (s.stallWake_eventGoesOn t).trans ((s.stallWake t).raiseBaseLimited_eventGoesOn 544 { src := 544 })
  unfold State.wakeThread
  dsimp only
  split
  · exact .of_eq rfl rfl
  split
  · split
    · exact hfull
    · exact hfull.trans (State.stallWake_eventGoesOn _ _)
  · exact hfull

theorem State.wakeSource_eventGoesOn (s : State) (src : Nat) : EventGoesOn s (s.wakeSource src) := by
  unfold State.wakeSource
  split
  · exact s.wakeThread_eventGoesOn _
  · exact .refl s

theorem State.reportDrops_eventGoesOn (s0 s : State) : EventGoesOn s (State.reportDrops s0 s) := by
  unfold State.reportDrops
  dsimp only
  split
  · exact .refl s
  split
  · exact s.raiseBaseLimited_eventGoesOn 629 _
  · exact (s.raiseBaseLimited_eventGoesOn 629 _).trans (State.wakeSource_eventGoesOn _ _)

theorem State.reportPool_eventGoesOn (s0 s : State) (p : Nat) : EventGoesOn s (State.reportPool s0 s p) := by
  unfold State.reportPool
  split
  · exact (s.raiseBase_eventGoesOn _).trans (State.wakeSource_eventGoesOn _ _)
  · exact .refl s

/-- R456: what an event leaves. -/
theorem State.raise_eventGoesOn (s : State) (e : Ev) : EventGoesOn s (s.raise e) := by
  have hbase := s.raiseBase_eventGoesOn e
  unfold State.raise
  extract_lets base woken
  have hwoken : EventGoesOn s woken := by
    simp only [woken]
    split
    · exact hbase.trans (State.wakeSource_eventGoesOn _ _)
    · exact hbase
  exact (hwoken.trans (.foldl (State.reportPool_eventGoesOn s) _ woken)).trans (State.reportDrops_eventGoesOn _ _)

/-- What an event leaves that is raised at most once in a second. -/
theorem State.raiseLimited_eventGoesOn (s : State) (key : Nat) (e : Ev) : EventGoesOn s (s.raiseLimited key e) := by
  have hnoted (u : State) (hnet : u.net = s.net) (hpmc : u.pmc = s.pmc) : EventGoesOn s (u.raise e) :=
    (EventGoesOn.of_eq hnet hpmc).trans (u.raise_eventGoesOn e)
  unfold State.raiseLimited
  split
  · split
    · exact hnoted _ (by exact rfl) (by exact rfl)
    · exact .refl s
  · exact hnoted _ (by exact rfl) (by exact rfl)

/-! ## The rows of a channel (R189, R212, R280 to R284) -/

theorem State.breach_portsGoOn (s : State) (c k j cause : Nat) : PortsGoOn s (s.breach c k j cause) := by
  unfold State.breach
  split
  · exact .refl s
  dsimp only
  split
  · exact .refl s
  split
  · split
    · exact .of_net rfl
    · refine .trans ?_ (State.raise_eventGoesOn _ _).toPortsGoOn
      exact .of_net rfl
  · exact .of_net rfl

theorem State.blockRow_portsGoOn (s : State) (r : RowSt) (p : Nat) : PortsGoOn s (s.blockRow r p) := by
  unfold State.blockRow
  extract_lets ps cleared
  have hcleared : PortsGoOn s cleared := .setPort s rfl
  split
  · exact hcleared.trans (.of_net rfl)
  · exact hcleared

theorem State.retireRow_net (s : State) (c k j : Nat) : (s.retireRow c k j).net = s.net := by
  unfold State.retireRow
  split
  · rfl
  dsimp only
  split <;> rfl

theorem State.sendCut_portsGoOn (s : State) (r : RowSt) (x : Cut) (opening last : Bool) (rows : Nat) :
    PortsGoOn s (s.sendCut r x opening last rows) := by
  unfold State.sendCut
  extract_lets v c ch seq rowEnd picEnd flags pkt numbered
  refine PortsGoOn.trans (t := numbered) (.of_net rfl) (.foldl (fun s leg => ?_) _ numbered)
  extract_lets p dst f ps sent
  have hsent : PortsGoOn s sent := .setPort s rfl
  split
  · exact .refl s
  split
  · exact hsent.trans (State.raise_eventGoesOn _ _).toPortsGoOn
  · exact hsent

theorem State.buildFrames_portsGoOn (fuel : Nat) (s : State) (c k j : Nat) : PortsGoOn s (State.buildFrames fuel s c k j) := by
  induction fuel generalizing s with
  | zero => exact .refl s
  | succ fuel ih =>
    have hnext {t : State} (ht : PortsGoOn s t) (x : RowSt) : PortsGoOn s (State.buildFrames fuel (t.setRow x) c k j) :=
      PortsGoOn.trans (t := t.setRow x) (ht.trans (.of_net rfl)) (ih _)
    unfold State.buildFrames
    split
    · exact .refl s
    extract_lets v rows opening
    split
    · exact .refl s
    split
    · split
      · exact .refl s
      · refine hnext (.trans ?_ (State.sendCut_portsGoOn _ _ _ _ _ _)) _
        exact .of_net rfl
    · split
      · exact .refl s
      · refine hnext ?_ _
        split
        · exact .refl s
        · exact s.sendCut_portsGoOn _ _ _ _ _

theorem State.build_portsGoOn (s : State) (c k j : Nat) : PortsGoOn s (s.build c k j) := by
  unfold State.build
  split
  · exact State.buildFrames_portsGoOn _ s c k j
  · exact .refl s

end Sys2Proof.Machine
end

section
/-!
PROOFS. Shaper credits and policer tokens (spec/09_mangle_network.md; R289, R294): what a refill step makes of each class's credit and of each
port's tokens.
-/

namespace Sys2Proof.Machine

/-! ## Folds that treat each member by itself -/

/-- A fold whose step for a member changes what is seen at that member only. -/
theorem foldl_at {σ β : Type} {view : σ → Nat → β} {f : σ → Nat → σ} {g : Nat → β → β} (hself : ∀ m i, view (f m i) i = g i (view m i))
    (hother : ∀ m i j, i ≠ j → view (f m i) j = view m j) {l : List Nat} (hl : l.Nodup) {i : Nat} (hi : i ∈ l) (m : σ) :
    view (l.foldl f m) i = g i (view m i) := by
  induction l generalizing m with
  | nil => simp at hi
  | cons a l ih =>
    obtain ⟨ha, hl⟩ := List.nodup_cons.mp hl
    rw [List.foldl_cons]
    obtain rfl | hi := List.mem_cons.mp hi
    · have hrest (n : σ) : view (l.foldl f n) i = view n i :=
        List.foldlRecOn (motive := fun u => view u i = view n i) l f rfl fun u hu x hx => (hother u x i fun h => ha (h ▸ hx)).trans hu
      rw [hrest, hself]
    · rw [ih hl hi, hother m a i fun h => ha (h ▸ hi)]

theorem AMap.find?_del {α : Type} (m : AMap α) (k j : Nat) : AMap.find? (AMap.del m k) j = if k = j then none else AMap.find? m j := by
  induction m with
  | nil => simp [AMap.del, AMap.find?]
  | cons e t ih =>
    unfold AMap.del at ih ⊢
    by_cases hk : e.1 = k
    · rw [List.filter_cons_of_neg (by simp [hk]), ih, AMap.find?, hk]
      split <;> rfl
    · rw [List.filter_cons_of_pos (by simp [hk]), AMap.find?, AMap.find?, ih]
      by_cases hj : e.1 = j
      · rw [if_pos hj, if_pos hj, if_neg fun h => hk (hj.trans h.symm)]
      · rw [if_neg hj, if_neg hj]

/-! ## Effects that take place (R52, R53) -/

theorem State.applyEffects_of_none {s : State} (h : s.draft.effects = []) (due : Effect → Bool) : s.applyEffects due = s := by
  simp [State.applyEffects, h]

theorem State.saveAsk_parts (s : State) : s.saveAsk.net = s.net ∧ s.saveAsk.boot.configCommitted = s.boot.configCommitted := by
  unfold State.saveAsk
  split <;> exact ⟨rfl, rfl⟩

theorem State.applied_goesOn (s : State) : PortsGoOn s s.applied ∧ s.applied.boot.configCommitted = s.boot.configCommitted := by
  unfold State.applied
  extract_lets told
  have htold : PortsGoOn s told := (s.vector_eventGoesOn _).toPortsGoOn
  have hboot : told.boot = s.boot := by simp only [told, State.vector_fields]
  split
  · obtain ⟨hnet, hsaved⟩ := told.saveAsk_parts
    exact ⟨htold.trans (.of_net hnet), by rw [hsaved, hboot]⟩
  · exact ⟨htold, by rw [hboot]⟩

/-- Effects that take place leave the ports beside their waiting frames, and whether a configuration is committed. -/
theorem State.applyEffects_goesOn (s : State) (due : Effect → Bool) :
    PortsGoOn s (s.applyEffects due) ∧ (s.applyEffects due).boot.configCommitted = s.boot.configCommitted := by
  unfold State.applyEffects
  extract_lets now rest d ids taken
  split
  · exact ⟨.refl s, rfl⟩
  · have htaken : PortsGoOn s taken := .of_net rfl
    exact ⟨htaken.trans (.foldl (fun s _ => s.applied_goesOn.1) _ _),
      foldl_view (view := fun s => s.boot.configCommitted) (fun s _ => s.applied_goesOn.2) _ taken⟩

/-! ## The credits of the shaped classes (R289) -/

theorem clampInt_bounds {lo hi : Int} (h : lo ≤ hi) (v : Int) : lo ≤ clampInt lo hi v ∧ clampInt lo hi v ≤ hi := by
  unfold clampInt
  split
  · omega
  · split <;> omega

/-- R289: the credit of a class that neither sends nor has a frame that waits falls to 0. -/
theorem creditStep_of_idle {s : State} {p cls : Nat} (hlo : loCredit s.view p cls ≤ 0) (hhi : 0 ≤ hiCredit s.view p cls)
    (hsending : (s.port p).sending ≠ some cls) (hqueue : AMap.getD (s.port p).queues cls [] = [])
    (hcredit : 0 ≤ AMap.getD (s.port p).credit cls 0) : creditStep s p cls = 0 := by
  have hnext (c : Int) (hc : 0 ≤ c) : (if 0 < c then 0 else c) = 0 := by omega
  simp only [creditStep, hsending, if_false, hqueue, bne_self_eq_false, Bool.false_eq_true, List.isEmpty_nil, Bool.not_true, Bool.false_or,
    decide_eq_true_eq, Int.not_lt.mpr hcredit, hnext _ hcredit, clampInt]
  omega

/-- R289: the credits of a port after a refill step. -/
def creditsRefilled (s : State) (p : Nat) : AMap Int :=
  (List.range 7).foldl (fun m cls => if s.nat (K.portShaperRateKbps p cls) = 0 then AMap.del m cls else AMap.put m cls (creditStep s p cls))
    (s.port p).credit

theorem getD_creditsRefilled (s : State) (p : Nat) {cls : Nat} (hcls : cls < 7) :
    AMap.getD (creditsRefilled s p) cls 0 = if s.nat (K.portShaperRateKbps p cls) = 0 then 0 else creditStep s p cls := by
  refine foldl_at (view := fun m cls => AMap.getD m cls 0)
    (g := fun cls _ => if s.nat (K.portShaperRateKbps p cls) = 0 then 0 else creditStep s p cls) (fun m i => ?_) (fun m i j hij => ?_)
    List.nodup_range (List.mem_range.mpr hcls) _
  · split
    · simp [AMap.getD, AMap.find?_del]
    · exact AMap.getD_put_self ..
  · split
    · simp [AMap.getD, AMap.find?_del, hij]
    · exact AMap.getD_put_ne _ _ _ hij

/-- R52, R289: the effects that wait for a port's refill have taken place. -/
def State.shaperSet (s : State) (p : Nat) : State := s.applyEffects fun e => e.when_ == .refill p

/-- R289: what a refill step of a port leaves. -/
def State.shaperRefilled (s : State) (p : Nat) : State :=
  (s.shaperSet p).setPort p { (s.shaperSet p).port p with credit := creditsRefilled (s.shaperSet p) p, refillAt := nowNs s / 256 }

theorem State.shaperRefilled_refillAt (s : State) (p : Nat) : ((s.shaperRefilled p).port p).refillAt = nowNs s / 256 := by
  rw [State.shaperRefilled, State.port_setPort]

theorem State.shaperRefilled_credit {s : State} {p cls : Nat} (hcls : cls < 7) (hrate : (s.shaperRefilled p).nat (K.portShaperRateKbps p cls) ≠ 0) :
    AMap.getD ((s.shaperRefilled p).port p).credit cls 0 = creditStep (s.shaperSet p) p cls := by
  rw [State.shaperRefilled, State.port_setPort, getD_creditsRefilled _ _ hcls]
  exact if_neg hrate

theorem execShaperRefill_due {s : State} {p : PortId} (h : (s.port p.val).refillAt < nowNs s / 256) (hclk : s.boot.clocksLost = false) :
    exec (.shaperRefill p) s = .next (s.shaperRefilled p.val) := by
  show execShaperRefill p s = _
  rw [execShaperRefill, whenClocked_of_clocked hclk]
  exact if_neg (Nat.not_le.mpr h)

/-- R289: a refill step keeps each shaped class's credit within its bounds, and ends that of an idle class. -/
theorem shaperRefill_due {s : State} {p : PortId} (h : (s.port p.val).refillAt < nowNs s / 256) : Completes (.shaperRefill p) s fun t =>
    (t.port p.val).refillAt = nowNs s / 256 ∧
      (∀ cls, cls < 7 → t.nat (K.portShaperRateKbps p.val cls) ≠ 0 → loCredit t.view p.val cls ≤ hiCredit t.view p.val cls →
        loCredit t.view p.val cls * 48000000 ≤ AMap.getD (t.port p.val).credit cls 0 ∧
          AMap.getD (t.port p.val).credit cls 0 ≤ hiCredit t.view p.val cls * 48000000) ∧
      (∀ cls, cls < 7 → t.nat (K.portShaperRateKbps p.val cls) ≠ 0 → loCredit t.view p.val cls ≤ 0 → 0 ≤ hiCredit t.view p.val cls →
        (s.port p.val).sending ≠ some cls → AMap.getD (s.port p.val).queues cls [] = [] → 0 ≤ AMap.getD (s.port p.val).credit cls 0 →
        s.draft.effects = [] → AMap.getD (t.port p.val).credit cls 0 = 0) := fun hclk => by
  refine ⟨_, execShaperRefill_due h hclk, s.shaperRefilled_refillAt p.val, fun cls hcls hrate hbounds => ?_,
    fun cls hcls hrate hlo hhi hsending hqueue hcredit heffects => ?_⟩
  · rw [State.shaperRefilled_credit hcls hrate]
    exact clampInt_bounds (Int.mul_le_mul_of_nonneg_right hbounds (by decide)) _
  · have hset : s.shaperSet p.val = s := State.applyEffects_of_none heffects _
    rw [State.shaperRefilled_credit hcls hrate]
    have hview : (s.shaperRefilled p.val).view = (s.shaperSet p.val).view := rfl
    rw [hview, hset] at hlo hhi
    rw [hset]
    exact creditStep_of_idle hlo hhi hsending hqueue hcredit

/-! ## The tokens of the control policers (R294) -/

/-- R294: the tokens of a port after a refill step, by its rate in frames a second. -/
def PortSt.tokensGained (rate : Nat) (x : PortSt) : PortSt :=
  if x.control = 256000000000 && x.ptp = 64000000000 then x
  else { x with control := min 256000000000 (x.control + rate * 256), ptp := min 64000000000 (x.ptp + 4096 * 256) }

theorem PortSt.tokensGained_control (x : PortSt) (rate : Nat) :
    (x.tokensGained rate).control = min 256000000000 (x.control + rate * 256) := by
  unfold PortSt.tokensGained
  split
  next hfull =>
    obtain ⟨hcontrol, -⟩ : x.control = 256000000000 ∧ x.ptp = 64000000000 := by simpa using hfull
    rw [hcontrol, Nat.min_eq_left (Nat.le_add_right _ _)]
  next => rfl

/-- R294: a port's step in a policer refill; a port whose tokens are full stays as it is. -/
def State.tokenStep (rate : Nat → Nat) (s : State) (p : Nat) : State :=
  if (s.port p).control = 256000000000 && (s.port p).ptp = 64000000000 then s
  else s.setPort p { s.port p with control := min 256000000000 ((s.port p).control + rate p * 256),
                                   ptp := min 64000000000 ((s.port p).ptp + 4096 * 256) }

theorem State.tokenStep_port (rate : Nat → Nat) (s : State) (p : Nat) : (s.tokenStep rate p).port p = (s.port p).tokensGained (rate p) := by
  unfold State.tokenStep PortSt.tokensGained
  split
  · rfl
  · exact s.port_setPort p _

theorem State.tokenStep_port_ne (rate : Nat → Nat) (s : State) (p j : Nat) (h : p ≠ j) : (s.tokenStep rate p).port j = s.port j := by
  unfold State.tokenStep
  split
  · rfl
  · exact s.port_setPort_ne p _ h

/-- R294: the rate of a port's control policer: that of its object from the first commit on. -/
def controlRate (s : State) (p : Nat) : Nat := if s.boot.configCommitted then s.nat (K.portControlFramesPerSecond p) else 20000

/-- R52, R292: the effects that wait for a policer refill have taken place, and the buckets of the flows have been refilled for step n. -/
def State.flowsRefilled (s : State) (n : Nat) : State :=
  let u := s.applyEffects fun e => e.when_ == .policer
  { u with net := { u.net with flows := u.net.flows.filterMap fun e => (refillFlow u e.1 e.2).map fun b => (e.1, b), policerAt := n } }

theorem State.flowsRefilled_control (s : State) (n p : Nat) : ((s.flowsRefilled n).port p).control = (s.port p).control := by
  obtain ⟨-, -, -, -, -, -, -, hcontrol⟩ := (s.applyEffects_goesOn fun e => e.when_ == .policer).1.fields p
  exact hcontrol

theorem execPolicerRefill_due {s : State} (h : s.net.policerAt < uptimeNs s / 256) (hclk : s.boot.clocksLost = false) :
    exec .policerRefill s = .next ((List.range 8).foldl (State.tokenStep (controlRate (s.flowsRefilled (uptimeNs s / 256))))
      (s.flowsRefilled (uptimeNs s / 256))) := by
  show execPolicerRefill s = _
  rw [execPolicerRefill, whenClocked_of_clocked hclk]
  exact if_neg (Nat.not_le.mpr h)

/-- R294: before the first commit each port's control policer gains the tokens of 20,000 frames a second. -/
theorem policerRefill_due {s : State} (h : s.net.policerAt < uptimeNs s / 256) (hboot : s.boot.configCommitted = false) :
    Completes .policerRefill s fun t => t.net.policerAt = uptimeNs s / 256 ∧ ∀ p, p < 8 → (s.port p).control ≤ 256000000000 →
      (t.port p).control = min 256000000000 ((s.port p).control + 20000 * 256) := fun hclk => by
  refine ⟨_, execPolicerRefill_due h hclk, ?_, fun p hp _ => ?_⟩
  · refine foldl_view (view := fun s => s.net.policerAt) (fun s p => ?_) _ _
    unfold State.tokenStep
    split <;> rfl
  · have hrate : controlRate (s.flowsRefilled (uptimeNs s / 256)) p = 20000 := by
      rw [controlRate, show (s.flowsRefilled _).boot.configCommitted = false from (s.applyEffects_goesOn _).2.trans hboot]
      rfl
    rw [foldl_at (view := State.port) (State.tokenStep_port _) (State.tokenStep_port_ne _) List.nodup_range (List.mem_range.mpr hp), hrate,
      PortSt.tokensGained_control, State.flowsRefilled_control]

theorem policerRefill_early {s : State} (h : uptimeNs s / 256 ≤ s.net.policerAt) : exec .policerRefill s = .next s := by
  show execPolicerRefill s = _
  rw [execPolicerRefill]
  dsimp only
  rw [if_pos h, whenClocked_next_self]

/-- Settles O33: a shaper refill by `shaperRefill_due`, a policer refill by `policerRefill_due` and `policerRefill_early`. -/
theorem creditsAndTokensRefill : Obligations.CreditsAndTokensRefill := by
  unfold Obligations.CreditsAndTokensRefill
  exact ⟨fun _ _ => shaperRefill_due, fun _ => policerRefill_due, fun _ => policerRefill_early⟩

end Sys2Proof.Machine
end

section
/-!
PROOFS. Gate lists and port links (spec/09_mangle_network.md; R276, R277, R301, R302): the entry in force, a list that takes effect, and a link that
goes up or down.
-/

namespace Sys2Proof.Machine

/-! ## The entry in force (R276) -/

/-- R276: the entry at a position of a cycle covers it. -/
theorem entryAt_covers : ∀ (es : List GateEntry) (i pos : Nat), pos < (es.map (·.interval)).sum →
    ∃ j, (entryAt es i pos).1 = i + j ∧ ((es.map (·.interval)).take j).sum ≤ pos ∧ pos < ((es.map (·.interval)).take (j + 1)).sum
  | [], _, _, h => absurd h (Nat.not_lt_zero _)
  | [e], i, pos, h => ⟨0, rfl, Nat.zero_le _, h⟩
  | e :: e' :: es, i, pos, h => by
    rw [entryAt]
    · split
      next hpos => exact ⟨0, rfl, Nat.zero_le _, by simpa using hpos⟩
      next hpos =>
        rw [List.map_cons, List.sum_cons] at h
        obtain ⟨j, hj, hfrom, hto⟩ := entryAt_covers (e' :: es) (i + 1) (pos - e.interval) (by omega)
        refine ⟨j + 1, by rw [hj]; omega, ?_, ?_⟩
        · rw [List.map_cons, List.take_succ_cons, List.sum_cons]
          omega
        · rw [List.map_cons, List.take_succ_cons, List.sum_cons]
          omega
    · simp

theorem cyclePos_lt {l : GateList} (h : 0 < l.cycle) (t : Nat) : cyclePos l t < l.cycle := by
  have hcycle : max 1 l.cycle = l.cycle := Nat.max_eq_right h
  have hlt := Int.emod_lt_of_pos ((t : Int) - (l.base : Int)) (Int.natCast_pos.mpr h)
  have hpos := Int.emod_nonneg ((t : Int) - (l.base : Int)) (Int.natCast_ne_zero.mpr (Nat.ne_of_gt h))
  rw [cyclePos, hcycle]
  omega

/-- R276: a gate list advances to the entry that covers the present instant. -/
theorem gateEntryChange_covers {s : State} {p : PortId} (hcycle : 0 < (s.port p.val).list.cycle)
    (hsum : ((s.port p.val).list.entries.map (·.interval)).sum = (s.port p.val).list.cycle) : Completes (.gateEntryChange p) s fun t =>
      let at_ := cyclePos (s.port p.val).list (nowNs s)
      let spans := (s.port p.val).list.entries.map (·.interval)
      (spans.take (t.port p.val).entry).sum ≤ at_ ∧ at_ < (spans.take ((t.port p.val).entry + 1)).sum ∧
        (t.port p.val).list = (s.port p.val).list ∧ t.objs = s.objs := fun hclk => by
  obtain ⟨j, hj, hfrom, hto⟩ := entryAt_covers (s.port p.val).list.entries 0 _ (hsum ▸ cyclePos_lt hcycle (nowNs s))
  rw [Nat.zero_add] at hj
  refine ⟨_, whenClocked_of_clocked hclk _, ?_⟩
  simp only [State.port_setPort, hj, true_and]
  exact ⟨hfrom, hto, rfl⟩

/-! ## A pending list (R277, R278) -/

/-- R277: a pending list in force at a port, from its cycle's entry at the boundary on. -/
def State.listTaken (s : State) (p : Nat) (x : PendingList) : State :=
  s.setPort p { s.port p with
    list := x.list, pending := none, listDone := (s.port p).listNo, buffer := 1 - (s.port p).buffer,
    entry := (entryAt x.list.entries 0 (cyclePos x.list (boundaryAfter (s.port p).list x.change))).1, cycles := 0 }

theorem State.listTaken_port (s : State) (p : Nat) (x : PendingList) :
    ((s.listTaken p x).port p).list = x.list ∧ ((s.listTaken p x).port p).pending = none ∧ ((s.listTaken p x).port p).cycles = 0 ∧
      ((s.listTaken p x).port p).buffer = 1 - (s.port p).buffer := by
  rw [State.listTaken, State.port_setPort]
  exact ⟨rfl, rfl, rfl, rfl⟩

/-- R277, R278, R517: what follows from a list that has taken effect: the objects that tell of it, the effects joined to it, the rows under way, and
its event. -/
def State.listFollowed (s : State) (p : Nat) (twill : Bool) (at_ : Nat) : State :=
  let shown := (s.setN (K.portListInForce p) (b2n twill)).set (K.portLastChangeover p) (time80 at_)
  (((shown.applyEffects fun e => e.when_ == .changeover p).rowsAtChange p).showPort p).raise { src := 288 + 12 * p + 1, unit := p }

theorem State.rowsAtChange_portsGoOn (s : State) (p : Nat) : PortsGoOn s (s.rowsAtChange p) := by
  unfold State.rowsAtChange
  refine .foldl (fun s r => ?_) _ s
  split
  · exact ((s.blockRow_portsGoOn r p).trans (State.breach_portsGoOn _ _ _ _ _)).trans (State.raise_eventGoesOn _ _).toPortsGoOn
  · exact .refl s

theorem State.showPort_net (s : State) (p : Nat) : (s.showPort p).net = s.net := by
  unfold State.showPort
  refine foldl_view (view := State.net) (fun s c => ?_) _ (s.setN _ _)
  split <;> rfl

theorem State.listFollowed_portsGoOn (s : State) (p : Nat) (twill : Bool) (at_ : Nat) : PortsGoOn s (s.listFollowed p twill at_) := by
  unfold State.listFollowed
  extract_lets shown
  have heffects := PortsGoOn.trans (s := s) (t := shown) (.of_net rfl) (shown.applyEffects_goesOn fun e => e.when_ == .changeover p).1
  have hrows := heffects.trans (State.rowsAtChange_portsGoOn _ p)
  exact (hrows.trans (.of_net (State.showPort_net _ p))).trans (State.raise_eventGoesOn _ _).toPortsGoOn

theorem execGateListChangeover_due {s : State} {p : PortId} {x : PendingList} (hx : (s.port p.val).pending = some x)
    (h : boundaryAfter (s.port p.val).list x.change ≤ nowNs s) (hclk : s.boot.clocksLost = false) : exec (.gateListChangeover p) s =
    .next ((s.listTaken p.val x).listFollowed p.val x.list.twill (boundaryAfter (s.port p.val).list x.change)) := by
  show execGateListChangeover p s = _
  rw [execGateListChangeover, whenClocked_of_clocked hclk]
  simp only [hx]
  exact if_neg (Nat.not_lt.mpr h)

/-- R277: a list whose boundary has come is in force, and none is pending then. -/
theorem gateListChangeover_due {s : State} {p : PortId} {x : PendingList} (hx : (s.port p.val).pending = some x)
    (h : boundaryAfter (s.port p.val).list x.change ≤ nowNs s) : Completes (.gateListChangeover p) s fun t =>
      (t.port p.val).list = x.list ∧ (t.port p.val).pending = none ∧ (t.port p.val).cycles = 0 ∧
        (t.port p.val).buffer = 1 - (s.port p.val).buffer := fun hclk => by
  refine ⟨_, execGateListChangeover_due hx h hclk, ?_⟩
  obtain ⟨-, -, hlist, hpending, hbuffer, hcycles, -⟩ := ((s.listTaken p.val x).listFollowed_portsGoOn p.val x.list.twill
    (boundaryAfter (s.port p.val).list x.change)).fields p.val
  obtain ⟨htaken, hnone, hzero, hother⟩ := s.listTaken_port p.val x
  exact ⟨hlist.trans htaken, hpending.trans hnone, hcycles.trans hzero, hbuffer.trans hother⟩

/-- R277: before its boundary a list stays pending. -/
theorem gateListChangeover_early {s : State} {p : PortId} {x : PendingList} (hx : (s.port p.val).pending = some x)
    (h : nowNs s < boundaryAfter (s.port p.val).list x.change) : exec (.gateListChangeover p) s = .next s := by
  show execGateListChangeover p s = _
  simp only [execGateListChangeover, hx, if_pos h, whenClocked_next_self]

/-! ## The link of a port (R270, R284, R301) -/

/-- R301: a port's link set, with the objects that show it. -/
def State.linkSet (s : State) (p : Nat) (up : Bool) (rate : Nat) : State :=
  let rate' := if up then rate else 0
  ((s.setPort p { s.port p with linkUp := up, rate := rate', sending := none, busyUntil := if up then s.clk.ticks else 0 }).setN
    (K.portLinkUp p) (b2n up)).setN (K.portLineRateMbps p) rate'

/-- R284: the rows that are under way on a port whose link has gone down stop there. -/
def State.rowsStopped (s : State) (p : Nat) : State :=
  s.video.rows.foldl (fun s r =>
    if r.opened && !bit r.blocked p && (channelPorts (s.picView r.chan r.pic) r.chan).contains p
        && !(r.lastStaged && decide (r.bytes ≤ AMap.getD r.sent p 0)) then
      ((s.blockRow r p).breach r.chan r.pic r.row 3).retireRow r.chan r.pic r.row
    else s) s

theorem State.rowsStopped_portsGoOn (s : State) (p : Nat) : PortsGoOn s (s.rowsStopped p) := by
  unfold State.rowsStopped
  refine .foldl (fun s r => ?_) _ s
  split
  · exact ((s.blockRow_portsGoOn r p).trans (State.breach_portsGoOn _ _ _ _ _)).trans (.of_net (State.retireRow_net _ _ _ _))
  · exact .refl s

theorem State.rowsStopped_of_none {s : State} (h : s.video.rows = []) (p : Nat) : s.rowsStopped p = s := by rw [State.rowsStopped, h, List.foldl_nil]

@[simp] theorem keySub_portLink (p : Nat) : keySub (K.portLinkUp p) = 1 ∧ keySub (K.portLineRateMbps p) = 2 :=
  ⟨keySub_objKey _ 1, keySub_objKey _ 2⟩

theorem State.linkSet_shows (s : State) (p : Nat) (up : Bool) (rate : Nat) : (s.linkSet p up rate).nat (K.portLinkUp p) = b2n up ∧
    (s.linkSet p up rate).nat (K.portLineRateMbps p) = if up then rate else 0 := by
  simp [State.linkSet, State.nat_setN_of_keySub]

theorem State.linkSet_port (s : State) (p : Nat) (up : Bool) (rate : Nat) : ((s.linkSet p up rate).port p).linkUp = up ∧
    ((s.linkSet p up rate).port p).rate = if up then rate else 0 := by
  have hport : (s.linkSet p up rate).port p =
      { s.port p with linkUp := up, rate := if up then rate else 0, sending := none, busyUntil := if up then s.clk.ticks else 0 } :=
    s.port_setPort p _
  rw [hport]
  exact ⟨rfl, rfl⟩

section Link

variable {s : State} {p : PortId}

theorem execPortLinkChange_up (hdown : (s.port p.val).linkUp = false) (husable : portUsable s.view p.val = true) (hclk : s.boot.clocksLost = false) :
    exec (.portLinkChange p true (portRateMbps s.view p.val)) s =
      .next ((s.linkSet p.val true (portRateMbps s.view p.val)).raise { src := 288 + 12 * p.val, unit := p.val }) := by
  show execPortLinkChange p true _ s = _
  rw [execPortLinkChange, whenClocked_of_clocked hclk]
  exact if_neg (by simp [hdown, husable])

theorem execPortLinkChange_down (hup : (s.port p.val).linkUp = true) (n : Nat) (hclk : s.boot.clocksLost = false) :
    exec (.portLinkChange p false n) s =
      .next (((s.linkSet p.val false n).rowsStopped p.val).raise { src := 288 + 12 * p.val, unit := p.val }) := by
  show execPortLinkChange p false n s = _
  rw [execPortLinkChange, whenClocked_of_clocked hclk]
  exact if_neg (by simp [hup])

/-- R301, R302: the link of a port that is enabled and bound goes up at the rate of its binding. -/
theorem portLinkChange_up (hdown : (s.port p.val).linkUp = false) (husable : portUsable s.view p.val = true) :
    Completes (.portLinkChange p true (portRateMbps s.view p.val)) s fun t =>
      (t.port p.val).linkUp = true ∧ (t.port p.val).rate = portRateMbps s.view p.val ∧ t.nat (K.portLinkUp p.val) = 1 ∧
        t.nat (K.portLineRateMbps p.val) = portRateMbps s.view p.val := fun hclk => by
  refine ⟨_, execPortLinkChange_up hdown husable hclk, ?_⟩
  generalize portRateMbps s.view p.val = rate
  obtain ⟨hlink, hrate, -⟩ := ((s.linkSet p.val true rate).raise_eventGoesOn { src := 288 + 12 * p.val, unit := p.val }).fields p.val
  obtain ⟨hset, hsetRate⟩ := s.linkSet_port p.val true rate
  obtain ⟨hshown, hshownRate⟩ := s.linkSet_shows p.val true rate
  rw [hlink, hrate, State.raise_nat, hset, hsetRate, hshown, hshownRate]
  exact ⟨rfl, rfl, rfl, rfl⟩

/-- R284, R301: the link of a port goes down. -/
theorem portLinkChange_down (n : Nat) (hup : (s.port p.val).linkUp = true) : Completes (.portLinkChange p false n) s fun t =>
    (t.port p.val).linkUp = false ∧ (t.port p.val).rate = 0 ∧
      (s.video.rows = [] → t.nat (K.portLinkUp p.val) = 0 ∧ t.nat (K.portLineRateMbps p.val) = 0) := fun hclk => by
  refine ⟨_, execPortLinkChange_down hup n hclk, ?_⟩
  have hgoes := ((s.linkSet p.val false n).rowsStopped_portsGoOn p.val).trans
    (State.raise_eventGoesOn _ { src := 288 + 12 * p.val, unit := p.val }).toPortsGoOn
  obtain ⟨hlink, hrate, -⟩ := hgoes.fields p.val
  obtain ⟨hset, hsetRate⟩ := s.linkSet_port p.val false n
  refine ⟨hlink.trans hset, hrate.trans hsetRate, fun hrows => ?_⟩
  rw [State.raise_nat, State.rowsStopped_of_none (by exact hrows)]
  exact s.linkSet_shows p.val false n

end Link

/-- Settles O32: the entry by `gateEntryChange_covers`, a pending list by `gateListChangeover_due` and `gateListChangeover_early`, a link by
`portLinkChange_up` and `portLinkChange_down`. -/
theorem gateListsChange : Obligations.GateListsChange := by
  unfold Obligations.GateListsChange
  exact ⟨fun _ _ _ => gateEntryChange_covers, fun _ _ _ => gateListChangeover_due, fun _ _ _ => gateListChangeover_early,
    fun _ _ => portLinkChange_up, fun _ _ => portLinkChange_down⟩

end Sys2Proof.Machine
end

section
/-!
PROOFS. The next frame of a port (spec/09_mangle_network.md; R273, R274, R287, R307): which frame is chosen, what its start leaves, and the sender
reports of a phase stream.
-/

namespace Sys2Proof.Machine

/-! ## The start of a frame (R273, R307) -/

theorem State.dom_setDom_self (s : State) (d : Nat) (x : DomainSt) : (s.setDom d x).dom d = x := by
  unfold State.setDom State.dom
  split <;> rfl

/-- The stamping of a request leaves the ports, the clocks and the video. -/
theorem State.stampRequest_parts (s : State) (p : Nat) (f : TxFrame) :
    (s.stampRequest p f).net = s.net ∧ (s.stampRequest p f).clk = s.clk ∧ (s.stampRequest p f).video = s.video := by
  unfold State.stampRequest
  split
  · exact ⟨rfl, rfl, rfl⟩
  · split <;> exact ⟨rfl, rfl, rfl⟩

/-- R307: a domain's newest request is timestamped on the domain's clock, with the port's correction. -/
theorem State.stampRequest_newest {s : State} {f : TxFrame} {d seq : Nat} (hptp : f.ptp = some (d, seq)) (hnew : (s.dom d).delaySeq = seq) (p : Nat) :
    ((s.stampRequest p f).dom d).delayReq = some (seq, (domainNs s d : Int) + s.int (K.tcorrEgressCorrNs p)) := by
  simp only [State.stampRequest, hptp, hnew, if_true, State.dom_setDom_self]

/-- R273: a frame takes some of TIME_CLK on its wire. -/
theorem wireTicks_pos (n rate : Nat) : 0 < ceilN (wireNs (n + 20) rate * 6 / 25) := by
  have hbytes : (0 : Rat) < q ((n + 20) * 8 * 1000) := by
    unfold q
    exact_mod_cast (by omega : 0 < (n + 20) * 8 * 1000)
  have hrate : (0 : Rat) < q (max 1 rate) := by
    unfold q
    exact_mod_cast (by omega : 0 < max 1 rate)
  have hquot : 0 < wireNs (n + 20) rate := (Rat.lt_div_iff hrate).mpr (by rwa [Rat.zero_mul])
  have hwire : 0 < wireNs (n + 20) rate * 6 / 25 :=
    (Rat.lt_div_iff (by decide)).mpr (by rw [Rat.zero_mul]; exact Rat.mul_pos hquot (by decide))
  have hceil : 0 < (wireNs (n + 20) rate * 6 / 25).ceil := Rat.lt_ceil_iff.mpr hwire
  rw [ceilN]
  omega

/-- A frame that goes onto the wire of a port. -/
theorem State.startFrame_parts (s : State) (p : Nat) (f : TxFrame) :
    (s.startFrame p f).net.sent = .frame { f with waited := false } :: s.net.sent ∧ (s.startFrame p f).video = s.video ∧
      (s.startFrame p f).dom = (s.stampRequest p f).dom ∧ ((s.startFrame p f).port p).sending = some f.cls ∧
      s.clk.ticks < ((s.startFrame p f).port p).busyUntil := by
  obtain ⟨hnet, hclk, hvideo⟩ := s.stampRequest_parts p f
  unfold State.startFrame
  extract_lets stamped ps n busy begun
  have hport : begun.port p = { ps with txFrom := stamped.clk.ticks, busyUntil := stamped.clk.ticks + busy, sending := some f.cls } :=
    stamped.port_setPort p _
  have hcounted (n k m i : Nat) : ((begun.count n k).count m i).port p = begun.port p := rfl
  rw [hcounted, hport]
  have hsent : begun.net.sent = .frame { f with waited := false } :: stamped.net.sent := rfl
  have hrest : begun.video = stamped.video ∧ begun.time = stamped.time := by
    simp only [begun, State.emit_fields, State.setPort_fields, and_self]
  refine ⟨hsent.trans (by rw [hnet]), ?_, ?_, rfl, ?_⟩
  · simp only [State.count_fields, hrest, stamped, hvideo]
  · funext d
    simp only [State.dom, State.count_fields, hrest, stamped]
  · show s.clk.ticks < (s.stampRequest p f).clk.ticks + busy
    rw [hclk]
    exact Nat.lt_add_of_pos_right (wireTicks_pos _ _)

/-- The count of the frames that wait leaves what was sent, the clocks, the video, the time, the objects and the fuses. -/
theorem State.noteWaits_parts (s : State) (p : Nat) : (s.noteWaits p).net.sent = s.net.sent ∧ (s.noteWaits p).clk = s.clk ∧
    (s.noteWaits p).video = s.video ∧ (s.noteWaits p).time = s.time ∧ (s.noteWaits p).objs = s.objs ∧ (s.noteWaits p).fuses = s.fuses := by
  unfold State.noteWaits
  dsimp only
  split <;> exact ⟨rfl, rfl, rfl, rfl, rfl, rfl⟩

/-! ## The chosen frame (R273, R274) -/

theorem firstFlow_eq_none {s : State} {l : List RowFrame} (h : firstFlow s l = none) : l = [] := by
  cases l with
  | nil => rfl
  | cons a l =>
    have hsome : (firstFlow s (a :: l)).isSome = true := by
      refine List.foldlRecOn (motive := fun b : Option RowFrame => b.isSome = true) l _ rfl fun b hb f _ => ?_
      cases b with
      | none => cases hb
      | some b =>
        dsimp only
        split <;> rfl
    rw [h] at hsome
    cases hsome

/-- R273, R274, R289: a frame of classes 6 to 0 that is chosen is the oldest of a class that may send, and fits; no row frame that fits is an
opening frame or due. -/
theorem pickFrame_other {s : State} {p : Nat} {f : TxFrame} (h : pickFrame s p = .other f) : fits s p f 0 none = true ∧
    (∃ cls, cls ≤ 6 ∧ mayShape s p cls = true ∧ (AMap.getD (s.port p).queues cls []).head? = some f) ∧
    ∀ g ∈ rowHeads (s.port p), fits s p g.frame g.chan (some (g.chan, g.pic, g.row)) = true →
      g.opening = false ∧ nowExact s + tMax s.view p < evenFlow s g := by
  unfold pickFrame at h
  extract_lets ps heads due at h
  split at h
  · cases h
  next hopening =>
  split at h
  · cases h
  next hdue =>
  split at h
  next g hg =>
    obtain rfl : g = f := TxPick.other.inj h
    obtain ⟨cls, hcls, hfound⟩ := List.exists_of_findSome?_eq_some hg
    split at hfound
    next f rest hqueue =>
      split at hfound
      next hmay =>
        obtain rfl : f = g := Option.some.inj hfound
        obtain ⟨hshape, hfits⟩ := Bool.and_eq_true_iff.mp hmay
        refine ⟨hfits, ⟨cls, ?_, hshape, by rw [hqueue, List.head?_cons]⟩, fun r hr hrfits => ?_⟩
        · simp only [List.mem_cons, List.not_mem_nil, or_false] at hcls
          omega
        · have hhead : r ∈ heads := List.mem_filter.mpr ⟨hr, hrfits⟩
          have hnot := List.find?_eq_none.mp hopening r hhead
          have hlate := List.filter_eq_nil_iff.mp (firstFlow_eq_none hdue) r hhead
          exact ⟨Bool.eq_false_iff.mpr hnot, Rat.not_le.mp fun h => hlate (decide_eq_true h)⟩
      next => cases hfound
    next => cases hfound
  next => split at h <;> cases h

/-! ## TX_FRAME_SELECT -/

/-- R273: the transmitter of a port is idle, and nothing keeps it from a frame. -/
structure TxIdle (s : State) (p : Nat) : Prop where
  up : (s.port p).linkUp = true
  runs : s.videoStopped = false
  served : s.isFrozen 31 = false
  idle : (s.port p).busyUntil ≤ s.clk.ticks

/-- R290: a frame of classes 6 to 0 taken off its queue, and its descriptor given on. -/
def State.chosenTaken (s : State) (p : Nat) (f : TxFrame) : State :=
  s.setPort p (PortSt.takeWaiting { s.port p with queues := AMap.upd (s.port p).queues f.cls [] (·.drop 1) })

/-- A row's frame taken off its port. -/
def State.rowFrameTaken (s : State) (p : Nat) (f : RowFrame) : State :=
  s.setPort p { s.port p with
    rowFrames := (s.port p).rowFrames.takeWhile (fun g => g != f) ++ ((s.port p).rowFrames.dropWhile (fun g => g != f)).drop 1 }

/-- R212: what a row frame that leaves does beside its start. -/
theorem State.rowFrameOut_portsGoOn (s : State) (p : Nat) (f : RowFrame) :
    PortsGoOn ((s.rowFrameTaken p f).startFrame p f.frame) (s.rowFrameOut p f) := by
  unfold State.rowFrameOut
  extract_lets ps rest taken started now stop late v video
  have hstarted : PortsGoOn ((s.rowFrameTaken p f).startFrame p f.frame) started := .of_net rfl
  split
  · exact hstarted
  next r _ =>
    extract_lets cause before sent freed noted breached
    have hnoted : PortsGoOn started noted := .of_net rfl
    have hbreached : PortsGoOn noted breached := by
      simp only [breached]
      split
      · exact noted.breach_portsGoOn _ _ _ _
      · exact .refl noted
    exact (((hstarted.trans hnoted).trans hbreached).trans (breached.build_portsGoOn _ _ _)).trans (.of_net (State.retireRow_net _ _ _ _))

section Select

variable {s : State} {p : PortId} (h : TxIdle s p.val)
include h

/-- TX_FRAME_SELECT of an idle transmitter, by what is chosen. -/
theorem execTxFrameSelect_idle (hclk : s.boot.clocksLost = false) :
    (pickFrame (s.noteWaits p.val) p.val = .none → exec (.txFrameSelect p) s =
      .next ((s.noteWaits p.val).setPort p.val { (s.noteWaits p.val).port p.val with sending := none })) ∧
    (∀ f, pickFrame (s.noteWaits p.val) p.val = .other f → exec (.txFrameSelect p) s =
      .next (((s.noteWaits p.val).chosenTaken p.val f).startFrame p.val f)) ∧
    (∀ f, pickFrame (s.noteWaits p.val) p.val = .row f → exec (.txFrameSelect p) s = .next ((s.noteWaits p.val).rowFrameOut p.val f)) := by
  have hopen : (!(s.port p.val).linkUp || s.videoStopped || s.isFrozen 31 || decide (s.clk.ticks < (s.port p.val).busyUntil)) = false := by
    simp [h.up, h.runs, h.served, h.idle]
  have hexec : exec (.txFrameSelect p) s = execTxFrameSelect p s := rfl
  rw [hexec, execTxFrameSelect, whenClocked_of_clocked hclk]
  simp only [hopen, Bool.false_eq_true, if_false]
  refine ⟨fun hpick => ?_, fun f hpick => ?_, fun f hpick => ?_⟩
  · rw [hpick]
  · simp only [hpick, State.chosenTaken]
  · rw [hpick]

/-- R273: where no frame may go the transmitter stays idle. -/
theorem txFrameSelect_none (hpick : pickFrame (s.noteWaits p.val) p.val = .none) : Completes (.txFrameSelect p) s fun t =>
    t.net.sent = s.net.sent ∧ (t.port p.val).sending = none := fun hclk => by
  obtain ⟨hnone, -, -⟩ := execTxFrameSelect_idle h hclk
  obtain ⟨hsent, -⟩ := s.noteWaits_parts p.val
  refine ⟨_, hnone hpick, hsent, ?_⟩
  rw [State.port_setPort]

/-- R273, R307: a chosen frame of classes 6 to 0 goes onto the wire for its wire time. -/
theorem txFrameSelect_other {f : TxFrame} (hpick : pickFrame (s.noteWaits p.val) p.val = .other f) : Completes (.txFrameSelect p) s fun t =>
    t.net.sent = .frame { f with waited := false } :: s.net.sent ∧ (t.port p.val).sending = some f.cls ∧
      s.clk.ticks < (t.port p.val).busyUntil ∧ t.video = s.video ∧
      ∀ d seq, f.ptp = some (d, seq) → (s.dom d).delaySeq = seq →
        (t.dom d).delayReq = some (seq, (domainNs s d : Int) + s.int (K.tcorrEgressCorrNs p.val)) := fun hclk => by
  obtain ⟨-, hother, -⟩ := execTxFrameSelect_idle h hclk
  obtain ⟨hsent, hticks, hvideo, htime, hobjs, hfuses⟩ := s.noteWaits_parts p.val
  refine ⟨_, hother f hpick, ?_⟩
  generalize htaken : (s.noteWaits p.val).chosenTaken p.val f = u
  have hu : u.net.sent = s.net.sent ∧ u.clk = s.clk ∧ u.video = s.video ∧ u.time = s.time ∧ u.objs = s.objs ∧ u.fuses = s.fuses := by
    subst htaken
    exact ⟨hsent, hticks, hvideo, htime, hobjs, hfuses⟩
  clear htaken hsent hticks hvideo htime hobjs hfuses
  obtain ⟨hsent, hticks, hvideo, htime, hobjs, hfuses⟩ := hu
  obtain ⟨hout, hkept, hdom, hsending, hbusy⟩ := u.startFrame_parts p.val f
  refine ⟨by rw [hout, hsent], hsending, hticks ▸ hbusy, hkept.trans hvideo, fun d seq hptp hseq => ?_⟩
  have hnew : (u.dom d).delaySeq = seq := by rw [State.dom, htime, ← hseq, State.dom]
  have hns : domainNs u d = domainNs s d := by rw [domainNs, hticks, domainNs]
  rw [hdom, State.stampRequest_newest hptp hnew, hns, State.int_congr hobjs hfuses]

/-- R273, R274: a chosen row frame goes onto the wire. -/
theorem txFrameSelect_row {f : RowFrame} (hpick : pickFrame (s.noteWaits p.val) p.val = .row f) : Completes (.txFrameSelect p) s fun t =>
    .frame { f.frame with waited := false } ∈ t.net.sent ∧ (t.port p.val).sending = some f.frame.cls := fun hclk => by
  obtain ⟨-, -, hrow⟩ := execTxFrameSelect_idle h hclk
  refine ⟨_, hrow f hpick, ?_⟩
  have hgoes := (s.noteWaits p.val).rowFrameOut_portsGoOn p.val f
  obtain ⟨-, -, -, -, -, -, hsending, -⟩ := hgoes.fields p.val
  obtain ⟨hout, -, -, hstarted, -⟩ := ((s.noteWaits p.val).rowFrameTaken p.val f).startFrame_parts p.val f.frame
  exact ⟨hgoes.sent.subset (hout ▸ List.mem_cons_self), hsending.trans hstarted⟩

end Select

/-! ## Sender reports (R287) -/

/-- R287: the sender report of a phase stream, by RFC 3550's layout. -/
def senderReport (s : State) (c phase : Nat) : Bytes :=
  let ch := s.chan c
  let now := nowNs s
  [0x80, 200] ++ beBytes 2 6 ++ beBytes 4 (s.view.nat (K.streamSsrcBase c) + phase) ++ beBytes 4 ((now / 1000000000 + 2208988800) % 2 ^ 32)
    ++ beBytes 4 (now % 1000000000 * 2 ^ 32 / 1000000000) ++ beBytes 4 (now * 90000 / 1000000000) ++ beBytes 4 (AMap.getD ch.packets phase 0)
    ++ beBytes 4 (AMap.getD ch.octets phase 0)

/-- R287: the report on one leg, if the leg has a port. -/
def State.reportLeg (v : View) (c phase : Nat) (body : Bytes) (s : State) (leg : Nat) : State :=
  let p := legPort v c leg
  if 8 ≤ p then s
  else s.sendFrame (udpFrame s p 6 (v.oct (if leg = 0 then K.streamDestAddressA c else K.streamDestAddressB c))
    (v.nat (K.streamDestUdpPort c) + 2 * phase + 1) (v.nat (K.streamSourceUdpPort c) + 2 * phase + 1) body)

/-- R287: the time of a phase stream's last report. -/
def State.reportNoted (s : State) (c phase : Nat) : State :=
  s.setChan c { s.chan c with lastSr := AMap.put (s.chan c).lastSr phase s.clk.ticks }

theorem State.reportLeg_parts (v : View) (c phase : Nat) (body : Bytes) (s : State) (leg : Nat) :
    (s.reportLeg v c phase body leg).objs = s.objs ∧ (s.reportLeg v c phase body leg).chan = s.chan := by
  have hstill : (s.reportLeg v c phase body leg).still = s.still := by
    unfold State.reportLeg
    dsimp only
    split
    · rfl
    · exact State.sendFrame_still _ _
  exact ⟨by simp only [State.still_fields hstill], by simp only [State.still_accessors hstill]⟩

/-- R287: a phase stream that has sent no report yet sends one. -/
theorem rtcpSenderReport_first {s : State} {c : Chan} {phase : Nat} (hcoded : (s.chan c.val).encoding = true)
    (hevery : s.nat (K.streamRtcpIntervalMs c.val) ≠ 0) (hphase : phase < phases s.view c.val)
    (hfirst : AMap.find? (s.chan c.val).lastSr phase = none) (hruns : s.videoStopped = false) (hports : channelPorts s.view c.val ≠ []) :
    Completes (.rtcpSenderReport c phase) s fun t => AMap.find? (t.chan c.val).lastSr phase = some s.clk.ticks ∧ t.objs = s.objs ∧
      (legPort s.view c.val 0 < 8 → 8 ≤ legPort s.view c.val 1 → ∃ (u : State) (f : TxFrame), u.net = s.net ∧ u.objs = s.objs ∧
        t = u.sendFrame f ∧ f.cls = 6 ∧ f.port = legPort s.view c.val 0) := fun hclk => by
  generalize hbody : senderReport s c.val phase = body
  have hexec : exec (.rtcpSenderReport c phase) s =
      .next (((s.reportNoted c.val phase).reportLeg s.view c.val phase body 0).reportLeg s.view c.val phase body 1) := by
    subst hbody
    show execRtcpSenderReport c phase s = _
    rw [execRtcpSenderReport, whenClocked_of_clocked hclk]
    have hevery' : s.view.nat (K.streamRtcpIntervalMs c.val) ≠ 0 := hevery
    simp only [hfirst]
    exact if_neg (by simp [hcoded, hevery', hphase, hruns, hports])
  refine ⟨_, hexec, ?_⟩
  obtain ⟨hobjs0, hchan0⟩ := (s.reportNoted c.val phase).reportLeg_parts s.view c.val phase body 0
  obtain ⟨hobjs1, hchan1⟩ := ((s.reportNoted c.val phase).reportLeg s.view c.val phase body 0).reportLeg_parts s.view c.val phase body 1
  refine ⟨?_, hobjs1.trans hobjs0, fun hfirstLeg hsecondLeg => ⟨s.reportNoted c.val phase, ?_⟩⟩
  · rw [hchan1, hchan0, State.reportNoted, State.chan_setChan, AMap.find?_put_self]
  · rw [State.reportLeg, State.reportLeg, if_pos hsecondLeg, if_neg (Nat.not_le.mpr hfirstLeg)]
    exact ⟨_, rfl, rfl, rfl, rfl, rfl⟩

/-- Settles O31: an idle transmitter by `txFrameSelect_none`, `txFrameSelect_other` and `txFrameSelect_row`, the choice by `pickFrame_other`, a sender
report by `rtcpSenderReport_first`. -/
theorem framesAreChosen : Obligations.FramesAreChosen := by
  unfold Obligations.FramesAreChosen
  refine ⟨fun s p hup hruns hserved hidle => ?_, fun _ _ _ => pickFrame_other, fun _ _ _ => rtcpSenderReport_first⟩
  have h : TxIdle s p.val := ⟨hup, hruns, hserved, hidle⟩
  exact ⟨txFrameSelect_none h, fun _ => txFrameSelect_other h, fun _ => txFrameSelect_row h⟩

end Sys2Proof.Machine
end

section
/-!
PROOFS. Frames that arrive (spec/09_mangle_network.md; R272, R290 to R295): what a frame comes to at the MAC, at the PTP limit and in the flow table.
-/

namespace Sys2Proof.Machine

/-! ## A counter moves nothing that the MAC and the flow table read (R475) -/

/-- R296: a port's own IPv6 address reads as it is set, or else as its MAC address gives it. -/
theorem readObj_portIpv6Address (s : State) (p : PortId) : readObj s .selvedge (K.portIpv6Address p.val) =
    if (AMap.find? s.objs (K.portIpv6Address p.val)).isNone then .oct (linkLocal (s.obj (K.portMacAddress p.val)).toBytes)
    else s.obj (K.portIpv6Address p.val) := by
  have hidx : keyIdx (K.portIpv6Address p.val) = 0x5000 + 0x100 * p.val := keyIdx_objKey _ (by decide)
  have hsub : keySub (K.portIpv6Address p.val) = 7 := keySub_objKey _ 7
  have hp := p.isLt
  have hmod : (0x5000 + 0x100 * p.val) % 256 = 0 := by omega
  have hne {j : Nat} (hj : keyIdx j < 0x5000 ∨ 0x5800 ≤ keyIdx j) : K.portIpv6Address p.val ≠ j := key_ne_of_keyIdx (by omega)
  have hother : otherView s (K.portIpv6Address p.val) =
      if (AMap.find? s.objs (K.portIpv6Address p.val)).isNone then some (.oct (linkLocal (s.obj (K.portMacAddress p.val)).toBytes)) else none := by
    unfold otherView
    have hshed : 0x5000 + 0x100 * p.val ≠ 0x1E80 ∧ 0x5000 + 0x100 * p.val ≠ 0x7002 := by omega
    have hin : 0x5000 + 0x100 * p.val < 0x5800 := by omega
    simp (disch := decide) [hidx, hsub, hmod, hne, hshed, hin]
  have hshown : readObj s .selvedge (K.portIpv6Address p.val) =
      (otherView s (K.portIpv6Address p.val)).getD (s.obj (K.portIpv6Address p.val)) := by
    unfold readObj
    simp only [hidx, Bool.and_eq_true, Bool.or_eq_true, decide_eq_true_eq]
    rw [if_neg (by omega), if_neg (by omega), if_neg (by omega), if_neg (by omega), if_neg (by omega), if_pos (by omega)]
  rw [hshown, hother]
  split <;> rfl

section Counted

variable (s : State) (n k p : Nat) (x : RxFrame)

theorem malformed_count : malformed (s.count n k) p x = malformed s p x := rfl
theorem macOk_count (p : PortId) : macOk (s.count n k) p.val x = macOk s p.val x := by
  simp only [macOk, joinedMacs, readObj_portIpv6Address]
  rfl
theorem flowFor_count : flowFor (s.count n k) p x = flowFor s p x := rfl
theorem police_count (f : Nat) : police (s.count n k) f x = police s f x := rfl
theorem State.flow_count : (s.count n k).flow = s.flow := rfl

theorem State.counterOf_count_ne (j : Nat) (h : n ≠ j) : counterOf (s.count n k) j = counterOf s j := State.count_counter_ne s k h

end Counted

/-! ## What the MAC makes of a frame (R272, R290, R295) -/

/-- The counts of every frame that arrives at a port (R477). -/
def State.rxCounted (s : State) (p n : Nat) : State := (s.count (384 + 12 * p + 2) 1).count (384 + 12 * p + 3) n

theorem State.counterOf_rxCounted (s : State) {p j : Nat} (n : Nat) (h2 : 384 + 12 * p + 2 ≠ j) (h3 : 384 + 12 * p + 3 ≠ j) :
    counterOf (s.rxCounted p n) j = counterOf s j := by
  rw [State.rxCounted, State.counterOf_count_ne _ _ _ _ h3, State.counterOf_count_ne _ _ _ _ h2]

/-- R295: a frame that is not malformed is no pause frame. -/
theorem etherType_of_wellFormed {s : State} {p : Nat} {x : RxFrame} (h : malformed s p x = false) : x.etherType ≠ 0x8808 := by
  intro hpause
  simp [malformed, hpause] at h

/-- R295: what a malformed frame comes to. -/
def State.rxMalformed (s : State) (p : Nat) : State :=
  ((s.bump (K.portMalformedFrames p)).count (384 + 12 * p + 10) 1).raiseLimited (288 + 12 * p + 7) { src := 288 + 12 * p + 7, unit := p }

theorem State.rxMalformed_parts (s : State) (p : PortId) :
    (s.rxMalformed p.val).nat (K.portMalformedFrames p.val) = (s.nat (K.portMalformedFrames p.val) + 1) % 2 ^ 32 ∧
      counterOf (s.rxMalformed p.val) (384 + 12 * p.val + 10) = (counterOf s (384 + 12 * p.val + 10) + 1) % 2 ^ 48 ∧
      (s.rxMalformed p.val).net.flows = s.net.flows := by
  have hp := p.isLt
  refine ⟨by simp [State.rxMalformed], ?_, by simp [State.rxMalformed]⟩
  rw [State.rxMalformed, (State.raiseLimited_eventGoesOn _ _ _).counters _ (by omega)]
  exact State.count_counter _ _ _

/-- R294: whether a frame is a PTP frame. -/
def isPtp (x : RxFrame) : Bool := x.etherType = 0x88F7 || (frameIsIp x && x.proto = 17 && (x.dport = 319 || x.dport = 320))

theorem isPtp_of_etherType {x : RxFrame} (h : x.etherType = 0x88F7) : isPtp x = true := by simp [isPtp, h]

theorem not_isPtp {x : RxFrame} (htype : x.etherType ≠ 0x88F7) (hudp : x.proto ≠ 17 ∨ (x.dport ≠ 319 ∧ x.dport ≠ 320)) : isPtp x = false := by
  obtain hproto | ⟨h319, h320⟩ := hudp
  · simp [isPtp, htype, hproto]
  · simp [isPtp, htype, h319, h320]

/-! ## The flow table (R291 to R293) -/

section Flow

variable (s : State) (p f : Nat) (x : RxFrame)

theorem State.flow_congr {s t : State} (hobjs : t.objs = s.objs) (hfuses : t.fuses = s.fuses) : t.flow = s.flow := by
  funext f sub
  rw [State.flow, hobjs, hfuses, State.flow]

theorem State.flow_raiseLimited (key : Nat) (e : Ev) : (s.raiseLimited key e).flow = s.flow := State.flow_congr (by simp) (by simp)

theorem State.flow_bumpFlow_self (sub : Nat) : (s.bumpFlow f sub).flow f sub = (s.flow f sub + 1) % 2 ^ 64 := by
  show (((AMap.find? (AMap.put s.objs (flowKey f sub) _) (flowKey f sub)).getD _ : Val).toInt.toNat) = _
  rw [AMap.find?_put_self]
  rfl

theorem State.flow_set_ne (v : Int) {k j : Nat} (h : k ≠ flowKey f j) : (s.set k v).flow f j = s.flow f j := by
  show (((AMap.find? (AMap.put s.objs k _) (flowKey f j)).getD _ : Val).toInt.toNat) = _
  rw [AMap.find?_put_ne _ _ h]
  rfl

theorem flowKey_ne {i j : Nat} (h : i ≠ j) : flowKey f i ≠ flowKey f j := by
  unfold flowKey
  omega

theorem State.flow_bumpFlow_ne {i j : Nat} (h : i ≠ j) : (s.bumpFlow f i).flow f j = s.flow f j := s.flow_set_ne f _ (flowKey_ne f h)

/-- R293: a frame that goes on is counted by its colour in its flow. -/
theorem State.countColour_passing : (s.countColour p f .green).flow f 0x41 = (s.flow f 0x41 + 1) % 2 ^ 64 ∧
    (s.countColour p f .green).net = s.net ∧ (s.countColour p f .yellow).flow f 0x42 = (s.flow f 0x42 + 1) % 2 ^ 64 ∧
    (s.countColour p f .yellow).flow f 0x41 = s.flow f 0x41 :=
  ⟨s.flow_bumpFlow_self f _, rfl, s.flow_bumpFlow_self f _, s.flow_bumpFlow_ne f (by decide)⟩

/-- R293: a red frame is counted in its flow and at its port. -/
theorem State.countColour_red (hp : p < 8) : (s.countColour p f .red).flow f 0x43 = (s.flow f 0x43 + 1) % 2 ^ 64 ∧
    counterOf (s.countColour p f .red) (384 + 12 * p + 7) = (counterOf s (384 + 12 * p + 7) + 1) % 2 ^ 48 := by
  simp only [State.countColour]
  rw [State.flow_raiseLimited, (State.raiseLimited_eventGoesOn _ _ _).counters _ (by omega)]
  refine ⟨?_, State.count_counter _ _ _⟩
  rw [State.flow_count, State.flow_set_ne _ _ _ (flowKey_ne f (by decide)), State.flow_bumpFlow_self]

/-- A flow's counts leave its Kind. -/
theorem State.countColour_kind (c : Colour) : (s.countColour p f c).flow f 1 = s.flow f 1 := by
  cases c with
  | green => exact s.flow_bumpFlow_ne f (by decide)
  | yellow => exact s.flow_bumpFlow_ne f (by decide)
  | red =>
    simp only [State.countColour]
    rw [State.flow_raiseLimited, State.flow_count, State.flow_set_ne _ _ _ (flowKey_ne f (by decide)), State.flow_bumpFlow_ne _ _ (by decide)]

/-- R293: every frame of a Kind 3 flow is red. -/
theorem State.policed_of_kind3 {s : State} {f : Nat} (h : s.flow f 1 = 3) : (s.policed p f x).1 = s.countColour p f .red := by
  simp [State.policed, h]

/-- R292: a frame of another flow is counted by the colour that its policer gives it; a flow with no rate has no buckets. -/
theorem State.policed_of_kind {s : State} {f : Nat} (h : s.flow f 1 ≠ 3) : ∃ u : State, u.objs = s.objs ∧ u.fuses = s.fuses ∧
    (s.flow f 8 = 0 → s.flow f 10 = 0 → u = s) ∧ (s.policed p f x).1 = u.countColour p f (police s f x).1 := by
  unfold State.policed
  simp only [h, if_false, decide_false, Bool.or_false]
  refine ⟨_, ?_, ?_, ?_, rfl⟩
  · split <;> rfl
  · split <;> rfl
  · exact fun h8 h10 => if_pos (by simp [h8, h10])

theorem police_of_no_rate {s : State} {f : Nat} (h8 : s.flow f 8 = 0) (h10 : s.flow f 10 = 0) : (police s f x).1 = .green := by
  simp [police, h8, h10]

/-- R26, R290: a frame that finds a receive media descriptor. -/
theorem State.mediaFrame_taken {s : State} (hroom : (s.port p).rxMedia < 384) (hserved : s.isFrozen 32 = false) (take : State → State) :
    s.mediaFrame p take = take s := by
  simp [State.mediaFrame, Nat.not_le.mpr hroom, hserved]

theorem State.mediaFrame_full {s : State} (hfull : 384 ≤ (s.port p).rxMedia) (take : State → State) :
    s.mediaFrame p take = s.bump (K.portRxDropMedia p) := by
  simp [State.mediaFrame, hfull]

/-- R291, R335: a frame of a flow passes the flow's policer, and goes to the audio ports if it passes and the flow is of Kind 2. -/
def State.flowTaken (p f : Nat) (x : RxFrame) (s : State) : State :=
  let u := s.policed p f x
  if u.2 = true ∧ u.1.flow f 1 = 2 then u.1.audioFlow f x else u.1

/-- R293: a frame of a Kind 1 flow is counted by its colour, and goes nowhere else. -/
theorem State.flowTaken_of_kind1 {s : State} {f : Nat} (h : s.flow f 1 = 1) : ∃ u : State, u.objs = s.objs ∧ u.fuses = s.fuses ∧
    (s.flow f 8 = 0 → s.flow f 10 = 0 → u = s) ∧ s.flowTaken p f x = u.countColour p f (police s f x).1 := by
  obtain ⟨u, hobjs, hfuses, hsame, hpoliced⟩ := State.policed_of_kind p x (s := s) (f := f) (by simp [h])
  refine ⟨u, hobjs, hfuses, hsame, ?_⟩
  have hkind : (s.policed p f x).1.flow f 1 = 1 := by rw [hpoliced, State.countColour_kind, State.flow_congr hobjs hfuses, h]
  rw [State.flowTaken, if_neg (by simp [hkind]), hpoliced]

end Flow

section Arrives

variable {s : State} {p : PortId} {x : RxFrame} (hup : (s.port p.val).linkUp = true)
include hup

theorem frameReceived_pause (hfcs : x.fcsOk = true) (htype : x.etherType = 0x8808) : Completes (.frameReceived p x) s fun t =>
    t.nat (K.portPauseIgnored p.val) = (s.nat (K.portPauseIgnored p.val) + 1) % 2 ^ 32 ∧ t.net = s.net := fun hclk => by
  have hexec : exec (.frameReceived p x) s = .next ((s.rxCounted p.val x.length).bump (K.portPauseIgnored p.val)) := by
    show execFrameReceived p x s = _
    rw [execFrameReceived, whenClocked_of_clocked hclk]
    simp [hup, hfcs, htype, State.rxCounted]
  exact ⟨_, hexec, State.nat_bump _ _, rfl⟩

theorem frameReceived_malformed (htype : x.etherType ≠ 0x8808) (hbad : malformed s p.val x = true) : Completes (.frameReceived p x) s fun t =>
    t.nat (K.portMalformedFrames p.val) = (s.nat (K.portMalformedFrames p.val) + 1) % 2 ^ 32 ∧
      counterOf t (384 + 12 * p.val + 10) = (counterOf s (384 + 12 * p.val + 10) + 1) % 2 ^ 48 ∧ t.net.flows = s.net.flows := fun hclk => by
  have hexec : exec (.frameReceived p x) s = .next ((s.rxCounted p.val x.length).rxMalformed p.val) := by
    show execFrameReceived p x s = _
    rw [execFrameReceived, whenClocked_of_clocked hclk]
    simp [hup, htype, malformed_count, hbad, State.rxCounted, State.rxMalformed]
  obtain ⟨hnat, hcounter, hflows⟩ := (s.rxCounted p.val x.length).rxMalformed_parts p
  refine ⟨_, hexec, hnat, ?_, hflows⟩
  rw [hcounter, s.counterOf_rxCounted _ (by omega) (by omega)]

section WellFormed

variable (hgood : malformed s p.val x = false)
include hgood

/-- R290: a well-formed frame that is not for the port. -/
theorem frameReceived_unmatched (hmac : macOk s p.val x = false) : Completes (.frameReceived p x) s fun t =>
    t.nat (K.portUnmatchedFrames p.val) = (s.nat (K.portUnmatchedFrames p.val) + 1) % 2 ^ 32 := fun hclk => by
  have hexec : exec (.frameReceived p x) s = .next ((s.rxCounted p.val x.length).unmatched p.val) := by
    show execFrameReceived p x s = _
    rw [execFrameReceived, whenClocked_of_clocked hclk]
    simp [hup, etherType_of_wellFormed hgood, malformed_count, hgood, macOk_count, hmac, State.rxCounted]
  refine ⟨_, hexec, ?_⟩
  simp [State.unmatched, State.rxCounted]

variable (hmac : macOk s p.val x = true)
include hmac

/-- R294: a PTP frame goes to the port's PTP limit. -/
theorem execFrameReceived_ptp (hptp : isPtp x = true) (hclk : s.boot.clocksLost = false) :
    exec (.frameReceived p x) s = .next ((s.rxCounted p.val x.length).ptpFrame p.val) := by
  show execFrameReceived p x s = _
  unfold isPtp at hptp
  rw [execFrameReceived, whenClocked_of_clocked hclk]
  simp [hup, etherType_of_wellFormed hgood, malformed_count, hgood, macOk_count, hmac, State.rxCounted, hptp]

theorem frameReceived_ptp_passes (hptp : isPtp x = true) (htokens : 1000000000 ≤ (s.port p.val).ptp) : Completes (.frameReceived p x) s fun t =>
    (t.port p.val).ptp = (s.port p.val).ptp - 1000000000 ∧ t.objs = s.objs := fun hclk => by
  refine ⟨_, execFrameReceived_ptp hup hgood hmac hptp hclk, ?_⟩
  have htokens' : 1000000000 ≤ ((s.rxCounted p.val x.length).port p.val).ptp := htokens
  dsimp only
  rw [State.ptpFrame, if_pos htokens', State.port_setPort]
  exact ⟨rfl, rfl⟩

theorem frameReceived_ptp_policed (hptp : isPtp x = true) (htokens : (s.port p.val).ptp < 1000000000) : Completes (.frameReceived p x) s fun t =>
    t.nat (K.portPtpPoliced p.val) = (s.nat (K.portPtpPoliced p.val) + 1) % 2 ^ 32 := fun hclk => by
  refine ⟨_, execFrameReceived_ptp hup hgood hmac hptp hclk, ?_⟩
  have htokens' : ¬ 1000000000 ≤ ((s.rxCounted p.val x.length).port p.val).ptp := Nat.not_le.mpr htokens
  rw [State.ptpFrame, if_neg htokens']
  simp [State.rxCounted]

variable {f : Nat} (hptp : isPtp x = false) (hf : flowFor s p.val x = some f)
include hptp hf

/-- R291: a frame of a flow of Kind 1 or 2, or of Kind 3. -/
theorem execFrameReceived_flow (hclk : s.boot.clocksLost = false) :
    (s.flow f 1 = 3 → exec (.frameReceived p x) s = .next ((s.rxCounted p.val x.length).policed p.val f x).1) ∧
    (s.flow f 1 = 1 → exec (.frameReceived p x) s =
      .next ((s.rxCounted p.val x.length).mediaFrame p.val (State.flowTaken p.val f x))) := by
  have hexec : exec (.frameReceived p x) s = execFrameReceived p x s := rfl
  unfold isPtp at hptp
  rw [hexec, execFrameReceived, whenClocked_of_clocked hclk]
  refine ⟨fun hkind => ?_, fun hkind => ?_⟩
  · simp [hup, etherType_of_wellFormed hgood, malformed_count, hgood, macOk_count, hmac, State.rxCounted, hptp, flowFor_count, hf, hkind,
      State.flow_count]
  · simp [hup, etherType_of_wellFormed hgood, malformed_count, hgood, macOk_count, hmac, State.rxCounted, hptp, flowFor_count, hf, hkind,
      State.flow_count] <;> rfl

/-- R293: a frame of a Kind 1 flow without rates is green. -/
theorem frameReceived_green (hkind : s.flow f 1 = 1) (h8 : s.flow f 8 = 0) (h10 : s.flow f 10 = 0) (hroom : (s.port p.val).rxMedia < 384)
    (hserved : s.isFrozen 32 = false) : Completes (.frameReceived p x) s fun t =>
      t.flow f 0x41 = (s.flow f 0x41 + 1) % 2 ^ 64 ∧ t.net.flows = s.net.flows := fun hclk => by
  obtain ⟨-, hexec⟩ := execFrameReceived_flow hup hgood hmac hptp hf hclk
  refine ⟨_, hexec hkind, ?_⟩
  obtain ⟨u, -, -, hsame, htaken⟩ := State.flowTaken_of_kind1 p.val x (s := s.rxCounted p.val x.length) hkind
  rw [State.mediaFrame_taken (s := s.rxCounted p.val x.length) p.val hroom hserved, htaken, hsame h8 h10,
    police_of_no_rate (s := s.rxCounted p.val x.length) x h8 h10]
  obtain ⟨hgreen, hnet, -⟩ := (s.rxCounted p.val x.length).countColour_passing p.val f
  exact ⟨hgreen, congrArg NetSt.flows hnet⟩

/-- R293: a frame of a Kind 1 flow that its policer makes yellow. -/
theorem frameReceived_yellow (hkind : s.flow f 1 = 1) (hyellow : (police s f x).1 = .yellow) (hroom : (s.port p.val).rxMedia < 384)
    (hserved : s.isFrozen 32 = false) : Completes (.frameReceived p x) s fun t =>
      t.flow f 0x42 = (s.flow f 0x42 + 1) % 2 ^ 64 ∧ t.flow f 0x41 = s.flow f 0x41 := fun hclk => by
  obtain ⟨-, hexec⟩ := execFrameReceived_flow hup hgood hmac hptp hf hclk
  refine ⟨_, hexec hkind, ?_⟩
  obtain ⟨u, hobjs, hfuses, -, htaken⟩ := State.flowTaken_of_kind1 p.val x (s := s.rxCounted p.val x.length) hkind
  have hcolour : (police (s.rxCounted p.val x.length) f x).1 = .yellow := by rw [State.rxCounted, police_count, police_count, hyellow]
  have hflow : u.flow = s.flow := State.flow_congr hobjs hfuses
  rw [State.mediaFrame_taken (s := s.rxCounted p.val x.length) p.val hroom hserved, htaken, hcolour, ← hflow]
  obtain ⟨-, -, hcounted, hgreen⟩ := u.countColour_passing p.val f
  exact ⟨hcounted, hgreen⟩

/-- R26, R290: a frame of a Kind 1 flow that finds no receive media descriptor. -/
theorem frameReceived_full (hkind : s.flow f 1 = 1) (hfull : 384 ≤ (s.port p.val).rxMedia) : Completes (.frameReceived p x) s fun t =>
    t.nat (K.portRxDropMedia p.val) = (s.nat (K.portRxDropMedia p.val) + 1) % 2 ^ 32 ∧ t.net.flows = s.net.flows := fun hclk => by
  obtain ⟨-, hexec⟩ := execFrameReceived_flow hup hgood hmac hptp hf hclk
  refine ⟨_, hexec hkind, ?_⟩
  rw [State.mediaFrame_full (s := s.rxCounted p.val x.length) p.val hfull]
  exact ⟨State.nat_bump _ _, rfl⟩

/-- R293: a frame of a Kind 3 flow. -/
theorem frameReceived_kind3 (hkind : s.flow f 1 = 3) : Completes (.frameReceived p x) s fun t =>
    t.flow f 0x43 = (s.flow f 0x43 + 1) % 2 ^ 64 ∧
      counterOf t (384 + 12 * p.val + 7) = (counterOf s (384 + 12 * p.val + 7) + 1) % 2 ^ 48 := fun hclk => by
  obtain ⟨hexec, -⟩ := execFrameReceived_flow hup hgood hmac hptp hf hclk
  refine ⟨_, hexec hkind, ?_⟩
  obtain ⟨hflow, hcounter⟩ := (s.rxCounted p.val x.length).countColour_red p.val f p.isLt
  rw [State.policed_of_kind3 (s := s.rxCounted p.val x.length) p.val x hkind]
  exact ⟨hflow, hcounter.trans (by rw [s.counterOf_rxCounted _ (by omega) (by omega)])⟩

end WellFormed

end Arrives

end Sys2Proof.Machine
end

section
/-!
PROOFS. RTCP packets that arrive (spec/09_mangle_network.md, spec/07_darning_qualification.md; R287, R233): what a compound counts, and what it
asks for.
-/

namespace Sys2Proof.Machine

/-! ## A darn request beside other counts (R233, R245) -/

theorem keyIdx_darnShown (c : Nat) : keyIdx (K.darnSweepState c) = 0x4021 + 0x80 * c ∧ keyIdx (K.darnPostponedThisSweep c) = 0x4021 + 0x80 * c ∧
    keyIdx (K.darnRefreshFlags c) = 0x4021 + 0x80 * c ∧ keyIdx (K.darnDarnRequests c) = 0x4021 + 0x80 * c ∧
    keyIdx (K.darnDarnCoalesced c) = 0x4021 + 0x80 * c ∧ keyIdx (K.darnDarnRefused c) = 0x4021 + 0x80 * c :=
  ⟨keyIdx_objKey _ (by decide), keyIdx_objKey _ (by decide), keyIdx_objKey _ (by decide), keyIdx_objKey _ (by decide),
    keyIdx_objKey _ (by decide), keyIdx_objKey _ (by decide)⟩

theorem State.nat_bump_of_keyIdx (s : State) {k j : Nat} (h : keyIdx k ≠ keyIdx j) : (s.bump k).nat j = s.nat j :=
  s.nat_bump_ne (key_ne_of_keyIdx h)

/-- R233, R245: a darn request sets objects of its channel's own index only. -/
theorem State.darnAsk_nat (s : State) {c k : Nat} (route : DarnRoute) (h : 0x4021 + 0x80 * c ≠ keyIdx k) : (s.darnAsk c route).1.nat k = s.nat k := by
  obtain ⟨hstate, hpostponed, hflags, hrequests, hcoalesced, hrefused⟩ := keyIdx_darnShown c
  have hshow (u : State) : (u.showSweep c).nat k = u.nat k := by
    unfold State.showSweep
    dsimp only
    rw [State.nat_setN_of_keyIdx _ _ (by rwa [hflags]), State.nat_setN_of_keyIdx _ _ (by rwa [hpostponed]),
      State.nat_setN_of_keyIdx _ _ (by rwa [hstate])]
  have hasked : (s.bump (K.darnDarnRequests c)).nat k = s.nat k := s.nat_bump_of_keyIdx (by rwa [hrequests])
  unfold State.darnAsk
  extract_lets asked ch waiting
  split
  · split
    · exact s.nat_bump_of_keyIdx (by rwa [hrefused])
    · rfl
  split
  · rfl
  split
  · exact (asked.nat_bump_of_keyIdx (by rwa [hcoalesced])).trans hasked
  split
  · exact (hshow _).trans hasked
  · show (waiting.raise _).nat k = _
    rw [State.raise_nat]
    exact (hshow _).trans hasked

/-! ## A compound (R287) -/

theorem phaseSsrc_setChan (s : State) (c : Nat) (x : ChanSt) (d m : Nat) : phaseSsrc (s.setChan c x) d m = phaseSsrc s d m := rfl

/-- R287: a compound's packet counted in its channel's second. -/
def State.rtcpNoted (s : State) (c : Nat) : State :=
  s.setChan c { s.chan c with rtcpWin := { start := s.clk.ticks, count := 1 } }

/-- R287: the darn request of a compound, with its event where it is taken. -/
def State.rtcpAsks (s : State) (port c : Nat) : State :=
  let asked := s.darnAsk c .rtcp
  if asked.2 = stOk then asked.1.raise { src := 288 + 12 * port + 8, unit := port } else asked.1

/-- Whatever a PLI's darn request comes to, the count of PLIs stands. -/
theorem State.rtcpAsks_pliCount (s : State) (port c : Nat) : (s.rtcpAsks port c).nat (K.streamPliCount c) = s.nat (K.streamPliCount c) := by
  have hidx : keyIdx (K.streamPliCount c) = 0x4031 + 0x80 * c := keyIdx_objKey _ (by decide)
  have hasked : (s.darnAsk c .rtcp).1.nat (K.streamPliCount c) = s.nat (K.streamPliCount c) := s.darnAsk_nat _ (by omega)
  unfold State.rtcpAsks
  dsimp only
  split
  · rw [State.raise_nat, hasked]
  · exact hasked

section Take

variable {s : State} {port c : Nat}

/-- R287: a packet that asks for nothing. -/
theorem State.rtcpTake_other (hfirst : (s.chan c).rtcpWin.count = 0) :
    s.rtcpTake port c [.other] = (s.rtcpNoted c).bump (K.streamRtcpIgnored c) := by
  simp [State.rtcpTake, hfirst, State.rtcpItem, State.rtcpNoted]

/-- R287: a PLI for a phase stream of the channel is counted, and asks for a darn. -/
theorem State.rtcpTake_pli (hfirst : (s.chan c).rtcpWin.count = 0) {m : Nat} (hssrc : phaseSsrc s c m = true) :
    s.rtcpTake port c [.pli m] = ((s.rtcpNoted c).bump (K.streamPliCount c)).rtcpAsks port c := by
  simp [State.rtcpTake, hfirst, State.rtcpItem, phaseSsrc_setChan, hssrc, State.rtcpNoted, State.rtcpAsks] <;> rfl

/-- R287: beyond 1,000 packets in a second a compound is dropped and counted. -/
theorem State.rtcpTake_policed (hfull : 1000 ≤ (s.chan c).rtcpWin.count) (hwindow : passed s (s.chan c).rtcpWin.start 1000000000 = false)
    (items : List RtcpItem) : s.rtcpTake port c items = s.bump (K.streamRtcpPoliced c) := by
  have hcount : (s.chan c).rtcpWin.count ≠ 0 := by omega
  simp [State.rtcpTake, hcount, hwindow, hfull]

end Take

section Received

variable {s : State} {p : PortId} {c : Chan} (hup : (s.port p.val).linkUp = true) (hport : p.val ∈ channelPorts s.view c.val)
  (hbolt : boltDown s = false) (hqueue : AMap.getD s.draft.boltQ p.val [] = [])
include hup hport hbolt hqueue

/-- R287, R415: a compound that Bolt takes at once. -/
theorem completes_rtcpReceived {items : List RtcpItem} {post : State → Prop} (hpost : post (s.rtcpTake p.val c.val items)) :
    Completes (.rtcpReceived p c items) s post := fun hclk => by
  have hexec : exec (.rtcpReceived p c items) s = .next (s.rtcpTake p.val c.val items) := by
    show execRtcpReceived p c items s = _
    rw [execRtcpReceived, whenClocked_of_clocked hclk]
    simp [hup, hport, hbolt, hqueue]
  exact ⟨_, hexec, hpost⟩

theorem rtcpReceived_counts :
    ((s.chan c.val).rtcpWin.count = 0 → Completes (.rtcpReceived p c [.other]) s fun t =>
      t.nat (K.streamRtcpIgnored c.val) = (s.nat (K.streamRtcpIgnored c.val) + 1) % 2 ^ 32) ∧
    (∀ m, (s.chan c.val).rtcpWin.count = 0 → phaseSsrc s c.val m = true → Completes (.rtcpReceived p c [.pli m]) s fun t =>
      t.nat (K.streamPliCount c.val) = (s.nat (K.streamPliCount c.val) + 1) % 2 ^ 32) ∧
    (∀ items, 1000 ≤ (s.chan c.val).rtcpWin.count → passed s (s.chan c.val).rtcpWin.start 1000000000 = false →
      Completes (.rtcpReceived p c items) s fun t =>
        t.nat (K.streamRtcpPoliced c.val) = (s.nat (K.streamRtcpPoliced c.val) + 1) % 2 ^ 32 ∧ t.video = s.video) := by
  refine ⟨fun hfirst => completes_rtcpReceived hup hport hbolt hqueue ?_, fun m hfirst hssrc => completes_rtcpReceived hup hport hbolt hqueue ?_,
    fun items hfull hwindow => completes_rtcpReceived hup hport hbolt hqueue ?_⟩
  · rw [State.rtcpTake_other hfirst]
    exact State.nat_bump _ _
  · rw [State.rtcpTake_pli hfirst hssrc, State.rtcpAsks_pliCount]
    exact State.nat_bump _ _
  · rw [State.rtcpTake_policed hfull hwindow]
    exact ⟨State.nat_bump _ _, rfl⟩

end Received

/-! ## The obligation -/

/-- Settles O34: the MAC's answers by `frameReceived_pause`, `frameReceived_malformed` and `frameReceived_unmatched`, a PTP frame by
`frameReceived_ptp_passes` and `frameReceived_ptp_policed`, a flow's frame by `frameReceived_green`, `frameReceived_yellow`, `frameReceived_full` and
`frameReceived_kind3`, and an RTCP compound by `rtcpReceived_counts`. -/
theorem framesAreReceived : Obligations.FramesAreReceived := by
  unfold Obligations.FramesAreReceived
  refine ⟨fun s p x hup => ⟨frameReceived_pause hup, frameReceived_malformed hup, fun hgood hmac htype => ?_, frameReceived_unmatched hup,
    fun f hgood hmac htype hudp hf => ?_⟩, fun s p c => rtcpReceived_counts⟩
  · have hptp := isPtp_of_etherType htype
    exact ⟨frameReceived_ptp_passes hup hgood hmac hptp, frameReceived_ptp_policed hup hgood hmac hptp⟩
  · have hptp := not_isPtp htype hudp
    exact ⟨frameReceived_green hup hgood hmac hptp hf, frameReceived_yellow hup hgood hmac hptp hf, frameReceived_full hup hgood hmac hptp hf,
      frameReceived_kind3 hup hgood hmac hptp hf⟩

end Sys2Proof.Machine
end

section
/-!
PROOFS. What the choice of the active domain and the movement of presented time leave (spec/10_timekeeper.md; R303, R308, R311, R312, R419): the
two domains, their clocks and the objects that show them.
-/

namespace Sys2Proof.Machine

/-! ## Relations -/

/-- The indexes of the Timekeeper's configuration (R317) and of the two domains' status objects (R318). -/
def domIndexes : List Nat := [0x6000, 0x6018, 0x6019]

/-- The domains, their clocks and the objects of those indexes stand in t as in s. -/
structure DomainsKept (s t : State) : Prop where
  dom : t.dom = s.dom
  clock : t.clock = s.clock
  obj : ∀ k, keyIdx k ∈ domIndexes → t.obj k = s.obj k

/-- Beside them, the active domain and the counts of switches (R311). -/
structure ActiveKept (s t : State) : Prop extends DomainsKept s t where
  active : t.time.active = s.time.active
  switches : t.nat K.timeSwitchCount = s.nat K.timeSwitchCount
  counter : counterOf t 486 = counterOf s 486

section Relation

variable {s t u : State}

theorem DomainsKept.trans (h : DomainsKept s t) (k : DomainsKept t u) : DomainsKept s u :=
  ⟨k.dom.trans h.dom, k.clock.trans h.clock, fun i hi => (k.obj i hi).trans (h.obj i hi)⟩

theorem DomainsKept.nat (h : DomainsKept s t) {k : Nat} (hk : keyIdx k ∈ domIndexes) : t.nat k = s.nat k := by
  rw [State.nat, h.obj k hk, State.nat]

theorem DomainsKept.int (h : DomainsKept s t) {k : Nat} (hk : keyIdx k ∈ domIndexes) : t.int k = s.int k := by
  rw [State.int, h.obj k hk, State.int]

theorem ActiveKept.refl (s : State) : ActiveKept s s := ⟨⟨rfl, rfl, fun _ _ => rfl⟩, rfl, rfl, rfl⟩

theorem ActiveKept.trans (h : ActiveKept s t) (k : ActiveKept t u) : ActiveKept s u :=
  ⟨h.toDomainsKept.trans k.toDomainsKept, k.active.trans h.active, k.switches.trans h.switches, k.counter.trans h.counter⟩

theorem ActiveKept.foldl_of_mem {α : Type} {f : State → α → State} {l : List α} (h : ∀ x ∈ l, ∀ s, ActiveKept s (f s x)) (s : State) :
    ActiveKept s (l.foldl f s) :=
  List.foldlRecOn (motive := ActiveKept s) l f (.refl s) fun u hu x hx => hu.trans (h x hx u)

/-- A step that leaves the Timekeeper, the clocks, the objects, the fuses and the counters. -/
theorem ActiveKept.of_eq (htime : t.time = s.time) (hclk : t.clk = s.clk) (hobjs : t.objs = s.objs) (hfuses : t.fuses = s.fuses)
    (hcounter : counterOf t 486 = counterOf s 486) : ActiveKept s t := by
  refine ⟨⟨?_, ?_, fun k _ => by rw [State.obj_congr hobjs hfuses]⟩, by rw [htime], State.nat_congr hobjs hfuses _, hcounter⟩
  · funext d
    rw [State.dom, htime, State.dom]
  · funext d
    rw [State.clock, hclk, State.clock]

end Relation

/-! ## Single steps -/

section Step

variable (s : State)

theorem State.raise_activeKept (e : Ev) : ActiveKept s (s.raise e) :=
  .of_eq (by simp) (by simp) (by simp) (by simp) ((s.raise_eventGoesOn e).counters _ (by decide))

theorem State.raiseLimited_activeKept (key : Nat) (e : Ev) : ActiveKept s (s.raiseLimited key e) :=
  .of_eq (by simp) (by simp) (by simp) (by simp) ((s.raiseLimited_eventGoesOn key e).counters _ (by decide))

/-- An object that shows neither a domain nor the count of switches. -/
theorem State.set_activeKept {k : Nat} (hidx : keyIdx k ∉ domIndexes) (hk : k ≠ K.timeSwitchCount) (v : Int) : ActiveKept s (s.set k v) :=
  ⟨⟨rfl, rfl, fun _ hj => s.obj_set_ne v fun h => hidx (h ▸ hj)⟩, rfl, s.nat_set_ne v hk, rfl⟩

theorem State.bump_activeKept {k : Nat} (hidx : keyIdx k ∉ domIndexes) (hk : k ≠ K.timeSwitchCount) : ActiveKept s (s.bump k) :=
  s.set_activeKept hidx hk _

theorem State.count_activeKept {n : Nat} (hn : n ≠ 486) (k : Nat) : ActiveKept s (s.count n k) :=
  ⟨⟨rfl, rfl, fun _ _ => rfl⟩, rfl, rfl, s.count_counter_ne k hn⟩

end Step

/-- The objects of an audio port. -/
theorem keyIdx_audioShown {a : Nat} (ha : a < 8) : keyIdx (K.audFifoLevel a) ∉ domIndexes ∧ keyIdx (K.audStepSlipCount a) ∉ domIndexes ∧
    K.audFifoLevel a ≠ K.timeSwitchCount ∧ K.audStepSlipCount a ≠ K.timeSwitchCount := by
  have hlevel : keyIdx (K.audFifoLevel a) = 0x6401 + 0x10 * a := keyIdx_objKey _ (by decide)
  have hslips : keyIdx (K.audStepSlipCount a) = 0x6401 + 0x10 * a := keyIdx_objKey _ (by decide)
  have hswitch : keyIdx K.timeSwitchCount = 0x6001 := rfl
  simp only [hlevel, hslips, domIndexes, List.mem_cons, List.not_mem_nil, or_false]
  exact ⟨by omega, by omega, key_ne_of_keyIdx (by omega), key_ne_of_keyIdx (by omega)⟩

theorem State.showFifo_activeKept (s : State) {a : Nat} (hidx : keyIdx (K.audFifoLevel a) ∉ domIndexes)
    (hk : K.audFifoLevel a ≠ K.timeSwitchCount) : ActiveKept s (s.showFifo a) := by
  unfold State.showFifo State.show
  split
  · exact .refl s
  · exact s.set_activeKept hidx hk _

/-- R326: the slips of the audio ports at a step of presented time. -/
theorem State.stepAudio_activeKept (s : State) : ActiveKept s s.stepAudio := by
  refine .foldl_of_mem (fun a ha s => ?_) s
  obtain ⟨hlevel, hslips, hlevel', hslips'⟩ := keyIdx_audioShown (List.mem_range.mp ha)
  split
  · exact .refl s
  · refine .trans ?_ ((State.bump_activeKept _ hslips hslips').trans (State.raiseLimited_activeKept _ _ _))
    split
    · exact .trans (t := s.setAport a _) (.of_eq rfl rfl rfl rfl rfl) (State.showFifo_activeKept _ hlevel hlevel')
    · exact .refl s

/-- R312, R313: a step of presented time. -/
theorem State.step_activeKept (s : State) : ActiveKept s s.step := by
  unfold State.step
  extract_lets old clk moved now time marked slipped
  have hmarked : ActiveKept s marked := ⟨⟨rfl, rfl, fun _ _ => rfl⟩, rfl, rfl, rfl⟩
  refine hmarked.trans (marked.stepAudio_activeKept.trans (.trans ?_ (State.raise_activeKept _ _)))
  refine ((State.bump_activeKept _ ?_ ?_).trans (State.count_activeKept _ ?_ _)).trans
    ((State.set_activeKept _ ?_ ?_ _).trans (State.set_activeKept _ ?_ ?_ _))
  all_goals decide

/-- R311, R312: presented time steps, is slewed or stands. -/
theorem State.retarget_activeKept (s : State) (first : Bool) : ActiveKept s (s.retarget first) := by
  have hslew (b : Bool) : ActiveKept s { s with time := { s.time with slewing := b } } := ⟨⟨rfl, rfl, fun _ _ => rfl⟩, rfl, rfl, rfl⟩
  unfold State.retarget
  dsimp only
  split
  · split
    · exact (hslew false).trans (State.raise_activeKept _ _)
    · exact .refl s
  split
  · split
    · exact s.step_activeKept.trans (State.raise_activeKept _ _)
    · exact s.step_activeKept
  split
  · exact .refl s
  · exact (hslew true).trans (State.raise_activeKept _ _)

/-- R419: the encode gate opens or stays as it is. -/
theorem State.tryGate_activeKept (s : State) : ActiveKept s s.tryGate := by
  unfold State.tryGate State.openGate
  dsimp only
  split
  · split
    · exact .refl s
    · have hopen : ActiveKept s { s with boot := { s.boot with gateOpen := true } } := .of_eq rfl rfl rfl rfl rfl
      exact hopen.trans ((State.set_activeKept _ (by decide) (by decide) _).trans (State.raise_activeKept _ _))
  · exact .refl s

/-! ## The active domain (R311) -/

/-- R311: another domain becomes active, which counts one switch. -/
theorem State.switchTo_other {s : State} {d : Nat} (h : d ≠ s.time.active) : DomainsKept s (s.switchTo d) ∧ (s.switchTo d).time.active = d ∧
    (s.switchTo d).nat K.timeSwitchCount = (s.nat K.timeSwitchCount + 1) % 2 ^ 32 ∧
      counterOf (s.switchTo d) 486 = (counterOf s 486 + 1) % 2 ^ 48 := by
  unfold State.switchTo
  rw [if_neg h]
  extract_lets time moved switched
  have hkept : ActiveKept ((moved.bump K.timeSwitchCount).count 486 1) (switched.retarget false) :=
    (State.set_activeKept _ (by decide) (by decide) _).trans ((State.raise_activeKept _ _).trans (switched.retarget_activeKept false))
  have hmoved : DomainsKept s ((moved.bump K.timeSwitchCount).count 486 1) :=
    ⟨rfl, rfl, fun k hk => moved.obj_set_ne _ fun h => absurd (h ▸ hk) (by decide)⟩
  refine ⟨hmoved.trans hkept.toDomainsKept, hkept.active, ?_, ?_⟩
  · rw [hkept.switches]
    exact moved.nat_bump _
  · rw [hkept.counter]
    exact State.count_counter _ 486 1

theorem State.switchTo_same {s : State} {d : Nat} (h : d = s.time.active) : s.switchTo d = s := if_pos h

theorem State.switchTo_kept (s : State) (d : Nat) : DomainsKept s (s.switchTo d) ∧ (s.switchTo d).time.active = d := by
  by_cases h : d = s.time.active
  · rw [State.switchTo_same h]
    exact ⟨(ActiveKept.refl s).toDomainsKept, h.symm⟩
  · obtain ⟨hkept, hactive, -, -⟩ := State.switchTo_other h
    exact ⟨hkept, hactive⟩

/-- R311: the active domain is the one that is to be, and the domains stay as they are. -/
theorem State.chooseDomain_kept (s : State) : DomainsKept s s.chooseDomain ∧ s.chooseDomain.time.active = activeChoice s := by
  unfold State.chooseDomain
  extract_lets switched log valid
  obtain ⟨hkept, hactive⟩ := s.switchTo_kept (activeChoice s)
  have hvalid : ActiveKept switched valid := by
    show ActiveKept switched (if _ then _ else _)
    split
    · exact .of_eq rfl rfl rfl rfl rfl
    · exact .refl switched
  have hgate := hvalid.trans valid.tryGate_activeKept
  exact ⟨hkept.trans hgate.toDomainsKept, hgate.active.trans hactive⟩

/-- R311: under Auto an active domain that is not Locked gives way to another one that is. -/
theorem activeChoice_other {s : State} (hauto : s.nat K.timeActiveDomainSelect = 0) (hleft : (s.dom s.time.active).state ≠ .locked)
    (hother : (s.dom (1 - s.time.active)).state = .locked) : activeChoice s = 1 - s.time.active := by
  simp [activeChoice, hauto, hleft, hother]

end Sys2Proof.Machine
end

section
/-!
PROOFS. The masters of the two domains (spec/10_timekeeper.md; R306, R308, R309, R311): which master an Announce leaves chosen, and what becomes of a
domain that hears none.
-/

namespace Sys2Proof.Machine

/-! ## The best master (R306) -/

theorem lexLt_irrefl : ∀ a : List Nat, lexLt a a = false
  | [] => rfl
  | a :: t => by simp [lexLt, lexLt_irrefl t]

theorem lexLt_trans : ∀ {a b c : List Nat}, lexLt a b = true → lexLt b c = true → lexLt a c = true
  | [], _ :: _, _ :: _, _, _ => rfl
  | a :: t, b :: u, c :: v, hab, hbc => by
    simp only [lexLt, Bool.or_eq_true, Bool.and_eq_true, decide_eq_true_eq, beq_iff_eq] at hab hbc ⊢
    obtain hab | ⟨rfl, hab⟩ := hab
    · exact .inl (by omega)
    · obtain hbc | ⟨rfl, hbc⟩ := hbc
      · exact .inl hbc
      · exact .inr ⟨rfl, lexLt_trans hab hbc⟩

theorem Foreign.better_irrefl (f : Foreign) : f.better f = false := lexLt_irrefl _

theorem Foreign.better_trans {f g h : Foreign} (hfg : f.better g = true) (hgh : g.better h = true) : f.better h = true := lexLt_trans hfg hgh

/-- R306: the best of a master and others. -/
def bestMaster (m : Foreign) (others : List Foreign) : Foreign := others.foldl (fun b f => if f.better b then f else b) m

theorem bestMaster_mem (m : Foreign) (others : List Foreign) : bestMaster m others ∈ others ++ [m] := by
  refine List.foldlRecOn (motive := (· ∈ others ++ [m])) others _ (by simp) fun b hb f hf => ?_
  split
  · exact List.mem_append_left _ hf
  · exact hb

/-- What is better than the best is better than the master that the search began with. -/
theorem better_of_better_bestMaster {f : Foreign} : ∀ (others : List Foreign) {m : Foreign}, f.better (bestMaster m others) = true → f.better m = true
  | [], _, h => h
  | g :: others, m, h => by
    have hfirst : f.better (if g.better m then g else m) = true := better_of_better_bestMaster others h
    split at hfirst
    next hg => exact Foreign.better_trans hfirst hg
    next => exact hfirst

/-- R306: no master is better than the best of them. -/
theorem not_better_bestMaster {f m : Foreign} {others : List Foreign} (hf : f ∈ others ++ [m]) : f.better (bestMaster m others) = false := by
  induction others generalizing m with
  | nil =>
    obtain rfl := List.mem_singleton.mp hf
    exact f.better_irrefl
  | cons g others ih =>
    rw [List.cons_append, List.mem_cons, List.mem_append] at hf
    obtain rfl | hf | hf := hf
    · refine Bool.eq_false_iff.mpr fun hbetter => ?_
      have hfirst : f.better (if f.better m then f else m) = true := better_of_better_bestMaster others hbetter
      split at hfirst
      next => exact absurd hfirst (by simp [f.better_irrefl])
      next hold => exact hold hfirst
    · exact ih (List.mem_append_left _ hf)
    · obtain rfl := List.mem_singleton.mp hf
      refine Bool.eq_false_iff.mpr fun hbetter => ?_
      exact absurd (better_of_better_bestMaster (g :: others) hbetter) (by simp [f.better_irrefl])

/-! ## A domain that enters a state (R308, R318) -/

/-- The Timekeeper's and the clocks' state stand in t as in s, and so does every object but some. -/
structure ObjsKept (own : List Nat) (s t : State) : Prop where
  time : t.time = s.time
  clk : t.clk = s.clk
  obj : ∀ k, k ∉ own → t.obj k = s.obj k

section ObjsKept

variable {own : List Nat} {s t u : State}

theorem ObjsKept.refl (s : State) : ObjsKept own s s := ⟨rfl, rfl, fun _ _ => rfl⟩

theorem ObjsKept.trans (h : ObjsKept own s t) (k : ObjsKept own t u) : ObjsKept own s u :=
  ⟨k.time.trans h.time, k.clk.trans h.clk, fun i hi => (k.obj i hi).trans (h.obj i hi)⟩

theorem ObjsKept.nat (h : ObjsKept own s t) {k : Nat} (hk : k ∉ own) : t.nat k = s.nat k := by rw [State.nat, h.obj k hk, State.nat]

theorem ObjsKept.set (s : State) {k : Nat} (hk : k ∈ own) (v : Int) : ObjsKept own s (s.set k v) :=
  ⟨rfl, rfl, fun _ hj => s.obj_set_ne v fun h => hj (h ▸ hk)⟩

theorem ObjsKept.raise (s : State) (e : Ev) : ObjsKept own s (s.raise e) := ⟨by simp, by simp, fun _ _ => by simp⟩

/-- A step that is taken or not. -/
theorem ObjsKept.ite {p : Prop} [Decidable p] (h : ObjsKept own s t) : ObjsKept own s (if p then t else s) := by
  split
  · exact h
  · exact .refl s

theorem ObjsKept.dom (h : ObjsKept own s t) : t.dom = s.dom := by
  funext d
  rw [State.dom, h.time, State.dom]

theorem ObjsKept.clock (h : ObjsKept own s t) : t.clock = s.clock := by
  funext d
  rw [State.clock, h.clk, State.clock]

end ObjsKept

theorem State.dom_setDom_other (s : State) (d : DomainId) (x : DomainSt) : (s.setDom d.val x).dom (1 - d.val) = s.dom (1 - d.val) := by
  obtain ⟨d, hd⟩ := d
  obtain rfl | rfl : d = 0 ∨ d = 1 := by omega
  all_goals rfl

theorem State.setDom_active (s : State) (d : Nat) (x : DomainSt) : (s.setDom d x).time.active = s.time.active := by
  unfold State.setDom
  dsimp only
  split <;> rfl

/-- R318: the objects that show a domain's state, since when it is Locked, and its frequency correction. -/
def entryKeys (d : Nat) : List Nat := [K.domState d, K.domLockedSince d, K.domFreqAdjPpb d]

/-- R308: domain d of s has entered a state: its clock and the other objects of the Timekeeper stand, and its master stays while it follows one. -/
structure DomainEnters (s : State) (d : Nat) (st : DomState) (t : State) : Prop where
  state : (t.dom d).state = st
  code : t.nat (K.domState d) = st.code
  master : (t.dom d).master = if st = .acquiring || st = .locked then (s.dom d).master else none
  foreign : st ≠ .disabled → (t.dom d).foreign = (s.dom d).foreign
  clock : t.clock = s.clock
  nat : ∀ k, keyIdx k ∈ domIndexes → k ∉ entryKeys d → t.nat k = s.nat k

theorem keyIdx_domShown : ∀ d : DomainId, keyIdx (K.domState d.val) ∈ domIndexes ∧ K.timeActiveDomainSelect ∉ entryKeys d.val ∧
    K.domState d.val ≠ K.domLockedSince d.val ∧ K.domState d.val ≠ K.domFreqAdjPpb d.val := by decide

/-- R308, R311: an entry into a state, up to the choice of the active domain. -/
theorem State.domTo_chooses {s : State} {d : DomainId} {st : DomState} (h : (s.dom d.val).state ≠ st) : ∃ u : State,
    s.domTo d.val st = u.chooseDomain ∧ DomainEnters s d.val st u ∧ u.time.active = s.time.active ∧ u.dom (1 - d.val) = s.dom (1 - d.val) ∧
      u.nat K.timeActiveDomainSelect = s.nat K.timeActiveDomainSelect := by
  obtain ⟨-, hselect, hsince, hfreq⟩ := keyIdx_domShown d
  unfold State.domTo
  extract_lets x left entered shown since freq raised
  rw [if_neg h]
  have hshown : shown.nat (K.domState d.val) = st.code := State.nat_setN _ _ _
  have hdom : shown.dom d.val = entered := s.dom_setDom_self d.val entered
  have hobj (k : Nat) (hk : k ∉ entryKeys d.val) : shown.nat k = s.nat k :=
    State.nat_setN_ne _ _ fun h => hk (by simp [entryKeys, h])
  have hkept : ObjsKept [K.domLockedSince d.val, K.domFreqAdjPpb d.val] shown
      (if st = .freerun then raised.raise { src := 389, unit := d.val } else raised) :=
    (ObjsKept.ite (.set _ (by simp) _)).trans ((ObjsKept.ite (.set _ (by simp) _)).trans ((ObjsKept.raise _ _).trans (.ite (.raise _ _))))
  have hnat {k : Nat} (hk : k ∉ entryKeys d.val) : _ := (hkept.nat (List.not_mem_of_not_mem_cons hk)).trans (hobj k hk)
  refine ⟨_, rfl, ⟨?_, ?_, ?_, ?_, ?_, fun k _ => hnat⟩, ?_, ?_, hnat hselect⟩
  · rw [hkept.dom, hdom]
  · rw [hkept.nat (by simp [hsince, hfreq]), hshown]
  · rw [hkept.dom, hdom]
  · intro hst
    rw [hkept.dom, hdom]
    exact if_neg hst
  · rw [hkept.clock]
    rfl
  · rw [hkept.time]
    exact s.setDom_active d.val entered
  · rw [hkept.dom]
    exact s.dom_setDom_other d entered

/-- R308: an entry into another state. -/
theorem State.domTo_enters {s : State} {d : DomainId} {st : DomState} (h : (s.dom d.val).state ≠ st) :
    DomainEnters s d.val st (s.domTo d.val st) := by
  obtain ⟨u, heq, henters, -, -, -⟩ := State.domTo_chooses h
  obtain ⟨hkept, -⟩ := u.chooseDomain_kept
  obtain ⟨hidx, -⟩ := keyIdx_domShown d
  rw [heq]
  refine ⟨?_, ?_, ?_, ?_, hkept.clock.trans henters.clock, fun k hk hown => (hkept.nat hk).trans (henters.nat k hk hown)⟩
  · rw [hkept.dom, henters.state]
  · rw [hkept.nat hidx, henters.code]
  · rw [hkept.dom, henters.master]
  · rw [hkept.dom]
    exact henters.foreign

/-- R311: under Auto an active domain that enters another state than Locked gives way to a Locked one. -/
theorem State.domTo_active {s : State} {d : DomainId} {st : DomState} (h : (s.dom d.val).state ≠ st) (hst : st ≠ .locked)
    (hactive : s.time.active = d.val) (hother : (s.dom (1 - d.val)).state = .locked) (hauto : s.nat K.timeActiveDomainSelect = 0) :
    (s.domTo d.val st).time.active = 1 - d.val := by
  obtain ⟨u, heq, henters, hu, hdom, hselect⟩ := State.domTo_chooses h
  obtain ⟨-, hchosen⟩ := u.chooseDomain_kept
  rw [heq, hchosen, activeChoice_other (hselect.trans hauto), hu, hactive]
  · rwa [hu, hactive, henters.state]
  · rwa [hu, hactive, hdom]

/-! ## An Announce (R306) -/

/-- R306, R318: the best of the masters that domain d keeps is chosen, and is shown. -/
def BestChosen (d : Nat) (t : State) : Prop :=
  ∃ b ∈ (t.dom d).foreign, (t.dom d).master = some (b.port, b.identity) ∧ t.nat (K.domMasterIdentity d) = b.identity ∧
    t.nat (K.domGmIdentity d) = b.gm ∧ t.nat (K.domMasterPort d) = b.port ∧ ∀ f ∈ (t.dom d).foreign, f.better b = false

theorem masterShown_beside_entry : ∀ d : DomainId, ∀ k ∈ [K.domMasterIdentity d.val, K.domGmIdentity d.val, K.domMasterPort d.val],
    keyIdx k ∈ domIndexes ∧ k ∉ entryKeys d.val := by decide

/-- A domain that begins to acquire keeps the master that is chosen. -/
theorem BestChosen.acquiring {s t : State} {d : DomainId} (hs : BestChosen d.val s) (h : DomainEnters s d.val .acquiring t) : BestChosen d.val t := by
  obtain ⟨b, hb, hmaster, hidentity, hgm, hport, hbest⟩ := hs
  have hnat {k : Nat} (hk : k ∈ [K.domMasterIdentity d.val, K.domGmIdentity d.val, K.domMasterPort d.val]) : t.nat k = s.nat k :=
    have ⟨hidx, hown⟩ := masterShown_beside_entry d k hk
    h.nat k hidx hown
  refine ⟨b, ?_, h.master.trans hmaster, ?_, ?_, ?_, ?_⟩
  · rwa [h.foreign (by decide)]
  · rw [hnat (by simp), hidentity]
  · rw [hnat (by simp), hgm]
  · rw [hnat (by simp), hport]
  · rwa [h.foreign (by decide)]

theorem masterShown_distinct : ∀ d : DomainId, K.domMasterIdentity d.val ≠ K.domGmIdentity d.val ∧
    K.domMasterIdentity d.val ≠ K.domMasterPort d.val ∧ K.domGmIdentity d.val ≠ K.domMasterPort d.val ∧
    K.timeUtcOffsetS ∉ [K.domMasterIdentity d.val, K.domGmIdentity d.val, K.domMasterPort d.val] := by decide

/-- R306: the best master shown. -/
theorem State.masterShown (s : State) (d : DomainId) (b : Foreign) :
    let t := ((s.setN (K.domMasterIdentity d.val) b.identity).setN (K.domGmIdentity d.val) b.gm).setN (K.domMasterPort d.val) b.port
    t.nat (K.domMasterIdentity d.val) = b.identity ∧ t.nat (K.domGmIdentity d.val) = b.gm ∧ t.nat (K.domMasterPort d.val) = b.port := by
  obtain ⟨hgm, hport, hgmport, -⟩ := masterShown_distinct d
  refine ⟨?_, ?_, State.nat_setN _ _ _⟩
  · rw [State.nat_setN_ne _ _ hport.symm, State.nat_setN_ne _ _ hgm.symm, State.nat_setN]
  · rw [State.nat_setN_ne _ _ hgmport.symm, State.nat_setN]

/-- What an update of the domain beside its masters leaves chosen. -/
theorem BestChosen.setDom {s : State} {d : Nat} (h : BestChosen d s) {x : DomainSt} (hmaster : x.master = (s.dom d).master)
    (hforeign : x.foreign = (s.dom d).foreign) : BestChosen d (s.setDom d x) := by
  unfold BestChosen
  rw [s.dom_setDom_self, hmaster, hforeign]
  exact h

/-- A domain whose kept masters' best is chosen and shown, beside the other objects. -/
theorem BestChosen.of_shown {s t : State} {d : DomainId} {m : Foreign} {others : List Foreign}
    (hforeign : (s.dom d.val).foreign = others ++ [m])
    (hmaster : (s.dom d.val).master = some ((bestMaster m others).port, (bestMaster m others).identity))
    (h : ObjsKept [K.timeUtcOffsetS] (((s.setN (K.domMasterIdentity d.val) (bestMaster m others).identity).setN (K.domGmIdentity d.val)
      (bestMaster m others).gm).setN (K.domMasterPort d.val) (bestMaster m others).port) t) : BestChosen d.val t := by
  obtain ⟨hidentity, hgm, hport⟩ := s.masterShown d (bestMaster m others)
  obtain ⟨-, -, -, hutc⟩ := masterShown_distinct d
  simp only [List.mem_cons, List.not_mem_nil, or_false, not_or] at hutc
  obtain ⟨hutcIdentity, hutcGm, hutcPort⟩ := hutc
  have hnat {k : Nat} (hk : K.timeUtcOffsetS ≠ k) : _ := h.nat fun hmem => hk (List.mem_singleton.mp hmem).symm
  have hdom : t.dom d.val = s.dom d.val := congrFun h.dom d.val
  rw [BestChosen, hdom, hforeign]
  exact ⟨_, bestMaster_mem m others, hmaster, (hnat hutcIdentity).trans hidentity, (hnat hutcGm).trans hgm, (hnat hutcPort).trans hport,
    fun f => not_better_bestMaster⟩

section Announce

variable {s : State} {d : DomainId} {msg : Foreign}

/-- R306: an Announce that a domain hears leaves the best master chosen; a domain that followed none then begins to acquire. -/
theorem execPtpAnnounce_heard (hhears : domHears s d.val msg.port = true) (hclk : s.boot.clocksLost = false) : ∃ u v : State,
    BestChosen d.val u ∧ (u.dom d.val).state = (s.dom d.val).state ∧ BestChosen d.val v ∧ (v.dom d.val).state = (s.dom d.val).state ∧
      exec (.ptpAnnounce d msg) s =
        if (s.dom d.val).state = .acquiring || (s.dom d.val).state = .locked then .next u else .next (v.domTo d.val .acquiring) := by
  show ∃ u v, _ ∧ _ ∧ _ ∧ _ ∧ execPtpAnnounce d msg s = _
  unfold execPtpAnnounce
  rw [whenClocked_of_clocked hclk]
  extract_lets n counted x m same live best chosen another kept followed entered shown utc told coasts begun acquiring
  rw [if_neg (by simp [n, hhears])]
  have hfollowed : followed.foreign = live ++ [m] ∧ followed.master = chosen ∧ followed.state = x.state := by
    unfold followed
    split <;> exact ⟨rfl, rfl, rfl⟩
  obtain ⟨hforeign, hmaster, hstate⟩ := hfollowed
  have hdom : entered.dom d.val = followed := counted.dom_setDom_self d.val followed
  have htold : ObjsKept [K.timeUtcOffsetS] shown told := (ObjsKept.ite (.set _ (by simp) _)).trans (.ite (.raise _ _))
  have hbest : BestChosen d.val told := .of_shown (hdom ▸ hforeign) (hdom ▸ hmaster) htold
  have hlast : (told.dom d.val).state = x.state := by
    rw [htold.dom]
    exact (congrArg DomainSt.state hdom).trans hstate
  refine ⟨told, acquiring, hbest, hlast, hbest.setDom rfl rfl, ?_, rfl⟩
  unfold acquiring
  rw [State.dom_setDom_self]
  exact hlast

/-- R306, R308: an Announce that a domain hears. -/
theorem ptpAnnounce_heard (hhears : domHears s d.val msg.port = true) : Completes (.ptpAnnounce d msg) s fun t =>
    BestChosen d.val t ∧ ((s.dom d.val).state ≠ .locked → (t.dom d.val).state = .acquiring) ∧
      ((s.dom d.val).state = .locked → (t.dom d.val).state = .locked) := fun hclk => by
  obtain ⟨u, v, hu, hustate, hv, hvstate, hexec⟩ := execPtpAnnounce_heard hhears hclk
  by_cases hfollows : (s.dom d.val).state = .acquiring ∨ (s.dom d.val).state = .locked
  · refine ⟨u, by rw [hexec, if_pos (by simpa using hfollows)], hu, fun hlocked => ?_, fun hlocked => hustate.trans hlocked⟩
    exact hustate.trans (hfollows.resolve_right hlocked)
  · obtain ⟨hacquiring, hlocked⟩ := not_or.mp hfollows
    have henters := State.domTo_enters (s := v) (d := d) (st := .acquiring) (hvstate ▸ hacquiring)
    exact ⟨_, by rw [hexec, if_neg (by simpa using hfollows)], hv.acquiring henters, fun _ => henters.state, fun h => absurd h hlocked⟩

end Announce

/-! ## A domain that hears its master no more (R308) -/

section Timeouts

variable {s : State} {d : DomainId}

section Silent

variable {p i : Nat} {f : Foreign} (hmaster : (s.dom d.val).master = some (p, i))
  (hknown : (s.dom d.val).foreign.find? (fun f => f.port == p && f.identity == i) = some f)
  (hdue : passed s (s.dom d.val).lastAnnounce (announceTimeout s d.val f) = true)
include hmaster hknown hdue

/-- R308: the announce receipt timeout of a domain's master: the domain forgets it and, if it followed it, enters another state. -/
theorem execAnnounceReceiptTimeout_due (hclk : s.boot.clocksLost = false) : ∃ x : DomainSt, x.state = (s.dom d.val).state ∧
    ((s.dom d.val).state = .locked → exec (.announceReceiptTimeout d) s = .next ((s.setDom d.val x).domTo d.val .holdover)) ∧
    ((s.dom d.val).state = .acquiring → exec (.announceReceiptTimeout d) s = .next ((s.setDom d.val x).domTo d.val
      (if 16 * 1000000000 * 6 ≤ lockedTicks s (s.dom d.val) * 25 then .holdover else .listening))) := by
  have hexec : exec (.announceReceiptTimeout d) s = execAnnounceReceiptTimeout d s := rfl
  refine ⟨{ s.dom d.val with foreign := (s.dom d.val).foreign.filter fun f => !(f.port == p && f.identity == i) }, rfl,
    fun hstate => ?_, fun hstate => ?_⟩
  all_goals
    rw [hexec, execAnnounceReceiptTimeout, whenClocked_of_clocked hclk]
    simp only [hmaster, hknown, hdue, hstate]
    rfl

/-- R308, R311: a Locked domain loses its master. -/
theorem announceReceiptTimeout_locked (hlocked : (s.dom d.val).state = .locked) : Completes (.announceReceiptTimeout d) s fun t =>
    (t.dom d.val).state = .holdover ∧ t.nat (K.domState d.val) = 4 ∧ (t.dom d.val).master = none ∧
      (s.time.active = d.val → (s.dom (1 - d.val)).state = .locked → s.nat K.timeActiveDomainSelect = 0 → t.time.active = 1 - d.val) := fun hclk => by
  obtain ⟨x, hx, hexec, -⟩ := execAnnounceReceiptTimeout_due hmaster hknown hdue hclk
  have hleft : ((s.setDom d.val x).dom d.val).state ≠ .holdover := by simp [s.dom_setDom_self, hx, hlocked]
  have henters := State.domTo_enters hleft
  refine ⟨_, hexec hlocked, henters.state, henters.code, henters.master, fun hactive hother hauto => ?_⟩
  exact State.domTo_active hleft (by decide) ((s.setDom_active d.val x).trans hactive) (by rwa [s.dom_setDom_other]) hauto

/-- R308: an Acquiring domain loses its master. -/
theorem announceReceiptTimeout_acquiring (hacquiring : (s.dom d.val).state = .acquiring) :
    let next : DomState := if 16 * 1000000000 * 6 ≤ lockedTicks s (s.dom d.val) * 25 then .holdover else .listening
    Completes (.announceReceiptTimeout d) s fun t => (t.dom d.val).state = next ∧ t.nat (K.domState d.val) = next.code := by
  intro next hclk
  obtain ⟨x, hx, -, hexec⟩ := execAnnounceReceiptTimeout_due hmaster hknown hdue hclk
  have hleft : ((s.setDom d.val x).dom d.val).state ≠ next := by
    rw [s.dom_setDom_self, hx, hacquiring]
    unfold next
    split <;> decide
  have henters := State.domTo_enters hleft
  exact ⟨_, hexec hacquiring, henters.state, henters.code⟩

end Silent

/-- R308: Holdover ends. -/
theorem holdoverLimit_due {x : Nat} (hsince : (s.dom d.val).holdoverAt = some x) (hstate : (s.dom d.val).state = .holdover)
    (hdue : passed s x (s.nat K.timeHoldoverLimitS * 1000000000) = true) :
    Completes (.holdoverLimit d) s fun t => (t.dom d.val).state = .freerun ∧ t.nat (K.domState d.val) = 5 := fun hclk => by
  have henters := State.domTo_enters (s := s) (d := d) (st := .freerun) (by simp [hstate])
  refine ⟨s.domTo d.val .freerun, ?_, henters.state, henters.code⟩
  show execHoldoverLimit d s = _
  rw [execHoldoverLimit, whenClocked_of_clocked hclk]
  simp [hsince, hstate, hdue]

end Timeouts

/-! ## The obligation -/

/-- Settles O35: an Announce by `ptpAnnounce_heard`, the loss of a master by `announceReceiptTimeout_locked` and
`announceReceiptTimeout_acquiring`, the end of Holdover by `holdoverLimit_due`. -/
theorem mastersAreSelected : Obligations.MastersAreSelected := by
  unfold Obligations.MastersAreSelected
  refine fun s d => ⟨fun msg => ptpAnnounce_heard, fun p i f hmaster hknown hdue => ⟨announceReceiptTimeout_locked hmaster hknown hdue,
    fun hstate hlong => ?_, fun hstate hshort => ?_⟩, fun x => holdoverLimit_due⟩
  all_goals have hcompletes := announceReceiptTimeout_acquiring hmaster hknown hdue hstate
  · rwa [if_pos hlong] at hcompletes
  · rwa [if_neg (Nat.not_le.mpr hshort)] at hcompletes

end Sys2Proof.Machine
end

section
/-!
PROOFS. How the two domains acquire and lock (spec/10_timekeeper.md; R306, R307, R308; log entries 62, 63 and 142): a Sync that sets the clock,
one that makes a domain Locked, one that ends it, and the measurement of the mean path delay.
-/

namespace Sys2Proof.Machine

/-! ## The clock of a domain and the offset that is shown (R303, R318) -/

theorem State.clock_setClock_self (s : State) (d : Nat) (v : Int) : (s.setClock d v).clock d = v := by
  unfold State.setClock State.clock
  split <;> rfl

/-- R311: a domain's clock is set; presented time follows that of the active one. -/
theorem State.moveClock_parts (s : State) (d : Nat) (v : Int) (first : Bool) :
    (s.moveClock d v first).clock d = v ∧ (s.moveClock d v first).dom = s.dom := by
  unfold State.moveClock
  dsimp only
  split
  · have hkept := (s.setClock d v).retarget_activeKept first
    rw [hkept.clock, hkept.dom]
    exact ⟨s.clock_setClock_self d v, rfl⟩
  · exact ⟨s.clock_setClock_self d v, rfl⟩

theorem offsetShown_distinct : ∀ d : DomainId,
    (if d.val = 0 then K.fastPrimaryOffsetNs else K.fastRedundantOffsetNs) ≠ K.domOffsetNs d.val := by decide

theorem State.showOffset_zero (s : State) (d : DomainId) : (s.showOffset d.val 0).int (K.domOffsetNs d.val) = 0 := by
  unfold State.showOffset
  dsimp only
  rw [State.int_set_ne _ _ (offsetShown_distinct d), State.int_set]
  rfl

/-! ## What a Sync does (R308; log entry 63) -/

/-- The offset that a Sync shows: t2 its receive time on the domain's clock. -/
def syncOffset (s : State) (d : Nat) (t2 origin correction : Int) : Int :=
  t2 - origin - correction - (s.dom d).pathDelay - s.int (K.domAsymmetryNs d)

/-- R308: the servo moves neither the domain's state nor the clocks' time. -/
theorem State.servoStep_parts (s : State) (d : Nat) (off : Int) :
    ((s.servoStep d off).dom d).state = (s.dom d).state ∧ (s.servoStep d off).clock = s.clock := by
  unfold State.servoStep
  extract_lets x lim beyond
  split
  extract_lets f y at_ z t
  have hz : z.state = x.state := by
    unfold z
    split <;> rfl
  have ht : (t.dom d).state = x.state ∧ t.clock = s.clock := ⟨(congrArg DomainSt.state (s.dom_setDom_self d z)).trans hz, rfl⟩
  split
  · have hraised := t.raise_activeKept { src := 5 }
    rwa [hraised.dom, hraised.clock]
  · exact ht

section SyncDone

variable {s : State} {d : DomainId} {t2 origin correction : Int}

/-- R308: the first Sync of an Acquiring domain. -/
theorem State.syncDone_first (hunset : (s.dom d.val).clockSet = false) :
    let t := s.syncDone d.val t2 origin correction
    t.clock d.val = s.clock d.val - syncOffset s d.val t2 origin correction * (unitsPerNs : Int) ∧ (t.dom d.val).clockSet = true ∧
      t.int (K.domOffsetNs d.val) = 0 := by
  unfold State.syncDone
  extract_lets x diff off first time begun entered th good bad y served t
  have ht : t = (entered.moveClock d.val (entered.clock d.val - off * (unitsPerNs : Int)) first).showOffset d.val 0 :=
    if_pos (by simp [x, hunset])
  rw [ht]
  obtain ⟨hclock, hdom⟩ := entered.moveClock_parts d.val (entered.clock d.val - off * (unitsPerNs : Int)) first
  refine ⟨hclock, ?_, State.showOffset_zero _ d⟩
  show ((State.moveClock entered d.val _ first).dom d.val).clockSet = true
  rw [hdom]
  exact congrArg DomainSt.clockSet (begun.dom_setDom_self d.val _)

/-- R308: a later Sync, which makes a domain Locked or ends that. -/
theorem State.syncDone_later (hset : (s.dom d.val).clockSet = true) : ∃ u : State, (u.dom d.val).state = (s.dom d.val).state ∧ u.clock = s.clock ∧
    ((s.dom d.val).state = .acquiring → (syncOffset s d.val t2 origin correction).natAbs ≤ s.nat (K.domLockThresholdNs d.val) →
      (s.dom d.val).inLock = 15 → s.syncDone d.val t2 origin correction = u.domTo d.val .locked) ∧
    ((s.dom d.val).state = .locked → 4 * s.nat (K.domLockThresholdNs d.val) < (syncOffset s d.val t2 origin correction).natAbs →
      (s.dom d.val).outLock = 3 → s.syncDone d.val t2 origin correction = u.domTo d.val .holdover) := by
  unfold State.syncDone
  extract_lets x diff off first time begun entered th good bad y served
  obtain ⟨hstate, hclock⟩ := ((s.setDom d.val y).showOffset d.val off).servoStep_parts d.val off
  refine ⟨served, hstate.trans (congrArg DomainSt.state (s.dom_setDom_self d.val y) :), hclock, fun hacquiring hwithin hrun => ?_,
    fun hlocked hbeyond hrun => ?_⟩
  · have hgood : good = true := decide_eq_true hwithin
    rw [if_neg (by simp [x, hset]), if_pos (by simp [y, x, hacquiring, hgood, hrun])]
  · have hbad : bad = true := decide_eq_true hbeyond
    rw [if_neg (by simp [x, hset]), if_neg (by simp [y, x, hlocked]), if_pos (by simp [y, x, hlocked, hbad, hrun])]

end SyncDone

section Sync

variable {s : State} {d : DomainId} {msg : SyncMsg}

/-- R306, R307: the receive time of a Sync on the domain's clock, with the port's correction. -/
def syncReceived (s : State) (d : Nat) (msg : SyncMsg) : Int := (domainNs s d : Int) + s.int (K.tcorrIngressCorrNs msg.port)

/-- A Sync of one step that a domain takes from its master. -/
structure SyncTaken (s : State) (d : DomainId) (msg : SyncMsg) : Prop where
  hears : domHears s d.val msg.port = true
  master : (s.dom d.val).master = some (msg.port, msg.identity)
  sync : msg.followUp = false
  oneStep : msg.twoStep = false

/-- R308: a domain that follows its master takes the Sync, which is counted. -/
theorem SyncTaken.exec (h : SyncTaken s d msg) (hstate : (s.dom d.val).state = .acquiring ∨ (s.dom d.val).state = .locked)
    (hclk : s.boot.clocksLost = false) : Machine.exec (.ptpSync d msg) s =
      .next ((s.count (480 + d.val) 1).syncDone d.val (syncReceived s d.val msg) msg.origin msg.correction) := by
  show execPtpSync d msg s = _
  rw [execPtpSync, whenClocked_of_clocked hclk]
  extract_lets n x counted now
  have hcounted : counted = s.count (480 + d.val) 1 := by simp [counted, n, h.hears, h.sync, b2n]
  have hhears : domHears counted n msg.port = true := h.hears
  have hmaster : x.master = some (msg.port, msg.identity) := h.master
  have hfollows : (x.state == .acquiring || x.state == .locked) = true := by simpa [x, n] using hstate
  rw [if_neg (by simp [hhears, hmaster, hfollows]), if_neg (by simp [h.sync]), if_neg (by simp [h.oneStep])]
  exact hcounted ▸ rfl

section Taken

variable (h : SyncTaken s d msg)
include h

/-- R308: the first Sync of an Acquiring domain sets its clock. -/
theorem ptpSync_first (hstate : (s.dom d.val).state = .acquiring) (hunset : (s.dom d.val).clockSet = false) : Completes (.ptpSync d msg) s fun t =>
    t.clock d.val = s.clock d.val - syncOffset s d.val (syncReceived s d.val msg) msg.origin msg.correction * (unitsPerNs : Int) ∧
      (t.dom d.val).clockSet = true ∧ t.int (K.domOffsetNs d.val) = 0 := fun hclk =>
  ⟨_, h.exec (.inl hstate) hclk, State.syncDone_first (s := s.count (480 + d.val) 1) hunset⟩

/-- R308: the sixteenth Sync in a row within the threshold. -/
theorem ptpSync_locks (hstate : (s.dom d.val).state = .acquiring) (hset : (s.dom d.val).clockSet = true)
    (hwithin : (syncOffset s d.val (syncReceived s d.val msg) msg.origin msg.correction).natAbs ≤ s.nat (K.domLockThresholdNs d.val))
    (hrun : (s.dom d.val).inLock = 15) : Completes (.ptpSync d msg) s fun t =>
      (t.dom d.val).state = .locked ∧ t.nat (K.domState d.val) = 3 ∧ t.clock d.val = s.clock d.val := fun hclk => by
  obtain ⟨u, hustate, hclock, hlocks, -⟩ := State.syncDone_later (s := s.count (480 + d.val) 1) (d := d) hset
  have henters := State.domTo_enters (s := u) (d := d) (st := .locked) (by simp [hustate.trans hstate])
  refine ⟨_, (h.exec (.inl hstate) hclk).trans (congrArg _ (hlocks hstate hwithin hrun)), henters.state, henters.code, ?_⟩
  rw [henters.clock, hclock]
  rfl

/-- R308: the fourth Sync in a row beyond four times the threshold. -/
theorem ptpSync_unlocks (hstate : (s.dom d.val).state = .locked) (hset : (s.dom d.val).clockSet = true)
    (hbeyond : 4 * s.nat (K.domLockThresholdNs d.val) < (syncOffset s d.val (syncReceived s d.val msg) msg.origin msg.correction).natAbs)
    (hrun : (s.dom d.val).outLock = 3) : Completes (.ptpSync d msg) s fun t =>
      (t.dom d.val).state = .holdover ∧ t.nat (K.domState d.val) = 4 := fun hclk => by
  obtain ⟨u, hustate, -, -, hunlocks⟩ := State.syncDone_later (s := s.count (480 + d.val) 1) (d := d) hset
  have henters := State.domTo_enters (s := u) (d := d) (st := .holdover) (by simp [hustate.trans hstate])
  exact ⟨_, (h.exec (.inr hstate) hclk).trans (congrArg _ (hunlocks hstate hbeyond hrun)), henters.state, henters.code⟩

end Taken

end Sync

/-! ## The mean path delay (R306, R307; log entry 142) -/

section Delay

variable {s : State} {d : DomainId}

/-- R270, R271, R306: the frame of a domain's request. -/
theorem requestFrame_parts (s : State) (d p seq : Nat) : (requestFrame s d p seq).port = p ∧ (requestFrame s d p seq).cls = 4 ∧
    (requestFrame s d p seq).tagged = true ∧ (requestFrame s d p seq).ptp = some (d, seq) := by
  unfold requestFrame
  extract_lets peer body f
  have hf : f.port = p ∧ f.cls = 4 ∧ f.tagged = true := by
    unfold f
    split <;> exact ⟨rfl, rfl, rfl⟩
  obtain ⟨hport, hcls, htagged⟩ := hf
  exact ⟨hport, hcls, htagged, rfl⟩

/-- R306, R416: a domain's Delay_Req goes to the port of its master. -/
theorem delayReqSend_master {p i : Nat} (hmaster : (s.dom d.val).master = some (p, i)) (hpeer : peerDelay s d.val = false)
    (henabled : (s.dom d.val).state ≠ .disabled) (hbolt : s.boot.boltReady = true) :
    let seq := ((s.dom d.val).delaySeq + 1) % 65536
    Completes (.delayReqSend d) s fun t => ∃ (u : State) (f : TxFrame), t = u.sendFrame f ∧ u.net = s.net ∧ u.objs = s.objs ∧ u.clk = s.clk ∧
      (u.dom d.val).delaySeq = seq ∧ (u.dom d.val).delayReq = none ∧ f.port = p ∧ f.cls = 4 ∧ f.tagged = true ∧
        f.ptp = some (d.val, seq) := fun hclk => by
  obtain ⟨hport, hcls, htagged, hptp⟩ := requestFrame_parts s d.val p (((s.dom d.val).delaySeq + 1) % 65536)
  have hexec : exec (.delayReqSend d) s = .next (((s.count (482 + d.val) 1).setDom d.val { s.dom d.val with
      delaySeq := ((s.dom d.val).delaySeq + 1) % 65536, delayReq := none }).sendFrame
        (requestFrame s d.val p (((s.dom d.val).delaySeq + 1) % 65536))) := by
    show execDelayReqSend d s = _
    rw [execDelayReqSend, whenClocked_of_clocked hclk]
    simp [hpeer, hmaster, henabled, hbolt]
  exact ⟨_, hexec, _, _, rfl, rfl, rfl, rfl, by rw [State.dom_setDom_self], by rw [State.dom_setDom_self], hport, hcls, htagged, hptp⟩

/-- R306: the answer to the Delay_Req in flight. -/
theorem ptpDelayResp_answers {x : Nat} {sent : Int} {msg : DelayMsg} (hflight : (s.dom d.val).delayReq = some (x, sent)) (hseq : msg.seq = x)
    (hkind : msg.peer = false) (hpeer : peerDelay s d.val = false) : Completes (.ptpDelayResp d msg) s fun t =>
      (t.dom d.val).pathDelay = max 0 (((s.dom d.val).syncDiff + (msg.receive - msg.correction - sent)) / 2) ∧
        (t.dom d.val).delayReq = none ∧ t.clk = s.clk := fun hclk => by
  have hexec : exec (.ptpDelayResp d msg) s = .next (State.set (s.setDom d.val { s.dom d.val with
      delayReq := none, pathDelay := max 0 (((s.dom d.val).syncDiff + (msg.receive - msg.correction - sent)) / 2) }) (K.domMeanPathDelayNs d.val)
        (clampInt 0 4294967295 (max 0 (((s.dom d.val).syncDiff + (msg.receive - msg.correction - sent)) / 2)))) := by
    show execPtpDelayResp d msg s = _
    rw [execPtpDelayResp, whenClocked_of_clocked hclk]
    simp [hflight, hseq, hkind, hpeer]
  have hdom (y : DomainSt) (k : Nat) (v : Int) : ((s.setDom d.val y).set k v).dom d.val = y := s.dom_setDom_self d.val y
  exact ⟨_, hexec, by rw [hdom], by rw [hdom], rfl⟩

end Delay

/-! ## The obligation -/

/-- Settles O36: a Sync by `ptpSync_first`, `ptpSync_locks` and `ptpSync_unlocks`, a Delay_Req by `delayReqSend_master` and its answer by
`ptpDelayResp_answers`. -/
theorem domainsAcquireAndLock : Obligations.DomainsAcquireAndLock := by
  unfold Obligations.DomainsAcquireAndLock
  refine fun s d => ⟨fun msg hhears hmaster hsync honeStep => ?_, fun p i => delayReqSend_master, fun x sent msg => ptpDelayResp_answers⟩
  have htaken : SyncTaken s d msg := ⟨hhears, hmaster, hsync, honeStep⟩
  exact ⟨ptpSync_first htaken, ptpSync_locks htaken, ptpSync_unlocks htaken⟩

end Sys2Proof.Machine
end

section
/-!
PROOFS. Presented time, the pulse outputs and the capture inputs (spec/10_timekeeper.md; R309, R311, R313, R315, R316, R320; log entries 66, 67 and
127): the primary domain's return, the end of a slew, the external reference, the edges of an output and the records of an input.
-/

namespace Sys2Proof.Machine

/-! ## The active domain, the slew and the external reference (R309, R311) -/

section Follows

variable {s : State}

/-- R311: the primary domain, Locked for RevertHoldoffS, becomes active again. -/
theorem revertHoldoffExpiry_due {x : Nat} (hlocked : s.time.dom0.lockedAt = some x) (hauto : s.nat K.timeActiveDomainSelect = 0)
    (hreverts : s.nat K.timeRevertHoldoffS ≠ 0) (hactive : s.time.active = 1) (hdue : passed s x (s.nat K.timeRevertHoldoffS * 1000000000) = true) :
    Completes .revertHoldoffExpiry s fun t => t.time.active = 0 ∧ t.nat K.timeSwitchCount = (s.nat K.timeSwitchCount + 1) % 2 ^ 32 ∧
      counterOf t 486 = (counterOf s 486 + 1) % 2 ^ 48 := fun hclk => by
  have hexec : exec .revertHoldoffExpiry s = .next (s.switchTo 0).tryGate := by
    show execRevertHoldoffExpiry s = _
    rw [execRevertHoldoffExpiry, whenClocked_of_clocked hclk]
    simp [hlocked, hauto, hreverts, hactive, hdue]
  obtain ⟨-, hswitched, hcount, hcounter⟩ := State.switchTo_other (s := s) (d := 0) (by rw [hactive]; decide)
  have hgate := (s.switchTo 0).tryGate_activeKept
  exact ⟨_, hexec, hgate.active.trans hswitched, hgate.switches.trans hcount, hgate.counter.trans hcounter⟩

/-- R311: presented time has met the active domain's clock. -/
theorem slewComplete_met (hslewing : s.time.slewing = true) (hmet : s.clock s.time.active = s.clk.presented) : Completes .slewComplete s fun t =>
    t.time = { s.time with slewing := false } ∧ t.clk = s.clk ∧ t.objs = s.objs := fun hclk => by
  have hexec : exec .slewComplete s = .next (State.raise { s with time := { s.time with slewing := false } } { src := 388 }) := by
    show execSlewComplete s = _
    rw [execSlewComplete, whenClocked_of_clocked hclk]
    simp [hslewing, slewError, hmet]
  exact ⟨_, hexec, by simp⟩

/-- R309: the external reference is lost; what coasts goes on with the frequency kept. -/
theorem externalRefLost_drops (href : s.nat K.timeHoldoverReference ≠ 0) (hin : s.time.extDropped = false) : Completes .externalRefLost s fun t =>
    t.time = { s.time with extDropped := true } ∧ t.clk = s.clk := fun hclk => by
  have hexec : exec .externalRefLost s = .next (State.raise ([0, 1].foldl (fun s d =>
      if coasting (s.dom d) then s.setFreq d (keptFreq (s.dom d)) else s) { s with time := { s.time with extDropped := true } }) { src := 390 }) := by
    show execExternalRefLost s = _
    rw [execExternalRefLost, whenClocked_of_clocked hclk, if_neg (by simp [href, hin])]
  refine ⟨_, hexec, ?_⟩
  have hkept := foldl_view (view := fun s : State => (s.time, s.clk))
    (f := fun s d => if coasting (s.dom d) then s.setFreq d (keptFreq (s.dom d)) else s) (fun s d => by split <;> rfl)
    [0, 1] { s with time := { s.time with extDropped := true } }
  obtain ⟨htime, hclock⟩ := Prod.mk.inj hkept
  simp only [State.raise_fields]
  exact ⟨htime, hclock⟩

/-- R309: the external reference is back. -/
theorem externalRefReturn_returns (href : s.nat K.timeHoldoverReference ≠ 0) (hout : s.time.extDropped = true)
    (hedges : passed s s.time.extEdge 3000000000 = false) : Completes .externalRefReturn s fun t =>
      t.time = { s.time with extDropped := false } ∧ t.clk = s.clk ∧ t.objs = s.objs := fun hclk => by
  have hexec : exec .externalRefReturn s = .next (State.raise { s with time := { s.time with extDropped := false } } { src := 390 }) := by
    show execExternalRefReturn s = _
    rw [execExternalRefReturn, whenClocked_of_clocked hclk, if_neg (by simp [href, hout, hedges])]
  exact ⟨_, hexec, by simp⟩

end Follows

/-! ## Pulse outputs (R313, R315; log entry 66) -/

section Pulses

variable {s : State} {n x : Nat}

/-- An output's state as this state holds it. -/
def State.pulse (s : State) (n : Nat) : PulseSt := AMap.getD s.time.pulses n {}

/-- R315: an output places its leading edge at an instant, and its trailing edge WidthNs later. -/
def State.edgesPlaced (s : State) (n at_ : Nat) (once : Bool) : State :=
  let level := !s.flag (K.pulseActiveLow n)
  let t : State := { s with time := { s.time with pulses := AMap.put s.time.pulses n { from_ := at_, fired := once } } }
  (t.emit (.pulse n level at_)).emit (.pulse n (!level) (at_ + s.nat (K.pulseWidthNs n)))

theorem State.edgesPlaced_pulse (s : State) (n at_ : Nat) (once : Bool) : (s.edgesPlaced n at_ once).pulse n = { from_ := at_, fired := once } :=
  AMap.getD_put_self _ _ _ _

/-- R313, R315: a one-shot's target that a step of presented time has passed over. -/
def pulseLate (s : State) (n x : Nat) (once : Bool) : Bool :=
  once && decide (s.time.stepFrom < x) && decide (x ≤ s.time.stepTo) && (s.pulse n).from_ == s.time.stepTo

/-- R315: an output whose leading edge at an instant is not placed yet. -/
theorem execPulseEdge_due {once : Bool} (honce : (s.nat (K.pulsePulseMode n) == 1) = once) (hinstant : pulseInstant s n = some x)
    (hdue : (once && (s.pulse n).fired || !once && decide (x ≤ (s.pulse n).from_)) = false) (hclk : s.boot.clocksLost = false) :
    let placed := s.edgesPlaced n (if once then max x (s.pulse n).from_ else x) once
    exec (.pulseEdge n) s =
      .next (if pulseLate s n x once then (placed.bump (K.pulsePulseLateCount n)).raise { src := 408 + n, unit := n } else placed) := by
  subst honce
  show execPulseEdge n s = _
  rw [execPulseEdge, whenClocked_of_clocked hclk]
  simp only [hinstant]
  exact if_neg (Bool.not_eq_true _ ▸ hdue)

/-- R315: a new leading edge of an output that is no one-shot. -/
theorem pulseEdge_places (hmode : s.nat (K.pulsePulseMode n) ≠ 1) (hinstant : pulseInstant s n = some x) (hnew : (s.pulse n).from_ < x) :
    Completes (.pulseEdge n) s fun t =>
      t.net.sent = .pulse n (s.flag (K.pulseActiveLow n)) (x + s.nat (K.pulseWidthNs n)) :: .pulse n (!s.flag (K.pulseActiveLow n)) x :: s.net.sent ∧
        (t.pulse n).from_ = x ∧ t.objs = s.objs := fun hclk => by
  have hexec := execPulseEdge_due (once := false) (by simpa using hmode) hinstant (by simpa using hnew) hclk
  refine ⟨s.edgesPlaced n x false, hexec, ?_, by rw [State.edgesPlaced_pulse], rfl⟩
  simp [State.edgesPlaced, State.emit]

/-- R315: an output places each leading edge once. -/
theorem pulseEdge_placed (hmode : s.nat (K.pulsePulseMode n) ≠ 1) (hinstant : pulseInstant s n = some x) (hold : x ≤ (s.pulse n).from_) :
    exec (.pulseEdge n) s = .next s := by
  have hold' : x ≤ (AMap.getD s.time.pulses n {}).from_ := hold
  show execPulseEdge n s = _
  rw [execPulseEdge]
  simp [hinstant, hmode, hold']

/-- R315: a one-shot that has fired. -/
theorem pulseEdge_spent (hmode : s.nat (K.pulsePulseMode n) = 1) (hfired : (s.pulse n).fired = true) : exec (.pulseEdge n) s = .next s := by
  have hfired' : (AMap.getD s.time.pulses n {}).fired = true := hfired
  show execPulseEdge n s = _
  rw [execPulseEdge]
  cases pulseInstant s n with
  | none => simp
  | some x => simp [hmode, hfired']

theorem pulseLateCount_ne (hn : n < 8) : K.pulsePulseLateCount n ≠ K.pulsePulseMode n := by
  have hlate : keyIdx (K.pulsePulseLateCount n) = 0x6088 := keyIdx_objKey _ (by omega)
  have hmode : keyIdx (K.pulsePulseMode n) = 0x6080 + n := keyIdx_objKey _ (by decide)
  exact key_ne_of_keyIdx (by omega)

/-- R315: a one-shot fires, and once only. -/
theorem pulseEdge_fires (hn : n < 8) (hmode : s.nat (K.pulsePulseMode n) = 1) (hinstant : pulseInstant s n = some x)
    (hunfired : (s.pulse n).fired = false) : Completes (.pulseEdge n) s fun t =>
      (t.pulse n).fired = true ∧ exec (.pulseEdge n) t = .next t := fun hclk => by
  have hexec := execPulseEdge_due (once := true) (by simp [hmode]) hinstant (by simp [hunfired]) hclk
  extract_lets placed at hexec
  have hspent {t : State} (hpulse : t.pulse n = placed.pulse n) (hnat : t.nat (K.pulsePulseMode n) = s.nat (K.pulsePulseMode n)) :
      (t.pulse n).fired = true ∧ exec (.pulseEdge n) t = .next t :=
    have hfired : (t.pulse n).fired = true := by rw [hpulse, State.edgesPlaced_pulse]
    ⟨hfired, pulseEdge_spent (hnat.trans hmode) hfired⟩
  refine ⟨_, hexec, ?_⟩
  split
  · refine hspent (by simp [State.pulse]) ?_
    rw [State.raise_nat, State.nat_bump_ne _ (pulseLateCount_ne hn)]
    rfl
  · exact hspent rfl rfl

/-- R315: an output that is off. -/
theorem pulseEdge_off (hmode : s.nat (K.pulsePulseMode n) = 0) : exec (.pulseEdge n) s = .next s := by
  have hnone : pulseInstant s n = none := by simp [pulseInstant, hmode]
  show execPulseEdge n s = _
  rw [execPulseEdge]
  simp [hnone]

end Pulses

/-! ## Capture inputs (R316, R438; log entry 67) -/

section Captures

variable {s : State} {n : Nat}

/-- An input's state as this state holds it. -/
def State.cap (s : State) (n : Nat) : CapSt := AMap.getD s.time.caps n {}

/-- R316: a record of an edge at the present instant. -/
def capRecord (s : State) (rising : Bool) : CapRec := { time := nowNs s % 2 ^ 64, rising := rising, stepEpoch := stepEpoch s }

/-- An input's state set. -/
def State.setCap (s : State) (n : Nat) (x : CapSt) : State := { s with time := { s.time with caps := AMap.put s.time.caps n x } }

@[simp] theorem State.cap_setCap (s : State) (n : Nat) (x : CapSt) : (s.setCap n x).cap n = x := AMap.getD_put_self _ _ _ _

/-- R316: an edge's record at the end of its input's FIFO. -/
def State.captured (s : State) (n : Nat) (rising : Bool) : State := s.setCap n { s.cap n with fifo := (s.cap n).fifo ++ [capRecord s rising] }

theorem State.cap_captured (s : State) (n : Nat) (rising : Bool) :
    (s.captured n rising).cap n = { s.cap n with fifo := (s.cap n).fifo ++ [capRecord s rising] } := State.cap_setCap _ _ _

section Edge

variable {rising : Bool} (hboth : s.nat (K.capCaptureEdge n) = 3) (hnoref : s.nat K.timeHoldoverReference = 0) (hserved : s.isFrozen 36 = false)
include hboth hnoref hserved

/-- R316: an edge of an input that takes both edges and is no reference's goes into the FIFO, or is dropped and counted where it is full. -/
theorem execCaptureEdge_both (hclk : s.boot.clocksLost = false) : exec (.captureEdge n rising) s =
    .next (if 16 ≤ (s.cap n).fifo.length then
      ((s.count (488 + n) 1).bump (K.capCaptureOverflow n)).raiseLimited (400 + n) { src := 400 + n, unit := n }
    else ((s.count (488 + n) 1).captured n rising).set (K.capLastCapture n) (time80 (nowNs s))) := by
  show execCaptureEdge n rising s = _
  rw [execCaptureEdge, whenClocked_of_clocked hclk]
  extract_lets ref followed edge counted x
  have hfollowed : followed = s := if_neg (by simp [ref, hnoref])
  have hcounted : counted = s.count (488 + n) 1 := congrArg (State.count · _ _) hfollowed
  have hedge : edge = 3 := by rw [← hboth, ← hfollowed]
  have hthawed : counted.isFrozen 36 = false := hcounted ▸ hserved
  have hx : x = s.cap n := (congrArg (State.cap · n) hcounted :)
  rw [if_neg (by simp [ref, hnoref]), if_neg (by simp [hedge])]
  split
  next hfull => rw [if_pos (by simpa [hx, hthawed] using hfull), hcounted]
  next hroom =>
    rw [if_neg (by simpa [hx, hthawed] using hroom)]
    exact congrArg (fun u : State => Host.Outcome.next ((u.captured n rising).set (K.capLastCapture n) (time80 (nowNs u)))) hcounted

/-- R316: an edge that finds room. -/
theorem captureEdge_room (hroom : (s.cap n).fifo.length < 16) : Completes (.captureEdge n rising) s fun t =>
    (t.cap n).fifo = (s.cap n).fifo ++ [capRecord s rising] ∧ t.obj (K.capLastCapture n) = .int (time80 (nowNs s)) := fun hclk => by
  have hexec := execCaptureEdge_both (rising := rising) hboth hnoref hserved hclk
  rw [if_neg (Nat.not_le.mpr hroom)] at hexec
  exact ⟨_, hexec, congrArg CapSt.fifo ((s.count (488 + n) 1).cap_captured n rising), State.obj_set _ _ _⟩

/-- R316: an edge that finds the FIFO full. -/
theorem captureEdge_full (hfull : 16 ≤ (s.cap n).fifo.length) : Completes (.captureEdge n rising) s fun t =>
    t.time.caps = s.time.caps ∧ t.nat (K.capCaptureOverflow n) = (s.nat (K.capCaptureOverflow n) + 1) % 2 ^ 32 := fun hclk => by
  have hexec := execCaptureEdge_both (rising := rising) hboth hnoref hserved hclk
  rw [if_pos hfull] at hexec
  refine ⟨_, hexec, by simp, ?_⟩
  simp only [State.raiseLimited_accessors]
  exact State.nat_bump _ _

end Edge

/-- R320: a read of TIME_CAPn_LO pops the oldest record and latches it. -/
theorem capturePop_record {r : CapRec} {rest : List CapRec} (hfifo : (s.cap n).fifo = r :: rest) : Completes (.capturePop n) s fun t =>
    (t.cap n).fifo = rest ∧ (t.cap n).latchLo = r.time % 2 ^ 32 ∧ (t.cap n).latchHi = r.time / 2 ^ 32 ∧ t.objs = s.objs := fun hclk => by
  have hfifo' : (AMap.getD s.time.caps n {}).fifo = r :: rest := hfifo
  have hexec : exec (.capturePop n) s = .next (s.setCap n { s.cap n with
      fifo := rest, latchLo := r.time % 2 ^ 32, latchHi := r.time / 2 ^ 32,
      latchStat := 2 ^ 31 + 2 ^ 30 * b2n r.rising + 2 ^ 16 * r.stepEpoch + rest.length }) := by
    show execCapturePop n s = _
    rw [execCapturePop, whenClocked_of_clocked hclk]
    simp only [hfifo']
    rfl
  refine ⟨_, hexec, ?_⟩
  simp only [State.cap_setCap, true_and]
  rfl

/-- R320: on an empty FIFO such a read answers Valid 0. -/
theorem capturePop_empty (hfifo : (s.cap n).fifo = []) : Completes (.capturePop n) s fun t =>
    (t.cap n).latchStat = 0 ∧ t.objs = s.objs := fun hclk => by
  have hfifo' : (AMap.getD s.time.caps n {}).fifo = [] := hfifo
  have hexec : ∃ x : CapSt, x.latchStat = 0 ∧ exec (.capturePop n) s = .next (s.setCap n x).nextFree.nextFree := by
    show ∃ x : CapSt, _ ∧ execCapturePop n s = _
    rw [execCapturePop, whenClocked_of_clocked hclk]
    simp only [hfifo']
    exact ⟨_, rfl, rfl⟩
  obtain ⟨x, hx, hexec⟩ := hexec
  exact ⟨_, hexec, (congrArg CapSt.latchStat (s.cap_setCap n x)).trans hx, rfl⟩

end Captures

/-! ## The obligation -/

/-- Settles O37: the active domain by `revertHoldoffExpiry_due`, the slew by `slewComplete_met`, the reference by `externalRefLost_drops` and
`externalRefReturn_returns`, an output by `pulseEdge_places`, `pulseEdge_placed`, `pulseEdge_fires` and `pulseEdge_off`, an input by
`captureEdge_room`, `captureEdge_full`, `capturePop_record` and `capturePop_empty`. -/
theorem timeFollowsAndPulsesFire : Obligations.TimeFollowsAndPulsesFire := by
  unfold Obligations.TimeFollowsAndPulsesFire
  refine ⟨⟨fun s x => revertHoldoffExpiry_due, fun s => slewComplete_met, fun s => externalRefLost_drops, fun s => externalRefReturn_returns⟩,
    fun s n hn => ⟨fun x => pulseEdge_places, fun x => pulseEdge_placed, fun x => pulseEdge_fires hn, pulseEdge_off,
      fun rising hboth hnoref hserved => ?_, fun r rest => capturePop_record, capturePop_empty, fun hclk => whenClocked_of_clocked hclk _⟩⟩
  exact ⟨captureEdge_room hboth hnoref hserved, captureEdge_full hboth hnoref hserved⟩

end Sys2Proof.Machine
end

section
/-!
PROOFS. The audio ports (spec/11_audio.md; R324, R327 to R331; log entries 68 and 143): the frame that a receive port takes at a frame instant,
the frame syncs of an external clock, its loss and its return, and the measured rate.
-/

namespace Sys2Proof.Machine

/-! ## The status objects of a port (R338, R341) -/

/-- R326, R328: the object that counts a kind of slip: 1 a drop, 2 a repeat. -/
def slipKey (a kind : Nat) : Nat := if kind = 1 then K.audSlipDropCount a else K.audSlipRepeatCount a

@[simp] theorem keySub_audStatus (a : Nat) :
    keySub (K.audClockState a) = 1 ∧ keySub (K.audMeasuredRateMilliHz a) = 2 ∧ keySub (K.audFreqOffsetPpb a) = 3 ∧
      keySub (K.audMeasuredClass a) = 4 ∧ keySub (K.audSlipDropCount a) = 5 ∧ keySub (K.audSlipRepeatCount a) = 6 ∧
      keySub (K.audFifoLevel a) = 8 ∧ keySub (K.audLastSlipTime a) = 9 :=
  ⟨keySub_objKey _ 1, keySub_objKey _ 2, keySub_objKey _ 3, keySub_objKey _ 4, keySub_objKey _ 5, keySub_objKey _ 6, keySub_objKey _ 8,
    keySub_objKey _ 9⟩

section Shown

variable (s : State) (a : Nat)

@[simp] theorem State.showFifo_aport : (s.showFifo a).aport = s.aport := by
  unfold State.showFifo State.show
  split <;> rfl

theorem State.showFifo_nat {k : Nat} (hk : keySub k ≠ 8) : (s.showFifo a).nat k = s.nat k := by
  unfold State.showFifo State.show
  split
  · rfl
  · exact s.nat_setN_of_keySub _ (by simpa using hk.symm)

theorem State.raise_aport (e : Ev) : (s.raise e).aport = s.aport := by simp only [State.raise_accessors]

@[simp] theorem State.clockTo_aport (st : Nat) : (s.clockTo a st).aport = s.aport := by
  unfold State.clockTo
  extract_lets old shown
  split
  · rfl
  split
  · exact shown.raise_aport _
  · rfl

theorem State.clockTo_nat_of_keySub (st : Nat) {k : Nat} (hk : keySub k ≠ 1) : (s.clockTo a st).nat k = s.nat k := by
  have hshown : (s.setN (K.audClockState a) st).nat k = s.nat k := s.nat_setN_of_keySub _ (by simpa using hk.symm)
  unfold State.clockTo
  dsimp only
  split
  · rfl
  split
  · rw [State.raise_nat, hshown]
  · exact hshown

/-- R341: ClockState shows the state that the port's clock has come to. -/
theorem State.clockTo_clockState (st : Nat) : (s.clockTo a st).nat (K.audClockState a) = st := by
  unfold State.clockTo
  dsimp only
  split
  next h => exact h
  split
  · rw [State.raise_nat, State.nat_setN]
  · exact State.nat_setN _ _ _

@[simp] theorem State.nat_setAport (x : AudioSt) : (s.setAport a x).nat = s.nat := rfl

/-- A counter and an object set leave the ports. -/
@[simp] theorem State.set_aport (k : Nat) (v : Int) : (s.set k v).aport = s.aport := rfl
@[simp] theorem State.bump_aport (k : Nat) : (s.bump k).aport = s.aport := rfl
@[simp] theorem State.count_aport (c k : Nat) : (s.count c k).aport = s.aport := rfl

/-- R326, R328: the object and the counter of a slip, and its time. -/
def State.slipCounted (n kind : Nat) : State :=
  let s := (s.bump (slipKey a kind)).count (496 + 4 * a + kind) 1
  s.set (K.audLastSlipTime a) (time80 (frameInstant (s.nat (K.audSampleRate a)) n))

theorem State.slipCounted_aport (n kind : Nat) : (s.slipCounted a n kind).aport = s.aport := by
  unfold State.slipCounted
  exact (State.set_aport _ _ _).trans ((State.count_aport _ _ _).trans (s.bump_aport _))

theorem State.slipCounted_nat (n kind : Nat) :
    (s.slipCounted a n kind).nat (slipKey a kind) = (s.nat (slipKey a kind) + 1) % 2 ^ 32 := by
  unfold State.slipCounted
  rw [State.nat_set_of_keySub _ _ (by unfold slipKey; split <;> simp), State.nat_count, State.nat_bump]

theorem State.audioSlip_eq (n kind : Nat) : s.audioSlip a n kind =
    ((s.slipCounted a n kind).setAport a { (s.slipCounted a n kind).aport a with lastSlip := kind }).raiseLimited (417 + 4 * a)
      { src := 417 + 4 * a, unit := a } := rfl

theorem State.audioSlip_aport (n kind : Nat) : (s.audioSlip a n kind).aport a = { s.aport a with lastSlip := kind } := by
  rw [State.audioSlip_eq]
  simp only [State.raiseLimited_accessors, State.aport_setAport, State.slipCounted_aport]

theorem State.audioSlip_nat (n kind : Nat) :
    (s.audioSlip a n kind).nat (slipKey a kind) = (s.nat (slipKey a kind) + 1) % 2 ^ 32 := by
  rw [State.audioSlip_eq]
  simp only [State.raiseLimited_accessors, State.nat_setAport, State.slipCounted_nat]

end Shown

/-! ## A frame instant of a receive port (R324, R327, R328) -/

section Taken

variable (s : State) (a n : Nat)

/-- R288, R333: the streams that gather a frame move neither a port's state nor an object. -/
theorem State.gather_parts : (s.gather a n).aport = s.aport ∧ (s.gather a n).nat = s.nat := by
  refine Prod.mk.inj (foldl_view (view := fun s : State => (s.aport, s.nat)) (fun s i => ?_) _ s)
  extract_lets ports x k y z w
  split
  · rfl
  split
  · rfl
  · refine foldl_view (view := fun s : State => (s.aport, s.nat)) (fun u leg => ?_) _ { s with audio := { s.audio with streams := _ } }
    extract_lets p dst
    split
    · rfl
    · simp only [State.still_accessors (State.sendFrame_still u _)]

/-- R327: a port drives its balls and moves neither its state nor an object. -/
theorem State.drive_parts (out : SFrame) : (s.drive a n out).aport = s.aport ∧ (s.drive a n out).nat = s.nat := by
  unfold State.drive
  split <;> exact ⟨rfl, rfl⟩

/-- R324, R328: what becomes of the frame, or of the want of one, at frame n of a receive port. -/
def State.frameMoved (zero : SFrame) (f : Option SFrame) : State :=
  let out := f.getD zero
  let s := if f.isSome then s else s.zeroFrame a
  let s := s.setAport a { s.aport a with last := out }
  ((s.capture a n out).drive a n []).showFifo a

theorem State.frameMoved_aport (zero : SFrame) (f : Option SFrame) :
    (s.frameMoved a n zero f).aport a = { s.aport a with
      last := f.getD zero
      captured := AMap.put ((s.aport a).captured.filter fun e => decide (n < e.1 + 64)) n (f.getD zero) } := by
  have hzero : (if f.isSome then s else s.zeroFrame a).aport = s.aport := by split <;> rfl
  simp [State.frameMoved, State.capture, State.drive_parts, State.gather_parts, hzero]

theorem State.frameMoved_nat (zero : SFrame) (f : Option SFrame) {k : Nat} (hk : keySub k ≠ 8) :
    (s.frameMoved a n zero f).nat k = s.nat k := by
  have hzero : (if f.isSome then s else s.zeroFrame a).nat = s.nat := by split <;> rfl
  rw [State.frameMoved, State.showFifo_nat _ _ hk, (State.drive_parts _ _ _ _).2, State.capture, (State.gather_parts _ _ _).2]
  exact congrFun hzero k

/-- R328: how a FIFO that runs moves at frame n: one frame read, two with a drop, and none with a repeat. -/
def State.fifoMoved (kind : Nat) : State × Option SFrame :=
  let x := s.aport a
  match kind with
  | 2 => (s.audioSlip a n 2, some x.last)
  | 1 => ((s.setAport a { x with fifo := x.fifo.drop 2 }).audioSlip a n 1, (x.fifo.drop 1).head?)
  | _ => (s.setAport a { x with fifo := x.fifo.drop 1 }, x.fifo.head?)

theorem State.fifoMoved_read :
    s.fifoMoved a n 0 = (s.setAport a { s.aport a with fifo := (s.aport a).fifo.drop 1 }, (s.aport a).fifo.head?) := rfl

theorem State.fifoMoved_drop : s.fifoMoved a n 1 =
    ((s.setAport a { s.aport a with fifo := (s.aport a).fifo.drop 2 }).audioSlip a n 1, ((s.aport a).fifo.drop 1).head?) := rfl

theorem State.fifoMoved_repeat : s.fifoMoved a n 2 = (s.audioSlip a n 2, some (s.aport a).last) := rfl

/-- R328, R332: a port outside an aligned group, whose FIFO has been filled, decides by itself. -/
theorem State.fifoRead_running (hclock : s.nat (K.audClockState a) = 1) (hfilled : (s.aport a).filling = false)
    (halone : s.nat (K.audAudioGroup a) = 0) :
    s.fifoRead a n = (s.setAport a (s.aport a)).fifoMoved a n (slipIntent s a) := by
  have hintent : slipIntent (s.setAport a (s.aport a)) a = slipIntent s a := by
    unfold slipIntent
    rw [State.aport_setAport]
    rfl
  have hdecide : (s.setAport a (s.aport a)).decideSlip a n = (s.setAport a (s.aport a), slipIntent s a) := by
    rw [← hintent]
    exact if_pos (by exact Bool.or_eq_true_iff.mpr (.inl (decide_eq_true halone)))
  unfold State.fifoRead
  extract_lets x y t
  have hy : y = s.aport a := by
    dsimp only [y]
    split
    · rw [← hfilled]
    · rfl
  have ht : t = s.setAport a (s.aport a) := congrArg (s.setAport a) hy
  rw [if_neg (by simp [ht, hy, hclock, hfilled]), ht, hdecide]
  rfl

end Taken

/-- R324: the number of the frame instant, kept and counted. -/
def State.frameNumbered (s : State) (a n : Nat) : State := (s.setAport a { s.aport a with lastFrame := some n }).count (496 + 4 * a) 1

@[simp] theorem State.frameNumbered_aport (s : State) (a n : Nat) :
    (s.frameNumbered a n).aport a = { s.aport a with lastFrame := some n } := by
  rw [State.frameNumbered, State.count_aport, State.aport_setAport]

@[simp] theorem State.frameNumbered_nat (s : State) (a n : Nat) : (s.frameNumbered a n).nat = s.nat := rfl

section Receives

variable {s : State} {a : AudioPort} {samples : List Int} (hon : s.flag (K.audEnable a.val) = true) (hreceives : s.nat (K.audDirection a.val) = 0)
  (hnew : ∀ m, (s.aport a.val).lastFrame = some m → m < frameNumber s (s.nat (K.audSampleRate a.val))) (hserved : s.isFrozen 37 = false)
  (hsettled : (s.aport a.val).restAt = none)
include hon hreceives hnew hserved hsettled

/-- R324: a new frame instant of a receive port that is not at rest. -/
theorem execAudioFrameInstant_receives (hclk : s.boot.clocksLost = false) :
    let n := frameNumber s (s.nat (K.audSampleRate a.val))
    let u := s.frameNumbered a.val n
    let r := if s.nat (K.audClockMode a.val) == 1 then u.fifoRead a.val n else (u, some (s.wordsIn a.val samples))
    exec (.audioFrameInstant a samples) s = .next (r.1.frameMoved a.val n (List.replicate (s.nat (K.audSlots a.val)) 0) r.2) := by
  intro n u r
  have hsettled' : (atRest s a.val n || s.isFrozen 37) = false := by simp [atRest, hsettled, hserved]
  show execAudioFrameInstant a samples s = _
  rw [execAudioFrameInstant, whenClocked_of_clocked hclk]
  extract_lets a' fs n' x fresh slots zero rest t compat
  have hfresh : fresh = true := by
    dsimp only [fresh]
    split
    next m h => exact decide_eq_true (hnew m h)
    next => rfl
  have hrest : rest = false := hsettled'
  rw [if_neg (by simp [a', hon, hfresh]), if_pos (by exact hreceives), hrest]
  rfl

/-- R324: a native receive port takes the frame at its balls, with the instant's number. -/
theorem audioFrameInstant_native (hnative : s.nat (K.audClockMode a.val) = 0) : Completes (.audioFrameInstant a samples) s fun t =>
    (t.aport a.val).lastFrame = some (frameNumber s (s.nat (K.audSampleRate a.val))) ∧ (t.aport a.val).last = s.wordsIn a.val samples ∧
      AMap.find? (t.aport a.val).captured (frameNumber s (s.nat (K.audSampleRate a.val))) = some (s.wordsIn a.val samples) := fun hclk => by
  have hexec := execAudioFrameInstant_receives (samples := samples) hon hreceives hnew hserved hsettled hclk
  extract_lets n u r at hexec
  have hr : r = (u, some (s.wordsIn a.val samples)) := if_neg (by simp [hnative])
  have hmoved := r.1.frameMoved_aport a.val n (List.replicate (s.nat (K.audSlots a.val)) 0) r.2
  rw [hr, s.frameNumbered_aport] at hmoved
  rw [hr] at hexec
  refine ⟨_, hexec, ?_⟩
  simp only [hmoved]
  exact ⟨rfl, rfl, AMap.find?_put_self _ _ _⟩

section Compatible

variable (hcompat : s.nat (K.audClockMode a.val) = 1) (hclock : s.nat (K.audClockState a.val) = 1) (hfilled : (s.aport a.val).filling = false)
  (halone : s.nat (K.audAudioGroup a.val) = 0)
include hcompat hclock hfilled halone

/-- R328: a compatibility receive port whose FIFO runs moves it as the port's own level asks. -/
theorem execAudioFrameInstant_compatible (hclk : s.boot.clocksLost = false) : ∃ (u : State) (n : Nat) (zero : SFrame),
    (u.aport a.val).fifo = (s.aport a.val).fifo ∧ (u.aport a.val).last = (s.aport a.val).last ∧ u.nat = s.nat ∧
      exec (.audioFrameInstant a samples) s = .next ((u.fifoMoved a.val n (slipIntent s a.val)).1.frameMoved a.val n zero
        (u.fifoMoved a.val n (slipIntent s a.val)).2) := by
  have hexec := execAudioFrameInstant_receives (samples := samples) hon hreceives hnew hserved hsettled hclk
  extract_lets n u r at hexec
  have hport : u.aport a.val = { s.aport a.val with lastFrame := some n } := s.frameNumbered_aport a.val n
  have hnat : u.nat = s.nat := s.frameNumbered_nat a.val n
  have hintent : slipIntent u a.val = slipIntent s a.val := by rw [slipIntent, hport, hnat, slipIntent]
  have hread : u.fifoRead a.val n = (u.setAport a.val (u.aport a.val)).fifoMoved a.val n (slipIntent s a.val) := by
    rw [← hintent]
    exact u.fifoRead_running a.val n (by rw [hnat, hclock]) (by rw [hport, hfilled]) (by rw [hnat, halone])
  have hr : r = _ := (if_pos (by simp [hcompat])).trans hread
  rw [hr] at hexec
  exact ⟨_, n, _, by rw [State.aport_setAport, hport], by rw [State.aport_setAport, hport], (u.nat_setAport _ _).trans hnat, hexec⟩

/-- R328: within FifoCentre ± FifoHysteresis one frame is read. -/
theorem audioFrameInstant_reads (hintent : slipIntent s a.val = 0) : Completes (.audioFrameInstant a samples) s fun t =>
    (t.aport a.val).fifo = (s.aport a.val).fifo.drop 1 ∧ t.nat (K.audSlipDropCount a.val) = s.nat (K.audSlipDropCount a.val) := fun hclk => by
  obtain ⟨u, n, zero, hfifo, -, hnat, hexec⟩ := execAudioFrameInstant_compatible (samples := samples) hon hreceives hnew hserved hsettled
    hcompat hclock hfilled halone hclk
  rw [hintent] at hexec
  refine ⟨_, hexec, ?_, ?_⟩
  · rw [State.frameMoved_aport, ← hfifo, State.fifoMoved_read, State.aport_setAport]
  · rw [State.frameMoved_nat _ _ _ _ _ (by simp), ← hnat]
    rfl

/-- R328: above FifoCentre + FifoHysteresis one frame more is dropped, and counted. -/
theorem audioFrameInstant_drops (hintent : slipIntent s a.val = 1) : Completes (.audioFrameInstant a samples) s fun t =>
    (t.aport a.val).fifo = (s.aport a.val).fifo.drop 2 ∧
      t.nat (K.audSlipDropCount a.val) = (s.nat (K.audSlipDropCount a.val) + 1) % 2 ^ 32 := fun hclk => by
  obtain ⟨u, n, zero, hfifo, -, hnat, hexec⟩ := execAudioFrameInstant_compatible (samples := samples) hon hreceives hnew hserved hsettled
    hcompat hclock hfilled halone hclk
  rw [hintent] at hexec
  refine ⟨_, hexec, ?_, ?_⟩
  · rw [State.frameMoved_aport, ← hfifo, State.fifoMoved_drop, State.audioSlip_aport, State.aport_setAport]
  · rw [State.frameMoved_nat _ _ _ _ _ (by simp), ← hnat]
    exact State.audioSlip_nat _ _ _ 1

/-- R328: below FifoCentre − FifoHysteresis the last frame is repeated, and counted. -/
theorem audioFrameInstant_repeats (hintent : slipIntent s a.val = 2) : Completes (.audioFrameInstant a samples) s fun t =>
    (t.aport a.val).fifo = (s.aport a.val).fifo ∧ (t.aport a.val).last = (s.aport a.val).last ∧
      t.nat (K.audSlipRepeatCount a.val) = (s.nat (K.audSlipRepeatCount a.val) + 1) % 2 ^ 32 := fun hclk => by
  obtain ⟨u, n, zero, hfifo, hlast, hnat, hexec⟩ := execAudioFrameInstant_compatible (samples := samples) hon hreceives hnew hserved hsettled
    hcompat hclock hfilled halone hclk
  rw [hintent] at hexec
  refine ⟨_, hexec, ?_, ?_, ?_⟩
  · rw [State.frameMoved_aport, ← hfifo, State.fifoMoved_repeat, State.audioSlip_aport]
  · rw [State.frameMoved_aport, ← hlast]
    rfl
  · rw [State.frameMoved_nat _ _ _ _ _ (by simp), ← hnat]
    exact State.audioSlip_nat _ _ _ 2

end Compatible

end Receives

/-! ## The external clock (R327, R329; log entry 143) -/

/-- R329, R341: a port in a new state, its ClockState and its FifoLevel shown. -/
def State.clockMoved (s : State) (a : Nat) (x : AudioSt) (st : Nat) : State := ((s.setAport a x).clockTo a st).showFifo a

@[simp] theorem State.clockMoved_aport (s : State) (a : Nat) (x : AudioSt) (st : Nat) : (s.clockMoved a x st).aport a = x := by
  rw [State.clockMoved, State.showFifo_aport, State.clockTo_aport, State.aport_setAport]

@[simp] theorem State.clockMoved_clockState (s : State) (a : Nat) (x : AudioSt) (st : Nat) :
    (s.clockMoved a x st).nat (K.audClockState a) = st := by
  rw [State.clockMoved, State.showFifo_nat _ _ (by simp), State.clockTo_clockState]

theorem State.clockMoved_measuredClass (s : State) (a : Nat) (x : AudioSt) (st : Nat) :
    (s.clockMoved a x st).nat (K.audMeasuredClass a) = s.nat (K.audMeasuredClass a) := by
  rw [State.clockMoved, State.showFifo_nat _ _ (by simp), State.clockTo_nat_of_keySub _ _ _ (by simp), State.nat_setAport]

@[simp] theorem State.wordsIn_setAport (s : State) (a : Nat) (x : AudioSt) : (s.setAport a x).wordsIn = s.wordsIn := by
  funext b samples
  rw [State.wordsIn, State.nat_setAport, State.wordsIn]

/-- R329: whether a frame sync of a port comes four frame periods or more after the last. -/
def syncGap (s : State) (a : Nat) : Bool := passed s (s.aport a).lastSync (4 * frameInstant (s.nat (K.audSampleRate a)) 1)

/-- R329, R330: a port after a frame sync, with its place in the run of syncs and in the second that is measured. -/
def syncedPort (s : State) (a : Nat) : AudioSt :=
  let x := s.aport a
  { x with
    lastSync := s.clk.ticks, syncRun := if syncGap s a then 1 else x.syncRun + 1, edges := x.edges + 1
    firstEdge := if x.edges = 0 then nowNs s else x.firstEdge, lastEdge := nowNs s }

section External

variable {s : State} {a : AudioPort} {samples : List Int} (hon : s.flag (K.audEnable a.val) = true) (hcompat : s.nat (K.audClockMode a.val) = 1)
include hon hcompat

section Fills

variable (hclock : s.nat (K.audClockState a.val) = 1) (hreceives : s.nat (K.audDirection a.val) = 0)
include hclock hreceives

/-- R327, R328: a frame sync of a receive port whose clock runs fills the FIFO where it has room. -/
theorem execAudioExtFrameSync_receives (hclk : s.boot.clocksLost = false) :
    let x := syncedPort s a.val
    let u := s.setAport a.val x
    exec (.audioExtFrameSync a samples) s = .next (if x.fifo.length < 32 then
      (u.setAport a.val { x with fifo := x.fifo ++ [u.wordsIn a.val samples] }).showFifo a.val else u) := by
  intro x u
  show execAudioExtFrameSync a samples s = _
  rw [execAudioExtFrameSync, whenClocked_of_clocked hclk, if_neg (by simp [hon, hcompat])]
  exact (if_neg (by simp [State.nat_setAport, hclock])).trans (if_pos (by rw [State.nat_setAport, hreceives]))

theorem audioExtFrameSync_room (hroom : (s.aport a.val).fifo.length < 32) : Completes (.audioExtFrameSync a samples) s fun t =>
    (t.aport a.val).fifo = (s.aport a.val).fifo ++ [s.wordsIn a.val samples] ∧ (t.aport a.val).edges = (s.aport a.val).edges + 1 := fun hclk => by
  have hexec := execAudioExtFrameSync_receives (samples := samples) hon hcompat hclock hreceives hclk
  extract_lets x u at hexec
  rw [if_pos (by exact hroom), State.wordsIn_setAport] at hexec
  refine ⟨_, hexec, ?_⟩
  simp only [State.showFifo_aport, State.aport_setAport]
  exact ⟨rfl, rfl⟩

theorem audioExtFrameSync_full (hfull : 32 ≤ (s.aport a.val).fifo.length) : Completes (.audioExtFrameSync a samples) s fun t =>
    (t.aport a.val).fifo = (s.aport a.val).fifo := fun hclk => by
  have hexec := execAudioExtFrameSync_receives (samples := samples) hon hcompat hclock hreceives hclk
  extract_lets x u at hexec
  rw [if_neg (by exact Nat.not_lt.mpr hfull)] at hexec
  exact ⟨_, hexec, (congrArg AudioSt.fifo (s.aport_setAport a.val x) :)⟩

end Fills

/-- R329: after 256 frame syncs in a row a lost clock of the right class is back, and the FIFO is filled anew. -/
theorem audioExtFrameSync_returns (hlost : s.nat (K.audClockState a.val) = 2)
    (hclass : s.nat (K.audMeasuredClass a.val) = s.nat (K.audSampleRate a.val)) (hrun : 255 ≤ (s.aport a.val).syncRun)
    (hgap : syncGap s a.val = false) : Completes (.audioExtFrameSync a samples) s fun t =>
      t.nat (K.audClockState a.val) = 1 ∧ (t.aport a.val).fifo = [] ∧ (t.aport a.val).filling = true := fun hclk => by
  let u := s.setAport a.val (syncedPort s a.val)
  have hnat : u.nat = s.nat := s.nat_setAport _ _
  have hsyncs : 256 ≤ (u.aport a.val).syncRun := by
    simp only [u, State.aport_setAport, syncedPort, hgap]
    exact Nat.succ_le_succ hrun
  have hback : u.clockBack a.val = u.clockMoved a.val { u.aport a.val with fifo := [], filling := true } 1 := by
    unfold State.clockBack
    exact if_pos (by simp [hnat, hlost, hclass, hsyncs])
  have hexec : exec (.audioExtFrameSync a samples) s = .next (u.clockBack a.val) := by
    show execAudioExtFrameSync a samples s = _
    rw [execAudioExtFrameSync, whenClocked_of_clocked hclk, if_neg (by simp [hon, hcompat])]
    exact if_pos (by simp [State.nat_setAport, hlost])
  exact ⟨_, hexec, by simp [hback]⟩

/-- R329: without a frame sync for four frame periods the clock is lost. -/
theorem audioClockLost_lost (hclock : s.nat (K.audClockState a.val) = 1) (hgap : syncGap s a.val = true) :
    Completes (.audioClockLost a) s fun t =>
      t.nat (K.audClockState a.val) = 2 ∧ (t.aport a.val).fifo = [] ∧ (t.aport a.val).filling = true := fun hclk => by
  have hgap' : passed s (s.aport a.val).lastSync (4 * frameInstant (s.nat (K.audSampleRate a.val)) 1) = true := hgap
  have hexec : exec (.audioClockLost a) s =
      .next (s.clockMoved a.val { s.aport a.val with fifo := [], filling := true, syncRun := 0 } 2) := by
    show execAudioClockLost a s = _
    rw [execAudioClockLost, whenClocked_of_clocked hclk]
    exact if_neg (by simp [hon, hcompat, hclock, hgap'])
  exact ⟨_, hexec, by simp⟩

end External

/-! ## The measured rate (R330, R331) -/

/-- R330: the measurement of the bindings leaves the objects of the ports. -/
theorem State.measureBinding_obj (s : State) (ports : List Nat) (i : Nat) {k : Nat} (hk : keyIdx k < 0x6600) :
    (s.measureBinding ports i).obj k = s.obj k := by
  have hoffset : keyIdx (K.abindFreqOffsetPpb i) = 0x6601 + 0x10 * i := keyIdx_objKey _ (by decide)
  have hclass : keyIdx (K.abindMeasuredClass i) = 0x6601 + 0x10 * i := keyIdx_objKey _ (by decide)
  unfold State.measureBinding
  extract_lets x fs adv mhz cls old u
  have hu : u.obj k = s.obj k :=
    (State.obj_set_ne _ _ (key_ne_of_keyIdx (by omega))).trans (State.obj_set_ne _ _ (key_ne_of_keyIdx (by omega)))
  split
  · exact hu
  · exact (foldl_view (view := fun u : State => u.obj k) (fun u a => by simp) ports u).trans hu

/-- R330: port a and the bindings that are measured with it at the end of a whole second. -/
def State.secondEnded (s : State) (a : Nat) : State :=
  let u := s.setAport a { s.aport a with measured := some (nowNs s / 1000000000), edges := 0 }
  (measuredWith u a).foldl (fun s i => s.measureBinding (fedBy s i) i) u

theorem State.secondEnded_obj (s : State) (a : Nat) {k : Nat} (hk : keyIdx k < 0x6600) : (s.secondEnded a).obj k = s.obj k :=
  foldl_view (view := fun u : State => u.obj k) (fun u i => u.measureBinding_obj (fedBy u i) i hk) _ _

/-- R330: the end of a second leaves what port a is set to and the state of its clock. -/
theorem State.secondEnded_parts (s : State) (a : AudioPort) :
    (s.secondEnded a.val).flag (K.audEnable a.val) = s.flag (K.audEnable a.val) ∧
      (s.secondEnded a.val).nat (K.audClockMode a.val) = s.nat (K.audClockMode a.val) ∧
      (s.secondEnded a.val).nat (K.audClockState a.val) = s.nat (K.audClockState a.val) := by
  have hset (sub : Nat) (hsub : sub < 256) : keyIdx (objKey (0x6400 + 0x10 * a.val) sub) < 0x6600 := by
    rw [keyIdx_objKey _ hsub]
    omega
  have hshown : keyIdx (K.audClockState a.val) < 0x6600 := by
    rw [K.audClockState, keyIdx_objKey _ (by decide)]
    omega
  simp only [State.flag, State.nat, s.secondEnded_obj a.val (hset 1 (by decide)), s.secondEnded_obj a.val (hset 8 (by decide)),
    s.secondEnded_obj a.val hshown, K.audEnable, K.audClockMode, and_self]

theorem State.secondEnded_enabled {s : State} {a : AudioPort} (hon : s.flag (K.audEnable a.val) = true) :
    ¬(!(s.secondEnded a.val).flag (K.audEnable a.val)) = true := by
  obtain ⟨hflag, -⟩ := s.secondEnded_parts a
  simp [hflag, hon]

/-- R330, R341: a port's measured rate, offset and class, shown; a change of the class is raised. -/
def State.rateShown (s : State) (a mhz : Nat) (offset : Int) (cls : Nat) : State :=
  let t := ((s.setN (K.audMeasuredRateMilliHz a) mhz).set (K.audFreqOffsetPpb a) offset).setN (K.audMeasuredClass a) cls
  if s.nat (K.audMeasuredClass a) = cls then t else t.raise { src := 418 + 4 * a, unit := a }

theorem State.rateShown_parts (s : State) (a mhz : Nat) (offset : Int) (cls : Nat) :
    (s.rateShown a mhz offset cls).nat (K.audMeasuredRateMilliHz a) = mhz ∧ (s.rateShown a mhz offset cls).int (K.audFreqOffsetPpb a) = offset ∧
      (s.rateShown a mhz offset cls).nat (K.audMeasuredClass a) = cls ∧
      (s.rateShown a mhz offset cls).nat (K.audClockState a) = s.nat (K.audClockState a) := by
  unfold State.rateShown
  extract_lets t
  have hrate : t.nat (K.audMeasuredRateMilliHz a) = mhz := by
    rw [State.nat_setN_of_keySub _ _ (by simp), State.nat_set_of_keySub _ _ (by simp), State.nat_setN]
  have hoffset : t.int (K.audFreqOffsetPpb a) = offset :=
    (State.int_set_ne _ _ fun h => absurd (congrArg keySub h) (by simp)).trans (State.int_set _ _ _)
  have hclass : t.nat (K.audMeasuredClass a) = cls := State.nat_setN _ _ _
  have hclock : t.nat (K.audClockState a) = s.nat (K.audClockState a) := by
    rw [State.nat_setN_of_keySub _ _ (by simp), State.nat_set_of_keySub _ _ (by simp), State.nat_setN_of_keySub _ _ (by simp)]
  clear_value t
  split
  · exact ⟨hrate, hoffset, hclass, hclock⟩
  · simp only [State.raise_accessors]
    exact ⟨hrate, hoffset, hclass, hclock⟩

/-- R330: the rate of the frame syncs of the second that ends, mHz. -/
def syncRate (x : AudioSt) : Nat :=
  if 2 ≤ x.edges && decide (x.firstEdge < x.lastEdge) then (x.edges - 1) * 1000000000000 / (x.lastEdge - x.firstEdge) else 0

section Measured

variable {s : State} {a : AudioPort} (hdue : (s.aport a.val).measured ≠ some (nowNs s / 1000000000)) (hon : s.flag (K.audEnable a.val) = true)
include hdue hon

/-- R330: a native port runs at its SampleRate. -/
theorem rateMeasurement_native (hnative : s.nat (K.audClockMode a.val) = 0) : Completes (.rateMeasurement a) s fun t =>
    t.nat (K.audMeasuredRateMilliHz a.val) = 1000 * s.nat (K.audSampleRate a.val) ∧ t.int (K.audFreqOffsetPpb a.val) = 0 ∧
      t.nat (K.audMeasuredClass a.val) = s.nat (K.audSampleRate a.val) := fun hclk => by
  obtain ⟨-, hmode, -⟩ := s.secondEnded_parts a
  have hexec : exec (.rateMeasurement a) s =
      .next ((s.secondEnded a.val).rateShown a.val (1000 * s.nat (K.audSampleRate a.val)) 0 (s.nat (K.audSampleRate a.val))) := by
    show execRateMeasurement a s = _
    rw [execRateMeasurement, whenClocked_of_clocked hclk]
    exact (if_neg hdue).trans ((if_neg (State.secondEnded_enabled hon)).trans (if_pos (by exact hmode.trans hnative)))
  obtain ⟨hrate, hoffset, hclass, -⟩ := (s.secondEnded a.val).rateShown_parts a.val (1000 * s.nat (K.audSampleRate a.val)) 0
    (s.nat (K.audSampleRate a.val))
  exact ⟨_, hexec, hrate, hoffset, hclass⟩

section Compatible

variable (hcompat : s.nat (K.audClockMode a.val) = 1)
include hcompat

/-- R330, R331: a compatibility port is measured by its frame syncs; its clock comes back, or is of another rate. -/
theorem execRateMeasurement_compatible (hclk : s.boot.clocksLost = false) :
    let mhz := syncRate (s.aport a.val)
    let fs := s.nat (K.audSampleRate a.val)
    let u := (s.secondEnded a.val).rateShown a.val (mhz % 2 ^ 32) (rateOffset mhz fs) (rateClass mhz)
    exec (.rateMeasurement a) s = if rateClass mhz = fs then .next (u.clockBack a.val)
      else if u.nat (K.audClockState a.val) = 1 then
        .next (u.clockMoved a.val { u.aport a.val with fifo := [], filling := true, syncRun := 0 } 3)
      else .next u := by
  intro mhz fs u
  obtain ⟨-, hmode, -⟩ := s.secondEnded_parts a
  show execRateMeasurement a s = _
  rw [execRateMeasurement, whenClocked_of_clocked hclk]
  exact (if_neg hdue).trans ((if_neg (State.secondEnded_enabled hon)).trans (if_neg (by exact fun h => absurd (hmode.symm.trans h) (by simp [hcompat]))))

/-- R330, R331: a compatibility port without a frame sync in the second has no class, and its clock is of another rate. -/
theorem rateMeasurement_mismatch (hnone : (s.aport a.val).edges = 0) (hrate : s.nat (K.audSampleRate a.val) ≠ 0)
    (hclock : s.nat (K.audClockState a.val) = 1) : Completes (.rateMeasurement a) s fun t =>
      t.nat (K.audMeasuredClass a.val) = 0 ∧ t.nat (K.audClockState a.val) = 3 := fun hclk => by
  have hexec := execRateMeasurement_compatible hdue hon hcompat hclk
  extract_lets mhz fs u at hexec
  have hmhz : mhz = 0 := if_neg (by simp [hnone])
  have hcls : rateClass mhz = 0 := by rw [hmhz]; decide
  obtain ⟨-, -, hstate⟩ := s.secondEnded_parts a
  obtain ⟨-, -, hclass, hkept⟩ := (s.secondEnded a.val).rateShown_parts a.val (mhz % 2 ^ 32) (rateOffset mhz fs) (rateClass mhz)
  rw [if_neg (by rw [hcls]; exact hrate.symm), if_pos (by exact hkept.trans (hstate.trans hclock))] at hexec
  exact ⟨_, hexec, (u.clockMoved_measuredClass _ _ _).trans (hclass.trans hcls), u.clockMoved_clockState _ _ _⟩

end Compatible

end Measured

/-! ## The obligation -/

/-- Settles O38: a frame instant by `audioFrameInstant_native`, `audioFrameInstant_reads`, `audioFrameInstant_drops` and
`audioFrameInstant_repeats`, a frame sync by `audioExtFrameSync_room`, `audioExtFrameSync_full` and `audioExtFrameSync_returns`, the loss of
the clock by `audioClockLost_lost`, the measured rate by `rateMeasurement_native` and `rateMeasurement_mismatch`. -/
theorem audioPortsRun : Obligations.AudioPortsRun := by
  unfold Obligations.AudioPortsRun
  refine fun s a => ⟨fun samples hon hreceives hnew hserved hsettled => ?_, fun samples hon hcompat hclock hreceives => ?_,
    fun samples => audioExtFrameSync_returns, audioClockLost_lost, fun hdue hon => ?_⟩
  · exact ⟨audioFrameInstant_native hon hreceives hnew hserved hsettled, fun hcompat hclock hfilled halone =>
      ⟨audioFrameInstant_reads hon hreceives hnew hserved hsettled hcompat hclock hfilled halone,
        audioFrameInstant_drops hon hreceives hnew hserved hsettled hcompat hclock hfilled halone,
        audioFrameInstant_repeats hon hreceives hnew hserved hsettled hcompat hclock hfilled halone⟩⟩
  · exact ⟨audioExtFrameSync_room hon hcompat hclock hreceives, audioExtFrameSync_full hon hcompat hclock hreceives⟩
  · exact ⟨rateMeasurement_native hdue hon, rateMeasurement_mismatch hdue hon⟩

end Sys2Proof.Machine
end

section
/-!
PROOFS. Resets (spec/15_startup_config.md, spec/16_selvedge_update.md; R410, R411, R445, R465, R467, R468, R501, R503): what each reset leaves, the
warm resets of the Selvedge, and the machine right after a power-on reset.
-/

namespace Sys2Proof.Machine

/-! ## Resets -/

theorem State.afterReset_afresh (s : State) (cause : Nat) (warm : Bool) : Afresh s (s.afterReset cause warm) := by
  cases warm <;> exact ⟨rfl, rfl, rfl, rfl, rfl, rfl, rfl, rfl, rfl, rfl⟩

@[simp] theorem State.afterReset_resetCause (s : State) (cause : Nat) (warm : Bool) :
    (s.afterReset cause warm).nat K.bootResetCause = cause := by
  rw [State.afterReset, State.nat_setN]

/-- R468: a power-on reset keeps no entry of the Mending Log. -/
theorem State.afterReset_powerOn (s : State) :
    Afresh s (s.afterReset 0 false) ∧ (s.afterReset 0 false).log.entries = [] ∧ (s.afterReset 0 false).nat K.bootResetCause = 0 :=
  ⟨s.afterReset_afresh 0 false, rfl, s.afterReset_resetCause 0 false⟩

/-- R410, R468: a warm reset keeps the entries of the Mending Log. -/
theorem State.warm_leaves (s : State) (cause : Nat) :
    Afresh s (s.warm cause) ∧ (s.warm cause).log.entries = s.log.entries ∧ (s.warm cause).nat K.bootResetCause = cause :=
  ⟨s.afterReset_afresh cause true, rfl, s.afterReset_resetCause cause true⟩

/-- R467: the Selvedge's warm reset leaves a device started afresh, with ResetCause 3. -/
theorem State.warm_selvedge (s : State) : Afresh s (s.warm 3) ∧ (s.warm 3).nat K.bootResetCause = 3 :=
  ⟨s.afterReset_afresh 3 true, s.afterReset_resetCause 3 true⟩

/-- R465, R467: the safe states that no DeviceReset leaves. -/
theorem resetTaken_of_held {s : State} (hsafe : s.log.safe = true)
    (h : 2 ≤ s.log.safeCause ∧ s.log.safeCause ≤ 4 ∨ s.log.safeCause = 5 ∧ 950 ≤ s.int K.govJunctionMax) : resetTaken s = false := by
  rcases h with ⟨h2, h4⟩ | ⟨h5, ht⟩
  · simp [resetTaken, hsafe, h2, h4]
  · simp [resetTaken, hsafe, h5, ht]

theorem execWarmReset_deviceReset_of_not_taken {s : State} (h : resetTaken s = false) : execWarmReset .deviceReset s = .next s := by
  rw [execWarmReset]
  cases s.boot.resetAsked with
  | none => rfl
  | some asked => simp [h]

/-- Settles O1: every reset but a power-down is `State.afterReset`, and the guards decide whether it is made. -/
theorem resetsStartAfresh : Obligations.ResetsStartAfresh := by
  refine ⟨fun s lowNs hlow => ?_, fun s lowNs hlow => ?_, fun s asked hasked htaken hpassed => ?_, fun s hsafe => ?_,
    fun s => ⟨_, rfl, s.afterReset_powerOn⟩, fun s => ⟨_, rfl, rfl, rfl, rfl, rfl, rfl, rfl, rfl, rfl, rfl⟩, fun s hsafe hheld => ?_,
    fun s lowNs hlow => ⟨?_, ?_⟩⟩
  · exact ⟨_, if_neg (Nat.not_lt.mpr hlow), s.afterReset_powerOn⟩
  · exact ⟨_, if_neg (Nat.not_lt.mpr hlow), s.warm_leaves 1⟩
  · refine ⟨s.warm 2, ?_, s.warm_leaves 2⟩
    show execWarmReset .deviceReset s = _
    simp [execWarmReset, hasked, htaken, hpassed]
  · refine ⟨s.warm 3, ?_, s.warm_leaves 3⟩
    show execWarmReset .selvedge s = _
    simp [execWarmReset, hsafe]
  · exact execWarmReset_deviceReset_of_not_taken (resetTaken_of_held hsafe hheld)
  · exact if_pos hlow
  · exact if_pos hlow

/-- BootCount is not read for the choice of the governing selector (R442). -/
theorem governing_bootCount (f : Flash) (n : Nat) : governing { f with bootCount := n } = governing f := rfl

/-- R467, R382: SAFE_STATE_RESET_EXPIRY resets once one of its two waits is over. -/
theorem execSafeStateResetExpiry_of_due {s : State} (hn : 0 < s.nat K.logSafeStateResetS)
    (hdue : (s.log.safe && (s.log.safeCause == 1 || (s.log.safeCause == 5 && decide (s.int K.govJunctionMax < 950)))
        && passed s s.log.safeSince (s.nat K.logSafeStateResetS * 1000000000)
      || !s.log.safe && s.beam.failed && passed s s.beam.failedSince (s.nat K.logSafeStateResetS * 1000000000)) = true) :
    execSafeStateResetExpiry s = .next (s.warm 3) := by
  have hne : (s.nat K.logSafeStateResetS != 0) = true := bne_iff_ne.mpr (Nat.ne_of_gt hn)
  rw [execSafeStateResetExpiry]
  exact if_pos (by rw [hne, hdue]; rfl)

/-- Settles O3: each condition of the Selvedge's own warm resets lets the command reach `State.warm 3`. -/
theorem selvedgeWarmResets : Obligations.SelvedgeWarmResets := by
  refine ⟨fun s at_ hat hdue hsafe hclk => ?_, fun s htrial hbolt hstay hsafe hpassed hclk => ?_, fun s hsafe hcause hn hpassed => ?_,
    fun s hsafe hcause hcool hn hpassed => ?_, fun s hsafe hfailed hn hpassed => ?_, fun s hn => ?_⟩
  · refine ⟨State.warm { s with flash := writeSelector s.flash (inactiveSlot s) 1 } 3, ?_, State.afterReset_resetCause _ _ _, rfl,
      governing_bootCount _ _⟩
    show execActivationInstant s = _
    rw [execActivationInstant, whenClocked_of_clocked hclk]
    simp [hat, hsafe, Nat.not_lt.mpr hdue]
  · refine ⟨s.warm 3, ?_, s.warm_selvedge⟩
    show execTrialBoltReadyTimeout s = _
    rw [execTrialBoltReadyTimeout, whenClocked_of_clocked hclk]
    simp [htrial, hbolt, hstay, hsafe, hpassed]
  · exact ⟨s.warm 3, execSafeStateResetExpiry_of_due hn (by simp [hsafe, hcause, hpassed]), s.warm_selvedge⟩
  · exact ⟨s.warm 3, execSafeStateResetExpiry_of_due hn (by simp [hsafe, hcause, hcool, hpassed]), s.warm_selvedge⟩
  · exact ⟨s.warm 3, execSafeStateResetExpiry_of_due hn (by simp [hsafe, hfailed, hpassed]), s.warm_selvedge⟩
  · show execSafeStateResetExpiry s = _
    simp [execSafeStateResetExpiry, hn]

/-- Settles O57, part by part: every part of the state but the log has its default. -/
theorem resetLeaves : Obligations.ResetLeaves := by
  refine ⟨rfl, ⟨rfl, rfl⟩, rfl, rfl, rfl, fun _ => rfl, fun _ => rfl, fun _ => rfl, rfl, rfl, by decide, rfl, ⟨_, rfl, rfl⟩, rfl, by decide,
    fun m => ?_, rfl, rfl, rfl, rfl⟩
  exact (bit_eq_testBit _ _).trans (Nat.zero_testBit m)

end Sys2Proof.Machine
end

section
/-!
PROOFS. Two statements that a state refutes (spec/12_lanes.md, R353, R356, R268; spec/16_selvedge_update.md, R449, R25): a SoakNotice that corrects
the shown state of a chain port, and a Request that waits with its producer.
-/

namespace Sys2Proof.Machine

/-! ## A SoakNotice where the chain port's shown state is behind its lanes -/

/-- A weft lane that is Up, and an upstream chain port whose shown state is not the one that its lanes give. -/
def staleChainState : State :=
  ((State.reset.setN (K.quadQuadMode 0) 4).setN K.chainUpState 1).setLane 0 { mode := .up }

/-- The value that stands for the upstream chain port's state after a command, where it answers a next state. -/
def upStateAfter (i : Instr) (s : State) : Option (Option Val) :=
  match exec i s with
  | .next t => some (AMap.find? t.objs K.chainUpState)
  | _ => none

theorem upStateAfter_soakNotice : upStateAfter (.weftBlockReceived 0 ⟨2, 0x33⟩) staleChainState = some (some (.int 0)) := by
  decide +kernel

theorem staleChainState_upState : AMap.find? staleChainState.objs K.chainUpState = some (.int 1) := by decide +kernel

/-- Refutes O39: with the SoakNotice the chain ports' states follow their lanes too (R268), which sets a shown state that is behind: the
objects do not stay as they were. -/
theorem not_lanesAlign : ¬ Obligations.LanesAlign := by
  unfold Obligations.LanesAlign
  intro h
  obtain ⟨-, -, -, -, hblocks, -, -⟩ := h staleChainState 0 (by decide +kernel)
  obtain ⟨-, -, hnotice⟩ := hblocks 2 0x33 rfl
  obtain ⟨t, hexec, -, -, hobjs⟩ := hnotice (by decide +kernel) (fun _ hh => nomatch hh) (by decide) rfl
  have hafter := upStateAfter_soakNotice
  simp only [upStateAfter, hexec, hobjs, staleChainState_upState] at hafter
  exact absurd hafter (by decide)

/-! ## A block asked for again while the lane's descriptors are taken (R25) -/

/-- A transfer from the upstream neighbour with its one block asked for. -/
def oneBlockTransfer : Transfer :=
  { from_ := 0, id := 0, slot := 0, header := [], blocks := 1, outstanding := [(0, 0, 0)], nextAsk := 1 }

/-- That transfer 100 ms after its Request, while messages hold all 32 descriptors of the upstream lane. -/
def fullLaneState : State :=
  let s := State.reset
  { s with
    clk := { s.clk with ticks := 24000000 }
    boot := { s.boot with transfer := some oneBlockTransfer }
    net := { s.net with chain := { upPort := { queue := List.replicate 32 { cls := 4, bytes := [] } } } } }

/-- How many messages hold a descriptor of the upstream lane after a command, where it answers a next state. -/
def upQueueAfter (i : Instr) (s : State) : Option Nat :=
  match exec i s with
  | .next t => some t.net.chain.upPort.queue.length
  | _ => none

theorem upQueueAfter_timeout : upQueueAfter (.blockRequestTimeout 0) fullLaneState = some 32 := by decide +kernel

/-- Refutes O55: a message that finds the lane's 32 descriptors taken waits with its producer (R25), so a Request that is sent again does not
stand at the end of the queue. -/
theorem not_imagesCrossTheChain : ¬ Obligations.ImagesCrossTheChain := by
  unfold Obligations.ImagesCrossTheChain
  intro h
  obtain ⟨-, -, -, -, -, -, -, htimeout⟩ := h fullLaneState 0 []
  obtain ⟨hagain, -⟩ := htimeout oneBlockTransfer 0 0 0 rfl rfl rfl (by decide)
  obtain ⟨t, hexec, -, hsends⟩ := hagain (by decide) rfl
  have hlen : t.net.chain.upPort.queue.length = 33 := (congrArg List.length hsends).trans rfl
  have hafter := upQueueAfter_timeout
  simp only [upQueueAfter, hexec, hlen] at hafter
  exact absurd hafter (by decide)

end Sys2Proof.Machine
end

section
/-!
PROOFS. What the end of a row and the stop of a loom leave (spec/05_loom_encoding.md, spec/17_faults_log.md; R151, R172 to R178, R184, R240, R438):
they move the objects, the video path, the network, the counters and the supply's gating, and nothing else beyond what their events do.
-/

namespace Sys2Proof.Machine

/-! ## The state beside the rows -/

/-- A state without what rows, looms and events move: the objects, the video path, the network, the counters, the gating of the looms' supply,
the free values, and what an event changes (`State.still`). -/
def State.besideRows (s : State) : State :=
  { s.still with objs := [], video := {}, net := {}, pmc := {}, power := { s.power with gateAt := none }, freeCtr := 0 }

theorem State.besideRows_of_still {s t : State} (h : t.still = s.still) : t.besideRows = s.besideRows := by
  have hpower : t.power = s.power := (congrArg State.power h :)
  rw [State.besideRows, h, hpower, State.besideRows]

@[simp] theorem State.raise_besideRows (s : State) (e : Ev) : (s.raise e).besideRows = s.besideRows :=
  State.besideRows_of_still (State.raise_still s e)

@[simp] theorem State.raiseLimited_besideRows (s : State) (key : Nat) (e : Ev) : (s.raiseLimited key e).besideRows = s.besideRows :=
  State.besideRows_of_still (State.raiseLimited_still s key e)

@[simp] theorem State.set_besideRows (s : State) (k : Nat) (v : Int) : (s.set k v).besideRows = s.besideRows := rfl
@[simp] theorem State.setN_besideRows (s : State) (k v : Nat) : (s.setN k v).besideRows = s.besideRows := rfl
@[simp] theorem State.bump_besideRows (s : State) (k : Nat) : (s.bump k).besideRows = s.besideRows := rfl
@[simp] theorem State.count_besideRows (s : State) (n k : Nat) : (s.count n k).besideRows = s.besideRows := rfl
@[simp] theorem State.setChan_besideRows (s : State) (c : Nat) (x : ChanSt) : (s.setChan c x).besideRows = s.besideRows := rfl
@[simp] theorem State.setLoom_besideRows (s : State) (l : Nat) (x : LoomSt) : (s.setLoom l x).besideRows = s.besideRows := rfl
@[simp] theorem State.setRow_besideRows (s : State) (r : RowSt) : (s.setRow r).besideRows = s.besideRows := rfl
@[simp] theorem State.setPort_besideRows (s : State) (p : Nat) (x : PortSt) : (s.setPort p x).besideRows = s.besideRows := rfl

theorem State.setN_unless_besideRows (s : State) (p : Prop) [Decidable p] (k v : Nat) :
    (if p then s else s.setN k v).besideRows = s.besideRows := by
  split <;> rfl

/-- A fold whose every step keeps what stands beside the rows keeps it. -/
theorem foldl_besideRows {α : Type} {f : State → α → State} (h : ∀ s x, (f s x).besideRows = s.besideRows) (l : List α) (s : State) :
    (l.foldl f s).besideRows = s.besideRows := foldl_view h l s

/-! ## The budget of a row, its frames and its records -/

@[simp] theorem State.giveOn_besideRows (s : State) (c k bits : Nat) : (s.giveOn c k bits).besideRows = s.besideRows := by
  unfold State.giveOn
  dsimp only
  split <;> split <;> rfl

@[simp] theorem State.settleOnce_besideRows (s : State) (c k : Nat) : (s.settleOnce c k).besideRows = s.besideRows := by
  unfold State.settleOnce State.settle
  split
  · split
    · simp
    · rfl
  · rfl

@[simp] theorem State.endGrant_besideRows (s : State) (r : RowSt) : (s.endGrant r).besideRows = s.besideRows := by
  unfold State.endGrant
  split
  · rfl
  · dsimp only
    split
    · split <;> simp
    · rfl

@[simp] theorem State.sendSeam_besideRows (s : State) (c : Nat) (toLeft : Bool) (cls kind k index : Nat) (payload : Bytes) :
    (s.sendSeam c toLeft cls kind k index payload).besideRows = s.besideRows := by
  unfold State.sendSeam
  dsimp only
  split <;> rfl

@[simp] theorem State.sendRowQp_besideRows (s : State) (r : RowSt) : (s.sendRowQp r).besideRows = s.besideRows := by
  unfold State.sendRowQp
  simp

@[simp] theorem State.sampleDrop_besideRows (s : State) : s.sampleDrop.besideRows = s.besideRows := by
  unfold State.sampleDrop
  exact State.raiseLimited_besideRows _ _ _

@[simp] theorem State.sampleIn_besideRows (s : State) (unit : Nat) (r : Sample) : (s.sampleIn unit r).besideRows = s.besideRows := by
  unfold State.sampleIn
  split
  · exact State.sampleDrop_besideRows s
  · rfl

@[simp] theorem State.rowSample_besideRows (s : State) (r : RowSt) (loom : Nat) : (s.rowSample r loom).besideRows = s.besideRows := by
  unfold State.rowSample
  extract_lets c rows
  split
  · exact State.sampleIn_besideRows _ _ _
  · rfl

@[simp] theorem State.rowFinished_besideRows (s : State) (c k bits : Nat) : (s.rowFinished c k bits).besideRows = s.besideRows := by
  unfold State.rowFinished
  split
  · rfl
  · dsimp only
    split
    · split <;> rfl
    · rfl

@[simp] theorem State.sendCut_besideRows (s : State) (r : RowSt) (x : Cut) (opening last : Bool) (rows : Nat) :
    (s.sendCut r x opening last rows).besideRows = s.besideRows := by
  unfold State.sendCut
  extract_lets v c ch seq rowEnd picEnd flags pkt u
  refine (foldl_besideRows (fun t leg => ?_) _ u).trans rfl
  dsimp only
  split
  · rfl
  · split
    · exact State.raise_besideRows _ _
    · rfl

@[simp] theorem State.buildFrames_besideRows (fuel : Nat) (s : State) (c k j : Nat) :
    (State.buildFrames fuel s c k j).besideRows = s.besideRows := by
  induction fuel generalizing s with
  | zero => rfl
  | succ fuel ih =>
    unfold State.buildFrames
    split
    · rfl
    · extract_lets v rows opening done
      split
      · rfl
      · split
        · split
          · rfl
          · simp [ih]
        · split
          · rfl
          · dsimp only
            rw [ih, State.setRow_besideRows]
            split <;> simp

@[simp] theorem State.build_besideRows (s : State) (c k j : Nat) : (s.build c k j).besideRows = s.besideRows := by
  unfold State.build
  split
  · exact State.buildFrames_besideRows _ _ _ _ _
  · rfl

/-! ## The end of a row -/

@[simp] theorem State.rowEnded_besideRows (s : State) (r : RowSt) : (s.rowEnded r).besideRows = s.besideRows := by
  unfold State.rowEnded
  simp

@[simp] theorem State.showSweep_besideRows (s : State) (c : Nat) : (s.showSweep c).besideRows = s.besideRows := rfl

@[simp] theorem State.spoil_besideRows (s : State) (c k : Nat) : (s.spoil c k).besideRows = s.besideRows := by
  unfold State.spoil
  extract_lets ch first pics u v w x
  have hu : u.besideRows = s.besideRows := by
    unfold u
    split <;> rfl
  have hv : v.besideRows = s.besideRows := by
    unfold v
    split <;> exact hu
  have hx : x.besideRows = s.besideRows := (State.showSweep_besideRows w c).trans hv
  clear_value x
  split
  · rw [State.raise_besideRows, hx]
  · exact hx

@[simp] theorem State.copyMaps_besideRows (s : State) (c : Nat) : (s.copyMaps c).besideRows = s.besideRows := by
  unfold State.copyMaps
  exact foldl_besideRows (by exact fun _ _ => rfl) _ s

@[simp] theorem State.holdRow_besideRows (s : State) (c k j : Nat) (old : RowSt) : (s.holdRow c k j old).besideRows = s.besideRows := by
  unfold State.holdRow
  split
  · rfl
  · dsimp only
    rw [State.rowEnded_besideRows, State.spoil_besideRows]
    split <;> split <;> simp only [State.settleOnce_besideRows, State.raise_besideRows, State.copyMaps_besideRows, State.setChan_besideRows,
      State.count_besideRows, State.bump_besideRows]

@[simp] theorem State.endRow_besideRows (s : State) (r : RowSt) : (s.endRow r).besideRows = s.besideRows := by
  unfold State.endRow
  dsimp only
  split
  · rw [State.holdRow_besideRows, foldl_besideRows (fun _ _ => State.setPort_besideRows _ _ _), State.endGrant_besideRows]
    rfl
  · simp

/-! ## Looms -/

@[simp] theorem State.showLooms_besideRows (s : State) : s.showLooms.besideRows = s.besideRows := by
  unfold State.showLooms
  simp only [State.setN_besideRows]
  rw [foldl_besideRows, foldl_besideRows]
  · exact fun s c => State.setN_unless_besideRows s _ _ _
  · intro s l
    rw [State.setN_unless_besideRows, State.setN_unless_besideRows]

@[simp] theorem State.loomState_besideRows (s : State) (l st : Nat) : (s.loomState l st).besideRows = s.besideRows := by
  unfold State.loomState
  dsimp only
  split <;> rfl

@[simp] theorem State.qualAbandon_besideRows (s : State) (l : Nat) : (s.qualAbandon l).besideRows = s.besideRows := by
  unfold State.qualAbandon
  split
  · rfl
  · rw [State.raise_besideRows]
    rfl

@[simp] theorem State.stopLoom_besideRows (s : State) (l : Nat) : (s.stopLoom l).besideRows = s.besideRows := by
  unfold State.stopLoom
  dsimp only
  rw [foldl_besideRows, foldl_besideRows, State.setLoom_besideRows]
  · exact fun t c => by rw [State.raise_besideRows, State.setChan_besideRows]
  · intro t r
    split
    · exact State.endRow_besideRows _ _
    · rfl

@[simp] theorem State.follow_besideRows (s : State) : s.follow.besideRows = s.besideRows := by
  unfold State.follow
  dsimp only
  split
  · rfl
  · rw [State.raise_besideRows, State.setN_besideRows]

end Sys2Proof.Machine
end

section
/-!
PROOFS. Freezes and thaws (spec/13_beam_dram.md, spec/17_faults_log.md; R377 to R382, R437 to R439): what the Beam's training leaves of the rest
of the machine, and what the freeze and the thaw of a master leave of the records of all.
-/

namespace Sys2Proof.Machine

/-! ## The state beside the Beam's training -/

/-- A state without what the Beam's training and its failure move besides (`State.besideRows`): the Beam but for what it is fitted with, and the
flights in the Fabric. -/
def State.besideBeam (s : State) : State :=
  { s.besideRows with beam := { ranks := s.beam.ranks, densityGb := s.beam.densityGb }, fab := { s.fab with inflight := [] } }

theorem State.besideBeam_of_besideRows {s t : State} (h : t.besideRows = s.besideRows) : t.besideBeam = s.besideBeam := by
  have hbeam : t.beam = s.beam := (congrArg State.beam h :)
  have hfab : t.fab = s.fab := (congrArg State.fab h :)
  rw [State.besideBeam, h, hbeam, hfab, State.besideBeam]

@[simp] theorem State.raise_besideBeam (s : State) (e : Ev) : (s.raise e).besideBeam = s.besideBeam :=
  State.besideBeam_of_besideRows (State.raise_besideRows s e)

@[simp] theorem State.follow_besideBeam (s : State) : s.follow.besideBeam = s.besideBeam :=
  State.besideBeam_of_besideRows (State.follow_besideRows s)

@[simp] theorem State.endRow_besideBeam (s : State) (r : RowSt) : (s.endRow r).besideBeam = s.besideBeam :=
  State.besideBeam_of_besideRows (State.endRow_besideRows s r)

@[simp] theorem State.setLoom_besideBeam (s : State) (l : Nat) (x : LoomSt) : (s.setLoom l x).besideBeam = s.besideBeam := rfl
@[simp] theorem State.bump_besideBeam (s : State) (k : Nat) : (s.bump k).besideBeam = s.besideBeam := rfl
@[simp] theorem State.setBch_besideBeam (s : State) (n : Nat) (x : BeamChSt) : (s.setBch n x).besideBeam = s.besideBeam := rfl
@[simp] theorem State.showBeam_besideBeam (s : State) : s.showBeam.besideBeam = s.besideBeam := rfl

theorem foldl_besideBeam {α : Type} {f : State → α → State} (h : ∀ s x, (f s x).besideBeam = s.besideBeam) (l : List α) (s : State) :
    (l.foldl f s).besideBeam = s.besideBeam := foldl_view h l s

@[simp] theorem State.eachBch_besideBeam (s : State) (f : BeamChSt → BeamChSt) : (s.eachBch f).besideBeam = s.besideBeam := by
  unfold State.eachBch
  exact foldl_besideBeam (fun _ _ => State.setBch_besideBeam _ _ _) _ s

@[simp] theorem State.retrainEvent_besideBeam (s : State) (n : Nat) : (s.retrainEvent n).besideBeam = s.besideBeam :=
  State.raise_besideBeam s _

@[simp] theorem State.startAttempt_besideBeam (s : State) (n : Nat) : (s.startAttempt n).besideBeam = s.besideBeam := by
  unfold State.startAttempt
  dsimp only
  split
  · rfl
  · simp

/-- R382: of what stands beside the Beam, its failure moves nothing. -/
@[simp] theorem State.beamFail_besideBeam (s : State) (channel point : Nat) : (s.beamFail channel point).besideBeam = s.besideBeam := by
  unfold State.beamFail
  split
  · rfl
  · dsimp only
    rw [State.follow_besideBeam, foldl_besideBeam (fun _ _ => State.setLoom_besideBeam _ _ _), foldl_besideBeam, State.raise_besideBeam,
      State.showBeam_besideBeam, State.eachBch_besideBeam]
    · rfl
    · intro t r
      split
      · exact State.endRow_besideBeam _ _
      · rfl

@[simp] theorem State.leavePoint_besideBeam (s : State) (n : Nat) : (s.leavePoint n).besideBeam = s.besideBeam := by
  unfold State.leavePoint
  split
  · rfl
  · exact State.beamFail_besideBeam s _ _

@[simp] theorem State.attemptFailed_besideBeam (s : State) (n : Nat) : (s.attemptFailed n).besideBeam = s.besideBeam := by
  unfold State.attemptFailed
  dsimp only
  split <;> simp

@[simp] theorem State.returnEnded_besideBeam (s : State) (n : Nat) (ok : Bool) : (s.returnEnded n ok).besideBeam = s.besideBeam := by
  unfold State.returnEnded
  split
  · rfl
  · split
    · rfl
    · dsimp only
      split
      · exact State.retrainEvent_besideBeam s n
      · split <;> exact State.retrainEvent_besideBeam s n

@[simp] theorem State.freezeTraining_besideBeam (s : State) : s.freezeTraining.besideBeam = s.besideBeam := by
  unfold State.freezeTraining
  refine foldl_besideBeam (fun t n => ?_) _ s
  split
  · exact State.attemptFailed_besideBeam t n
  · split
    · exact State.returnEnded_besideBeam t n false
    · rfl

@[simp] theorem State.thawTraining_besideBeam (s : State) : s.thawTraining.besideBeam = s.besideBeam := by
  unfold State.thawTraining
  refine foldl_besideBeam (fun t n => ?_) _ s
  split
  · rfl
  · exact State.startAttempt_besideBeam t n

/-! ## The records of freezes -/

/-- What tells of the masters' freezes and of the incident: the frozen masters, their records, and the handlers. -/
structure MasterParts where
  frozen : Nat
  freezes : AMap FreezeSt
  handlers : List Handler
  openIncident : Nat

/-- These parts of a state. -/
def State.masterParts (s : State) : MasterParts where
  frozen := s.fab.frozen
  freezes := s.fab.freezes
  handlers := s.log.handlers
  openIncident := s.log.openIncident

theorem State.masterParts_of_besideBeam {s t : State} (h : t.besideBeam = s.besideBeam) : t.masterParts = s.masterParts :=
  (congrArg State.masterParts h :)

theorem State.masterParts_of_besideRows {s t : State} (h : t.besideRows = s.besideRows) : t.masterParts = s.masterParts :=
  State.masterParts_of_besideBeam (State.besideBeam_of_besideRows h)

@[simp] theorem State.raise_masterParts (s : State) (e : Ev) : (s.raise e).masterParts = s.masterParts :=
  State.masterParts_of_besideRows (State.raise_besideRows s e)

@[simp] theorem State.follow_masterParts (s : State) : s.follow.masterParts = s.masterParts :=
  State.masterParts_of_besideRows (State.follow_besideRows s)

@[simp] theorem State.abandonTransfer_masterParts (s : State) : s.abandonTransfer.masterParts = s.masterParts := by
  unfold State.abandonTransfer
  split
  · rfl
  · rw [State.raise_masterParts, State.raise_masterParts]
    rfl

@[simp] theorem State.coreFrozen_masterParts (s : State) (c : Nat) : (s.coreFrozen c).masterParts = s.masterParts := by
  unfold State.coreFrozen State.leaveCore
  split
  · rfl
  · rename_i t h
    simp only [h]
    rfl

/-- R438: what the freeze of a master does besides touches no record of a freeze. -/
@[simp] theorem State.freezeEffect_masterParts (s : State) (m : Nat) : (s.freezeEffect m).masterParts = s.masterParts := by
  unfold State.freezeEffect
  extract_lets f u l
  have hu : u.masterParts = s.masterParts := rfl
  clear_value u
  rw [← hu]
  split
  · exact State.coreFrozen_masterParts u _
  · split
    · exact State.masterParts_of_besideRows (by simp)
    · split
      · exact State.masterParts_of_besideBeam (State.freezeTraining_besideBeam u)
      · split
        · exact State.abandonTransfer_masterParts u
        · rfl

/-- R437: the record that a freeze of a master begins. -/
def newFreeze (s : State) (m : Nat) (cause : FreezeCause) (addr target : Nat) : FreezeSt :=
  { cause := cause, addr := addr, target := if cause = .firewall then target else 0,
    violations := if cause = .firewall then 1 else 0, since := s.clk.ticks, time := nowNs s,
    heldFrozen := decide (3 ≤ (s.clk.ticks :: recentFreezes s m).length) }

/-- R437: a freeze sets the master's bit and begins its record. -/
theorem State.freezeNow_masterParts (s : State) (m : Nat) (cause : FreezeCause) (addr target : Nat) :
    (s.freezeNow m cause addr target).masterParts =
      { s.masterParts with frozen := setBit s.fab.frozen m true
                           freezes := AMap.put s.fab.freezes m (newFreeze s m cause addr target) } := by
  unfold State.freezeNow
  dsimp only
  rw [State.follow_masterParts, State.freezeEffect_masterParts]
  rfl

/-- R459: a freeze leaves the handlers and the open incident. -/
theorem State.freeze_handlers (s : State) (m : Nat) (cause : FreezeCause) (addr target : Nat) :
    (s.freeze m cause addr target).log.handlers = s.log.handlers ∧
      (s.freeze m cause addr target).log.openIncident = s.log.openIncident := by
  have hnow := s.freezeNow_masterParts m cause addr target
  have hhandlers := (congrArg MasterParts.handlers hnow :)
  have hopen := (congrArg MasterParts.openIncident hnow :)
  unfold State.freeze
  split
  · exact ⟨rfl, rfl⟩
  · split
    · exact ⟨hhandlers, hopen⟩
    · split
      · exact ⟨hhandlers, hopen⟩
      · split <;> exact ⟨rfl, rfl⟩

theorem State.runHandler_handlers (s : State) :
    s.runHandler.log.handlers = s.log.handlers ∧ s.runHandler.log.openIncident = s.log.openIncident := by
  unfold State.runHandler
  split
  · exact ⟨rfl, rfl⟩
  · split
    · exact State.freeze_handlers s _ _ _ _
    · exact ⟨rfl, rfl⟩

end Sys2Proof.Machine
end

section
/-!
PROOFS. The commands of the Mending Log (spec/17_faults_log.md; R455, R456, R459, R462, R472, R474): events, handlers, the window of a tracker, and
the two registers that the host writes.
-/

namespace Sys2Proof.Machine

/-! ## Bits that are cleared -/

/-- A bit cleared in a mask leaves the others. -/
theorem bit_setBit_false (v i p : Nat) : bit (setBit v i false) p = (bit v p && !decide (p = i)) := by
  cases hi : bit v i with
  | false =>
    by_cases hp : p = i
    · simp [setBit, hp, hi]
    · simp [setBit, hi, hp]
  | true =>
    have hv : v = 2 ^ i + (v - 2 ^ i) := by
      have hle : 2 ^ i ≤ v := Nat.ge_two_pow_of_testBit (by rwa [bit_eq_testBit] at hi)
      omega
    have hw : bit (v - 2 ^ i) i = false := by
      rw [bit_eq_testBit, hv, Nat.testBit_two_pow_add_eq] at hi
      simpa [bit_eq_testBit] using hi
    have hback : setBit (v - 2 ^ i) i true = v := by
      simp only [setBit, hw, Bool.false_eq_true, if_false, if_true]
      omega
    have hbits := bit_setBit_true (v - 2 ^ i) i p
    rw [hback] at hbits
    by_cases hp : p = i
    · simp [setBit, hi, hp, hw]
    · simp [setBit, hi, hbits, hp]

/-- The bits of a list of positions that are to be cleared, cleared one after the other. -/
theorem bit_clearAll (clears : Nat → Bool) (base p : Nat) (l : List Nat) (v : Nat) :
    bit (l.foldl (fun m i => if clears i then setBit m (base + i) false else m) v) p =
      (bit v p && !l.any fun i => clears i && decide (p = base + i)) := by
  induction l generalizing v with
  | nil => simp
  | cons i l ih =>
    rw [List.foldl_cons, ih, List.any_cons]
    cases clears i with
    | false => simp
    | true => simp [bit_setBit_false, Bool.and_assoc]

/-! ## Events -/

theorem State.wakeSource_unbound {s : State} {src : Nat} (h : AMap.find? s.shtl.bound src = none) : s.wakeSource src = s := by
  rw [State.wakeSource, h]

theorem State.reportPool_self (s : State) (p : Nat) : State.reportPool s s p = s := by
  simp [State.reportPool]

theorem State.reportDrops_self (s : State) : State.reportDrops s s = s := by
  simp [State.reportDrops]

/-- R456: a doorbell only wakes its thread. -/
theorem State.raise_doorbell {s : State} {e : Ev} (hbell : isDoorbell e.src = true) (hbound : AMap.find? s.shtl.bound e.src = none) :
    s.raise e = s := by
  have hbase : s.raiseBase e = s := by simp [State.raiseBase, State.signal, hbell]
  have hpools : (List.range 8).foldl (fun t p => State.reportPool s t p) s = s :=
    List.foldlRecOn (motive := fun t => t = s) _ _ rfl fun t ht p _ => by rw [ht, State.reportPool_self]
  unfold State.raise
  dsimp only
  rw [hbase, hbell, Bool.or_true, if_pos rfl, State.wakeSource_unbound hbound, hpools, State.reportDrops_self]

/-! ## The window of a tracker -/

theorem State.logAsk_trackers (s : State) (r : LogReq) : (s.logAsk r).log.trackers = s.log.trackers := by
  unfold State.logAsk
  repeat' split
  all_goals rfl

/-- R462: once its window has ended a tracker is gone. -/
theorem State.not_mem_endTracker (s : State) (x : Tracker) : x ∉ (s.endTracker x).log.trackers := by
  have hgone : x ∉ s.log.trackers.filter fun u => u != x := by simp
  unfold State.endTracker
  dsimp only
  split
  · exact hgone
  · rwa [State.logAsk_trackers]

theorem State.endTracker_entries (s : State) (x : Tracker) : (s.endTracker x).log.entries = s.log.entries :=
  (congrArg (fun u => u.log.entries) (State.endTracker_still s x) :)

/-- R462: the tracker that a command of its window names, where no other counts the same occurrences. -/
theorem find_tracker {l : List Tracker} {x : Tracker} (hx : x ∈ l)
    (hone : ∀ y ∈ l, y.source = x.source → y.code = x.code → y.master = x.master → y.unit = x.unit → y = x) :
    (l.find? fun t => t.source == x.source && t.code == x.code && t.master == x.master && t.unit == x.unit) = some x := by
  cases hfind : l.find? fun t => t.source == x.source && t.code == x.code && t.master == x.master && t.unit == x.unit with
  | none => exact absurd (List.find?_eq_none.mp hfind x hx) (by simp)
  | some y =>
    have hy := List.find?_some hfind
    simp only [Bool.and_eq_true, beq_iff_eq] at hy
    obtain ⟨⟨⟨hsource, hcode⟩, hmaster⟩, hunit⟩ := hy
    rw [hone y (List.mem_of_find?_eq_some hfind) hsource hcode hmaster hunit]

/-! ## The commands -/

/-- R459: the running handler has completed; those that wait are left, and without one the incident closes. -/
def State.closeHandler (s : State) (rest : List Handler) : State :=
  { s with log := { s.log with handlers := rest, openIncident := if rest.isEmpty then 0 else s.log.openIncident } }

theorem execHandlerComplete_of_done {s : State} {h : Handler} {rest : List Handler} (hclk : s.boot.clocksLost = false)
    (hhandlers : s.log.handlers = h :: rest) (hdone : handlerDone s h = true) :
    execHandlerComplete s = .next (s.closeHandler rest).runHandler := by
  rw [execHandlerComplete, whenClocked_of_clocked hclk]
  simp [hhandlers, hdone, State.closeHandler]

/-- R474: LOG_PENDING keeps every bit but those of its word that are written 1. -/
theorem pendingClear_bit (pending w : Nat) (bits : Word) (p : Nat) :
    bit ((List.range 32).foldl (fun m i => if bit bits.toNat i then setBit m (32 * w + i) false else m) pending) p =
      (bit pending p && !(decide (32 * w ≤ p) && decide (p < 32 * w + 32) && bits.getLsbD (p - 32 * w))) := by
  rw [bit_clearAll (fun i => bit bits.toNat i)]
  congr 2
  rw [Bool.eq_iff_iff]
  simp only [List.any_eq_true, List.mem_range, Bool.and_eq_true, decide_eq_true_eq, bit_eq_testBit, BitVec.testBit_toNat]
  constructor
  · rintro ⟨i, hi, hbit, rfl⟩
    exact ⟨⟨Nat.le_add_right _ _, by omega⟩, by rwa [Nat.add_sub_cancel_left]⟩
  · rintro ⟨⟨hle, hlt⟩, hbit⟩
    exact ⟨p - 32 * w, by omega, hbit, by omega⟩

/-- Settles O9, command by command. -/
theorem logCommands : Obligations.LogCommands := by
  unfold Obligations.LogCommands
  refine ⟨fun s source code master unit detail severity hsource hbell hclk => ?_,
    fun s source code master unit detail severity hbell hclk => ?_, fun s h rest hhandlers hdone hclk => ?_,
    fun s x hx hpassed hone hclk => ?_, fun s w bits hclk => ?_, fun s val hclk => ?_⟩
  · have hpends : pends source = true := by simp [pends, hsource, hbell]
    exact ⟨_, whenClocked_of_clocked hclk _, State.raise_pending s hpends, by simp, by simp⟩
  · exact ⟨_, whenClocked_of_clocked hclk _, fun hbound => State.raise_doorbell hbell hbound⟩
  · obtain ⟨hrest, hopen⟩ := (s.closeHandler rest).runHandler_handlers
    exact ⟨_, execHandlerComplete_of_done hclk hhandlers hdone, hrest, fun hnil => by rw [hopen, hnil]; rfl⟩
  · refine ⟨s.endTracker x, ?_, s.not_mem_endTracker x, s.endTracker_entries x⟩
    show execTrackerWindowEnd x.source x.code x.master x.unit s = _
    rw [execTrackerWindowEnd, whenClocked_of_clocked hclk, find_tracker hx hone]
    exact if_pos hpassed
  · exact ⟨_, whenClocked_of_clocked hclk _, fun p => pendingClear_bit _ w bits p, rfl, rfl⟩
  · exact ⟨_, whenClocked_of_clocked hclk _, rfl, rfl, rfl⟩

end Sys2Proof.Machine
end

section
/-!
PROOFS. The Budget Governor (spec/14_shuttle_governor.md; R399, R400, R402 to R405): what a sample and a period leave of the looms' effort.
-/

namespace Sys2Proof.Machine

/-! ## Efforts -/

@[simp] theorem effortOf_nil (l : Nat) : effortOf [] l = 0 := rfl

theorem effortOf_put (m : AMap Nat) (k v l : Nat) : effortOf (AMap.put m k v) l = if l = k then v else effortOf m l := by
  unfold effortOf
  split
  · rename_i h
    rw [h, AMap.getD_put_self]
  · rename_i h
    exact AMap.getD_put_ne m v 0 (Ne.symm h)

/-- No loom's effort is higher in one map than in another. -/
def EffortsAtMost (m m' : AMap Nat) : Prop := ∀ l, effortOf m l ≤ effortOf m' l

theorem EffortsAtMost.refl (m : AMap Nat) : EffortsAtMost m m := fun _ => Nat.le_refl _

theorem EffortsAtMost.trans {a b c : AMap Nat} (h : EffortsAtMost a b) (h' : EffortsAtMost b c) : EffortsAtMost a c :=
  fun l => (h l).trans (h' l)

/-- A loom put to an effort that it does not stand below. -/
theorem effortsAtMost_put {m : AMap Nat} {k v : Nat} (h : v ≤ effortOf m k) : EffortsAtMost (AMap.put m k v) m := by
  intro l
  rw [effortOf_put]
  split
  · rename_i hl
    rwa [hl]
  · exact Nat.le_refl _

theorem effortsAtMost_foldl {α : Type} {f : AMap Nat → α → AMap Nat} (h : ∀ m x, EffortsAtMost (f m x) m) (xs : List α) (m : AMap Nat) :
    EffortsAtMost (xs.foldl f m) m :=
  List.foldlRecOn (motive := fun u => EffortsAtMost u m) xs f (EffortsAtMost.refl m) fun u hu x _ => (h u x).trans hu

theorem lower_atMost (m : AMap Nat) (l : Nat) : EffortsAtMost (lower m l) m := effortsAtMost_put (Nat.sub_le _ _)

/-- R402 step 1: looms are only lowered. -/
theorem cutPower_atMost (s : State) (ls : List Nat) (limit : Rat) (n : Nat) (p : Rat) (m : AMap Nat) :
    EffortsAtMost (cutPower s ls limit n p m) m := by
  induction n generalizing p m with
  | zero => exact EffortsAtMost.refl m
  | succ n ih =>
    unfold cutPower
    split
    · exact EffortsAtMost.refl m
    · split
      · exact EffortsAtMost.refl m
      · exact (ih _ _).trans (lower_atMost m _)

/-- R404: looms are only lowered. -/
theorem cutDram_atMost (s : State) (ls : List Nat) (m : AMap Nat) : EffortsAtMost (cutDram s ls m).1 m := by
  unfold cutDram
  refine List.foldlRecOn (motive := fun acc : AMap Nat × List Nat => EffortsAtMost acc.1 m) _ _ (EffortsAtMost.refl m) fun acc hacc l _ => ?_
  split
  · rename_i h
    simp only [Bool.and_eq_true, decide_eq_true_eq] at h
    obtain ⟨h4, -⟩ := h
    exact (effortsAtMost_put (by omega)).trans hacc
  · exact hacc

/-- R400, R403: looms that are put to effort 0 stand there. -/
theorem effortOf_floored {ls : List Nat} {l : Nat} (hl : l ∈ ls) (m : AMap Nat) :
    effortOf (ls.foldl (fun m l => AMap.put m l 0) m) l = 0 := by
  induction ls generalizing m with
  | nil => exact absurd hl List.not_mem_nil
  | cons k ls ih =>
    rw [List.foldl_cons]
    by_cases hmem : l ∈ ls
    · exact ih hmem _
    · have hk : l = k := (List.mem_cons.mp hl).resolve_right hmem
      have hle := effortsAtMost_foldl (fun m k => effortsAtMost_put (k := k) (Nat.zero_le (effortOf m k))) ls (AMap.put m k 0) l
      rw [effortOf_put, if_pos hk] at hle
      exact Nat.le_zero.mp hle

/-! ## Rounds of raises (R402 step 3) -/

/-- A loom is raised by at most one level, and only below its cap. -/
theorem raiseLoom_efforts (s : State) (ls : List Nat) (loaded : Bool) (r : Raising) (k l : Nat) :
    effortOf (raiseLoom s ls loaded r k).efforts l = effortOf r.efforts l ∨
      l = k ∧ effortOf (raiseLoom s ls loaded r k).efforts l = effortOf r.efforts l + 1 ∧ effortOf r.efforts l < effortCap s l := by
  unfold raiseLoom
  dsimp only
  split
  · exact .inl rfl
  · rename_i hfree
    split
    · exact .inl rfl
    · split
      · exact .inl rfl
      · dsimp only
        rw [effortOf_put]
        split
        · rename_i hl
          subst hl
          simp only [Bool.or_eq_true, decide_eq_true_eq, not_or, Nat.not_le] at hfree
          exact .inr ⟨rfl, rfl, hfree.1.2⟩
        · exact .inl rfl

/-- What raises have come to since a map of efforts: at most so many levels for each loom, and none past its cap. -/
def RaisedBy (s : State) (by_ : Nat → Nat) (m m' : AMap Nat) : Prop :=
  ∀ l, effortOf m' l ≤ effortOf m l + by_ l ∧ (effortOf m l ≤ effortCap s l → effortOf m' l ≤ effortCap s l)

/-- In one round a loom that is listed once is raised by one level at most. -/
theorem raiseLoom_foldl (s : State) (ls : List Nat) (loaded : Bool) (order : List Nat) (r : Raising) :
    RaisedBy s (fun l => order.count l) r.efforts (order.foldl (raiseLoom s ls loaded) r).efforts := by
  induction order generalizing r with
  | nil => exact fun l => ⟨Nat.le_refl _, id⟩
  | cons k order ih =>
    intro l
    obtain ⟨hle, hcap⟩ := ih (raiseLoom s ls loaded r k) l
    simp only [List.foldl_cons, List.count_cons] at hle ⊢
    rcases raiseLoom_efforts s ls loaded r k l with hsame | ⟨rfl, hup, hlt⟩
    · rw [hsame] at hle hcap
      exact ⟨hle.trans (by omega), hcap⟩
    · rw [hup] at hle hcap
      simp only [beq_self_eq_true, if_true]
      exact ⟨by omega, fun _ => hcap hlt⟩

/-- R402: a round's order names each loom once at most. -/
theorem count_raiseOrder_le {ls : List Nat} (hls : ls.Nodup) (m : AMap Nat) (l : Nat) : (raiseOrder ls m).count l ≤ 1 := by
  refine List.nodup_iff_count_le_one.mp ?_ l
  unfold raiseOrder
  rw [List.nodup_flatten, List.pairwise_map]
  refine ⟨fun xs hxs => ?_, List.nodup_range.imp fun {a b} hab => ?_⟩
  · obtain ⟨e, -, rfl⟩ := List.mem_map.mp hxs
    exact hls.filter _
  · intro x hx hx'
    simp only [List.mem_filter, beq_iff_eq] at hx hx'
    exact hab (hx.2.symm.trans hx'.2)

theorem raiseRounds_raisedBy (s : State) {ls : List Nat} (hls : ls.Nodup) (loaded : Bool) (n : Nat) (r : Raising) :
    RaisedBy s (fun _ => n) r.efforts (raiseRounds s ls loaded n r).efforts := by
  induction n generalizing r with
  | zero => exact fun l => ⟨Nat.le_refl _, id⟩
  | succ n ih =>
    intro l
    obtain ⟨hround, hroundCap⟩ := raiseLoom_foldl s ls loaded (raiseOrder ls r.efforts) r l
    obtain ⟨hrest, hrestCap⟩ := ih ((raiseOrder ls r.efforts).foldl (raiseLoom s ls loaded) r) l
    have hone := count_raiseOrder_le hls r.efforts l
    dsimp only at hround hrest
    unfold raiseRounds
    exact ⟨by dsimp only; omega, fun h => hrestCap (hroundCap h)⟩

/-! ## A sample (R400, R403, R405) -/

/-- R400: the sensors are read. -/
def State.readSensors (s : State) (sensors : List Int) : State := (sensors.take 24).zipIdx.foldl (fun s (t, i) => s.sensor i t) s

/-- R400: the rail estimators are read. -/
def State.readRails (s : State) (rails : List Nat) : State :=
  (rails.take 8).zipIdx.foldl (fun s (p, i) => s.setN (K.govRailPower i) (p % 65536)) s

/-- R400: the sum of the rail estimators, 0.1 W. -/
def railSum (rails : List Nat) : Nat := ((rails.take 8).map (· % 65536)).sum

/-- R400: the readings of a sample with its part of P_meas. -/
def State.takeSample (s : State) (sensors : List Int) (rails : List Nat) : State :=
  let u := (s.readSensors sensors).readRails rails
  { u with gov := { u.gov with sumPower := u.gov.sumPower + railSum rails, samples := u.gov.samples + 1, lastSample := u.clk.ticks } }

/-- R403: what T_max makes of the thermal state. -/
def State.feelHeat (s : State) : State :=
  let s := match junctionMax s with
    | none => s
    | some t =>
      let s := (s.set K.govJunctionMax (clampInt (-32768) 32767 t)).toThermal (nextThermal s t)
      { s with gov := { s.gov with ceilingSince := heldSince s s.gov.ceilingSince (decide (1050 ≤ t) && s.gov.thermal == 2) } }
  let hot := ((List.range 24).filter fun i => !bit (s.nat K.govSensorsExcluded) i
    && (match AMap.find? s.gov.lastTemp i with | some t => decide ((1150 : Int) ≤ t) | none => false)).length
  { s with gov := { s.gov with tripSince := heldSince s s.gov.tripSince (decide (2 ≤ hot)) } }

/-- R400: with too many sensors lost every loom is held at effort 0. -/
def State.holdLost (s : State) : State := if sensorsLost s then s.allFloor else s

theorem execGovernorSample_of_due {s : State} (hclk : s.boot.clocksLost = false) (hspindle : s.boot.spindle = true)
    (hdue : passed s s.gov.lastSample 100000 = true) (sensors : List Int) (rails : List Nat) :
    execGovernorSample sensors rails s =
      let u := (s.takeSample sensors rails).feelHeat.holdLost
      .next (if u.nat K.govBoardPowerLimit * (100 + u.nat K.govFastCutPercent) < 100 * railSum rails then u.fastCut else u) := by
  rw [execGovernorSample, whenClocked_of_clocked hclk]
  exact if_neg (by simp [hspindle, hdue])

/-- The clock, and the Governor's state but for what the sensors and the thermal state move. -/
def State.powerParts (s : State) : Clock × GovSt :=
  (s.clk, { s.gov with lastTemp := [], thermal := 0, ceilingSince := none, tripSince := none })

@[simp] theorem State.raise_powerParts (s : State) (e : Ev) : (s.raise e).powerParts = s.powerParts := by
  simp only [State.powerParts, State.raise_fields]

@[simp] theorem State.sensor_powerParts (s : State) (i : Nat) (t : Int) : (s.sensor i t).powerParts = s.powerParts := by
  unfold State.sensor
  extract_lets ex jump bad g u
  have hu : u.powerParts = s.powerParts := rfl
  clear_value u
  split
  · rw [State.raise_powerParts, ← hu]
    rfl
  · exact hu

@[simp] theorem State.readSensors_powerParts (s : State) (sensors : List Int) : (s.readSensors sensors).powerParts = s.powerParts :=
  foldl_view (view := State.powerParts) (by exact fun s x => State.sensor_powerParts s x.2 x.1) _ s

@[simp] theorem State.readRails_powerParts (s : State) (rails : List Nat) : (s.readRails rails).powerParts = s.powerParts :=
  foldl_view (view := State.powerParts) (by exact fun _ _ => rfl) _ s

@[simp] theorem State.toThermal_powerParts (s : State) (n : Nat) : (s.toThermal n).powerParts = s.powerParts := by
  unfold State.toThermal
  extract_lets old g u
  split
  · rfl
  · split
    · exact State.raise_powerParts u _
    · rfl

@[simp] theorem State.feelHeat_powerParts (s : State) : s.feelHeat.powerParts = s.powerParts := by
  unfold State.feelHeat
  extract_lets u hot
  have hu : u.powerParts = s.powerParts := by
    unfold u
    split
    · rfl
    · exact State.toThermal_powerParts _ _
  exact hu

/-- The Governor's state with one sample more in P_meas. -/
def countSample (x : Clock × GovSt) (p : Nat) : Clock × GovSt :=
  (x.1, { x.2 with sumPower := x.2.sumPower + p, samples := x.2.samples + 1, lastSample := x.1.ticks })

theorem State.takeSample_powerParts (s : State) (sensors : List Int) (rails : List Nat) :
    (s.takeSample sensors rails).powerParts = countSample s.powerParts (railSum rails) := by
  have h : ((s.readSensors sensors).readRails rails).powerParts = s.powerParts := by simp
  exact congrArg (countSample · (railSum rails)) h

/-- R400: what is done on a sample but for the fast cut. -/
def State.sampled (s : State) (sensors : List Int) (rails : List Nat) : State := (s.takeSample sensors rails).feelHeat

theorem State.sampled_gov (s : State) (sensors : List Int) (rails : List Nat) :
    let u := s.sampled sensors rails
    u.clk = s.clk ∧ u.gov.effort = s.gov.effort ∧ u.gov.fastCut = s.gov.fastCut ∧ u.gov.lastSample = s.clk.ticks ∧
      u.gov.samples = s.gov.samples + 1 ∧ u.gov.sumPower = s.gov.sumPower + railSum rails := by
  have h : (s.sampled sensors rails).powerParts = countSample s.powerParts (railSum rails) :=
    (State.feelHeat_powerParts _).trans (s.takeSample_powerParts sensors rails)
  have hgov := congrArg Prod.snd h
  exact ⟨(congrArg Prod.fst h :), (congrArg GovSt.effort hgov :), (congrArg GovSt.fastCut hgov :), (congrArg GovSt.lastSample hgov :),
    (congrArg GovSt.samples hgov :), (congrArg GovSt.sumPower hgov :)⟩

/-! ## The objects of a sample -/

theorem State.sensor_nat (s : State) (i : Nat) (t : Int) {k : Nat} (htemp : K.govSensorTemp i ≠ k) (hex : K.govSensorsExcluded ≠ k) :
    (s.sensor i t).nat k = s.nat k := by
  unfold State.sensor
  extract_lets ex jump bad g u
  have hu : u.nat k = s.nat k := State.nat_set_ne _ _ htemp
  split
  · rw [(State.raise_nat _ _), State.nat_setN_ne _ _ hex, hu]
  · exact hu

/-- R400: a sensor that reads out of range is excluded, and none that was excluded comes back. -/
theorem State.sensor_excluded (s : State) (i j : Nat) (t : Int)
    (h : bit (s.nat K.govSensorsExcluded) j = true ∨ j = i ∧ (t < -400 ∨ 1500 < t)) :
    bit ((s.sensor i t).nat K.govSensorsExcluded) j = true := by
  have htemp : K.govSensorTemp i ≠ K.govSensorsExcluded := by
    unfold K.govSensorTemp K.govSensorsExcluded objKey
    omega
  unfold State.sensor
  extract_lets ex jump bad g u
  have hu : u.nat K.govSensorsExcluded = ex := State.nat_set_ne _ _ htemp
  have hbad : j = i → (t < -400 ∨ 1500 < t) → bad = true := fun _ hrange => by
    rcases hrange with h | h <;> simp [bad, h]
  split
  · rw [State.raise_nat, State.nat_setN, bit_setBit_true]
    rcases h with h | ⟨h, -⟩
    · simp [ex, h]
    · simp [h]
  · rename_i hkeep
    rw [hu]
    rcases h with h | ⟨rfl, hrange⟩
    · exact h
    · simpa [hbad rfl hrange] using hkeep

/-- An object of another index than the sensors' readings, and not the mask of excluded sensors. -/
theorem State.readSensors_nat (s : State) (sensors : List Int) {k : Nat} (htemp : keyIdx k ≠ 0x7102) (hex : K.govSensorsExcluded ≠ k) :
    (s.readSensors sensors).nat k = s.nat k := by
  unfold State.readSensors
  refine foldl_view_of_mem (view := fun u => u.nat k) (fun x hx u => ?_) s
  have hlt : x.2 < 24 := by
    have h := List.snd_lt_of_mem_zipIdx hx
    rw [List.length_take] at h
    omega
  refine State.sensor_nat u x.2 x.1 (fun h => htemp ?_) hex
  rw [← h]
  exact keyIdx_objKey 0x7102 (by omega)

/-- R400: among sensors that are read in turn the one at place i is excluded where it reads out of range. -/
theorem sensors_excluded (xs : List Int) (n j : Nat) (s : State)
    (h : bit (s.nat K.govSensorsExcluded) j = true ∨ ∃ i x, xs[i]? = some x ∧ j = n + i ∧ (x < -400 ∨ 1500 < x)) :
    bit (((xs.zipIdx n).foldl (fun s (t, i) => State.sensor s i t) s).nat K.govSensorsExcluded) j = true := by
  induction xs generalizing n s with
  | nil => simpa using h
  | cons y xs ih =>
    rw [List.zipIdx_cons, List.foldl_cons]
    refine ih (n + 1) _ ?_
    rcases h with h | ⟨i, x, hx, rfl, hrange⟩
    · exact .inl (s.sensor_excluded n j y (.inl h))
    · cases i with
      | zero =>
        obtain rfl : y = x := by simpa using hx
        exact .inl (s.sensor_excluded n n y (.inr ⟨rfl, hrange⟩))
      | succ i => exact .inr ⟨i, x, by simpa using hx, by omega, hrange⟩

theorem State.readSensors_excluded (s : State) {sensors : List Int} {i : Nat} {x : Int} (hi : i < 24) (hx : sensors[i]? = some x)
    (hrange : x < -400 ∨ 1500 < x) : bit ((s.readSensors sensors).nat K.govSensorsExcluded) i = true :=
  sensors_excluded _ 0 i s (.inr ⟨i, x, by rw [List.getElem?_take_of_lt hi, hx], (Nat.zero_add i).symm, hrange⟩)

theorem State.readRails_nat (s : State) (rails : List Nat) {k : Nat} (h : keyIdx k ≠ 0x7103) : (s.readRails rails).nat k = s.nat k := by
  unfold State.readRails
  refine foldl_view_of_mem (view := fun u => u.nat k) (fun x hx u => ?_) s
  have hlt : x.2 < 8 := by
    have h := List.snd_lt_of_mem_zipIdx hx
    rw [List.length_take] at h
    omega
  refine State.nat_setN_of_keyIdx u _ fun hk => h ?_
  rw [← hk]
  exact keyIdx_objKey 0x7103 (by omega)

/-- R400: the estimators that are read in turn show each at its own object. -/
theorem rails_nat (xs : List Nat) (n j : Nat) (s : State) :
    ((xs.zipIdx n).foldl (fun s (p, i) => State.setN s (K.govRailPower i) (p % 65536)) s).nat (K.govRailPower j) =
      if n ≤ j then ((xs[j - n]?).map (· % 65536)).getD (s.nat (K.govRailPower j)) else s.nat (K.govRailPower j) := by
  induction xs generalizing n s with
  | nil => simp
  | cons y xs ih =>
    rw [List.zipIdx_cons, List.foldl_cons, ih]
    by_cases hj : n = j
    · subst hj
      simp
    · have hne : K.govRailPower n ≠ K.govRailPower j := by
        unfold K.govRailPower objKey
        omega
      rw [State.nat_setN_ne _ _ hne]
      by_cases hle : n ≤ j
      · have hsucc : j - n = j - (n + 1) + 1 := by omega
        rw [if_pos hle, if_pos (by omega), hsucc, List.getElem?_cons_succ]
      · rw [if_neg hle, if_neg (by omega)]

theorem State.readRails_rail (s : State) {rails : List Nat} {i x : Nat} (hi : i < 8) (hx : rails[i]? = some x) :
    (s.readRails rails).nat (K.govRailPower i) = x % 65536 := by
  unfold State.readRails
  rw [rails_nat, if_pos (Nat.zero_le i), Nat.sub_zero, List.getElem?_take_of_lt hi, hx]
  rfl

theorem State.toThermal_nat (s : State) (n : Nat) {k : Nat} (h : K.govThermalState ≠ k) : (s.toThermal n).nat k = s.nat k := by
  unfold State.toThermal
  extract_lets old g u
  have hu : u.nat k = s.nat k := State.nat_setN_ne _ _ h
  split
  · rfl
  · split
    · rw [State.raise_nat, hu]
    · exact hu

/-- R403: of the objects T_max moves JunctionMax and ThermalState only. -/
theorem State.feelHeat_nat (s : State) {k : Nat} (hmax : K.govJunctionMax ≠ k) (hstate : K.govThermalState ≠ k) :
    s.feelHeat.nat k = s.nat k := by
  unfold State.feelHeat
  extract_lets u hot
  have hu : u.nat k = s.nat k := by
    unfold u
    split
    · rfl
    · exact (State.toThermal_nat _ _ hstate).trans (State.nat_set_ne s _ hmax)
  exact hu

theorem State.takeSample_nat (s : State) (sensors : List Int) (rails : List Nat) :
    (s.takeSample sensors rails).nat = ((s.readSensors sensors).readRails rails).nat := rfl

/-- The objects that a sample does not move. -/
theorem State.sampled_nat (s : State) (sensors : List Int) (rails : List Nat) {k : Nat} (htemp : keyIdx k ≠ 0x7102) (hrail : keyIdx k ≠ 0x7103)
    (hex : K.govSensorsExcluded ≠ k) (hmax : K.govJunctionMax ≠ k) (hstate : K.govThermalState ≠ k) :
    (s.sampled sensors rails).nat k = s.nat k := by
  rw [State.sampled, State.feelHeat_nat _ hmax hstate, State.takeSample_nat, State.readRails_nat _ _ hrail, State.readSensors_nat _ _ htemp hex]

theorem State.sampled_rail (s : State) (sensors : List Int) {rails : List Nat} {i x : Nat} (hi : i < 8) (hx : rails[i]? = some x) :
    (s.sampled sensors rails).nat (K.govRailPower i) = x % 65536 := by
  have hne : K.govJunctionMax ≠ K.govRailPower i ∧ K.govThermalState ≠ K.govRailPower i := by
    unfold K.govJunctionMax K.govThermalState K.govRailPower objKey
    omega
  obtain ⟨hmax, hstate⟩ := hne
  rw [State.sampled, State.feelHeat_nat _ hmax hstate, State.takeSample_nat, State.readRails_rail _ hi hx]

theorem State.sampled_excluded (s : State) {sensors : List Int} (rails : List Nat) {i : Nat} {x : Int} (hi : i < 24)
    (hx : sensors[i]? = some x) (hrange : x < -400 ∨ 1500 < x) : bit ((s.sampled sensors rails).nat K.govSensorsExcluded) i = true := by
  rw [State.sampled, State.feelHeat_nat _ (by decide) (by decide), State.takeSample_nat, State.readRails_nat _ _ (by decide)]
  exact s.readSensors_excluded hi hx hrange

/-! ## The fast cut (R405) -/

/-- R405: what a fast cut leaves. -/
theorem State.fastCut_leaves (s : State) :
    s.fastCut.clk = s.clk ∧ s.fastCut.gov = { s.gov with effort := [], fastCut := true, fastCutAt := some s.clk.ticks } ∧
      s.fastCut.nat K.govFastCutCount = (s.nat K.govFastCutCount + 1) % 2 ^ 32 ∧
      (∀ k, K.govFastCutCount ≠ k → s.fastCut.nat k = s.nat k) ∧ bit s.fastCut.log.pending 552 = true := by
  unfold State.fastCut
  extract_lets g u
  refine ⟨by simp only [State.raise_fields]; rfl, by simp only [State.raise_fields]; rfl, ?_, fun k hk => ?_,
    State.raise_pending _ (e := { src := 552 }) (by decide)⟩
  · rw [State.raise_nat, State.nat_count, State.nat_bump]
    rfl
  · rw [State.raise_nat, State.nat_count, State.nat_bump_ne _ hk]
    rfl

/-! ## The sample as a whole -/

theorem sensorsLost_congr {s t : State} (h : t.nat K.govSensorsExcluded = s.nat K.govSensorsExcluded) : sensorsLost t = sensorsLost s := by
  rw [sensorsLost, sensorsLost, h]

theorem State.holdLost_nat (s : State) : s.holdLost.nat = s.nat := by
  unfold State.holdLost
  split <;> rfl

theorem State.holdLost_gov (s : State) :
    s.holdLost.clk = s.clk ∧ s.holdLost.gov = { s.gov with effort := if sensorsLost s then [] else s.gov.effort } := by
  unfold State.holdLost
  split <;> exact ⟨rfl, rfl⟩

/-- R405: the fast limit is exceeded. -/
def overFastLimit (s : State) (rails : List Nat) : Prop := s.nat K.govBoardPowerLimit * (100 + s.nat K.govFastCutPercent) < 100 * railSum rails

theorem overFastLimit_sampled (s : State) (sensors : List Int) (rails : List Nat) :
    overFastLimit (s.sampled sensors rails).holdLost rails ↔ overFastLimit s rails := by
  unfold overFastLimit
  rw [State.holdLost_nat, State.sampled_nat _ _ _ (by decide) (by decide) (by decide) (by decide) (by decide),
    State.sampled_nat _ _ _ (by decide) (by decide) (by decide) (by decide) (by decide)]

/-- R400: a sample is counted in P_meas, and its readings show. -/
def SampleCounted (s : State) (sensors : List Int) (rails : List Nat) (t : State) : Prop :=
  t.gov.lastSample = s.clk.ticks ∧ t.gov.samples = s.gov.samples + 1 ∧ t.gov.sumPower = s.gov.sumPower + railSum rails ∧
    (∀ i x, i < 8 → rails[i]? = some x → t.nat (K.govRailPower i) = x % 65536) ∧
    (∀ i x, i < 24 → sensors[i]? = some x → x < -400 ∨ 1500 < x → bit (t.nat K.govSensorsExcluded) i = true)

theorem State.holdLost_sampleCounted (s : State) (sensors : List Int) (rails : List Nat) :
    SampleCounted s sensors rails (s.sampled sensors rails).holdLost := by
  obtain ⟨-, -, -, hlast, hsamples, hsum⟩ := s.sampled_gov sensors rails
  obtain ⟨-, hgov⟩ := (s.sampled sensors rails).holdLost_gov
  refine ⟨by rw [hgov, hlast], by rw [hgov, hsamples], by rw [hgov, hsum], fun i x hi hx => ?_, fun i x hi hx hrange => ?_⟩
  · rw [State.holdLost_nat, s.sampled_rail sensors hi hx]
  · rw [State.holdLost_nat, s.sampled_excluded rails hi hx hrange]

theorem SampleCounted.fastCut {s t : State} {sensors : List Int} {rails : List Nat} (h : SampleCounted s sensors rails t) :
    SampleCounted s sensors rails t.fastCut := by
  obtain ⟨hlast, hsamples, hsum, hrails, hsensors⟩ := h
  obtain ⟨-, hgov, -, hnat, -⟩ := t.fastCut_leaves
  refine ⟨by rw [hgov, hlast], by rw [hgov, hsamples], by rw [hgov, hsum], fun i x hi hx => ?_, fun i x hi hx hrange => ?_⟩
  · have hne : K.govFastCutCount ≠ K.govRailPower i := by
      unfold K.govFastCutCount K.govRailPower objKey
      omega
    rw [hnat _ hne, hrails i x hi hx]
  · rw [hnat _ (by decide), hsensors i x hi hx hrange]

section Sample

variable {s : State} (hclk : s.boot.clocksLost = false) (hspindle : s.boot.spindle = true) (hdue : passed s s.gov.lastSample 100000 = true)
  (sensors : List Int) {rails : List Nat}

include hclk hspindle hdue

/-- R405: a due sample above the fast limit makes a fast cut. -/
theorem governorSample_over (hover : overFastLimit s rails) :
    execGovernorSample sensors rails s = .next (s.sampled sensors rails).holdLost.fastCut := by
  rw [execGovernorSample_of_due hclk hspindle hdue]
  exact congrArg Host.Outcome.next (if_pos ((overFastLimit_sampled s sensors rails).mpr hover))

/-- R405: no other sample does. -/
theorem governorSample_under (hunder : ¬ overFastLimit s rails) :
    execGovernorSample sensors rails s = .next (s.sampled sensors rails).holdLost := by
  rw [execGovernorSample_of_due hclk hspindle hdue]
  exact congrArg Host.Outcome.next (if_neg (mt (overFastLimit_sampled s sensors rails).mp hunder))

end Sample

/-- R405: a fast cut made by a sample. -/
theorem State.sampled_fastCut (s : State) (sensors : List Int) (rails : List Nat) :
    let t := (s.sampled sensors rails).holdLost.fastCut
    (∀ l, effortOf t.gov.effort l = 0) ∧ bit t.log.pending 552 = true ∧ t.gov.fastCut = true ∧ t.gov.fastCutAt = some s.clk.ticks ∧
      t.nat K.govFastCutCount = (s.nat K.govFastCutCount + 1) % 2 ^ 32 := by
  obtain ⟨-, hgov, hcount, -, hpending⟩ := (s.sampled sensors rails).holdLost.fastCut_leaves
  obtain ⟨hclk, -⟩ := s.sampled_gov sensors rails
  obtain ⟨hclk', -⟩ := (s.sampled sensors rails).holdLost_gov
  refine ⟨fun l => by rw [hgov]; rfl, hpending, by rw [hgov], by rw [hgov, hclk', hclk], ?_⟩
  rw [hcount, State.holdLost_nat, State.sampled_nat _ _ _ (by decide) (by decide) (by decide) (by decide) (by decide)]

/-- R400, R405: without a fast cut a sample moves the looms' efforts only where too many sensors are lost. -/
theorem State.sampled_holdLost (s : State) (sensors : List Int) (rails : List Nat) :
    let t := (s.sampled sensors rails).holdLost
    t.gov.fastCut = s.gov.fastCut ∧ (sensorsLost t = false → t.gov.effort = s.gov.effort) ∧
      (sensorsLost t = true → ∀ l, effortOf t.gov.effort l = 0) := by
  intro t
  obtain ⟨-, heffort, hfast, -⟩ := s.sampled_gov sensors rails
  obtain ⟨-, hgov⟩ := (s.sampled sensors rails).holdLost_gov
  have hlost : sensorsLost t = sensorsLost (s.sampled sensors rails) := sensorsLost_congr (by rw [State.holdLost_nat])
  refine ⟨by rw [hgov, hfast], fun h => ?_, fun h l => ?_⟩
  · rw [hgov, ← hlost, h, heffort]
    rfl
  · rw [hgov, ← hlost, h]
    rfl

end Sys2Proof.Machine
end

section
/-!
PROOFS. The Governor's period (spec/14_shuttle_governor.md; R399, R402 to R405): what a period makes of the looms' effort, of P_meas and of ClassGate.
-/

namespace Sys2Proof.Machine

/-! ## What a period starts from -/

/-- R400, R402: a period's end is noted, with what its samples have summed. -/
def State.endMeasure (s : State) : State :=
  let g := s.gov
  { s with gov := { g with measSum := if g.samples = 0 then g.measSum else g.sumPower,
                           measN := if g.samples = 0 then g.measN else g.samples, sumPower := 0, samples := 0,
                           lastPeriod := s.clk.ticks } }

/-- R405, R501: FastCut ends 10 ms after the last fast cut, once no rail is low. -/
def State.releaseCut (s : State) : State :=
  if !railsLow s && (match s.gov.fastCutAt with | some t => passed s t 10000000 | none => true) then
    { s with gov := { s.gov with fastCut := false } }
  else s

/-- R402: P_meas is shown, and an excess over the limit is an event. -/
def State.showPower (s : State) : State :=
  let p := powerMeasured s
  let s := s.setN K.govPowerMeasured (floorN p % 65536)
  if q (s.nat K.govBoardPowerLimit) < p then s.raiseLimited 551 { src := 551 } else s

/-- What a period starts from. -/
def State.periodStart (s : State) : State := s.endMeasure.releaseCut.showPower

/-- R402: the power that the looms may come to. -/
def powerLimit (s : State) : Rat := q (s.nat K.govBoardPowerLimit) - q (s.nat K.govPowerMarginW)

/-- R402: the efforts that the caps allow. -/
def cappedEfforts (s : State) : AMap Nat := (List.range 16).map fun l => (l, min (effortOf s.gov.effort l) (effortCap s l))

/-- R402, R403: the efforts once the power, the thermal state and the lost sensors have lowered them. -/
def loweredEfforts (s : State) (p : Rat) : AMap Nat :=
  let ls := serviceLooms s
  let m1 := if powerLimit s < p then cutPower s ls (powerLimit s) 128 p (cappedEfforts s) else cappedEfforts s
  let m2 := if s.gov.thermal = 1 then ls.foldl lower m1 else m1
  if 2 ≤ s.gov.thermal || sensorsLost s then ls.foldl (fun m l => AMap.put m l 0) m2 else m2

/-- R402, R405: whether a period may raise looms. -/
def mayRaise (s : State) (p : Rat) : Bool :=
  let cool := s.gov.thermal == 0 && decide (s.int K.govJunctionMax < 10 * s.int K.govThermalTargetC - 30)
  !(powerLimit s < p) && cool && !s.gov.fastCut && !sensorsLost s

/-- R402, R404: the efforts that a period comes to. -/
def periodRaising (s : State) (p : Rat) : Raising :=
  let ls := serviceLooms s
  let cut := cutDram s ls (loweredEfforts s p)
  let loaded := decide (s.nat K.govDramLoadCeilingPermille < s.nat K.beamBeamLoadPermille)
  let r0 : Raising := { efforts := cut.1, headroom := powerLimit s - p, held := cut.2 }
  if mayRaise s p then raiseRounds s ls loaded (s.nat K.govRaiseLevelsPerPeriod) r0 else r0

/-- R399, R402, R404: the efforts are in force, and what they have come to is told. -/
def State.periodEnd (s : State) (p : Rat) : State :=
  let ls := serviceLooms s
  let before := cappedEfforts s
  let m3 := loweredEfforts s p
  let m4 := (cutDram s ls m3).1
  let r := periodRaising s p
  let cut := ls.any fun l => decide (effortOf m3 l < effortOf before l)
  let below (l : Nat) : Bool := decide (effortOf r.efforts l < effortCap s l)
  let held := r.held.filter below
  let wanted := ls.any fun l => below l && !held.contains l && (!mayRaise s p || cut || r.stopped)
  let s := { s with gov := { s.gov with effort := r.efforts } }
  let s := if cut then s.raise { src := 548 } else s
  let s := s.setN K.govDramHeldLooms (maskOf 16 held.contains)
  let s := if held.isEmpty then s else s.raise { src := 553 }
  let s := ((s.count 731 1).count 728 ((ls.map fun l => effortOf before l - effortOf m4 l).sum)).count 729
    ((ls.map fun l => effortOf r.efforts l - effortOf m4 l).sum)
  s.setGate (8 * b2n wanted + 4 * b2n (decide (2 ≤ s.gov.thermal) || s.gov.fastCut))

theorem execGovernorPeriod_of_due {s : State} (hclk : s.boot.clocksLost = false) (hspindle : s.boot.spindle = true)
    (hdue : passed s s.gov.lastPeriod (s.nat K.govGovernorPeriodUs * 1000) = true) :
    execGovernorPeriod s = .next (s.periodStart.periodEnd (powerMeasured s.endMeasure.releaseCut)) := by
  rw [execGovernorPeriod, whenClocked_of_clocked hclk]
  exact if_neg (by simp [hspindle, hdue])

/-! ## The state that a period starts from -/

theorem State.releaseCut_leaves (s : State) :
    s.releaseCut.nat = s.nat ∧ s.releaseCut.chan = s.chan ∧ ∃ b, s.releaseCut.gov = { s.gov with fastCut := b } := by
  unfold State.releaseCut
  split <;> split <;> exact ⟨rfl, rfl, _, rfl⟩

/-- R405: within 10 ms of a fast cut FastCut stays as it is. -/
theorem State.releaseCut_early {s : State} {x : Nat} (hat : s.gov.fastCutAt = some x) (hearly : passed s x 10000000 = false) :
    s.releaseCut = s := by
  simp [State.releaseCut, hat, hearly]

theorem State.showPower_leaves (s : State) :
    s.showPower.gov = s.gov ∧ s.showPower.chan = s.chan ∧ s.showPower.nat K.govPowerMeasured = floorN (powerMeasured s) % 65536 ∧
      ∀ k, K.govPowerMeasured ≠ k → s.showPower.nat k = s.nat k := by
  unfold State.showPower
  extract_lets p u
  have hgov : u.gov = s.gov ∧ u.chan = s.chan := ⟨rfl, rfl⟩
  have hshown : u.nat K.govPowerMeasured = floorN p % 65536 := State.nat_setN s _ _
  have hnat : ∀ k, K.govPowerMeasured ≠ k → u.nat k = s.nat k := fun k hk => State.nat_setN_ne s _ hk
  clear_value u
  split
  · simp only [State.raiseLimited_fields, State.raiseLimited_accessors]
    exact ⟨hgov.1, hgov.2, hshown, hnat⟩
  · exact ⟨hgov.1, hgov.2, hshown, hnat⟩

/-- What a period starts from: the Governor's state with its measure ended, the channels, and every object but PowerMeasured. -/
theorem State.periodStart_leaves (s : State) :
    (∃ b, s.periodStart.gov = { s.endMeasure.gov with fastCut := b }) ∧ s.periodStart.chan = s.chan ∧
      ∀ k, K.govPowerMeasured ≠ k → s.periodStart.nat k = s.nat k := by
  obtain ⟨hgov, hchan, -, hnat⟩ := s.endMeasure.releaseCut.showPower_leaves
  obtain ⟨hnat', hchan', b, hgov'⟩ := s.endMeasure.releaseCut_leaves
  refine ⟨⟨b, hgov.trans hgov'⟩, hchan.trans hchan', fun k hk => ?_⟩
  rw [State.periodStart, hnat k hk, hnat']
  rfl

/-- R402: P_meas of a period with samples is their mean. -/
theorem powerMeasured_endMeasure {s : State} (h : s.gov.samples ≠ 0) :
    powerMeasured s.endMeasure.releaseCut = q s.gov.sumPower / q s.gov.samples := by
  obtain ⟨-, -, b, hgov⟩ := s.endMeasure.releaseCut_leaves
  have hmax : max 1 s.gov.samples = s.gov.samples := by omega
  unfold powerMeasured
  rw [hgov]
  simp only [State.endMeasure, if_neg h, hmax]

/-- A loom's cap is told by the objects and the channels. -/
theorem effortCap_congr {s t : State} (hcap : ∀ l, t.nat (K.govLoomEffortCap l) = s.nat (K.govLoomEffortCap l))
    (hmax : ∀ c, c < 16 → t.nat (K.loomMaxEffort c) = s.nat (K.loomMaxEffort c)) (hchan : t.chan = s.chan) (l : Nat) :
    effortCap t l = effortCap s l := by
  have hchans : loomChannels t l = loomChannels s l := by rw [loomChannels, hchan, loomChannels]
  have hmap : (loomChannels s l).map (fun c => t.nat (K.loomMaxEffort c)) = (loomChannels s l).map fun c => s.nat (K.loomMaxEffort c) :=
    List.map_congr_left fun c hc => hmax c (List.mem_range.mp (List.mem_of_mem_filter hc))
  rw [effortCap, hcap, hchans, hmap, effortCap]

theorem serviceLooms_congr {s t : State} (h : ∀ l, l < 16 → t.nat (K.loomGLoomState l) = s.nat (K.loomGLoomState l)) :
    serviceLooms t = serviceLooms s :=
  List.filter_congr fun l hl => by rw [h l (List.mem_range.mp hl)]

theorem State.periodStart_effortCap (s : State) (l : Nat) : effortCap s.periodStart l = effortCap s l := by
  obtain ⟨-, hchan, hnat⟩ := s.periodStart_leaves
  refine effortCap_congr (fun l => hnat _ ?_) (fun c hc => hnat _ ?_) hchan l
  · unfold K.govPowerMeasured K.govLoomEffortCap objKey
    omega
  · unfold K.govPowerMeasured K.loomMaxEffort objKey
    omega

theorem State.periodStart_serviceLooms (s : State) : serviceLooms s.periodStart = serviceLooms s := by
  obtain ⟨-, -, hnat⟩ := s.periodStart_leaves
  refine serviceLooms_congr fun l hl => hnat _ ?_
  unfold K.govPowerMeasured K.loomGLoomState objKey
  omega

theorem State.periodStart_sensorsLost (s : State) : sensorsLost s.periodStart = sensorsLost s :=
  sensorsLost_congr (s.periodStart_leaves.2.2 _ (by decide))

/-! ## The efforts of a period -/

theorem serviceLooms_nodup (s : State) : (serviceLooms s).Nodup := List.nodup_range.filter _

/-- A map made from a list of keys. -/
theorem AMap.find?_map_keys {α : Type} (f : Nat → α) (ks : List Nat) (k : Nat) :
    AMap.find? (ks.map fun j => (j, f j)) k = if k ∈ ks then some (f k) else none := by
  induction ks with
  | nil => rfl
  | cons j ks ih =>
    rw [List.map_cons, AMap.find?, ih]
    by_cases hj : j = k
    · simp [hj]
    · simp [hj, Ne.symm hj]

theorem effortOf_capped (s : State) (l : Nat) :
    effortOf (cappedEfforts s) l ≤ effortCap s l ∧ effortOf (cappedEfforts s) l ≤ effortOf s.gov.effort l := by
  have h : effortOf (cappedEfforts s) l = if l < 16 then min (effortOf s.gov.effort l) (effortCap s l) else 0 := by
    rw [effortOf, cappedEfforts, AMap.getD, AMap.find?_map_keys fun l => min (effortOf s.gov.effort l) (effortCap s l)]
    simp only [List.mem_range]
    split <;> rfl
  rw [h]
  split
  · exact ⟨Nat.min_le_right _ _, Nat.min_le_left _ _⟩
  · exact ⟨Nat.zero_le _, Nat.zero_le _⟩

/-- R402, R403: looms are only lowered before the raises. -/
theorem loweredEfforts_atMost (s : State) (p : Rat) : EffortsAtMost (loweredEfforts s p) (cappedEfforts s) := by
  unfold loweredEfforts
  extract_lets ls m1 m2
  have h1 : EffortsAtMost m1 (cappedEfforts s) := by
    unfold m1
    split
    · exact cutPower_atMost _ _ _ _ _ _
    · exact EffortsAtMost.refl _
  have h2 : EffortsAtMost m2 (cappedEfforts s) := by
    unfold m2
    split
    · exact (effortsAtMost_foldl lower_atMost ls m1).trans h1
    · exact h1
  split
  · exact (effortsAtMost_foldl (fun m l => effortsAtMost_put (Nat.zero_le (effortOf m l))) ls m2).trans h2
  · exact h2

theorem cutEfforts_atMost (s : State) (p : Rat) : EffortsAtMost (cutDram s (serviceLooms s) (loweredEfforts s p)).1 (cappedEfforts s) :=
  (cutDram_atMost s _ _).trans (loweredEfforts_atMost s p)

/-- R402: a period leaves a loom within its cap, and raised by RaiseLevelsPerPeriod at most. -/
theorem periodRaising_bounds (s : State) (p : Rat) (l : Nat) :
    effortOf (periodRaising s p).efforts l ≤ effortCap s l ∧
      effortOf (periodRaising s p).efforts l ≤ effortOf s.gov.effort l + s.nat K.govRaiseLevelsPerPeriod := by
  obtain ⟨hcap, heffort⟩ := effortOf_capped s l
  have hcut := cutEfforts_atMost s p l
  unfold periodRaising
  extract_lets ls cut loaded r0
  split
  · obtain ⟨hle, hin⟩ := raiseRounds_raisedBy s (serviceLooms_nodup s) loaded (s.nat K.govRaiseLevelsPerPeriod) r0 l
    exact ⟨hin (hcut.trans hcap), hle.trans (Nat.add_le_add_right (hcut.trans heffort) _)⟩
  · exact ⟨hcut.trans hcap, Nat.le_add_right_of_le (hcut.trans heffort)⟩

/-- R405: where no loom may be raised none is. -/
theorem periodRaising_held {s : State} {p : Rat} (h : mayRaise s p = false) :
    EffortsAtMost (periodRaising s p).efforts s.gov.effort := by
  intro l
  unfold periodRaising
  simp only [h]
  exact (cutEfforts_atMost s p l).trans (effortOf_capped s l).2

/-- R400, R403: in Floor and Ceiling, and with too many sensors lost, every loom in service stands at effort 0. -/
theorem periodRaising_floor {s : State} {p : Rat} (h : 2 ≤ s.gov.thermal ∨ sensorsLost s = true) {l : Nat} (hl : l ∈ serviceLooms s) :
    effortOf (periodRaising s p).efforts l = 0 := by
  have hmay : mayRaise s p = false := by
    rcases h with h | h
    · have hne : s.gov.thermal ≠ 0 := by omega
      simp [mayRaise, hne]
    · simp [mayRaise, h]
  have hguard : (decide (2 ≤ s.gov.thermal) || sensorsLost s) = true := by simpa using h
  have hcut := cutDram_atMost s (serviceLooms s) (loweredEfforts s p) l
  have hfloor : effortOf (loweredEfforts s p) l = 0 := by
    unfold loweredEfforts
    simp only [hguard, if_true]
    exact effortOf_floored hl _
  unfold periodRaising
  simp only [hmay]
  exact Nat.le_zero.mp (hcut.trans (Nat.le_of_eq hfloor))

/-! ## The end of a period -/

theorem State.regate_leaves (s : State) (t : Nat) : (s.regate t).gov = s.gov ∧ (s.regate t).nat = s.nat := by
  unfold State.regate
  dsimp only
  split
  · exact ⟨rfl, rfl⟩
  · split <;> exact ⟨rfl, rfl⟩

/-- R399: ClassGate is what is asked for, and beside it no object and nothing of the Governor's moves. -/
theorem State.setGate_leaves (s : State) (g : Nat) :
    (s.setGate g).gov = s.gov ∧ (s.setGate g).nat K.govClassGate = g ∧ ∀ k, K.govClassGate ≠ k → (s.setGate g).nat k = s.nat k := by
  unfold State.setGate
  split
  · rename_i h
    exact ⟨rfl, h, fun _ _ => rfl⟩
  · extract_lets u
    have hgov := foldl_view (view := State.gov) (fun v t => (State.regate_leaves v t).1) (u.shtl.threads.map (·.1)) u
    have hnat := foldl_view (view := State.nat) (fun v t => (State.regate_leaves v t).2) (u.shtl.threads.map (·.1)) u
    have hu : u.gov = s.gov ∧ u.nat = (s.setN K.govClassGate g).nat := ⟨by simp [u], State.raise_nat _ _⟩
    rw [hgov, hnat, hu.1, hu.2]
    exact ⟨rfl, State.nat_setN s _ _, fun k hk => State.nat_setN_ne s _ hk⟩

/-- R399, R402, R404: the end of a period. -/
theorem State.periodEnd_leaves (s : State) (p : Rat) :
    (s.periodEnd p).gov = { s.gov with effort := (periodRaising s p).efforts } ∧
      (∃ wanted, (s.periodEnd p).nat K.govClassGate = 8 * b2n wanted + 4 * b2n (decide (2 ≤ s.gov.thermal) || s.gov.fastCut)) ∧
      ∀ k, K.govDramHeldLooms ≠ k → K.govClassGate ≠ k → (s.periodEnd p).nat k = s.nat k := by
  unfold State.periodEnd
  extract_lets ls before m3 m4 r cut below held wanted g s1 s2 s3 s4 s5
  have h2 : s2.gov = s1.gov ∧ s2.nat = s1.nat := by
    unfold s2
    split
    · exact ⟨by simp, State.raise_nat _ _⟩
    · exact ⟨rfl, rfl⟩
  clear_value s2
  have h4 : s4.gov = s3.gov ∧ s4.nat = s3.nat := by
    unfold s4
    split
    · exact ⟨rfl, rfl⟩
    · exact ⟨by simp, State.raise_nat _ _⟩
  clear_value s4
  obtain ⟨hgov, hgate, hnat⟩ := s5.setGate_leaves (8 * b2n wanted + 4 * b2n (decide (2 ≤ s5.gov.thermal) || s5.gov.fastCut))
  have hgov5 : s5.gov = s1.gov := h4.1.trans h2.1
  refine ⟨hgov.trans hgov5, ⟨wanted, ?_⟩, fun k hheld hk => ?_⟩
  · rw [hgate, hgov5]
  · calc _ = s4.nat k := hnat k hk
      _ = s3.nat k := by rw [h4.2]
      _ = s2.nat k := State.nat_setN_ne s2 _ hheld
      _ = s.nat k := by rw [h2.2]; rfl

/-- ClassGate's bit for class 2 (R399). -/
theorem bit_classGate (a b : Bool) : bit (8 * b2n a + 4 * b2n b) 2 = b := by
  cases a <;> cases b <;> rfl

/-- R403: Ceiling is entered. -/
theorem State.toThermal_leaves (s : State) (n : Nat) (h : s.gov.thermal ≠ n) :
    (s.toThermal n).gov = { s.gov with thermal := n } ∧ (s.toThermal n).nat K.govThermalState = n := by
  unfold State.toThermal
  extract_lets old g u
  have hu : u.gov = { s.gov with thermal := n } ∧ u.nat K.govThermalState = n := ⟨rfl, State.nat_setN _ _ _⟩
  rw [if_neg h]
  split
  · rw [State.raise_nat]
    exact ⟨(by simp : (u.raise { src := 549 }).gov = u.gov).trans hu.1, hu.2⟩
  · exact hu

/-- R402: a due period. -/
theorem governorPeriod_leaves (s : State) :
    let t := s.periodStart.periodEnd (powerMeasured s.endMeasure.releaseCut)
    t.gov.lastPeriod = s.clk.ticks ∧ t.gov.samples = 0 ∧ t.gov.sumPower = 0 ∧ t.gov.thermal = s.gov.thermal ∧
      (s.gov.samples ≠ 0 → t.nat K.govPowerMeasured = floorN (q s.gov.sumPower / q s.gov.samples) % 65536) ∧
      (∀ l, effortOf t.gov.effort l ≤ effortCap s l ∧ effortOf t.gov.effort l ≤ effortOf s.gov.effort l + s.nat K.govRaiseLevelsPerPeriod) ∧
      (2 ≤ s.gov.thermal ∨ sensorsLost s = true → ∀ l ∈ serviceLooms s, effortOf t.gov.effort l = 0) ∧
      bit (t.nat K.govClassGate) 2 = (decide (2 ≤ s.gov.thermal) || t.gov.fastCut) := by
  intro t
  obtain ⟨⟨cut, hstart⟩, -, hnat⟩ := s.periodStart_leaves
  obtain ⟨hgov, ⟨wanted, hgate⟩, hkeep⟩ := s.periodStart.periodEnd_leaves (powerMeasured s.endMeasure.releaseCut)
  have heffort : s.periodStart.gov.effort = s.gov.effort := by rw [hstart]; rfl
  have hthermal : s.periodStart.gov.thermal = s.gov.thermal := by rw [hstart]; rfl
  have htgov : t.gov = _ := hgov
  refine ⟨by rw [htgov, hstart]; rfl, by rw [htgov, hstart]; rfl, by rw [htgov, hstart]; rfl, by rw [htgov, hstart]; rfl, fun hn => ?_,
    fun l => ?_, fun hfloor l hl => ?_, ?_⟩
  · have hshown : s.periodStart.nat K.govPowerMeasured = _ := s.endMeasure.releaseCut.showPower_leaves.2.2.1
    rw [hkeep _ (by decide) (by decide), hshown, powerMeasured_endMeasure hn]
  · have hbounds := periodRaising_bounds s.periodStart (powerMeasured s.endMeasure.releaseCut) l
    rw [s.periodStart_effortCap, heffort, hnat _ (by decide)] at hbounds
    rwa [htgov]
  · rw [htgov]
    rw [← hthermal, ← s.periodStart_sensorsLost] at hfloor
    rw [← s.periodStart_serviceLooms] at hl
    exact periodRaising_floor hfloor hl
  · rw [hgate, bit_classGate, htgov, hthermal]

/-- Settles O49: what a sample, a period and the entry into Ceiling leave. -/
theorem governorKeepsItsLimits : Obligations.GovernorKeepsItsLimits := by
  unfold Obligations.GovernorKeepsItsLimits
  refine ⟨fun s sensors rails hspindle hdue hclk => ?_, fun s hspindle hdue hclk => ?_, fun s x hsince hthermal hpassed hclk => ?_⟩
  · by_cases hover : overFastLimit s rails
    · obtain ⟨hlast, hsamples, hsum, hrails, hsensors⟩ := (s.holdLost_sampleCounted sensors rails).fastCut
      obtain ⟨hfloor, -, hcut, -, hcount⟩ := s.sampled_fastCut sensors rails
      exact ⟨_, governorSample_over hclk hspindle hdue sensors hover, hlast, hsamples, hsum, hrails, hsensors,
        fun _ => ⟨hcut, hcount, hfloor⟩, fun hunder => absurd hover (Nat.not_lt.mpr hunder)⟩
    · obtain ⟨hlast, hsamples, hsum, hrails, hsensors⟩ := s.holdLost_sampleCounted sensors rails
      exact ⟨_, governorSample_under hclk hspindle hdue sensors hover, hlast, hsamples, hsum, hrails, hsensors,
        fun h => absurd h hover, fun _ => s.sampled_holdLost sensors rails⟩
  · exact ⟨_, execGovernorPeriod_of_due hclk hspindle hdue, governorPeriod_leaves s⟩
  · let u : State := { s with gov := { s.gov with ceilingSince := none } }
    have hne : u.gov.thermal ≠ 3 := by
      show s.gov.thermal ≠ 3
      omega
    obtain ⟨hgov, hshown⟩ := u.toThermal_leaves 3 hne
    refine ⟨(u.toThermal 3).raise { src := 550 }, ?_, ?_, ?_, State.raise_pending _ (e := { src := 550 }) (by decide), ?_⟩
    · show execThermalCeilingEntry s = _
      rw [execThermalCeilingEntry, whenClocked_of_clocked hclk]
      simp [hsince, hthermal, hpassed, u]
    · simp [hgov]
    · rw [State.raise_nat, hshown]
    · simp [hgov, u]

/-- Settles O50: a sample above the fast limit makes a fast cut, and while its 10 ms run no period may raise a loom. -/
theorem fastCuts : Obligations.FastCuts := by
  unfold Obligations.FastCuts
  refine ⟨fun s sensors rails hspindle hdue hover hclk => ?_, fun s x hcut hat hearly hclk => ?_⟩
  · obtain ⟨hfloor, hpending, hfast, hsince, -⟩ := s.sampled_fastCut sensors rails
    exact ⟨_, governorSample_over hclk hspindle hdue sensors hover, hfloor, hpending, hfast, hsince⟩
  · cases hidle : !s.boot.spindle || !passed s s.gov.lastPeriod (s.nat K.govGovernorPeriodUs * 1000) with
    | false =>
      simp only [Bool.or_eq_false_iff, Bool.not_eq_false'] at hidle
      obtain ⟨hspindle, hpassed⟩ := hidle
      refine ⟨_, execGovernorPeriod_of_due hclk hspindle hpassed, ?_⟩
      have hstart : s.periodStart.gov = s.endMeasure.gov := by
        have hearly' : s.endMeasure.releaseCut = s.endMeasure := State.releaseCut_early hat hearly
        rw [State.periodStart, (State.showPower_leaves _).1, hearly']
      obtain ⟨hgov, -⟩ := s.periodStart.periodEnd_leaves (powerMeasured s.endMeasure.releaseCut)
      have hmay : mayRaise s.periodStart (powerMeasured s.endMeasure.releaseCut) = false := by
        have hfast : s.periodStart.gov.fastCut = true := by rw [hstart]; exact hcut
        simp [mayRaise, hfast]
      refine ⟨fun l => ?_, by rw [hgov, hstart]; exact hcut, by rw [hgov, hstart]; exact hat⟩
      have hheld := periodRaising_held hmay l
      rw [hstart] at hheld
      rw [hgov]
      exact hheld
    | true =>
      refine ⟨s, ?_, fun l => Nat.le_refl _, hcut, hat⟩
      show execGovernorPeriod s = _
      rw [execGovernorPeriod, whenClocked_of_clocked hclk]
      exact if_pos hidle

end Sys2Proof.Machine
end

section
/-!
PROOFS. The Shuttle's threads and cores (spec/14_shuttle_governor.md; R390 to R399, R438): what each operation on a thread, a ready list or a core
leaves of the others, and the ten commands of a core.
-/

namespace Sys2Proof.Machine

/-! ## One rule for each operation -/

/-- Of the threads only one may differ. -/
def OnlyThread (s t : State) (n : Nat) : Prop := ∀ y, y ≠ n → t.thread y = s.thread y

theorem OnlyThread.refl (s : State) (n : Nat) : OnlyThread s s n := fun _ _ => rfl

theorem OnlyThread.trans {s t u : State} {n : Nat} (h : OnlyThread s t n) (h' : OnlyThread t u n) : OnlyThread s u n :=
  fun y hy => (h' y hy).trans (h y hy)

theorem State.setThread_only (s : State) (n : Nat) (x : Thread) : OnlyThread s (s.setThread n x) n :=
  fun _ hy => State.thread_setThread_ne s n x hy.symm

/-- The ready lists, the bindings and the intake: what of the Shuttle stands beside the threads and the cores. -/
def State.shuttleLists (s : State) : AMap (List Nat) × AMap Nat × List Nat := (s.shtl.ready, s.shtl.bound, s.shtl.intake)

theorem readyList_of_lists {s t : State} (h : t.shuttleLists = s.shuttleLists) (level : Nat) : readyList t level = readyList s level := by
  have hready : t.shtl.ready = s.shtl.ready := (congrArg Prod.fst h :)
  rw [readyList, hready, readyList]

/-- A core's running thread has left it: only its time on the core has changed. -/
theorem State.leaveCore_leaves {s : State} {c u : Nat} (h : (s.core c).running = some u) :
    OnlyThread s (s.leaveCore c) u ∧ (∃ n, (s.leaveCore c).thread u = { s.thread u with runTimeTicks := n }) ∧
      ((s.leaveCore c).core c).running = none ∧ (s.leaveCore c).shuttleLists = s.shuttleLists := by
  unfold State.leaveCore
  simp only [h]
  refine ⟨fun y hy => ?_, ?_, by rw [State.core_setCore], rfl⟩
  · rw [State.setCore_accessors, State.thread_setThread_ne _ _ _ hy.symm]
  · exact ⟨_, by rw [State.setCore_accessors, State.thread_setThread]⟩

/-- R396, R438: a thread has ended. -/
theorem State.cancelled_leaves (s : State) (n : Nat) :
    OnlyThread s (s.cancelled n) n ∧ ((s.cancelled n).thread n).state = .cancelled ∧ (s.cancelled n).core = s.core ∧
      (s.cancelled n).shuttleLists = s.shuttleLists := by
  unfold State.cancelled
  refine ⟨State.setThread_only s n _, ?_, rfl, rfl⟩
  rw [State.thread_setThread]

/-- R399: a thread that stands in a ready list is gated or released there; nothing else of it changes but its count and its time. -/
theorem State.regate_keeps (s : State) (n : Nat) :
    OnlyThread s (s.regate n) n ∧ (s.regate n).core = s.core ∧ (s.regate n).shuttleLists = s.shuttleLists ∧
      ∃ st d i, (s.regate n).thread n = { s.thread n with state := st, deferCount := d, since := i } ∧
        isQueued { s.thread n with state := st } = isQueued (s.thread n) := by
  unfold State.regate
  extract_lets x
  split
  · rename_i h
    simp only [Bool.and_eq_true, decide_eq_true_eq] at h
    obtain ⟨⟨hready, -⟩, -⟩ := h
    exact ⟨State.setThread_only s n _, rfl, rfl, .deferred, _, _, State.thread_setThread s n _, by simp [isQueued, ← hready, x]⟩
  · split
    · rename_i h
      simp only [Bool.and_eq_true, decide_eq_true_eq] at h
      obtain ⟨hdeferred, -⟩ := h
      exact ⟨State.setThread_only s n _, rfl, rfl, .ready, x.deferCount, _, State.thread_setThread s n _, by simp [isQueued, ← hdeferred, x]⟩
    · exact ⟨OnlyThread.refl s n, rfl, rfl, x.state, x.deferCount, x.since, rfl, rfl⟩

/-- R391, R393: a thread stands in its ready list, at its tail or at its head. -/
theorem State.makeReady_leaves (s : State) (n : Nat) (head : Bool) :
    OnlyThread s (s.makeReady n head) n ∧ (s.makeReady n head).core = s.core ∧ (s.makeReady n head).shtl.bound = s.shtl.bound ∧
      (s.makeReady n head).shtl.intake = s.shtl.intake ∧
      readyList (s.makeReady n head) (s.thread n).priority =
        (if head then n :: readyList s (s.thread n).priority else readyList s (s.thread n).priority ++ [n]) ∧
      ∃ st d i r, (s.makeReady n head).thread n = { s.thread n with state := st, deferCount := d, since := i, readySeq := r } ∧
        isQueued ((s.makeReady n head).thread n) = true := by
  unfold State.makeReady
  extract_lets x u l sh v
  have hu : OnlyThread s v n := State.setThread_only s n _
  obtain ⟨honly, hcore, hlists, st, d, i, hthread, hqueued⟩ := v.regate_keeps n
  have hv : v.thread n = { x with state := .ready, since := s.clk.ticks, readySeq := if head then x.readySeq else s.shtl.nextSeq } :=
    State.thread_setThread s n _
  refine ⟨hu.trans honly, hcore, (congrArg (fun y => y.2.1) hlists :), (congrArg (fun y => y.2.2) hlists :), ?_, ?_⟩
  · rw [readyList_of_lists hlists]
    exact AMap.getD_put_self _ _ _ _
  · rw [hv] at hthread hqueued
    exact ⟨st, d, i, _, hthread, by rw [hthread]; exact hqueued⟩

/-- A thread has left the ready list of its level. -/
theorem State.readyList_unqueue (s : State) (n level : Nat) :
    readyList (s.unqueue n) level =
      if level = (s.thread n).priority then (readyList s level).filter (· != n) else readyList s level := by
  unfold readyList State.unqueue AMap.upd
  split
  · rename_i h
    rw [h, AMap.getD_put_self]
  · rename_i h
    rw [AMap.getD_put_ne _ _ _ (Ne.symm h)]

/-- R396: a Running thread is marked to end. -/
theorem State.cancelThread_running {s : State} {n : Nat} (h : (s.thread n).state = .running) :
    OnlyThread s (s.cancelThread n) n ∧ ((s.cancelThread n).thread n).cancelPending = true ∧ ((s.cancelThread n).thread n).state = .running := by
  unfold State.cancelThread
  simp only [h]
  split
  · rename_i hpending
    exact ⟨OnlyThread.refl s n, hpending, h⟩
  · refine ⟨State.setThread_only s n _, ?_⟩
    rw [State.thread_setThread]
    exact ⟨rfl, rfl⟩

/-- R396: a Blocked thread, or one in a ready list, ends, and leaves the list. -/
theorem State.cancelThread_waiting {s : State} {n : Nat} (h : (s.thread n).state = .blocked ∨ isQueued (s.thread n) = true) :
    OnlyThread s (s.cancelThread n) n ∧ ((s.cancelThread n).thread n).state = .cancelled ∧
      (isQueued (s.thread n) = true → n ∉ readyList (s.cancelThread n) (s.thread n).priority) := by
  obtain ⟨honly, hended, -, hlists⟩ := (s.unqueue n).cancelled_leaves n
  have hgone : n ∉ readyList ((s.unqueue n).cancelled n) (s.thread n).priority := by
    rw [readyList_of_lists hlists, State.readyList_unqueue, if_pos rfl]
    simp
  unfold State.cancelThread
  cases hstate : (s.thread n).state with
  | blocked =>
    obtain ⟨honly', hended', -, -⟩ := s.cancelled_leaves n
    simp only [hstate]
    exact ⟨honly', hended', fun hq => by simp [isQueued, hstate] at hq⟩
  | ready =>
    simp only [hstate]
    exact ⟨honly, hended, fun _ => hgone⟩
  | deferred =>
    simp only [hstate]
    exact ⟨honly, hended, fun _ => hgone⟩
  | free => simp [isQueued, hstate] at h
  | running => simp [isQueued, hstate] at h
  | cancelled => simp [isQueued, hstate] at h

/-- R392: a thread's binding is removed. -/
theorem State.unbind_leaves (s : State) (n : Nat) :
    OnlyThread s (s.unbind n) n ∧ (s.unbind n).core = s.core ∧ ∀ b ∈ (s.unbind n).shtl.bound, b.2 ≠ n := by
  unfold State.unbind
  refine ⟨State.setThread_only _ n _, rfl, fun b hb => ?_⟩
  simpa using (List.mem_filter.mp hb).2

/-- A pair of a map with one key set is the new one or was there. -/
theorem AMap.mem_put {α : Type} {m : AMap α} {k : Nat} {v : α} {b : Nat × α} (h : b ∈ AMap.put m k v) : b = (k, v) ∨ b ∈ m := by
  induction m with
  | nil => exact .inl (List.mem_singleton.mp h)
  | cons e m ih =>
    unfold AMap.put at h
    split at h
    · exact (List.mem_cons.mp h).imp_right id
    · split at h
      · exact (List.mem_cons.mp h).imp_right (List.mem_cons_of_mem _)
      · rcases List.mem_cons.mp h with h | h
        · exact .inr (by simp [h])
        · exact (ih h).imp_right (List.mem_cons_of_mem _)

/-- R392: a command's result stands at its core. -/
theorem State.result_leaves (s : State) (c code n : Nat) :
    ((s.result c code n).core c).resultDone = true ∧ ((s.result c code n).core c).resultCode = code ∧
      ((s.result c code n).core c).resultThread = n ∧ ((s.result c code n).core c).running = (s.core c).running ∧
      (s.result c code n).thread = s.thread ∧ (s.result c code n).shtl.threads = s.shtl.threads ∧
      (s.result c code n).shuttleLists = s.shuttleLists := by
  unfold State.result
  rw [State.core_setCore]
  exact ⟨rfl, rfl, rfl, rfl, rfl, rfl, rfl⟩

/-! ## A command of a core (R392, R396) -/

/-- R438: the core has issued a command. -/
def State.issued (s : State) (c : Nat) : State := s.setCore c { s.core c with lastCommand := s.clk.ticks }

theorem State.issued_leaves (s : State) (c : Nat) :
    (s.issued c).thread = s.thread ∧ ((s.issued c).core c).running = (s.core c).running ∧ (s.issued c).shuttleLists = s.shuttleLists ∧
      (s.issued c).shtl.threads = s.shtl.threads := by
  unfold State.issued
  rw [State.core_setCore]
  exact ⟨rfl, rfl, rfl, rfl⟩

/-- R438: a frozen core issues no command. -/
theorem State.coreCommand_frozen {s : State} {c : Nat} (h : s.isFrozen (2 + c) = true) (f : State → State) : s.coreCommand c f = s :=
  if_pos (by simp [h])

/-- R396: a running thread that is to be cancelled ends at its core's next command. -/
theorem State.coreCommand_cancels {s : State} {c u : Nat} (hfrozen : s.isFrozen (2 + c) = false) (hspindle : s.boot.spindle = true)
    (hrun : (s.core c).running = some u) (hcancel : (s.thread u).cancelPending = true) (f : State → State) :
    s.coreCommand c f = f (((s.issued c).leaveCore c).cancelled u) := by
  obtain ⟨hthread, hrunning, -, -⟩ := s.issued_leaves c
  rw [← hrunning] at hrun
  rw [← hthread] at hcancel
  unfold State.coreCommand
  rw [if_neg (by simp [hfrozen, hspindle])]
  exact congrArg f (by simp only [State.issued] at hrun hcancel ⊢; simp only [hrun, hcancel, if_true])

/-- R392: any other command acts at once. -/
theorem State.coreCommand_acts {s : State} {c : Nat} (hfrozen : s.isFrozen (2 + c) = false) (hspindle : s.boot.spindle = true)
    (hkept : ∀ u, (s.core c).running = some u → (s.thread u).cancelPending = false) (f : State → State) :
    s.coreCommand c f = f (s.issued c) := by
  obtain ⟨hthread, hrunning, -, -⟩ := s.issued_leaves c
  unfold State.coreCommand
  rw [if_neg (by simp [hfrozen, hspindle])]
  refine congrArg f ?_
  cases hrun : (s.core c).running with
  | none =>
    rw [hrun] at hrunning
    simp only [State.issued] at hrunning ⊢
    simp only [hrunning]
  | some u =>
    have hkeep := hkept u hrun
    rw [hrun] at hrunning
    simp only [State.issued] at hrunning ⊢
    simp only [hrunning, State.setCore_accessors, hkeep]
    rfl

/-- R392: the result that a command has left at its core. -/
def Answered (t : State) (c code n : Nat) : Prop :=
  (t.core c).resultDone = true ∧ (t.core c).resultCode = code ∧ (t.core c).resultThread = n

theorem State.result_answered (s : State) (c code n : Nat) : Answered (s.result c code n) c code n := by
  obtain ⟨hdone, hcode, hthread, -⟩ := s.result_leaves c code n
  exact ⟨hdone, hcode, hthread⟩

/-- A result leaves every thread. -/
theorem OnlyThread.result {s t : State} {n : Nat} (h : OnlyThread s t n) (c code m : Nat) : OnlyThread s (t.result c code m) n := h

/-- The test with which a command refuses a thread that is Free or has ended. -/
theorem live_guard {x : Thread} (hfree : x.state ≠ .free) (hended : x.state ≠ .cancelled) :
    ¬ (decide (x.state = .free) || decide (x.state = .cancelled)) = true := by
  simpa using ⟨hfree, hended⟩

/-! ## The ten commands (R392) -/

section Commands

variable {s : State} {c : CoreId} (hfrozen : s.isFrozen (2 + c.val) = false) (hspindle : s.boot.spindle = true)
  (hkept : ∀ u, (s.core c.val).running = some u → (s.thread u).cancelPending = false)

include hfrozen hspindle hkept

/-- CREATE takes the lowest Free context. -/
theorem create_free {x : Nat} (hx : lowestFree s = some x) (level cls mask : Nat) :
    Completes (.create c level cls mask) s fun t =>
      Answered t c.val 0 x ∧ OnlyThread s t x ∧ (t.thread x).state = .blocked ∧ (t.thread x).priority = level % 64 ∧
        (t.thread x).cls = cls % 4 ∧ (t.thread x).affinity = mask % 256 ∧ (t.thread x).wakeCount = 0 := by
  intro hclk
  have hx' : lowestFree (s.issued c.val) = some x := hx
  show ∃ t, execCreate c level cls mask s = .next t ∧ _
  rw [execCreate, whenClocked_of_clocked hclk]
  dsimp only
  rw [State.coreCommand_acts hfrozen hspindle hkept, hx']
  refine ⟨_, rfl, State.result_answered _ _ _ _, State.setThread_only _ x _, ?_⟩
  obtain ⟨-, -, -, -, hthread, -⟩ := State.result_leaves _ c.val 0 x
  rw [hthread, State.thread_setThread]
  exact ⟨rfl, rfl, rfl, rfl, rfl⟩

/-- CREATE without a Free context is refused. -/
theorem create_refused (hx : lowestFree s = none) (level cls mask : Nat) :
    Completes (.create c level cls mask) s fun t => Answered t c.val 1 0 ∧ t.shtl.threads = s.shtl.threads ∧
      t.nat K.shtlCreateRefused = (s.nat K.shtlCreateRefused + 1) % 2 ^ 32 := by
  intro hclk
  have hx' : lowestFree (s.issued c.val) = none := hx
  show ∃ t, execCreate c level cls mask s = .next t ∧ _
  rw [execCreate, whenClocked_of_clocked hclk]
  dsimp only
  rw [State.coreCommand_acts hfrozen hspindle hkept, hx']
  refine ⟨_, rfl, ?_, ?_, ?_⟩
  · unfold Answered
    simp only [State.raiseLimited_accessors]
    exact State.result_answered _ _ _ _
  · simp only [State.raiseLimited_fields]
    rfl
  · simp only [State.raiseLimited_accessors]
    exact State.nat_bump (s.issued c.val) _

/-- BLOCK with no wake held: the thread becomes Blocked and leaves its core. -/
theorem block_blocks {u : Nat} (hrun : (s.core c.val).running = some u) (hwakes : (s.thread u).wakeCount = 0) :
    Completes (.block c) s fun t =>
      Answered t c.val 0 u ∧ OnlyThread s t u ∧ (t.thread u).state = .blocked ∧ (t.core c.val).running = none := by
  intro hclk
  obtain ⟨hthread, hrunning, -, -⟩ := s.issued_leaves c.val
  rw [← hrunning] at hrun
  rw [← hthread] at hwakes
  obtain ⟨honly, -, hleft, -⟩ := State.leaveCore_leaves hrun
  show ∃ t, execBlock c s = .next t ∧ _
  rw [execBlock, whenClocked_of_clocked hclk]
  dsimp only
  rw [State.coreCommand_acts hfrozen hspindle hkept, hrun]
  dsimp only
  rw [if_pos hwakes]
  refine ⟨_, rfl, State.result_answered _ _ _ _, (honly.trans (State.setThread_only _ u _)).result _ _ _, ?_⟩
  obtain ⟨-, -, -, hkeeps, hresult, -⟩ := State.result_leaves _ c.val 0 u
  rw [hresult, hkeeps, State.thread_setThread, State.setThread_accessors]
  exact ⟨rfl, hleft⟩

/-- BLOCK that consumes a wake: the thread goes on. -/
theorem block_consumes {u : Nat} (hrun : (s.core c.val).running = some u) (hwakes : (s.thread u).wakeCount ≠ 0) :
    Completes (.block c) s fun t =>
      Answered t c.val 0 u ∧ OnlyThread s t u ∧ (t.thread u).wakeCount = (s.thread u).wakeCount - 1 ∧ (t.core c.val).running = some u := by
  intro hclk
  obtain ⟨hthread, hrunning, -, -⟩ := s.issued_leaves c.val
  rw [← hrunning] at hrun
  rw [← hthread] at hwakes ⊢
  show ∃ t, execBlock c s = .next t ∧ _
  rw [execBlock, whenClocked_of_clocked hclk]
  dsimp only
  rw [State.coreCommand_acts hfrozen hspindle hkept, hrun]
  dsimp only
  rw [if_neg hwakes]
  refine ⟨_, rfl, State.result_answered _ _ _ _, (State.setThread_only _ u _).result _ _ _, ?_⟩
  obtain ⟨-, -, -, hkeeps, hresult, -⟩ := State.result_leaves _ c.val 0 u
  rw [hresult, hkeeps, State.thread_setThread, State.setThread_accessors]
  exact ⟨rfl, hrun⟩

/-- YIELD: the thread goes to the tail of its level. -/
theorem yield_requeues {u : Nat} (hrun : (s.core c.val).running = some u) :
    Completes (.yield c) s fun t =>
      Answered t c.val 0 u ∧ OnlyThread s t u ∧ (t.core c.val).running = none ∧ isQueued (t.thread u) = true ∧
        readyList t (s.thread u).priority = readyList s (s.thread u).priority ++ [u] := by
  intro hclk
  obtain ⟨-, hrunning, -, -⟩ := s.issued_leaves c.val
  rw [← hrunning] at hrun
  obtain ⟨honly, ⟨n, hown⟩, hleft, hlists⟩ := State.leaveCore_leaves hrun
  obtain ⟨honly', hcore, -, -, hlist, st, d, i, r, -, hqueued⟩ := ((s.issued c.val).leaveCore c.val).makeReady_leaves u false
  show ∃ t, execYield c s = .next t ∧ _
  rw [execYield, whenClocked_of_clocked hclk]
  dsimp only
  rw [State.coreCommand_acts hfrozen hspindle hkept, hrun]
  refine ⟨_, rfl, State.result_answered _ _ _ _, (honly.trans honly').result _ _ _, ?_⟩
  obtain ⟨-, -, -, hkeeps, hresult, -, hresultLists⟩ := State.result_leaves (((s.issued c.val).leaveCore c.val).makeReady u false) c.val 0 u
  rw [hresult, hkeeps, hcore, readyList_of_lists hresultLists]
  rw [hown, readyList_of_lists hlists] at hlist
  exact ⟨hleft, hqueued, hlist⟩

/-- EXIT: the thread becomes Cancelled. -/
theorem exit_cancels {u : Nat} (hrun : (s.core c.val).running = some u) :
    Completes (.exit c) s fun t =>
      Answered t c.val 0 u ∧ OnlyThread s t u ∧ (t.thread u).state = .cancelled ∧ (t.core c.val).running = none := by
  intro hclk
  obtain ⟨-, hrunning, -, -⟩ := s.issued_leaves c.val
  rw [← hrunning] at hrun
  obtain ⟨honly, -, hleft, -⟩ := State.leaveCore_leaves hrun
  obtain ⟨honly', hended, hcore, -⟩ := ((s.issued c.val).leaveCore c.val).cancelled_leaves u
  show ∃ t, execExit c s = .next t ∧ _
  rw [execExit, whenClocked_of_clocked hclk]
  dsimp only
  rw [State.coreCommand_acts hfrozen hspindle hkept, hrun]
  refine ⟨_, rfl, State.result_answered _ _ _ _, (honly.trans honly').result _ _ _, hended, ?_⟩
  obtain ⟨-, -, -, hkeeps, -⟩ := State.result_leaves (((s.issued c.val).leaveCore c.val).cancelled u) c.val 0 u
  rw [hkeeps, hcore]
  exact hleft

/-- WAKE, CANCEL, SET_PRIORITY and SET_CLASS of a Free thread are refused. -/
theorem free_refused {n : Nat} (hfree : (s.thread (n % 4096)).state = .free) (level cls mask : Nat) :
    ∀ i ∈ [Instr.wake c n, .cancel c n, .setPriority c n level, .setClass c n cls mask],
      Completes i s fun t => Answered t c.val 2 (n % 4096) ∧ t.shtl.threads = s.shtl.threads ∧ t.shtl.intake = s.shtl.intake := by
  have hact := fun f => State.coreCommand_acts hfrozen hspindle hkept f
  have hfree' : ((s.issued c.val).thread (n % 4096)).state = .free := hfree
  have hleaves : Answered ((s.issued c.val).result c.val 2 (n % 4096)) c.val 2 (n % 4096) ∧
      ((s.issued c.val).result c.val 2 (n % 4096)).shtl.threads = s.shtl.threads ∧
      ((s.issued c.val).result c.val 2 (n % 4096)).shtl.intake = s.shtl.intake := ⟨State.result_answered _ _ _ _, rfl, rfl⟩
  simp only [List.forall_mem_cons, List.not_mem_nil, false_imp_iff, implies_true, and_true]
  refine ⟨fun hclk => ⟨_, ?_, hleaves⟩, fun hclk => ⟨_, ?_, hleaves⟩, fun hclk => ⟨_, ?_, hleaves⟩, fun hclk => ⟨_, ?_, hleaves⟩⟩
  · show execWake c n s = _
    rw [execWake, whenClocked_of_clocked hclk]
    simp [hact, hfree']
  · show execCancel c n s = _
    rw [execCancel, whenClocked_of_clocked hclk]
    simp [hact, hfree']
  · show execSetPriority c n level s = _
    rw [execSetPriority, whenClocked_of_clocked hclk]
    simp [hact, hfree']
  · show execSetClass c n cls mask s = _
    rw [execSetClass, whenClocked_of_clocked hclk]
    simp [hact, hfree']

/-- WAKE of any other thread enters the intake. -/
theorem wake_enters {n : Nat} (hstate : (s.thread (n % 4096)).state ≠ .free) (hroom : s.shtl.intake.length < 64) :
    Completes (.wake c n) s fun t =>
      Answered t c.val 0 (n % 4096) ∧ t.shtl.intake = s.shtl.intake ++ [n % 4096] ∧ t.shtl.threads = s.shtl.threads := by
  intro hclk
  have hstate' : ((s.issued c.val).thread (n % 4096)).state ≠ .free := hstate
  have hroom' : (s.issued c.val).shtl.intake.length < 64 := hroom
  show ∃ t, execWake c n s = .next t ∧ _
  rw [execWake, whenClocked_of_clocked hclk]
  dsimp only
  rw [State.coreCommand_acts hfrozen hspindle hkept, if_neg hstate', State.wakeThread, if_pos hroom']
  exact ⟨_, rfl, State.result_answered _ _ _ _, rfl, rfl⟩

/-- CANCEL of a thread that is not Free: what it leaves is `State.cancelThread`. -/
theorem cancel_acts {n : Nat} (hstate : (s.thread (n % 4096)).state ≠ .free) (hclk : s.boot.clocksLost = false) :
    execCancel c n s = .next (((s.issued c.val).cancelThread (n % 4096)).result c.val 0 (n % 4096)) := by
  rw [execCancel, whenClocked_of_clocked hclk]
  dsimp only
  rw [State.coreCommand_acts hfrozen hspindle hkept, if_neg]
  exact hstate

/-- CANCEL of a Running thread marks it. -/
theorem cancel_running {n : Nat} (hstate : (s.thread (n % 4096)).state = .running) :
    Completes (.cancel c n) s fun t =>
      Answered t c.val 0 (n % 4096) ∧ OnlyThread s t (n % 4096) ∧ (t.thread (n % 4096)).cancelPending = true ∧
        (t.thread (n % 4096)).state = .running := by
  intro hclk
  obtain ⟨honly, hpending, hrunning⟩ := State.cancelThread_running (s := s.issued c.val) hstate
  exact ⟨_, cancel_acts hfrozen hspindle hkept (by simp [hstate]) hclk, State.result_answered _ _ _ _, honly.result _ _ _, hpending, hrunning⟩

/-- CANCEL of a Blocked thread, or of one in a ready list, ends it. -/
theorem cancel_waiting {n : Nat} (hstate : (s.thread (n % 4096)).state = .blocked ∨ isQueued (s.thread (n % 4096)) = true) :
    Completes (.cancel c n) s fun t =>
      Answered t c.val 0 (n % 4096) ∧ OnlyThread s t (n % 4096) ∧ (t.thread (n % 4096)).state = .cancelled ∧
        (isQueued (s.thread (n % 4096)) = true → n % 4096 ∉ readyList t (s.thread (n % 4096)).priority) := by
  intro hclk
  have hfree : (s.thread (n % 4096)).state ≠ .free := fun h => by simp [isQueued, h] at hstate
  obtain ⟨honly, hcancelled, hgone⟩ := State.cancelThread_waiting (s := s.issued c.val) hstate
  exact ⟨_, cancel_acts hfrozen hspindle hkept hfree hclk, State.result_answered _ _ _ _, honly.result _ _ _, hcancelled, hgone⟩

/-- SET_PRIORITY moves a thread to its new level, at the tail where it stands in a list. -/
theorem setPriority_moves {n : Nat} (level : Nat) (hfree : (s.thread (n % 4096)).state ≠ .free)
    (hended : (s.thread (n % 4096)).state ≠ .cancelled) :
    Completes (.setPriority c n level) s fun t =>
      Answered t c.val 0 (n % 4096) ∧ OnlyThread s t (n % 4096) ∧ (t.thread (n % 4096)).priority = level % 64 ∧
        (isQueued (s.thread (n % 4096)) = true → (readyList t (level % 64)).getLast? = some (n % 4096)) ∧
        (isQueued (s.thread (n % 4096)) = false → t.shtl.ready = s.shtl.ready) := by
  intro hclk
  show ∃ t, execSetPriority c n level s = .next t ∧ _
  rw [execSetPriority, whenClocked_of_clocked hclk]
  dsimp only
  rw [State.coreCommand_acts hfrozen hspindle hkept, if_neg (live_guard (x := (s.issued c.val).thread (n % 4096)) hfree hended)]
  cases hqueued : isQueued (s.thread (n % 4096)) with
  | true =>
    have hqueued' : isQueued ((s.issued c.val).thread (n % 4096)) = true := hqueued
    rw [if_pos hqueued']
    let u := ((s.issued c.val).unqueue (n % 4096)).setThread (n % 4096) { (s.issued c.val).thread (n % 4096) with priority := level % 64 }
    obtain ⟨honly, -, -, -, hlist, st, d, i, r, hthread, -⟩ := u.makeReady_leaves (n % 4096) false
    have hu : u.thread (n % 4096) = { s.thread (n % 4096) with priority := level % 64 } := State.thread_setThread _ _ _
    rw [hu] at hlist hthread
    obtain ⟨-, -, -, -, -, -, hlists⟩ := (u.makeReady (n % 4096) false).result_leaves c.val 0 (n % 4096)
    refine ⟨_, rfl, State.result_answered _ _ _ _, ((State.setThread_only _ _ _).trans honly).result _ _ _, ?_, fun _ => ?_,
      fun h => absurd h (by simp)⟩
    · exact (congrArg Thread.priority hthread :)
    · rw [readyList_of_lists hlists, hlist]
      simp
  | false =>
    have hqueued' : ¬ isQueued ((s.issued c.val).thread (n % 4096)) = true := Bool.eq_false_iff.mp hqueued
    rw [if_neg hqueued']
    refine ⟨_, rfl, State.result_answered _ _ _ _, (State.setThread_only _ _ _).result _ _ _, ?_, fun h => absurd h (by simp), fun _ => rfl⟩
    obtain ⟨-, -, -, -, hthread, -⟩ := State.result_leaves _ c.val 0 (n % 4096)
    rw [hthread, State.thread_setThread]

/-- SET_CLASS gives a thread its class and mask; a mask of 0 is refused. -/
theorem setClass_sets {n : Nat} (cls mask : Nat) (hfree : (s.thread (n % 4096)).state ≠ .free)
    (hended : (s.thread (n % 4096)).state ≠ .cancelled) :
    Completes (.setClass c n cls mask) s fun t =>
      (mask % 256 = 0 → Answered t c.val 3 (n % 4096) ∧ t.shtl.threads = s.shtl.threads) ∧
        (mask % 256 ≠ 0 → Answered t c.val 0 (n % 4096) ∧ OnlyThread s t (n % 4096) ∧ (t.thread (n % 4096)).cls = cls % 4 ∧
          (t.thread (n % 4096)).affinity = mask % 256) := by
  intro hclk
  show ∃ t, execSetClass c n cls mask s = .next t ∧ _
  rw [execSetClass, whenClocked_of_clocked hclk]
  dsimp only
  rw [State.coreCommand_acts hfrozen hspindle hkept, if_neg (live_guard (x := (s.issued c.val).thread (n % 4096)) hfree hended)]
  by_cases hmask : mask % 256 = 0
  · rw [if_pos hmask]
    exact ⟨_, rfl, fun _ => ⟨State.result_answered _ _ _ _, rfl⟩, fun h => absurd hmask h⟩
  · rw [if_neg hmask]
    let u := (s.issued c.val).setThread (n % 4096) { (s.issued c.val).thread (n % 4096) with cls := cls % 4, affinity := mask % 256 }
    obtain ⟨honly, -, -, st, d, i, hthread, -⟩ := u.regate_keeps (n % 4096)
    have hu : u.thread (n % 4096) = { s.thread (n % 4096) with cls := cls % 4, affinity := mask % 256 } := State.thread_setThread _ _ _
    rw [hu] at hthread
    exact ⟨_, rfl, fun h => absurd h hmask, fun _ => ⟨State.result_answered _ _ _ _, ((State.setThread_only _ _ _).trans honly).result _ _ _,
      (congrArg Thread.cls hthread :), (congrArg Thread.affinity hthread :)⟩⟩

/-- FREE of a thread that has not ended is refused. -/
theorem free_live {n : Nat} (hstate : (s.thread (n % 4096)).state ≠ .cancelled) :
    Completes (.free c n) s fun t => Answered t c.val 4 (n % 4096) ∧ t.shtl.threads = s.shtl.threads := by
  intro hclk
  have hstate' : (((s.issued c.val).thread (n % 4096)).state != .cancelled) = true := bne_iff_ne.mpr hstate
  show ∃ t, execFree c n s = .next t ∧ _
  rw [execFree, whenClocked_of_clocked hclk]
  dsimp only
  rw [State.coreCommand_acts hfrozen hspindle hkept, if_pos hstate']
  exact ⟨_, rfl, State.result_answered _ _ _ _, rfl⟩

/-- FREE of a Cancelled thread frees its context and removes its binding. -/
theorem free_ended {n : Nat} (hstate : (s.thread (n % 4096)).state = .cancelled) :
    Completes (.free c n) s fun t =>
      Answered t c.val 0 (n % 4096) ∧ OnlyThread s t (n % 4096) ∧ (t.thread (n % 4096)).state = .free ∧
        ∀ b ∈ t.shtl.bound, b.2 ≠ n % 4096 := by
  intro hclk
  have hstate' : ¬ (((s.issued c.val).thread (n % 4096)).state != .cancelled) = true := by
    rw [bne_iff_ne]
    exact not_not_intro hstate
  show ∃ t, execFree c n s = .next t ∧ _
  rw [execFree, whenClocked_of_clocked hclk]
  dsimp only
  rw [State.coreCommand_acts hfrozen hspindle hkept, if_neg hstate']
  obtain ⟨honly, -, hunbound⟩ := (s.issued c.val).unbind_leaves (n % 4096)
  refine ⟨_, rfl, State.result_answered _ _ _ _, (honly.trans (State.setThread_only _ _ _)).result _ _ _, ?_, hunbound⟩
  obtain ⟨-, -, -, -, hthread, -⟩ := State.result_leaves _ c.val 0 (n % 4096)
  rw [hthread, State.thread_setThread]

/-- BIND of a source that does not exist is refused. -/
theorem bind_refused (n : Nat) {source : Nat} (h : 639 < source) :
    Completes (.bind c n source) s fun t => Answered t c.val 5 (n % 4096) ∧ t.shtl.threads = s.shtl.threads := by
  intro hclk
  show ∃ t, execBind c n source s = .next t ∧ _
  rw [execBind, whenClocked_of_clocked hclk]
  dsimp only
  rw [State.coreCommand_acts hfrozen hspindle hkept, if_pos h]
  exact ⟨_, rfl, State.result_answered _ _ _ _, rfl⟩

/-- BIND binds a source to a thread, and the thread to no other. -/
theorem bind_binds (n : Nat) {source : Nat} (h : source ≤ 639) :
    Completes (.bind c n source) s fun t =>
      Answered t c.val 0 (n % 4096) ∧ AMap.find? t.shtl.bound source = some (n % 4096) ∧ (t.thread (n % 4096)).boundSource = source ∧
        ∀ b ∈ t.shtl.bound, b.2 = n % 4096 → b.1 = source := by
  intro hclk
  show ∃ t, execBind c n source s = .next t ∧ _
  rw [execBind, whenClocked_of_clocked hclk]
  dsimp only
  rw [State.coreCommand_acts hfrozen hspindle hkept, if_neg (Nat.not_lt.mpr h)]
  refine ⟨_, rfl, State.result_answered _ _ _ _, AMap.find?_put_self _ _ _, ?_, fun b hb hmine => ?_⟩
  · obtain ⟨-, -, -, -, hthread, -⟩ := State.result_leaves _ c.val 0 (n % 4096)
    rw [hthread, State.thread_setThread]
  · rcases AMap.mem_put hb with rfl | hold
    · rfl
    · exact absurd hmine ((State.unbind_leaves _ (n % 4096)).2.2 b hold)

end Commands

/-- R396: a running thread that is to be cancelled ends at its core's next command. -/
theorem command_cancels {s : State} {c : CoreId} (hfrozen : s.isFrozen (2 + c.val) = false) (hspindle : s.boot.spindle = true) {u : Nat}
    (hrun : (s.core c.val).running = some u) (hcancel : (s.thread u).cancelPending = true) :
    ∀ i ∈ [Instr.block c, .yield c, .exit c], Completes i s fun t =>
      (t.thread u).state = .cancelled ∧ (t.core c.val).running = none ∧ t.shtl.ready = s.shtl.ready := by
  have hact := fun f => State.coreCommand_cancels hfrozen hspindle hrun hcancel f
  obtain ⟨-, hrunning, hissued, -⟩ := s.issued_leaves c.val
  rw [← hrunning] at hrun
  obtain ⟨-, -, hleft, hlists⟩ := State.leaveCore_leaves hrun
  obtain ⟨-, hended, hcore, hlists'⟩ := ((s.issued c.val).leaveCore c.val).cancelled_leaves u
  let v := ((s.issued c.val).leaveCore c.val).cancelled u
  have hidle : (v.core c.val).running = none := by rw [hcore, hleft]
  have hready : v.shtl.ready = s.shtl.ready := (congrArg Prod.fst ((hlists'.trans hlists).trans hissued) :)
  obtain ⟨-, -, -, hkeeps, -⟩ := v.result_leaves c.val 0 0
  have hleaves : ((v.result c.val 0 0).thread u).state = .cancelled ∧ ((v.result c.val 0 0).core c.val).running = none ∧
      (v.result c.val 0 0).shtl.ready = s.shtl.ready := ⟨hended, hkeeps.trans hidle, hready⟩
  simp only [List.forall_mem_cons, List.not_mem_nil, false_imp_iff, implies_true, and_true]
  refine ⟨fun hclk => ⟨_, ?_, hleaves⟩, fun hclk => ⟨_, ?_, hleaves⟩, fun hclk => ⟨_, ?_, hleaves⟩⟩
  · show execBlock c s = _
    rw [execBlock, whenClocked_of_clocked hclk]
    dsimp only
    rw [hact, hidle]
  · show execYield c s = _
    rw [execYield, whenClocked_of_clocked hclk]
    dsimp only
    rw [hact, hidle]
  · show execExit c s = _
    rw [execExit, whenClocked_of_clocked hclk]
    dsimp only
    rw [hact, hidle]

/-- R438: a frozen core issues no command. -/
theorem command_frozen {s : State} {c : CoreId} (h : s.isFrozen (2 + c.val) = true) :
    exec (.yield c) s = .next s ∧ ∀ n, exec (.wake c n) s = .next s := by
  refine ⟨?_, fun n => ?_⟩
  · show execYield c s = _
    rw [execYield]
    dsimp only
    rw [State.coreCommand_frozen h, whenClocked_next_self]
  · show execWake c n s = _
    rw [execWake]
    dsimp only
    rw [State.coreCommand_frozen h, whenClocked_next_self]

/-- Settles O47, command by command. -/
theorem threadCommands : Obligations.ThreadCommands := by
  unfold Obligations.ThreadCommands
  refine fun s c => ⟨command_frozen, fun hfrozen hspindle => ⟨fun u hrun hcancel => command_cancels hfrozen hspindle hrun hcancel,
    fun hkept => ⟨fun level cls mask => ⟨?_, ?_⟩, fun u hrun => ⟨?_, ?_, ?_, ?_⟩, fun n => ⟨?_, ?_, ?_, ?_, ?_, ?_, ?_, ?_, ?_, ?_⟩⟩⟩⟩
  · exact fun x hx => create_free hfrozen hspindle hkept hx level cls mask
  · exact fun hx => create_refused hfrozen hspindle hkept hx level cls mask
  · exact block_blocks hfrozen hspindle hkept hrun
  · exact block_consumes hfrozen hspindle hkept hrun
  · exact yield_requeues hfrozen hspindle hkept hrun
  · exact exit_cancels hfrozen hspindle hkept hrun
  · exact free_refused hfrozen hspindle hkept
  · exact wake_enters hfrozen hspindle hkept
  · exact cancel_running hfrozen hspindle hkept
  · exact cancel_waiting hfrozen hspindle hkept
  · exact fun level => setPriority_moves hfrozen hspindle hkept level
  · exact fun cls mask => setClass_sets hfrozen hspindle hkept cls mask
  · exact free_live hfrozen hspindle hkept
  · exact free_ended hfrozen hspindle hkept
  · exact fun source => bind_refused hfrozen hspindle hkept n
  · exact fun source => bind_binds hfrozen hspindle hkept n

end Sys2Proof.Machine
end

section
/-!
PROOFS. Wakes, dispatch and the limits of threads (spec/14_shuttle_governor.md; R393 to R397, R399).
-/

namespace Sys2Proof.Machine

/-! ## A wake that reaches its thread (R393, R394) -/

/-- A thread with a wake more: counted, and held where it cannot act at once. -/
def Thread.woken (x : Thread) : Thread :=
  { x with readyCount := (x.readyCount + 1) % 2 ^ 32,
           wakeCount := if isQueued x || x.state == .running then min 65535 (x.wakeCount + 1) else x.wakeCount }

/-- R393: what a wake does by the thread's state. -/
theorem State.wakeReaches_by_state (s : State) (w : Nat) :
    s.wakeReaches w =
      match (s.thread w).state with
      | .blocked => (s.setThread w (s.thread w).woken).makeReady w false
      | .cancelled => (s.setThread w (s.thread w).woken).bump K.shtlWakesAfterCancel
      | _ => s.setThread w (s.thread w).woken := rfl

theorem State.wakeReaches_blocked {s : State} {w : Nat} (h : (s.thread w).state = .blocked) :
    s.wakeReaches w = (s.setThread w (s.thread w).woken).makeReady w false := by
  simp only [State.wakeReaches_by_state, h]

theorem State.wakeReaches_cancelled {s : State} {w : Nat} (h : (s.thread w).state = .cancelled) :
    s.wakeReaches w = (s.setThread w (s.thread w).woken).bump K.shtlWakesAfterCancel := by
  simp only [State.wakeReaches_by_state, h]

theorem State.wakeReaches_other {s : State} {w : Nat} (hblocked : (s.thread w).state ≠ .blocked) (hended : (s.thread w).state ≠ .cancelled) :
    s.wakeReaches w = s.setThread w (s.thread w).woken := by
  rw [State.wakeReaches_by_state]
  split
  · exact absurd ‹_› hblocked
  · exact absurd ‹_› hended
  · rfl

/-- R393: what a wake leaves of its thread and of the others. -/
theorem State.wakeReaches_leaves (s : State) (w : Nat) :
    (s.wakeReaches w).shtl.intake = s.shtl.intake ∧ ((s.wakeReaches w).thread w).readyCount = ((s.thread w).readyCount + 1) % 2 ^ 32 ∧
      OnlyThread s (s.wakeReaches w) w ∧
      ((s.thread w).state = .blocked → isQueued ((s.wakeReaches w).thread w) = true ∧
        readyList (s.wakeReaches w) (s.thread w).priority = readyList s (s.thread w).priority ++ [w]) ∧
      (isQueued (s.thread w) = true ∨ (s.thread w).state = .running → ((s.wakeReaches w).thread w).state = (s.thread w).state ∧
        ((s.wakeReaches w).thread w).wakeCount = min 65535 ((s.thread w).wakeCount + 1)) ∧
      ((s.thread w).state = .cancelled → (s.wakeReaches w).nat K.shtlWakesAfterCancel = (s.nat K.shtlWakesAfterCancel + 1) % 2 ^ 32) := by
  have hset : OnlyThread s (s.setThread w (s.thread w).woken) w := s.setThread_only w _
  have hwoken : (s.setThread w (s.thread w).woken).thread w = (s.thread w).woken := s.thread_setThread w _
  by_cases hblocked : (s.thread w).state = .blocked
  · obtain ⟨honly, -, -, hintake, hlist, st, d, i, r, hthread, hqueued⟩ := (s.setThread w (s.thread w).woken).makeReady_leaves w false
    rw [hwoken] at hlist hthread
    rw [State.wakeReaches_blocked hblocked]
    refine ⟨hintake, (congrArg Thread.readyCount hthread :), hset.trans honly, fun _ => ⟨hqueued, hlist⟩, fun h => ?_, fun h => ?_⟩
    · simp [isQueued, hblocked] at h
    · simp [hblocked] at h
  · by_cases hended : (s.thread w).state = .cancelled
    · rw [State.wakeReaches_cancelled hended]
      have hthread : ((s.setThread w (s.thread w).woken).bump K.shtlWakesAfterCancel).thread w = (s.thread w).woken := hwoken
      rw [hthread]
      refine ⟨rfl, rfl, hset, fun h => absurd h hblocked, fun h => ?_, fun _ => State.nat_bump _ _⟩
      simp [isQueued, hended] at h
    · rw [State.wakeReaches_other hblocked hended, hwoken]
      refine ⟨rfl, rfl, hset, fun h => absurd h hblocked, fun h => ⟨rfl, ?_⟩, fun h => absurd h hended⟩
      have hheld : (isQueued (s.thread w) || (s.thread w).state == .running) = true := by simpa using h
      simp [Thread.woken, hheld]

/-! ## The thread that a core takes (R395, R397) -/

/-- R395: a thread that core c may take at a level. -/
def takesFrom (s : State) (c level : Nat) : List Nat :=
  (readyList s level).filter fun t => (s.thread t).state == .ready && bit (s.thread t).affinity c

theorem coreCandidates_eq (s : State) (c : Nat) :
    coreCandidates s c = (((List.range 64).reverse.find? fun level => !(takesFrom s c level).isEmpty).map (takesFrom s c)).getD [] := by
  have hmap : ((List.range 64).reverse.map (takesFrom s c)).find? (fun l => !l.isEmpty) =
      ((List.range 64).reverse.find? fun level => !(takesFrom s c level).isEmpty).map (takesFrom s c) := List.find?_map ..
  rw [← hmap]
  unfold coreCandidates
  show (match ((List.range 64).reverse.map (takesFrom s c)).find? (fun l => !l.isEmpty) with | some l => l | none => []) = _
  cases ((List.range 64).reverse.map (takesFrom s c)).find? (fun l => !l.isEmpty) <;> rfl

/-- What the highest level that holds a thread for core c gives it. -/
def TakenFor (s : State) (c w : Nat) : Prop :=
  (s.thread w).state = .ready ∧ bit (s.thread w).affinity c = true ∧ ∃ level, level < 64 ∧ w ∈ readyList s level ∧
    ∀ higher v, level < higher → higher < 64 → v ∈ readyList s higher → (s.thread v).state = .ready → bit (s.thread v).affinity c = false

/-- R395: the candidates of a core stand at the highest level that holds any. -/
theorem takenFor_of_candidate {s : State} {c w : Nat} (h : w ∈ coreCandidates s c) : TakenFor s c w := by
  rw [coreCandidates_eq] at h
  cases hfind : (List.range 64).reverse.find? fun level => !(takesFrom s c level).isEmpty with
  | none => simp [hfind] at h
  | some level =>
    obtain ⟨-, above, below, hsplit, hnone⟩ := List.find?_eq_some_iff_append.mp hfind
    have hw : w ∈ takesFrom s c level := by simpa [hfind] using h
    simp only [takesFrom, List.mem_filter, Bool.and_eq_true, beq_iff_eq] at hw
    obtain ⟨hlist, hready, hmask⟩ := hw
    have hlevel : level < 64 := by simpa using List.mem_of_find?_eq_some hfind
    refine ⟨hready, hmask, level, hlevel, hlist, fun higher v hlt hhigher hv hvready => ?_⟩
    have hdown : (above ++ level :: below).Pairwise (· > ·) := by
      rw [← hsplit, List.pairwise_reverse]
      exact List.pairwise_lt_range
    have hmem : higher ∈ above := by
      have hin : higher ∈ above ++ level :: below := by rw [← hsplit]; simpa using hhigher
      rcases List.mem_append.mp hin with h | h
      · exact h
      · obtain ⟨hbelow, -⟩ := List.pairwise_cons.mp (List.pairwise_append.mp hdown).2.1
        rcases List.mem_cons.mp h with rfl | h
        · exact absurd hlt (Nat.lt_irrefl _)
        · exact absurd hlt (Nat.not_lt.mpr (Nat.le_of_lt (hbelow higher h)))
    have hempty := hnone higher hmem
    cases hbit : bit (s.thread v).affinity c with
    | false => rfl
    | true =>
      have hvin : v ∈ takesFrom s c higher := List.mem_filter.mpr ⟨hv, by simp [hvready, hbit]⟩
      have hnil : takesFrom s c higher = [] := by simpa using hempty
      rw [hnil] at hvin
      exact absurd hvin List.not_mem_nil

theorem candidate_of_idleChoice {s : State} {c w : Nat} (h : idleChoice s c = some w) : w ∈ coreCandidates s c := by
  unfold idleChoice at h
  extract_lets l lowest at h
  split at h
  · exact List.mem_of_find?_eq_some h
  · split at h
    · rename_i hlast
      exact Option.some.inj h ▸ List.mem_of_find?_eq_some hlast
    · exact List.mem_of_find?_eq_some h

theorem candidate_of_preemptChoice {s : State} {c w : Nat} (h : preemptChoice s c = some w) : w ∈ coreCandidates s c :=
  List.mem_of_find?_eq_some h

/-! ## A thread placed on a core (R395, R396) -/

/-- R395, R396: the thread that runs on a core has left it for another: it goes back to the head of its level, or ends if it is to be cancelled. -/
def State.displaced (s : State) (c : Nat) : State :=
  match (s.core c).running with
  | none => s
  | some u => if ((s.leaveCore c).thread u).cancelPending then (s.leaveCore c).cancelled u else (s.leaveCore c).makeReady u true

/-- Of each thread a displacement leaves its level and its count of dispatches. -/
theorem State.displaced_leaves (s : State) (c y : Nat) :
    ((s.displaced c).thread y).priority = (s.thread y).priority ∧ ((s.displaced c).thread y).dispatchCount = (s.thread y).dispatchCount := by
  unfold State.displaced
  split
  · exact ⟨rfl, rfl⟩
  · rename_i u hrun
    obtain ⟨honly, ⟨n, hown⟩, -⟩ := State.leaveCore_leaves hrun
    by_cases hy : y = u
    · subst hy
      split
      · unfold State.cancelled
        rw [State.thread_setThread, hown]
        exact ⟨rfl, rfl⟩
      · obtain ⟨-, -, -, -, -, st, d, i, r, hthread, -⟩ := (s.leaveCore c).makeReady_leaves y true
        rw [hthread, hown]
        exact ⟨rfl, rfl⟩
    · split
      · rw [((s.leaveCore c).cancelled_leaves u).1 y hy, honly y hy]
        exact ⟨rfl, rfl⟩
      · rw [((s.leaveCore c).makeReady_leaves u true).1 y hy, honly y hy]
        exact ⟨rfl, rfl⟩

/-- R395, R396: what becomes of the thread that is displaced. -/
theorem State.displaced_thread {s : State} {c u : Nat} (hrun : (s.core c).running = some u) :
    ((s.thread u).cancelPending = true → ((s.displaced c).thread u).state = .cancelled) ∧
      ((s.thread u).cancelPending = false → isQueued ((s.displaced c).thread u) = true ∧
        readyList (s.displaced c) (s.thread u).priority = u :: readyList s (s.thread u).priority) := by
  obtain ⟨-, ⟨n, hown⟩, -, hlists⟩ := State.leaveCore_leaves hrun
  have hpending : ((s.leaveCore c).thread u).cancelPending = (s.thread u).cancelPending := (congrArg Thread.cancelPending hown :)
  unfold State.displaced
  simp only [hrun, hpending]
  refine ⟨fun h => ?_, fun h => ?_⟩
  · rw [if_pos h]
    exact ((s.leaveCore c).cancelled_leaves u).2.1
  · obtain ⟨-, -, -, -, hlist, st, d, i, r, -, hqueued⟩ := (s.leaveCore c).makeReady_leaves u true
    rw [hown, readyList_of_lists hlists] at hlist
    rw [if_neg (by simp [h])]
    exact ⟨hqueued, hlist⟩

/-- R395: the context of a thread that a core has taken. -/
def Thread.taken (x : Thread) (c now : Nat) : Thread :=
  { x with state := .running, lastCore := c, dispatchCount := (x.dispatchCount + 1) % 2 ^ 32, since := now, released := false }

/-- A thread leaves its ready list and runs. -/
def State.take (s : State) (c w : Nat) : State := (s.unqueue w).setThread w ((s.thread w).taken c s.clk.ticks)

theorem State.take_leaves (s : State) (c w : Nat) :
    OnlyThread s (s.take c w) w ∧ (s.take c w).thread w = (s.thread w).taken c s.clk.ticks ∧
      ∀ level, readyList (s.take c w) level =
        if level = (s.thread w).priority then (readyList s level).filter (· != w) else readyList s level :=
  ⟨State.setThread_only _ w _, State.thread_setThread _ w _, fun level => s.readyList_unqueue w level⟩

/-- R395, R409: a thread that a core has taken is counted and shown at the core. -/
def State.showTaken (s : State) (c w cls : Nat) (preempts : Bool) : State :=
  let s := ((s.count (720 + cls) 1).count (656 + 8 * c + 3) 1).count (656 + 8 * c + 4) (b2n preempts)
  s.setCore c { s.core c with running := some w, nextValid := true, nextPreempt := preempts, nextThread := w, lastCommand := s.clk.ticks }

theorem State.showTaken_leaves (s : State) (c w cls : Nat) (preempts : Bool) :
    ((s.showTaken c w cls preempts).core c).running = some w ∧ ((s.showTaken c w cls preempts).core c).nextThread = w ∧
      ((s.showTaken c w cls preempts).core c).nextPreempt = preempts ∧ (s.showTaken c w cls preempts).thread = s.thread ∧
      (s.showTaken c w cls preempts).shtl.ready = s.shtl.ready := by
  unfold State.showTaken
  rw [State.core_setCore]
  exact ⟨rfl, rfl, rfl, rfl, rfl⟩

theorem State.place_eq (s : State) (c w : Nat) :
    s.place c w = ((s.displaced c).take c w).showTaken c w ((s.displaced c).thread w).cls (s.core c).running.isSome := by
  unfold State.place State.displaced
  cases (s.core c).running <;> rfl

/-- R395: what stands at a core that has taken a thread. -/
theorem State.place_leaves (s : State) (c w : Nat) :
    ((s.place c w).core c).running = some w ∧ ((s.place c w).core c).nextThread = w ∧
      ((s.place c w).core c).nextPreempt = (s.core c).running.isSome ∧ (s.place c w).thread = ((s.displaced c).take c w).thread ∧
      (s.place c w).shtl.ready = ((s.displaced c).take c w).shtl.ready := by
  rw [State.place_eq]
  exact State.showTaken_leaves _ c w _ _

/-- R395, R396: what a dispatch leaves. -/
theorem State.place_dispatches (s : State) (c w : Nat) :
    ((s.place c w).core c).running = some w ∧ ((s.place c w).core c).nextThread = w ∧
      ((s.place c w).core c).nextPreempt = (s.core c).running.isSome ∧
      ((s.place c w).thread w).state = .running ∧ ((s.place c w).thread w).lastCore = c ∧ ((s.place c w).thread w).released = false ∧
      ((s.place c w).thread w).dispatchCount = ((s.thread w).dispatchCount + 1) % 2 ^ 32 ∧ w ∉ readyList (s.place c w) (s.thread w).priority ∧
      ∀ u, (s.core c).running = some u → u ≠ w → ((s.thread u).cancelPending = true → ((s.place c w).thread u).state = .cancelled) ∧
        ((s.thread u).cancelPending = false →
          isQueued ((s.place c w).thread u) = true ∧ (readyList (s.place c w) (s.thread u).priority).head? = some u) := by
  obtain ⟨hrunning, hnext, hpreempt, hthreads, hready⟩ := s.place_leaves c w
  obtain ⟨honly, hown, hlists⟩ := (s.displaced c).take_leaves c w
  obtain ⟨hpriority, hcount⟩ := s.displaced_leaves c w
  have hlist : ∀ level, readyList (s.place c w) level = readyList ((s.displaced c).take c w) level := fun level => by
    rw [readyList, hready, readyList]
  refine ⟨hrunning, hnext, hpreempt, ?_, ?_, ?_, ?_, ?_, fun u hrun hu => ?_⟩
  · rw [hthreads, hown]
    rfl
  · rw [hthreads, hown]
    rfl
  · rw [hthreads, hown]
    rfl
  · rw [hthreads, hown, ← hcount]
    rfl
  · rw [hlist, hlists, hpriority, if_pos rfl]
    simp
  · obtain ⟨hends, hgoesBack⟩ := State.displaced_thread hrun
    rw [hthreads, honly u hu]
    refine ⟨hends, fun hkept => ?_⟩
    obtain ⟨hqueued, hhead⟩ := hgoesBack hkept
    refine ⟨hqueued, ?_⟩
    rw [hlist, hlists, hhead]
    split
    · rw [List.filter_cons_of_pos (by simpa using hu)]
      rfl
    · rfl

/-! ## The commands -/

theorem execDispatch_takes {s : State} {c : CoreId} {w : Nat} (hclk : s.boot.clocksLost = false) (hfrozen : s.isFrozen (2 + c.val) = false)
    (h : (s.core c.val).running = none ∧ idleChoice s c.val = some w ∨ (s.core c.val).running ≠ none ∧ preemptChoice s c.val = some w) :
    execDispatch c s = .next (s.place c.val w) := by
  rw [execDispatch, whenClocked_of_clocked hclk]
  dsimp only
  rw [if_neg (by simp [hfrozen])]
  rcases h with ⟨hidle, hchoice⟩ | ⟨hbusy, hchoice⟩
  · have hcore : coreIdle s c.val = true := by simp [coreIdle, hidle, hfrozen]
    simp only [hcore, if_true, hchoice]
  · have hcore : coreIdle s c.val = false := by
      obtain ⟨u, hu⟩ := Option.ne_none_iff_exists'.mp hbusy
      simp [coreIdle, hu]
    simp only [hcore, Bool.false_eq_true, if_false, hchoice]

/-- Settles O48: a wake by its thread's state, the choice of the dispatcher, the placing of a thread, and the three limits. -/
theorem coresTakeThreads : Obligations.CoresTakeThreads := by
  unfold Obligations.CoresTakeThreads
  refine ⟨fun s w rest hintake hclk => ?_, fun s c w hchoice => ?_, fun s c w hfrozen hchoice hclk => ?_, fun s n => ⟨?_, ?_, ?_⟩⟩
  · refine ⟨State.wakeReaches
      { s with shtl := { s.shtl with intake := rest ++ s.shtl.stalled.take 1, stalled := s.shtl.stalled.drop 1 } } w, ?_,
      State.wakeReaches_leaves _ w⟩
    show execWakeIntake s = _
    rw [execWakeIntake, whenClocked_of_clocked hclk, hintake]
  · exact takenFor_of_candidate (hchoice.elim candidate_of_idleChoice candidate_of_preemptChoice)
  · exact ⟨_, execDispatch_takes hclk hfrozen hchoice, s.place_dispatches c.val w⟩
  · intro c hready hpassed hfind hclk
    obtain ⟨hrunning, -, -, hstate, -⟩ := s.place_dispatches c (n % 4096)
    refine ⟨s.place c (n % 4096), ?_, hrunning, hstate⟩
    show execAffinityHoldExpiry n s = _
    rw [execAffinityHoldExpiry, whenClocked_of_clocked hclk]
    simp [hready, hpassed, hfind]
  · intro hstate hpending hoverdue hpassed hclk
    refine ⟨(s.setThread (n % 4096) { s.thread (n % 4096) with overdue := true }).raise { src := 545 }, ?_, ?_, ?_,
      State.raise_pending _ (e := { src := 545 }) (by decide)⟩
    · show execCancelGraceExpiry n s = _
      rw [execCancelGraceExpiry, whenClocked_of_clocked hclk]
      simp [hstate, hpending, hoverdue, hpassed]
    · simp
    · simp [hstate]
  · intro hstate hpassed hclk
    refine ⟨(s.setThread (n % 4096)
      { s.thread (n % 4096) with state := .ready, released := true, since := s.clk.ticks }).bump K.shtlDeferReleases, ?_, ?_, ?_,
      State.nat_bump _ _⟩
    · show execDeferLimitExpiry n s = _
      rw [execDeferLimitExpiry, whenClocked_of_clocked hclk]
      exact if_neg (by simp only [hstate, hpassed]; decide)
    · exact (congrArg Thread.state (s.thread_setThread (n % 4096) _) :)
    · exact (congrArg Thread.released (s.thread_setThread (n % 4096) _) :)

end Sys2Proof.Machine
end

section
/-!
PROOFS. The commands that write one object (spec/02_draft_control.md; R38, R43, R47): what a write comes to where it takes effect at once, where
its writer has no access to the object, and where the object's function is held.
-/

namespace Sys2Proof.Machine

/-! ## The objects of the commands -/

/-- R36, R38: the object of key k stands in the tables with this access, its values hold v, and it belongs to no flow context. -/
def Takes (k : Nat) (acc : AccSet) (v : Val) : Prop :=
  ∃ d, lookup (keyIdx k) (keySub k) = .ok d ∧ d.acc = acc ∧ valueOk d (keyIdx k) (keySub k) v = true ∧ keyIdx k ≠ 0x5801

/-- R48: the renewal of the 60 s of a writer's set touches that set alone. -/
theorem State.touch_draft (s : State) (p : Prin) :
    ∃ d, s.touch p = { s with draft := d } ∧ d.queue = s.draft.queue ∧ d.held = s.draft.held := by
  cases p <;> exact ⟨_, rfl, rfl, rfl⟩

section Write

variable {s : State} {p : Prin} {k : Nat} {acc : AccSet} {v : Val} (h : Takes k acc v)
include h

/-- R47: a write that takes effect at once is the object's own command, followed by its reply. -/
theorem Takes.direct (hacc : acc.of p = .wo ∨ acc.of p = .rw) (hheld : Unheld s k) {u : State} {st : Nat}
    (hcommand : (s.touch p).command p k v = (u, st)) (hst : st ≠ stStaged) : s.direct p k v = u.emit (.reply p k st) := by
  obtain ⟨d, hrow, rfl, hval, hflow⟩ := h
  simp only [State.direct, State.objectWrite_command hrow hacc hval hflow hheld, hcommand]
  exact if_neg (by simp [hst])

/-- R38: a write of any value by a principal without access to the object. -/
theorem Takes.direct_no (hacc : acc.of p = .no) (w : Val) : s.direct p k w = s.emit (.reply p k stAccessDenied) := by
  obtain ⟨d, hrow, rfl, -, -⟩ := h
  have hmay : mayWrite d p = false := by simp [mayWrite, hacc]
  simp [State.direct, State.objectWrite, hrow, hmay, stStaged, stAccessDenied]

/-- R43: a write of an object whose function is held. -/
theorem Takes.direct_held (hacc : acc.of p = .wo ∨ acc.of p = .rw) (hheld : heldPlain s (keyIdx k) = true) :
    s.direct p k v = (s.touch p).emit (.reply p k stTwillHeld) := by
  obtain ⟨d, hrow, rfl, hval, hflow⟩ := h
  have hmay : mayWrite d p = true := by
    unfold mayWrite
    obtain h | h := hacc <;> rw [h]
  have hheld' : heldPlain (s.touch p) (keyIdx k) = true := (heldPlain_touch s p _).trans hheld
  simp [State.direct, State.objectWrite, hrow, hmay, hval, State.storeWrite, readOnlyFlow, hflow, hheld', stStaged, stTwillHeld]

/-- R38, R43, R47: a write that its command refuses, leaving the device as it is, is refused in any case. -/
theorem Takes.direct_refused (hacc : acc.of p = .wo ∨ acc.of p = .rw) {st : Nat} (hcommand : (s.touch p).command p k v = (s.touch p, st))
    (hst : st ≠ stStaged) (hok : st ≠ stOk) : ∃ r, r ≠ stOk ∧ s.direct p k v = (s.touch p).emit (.reply p k r) := by
  cases hheld : heldPlain s (keyIdx k) with
  | true => exact ⟨stTwillHeld, by decide, h.direct_held hacc hheld⟩
  | false => exact ⟨st, hok, h.direct hacc hheld hcommand hst⟩

end Write

/-- R38: the access of an object that only the Chain may not write. -/
theorem access_but_chain {p : Prin} (hp : p ≠ .chain) : accWoWoNoWo.of p = .wo ∨ accWoWoNoWo.of p = .rw := by
  cases p with
  | chain => exact absurd rfl hp
  | host | net | selvedge => exact .inl rfl

/-- R38: the access of an object that the Host and the Selvedge may write. -/
theorem access_host_selvedge {p : Prin} (hp : p = .host ∨ p = .selvedge) : accWoNoNoWo.of p = .wo ∨ accWoNoNoWo.of p = .rw := by
  obtain rfl | rfl := hp <;> exact .inl rfl

/-- R38: the access of a key. -/
theorem access_key {p : Prin} (hp : p = .host ∨ p = .selvedge) : accWoNoNoRw.of p = .wo ∨ accWoNoNoRw.of p = .rw := by
  obtain rfl | rfl := hp
  · exact .inl rfl
  · exact .inr rfl

theorem takes_patternSave : Takes K.bootPatternSave accWoWoNoWo (.int 1) := ⟨_, rfl, rfl, rfl, by decide⟩
theorem takes_deviceReset : Takes K.bootDeviceReset accWoNoNoWo (.int 1) := ⟨_, rfl, rfl, rfl, by decide⟩
theorem takes_returnToSetPoint : Takes K.beamReturnToSetPoint accWoWoNoWo (.int 1) := ⟨_, rfl, rfl, rfl, by decide⟩
theorem takes_activate : Takes K.selvActivate accWoWoNoWo (.int 1) := ⟨_, rfl, rfl, rfl, by decide⟩
theorem takes_cancelActivation : Takes K.selvCancelActivation accWoWoNoWo (.int 1) := ⟨_, rfl, rfl, rfl, by decide⟩
theorem takes_confirmImage : Takes K.selvConfirmImage accWoWoNoWo (.int 1) := ⟨_, rfl, rfl, rfl, by decide⟩
theorem takes_snapshotRequest : Takes K.pmcSnapshotRequest accWoWoWoWo (.int 1) := ⟨_, rfl, rfl, rfl, by decide⟩

/-- R427: PatternLoadSlot names slot A or B. -/
theorem takes_patternLoadSlot {slot : Nat} (hslot : slot ≤ 1) : Takes K.bootPatternLoadSlot accWoWoNoWo (.int slot) := by
  have hval : ∀ n : Fin 2, Takes K.bootPatternLoadSlot accWoWoNoWo (.int n.val) := fun n => ⟨_, rfl, rfl, by revert n; decide, by decide⟩
  exact hval ⟨slot, by omega⟩

/-- The row of ScanStart in the object tables. -/
def scanStartRow : ObjDef := ⟨0x6A80, 0x1, 32, 0, 1, 0x01, 1, .bool, 0, 0, accWoWoNoWo, .none, none⟩

theorem findDef_scanStart : ∀ n : LaneId, findDef (keyIdx (K.scanScanStart n.val)) (keySub (K.scanScanStart n.val)) = some scanStartRow := by
  decide

/-- R359: every lane has its ScanStart. -/
theorem takes_scanStart (n : LaneId) : Takes (K.scanScanStart n.val) accWoWoNoWo (.int 1) := by
  have hval : ∀ n : LaneId, valueOk scanStartRow (keyIdx (K.scanScanStart n.val)) (keySub (K.scanScanStart n.val)) (.int 1) = true := by decide
  have hidx : ∀ n : LaneId, keyIdx (K.scanScanStart n.val) ≠ 0x5801 := by decide
  exact ⟨scanStartRow, by simp only [lookup, findDef_scanStart], rfl, hval n, hidx n⟩

/-- R439: FreezeMaster and ThawMaster name a master. -/
theorem takes_frz {m : Nat} (hm : m < 40) :
    Takes K.frzFreezeMaster accWoWoNoWo (.int m) ∧ Takes K.frzThawMaster accWoWoNoWo (.int m) := by
  have hfreeze : ∀ n : MasterId, Takes K.frzFreezeMaster accWoWoNoWo (.int n.val) := fun n => ⟨_, rfl, rfl, by revert n; decide, by decide⟩
  have hthaw : ∀ n : MasterId, Takes K.frzThawMaster accWoWoNoWo (.int n.val) := fun n => ⟨_, rfl, rfl, by revert n; decide, by decide⟩
  exact ⟨hfreeze ⟨m, hm⟩, hthaw ⟨m, hm⟩⟩

/-- The row of a Shed key in the object tables. -/
def shedKeyRow : ObjDef := ⟨0x1180, 0x1, 8, 0, 1, 0x01, 1, .octets, 0, 32, accWoNoNoRw, .oct [], none⟩

theorem findDef_shedKey : ∀ n : Fin 8, findDef (keyIdx (K.shedShedKey n.val)) (keySub (K.shedShedKey n.val)) = some shedKeyRow := by decide

/-- R440: the object of a key slot. -/
def keyObject (slot : Nat) : Nat := if slot = 16 then K.selvChainLinkKey else K.shedShedKey slot

theorem keyIdx_shedKey (slot : Nat) : keyIdx (K.shedShedKey slot) = 0x1180 + slot := keyIdx_objKey _ (by decide)

/-- R37: bytes of a good length whose content no chapter limits are a value of an OCTETS object. -/
theorem valueOk_octets {d : ObjDef} {idx sub : Nat} {b : Bytes} (hty : d.ty = .octets) (hmin : d.minLen ≤ b.length) (hmax : b.length ≤ d.maxLen)
    (hcontent : contentOk idx sub b = true) : valueOk d idx sub (.oct b) = true := by
  simp [valueOk, checkValue, hty, encodeVal, Val.toBytes, OType.size, encodingOk, hcontent, Nat.not_lt.mpr hmin, Nat.not_lt.mpr hmax]

/-- R101, R123, R125, R515: the chapters limit the content of no object below 0x5000, nor of one from 0x5800 to 0xA000. -/
theorem contentOk_of_idx {idx : Nat} (h : idx < 0x5000 ∨ 0x5800 ≤ idx ∧ idx < 0xA000) (sub : Nat) (b : Bytes) : contentOk idx sub b = true := by
  have hcoefficients : ¬(0xA000 ≤ idx) := by omega
  have hcurves : ¬(0xB000 ≤ idx) := by omega
  have hoffsets : idx ≠ 0xBF01 := by omega
  have hmac : ¬(0x5000 ≤ idx ∧ idx < 0x5800) := by omega
  simp [contentOk, hcoefficients, hcurves, hoffsets]
  omega

/-- R440: every key slot has its object, which takes a key of up to 32 bytes. -/
theorem takes_key {slot : Nat} (hslot : slot < 8 ∨ slot = 16) {key : Bytes} (hkey : key.length ≤ 32) :
    Takes (keyObject slot) accWoNoNoRw (.oct key) := by
  obtain hslot | rfl := hslot
  · have hidx := keyIdx_shedKey slot
    rw [keyObject, if_neg (by omega)]
    refine ⟨shedKeyRow, ?_, rfl, ?_, by omega⟩
    · simp only [lookup, findDef_shedKey ⟨slot, hslot⟩]
    · exact valueOk_octets rfl (Nat.zero_le _) hkey (contentOk_of_idx (.inl (by omega)) _ _)
  · exact ⟨_, rfl, rfl, valueOk_octets rfl (Nat.zero_le _) hkey (contentOk_of_idx (.inr (by decide)) _ _), by decide⟩

end Sys2Proof.Machine
end

section
/-!
PROOFS. Keys, activation and confirmation (spec/16_selvedge_update.md; R440, R444 to R446, R501): the writes of the key slots, the activation of a
Verified slot, and the end of a trial.
-/

namespace Sys2Proof.Machine

/-! ## Keys (R440) -/

/-- A write of a key's object asks for its slot. -/
theorem State.command_key (s : State) (p : Prin) {slot : Nat} (hslot : slot < 8 ∨ slot = 16) (key : Bytes) :
    s.command p (keyObject slot) (.oct key) = s.keyAsk slot key := by
  obtain hslot | rfl := hslot
  · have hidx := keyIdx_shedKey slot
    have hne {j : Nat} (hj : keyIdx j < 0x1180 ∨ 0x1188 ≤ keyIdx j) : K.shedShedKey slot ≠ j := key_ne_of_keyIdx (by omega)
    have hkey : 0x1180 ≤ 0x1180 + slot ∧ 0x1180 + slot < 0x1188 := by omega
    rw [keyObject, if_neg (by omega)]
    unfold State.command
    simp (disch := decide) only [hidx, hne, if_false, Bool.and_eq_true, decide_eq_true_eq, hkey, and_self, if_true, Nat.add_sub_cancel_left,
      Val.toBytes]
  · rfl

theorem execKeyWrite_of_clocked {s : State} (hclk : s.boot.clocksLost = false) (prin : Prin) {slot : Nat} (hslot : slot < 8 ∨ slot = 16)
    (key : Bytes) : exec (.keyWrite prin slot key) s = .next (s.direct prin (keyObject slot) (.oct key)) := by
  show execKeyWrite prin slot key s = _
  rw [execKeyWrite, whenClocked_of_clocked hclk, keyObject]
  obtain hslot | rfl := hslot
  · rw [if_pos hslot, if_neg (by omega)]
  · rfl

/-- R440: a write of 32 bytes fills the slot. -/
theorem keyWrite_writes {s : State} {prin : Prin} {slot : Nat} {key : Bytes} (hprin : prin = .host ∨ prin = .selvedge)
    (hslot : slot < 8 ∨ slot = 16) (hheld : Unheld s (keyObject slot)) (hlen : key.length = 32) :
    Completes (.keyWrite prin slot key) s fun t => AMap.find? t.flash.keys slot = some { value := key } ∧
      (∀ k, k ≠ slot → AMap.find? t.flash.keys k = AMap.find? s.flash.keys k) ∧ t.objs = s.objs := fun hclk => by
  obtain ⟨d, htouch, -⟩ := s.touch_draft prin
  have hfull : key.isEmpty = false := by cases key <;> simp_all
  have hcommand : (s.touch prin).command prin (keyObject slot) (.oct key) =
      ({ s with draft := d, flash := { s.flash with keys := AMap.put s.flash.keys slot { value := key } } }, stOk) := by
    rw [State.command_key _ _ hslot, htouch, State.keyAsk, if_neg (by simp [hfull]), if_pos hlen]
  refine ⟨_, execKeyWrite_of_clocked hclk prin hslot key, ?_⟩
  rw [(takes_key hslot (by omega)).direct (access_key hprin) hheld hcommand (by decide)]
  exact ⟨AMap.find?_put_self _ _ _, fun k hk => AMap.find?_put_ne _ _ (Ne.symm hk), rfl⟩

/-- R440: an empty write erases the slot. -/
theorem keyWrite_erases {s : State} {prin : Prin} {slot : Nat} (hprin : prin = .host ∨ prin = .selvedge)
    (hslot : slot < 8 ∨ slot = 16) (hheld : Unheld s (keyObject slot)) :
    Completes (.keyWrite prin slot []) s fun t => AMap.find? t.flash.keys slot = none ∧
      ∀ k, k ≠ slot → AMap.find? t.flash.keys k = AMap.find? s.flash.keys k := fun hclk => by
  obtain ⟨d, htouch, -⟩ := s.touch_draft prin
  have hcommand : (s.touch prin).command prin (keyObject slot) (.oct []) =
      ({ s with draft := d, flash := { s.flash with keys := AMap.del s.flash.keys slot } }, stOk) := by
    rw [State.command_key _ _ hslot, htouch]
    rfl
  refine ⟨_, execKeyWrite_of_clocked hclk prin hslot [], ?_⟩
  rw [(takes_key hslot (Nat.zero_le _)).direct (access_key hprin) hheld hcommand (by decide)]
  exact ⟨by simp [State.emit, AMap.find?_del], fun k hk => by simp [State.emit, AMap.find?_del, Ne.symm hk]⟩

/-! ## The boot selector (R444) -/

theorem governing_congr {f g : Flash} (ha : g.selA = f.selA) (hb : g.selB = f.selB) : governing g = governing f := by
  rw [governing, ha, hb, governing]

/-- R444: the selector that is written governs, until Sequence has run out. -/
theorem governing_writeSelector {f : Flash} (h : (governing f).sequence + 1 < 2 ^ 32) (slot trial : Nat) :
    governing (writeSelector f slot trial) =
      { valid := true, sequence := (governing f).sequence + 1, activeSlot := slot, trialState := trial } := by
  rw [writeSelector, Nat.mod_eq_of_lt h]
  split
  case isTrue ha =>
    have hold : governing f = f.selA := if_pos ha
    have hvalid : f.selA.valid = true := (Bool.and_eq_true_iff.mp ha).1
    rw [hold]
    simp [governing, hvalid]
  case isFalse ha =>
    have hold : governing f = if f.selB.valid then f.selB else {} := if_neg ha
    rw [hold]
    cases hb : f.selB.valid <;> simp [governing, hb]

/-! ## Slots -/

theorem slotKey_ne_version (slot : Nat) : (if slot = 0 then K.selvSlotAVersion else K.selvSlotBVersion) ≠ slotKey slot := by
  unfold slotKey
  split <;> decide

@[simp] theorem State.nat_showSlot (s : State) (slot st : Nat) : (s.showSlot slot st).nat (slotKey slot) = st := by
  rw [State.showSlot, State.nat_setN_ne _ _ (slotKey_ne_version slot), State.nat_setN]

/-! ## Activation (R445, R446) -/

/-- R446: an activation is scheduled: the instant of ActivateAt, and its event. -/
def State.scheduled (s : State) : State :=
  State.raise { s with boot := { s.boot with activation := some (ofTime80 (s.int K.selvActivateAt)) } } { src := 583 }

theorem State.activateAsk_schedules {s : State} (hslot : s.nat (slotKey (inactiveSlot s)) = 3) (htrial : onTrial s = false)
    (hnone : s.boot.activation = none) : s.activateAsk = (s.scheduled, stOk) := by
  simp [State.activateAsk, hslot, htrial, hnone, State.scheduled]

theorem State.activateAsk_refuses {s : State} (h : s.nat (slotKey (inactiveSlot s)) ≠ 3 ∨ onTrial s = true ∨ s.boot.activation ≠ none) :
    s.activateAsk = (s, stInconsistent) := by
  refine if_pos ?_
  obtain h | h | h := h
  · simp [h]
  · simp [h]
  · simp [Option.isSome_iff_ne_none.mpr h]

/-- R446: an Activate write schedules the activation of a Verified slot. -/
theorem activate_schedules {s : State} {prin : Prin} (hprin : prin ≠ .chain) (hslot : s.nat (slotKey (inactiveSlot s)) = 3)
    (htrial : onTrial s = false) (hnone : s.boot.activation = none) (hheld : Unheld s K.selvActivate) :
    Completes (.activate prin) s fun t => t.boot.activation = some (ofTime80 (s.int K.selvActivateAt)) ∧ bit t.log.pending 583 = true ∧
      governing t.flash = governing s.flash := fun hclk => by
  obtain ⟨d, htouch, -⟩ := s.touch_draft prin
  have hcommand : (s.touch prin).command prin K.selvActivate (.int 1) = (State.scheduled { s with draft := d }, stOk) := by
    rw [htouch]
    exact State.activateAsk_schedules (s := { s with draft := d }) hslot htrial hnone
  refine ⟨_, whenClocked_of_clocked hclk _, ?_⟩
  rw [takes_activate.direct (access_but_chain hprin) hheld hcommand (by decide)]
  refine ⟨?_, State.raise_pending _ (e := { src := 583 }) (by decide), governing_congr ?_ ?_⟩ <;>
    simp [State.emit, State.scheduled, State.int, State.obj]

/-- R445, R446: an Activate write for a slot that is not Verified, on trial or beside a scheduled activation is refused. -/
theorem activate_refuses {s : State} {prin : Prin} (hprin : prin ≠ .chain)
    (h : s.nat (slotKey (inactiveSlot s)) ≠ 3 ∨ onTrial s = true ∨ s.boot.activation ≠ none) :
    Completes (.activate prin) s fun t => t.boot = s.boot ∧ t.flash = s.flash ∧ t.objs = s.objs ∧
      ∃ st, st ≠ stOk ∧ t.net.sent = .reply prin K.selvActivate st :: s.net.sent := fun hclk => by
  obtain ⟨d, htouch, -⟩ := s.touch_draft prin
  have hcommand : (s.touch prin).command prin K.selvActivate (.int 1) = (s.touch prin, stInconsistent) := by
    rw [htouch]
    exact State.activateAsk_refuses (s := { s with draft := d }) h
  obtain ⟨r, hr, hdirect⟩ := takes_activate.direct_refused (access_but_chain hprin) hcommand (by decide) (by decide)
  refine ⟨_, whenClocked_of_clocked hclk _, ?_⟩
  rw [hdirect, htouch]
  exact ⟨rfl, rfl, rfl, r, hr, rfl⟩

/-- R446: a scheduled activation is withdrawn. -/
theorem cancelActivation_withdraws {s : State} {prin : Prin} {x : Nat} (hprin : prin ≠ .chain) (hat : s.boot.activation = some x)
    (hheld : Unheld s K.selvCancelActivation) :
    Completes (.cancelActivation prin) s fun t => t.boot.activation = none ∧ bit t.log.pending 583 = true ∧
      governing t.flash = governing s.flash := fun hclk => by
  obtain ⟨d, htouch, -⟩ := s.touch_draft prin
  have hcommand : (s.touch prin).command prin K.selvCancelActivation (.int 1) =
      (State.raise { s with draft := d, boot := { s.boot with activation := none } } { src := 583 }, stOk) := by
    rw [htouch]
    exact congrArg (·, stOk) (if_neg (by simp [hat]))
  refine ⟨_, whenClocked_of_clocked hclk _, ?_⟩
  rw [takes_cancelActivation.direct (access_but_chain hprin) hheld hcommand (by decide)]
  refine ⟨?_, State.raise_pending _ (e := { src := 583 }) (by decide), governing_congr ?_ ?_⟩ <;> simp [State.emit]

/-! ## The end of a trial (R445, R501) -/

/-- R445: a confirmation ends the trial of the slot that is active, and leaves its version on show. -/
theorem State.confirmDone_ends {s : State} (h : (governing s.flash).sequence + 1 < 2 ^ 32) :
    onTrial s.confirmDone = false ∧ activeSlot s.confirmDone = activeSlot s ∧ s.confirmDone.nat (slotKey (activeSlot s)) = 4 ∧
      bit s.confirmDone.log.pending 584 = true ∧ s.confirmDone.fuses = s.fuses ∧ s.confirmDone.boot = s.boot := by
  have hgoverning : governing s.confirmDone.flash =
      { valid := true, sequence := (governing s.flash).sequence + 1, activeSlot := activeSlot s, trialState := 0 } := by
    rw [← governing_writeSelector h]
    exact governing_congr (by simp [State.confirmDone, State.showSlot, State.setN]) (by simp [State.confirmDone, State.showSlot, State.setN])
  refine ⟨by rw [onTrial, hgoverning]; rfl, by rw [activeSlot, hgoverning], ?_, State.raise_pending _ (e := { src := 584 }) (by decide), ?_, ?_⟩
  · rw [State.confirmDone, State.raise_nat, State.nat_showSlot]
  · simp [State.confirmDone, State.showSlot, State.setN]
  · simp [State.confirmDone, State.showSlot, State.setN]

/-- R501: the rollback counter that a confirmation of the active slot's image calls for. -/
def rollbackAfter (s : State) : Nat := max s.fuses.rollback (min 64 (hdr (slotHeader s.flash (activeSlot s)) 10 2))

/-- R501: the revoked keys that it calls for. -/
def revokedAfter (s : State) : Nat :=
  let h := slotHeader s.flash (activeSlot s)
  if bit (hdr h 21 1) 0 then s.fuses.revoked ||| (2 ^ hdr h 9 1 - 1) else s.fuses.revoked

/-- R445, R501: t is s with its trial confirmed: ended, or waiting for the blow of the fuses that it calls for. -/
def Confirmed (s t : State) : Prop :=
  (rollbackAfter s = s.fuses.rollback → revokedAfter s = s.fuses.revoked →
    onTrial t = false ∧ activeSlot t = activeSlot s ∧ t.nat (slotKey (activeSlot s)) = 4 ∧ bit t.log.pending 584 = true ∧ t.fuses = s.fuses) ∧
  (rollbackAfter s ≠ s.fuses.rollback ∨ revokedAfter s ≠ s.fuses.revoked →
    t.boot.blowAsked = some (rollbackAfter s, revokedAfter s) ∧ t.flash = s.flash ∧ t.fuses = s.fuses)

theorem State.confirm_confirmed {s : State} (htrial : onTrial s = true) (h : (governing s.flash).sequence + 1 < 2 ^ 32) :
    Confirmed s s.confirm := by
  have hconfirm : s.confirm =
      if (rollbackAfter s = s.fuses.rollback && revokedAfter s = s.fuses.revoked) = true then s.confirmDone
      else { s with boot := { s.boot with blowAsked := some (rollbackAfter s, revokedAfter s) } } := by
    rw [State.confirm, if_neg (by simp [htrial])]
    rfl
  rw [hconfirm]
  refine ⟨fun hroll hrev => ?_, fun hne => ?_⟩
  · obtain ⟨hended, hslot, hshown, hevent, hfuses, -⟩ := State.confirmDone_ends h
    rw [if_pos (by simp [hroll, hrev])]
    exact ⟨hended, hslot, hshown, hevent, hfuses⟩
  · rw [if_neg (by simpa only [Bool.and_eq_true, decide_eq_true_eq, not_and_or] using hne)]
    exact ⟨rfl, rfl, rfl⟩

/-- R445: a ConfirmImage write confirms the trial. -/
theorem confirmImage_confirms {s : State} {prin : Prin} (htrial : onTrial s = true) (h : (governing s.flash).sequence + 1 < 2 ^ 32)
    (hprin : prin ≠ .chain) (hheld : Unheld s K.selvConfirmImage) : Completes (.confirmImage prin) s (Confirmed s) := fun hclk => by
  obtain ⟨d, htouch, -⟩ := s.touch_draft prin
  have hcommand : (s.touch prin).command prin K.selvConfirmImage (.int 1) = (State.confirm { s with draft := d }, stOk) := by
    rw [htouch]
    rfl
  have hconfirmed := State.confirm_confirmed (s := { s with draft := d }) htrial h
  refine ⟨_, whenClocked_of_clocked hclk _, ?_⟩
  rw [takes_confirmImage.direct (access_but_chain hprin) hheld hcommand (by decide)]
  exact hconfirmed

/-- R445: AutoConfirmS after ConfigCommitted the trial is confirmed. -/
theorem autoConfirmExpiry_confirms {s : State} (htrial : onTrial s = true) (h : (governing s.flash).sequence + 1 < 2 ^ 32)
    (hcommitted : s.boot.configCommitted = true) (hwait : s.nat K.selvAutoConfirmS ≠ 0)
    (hpassed : passed s s.boot.committedAt (s.nat K.selvAutoConfirmS * 1000000000) = true) :
    Completes .autoConfirmExpiry s (Confirmed s) := fun hclk => by
  refine ⟨s.confirm, ?_, State.confirm_confirmed htrial h⟩
  show execAutoConfirmExpiry s = _
  rw [execAutoConfirmExpiry, whenClocked_of_clocked hclk]
  simp [hcommitted, hwait, hpassed]

/-- R501: a blow that is called for, while VDD_FUSE lies within its window, sets the rollback counter and the revoked keys and ends the trial. -/
theorem fuseBlow_blows {s : State} {roll rev : Nat} (hasked : s.boot.blowAsked = some (roll, rev)) (hlow : bit s.power.low 8 = false)
    (hhigh : bit s.power.high 8 = false) (h : (governing s.flash).sequence + 1 < 2 ^ 32) :
    Completes .fuseBlow s fun t => t.fuses = { s.fuses with rollback := roll, revoked := rev } ∧ t.boot.blowAsked = none ∧ onTrial t = false ∧
      activeSlot t = activeSlot s := fun hclk => by
  obtain ⟨hended, hslot, -, -, hfuses, hboot⟩ := State.confirmDone_ends
    (s := { s with fuses := { s.fuses with rollback := roll, revoked := rev }, boot := { s.boot with blowAsked := none } }) h
  refine ⟨_, ?_, hfuses, by rw [hboot], hended, hslot⟩
  show execFuseBlow s = _
  rw [execFuseBlow, whenClocked_of_clocked hclk, hasked]
  simp [hlow, hhigh]

/-- R501: outside the window of VDD_FUSE no fuse is blown. -/
theorem fuseBlow_waits {s : State} {roll rev : Nat} (hasked : s.boot.blowAsked = some (roll, rev))
    (hout : bit s.power.low 8 = true ∨ bit s.power.high 8 = true) : exec .fuseBlow s = .next s := by
  show execFuseBlow s = _
  rw [execFuseBlow, hasked]
  obtain h | h := hout <;> simp [h, whenClocked]

/-- Settles O54: keys by `keyWrite_writes` and `keyWrite_erases`, activation by `activate_schedules`, `activate_refuses` and
`cancelActivation_withdraws`, the end of a trial by `State.confirm_confirmed` and `fuseBlow_blows`. -/
theorem keysAndActivation : Obligations.KeysAndActivation := by
  unfold Obligations.KeysAndActivation
  refine fun s => ⟨fun prin slot key hprin hslot hheld => ⟨keyWrite_writes hprin hslot hheld, ?_⟩, fun prin slot key hprin hslot hclk => ?_,
    fun prin hprin => ⟨activate_schedules hprin, activate_refuses hprin, fun x => cancelActivation_withdraws hprin⟩,
    fun htrial hseq => ⟨fun prin => confirmImage_confirms htrial hseq, autoConfirmExpiry_confirms htrial hseq⟩,
    fun roll rev hasked => ⟨fuseBlow_blows hasked, fuseBlow_waits hasked⟩⟩
  · rintro rfl
    exact keyWrite_erases hprin hslot hheld
  · have hdenied := (takes_key hslot (key := []) (Nat.zero_le _)).direct_no (s := s) (p := prin)
      (by obtain rfl | rfl := hprin <;> rfl) (.oct key)
    exact ⟨_, execKeyWrite_of_clocked hclk prin hslot key, by rw [hdenied]; exact ⟨rfl, rfl, rfl⟩⟩

end Sys2Proof.Machine
end

section
/-!
PROOFS. Saves, loads and DeviceReset (spec/15_startup_config.md; R410, R421, R426 to R428): the slot that a save writes, what its end leaves, the
commit that a load queues, and the wait of a reset.
-/

namespace Sys2Proof.Machine

/-! ## The configuration slots (R421) -/

@[simp] theorem Flash.cfg_setCfg (f : Flash) (slot : Nat) (b : Bytes) : (f.setCfg slot b).cfg slot = b := by
  unfold Flash.setCfg Flash.cfg
  split <;> rfl

theorem Flash.cfg_setCfg_other (f : Flash) {slot : Nat} (h : slot < 2) (b : Bytes) : (f.setCfg slot b).cfg (1 - slot) = f.cfg (1 - slot) := by
  obtain rfl | rfl : slot = 0 ∨ slot = 1 := by omega
  · rfl
  · rfl

theorem Flash.cfg_congr {f g : Flash} (ha : g.cfgA = f.cfgA) (hb : g.cfgB = f.cfgB) : g.cfg = f.cfg := by
  funext slot
  rw [Flash.cfg, ha, hb, Flash.cfg]

theorem saveSlot_lt (s : State) : saveSlot s < 2 := by
  unfold saveSlot
  split <;> decide

/-! ## Saves (R426) -/

theorem State.saveBegin_leaves (s : State) (b : Bytes) :
    (s.saveBegin b).boot = { s.boot with saving := some b } ∧ (s.saveBegin b).flash.cfg (saveSlot s) = b ∧
      (s.saveBegin b).flash.cfg (1 - saveSlot s) = s.flash.cfg (1 - saveSlot s) ∧ (s.saveBegin b).nat K.bootSaveState = 1 :=
  ⟨rfl, s.flash.cfg_setCfg _ b, s.flash.cfg_setCfg_other (saveSlot_lt s) b, State.nat_setN _ _ _⟩

/-- What a save of the values in force writes tells of the functions that are held, and of no other part of the draft. -/
theorem snapshotImage_draft (s : State) {d : DraftSt} (h : d.held = s.draft.held) : snapshotImage { s with draft := d } = snapshotImage s := by
  have hsnapshot : snapshot { s with draft := d } = snapshot s := by simp only [snapshot, h]
  rw [snapshotImage, hsnapshot]
  rfl

section Save

variable {s : State} (hbolt : boltDown s = false) (hheld : Unheld s K.bootPatternSave)
include hbolt hheld

/-- R426: a PatternSave write asks for a save. -/
theorem patternSave_asks {post : State → Prop}
    (hpost : ∀ d, d.held = s.draft.held → post ((State.saveAsk { s with draft := d }).emit (.reply .host K.bootPatternSave stOk))) :
    Completes .patternSave s post := fun hclk => by
  obtain ⟨d, htouch, -, hd⟩ := s.touch_draft .host
  have hcommand : (s.touch .host).command .host K.bootPatternSave (.int 1) = (State.saveAsk { s with draft := d }, stOk) := by
    rw [htouch]
    rfl
  refine ⟨_, ?_, hpost d hd⟩
  show execPatternSave s = _
  rw [execPatternSave, whenClocked_of_clocked hclk, hbolt]
  exact congrArg Host.Outcome.next (takes_patternSave.direct (.inl rfl) hheld hcommand (by decide))

/-- R426: while no save runs, it begins in the slot that is not the chosen one. -/
theorem patternSave_begins (hnone : s.boot.saving = none) :
    Completes .patternSave s fun t => t.boot.saving = some (snapshotImage s) ∧ t.flash.cfg (saveSlot s) = snapshotImage s ∧
      t.nat K.bootSaveState = 1 ∧ t.flash.cfg (1 - saveSlot s) = s.flash.cfg (1 - saveSlot s) :=
  patternSave_asks hbolt hheld fun d hd => by
    have hask : State.saveAsk { s with draft := d } = State.saveBegin { s with draft := d } (snapshotImage s) := by
      rw [State.saveAsk, if_neg (by simp [hnone]), snapshotImage_draft s hd]
    obtain ⟨hboot, hnew, hold, hstate⟩ := State.saveBegin_leaves { s with draft := d } (snapshotImage s)
    rw [hask]
    exact ⟨congrArg BootSt.saving hboot, hnew, hstate, hold⟩

/-- R426: while one runs, a further one is noted. -/
theorem patternSave_coalesces {b : Bytes} (hsaving : s.boot.saving = some b) :
    Completes .patternSave s fun t => t.boot.saving = some b ∧ t.boot.saveAgain = true ∧ t.flash = s.flash :=
  patternSave_asks hbolt hheld fun d hd => by
    have hask : State.saveAsk { s with draft := d } = { s with draft := d, boot := { s.boot with saveAgain := true } } :=
      if_pos (by simp [hsaving])
    rw [hask]
    exact ⟨hsaving, rfl, rfl⟩

end Save

/-- R426: the save of image b has ended, well or badly. -/
def State.saveEnded (s : State) (b : Bytes) (ok : Bool) : State :=
  let u := { s with boot := { s.boot with saving := none } }
  if ok then
    let g := nextGeneration s
    let v := { u with flash := u.flash.setCfg (saveSlot s) (withGeneration b g true) }
    let w := ((v.setN K.bootPatternSlot (saveSlot s)).setN K.bootPatternGeneration g).setN K.bootPatternSchema (patField b 4 2)
    (w.setN K.bootSaveState 2).raise { src := 625 }
  else (u.setN K.bootSaveState 3).raise { src := 625, sev := 3 }

theorem State.saveEnded_boot (s : State) (b : Bytes) (ok : Bool) : (s.saveEnded b ok).boot = { s.boot with saving := none } := by
  cases ok <;> simp [State.saveEnded, State.setN]

/-- R426: the end of a good save makes its slot, sealed, the chosen one. -/
theorem State.saveEnded_sealed (s : State) (b : Bytes) :
    let t := s.saveEnded b true
    t.flash.cfg (saveSlot s) = withGeneration b (nextGeneration s) true ∧ t.flash.cfg (1 - saveSlot s) = s.flash.cfg (1 - saveSlot s) ∧
      t.nat K.bootPatternSlot = saveSlot s ∧ t.nat K.bootPatternGeneration = nextGeneration s ∧ t.nat K.bootSaveState = 2 ∧
        bit t.log.pending 625 = true ∧ t.conf = s.conf := by
  have hflash : (s.saveEnded b true).flash.cfg = (s.flash.setCfg (saveSlot s) (withGeneration b (nextGeneration s) true)).cfg :=
    Flash.cfg_congr (by simp [State.saveEnded, State.setN]) (by simp [State.saveEnded, State.setN])
  refine ⟨?_, ?_, ?_, ?_, ?_, State.raise_pending _ (e := { src := 625 }) (by decide), ?_⟩
  · rw [hflash, Flash.cfg_setCfg]
  · rw [hflash, Flash.cfg_setCfg_other _ (saveSlot_lt s)]
  · simp (disch := decide) [State.saveEnded, State.nat_setN_ne, State.nat_setN]
  · simp (disch := decide) [State.saveEnded, State.nat_setN_ne, State.nat_setN]
  · simp [State.saveEnded, State.nat_setN]
  · simp [State.saveEnded, State.setN]

/-- R426: a save that fails leaves both slots and the choice as they are. -/
theorem State.saveEnded_failed (s : State) (b : Bytes) :
    let t := s.saveEnded b false
    t.flash.cfgA = s.flash.cfgA ∧ t.flash.cfgB = s.flash.cfgB ∧ t.nat K.bootPatternSlot = s.nat K.bootPatternSlot ∧
      t.nat K.bootSaveState = 3 ∧ bit t.log.pending 625 = true := by
  refine ⟨by simp [State.saveEnded, State.setN], by simp [State.saveEnded, State.setN], ?_, by simp [State.saveEnded, State.nat_setN],
    State.raise_pending _ (e := { src := 625, sev := 3 }) (by decide)⟩
  simp (disch := decide) [State.saveEnded, State.nat_setN_ne]
  rfl

section SaveDone

variable {s : State} {b : Bytes} (hsaving : s.boot.saving = some b) (hno : s.boot.saveImage = none)
include hsaving hno

theorem exec_patternSaveDone (hclk : s.boot.clocksLost = false) (ok : Bool) : exec (.patternSaveDone ok) s = .next (
    let u := s.saveEnded b ok
    if s.boot.saveAgain then State.saveBegin { u with boot := { u.boot with saveAgain := false } } (snapshotImage u) else u) := by
  have hboot := s.saveEnded_boot b ok
  have himage : (s.saveEnded b ok).boot.saveImage = none := by rw [hboot, hno]
  have hagain : (s.saveEnded b ok).boot.saveAgain = s.boot.saveAgain := by rw [hboot]
  have hexec : execPatternSaveDone ok s =
      (match (s.saveEnded b ok).boot.saveImage with
        | some x => .next (State.saveBegin { s.saveEnded b ok with boot := { (s.saveEnded b ok).boot with saveImage := none } }
            (suppliedImage (s.saveEnded b ok) x))
        | none => if (s.saveEnded b ok).boot.saveAgain then
            .next (State.saveBegin { s.saveEnded b ok with boot := { (s.saveEnded b ok).boot with saveAgain := false } }
              (snapshotImage (s.saveEnded b ok))) else .next (s.saveEnded b ok)) := by
    rw [execPatternSaveDone, whenClocked_of_clocked hclk, hsaving]
    rfl
  show execPatternSaveDone ok s = _
  rw [hexec, himage, hagain]
  cases s.boot.saveAgain <;> rfl

/-- R426: the end of a save while no further one is asked for. -/
theorem patternSaveDone_ends (hagain : s.boot.saveAgain = false) (ok : Bool) {post : State → Prop} (hpost : post (s.saveEnded b ok)) :
    Completes (.patternSaveDone ok) s post := fun hclk => by
  refine ⟨_, exec_patternSaveDone hsaving hno hclk ok, ?_⟩
  rw [hagain]
  exact hpost

/-- R426: a further save that is asked for begins. -/
theorem patternSaveDone_continues (hagain : s.boot.saveAgain = true) (ok : Bool) : Completes (.patternSaveDone ok) s fun t =>
    t.boot.saving ≠ none ∧ t.boot.saveAgain = false ∧ t.nat K.bootSaveState = 1 := fun hclk => by
  refine ⟨_, exec_patternSaveDone hsaving hno hclk ok, ?_⟩
  rw [hagain]
  exact ⟨Option.some_ne_none _, rfl, State.nat_setN _ _ _⟩

end SaveDone

/-! ## Loads (R427, R428, R50) -/

theorem State.setStat_draft (s : State) (p : Prin) (x : CommitStat) : ∃ d, s.setStat p x = { s with draft := d } ∧ d.queue = s.draft.queue := by
  cases p <;> exact ⟨_, rfl, rfl⟩

theorem State.setStats_draft (ps : List Prin) (x : CommitStat) (s : State) :
    ∃ d, ps.foldl (fun s p => s.setStat p x) s = { s with draft := d } ∧ d.queue = s.draft.queue := by
  induction ps generalizing s with
  | nil => exact ⟨s.draft, rfl, rfl⟩
  | cons p ps ih =>
    obtain ⟨d, hd, hqueue⟩ := s.setStat_draft p x
    obtain ⟨d', hd', hqueue'⟩ := ih (s.setStat p x)
    exact ⟨d', by rw [List.foldl_cons, hd', hd], by rw [hqueue', hd, hqueue]⟩

/-- R50: a commit stands at the end of the queue, and beside the draft nothing changes. -/
theorem State.enqueue_draft (s : State) (p : Prin) (tag : Nat) (kind : CommitKind) (items : AMap Val) :
    ∃ d c, s.enqueue p tag kind items = { s with draft := d } ∧ d.queue = s.draft.queue ++ [c] ∧ c.prin = p ∧ c.kind = kind ∧ c.items = items := by
  unfold State.enqueue
  extract_lets id first c src u
  obtain ⟨d, hd, hqueue⟩ := u.setStats_draft c.reports { id := id, lastTag := tag, state := if first then 2 else 1 }
  exact ⟨d, c, hd, hqueue, rfl, rfl, rfl⟩

/-- R428: an older Pattern's migration as it is reported. -/
def State.loadMigrated (s : State) (schema dropped : Nat) : State :=
  if schema < 5 then ((s.setN K.bootMigratedFrom schema).add K.bootMigrationDropped dropped).raise { src := 624 } else s

theorem State.loadMigrated_leaves (s : State) (schema dropped : Nat) :
    (s.loadMigrated schema dropped).draft.queue = s.draft.queue ∧ (s.loadMigrated schema dropped).conf = s.conf ∧
      (schema < 5 → (s.loadMigrated schema dropped).nat K.bootMigratedFrom = schema ∧
        bit (s.loadMigrated schema dropped).log.pending 624 = true) := by
  unfold State.loadMigrated
  split
  case isTrue h =>
    refine ⟨by simp [State.add, State.setN], by simp [State.add, State.setN], fun _ => ⟨?_, State.raise_pending _ (e := { src := 624 }) (by decide)⟩⟩
    simp (disch := decide) [State.add, State.nat_setN_ne, State.nat_setN]
  case isFalse h => exact ⟨rfl, rfl, fun hlt => absurd hlt h⟩

/-- R427: a load of a good slot. -/
theorem State.loadAsk_takes {s : State} (p : Prin) {slot dropped : Nat} {items : AMap Val} (hcandidate : patCandidate (s.flash.cfg slot) = true)
    (hcheck : patCheck (s.flash.cfg slot) = true) (hfrom : 1 ≤ patField (s.flash.cfg slot) 4 2) (hto : patField (s.flash.cfg slot) 4 2 ≤ 5)
    (hitems : patternItems (s.flash.cfg slot) = .ok (items, dropped)) (hroom : s.draft.queue.length < 4) :
    s.loadAsk p slot = ((s.loadMigrated (patField (s.flash.cfg slot) 4 2) dropped).enqueue p 0 .load items, stOk) := by
  simp [State.loadAsk, hcandidate, hcheck, Nat.ne_of_gt hfrom, Nat.not_lt.mpr hto, hitems, Nat.not_le.mpr hroom, State.loadMigrated]

section Load

variable {s : State} {prin : Prin} {slot : Nat} (hbolt : boltDown s = false) (hprin : prin ≠ .chain) (hslot : slot ≤ 1)
  (hheld : Unheld s K.bootPatternLoadSlot)
include hbolt hprin hslot hheld

theorem patternLoadSlot_asks {u : State} {st : Nat} (hst : st ≠ stStaged) {post : State → Prop}
    (hask : (s.touch prin).loadAsk prin slot = (u, st)) (hpost : post (u.emit (.reply prin K.bootPatternLoadSlot st))) :
    Completes (.patternLoadSlot prin slot) s post := fun hclk => by
  refine ⟨_, ?_, hpost⟩
  show execPatternLoadSlot prin slot s = _
  rw [execPatternLoadSlot, whenClocked_of_clocked hclk, hbolt]
  exact congrArg Host.Outcome.next ((takes_patternLoadSlot hslot).direct (access_but_chain hprin) hheld hask hst)

/-- R427: a load puts the slot's items into the commit queue. -/
theorem patternLoadSlot_loads {items : AMap Val} {dropped : Nat} (hcandidate : patCandidate (s.flash.cfg slot) = true)
    (hcheck : patCheck (s.flash.cfg slot) = true) (hfrom : 1 ≤ patField (s.flash.cfg slot) 4 2) (hto : patField (s.flash.cfg slot) 4 2 ≤ 5)
    (hitems : patternItems (s.flash.cfg slot) = .ok (items, dropped)) (hroom : s.draft.queue.length < 4) :
    Completes (.patternLoadSlot prin slot) s fun t => ∃ c, t.draft.queue = s.draft.queue ++ [c] ∧
      c.prin = prin ∧ c.kind = .load ∧ c.items = items ∧ t.conf = s.conf ∧
        (patField (s.flash.cfg slot) 4 2 < 5 → t.nat K.bootMigratedFrom = patField (s.flash.cfg slot) 4 2 ∧ bit t.log.pending 624 = true) := by
  obtain ⟨d, htouch, hd, -⟩ := s.touch_draft prin
  have hask : (s.touch prin).loadAsk prin slot =
      ((State.loadMigrated { s with draft := d } (patField (s.flash.cfg slot) 4 2) dropped).enqueue prin 0 .load items, stOk) := by
    rw [htouch]
    exact State.loadAsk_takes (s := { s with draft := d }) prin hcandidate hcheck hfrom hto hitems (by rwa [hd])
  refine patternLoadSlot_asks hbolt hprin hslot hheld (by decide) hask ?_
  obtain ⟨hqueue, hconf, hfromold⟩ := State.loadMigrated_leaves { s with draft := d } (patField (s.flash.cfg slot) 4 2) dropped
  generalize State.loadMigrated { s with draft := d } (patField (s.flash.cfg slot) 4 2) dropped = u at hqueue hconf hfromold
  obtain ⟨e, c, henqueue, hlast, hby, hkind, hvalues⟩ := u.enqueue_draft prin 0 .load items
  rw [henqueue]
  exact ⟨c, by rw [← hd]; exact hlast.trans (by rw [hqueue]), hby, hkind, hvalues, hconf, hfromold⟩

/-- R421, R427: a slot that holds no Pattern is refused. -/
theorem patternLoadSlot_refuses (hbad : patCandidate (s.flash.cfg slot) = false ∨ patCheck (s.flash.cfg slot) = false) :
    Completes (.patternLoadSlot prin slot) s fun t => t.draft.queue = s.draft.queue ∧ t.objs = s.objs ∧ t.conf = s.conf ∧
      t.net.sent = .reply prin K.bootPatternLoadSlot stInconsistent :: s.net.sent := by
  obtain ⟨d, htouch, hd, -⟩ := s.touch_draft prin
  have hask : (s.touch prin).loadAsk prin slot = ({ s with draft := d }, stInconsistent) := by
    rw [htouch]
    refine if_pos ?_
    obtain h | h := hbad <;> simp [h]
  exact patternLoadSlot_asks hbolt hprin hslot hheld (by decide) hask ⟨hd, rfl, rfl, rfl⟩

end Load

/-! ## DeviceReset (R410, R465, R467) -/

section Reset

variable {s : State} {prin : Prin} (hprin : prin = .host ∨ prin = .selvedge) (hheld : Unheld s K.bootDeviceReset)
include hprin hheld

theorem deviceReset_asks {d : DraftSt} (htouch : s.touch prin = { s with draft := d }) {u : State} {st : Nat} (hst : st ≠ stStaged)
    {post : State → Prop} (hask : State.resetAsk { s with draft := d } = (u, st)) (hpost : post (u.emit (.reply prin K.bootDeviceReset st))) :
    Completes (.deviceReset prin) s post := fun hclk => by
  refine ⟨_, whenClocked_of_clocked hclk _, ?_⟩
  have hcommand : (s.touch prin).command prin K.bootDeviceReset (.int 1) = (u, st) := by
    rw [htouch]
    exact hask
  rwa [takes_deviceReset.direct (access_host_selvedge hprin) hheld hcommand hst]

/-- R410: the 10 ms of a reset begin. -/
theorem deviceReset_begins (hsafe : s.log.safe = false) (hnone : s.boot.resetAsked = none) :
    Completes (.deviceReset prin) s fun t => t.boot.resetAsked = some s.clk.ticks ∧ t.objs = s.objs ∧ t.conf = s.conf := by
  obtain ⟨d, htouch, -, -⟩ := s.touch_draft prin
  have hask : State.resetAsk { s with draft := d } =
      ({ s with draft := d, boot := { s.boot with resetAsked := some s.clk.ticks } }, stOk) := by
    simp [State.resetAsk, resetTaken, hsafe, hnone]
  exact deviceReset_asks hprin hheld htouch (by decide) hask ⟨rfl, rfl, rfl⟩

/-- R465, R467: in a safe state that no DeviceReset leaves, it is refused. -/
theorem deviceReset_refused (hsafe : s.log.safe = true) (hfrom : 2 ≤ s.log.safeCause) (hto : s.log.safeCause ≤ 4) :
    Completes (.deviceReset prin) s fun t => t.boot = s.boot ∧ t.objs = s.objs ∧
      t.net.sent = .reply prin K.bootDeviceReset stNotReady :: s.net.sent := by
  obtain ⟨d, htouch, -, -⟩ := s.touch_draft prin
  have htaken : resetTaken { s with draft := d } = false := resetTaken_of_held (s := { s with draft := d }) hsafe (.inl ⟨hfrom, hto⟩)
  have hask : State.resetAsk { s with draft := d } = ({ s with draft := d }, stNotReady) := if_pos (by rw [htaken]; rfl)
  exact deviceReset_asks hprin hheld htouch (by decide) hask ⟨rfl, rfl, rfl⟩

end Reset

/-- Settles O53: saves by `patternSave_begins`, `patternSave_coalesces`, `State.saveEnded_sealed` and `State.saveEnded_failed`, loads by
`patternLoadSlot_loads` and `patternLoadSlot_refuses`, resets by `deviceReset_begins` and `deviceReset_refused`. -/
theorem savesLoadsAndResetRequests : Obligations.SavesLoadsAndResetRequests := by
  unfold Obligations.SavesLoadsAndResetRequests
  refine fun s => ⟨fun hbolt hheld => ⟨patternSave_begins hbolt hheld, fun b => patternSave_coalesces hbolt hheld⟩,
    fun b hsaving hno => ⟨fun hagain => ?_, fun hagain => ?_, patternSaveDone_continues hsaving hno⟩,
    fun prin slot hbolt hprin hslot hheld => ⟨fun items dropped => patternLoadSlot_loads hbolt hprin hslot hheld,
      patternLoadSlot_refuses hbolt hprin hslot hheld⟩,
    fun prin hprin hheld => ⟨deviceReset_begins hprin hheld, deviceReset_refused hprin hheld⟩⟩
  · exact patternSaveDone_ends hsaving hno hagain true ⟨congrArg BootSt.saving (s.saveEnded_boot b true), s.saveEnded_sealed b⟩
  · exact patternSaveDone_ends hsaving hno hagain false ⟨congrArg BootSt.saving (s.saveEnded_boot b false), s.saveEnded_failed b⟩

end Sys2Proof.Machine
end

section
/-!
PROOFS. Freezes and thaws of masters (spec/16_selvedge_update.md, spec/13_shuttle.md; R437 to R439): the writes of FreezeMaster and ThawMaster, the
thaw that a master makes by itself, its end, and the watchdog of a Bolt core.
-/

namespace Sys2Proof.Machine

/-! ## A value out of range (R37, R47) -/

/-- R37: no value outside the range of a number is taken. -/
theorem valueOk_outside {d : ObjDef} {r : Rng} {idx sub : Nat} {v : Val} (hrng : d.rng = some r) (hsize : d.ty.size ≠ 0)
    (hout : r.holds v.toInt = false) : valueOk d idx sub v = false := by
  unfold valueOk
  split
  case h_1 w hw =>
    refine beq_eq_false_iff_ne.mpr ?_
    rintro rfl
    rw [checkValue, if_neg (by simp), if_neg hsize] at hw
    split at hw
    · exact absurd hw (by simp)
    · split at hw
      · exact absurd hw (by simp)
      · simp only [hrng] at hw
        split at hw
        case isTrue h =>
          rw [Except.ok.inj hw, hout] at h
          exact absurd h (by simp)
        case isFalse => exact absurd hw (by simp)
  case h_2 => rfl

/-- R38, R439: of a FreezeMaster or ThawMaster write that names a master from 40 on. -/
theorem State.direct_outside {s : State} {prin : Prin} {k m : Nat} {d : ObjDef} (hrow : lookup (keyIdx k) (keySub k) = .ok d)
    (hacc : d.acc.of prin = .wo) (hrng : d.rng = some ⟨0, 39, 1, []⟩) (hsize : d.ty.size ≠ 0) (hm : 40 ≤ m) :
    s.direct prin k (.int m) = s.emit (.reply prin k stOutOfRange) := by
  have hout : Rng.holds ⟨0, 39, 1, []⟩ (Val.int m).toInt = false := by
    simp [Rng.holds, Val.toInt]
    omega
  have hmay : mayWrite d prin = true := by
    unfold mayWrite
    rw [hacc]
  simp [State.direct, State.objectWrite, hrow, hmay, valueOk_outside hrng hsize hout, stStaged, stOutOfRange]

/-- R439: the rows of FreezeMaster and ThawMaster name a master of 0 to 39. -/
theorem frz_row {k : Nat} (hk : k = K.frzFreezeMaster ∨ k = K.frzThawMaster) :
    ∃ d, lookup (keyIdx k) (keySub k) = .ok d ∧ d.acc = accWoWoNoWo ∧ d.rng = some ⟨0, 39, 1, []⟩ ∧ d.ty.size ≠ 0 := by
  obtain rfl | rfl := hk
  · exact ⟨⟨0x7480, 0x0, 1, 0, 1, 0x03, 1, .u8, 0, 0, accWoWoNoWo, .none, some ⟨0, 39, 1, []⟩⟩, rfl, rfl, rfl, by decide⟩
  · exact ⟨⟨0x7480, 0x0, 1, 0, 1, 0x04, 1, .u8, 0, 0, accWoWoNoWo, .none, some ⟨0, 39, 1, []⟩⟩, rfl, rfl, rfl, by decide⟩

theorem takes_frz_key {k m : Nat} (hk : k = K.frzFreezeMaster ∨ k = K.frzThawMaster) (hm : m < 40) : Takes k accWoWoNoWo (.int m) := by
  obtain ⟨hfreeze, hthaw⟩ := takes_frz hm
  obtain rfl | rfl := hk
  · exact hfreeze
  · exact hthaw

/-- R439: a write that its command refuses, whoever writes it and whatever it names, leaves the device as it is but for its reply. -/
theorem State.direct_frz_refused {s : State} {prin : Prin} {k m : Nat} (hk : k = K.frzFreezeMaster ∨ k = K.frzThawMaster)
    (hrefused : prin ≠ .chain → ∃ st, st ≠ stStaged ∧ st ≠ stOk ∧ (s.touch prin).command prin k (.int m) = (s.touch prin, st)) :
    ∃ d r, r ≠ stOk ∧ s.direct prin k (.int m) = State.emit { s with draft := d } (.reply prin k r) := by
  by_cases hprin : prin = .chain
  · exact ⟨s.draft, stAccessDenied, by decide, (takes_frz_key hk (by decide : 2 < 40)).direct_no (by rw [hprin]; rfl) (.int m)⟩
  by_cases hm : m < 40
  · obtain ⟨d, htouch, -⟩ := s.touch_draft prin
    obtain ⟨st, hst, hok, hcommand⟩ := hrefused hprin
    obtain ⟨r, hr, hdirect⟩ := (takes_frz_key hk hm).direct_refused (access_but_chain hprin) hcommand hst hok
    exact ⟨d, r, hr, by rw [hdirect, htouch]⟩
  · obtain ⟨d, hrow, hacc, hrng, hsize⟩ := frz_row hk
    have hwo : d.acc.of prin = .wo := by
      rw [hacc]
      cases prin with
      | chain => exact absurd rfl hprin
      | host | net | selvedge => rfl
    exact ⟨s.draft, stOutOfRange, by decide, State.direct_outside hrow hwo hrng hsize (Nat.not_lt.mp hm)⟩

/-! ## Freezes (R437, R439) -/

theorem State.isFrozen_of_masterParts {s : State} {x : MasterParts} (h : s.masterParts = x) (m : Nat) : s.isFrozen m = bit x.frozen m :=
  congrArg (fun y : MasterParts => bit y.frozen m) h

theorem State.freezes_of_masterParts {s : State} {x : MasterParts} (h : s.masterParts = x) : s.fab.freezes = x.freezes :=
  congrArg MasterParts.freezes h

/-- R437: outside device safe state a freeze of a master that is not frozen takes effect now. -/
theorem State.freeze_now {s : State} {m : Nat} (hfrom : 2 ≤ m) (hto : m < 40) (hsafe : s.log.safe = false)
    (hnone : AMap.find? s.fab.freezes m = none) (cause : FreezeCause) (addr target : Nat) :
    s.freeze m cause addr target = s.freezeNow m cause addr target := by
  rw [State.freeze, if_neg (by simp [hsafe]; omega), hnone]

theorem State.freezeNow_frozen (s : State) (m : Nat) (cause : FreezeCause) (addr target : Nat) :
    (s.freezeNow m cause addr target).isFrozen m = true := by
  rw [State.isFrozen_of_masterParts (s.freezeNow_masterParts m cause addr target), bit_setBit_true]
  simp

theorem State.freezeAsk_freezes {s : State} {prin : Prin} {m : Nat} (hfrom : 2 ≤ m) (hto : m < 40) (hfrozen : s.isFrozen m = false)
    (hhost : ¬(prin = .host ∧ m = 10)) (hsafe : s.log.safe = false) (hnone : AMap.find? s.fab.freezes m = none) :
    s.freezeAsk prin m = (s.freezeNow m .command 0 0, stOk) := by
  have hgo : ¬(decide (m < 2) || decide (40 ≤ m) || s.isFrozen m) = true := by
    simp [hfrozen]
    omega
  rw [State.freezeAsk, if_neg hgo, if_neg (by simpa using hhost), State.freeze_now hfrom hto hsafe hnone]

/-- R439: a FreezeMaster write that is taken freezes the master. -/
theorem freezeMaster_freezes {s : State} {prin : Prin} {m : Nat} (hprin : prin ≠ .chain) (hfrom : 2 ≤ m) (hto : m < 40)
    (hfrozen : s.isFrozen m = false) (hhost : ¬(prin = .host ∧ m = 10)) (hsafe : s.log.safe = false)
    (hnone : AMap.find? s.fab.freezes m = none) (hheld : Unheld s K.frzFreezeMaster) :
    Completes (.freezeMaster prin m) s fun t =>
      t.isFrozen m = true ∧ t.net.sent.head? = some (.reply prin K.frzFreezeMaster stOk) := fun hclk => by
  obtain ⟨d, htouch, -⟩ := s.touch_draft prin
  have hcommand : (s.touch prin).command prin K.frzFreezeMaster (.int m) = (State.freezeNow { s with draft := d } m .command 0 0, stOk) := by
    rw [htouch]
    exact State.freezeAsk_freezes (s := { s with draft := d }) hfrom hto hfrozen hhost hsafe hnone
  refine ⟨_, whenClocked_of_clocked hclk _, ?_⟩
  rw [(takes_frz hto).1.direct (access_but_chain hprin) hheld hcommand (by decide)]
  exact ⟨State.freezeNow_frozen _ _ _ _ _, rfl⟩

theorem State.freezeAsk_refuses {s : State} {prin : Prin} {m : Nat}
    (h : m < 2 ∨ 40 ≤ m ∨ s.isFrozen m = true ∨ prin = .chain ∨ (prin = .host ∧ m = 10)) (hprin : prin ≠ .chain) :
    ∃ st, st ≠ stStaged ∧ st ≠ stOk ∧ s.freezeAsk prin m = (s, st) := by
  by_cases hgo : (decide (m < 2) || decide (40 ≤ m) || s.isFrozen m) = true
  · exact ⟨stInconsistent, by decide, by decide, if_pos hgo⟩
  · refine ⟨stAccessDenied, by decide, by decide, (if_neg hgo).trans (if_pos ?_)⟩
    simp only [Bool.or_eq_true, decide_eq_true_eq, not_or] at hgo
    obtain ⟨⟨hfrom, hto⟩, hfrozen⟩ := hgo
    obtain h | h | h | h | h := h
    · exact absurd h hfrom
    · exact absurd h hto
    · exact absurd h hfrozen
    · exact absurd h hprin
    · simpa using h

/-- R439: a FreezeMaster write that is refused. -/
theorem freezeMaster_refuses {s : State} {prin : Prin} {m : Nat}
    (h : m < 2 ∨ 40 ≤ m ∨ s.isFrozen m = true ∨ prin = .chain ∨ (prin = .host ∧ m = 10)) : Completes (.freezeMaster prin m) s fun t =>
      t.fab = s.fab ∧ t.objs = s.objs ∧ ∃ st, st ≠ stOk ∧ t.net.sent = .reply prin K.frzFreezeMaster st :: s.net.sent := fun hclk => by
  obtain ⟨d, htouch, -⟩ := s.touch_draft prin
  obtain ⟨e, r, hr, hdirect⟩ := State.direct_frz_refused (s := s) (m := m) (.inl rfl) fun hprin => by
    obtain ⟨st, hst, hok, hask⟩ := State.freezeAsk_refuses (s := { s with draft := d }) h hprin
    exact ⟨st, hst, hok, by rw [htouch]; exact hask⟩
  refine ⟨_, whenClocked_of_clocked hclk _, ?_⟩
  rw [hdirect]
  exact ⟨rfl, rfl, r, hr, rfl⟩

/-! ## Thaws (R437, R439) -/

/-- R437, R439: the thaw of a master whose freeze is recorded begins; one that is asked for before that waits for the record. -/
def State.thawBegun (s : State) (m : Nat) (x : FreezeSt) : State :=
  if x.recorded then s.startThaw m else { s with fab := { s.fab with freezes := AMap.put s.fab.freezes m { x with thawAsked := true } } }

/-- R439: the record of a freeze once its thaw has been asked for. -/
def thawRecord (x : FreezeSt) : FreezeSt :=
  if x.recorded then { x with thawing := true, thawAsked := false } else { x with thawAsked := true }

theorem State.startQual_besideRows (s : State) (l : Nat) (joint again : Bool) : (s.startQual l joint again).besideRows = s.besideRows := by
  simp [State.startQual]

/-- R237, R241, R439: what the begin of a thaw does besides its record: a loom qualifies, the Mangle and a core start again. -/
def State.thawPrepares (s : State) (m : Nat) : State :=
  if 11 ≤ m && m < 27 then (s.startQual (m - 11) false false).showLooms
  else if m = 32 then (List.range 8).foldl (fun s p => s.setPort p { s.port p with rxMedia := 0 }) s
  else if 2 ≤ m && m < 10 then s.setCore (m - 2) { s.core (m - 2) with running := none, nextValid := false, resultDone := false }
  else s

theorem State.thawPrepares_freezes (s : State) (m : Nat) : (s.thawPrepares m).fab.freezes = s.fab.freezes := by
  unfold State.thawPrepares
  split
  · have hkeeps : ((s.startQual (m - 11) false false).showLooms).besideRows = s.besideRows := by
      rw [State.showLooms_besideRows, State.startQual_besideRows]
    exact State.freezes_of_masterParts (State.masterParts_of_besideRows hkeeps)
  · split
    · have hkeeps := foldl_besideRows (f := fun s p => s.setPort p { s.port p with rxMedia := 0 }) (fun s p => rfl) (List.range 8) s
      exact State.freezes_of_masterParts (State.masterParts_of_besideRows hkeeps)
    · split <;> rfl

theorem State.startThaw_freezes {s : State} {m : Nat} {x : FreezeSt} (hx : AMap.find? s.fab.freezes m = some x) :
    (s.startThaw m).fab.freezes = AMap.put s.fab.freezes m { x with thawing := true, thawAsked := false } := by
  rw [State.startThaw, hx]
  exact State.thawPrepares_freezes
    { s with fab := { s.fab with freezes := AMap.put s.fab.freezes m { x with thawing := true, thawAsked := false } } } m

theorem State.thawBegun_record {s : State} {m : Nat} {x : FreezeSt} (hx : AMap.find? s.fab.freezes m = some x) :
    AMap.find? (s.thawBegun m x).fab.freezes m = some (thawRecord x) := by
  unfold State.thawBegun thawRecord
  split
  · rw [State.startThaw_freezes hx, AMap.find?_put_self]
  · exact AMap.find?_put_self _ _ _

theorem State.thawAsk_begins {s : State} {m : Nat} {x : FreezeSt} (hfrom : 2 ≤ m) (hto : m < 40) (hfrozen : s.isFrozen m = true)
    (hsafe : s.log.safe = false) (hx : AMap.find? s.fab.freezes m = some x) (hthawing : x.thawing = false)
    (hpolicy : s.nat (K.frzThawPolicy m) = 0 ∨ x.heldFrozen = true) : s.thawAsk m = (s.thawBegun m x, stOk) := by
  have hgo : ¬(decide (m < 2) || decide (40 ≤ m) || !s.isFrozen m || s.log.safe) = true := by
    simp [hfrozen, hsafe]
    omega
  have hmanual : ¬(x.thawing || (s.nat (K.frzThawPolicy m) != 0 && !x.heldFrozen)) = true := by
    obtain h | h := hpolicy <;> simp [hthawing, h]
  rw [State.thawAsk, if_neg hgo, hx]
  dsimp only
  rw [if_neg hmanual, State.thawBegun]
  split <;> rfl

/-- R439: a ThawMaster write for a Manual master, or for one that three freezes hold, begins its thaw. -/
theorem thawMaster_begins {s : State} {prin : Prin} {m : Nat} {x : FreezeSt} (hprin : prin ≠ .chain) (hfrom : 2 ≤ m) (hto : m < 40)
    (hfrozen : s.isFrozen m = true) (hsafe : s.log.safe = false) (hx : AMap.find? s.fab.freezes m = some x) (hthawing : x.thawing = false)
    (hpolicy : s.nat (K.frzThawPolicy m) = 0 ∨ x.heldFrozen = true) (hheld : Unheld s K.frzThawMaster) :
    Completes (.thawMaster prin m) s fun t => t.net.sent.head? = some (.reply prin K.frzThawMaster stOk) ∧
      AMap.find? t.fab.freezes m = some (thawRecord x) := fun hclk => by
  obtain ⟨d, htouch, -⟩ := s.touch_draft prin
  have hcommand : (s.touch prin).command prin K.frzThawMaster (.int m) = (State.thawBegun { s with draft := d } m x, stOk) := by
    rw [htouch]
    exact State.thawAsk_begins (s := { s with draft := d }) hfrom hto hfrozen hsafe hx hthawing hpolicy
  refine ⟨_, whenClocked_of_clocked hclk _, ?_⟩
  rw [(takes_frz hto).2.direct (access_but_chain hprin) hheld hcommand (by decide)]
  exact ⟨rfl, State.thawBegun_record (s := { s with draft := d }) hx⟩

/-- R439: a ThawMaster write that is refused. -/
theorem thawMaster_refuses {s : State} {prin : Prin} {m : Nat} (h : m < 2 ∨ 40 ≤ m ∨ s.isFrozen m = false ∨ prin = .chain) :
    Completes (.thawMaster prin m) s fun t =>
      t.fab = s.fab ∧ t.objs = s.objs ∧ ∃ st, st ≠ stOk ∧ t.net.sent = .reply prin K.frzThawMaster st :: s.net.sent := fun hclk => by
  obtain ⟨d, htouch, -⟩ := s.touch_draft prin
  obtain ⟨e, r, hr, hdirect⟩ := State.direct_frz_refused (s := s) (m := m) (.inr rfl) fun hprin => by
    have hask : State.thawAsk { s with draft := d } m = ({ s with draft := d }, stInconsistent) := by
      refine if_pos ?_
      obtain h | h | h | h := h
      · simp [h]
      · simp [h]
      · simp [show State.isFrozen { s with draft := d } m = false from h]
      · exact absurd h hprin
    exact ⟨stInconsistent, by decide, by decide, by rw [htouch]; exact hask⟩
  refine ⟨_, whenClocked_of_clocked hclk _, ?_⟩
  rw [hdirect]
  exact ⟨rfl, rfl, r, hr, rfl⟩

/-- R439: an Auto master thaws by itself 10 ms after its freeze. -/
theorem autoThaw_begins {s : State} {m : MasterId} {x : FreezeSt} (hsafe : s.log.safe = false) (hx : AMap.find? s.fab.freezes m.val = some x)
    (hthawing : x.thawing = false) (hheld : x.heldFrozen = false) (hauto : s.nat (K.frzThawPolicy m.val) = 1)
    (hpassed : passed s x.since 10000000 = true) :
    Completes (.autoThaw m) s fun t => AMap.find? t.fab.freezes m.val = some (thawRecord x) := fun hclk => by
  refine ⟨s.thawBegun m.val x, ?_, State.thawBegun_record hx⟩
  show execAutoThaw m s = _
  rw [execAutoThaw, whenClocked_of_clocked hclk]
  dsimp only
  rw [hx]
  dsimp only
  rw [if_neg (by simp [hsafe, hthawing, hheld, hauto, hpassed]), State.thawBegun]
  split <;> rfl

/-- R439: one that three freezes hold does not. -/
theorem autoThaw_held {s : State} {m : MasterId} {x : FreezeSt} (hx : AMap.find? s.fab.freezes m.val = some x) (hheld : x.heldFrozen = true) :
    exec (.autoThaw m) s = .next s := by
  show execAutoThaw m s = _
  rw [execAutoThaw]
  dsimp only
  rw [hx]
  dsimp only
  rw [if_pos (by simp [hheld])]
  exact ite_self _

/-- R439: a master is released at the end of its thaw. -/
def State.thawEnded (s : State) (m : Nat) : State :=
  let u := { s with fab := { s.fab with frozen := setBit s.fab.frozen m false, freezes := AMap.del s.fab.freezes m } }
  let v := if 2 ≤ m && m < 10 then u.setCore (m - 2) { u.core (m - 2) with lastCommand := u.clk.ticks } else u
  let w := if m = 34 then v.thawTraining else v
  ((w.count 735 1).raise { src := 577, master := m }).follow

theorem State.thawEnded_masterParts (s : State) (m : Nat) :
    (s.thawEnded m).masterParts =
      { s.masterParts with frozen := setBit s.fab.frozen m false, freezes := AMap.del s.fab.freezes m } := by
  have hcore (u : State) (c : Nat) (x : CoreSt) (p : Prop) [Decidable p] : (if p then u.setCore c x else u).masterParts = u.masterParts := by
    split <;> rfl
  have htraining (u : State) : (if m = 34 then u.thawTraining else u).masterParts = u.masterParts := by
    split
    · exact State.masterParts_of_besideBeam (State.thawTraining_besideBeam u)
    · rfl
  have hcount (u : State) : (u.count 735 1).masterParts = u.masterParts := rfl
  unfold State.thawEnded
  dsimp only
  rw [State.follow_masterParts, State.raise_masterParts, hcount, htraining, hcore]
  rfl

/-- R439: the end of a thaw releases the master. -/
theorem thawComplete_releases {s : State} {m : MasterId} {x : FreezeSt} (hsafe : s.log.safe = false)
    (hx : AMap.find? s.fab.freezes m.val = some x) (hthawing : x.thawing = true) (hloom : m.val < 11 ∨ 27 ≤ m.val) :
    Completes (.thawComplete m) s fun t => t.isFrozen m.val = false ∧ AMap.find? t.fab.freezes m.val = none := fun hclk => by
  have hqualifying : (decide (11 ≤ m.val) && decide (m.val < 27)) = false := by
    simp
    omega
  show ∃ t, execThawComplete m s = .next t ∧ _
  rw [execThawComplete, whenClocked_of_clocked hclk]
  dsimp only
  rw [hx]
  dsimp only
  rw [if_neg (by simp [hsafe, hthawing, hqualifying])]
  have hparts := s.thawEnded_masterParts m.val
  refine ⟨s.thawEnded m.val, rfl, ?_, ?_⟩
  · rw [State.isFrozen_of_masterParts hparts, bit_setBit_false]
    simp
  · rw [State.freezes_of_masterParts hparts, AMap.find?_del, if_pos rfl]

/-! ## The watchdog of a core (R437, R438) -/

/-- R438: the thread of a core that freezes is Cancelled. -/
theorem State.coreFrozen_thread {s : State} {c x : Nat} (h : (s.core c).running = some x) : ((s.coreFrozen c).thread x).state = .cancelled := by
  unfold State.coreFrozen
  simp only [h, State.cancelled, State.thread_setThread]

/-- R438: the freeze of a core ends what runs on it. -/
theorem State.freezeEffect_core {s : State} {c x : Nat} (hc : c < 8) (h : (s.core c).running = some x) :
    ((s.freezeEffect (2 + c)).core c).running = none ∧ ((s.freezeEffect (2 + c)).thread x).state = .cancelled := by
  unfold State.freezeEffect
  extract_lets f u l
  have hrunning : (u.core c).running = some x := h
  clear_value u
  have hcore : 2 + c - 2 = c := by omega
  rw [if_pos (by simp; omega), hcore]
  exact ⟨by rw [State.coreFrozen_running, if_pos rfl], State.coreFrozen_thread hrunning⟩

theorem State.follow_shuttle (s : State) : s.follow.core = s.core ∧ s.follow.thread = s.thread := by
  have hkeeps := State.follow_besideRows s
  have hcores : s.follow.shtl.cores = s.shtl.cores := (congrArg (fun u : State => u.shtl.cores) hkeeps :)
  have hthreads : s.follow.shtl.threads = s.shtl.threads := (congrArg (fun u : State => u.shtl.threads) hkeeps :)
  refine ⟨?_, ?_⟩
  · funext c
    rw [State.core, hcores, State.core]
  · funext t
    rw [State.thread, hthreads, State.thread]

/-- R437, R438: a core whose watchdog expires is frozen, and its thread Cancelled. -/
theorem boltWatchdogExpiry_freezes {s : State} {c : CoreId} {x : Nat} (hsafe : s.log.safe = false) (hfrozen : s.isFrozen (2 + c.val) = false)
    (hnone : AMap.find? s.fab.freezes (2 + c.val) = none) (hrunning : (s.core c.val).running = some x)
    (hpassed : passed s (s.core c.val).lastCommand (s.nat K.frzWatchdogMs * 1000000) = true) :
    Completes (.boltWatchdogExpiry c) s fun t =>
      t.isFrozen (2 + c.val) = true ∧ (t.core c.val).running = none ∧ (t.thread x).state = .cancelled := fun hclk => by
  have hc := c.isLt
  have hexec : execBoltWatchdogExpiry c s = .next (s.freezeNow (2 + c.val) .watchdog 0 0) := by
    rw [execBoltWatchdogExpiry, whenClocked_of_clocked hclk]
    dsimp only
    rw [if_neg (by simp [hfrozen, hrunning, hpassed]), State.freeze_now (by omega) (by omega) hsafe hnone]
  refine ⟨_, hexec, State.freezeNow_frozen _ _ _ _ _, ?_⟩
  unfold State.freezeNow
  extract_lets past y f u
  have hcounted : (((u.bump (K.frzFreezeCount (2 + c.val))).count 734 1).core c.val).running = some x := hrunning
  obtain ⟨hcore, hthread⟩ := State.follow_shuttle (((u.bump (K.frzFreezeCount (2 + c.val))).count 734 1).freezeEffect (2 + c.val))
  rw [hcore, hthread]
  exact State.freezeEffect_core hc hcounted

/-- Settles O11: freezes by `freezeMaster_freezes` and `freezeMaster_refuses`, thaws by `thawMaster_begins`, `thawMaster_refuses`,
`autoThaw_begins`, `autoThaw_held` and `thawComplete_releases`, the watchdog by `boltWatchdogExpiry_freezes`. -/
theorem mastersAreThawed : Obligations.MastersAreThawed := by
  unfold Obligations.MastersAreThawed
  exact ⟨fun s prin m => freezeMaster_freezes, fun s prin m => freezeMaster_refuses, fun s prin m x => thawMaster_begins,
    fun s prin m => thawMaster_refuses, fun s m x => autoThaw_begins, fun s m x _ => autoThaw_held, fun s m x => thawComplete_releases,
    fun s c x => boltWatchdogExpiry_freezes⟩

end Sys2Proof.Machine
end

section
/-!
PROOFS. Soak and eye scans of lanes (spec/12_lanes.md; R352, R354 to R356, R358 to R360): the state of a lane and its counts when it enters and
leaves Soak, and what an eye scan shows at its start and at its end.
-/

namespace Sys2Proof.Machine

/-! ## The links of the chain ports -/

/-- The lanes, and the number of an object beside the status of the chain and of the slots. -/
def State.laneParts (s : State) (k : Nat) : AMap LaneSt × Nat := (s.lanes, s.nat k)

@[simp] theorem State.raise_laneParts (s : State) (e : Ev) (k : Nat) : (s.raise e).laneParts k = s.laneParts k := by simp [State.laneParts]

theorem State.setN_laneParts (s : State) {k j : Nat} (v : Nat) (h : keyIdx j ≠ keyIdx k) : (s.setN j v).laneParts k = s.laneParts k :=
  Prod.ext rfl (s.nat_setN_of_keyIdx v h)

theorem State.setChainPort_laneParts (s : State) (d : Nat) (x : ChainPortSt) (k : Nat) : (s.setChainPort d x).laneParts k = s.laneParts k := by
  unfold State.setChainPort
  split <;> rfl

/-- R450: an abandoned transfer shows in the objects of the slots. -/
theorem State.abandonTransfer_laneParts (s : State) {k : Nat} (hk : keyIdx k ≠ 0x7401) : s.abandonTransfer.laneParts k = s.laneParts k := by
  unfold State.abandonTransfer
  split
  · rfl
  · rename_i t h
    have hslot : keyIdx (if t.slot = 0 then K.selvSlotAState else K.selvSlotBState) = 0x7401 := by split <;> rfl
    rw [State.raise_laneParts, State.raise_laneParts]
    exact (State.setN_laneParts _ _ (Ne.symm hk)).trans (State.setN_laneParts _ _ (by rw [hslot]; exact Ne.symm hk))

/-- R268, R352, R356: one chain port's link follows its lanes. -/
def State.chainLink (s : State) (d : Nat) : State :=
  let ls := chainLanes s.view d
  let up := ls.length == 2 && linkLanesUp s ls
  let p := s.chainPort d
  let st := if up then 2 else if ls.any fun n => (s.lane n).cdrLock then 1 else 0
  let k := if d = 0 then K.chainUpState else K.chainDownState
  let s := if s.nat k = st then s else s.setN k st
  if up = p.up then s
  else
    let s := s.setChainPort d { p with up := up, partner := none, idleSince := s.clk.ticks }
    let mine := match s.boot.transfer with | some t => t.from_ == d | none => false
    let s := if !up && mine then s.abandonTransfer else s
    let s := if up then s else { s with boot := { s.boot with offered := AMap.del s.boot.offered d } }
    s.raise { src := 613 }

theorem State.chainLinks_eq (s : State) : s.chainLinks = [0, 1].foldl State.chainLink s := rfl

theorem State.chainLink_laneParts (s : State) (d : Nat) {k : Nat} (hchain : keyIdx k ≠ 0x6A01) (hslot : keyIdx k ≠ 0x7401) :
    (s.chainLink d).laneParts k = s.laneParts k := by
  have hkey : keyIdx (if d = 0 then K.chainUpState else K.chainDownState) ≠ keyIdx k := by
    split <;> exact Ne.symm hchain
  have hshown (p : Prop) [Decidable p] (v : Nat) :
      (if p then s else s.setN (if d = 0 then K.chainUpState else K.chainDownState) v).laneParts k = s.laneParts k := by
    split
    · rfl
    · exact s.setN_laneParts v hkey
  have habandon (u : State) (b : Bool) : (if b = true then u.abandonTransfer else u).laneParts k = u.laneParts k := by
    split
    · exact u.abandonTransfer_laneParts hslot
    · rfl
  have hoffered (u : State) (b : Bool) (x : BootSt) : (if b = true then u else { u with boot := x }).laneParts k = u.laneParts k := by
    split <;> rfl
  unfold State.chainLink
  dsimp only
  split
  · exact hshown _ _
  · rw [State.raise_laneParts, hoffered, habandon, State.setChainPort_laneParts]
    exact hshown _ _

/-- R268: the links of the chain ports tell of the lanes, and change nothing of them. -/
theorem State.chainLinks_laneParts (s : State) {k : Nat} (hchain : keyIdx k ≠ 0x6A01) (hslot : keyIdx k ≠ 0x7401) :
    s.chainLinks.laneParts k = s.laneParts k :=
  foldl_view (view := fun s => State.laneParts s k) (fun s d => s.chainLink_laneParts d hchain hslot) [0, 1] s

theorem State.chainLinks_lane (s : State) : s.chainLinks.lane = s.lane := by
  have h : s.chainLinks.lanes = s.lanes := congrArg Prod.fst (s.chainLinks_laneParts (k := 0) (by decide) (by decide))
  funext n
  rw [State.lane, h, State.lane]

theorem State.chainLinks_nat (s : State) {k : Nat} (hchain : keyIdx k ≠ 0x6A01) (hslot : keyIdx k ≠ 0x7401) : s.chainLinks.nat k = s.nat k :=
  congrArg Prod.snd (s.chainLinks_laneParts hchain hslot)

/-! ## A lane changes its state (R360, R363) -/

/-- R360, R363: what a lane that goes to a state shows of it, before its link follows. -/
def State.laneShown (s : State) (n : Nat) (m old : LaneMode) (quiet : Bool) : State :=
  let s := (s.setLane n { s.lane n with mode := m }).setN (K.laneLaneStateNow n) m.code
  let s := if m.works then s else s.setN (K.laneDetectedRateMbps n) 0
  if !quiet && (old == .up || m == .up || m == .fault) then s.raise { src := 448 + 2 * n, unit := n } else s

theorem State.laneTo_of_ne {s : State} {n : Nat} {m : LaneMode} (quiet : Bool) (h : (s.lane n).mode ≠ m) :
    s.laneTo n m quiet =
      ((if (s.lane n).mode = .up then s.scanAbort n else s).laneShown n m (s.lane n).mode quiet).chainLinks :=
  if_neg h

theorem State.laneShown_lane (s : State) (n : Nat) (m old : LaneMode) (quiet : Bool) :
    (s.laneShown n m old quiet).lane n = { s.lane n with mode := m } := by
  have hraise (u : State) (e : Ev) : (u.raise e).lane = u.lane := by simp only [State.raise_accessors]
  have hrate (u : State) : (if m.works = true then u else u.setN (K.laneDetectedRateMbps n) 0).lane = u.lane := by split <;> rfl
  unfold State.laneShown
  dsimp only
  split
  · rw [hraise, hrate]
    exact State.lane_setLane _ _ _
  · rw [hrate]
    exact State.lane_setLane _ _ _

theorem State.laneTo_mode (s : State) (n : Nat) (m : LaneMode) (quiet : Bool) : ((s.laneTo n m quiet).lane n).mode = m := by
  by_cases h : (s.lane n).mode = m
  · rw [State.laneTo, if_pos h, h]
  · rw [State.laneTo_of_ne quiet h, State.chainLinks_lane, State.laneShown_lane]

/-- R359: no scan, nothing aborted. -/
theorem State.scanAbort_of_none {s : State} {n : Nat} (h : (s.lane n).scanSince = none) : s.scanAbort n = s := by
  rw [State.scanAbort, h]

/-! ## Soak (R354 to R356) -/

theorem keyIdx_laneStatus (n : Nat) :
    keyIdx (K.laneLaneStateNow n) = 0x6801 + 0x10 * n ∧ keyIdx (K.laneSoakCount n) = 0x6801 + 0x10 * n :=
  ⟨keyIdx_objKey _ (by decide), keyIdx_objKey _ (by decide)⟩

/-- R355: a lane goes to Soak quietly, counts it, and sends its SoakNotice. -/
theorem State.enterSoak_enters {s : State} (n : LaneId) (hup : (s.lane n.val).mode = .up) (hscan : (s.lane n.val).scanSince = none) :
    ((s.enterSoak n.val true).lane n.val).mode = .soak ∧
      (s.enterSoak n.val true).nat (K.laneSoakCount n.val) = (s.nat (K.laneSoakCount n.val) + 1) % 2 ^ 32 ∧
      (s.enterSoak n.val true).net.sent.head? = some (.weft n.val 1) := by
  have hn := n.isLt
  obtain ⟨-, hidx⟩ := keyIdx_laneStatus n.val
  have hcount : (s.laneTo n.val .soak true).nat (K.laneSoakCount n.val) = s.nat (K.laneSoakCount n.val) := by
    rw [State.laneTo_of_ne true (by rw [hup]; decide), if_pos hup, State.scanAbort_of_none hscan,
      State.chainLinks_nat _ (by omega) (by omega)]
    exact State.nat_setN_of_keySub _ _ (by simp [K.laneLaneStateNow, K.laneSoakCount, keySub_objKey])
  refine ⟨?_, ?_, rfl⟩
  · exact (congrArg LaneSt.mode (State.lane_setLane _ _ _)).trans (s.laneTo_mode n.val .soak true)
  · refine (State.nat_setN _ _ _).trans ?_
    exact congrArg (fun v => (v + 1) % 2 ^ 32) hcount

/-- R355: an idle chain lane under LanePower Auto enters Soak. -/
theorem soakIdleExpiry_enters {s : State} {n : LaneId} {d : Nat} (hside : chainSide s.view n.val = some d) (hup : (s.lane n.val).mode = .up)
    (hqueue : (s.chainPort d).queue = []) (hseam : seamTraffic s d = false) (hscan : (s.lane n.val).scanSince = none)
    (hpower : s.nat (K.laneLanePower n.val) = 0)
    (hpassed : passed s (s.chainPort d).idleSince (s.nat (K.laneSoakIdleUs n.val) * 1000) = true) :
    Completes (.soakIdleExpiry n) s fun t => (t.lane n.val).mode = .soak ∧
      t.nat (K.laneSoakCount n.val) = (s.nat (K.laneSoakCount n.val) + 1) % 2 ^ 32 ∧ t.net.sent.head? = some (.weft n.val 1) := fun hclk => by
  have hauto : s.autoPower n.val = true := by simp [State.autoPower, hpower]
  refine ⟨s.enterSoak n.val true, ?_, State.enterSoak_enters n hup hscan⟩
  show execSoakIdleExpiry n s = _
  rw [execSoakIdleExpiry, whenClocked_of_clocked hclk]
  simp [hside, hup, hqueue, hseam, hauto, hscan, hpassed]

/-- R356: a lane in Soak wakes as soon as a segment is ready. -/
theorem soakExit_wakes {s : State} {n : LaneId} {d : Nat} (hside : chainSide s.view n.val = some d) (hsoak : (s.lane n.val).mode = .soak)
    (hqueue : (s.chainPort d).queue ≠ []) :
    Completes (.soakExit n) s fun t => (t.lane n.val).mode = .up ∧ t.net.sent.head? = some (.weft n.val 2) := fun hclk => by
  refine ⟨s.leaveSoak n.val, ?_, s.laneTo_mode n.val .up _, rfl⟩
  show execSoakExit n s = _
  rw [execSoakExit, whenClocked_of_clocked hclk]
  simp [hside, hsoak, hqueue]

/-- R356: a lane in Soak sends a burst every 1.0 ms. -/
theorem soakBurst_sends {s : State} {n : LaneId} (hsoak : (s.lane n.val).mode = .soak) (hpassed : passed s (s.lane n.val).lastBurst 1000000 = true) :
    Completes (.soakBurst n) s fun t => t.net.sent = .weft n.val 3 :: s.net.sent ∧ (t.lane n.val).lastBurst = s.clk.ticks ∧ t.objs = s.objs :=
  fun hclk => by
  refine ⟨State.emit (s.setLane n.val { s.lane n.val with lastBurst := s.clk.ticks }) (.weft n.val 3), ?_, rfl, ?_, rfl⟩
  · show execSoakBurst n s = _
    rw [execSoakBurst, whenClocked_of_clocked hclk]
    simp [hsoak, hpassed]
  · exact congrArg LaneSt.lastBurst (s.lane_setLane n.val { s.lane n.val with lastBurst := s.clk.ticks })

/-! ## The eye scan (R358, R359) -/

theorem State.command_scanStart (s : State) (p : Prin) (n : LaneId) :
    s.command p (K.scanScanStart n.val) (.int 1) = s.scanAsk n.val := by
  have hidx : keyIdx (K.scanScanStart n.val) = 0x6A80 + n.val := keyIdx_objKey _ (by decide)
  have hn := n.isLt
  have hne {j : Nat} (hj : keyIdx j < 0x6A80 ∨ 0x6AA0 ≤ keyIdx j) : K.scanScanStart n.val ≠ j := key_ne_of_keyIdx (by omega)
  have hkeys : ¬(0x1180 ≤ 0x6A80 + n.val ∧ 0x6A80 + n.val < 0x1188) := by omega
  have hdarn : ¬(0x4000 ≤ 0x6A80 + n.val ∧ 0x6A80 + n.val < 0x4800) := by omega
  have hscan : 0x6A80 ≤ 0x6A80 + n.val ∧ 0x6A80 + n.val < 0x6AA0 := by omega
  have hsub : keySub (K.scanScanStart n.val) = 1 := keySub_objKey _ 1
  have hone (f : State × Nat) : onOne s (.int 1) f = f := rfl
  unfold State.command
  simp (disch := decide) only [hidx, hne, if_false, Bool.and_eq_true, decide_eq_true_eq, hkeys, hdarn, hscan, hsub, and_self, if_true, hone,
    Nat.add_sub_cancel_left]

/-- R359: a scan begins on a lane that is Up. -/
theorem scanStart_begins {s : State} {n : LaneId} (hheld : Unheld s (K.scanScanStart n.val)) (hup : (s.lane n.val).mode = .up) :
    Completes (.scanStart n) s fun t => t.nat (K.scanScanState n.val) = 1 ∧ (t.lane n.val).scanSince = some s.clk.ticks ∧
      (t.lane n.val).scanDwell = s.nat (K.scanDwellMs n.val) := fun hclk => by
  obtain ⟨d, htouch, -⟩ := s.touch_draft .host
  let u : State := { s with draft := d }
  have hcommand : (s.touch .host).command .host (K.scanScanStart n.val) (.int 1) =
      (State.setN (u.setLane n.val { s.lane n.val with scanSince := some s.clk.ticks, scanDwell := s.nat (K.scanDwellMs n.val) })
        (K.scanScanState n.val) 1, stOk) := by
    rw [htouch, State.command_scanStart]
    exact if_neg (by simp [show (State.lane { s with draft := d } n.val).mode = .up from hup])
  have hlane := u.lane_setLane n.val { s.lane n.val with scanSince := some s.clk.ticks, scanDwell := s.nat (K.scanDwellMs n.val) }
  refine ⟨_, whenClocked_of_clocked hclk _, ?_⟩
  rw [(takes_scanStart n).direct (.inl rfl) hheld hcommand (by decide)]
  exact ⟨State.nat_setN _ _ _, congrArg LaneSt.scanSince hlane, congrArg LaneSt.scanDwell hlane⟩

/-- R359: on any other lane it is refused. -/
theorem scanStart_refused {s : State} {n : LaneId} (hheld : Unheld s (K.scanScanStart n.val)) (hdown : (s.lane n.val).mode ≠ .up) :
    Completes (.scanStart n) s fun t => t.lanes = s.lanes ∧ t.objs = s.objs ∧
      t.net.sent = .reply .host (K.scanScanStart n.val) stInconsistent :: s.net.sent := fun hclk => by
  obtain ⟨d, htouch, -⟩ := s.touch_draft .host
  have hcommand : (s.touch .host).command .host (K.scanScanStart n.val) (.int 1) = ({ s with draft := d }, stInconsistent) := by
    rw [htouch, State.command_scanStart]
    exact if_pos (bne_iff_ne.mpr hdown)
  refine ⟨_, whenClocked_of_clocked hclk _, ?_⟩
  rw [(takes_scanStart n).direct (.inl rfl) hheld hcommand (by decide)]
  exact ⟨rfl, rfl, rfl⟩

/-- The objects that a scan's report sets differ. -/
theorem scanReport_keys (n : Nat) :
    keySub (K.scanScanState n) = 5 ∧ keySub (K.scanBitsCompared n) = 6 ∧ keySub (K.scanErrors n) = 7 ∧ keySub (K.scanBerEstimate n) = 8 ∧
      keySub (K.scanBerBound95 n) = 9 :=
  ⟨keySub_objKey _ 5, keySub_objKey _ 6, keySub_objKey _ 7, keySub_objKey _ 8, keySub_objKey _ 9⟩

/-- R359: what a scan's report shows. -/
theorem State.scanReport_shows (s : State) (n state bits errors : Nat) :
    (s.scanReport n state bits errors).nat (K.scanScanState n) = state ∧ (s.scanReport n state bits errors).nat (K.scanBitsCompared n) = bits ∧
      (s.scanReport n state bits errors).nat (K.scanErrors n) = errors ∧ ((s.scanReport n state bits errors).lane n).scanSince = none := by
  obtain ⟨hstate, hbits, herrors, hestimate, hbound⟩ := scanReport_keys n
  have hset (u : State) (x : LaneSt) : (u.setLane n x).nat = u.nat := rfl
  unfold State.scanReport
  simp [State.nat_setN_of_keySub, hset, State.nat_setN, hstate, hbits, herrors, hestimate, hbound]

/-- R359: DwellMs after its start a scan reports. -/
theorem scanDwellEnd_reports {s : State} {n : LaneId} {x errors : Nat} (hscan : (s.lane n.val).scanSince = some x)
    (hpassed : passed s x ((s.lane n.val).scanDwell * 1000000) = true) :
    Completes (.scanDwellEnd n errors) s fun t => t.nat (K.scanScanState n.val) = 2 ∧ (t.lane n.val).scanSince = none ∧
      t.nat (K.scanBitsCompared n.val) = floorN (laneRate s n.val * q ((s.lane n.val).scanDwell * 1000000) / 1000000000 / 32) ∧
      t.nat (K.scanErrors n.val) ≤ t.nat (K.scanBitsCompared n.val) := fun hclk => by
  let bits := scanBits s n.val (q ((s.lane n.val).scanDwell * 1000000))
  obtain ⟨hstate, hbits, herrors, hended⟩ := s.scanReport_shows n.val 2 bits (min errors bits)
  refine ⟨s.scanReport n.val 2 bits (min errors bits), ?_, hstate, hended, hbits, ?_⟩
  · show execScanDwellEnd n errors s = _
    rw [execScanDwellEnd, whenClocked_of_clocked hclk]
    dsimp only
    rw [hscan]
    dsimp only
    rw [if_neg (by simp [hpassed])]
  · rw [herrors, hbits]
    exact Nat.min_le_right _ _

/-- Settles O40: Soak by `soakIdleExpiry_enters`, `soakExit_wakes` and `soakBurst_sends`, the eye scan by `scanStart_begins`, `scanStart_refused` and
`scanDwellEnd_reports`. -/
theorem lanesSoakAndScan : Obligations.LanesSoakAndScan := by
  unfold Obligations.LanesSoakAndScan
  exact fun s n => ⟨fun d => soakIdleExpiry_enters, fun d => soakExit_wakes, soakBurst_sends, scanStart_begins, scanStart_refused,
    fun x errors => scanDwellEnd_reports⟩

end Sys2Proof.Machine
end

section
/-!
PROOFS. Counters, snapshots and sampling (spec/18_counters.md; R475, R478 to R481, R484, R485, R487): what a read latches, what a snapshot copies,
and the way of a record through its hold into the buffer.
-/

namespace Sys2Proof.Machine

/-! ## Reads of counters (R478, R480) -/

theorem counterVal_of_counted (s : State) {n : Nat} (h : isHiddenCounter n = false) : counterVal s n = counterOf s n := by
  simp [counterVal, h, counterOf]

/-- R475: a counter that an event of its own kind moves. -/
theorem State.counterOf_count (s : State) (n k : Nat) : counterOf (s.count n k) n = (counterOf s n + k) % 2 ^ 48 := s.count_counter n k

/-- R478: a read of the low word latches the whole counter for the reading master. -/
theorem counterLoRead_latches {s : State} {reader : Reader} {index : Nat} (hmaster : reader.masterNo < 40) (hindex : index < 768)
    (hcounted : isHiddenCounter index = false) (hopen : userDenied s index reader = false) :
    Completes (.counterLoRead reader index) s fun t => AMap.find? t.pmc.latch reader.masterNo = some (counterOf s index) ∧
      t.pmc.counters = s.pmc.counters ∧ t.objs = s.objs ∧ ∀ m, m ≠ reader.masterNo → AMap.find? t.pmc.latch m = AMap.find? s.pmc.latch m :=
  fun hclk => by
  refine ⟨{ s with pmc := { s.pmc with latch := AMap.put s.pmc.latch reader.masterNo (counterOf s index) } }, ?_, AMap.find?_put_self _ _ _, rfl, rfl,
    fun m hm => AMap.find?_put_ne _ _ (Ne.symm hm)⟩
  show execCounterLoRead reader index s = _
  rw [execCounterLoRead, whenClocked_of_clocked hclk]
  dsimp only
  rw [if_neg (by simp; omega), if_neg (by simp [hopen]), counterVal_of_counted s hcounted]

/-- R480: a user-mode load from a group that is not open is counted and latches nothing. -/
theorem counterLoRead_denied {s : State} {core : CoreId} {index : Nat} (hindex : index < 768)
    (hclosed : bit (s.nat K.pmcUserReadGroups) (counterGroup index) = false) :
    Completes (.counterLoRead (.userThread core) index) s fun t => t.pmc.latch = s.pmc.latch ∧
      counterOf t 741 = (counterOf s 741 + 1) % 2 ^ 48 := fun hclk => by
  have hcore := core.isLt
  have hmaster : (Reader.userThread core).masterNo < 40 := by
    show 2 + core.val < 40
    omega
  refine ⟨(s.count 741 1).raiseLimited 633 { src := 633 }, ?_, ?_, ?_⟩
  · show execCounterLoRead (.userThread core) index s = _
    rw [execCounterLoRead, whenClocked_of_clocked hclk]
    dsimp only
    rw [if_neg (by simp; omega), if_pos (by simp [userDenied, hclosed])]
  · have hlatch : ((s.count 741 1).raiseLimited 633 { src := 633 }).pmc.latch = (s.count 741 1).pmc.latch := by simp
    exact hlatch
  · rw [((s.count 741 1).raiseLimited_eventGoesOn 633 { src := 633 }).counters 741 (by decide), State.counterOf_count]

/-! ## Snapshots (R479) -/

theorem State.command_snapshotRequest (s : State) (p : Prin) : s.command p K.pmcSnapshotRequest (.int 1) = s.snapAsk := rfl

/-- R479: a SnapshotRequest write asks for a snapshot. -/
theorem snapshotRequest_asks {s : State} {prin : Prin} (hbolt : boltDown s = false) (hfrozen : s.isFrozen 38 = false)
    (hheld : Unheld s K.pmcSnapshotRequest) :
    Completes (.snapshotRequest prin) s fun t => t.pmc.snapAsked = true ∧ t.pmc.bank = s.pmc.bank := fun hclk => by
  obtain ⟨d, htouch, -⟩ := s.touch_draft prin
  have hfrozen' : State.isFrozen { s with draft := d } 38 = false := hfrozen
  have hcommand : (s.touch prin).command prin K.pmcSnapshotRequest (.int 1) =
      ({ s with draft := d, pmc := { s.pmc with snapAsked := true } }, stOk) := by
    rw [htouch, State.command_snapshotRequest, State.snapAsk, if_neg (by simp [hfrozen'])]
  have hacc : accWoWoWoWo.of prin = .wo := by cases prin <;> rfl
  have hdirect := takes_snapshotRequest.direct (.inl hacc) hheld hcommand (by decide)
  refine ⟨s.direct prin K.pmcSnapshotRequest (.int 1), ?_, ?_⟩
  · show execSnapshotRequest prin s = _
    rw [execSnapshotRequest, whenClocked_of_clocked hclk, hbolt]
    rfl
  · rw [hdirect]
    exact ⟨rfl, rfl⟩

/-- A map of the numbers that are not 0 gives every number of its keys. -/
theorem AMap.getD_nonzero (f : Nat → Nat) {ks : List Nat} {k : Nat} (hk : k ∈ ks) :
    AMap.getD ((ks.map fun n => (n, f n)).filter fun e => e.2 != 0) k 0 = f k := by
  rw [List.filter_map, AMap.getD, AMap.find?_map_keys]
  by_cases h : f k = 0 <;> simp [hk, h]

/-- The bank of a snapshot (R479). -/
def snapshotBank (s : State) : AMap Nat := ((List.range 768).map fun n => (n, counterVal s n)).filter fun e => e.2 != 0

theorem snapshotBank_counts (s : State) {n : Nat} (hn : n < 768) (hcounted : isHiddenCounter n = false) :
    AMap.getD (snapshotBank s) n 0 = counterOf s n := by
  rw [snapshotBank, AMap.getD_nonzero (counterVal s) (List.mem_range.mpr hn), counterVal_of_counted s hcounted]

/-- R479: a snapshot is numbered, dated, counted and reported. -/
def State.snapshotTold (s : State) : State :=
  (((s.bump K.pmcSnapshotSeq).set K.pmcSnapshotTime (time80 (nowNs s))).count 740 1).raise { src := 632 }

theorem State.snapshotTold_leaves (s : State) :
    s.snapshotTold.pmc.snapAsked = s.pmc.snapAsked ∧ s.snapshotTold.pmc.bank = s.pmc.bank ∧
      s.snapshotTold.nat K.pmcSnapshotSeq = (s.nat K.pmcSnapshotSeq + 1) % 2 ^ 32 ∧ bit s.snapshotTold.log.pending 632 = true ∧
      counterOf s.snapshotTold 740 = (counterOf s 740 + 1) % 2 ^ 48 := by
  have hcount (u : State) : (u.count 740 1).nat = u.nat ∧ (u.count 740 1).pmc.bank = u.pmc.bank ∧
      (u.count 740 1).pmc.snapAsked = u.pmc.snapAsked := ⟨rfl, rfl, rfl⟩
  have hpmc : ((s.bump K.pmcSnapshotSeq).set K.pmcSnapshotTime (time80 (nowNs s))).pmc = s.pmc := rfl
  unfold State.snapshotTold
  generalize hv : (s.bump K.pmcSnapshotSeq).set K.pmcSnapshotTime (time80 (nowNs s)) = v at hpmc
  obtain ⟨hnat, hbank, hasked⟩ := hcount v
  refine ⟨?_, ?_, ?_, State.raise_pending _ (e := { src := 632 }) (by decide), ?_⟩
  · simp [hasked, hpmc]
  · simp [hbank, hpmc]
  · rw [State.raise_nat, hnat, ← hv, State.nat_set_ne _ _ (by decide), State.nat_bump]
  · rw [((v.count 740 1).raise_eventGoesOn { src := 632 }).counters 740 (by decide), State.counterOf_count, counterOf, hpmc, counterOf]

/-- R479: a snapshot that is asked for copies every counter. -/
theorem snapshotCopy_copies {s : State} (hasked : s.pmc.snapAsked = true) (hfrozen : s.isFrozen 38 = false) :
    Completes .snapshotCopy s fun t =>
      t.pmc.snapAsked = false ∧ t.nat K.pmcSnapshotSeq = (s.nat K.pmcSnapshotSeq + 1) % 2 ^ 32 ∧ bit t.log.pending 632 = true ∧
        (∀ n, n < 768 → isHiddenCounter n = false → AMap.getD t.pmc.bank n 0 = counterOf s n) ∧
        counterOf t 740 = (counterOf s 740 + 1) % 2 ^ 48 := fun hclk => by
  have hexec : execSnapshotCopy s =
      .next (State.snapshotTold { s with pmc := { s.pmc with snapAsked := false, bank := snapshotBank s } }) := by
    rw [execSnapshotCopy, whenClocked_of_clocked hclk, if_neg (by simp [hasked, hfrozen])]
    rfl
  obtain ⟨hdone, hbank, hseq, hevent, hcounted⟩ :=
    State.snapshotTold_leaves { s with pmc := { s.pmc with snapAsked := false, bank := snapshotBank s } }
  have hnat : State.nat { s with pmc := { s.pmc with snapAsked := false, bank := snapshotBank s } } = s.nat :=
    funext (State.nat_congr rfl rfl)
  have hcounters : counterOf { s with pmc := { s.pmc with snapAsked := false, bank := snapshotBank s } } = counterOf s :=
    funext fun n => by simp only [counterOf]
  rw [hnat] at hseq
  rw [hcounters] at hcounted
  refine ⟨_, hexec, hdone, hseq, hevent, fun n hn hshown => ?_, hcounted⟩
  rw [hbank, snapshotBank_counts s hn hshown]

/-! ## Sampling (R481, R484, R487) -/

/-- R484: a record that is dropped is counted as lost. -/
theorem State.sampleDrop_counts (s : State) :
    s.sampleDrop.pmc.holds = s.pmc.holds ∧ s.sampleDrop.pmc.lostPending = s.pmc.lostPending + 1 ∧
      s.sampleDrop.nat K.pmcSamplesLost = (s.nat K.pmcSamplesLost + 1) % 2 ^ 32 ∧ s.sampleDrop.pmc.retired = s.pmc.retired := by
  have hlost : ((s.bump K.pmcSamplesLost).count 739 1).nat K.pmcSamplesLost = (s.nat K.pmcSamplesLost + 1) % 2 ^ 32 := State.nat_bump _ _
  have hraised (u : State) : (u.raiseLimited 631 { src := 631 }).nat = u.nat := by simp only [State.raiseLimited_accessors]
  refine ⟨?_, ?_, ?_, ?_⟩
  · simp [State.sampleDrop, State.bump, State.add, State.setN, State.count]
  · simp [State.sampleDrop, State.bump, State.add, State.setN, State.count]
  · rw [State.sampleDrop, hraised]
    exact hlost
  · simp [State.sampleDrop, State.bump, State.add, State.setN, State.count]

theorem leBytes_length (n v : Nat) : (leBytes n v).length = n := by
  induction n generalizing v with
  | zero => rfl
  | succ n ih => rw [leBytes, List.length_cons, ih]

/-- R484: the hold of a unit takes a record where the unit is not frozen, the hold has room and the buffer is not full. -/
theorem State.sampleIn_takes {s : State} {unit : Nat} (r : Sample) (hfrozen : s.isFrozen 38 = false)
    (hroom : (s.pmc.holds.filter (·.1 == unit)).length < 2) (hlevel : s.pmc.level < 4095) :
    s.sampleIn unit r = { s with pmc := { s.pmc with holds := s.pmc.holds ++ [(unit, r)] } } :=
  if_neg (by simp [hfrozen, Nat.not_le.mpr hroom, Nat.not_le.mpr hlevel])

theorem State.sampleIn_drops {s : State} {unit : Nat} (r : Sample)
    (h : s.isFrozen 38 = true ∨ 2 ≤ (s.pmc.holds.filter (·.1 == unit)).length ∨ 4095 ≤ s.pmc.level) : s.sampleIn unit r = s.sampleDrop := by
  refine if_pos ?_
  obtain h | h | h := h <;> simp [h]

theorem State.sampleIn_retired (s : State) (unit : Nat) (r : Sample) : (s.sampleIn unit r).pmc.retired = s.pmc.retired := by
  unfold State.sampleIn
  split
  · exact s.sampleDrop_counts.2.2.2
  · rfl

/-- R481: core c's count starts again, with a jitter of its next period. -/
def State.periodBegun (s : State) (c : Nat) : State :=
  let next := s.nat K.pmcInstrPeriod + Config.sampleJitter (s.freeCtr + 2) % 2 ^ s.nat K.pmcInstrJitterBits
  { s with freeCtr := s.freeCtr + 3, pmc := { s.pmc with retired := AMap.put s.pmc.retired c 0, period := AMap.put s.pmc.period c next } }

/-- R481: a record of an instruction begins with its address. -/
theorem sampleOf_pc (s : State) (core thread pc address : Nat) : (sampleOf s core thread pc address).body.take 4 = leBytes 4 pc := by
  have hlen := leBytes_length 4 pc
  simp only [sampleOf, List.append_assoc]
  rw [List.take_append_of_le_length (Nat.le_of_eq hlen.symm), List.take_of_length_le (Nat.le_of_eq hlen)]

theorem execInstructionSample_of_running {s : State} {c : CoreId} {x : Nat} (pc address : Nat) (hclk : s.boot.clocksLost = false)
    (hrunning : (s.core c.val).running = some x) (hsampled : bit (s.nat K.pmcInstrSampleCores) c.val = true)
    (hfrozen : s.isFrozen (2 + c.val) = false) : exec (.instructionSample c pc address) s =
      .next ((s.periodBegun c.val).sampleIn c.val (sampleOf s c.val x (pc % 2 ^ 32) (address % 2 ^ 32))) := by
  have hcore : (AMap.getD s.shtl.cores c.val {}).running = some x := hrunning
  show execInstructionSample c pc address s = _
  rw [execInstructionSample, whenClocked_of_clocked hclk]
  dsimp only
  rw [hcore]
  dsimp only
  rw [if_neg (by simp [hsampled, hfrozen])]
  rfl

/-- R481, R484: a sampled core's count starts again, and its record goes into the core's hold, or is counted as lost. -/
theorem instructionSample_records {s : State} {c : CoreId} {pc address x : Nat} (hrunning : (s.core c.val).running = some x)
    (hsampled : bit (s.nat K.pmcInstrSampleCores) c.val = true) (hfrozen : s.isFrozen (2 + c.val) = false) :
    Completes (.instructionSample c pc address) s fun t =>
      AMap.find? t.pmc.retired c.val = some 0 ∧
      (s.isFrozen 38 = false → (s.pmc.holds.filter (·.1 == c.val)).length < 2 → s.pmc.level < 4095 →
        ∃ r, t.pmc.holds = s.pmc.holds ++ [(c.val, r)] ∧ r.kind = 1 ∧ r.unit = c.val ∧ r.time = nowNs s ∧
          r.body.take 4 = leBytes 4 (pc % 2 ^ 32) ∧ t.nat K.pmcSamplesLost = s.nat K.pmcSamplesLost) ∧
      (s.isFrozen 38 = true ∨ 2 ≤ (s.pmc.holds.filter (·.1 == c.val)).length ∨ 4095 ≤ s.pmc.level →
        t.pmc.holds = s.pmc.holds ∧ t.pmc.lostPending = s.pmc.lostPending + 1 ∧
          t.nat K.pmcSamplesLost = (s.nat K.pmcSamplesLost + 1) % 2 ^ 32) := fun hclk => by
  refine ⟨_, execInstructionSample_of_running pc address hclk hrunning hsampled hfrozen, ?_, fun hengine hroom hlevel => ?_, fun hfull => ?_⟩
  · rw [State.sampleIn_retired]
    exact AMap.find?_put_self _ _ _
  · rw [State.sampleIn_takes (s := s.periodBegun c.val) _ hengine hroom hlevel]
    exact ⟨_, rfl, rfl, rfl, rfl, sampleOf_pc s _ _ _ _, rfl⟩
  · rw [State.sampleIn_drops (s := s.periodBegun c.val) _ hfull]
    obtain ⟨hholds, hpending, hlost, -⟩ := (s.periodBegun c.val).sampleDrop_counts
    exact ⟨hholds, hpending, hlost⟩

/-- R484, R487: a record that is put into the buffer. -/
theorem State.samplePut_puts (s : State) (r : Sample) :
    (s.samplePut r).pmc.holds = s.pmc.holds ∧ (s.samplePut r).pmc.lostPending = s.pmc.lostPending ∧
      (s.samplePut r).pmc.level = s.pmc.level + 1 ∧ (s.samplePut r).pmc.writePtr = (s.pmc.writePtr + 1) % 4096 ∧
      AMap.find? (s.samplePut r).pmc.buffer s.pmc.writePtr = some r ∧
      (s.pmc.level = 2047 → bit (s.samplePut r).log.pending 630 = true) := by
  have hput : AMap.find? (AMap.put s.pmc.buffer s.pmc.writePtr r) s.pmc.writePtr = some r := AMap.find?_put_self _ _ _
  unfold State.samplePut
  dsimp only
  split
  case isTrue h =>
    exact ⟨by simp [State.count], by simp [State.count], by simp [State.count], by simp [State.count], by simp [State.count],
      fun _ => State.raise_pending _ (e := { src := 630 }) (by decide)⟩
  case isFalse h => exact ⟨rfl, rfl, rfl, rfl, hput, fun hlevel => absurd (congrArg (· + 1) hlevel) h⟩

/-- R484: the pending count of lost records goes into the buffer before any record. -/
theorem sampleRecordTaken_lost {s : State} (hfrozen : s.isFrozen 38 = false) (hlevel : s.pmc.level < 4095) (hlost : s.pmc.lostPending ≠ 0) :
    Completes .sampleRecordTaken s fun t => t.pmc.lostPending = 0 ∧ t.pmc.holds = s.pmc.holds ∧
      t.pmc.level = s.pmc.level + 1 ∧ ∃ r, AMap.find? t.pmc.buffer s.pmc.writePtr = some r ∧ r.kind = 3 ∧
        r.body.take 4 = leBytes 4 s.pmc.lostPending := fun hclk => by
  let r : Sample := { kind := 3, unit := 255, flags := 0, time := nowNs s, body := leBytes 4 s.pmc.lostPending ++ List.replicate 16 0 }
  have hexec : execSampleRecordTaken s = .next (State.samplePut { s with pmc := { s.pmc with lostPending := 0 } } r) := by
    rw [execSampleRecordTaken, whenClocked_of_clocked hclk]
    exact if_pos (by simp [hlost, hlevel, hfrozen])
  obtain ⟨hholds, hpending, hlevel', -, hbuffer, -⟩ := State.samplePut_puts { s with pmc := { s.pmc with lostPending := 0 } } r
  refine ⟨_, hexec, hpending, hholds, hlevel', r, hbuffer, rfl, ?_⟩
  have hlen := leBytes_length 4 s.pmc.lostPending
  rw [List.take_append_of_le_length (Nat.le_of_eq hlen.symm), List.take_of_length_le (Nat.le_of_eq hlen)]

/-- R484, R487: the oldest record of the holds goes into the buffer. -/
theorem sampleRecordTaken_record {s : State} {u : Nat} {r : Sample} {rest : List (Nat × Sample)} (hfrozen : s.isFrozen 38 = false)
    (hlevel : s.pmc.level < 4095) (hlost : s.pmc.lostPending = 0) (hholds : s.pmc.holds = (u, r) :: rest) :
    Completes .sampleRecordTaken s fun t => t.pmc.holds = rest ∧
      t.pmc.level = s.pmc.level + 1 ∧ t.pmc.writePtr = (s.pmc.writePtr + 1) % 4096 ∧ AMap.find? t.pmc.buffer s.pmc.writePtr = some r ∧
        (s.pmc.level = 2047 → bit t.log.pending 630 = true) := fun hclk => by
  have hexec : execSampleRecordTaken s = .next (State.samplePut { s with pmc := { s.pmc with holds := rest } } r) := by
    rw [execSampleRecordTaken, whenClocked_of_clocked hclk]
    dsimp only
    rw [if_neg (by simp [hlost]), hholds]
    dsimp only
    rw [if_neg (by simp [hfrozen, Nat.not_le.mpr hlevel])]
  obtain ⟨hrest, -, hlevel', hptr, hbuffer, hhalf⟩ := State.samplePut_puts { s with pmc := { s.pmc with holds := rest } } r
  exact ⟨_, hexec, hrest, hlevel', hptr, hbuffer, hhalf⟩

/-- R485: a write of PMC_SMP_RDPTR frees the slots before it. -/
theorem sampleRdptrWrite_frees {s : State} {val : Word} (hring : (AMap.getD s.pcie.rings 35 {}).enable = false) :
    Completes (.sampleRdptrWrite val) s fun t =>
      t.pmc.readPtr = val.toNat % 4096 ∧ (s.pmc.writePtr < 4096 → (t.pmc.readPtr + t.pmc.level) % 4096 = s.pmc.writePtr) ∧ t.pmc.level < 4096 ∧
        t.pmc.buffer = s.pmc.buffer := fun hclk => by
  refine ⟨s.freeSamples (val.toNat % 4096), ?_, rfl, fun hptr => ?_, ?_, rfl⟩
  · show execSampleRdptrWrite val s = _
    rw [execSampleRdptrWrite, whenClocked_of_clocked hclk, hring]
    rfl
  · show (val.toNat % 4096 + (s.pmc.writePtr + 4096 - val.toNat % 4096) % 4096) % 4096 = s.pmc.writePtr
    omega
  · exact Nat.mod_lt _ (by decide)

/-- Settles O52: reads by `counterLoRead_latches` and `counterLoRead_denied`, snapshots by `snapshotRequest_asks` and `snapshotCopy_copies`,
records by `instructionSample_records`, `sampleRecordTaken_lost`, `sampleRecordTaken_record` and `sampleRdptrWrite_frees`. -/
theorem countersAndSamples : Obligations.CountersAndSamples := by
  unfold Obligations.CountersAndSamples
  exact ⟨fun s reader index => counterLoRead_latches, fun s core index => counterLoRead_denied, fun s prin => snapshotRequest_asks,
    fun s => snapshotCopy_copies, fun s c pc address x => instructionSample_records,
    fun s hfrozen hlevel => ⟨sampleRecordTaken_lost hfrozen hlevel, fun u r rest => sampleRecordTaken_record hfrozen hlevel⟩,
    fun s val => sampleRdptrWrite_frees⟩

end Sys2Proof.Machine
end

section
/-!
PROOFS. What the Beam does by itself (spec/13_beam_dram.md; R370, R371, R375, R376, R384): refreshes that fall due, the refresh multiplier,
power-down and self-refresh, and the bandwidth windows.
-/

namespace Sys2Proof.Machine

/-! ## Refreshes (R370, R371) -/

/-- R370: a rank owes one more refresh, up to RefreshPostponeMax. -/
def RankSt.owing (k : RankSt) (most : Nat) : RankSt := { k with owed := max k.owed (min (k.owed + 1) most) }

theorem RankSt.owing_of_lt {k : RankSt} {most : Nat} (h : k.owed < most) : (k.owing most).owed = k.owed + 1 := by
  simp only [RankSt.owing]
  omega

theorem RankSt.owing_of_eq {k : RankSt} {most : Nat} (h : k.owed = most) : (k.owing most).owed = k.owed := by
  simp only [RankSt.owing]
  omega

/-- R370: a channel at tREFI. -/
def refiPassed (s : State) (c : Nat) : BeamChSt :=
  let x := s.bch c
  let most := s.nat K.beamRefreshPostponeMax
  { x with refiAt := x.refiAt + 23436 / s.beam.mr4, rank0 := x.rank0.owing most,
           rank1 := if s.beam.ranks = 2 then x.rank1.owing most else x.rank1 }

theorem exec_refreshDue {s : State} {c : BeamChan} (hclk : s.boot.clocksLost = false) (htrained : s.beam.trained = true)
    (hfailed : s.beam.failed = false) (hawake : s.beam.selfRefresh = false)
    (hdue : (s.bch c.val).refiAt + 23436 / s.beam.mr4 ≤ s.clk.ticks * 25) :
    ∃ t, exec (.refreshDue c) s = .next t ∧ t.bch c.val = refiPassed s c.val ∧ t.objs = s.objs := by
  have hexec : execRefreshDue c s =
      .next (if 4 < max (refiPassed s c.val).rank0.owed (refiPassed s c.val).rank1.owed then (s.setBch c.val (refiPassed s c.val)).beamBusy
        else s.setBch c.val (refiPassed s c.val)) := by
    rw [execRefreshDue, whenClocked_of_clocked hclk]
    exact if_neg (by simp [htrained, hfailed, hawake, Nat.not_lt.mpr hdue])
  refine ⟨_, hexec, ?_⟩
  split <;> exact ⟨s.bch_setBch _ _, rfl⟩

/-- R370: at tREFI each fitted rank owes one more refresh, up to RefreshPostponeMax. -/
theorem refreshDue_owes {s : State} {c : BeamChan} (htrained : s.beam.trained = true) (hfailed : s.beam.failed = false)
    (hawake : s.beam.selfRefresh = false) (hdue : (s.bch c.val).refiAt + 23436 / s.beam.mr4 ≤ s.clk.ticks * 25) :
    Completes (.refreshDue c) s fun t =>
      (t.bch c.val).refiAt = (s.bch c.val).refiAt + 23436 / s.beam.mr4 ∧
        ((s.bch c.val).rank0.owed < s.nat K.beamRefreshPostponeMax → (t.bch c.val).rank0.owed = (s.bch c.val).rank0.owed + 1) ∧
        ((s.bch c.val).rank0.owed = s.nat K.beamRefreshPostponeMax → (t.bch c.val).rank0.owed = (s.bch c.val).rank0.owed) ∧
        (s.beam.ranks ≠ 2 → (t.bch c.val).rank1 = (s.bch c.val).rank1) ∧ t.objs = s.objs := fun hclk => by
  obtain ⟨t, hexec, hbch, hobjs⟩ := exec_refreshDue hclk htrained hfailed hawake hdue
  refine ⟨t, hexec, ?_⟩
  dsimp only
  rw [hbch]
  exact ⟨rfl, RankSt.owing_of_lt, RankSt.owing_of_eq, fun hranks => if_neg hranks, hobjs⟩

/-- R371: the refresh multiplier that MR4 of the devices comes to. -/
def multiplierOf (codes : List Nat) : Nat := if 4 ≤ maxOf codes then 4 else if 2 ≤ maxOf codes then 2 else 1

/-- R371: the multiplier set. -/
def State.multiplied (s : State) (m : Nat) : State := { s with beam := { s.beam with mr4 := m, mr4At := s.clk.ticks } }

/-- R371: the highest multiplier that MR4 of any device reports counts, and that it now is 4 is an event. -/
theorem mr4Poll_sets {s : State} {codes : List Nat} (htrained : s.beam.trained = true) (hfailed : s.beam.failed = false)
    (hawake : s.beam.selfRefresh = false) (hpassed : passed s s.beam.mr4At 16000000 = true) :
    Completes (.mr4Poll codes) s fun t => t.beam.mr4 = multiplierOf codes ∧
      (4 ≤ maxOf codes → s.beam.mr4 ≠ 4 → bit s.log.pending 526 = false → s.log.safe = false → bit t.log.pending 526 = true) ∧
      t.objs = s.objs := fun hclk => by
  have hexec : execMr4Poll codes s =
      .next (if (multiplierOf codes = 4) = (s.beam.mr4 = 4) then s.multiplied (multiplierOf codes)
        else (s.multiplied (multiplierOf codes)).raise { src := 526 }) := by
    rw [execMr4Poll, whenClocked_of_clocked hclk]
    exact if_neg (by simp [htrained, hfailed, hawake, hpassed])
  refine ⟨_, hexec, ?_⟩
  split
  case isTrue hsame =>
    refine ⟨rfl, fun hhigh hold => ?_, rfl⟩
    have hfour : multiplierOf codes = 4 := if_pos hhigh
    exact absurd (hsame.mp hfour) hold
  case isFalse =>
    exact ⟨by simp [State.multiplied], fun _ _ _ _ => State.raise_pending _ (e := { src := 526 }) (by decide), by simp [State.multiplied]⟩

/-! ## Power-down and self-refresh (R375, R376) -/

theorem BeamChSt.rank_setRank (x : BeamChSt) (r : Nat) (k : RankSt) : (x.setRank r k).rank r = k := by
  unfold BeamChSt.setRank BeamChSt.rank
  split <;> rfl

theorem BeamChSt.rank_setRank_other (x : BeamChSt) {r : Nat} (hr : r < 2) (k : RankSt) : (x.setRank r k).rank (1 - r) = x.rank (1 - r) := by
  obtain rfl | rfl : r = 0 ∨ r = 1 := by omega
  · rfl
  · rfl

/-- R375: a rank to which nothing has been queued enters power-down. -/
theorem powerDownEntry_enters {s : State} {c : BeamChan} {r : Nat} (hr : r < 2) (htrained : s.beam.trained = true)
    (hfailed : s.beam.failed = false) (hawake : s.beam.selfRefresh = false) (hfitted : r < s.beam.ranks)
    (hreads : ∀ e ∈ (s.bch c.val).reads, rankOf s e.addr ≠ r) (hwrites : ∀ w ∈ (s.bch c.val).writes, rankOf s (64 * w.unit) ≠ r)
    (hup : ((s.bch c.val).rank r).powerDown = false)
    (hpassed : passed s ((s.bch c.val).rank r).lastQueued (s.nat K.beamPowerDownIdleNs) = true) :
    Completes (.powerDownEntry c r) s fun t => ((t.bch c.val).rank r).powerDown = true ∧
      ((t.bch c.val).rank (1 - r)) = (s.bch c.val).rank (1 - r) ∧ t.objs = s.objs := fun hclk => by
  let x := s.bch c.val
  have hunread : x.reads.any (fun e => rankOf s e.addr == r) = false := List.any_eq_false.mpr fun e he => by simp [hreads e he]
  have hunwritten : x.writes.any (fun w => rankOf s (64 * w.unit) == r) = false := List.any_eq_false.mpr fun w hw => by simp [hwrites w hw]
  have hexec : execPowerDownEntry c r s = .next (s.setBch c.val (x.setRank r { x.rank r with powerDown := true })) := by
    rw [execPowerDownEntry, whenClocked_of_clocked hclk]
    exact if_neg (by simp [htrained, hfailed, hawake, Nat.not_le.mpr hfitted, hunread, hunwritten, hup, hpassed, x])
  refine ⟨_, hexec, ?_⟩
  dsimp only
  rw [State.bch_setBch, BeamChSt.rank_setRank, BeamChSt.rank_setRank_other _ hr]
  exact ⟨rfl, rfl, rfl⟩

/-- R376, R389: the Beam in self-refresh shows it. -/
theorem State.nat_showBeam_state (s : State) : s.showBeam.nat K.beamBeamState = (beamMode s).code := by
  simp (disch := decide) [State.showBeam, State.nat_setN_ne, State.nat_setN]

/-- R376: the idle Beam enters self-refresh. -/
theorem selfRefreshEntry_enters {s : State} (htrained : s.beam.trained = true) (hfailed : s.beam.failed = false)
    (hawake : s.beam.selfRefresh = false) (hswitching : s.beam.switching = none) (hlimit : s.nat K.beamSelfRefreshIdleUs ≠ 0)
    (hidle : beamIdle s = true) (hpassed : passed s s.beam.idleSince (s.nat K.beamSelfRefreshIdleUs * 1000) = true) :
    Completes .selfRefreshEntry s fun t => t.beam.selfRefresh = true ∧ t.nat K.beamBeamState = 3 ∧ SameMemory s t := fun hclk => by
  let u : State := { s with beam := { s.beam with selfRefresh := true } }
  have hexec : execSelfRefreshEntry s = .next (u.showBeam.raise { src := 525 }) := by
    rw [execSelfRefreshEntry, whenClocked_of_clocked hclk]
    exact if_neg (by simp [htrained, hfailed, hawake, hswitching, hlimit, hidle, hpassed])
  have hmode : beamMode u = .selfRefresh := by simp [beamMode, u, hfailed, hswitching]
  have hkept : (u.showBeam.raise { src := 525 }).beam = u.showBeam.beam ∧ (u.showBeam.raise { src := 525 }).dram = u.showBeam.dram ∧
      (u.showBeam.raise { src := 525 }).sram = u.showBeam.sram := by simp
  obtain ⟨hbeam, hdram, hsram⟩ := hkept
  refine ⟨_, hexec, by rw [hbeam]; rfl, ?_, fun a => by rw [hdram]; rfl, fun a => by rw [hsram]; rfl⟩
  rw [State.raise_nat, State.nat_showBeam_state, hmode]
  rfl

/-! ## Bandwidth windows (R384) -/

/-- A fold over different members, of which only i changes what is seen. -/
theorem foldl_once {σ β : Type} {view : σ → β} {f : σ → Nat → σ} {g : β → β} {l : List Nat} {i : Nat} (hl : l.Nodup) (hi : i ∈ l)
    (hself : ∀ m, view (f m i) = g (view m)) (hother : ∀ m, ∀ x ∈ l, x ≠ i → view (f m x) = view m) (m : σ) :
    view (l.foldl f m) = g (view m) := by
  induction l generalizing m with
  | nil => exact absurd hi List.not_mem_nil
  | cons a l ih =>
    obtain ⟨ha, hl⟩ := List.nodup_cons.mp hl
    rw [List.foldl_cons]
    obtain rfl | hi := List.mem_cons.mp hi
    · have hrest (n : σ) : view (l.foldl f n) = view n :=
        List.foldlRecOn (motive := fun u => view u = view n) l f rfl
          fun u hu x hx => (hother u x (List.mem_cons_of_mem i hx) fun h => ha (h ▸ hx)).trans hu
      rw [hrest, hself]
    · rw [ih hl hi (fun u x hx => hother u x (List.mem_cons_of_mem a hx)), hother m a List.mem_cons_self fun h => ha (h ▸ hi)]

/-- What a channel's window is read from and shown in. -/
def State.windowParts (s : State) (c : Nat) : BeamChSt × Nat × Nat := (s.bch c, s.nat (K.beamReadMBps c), s.nat (K.beamWriteMBps c))

/-- R384: these at the end of a window. -/
def windowEnded (x : BeamChSt × Nat × Nat) : BeamChSt × Nat × Nat :=
  ({ x.1 with readBytes := 0, writeBytes := 0 }, x.1.readBytes / 1000, x.1.writeBytes / 1000)

theorem State.channelWindow_self (s : State) (c : Nat) : (s.channelWindow c).windowParts c = windowEnded (s.windowParts c) := by
  have hkey : K.beamWriteMBps c ≠ K.beamReadMBps c := by
    unfold K.beamWriteMBps K.beamReadMBps objKey
    omega
  refine Prod.ext ?_ (Prod.ext ?_ ?_)
  · exact s.bch_setBch c _
  · exact (State.nat_setN_ne _ _ hkey).trans (State.nat_setN _ _ _)
  · exact State.nat_setN _ _ _

theorem State.channelWindow_other (s : State) {c d : Nat} (hc : c < 8) (hd : d < 8) (h : d ≠ c) :
    (s.channelWindow d).windowParts c = s.windowParts c := by
  have hkeys : K.beamReadMBps d ≠ K.beamReadMBps c ∧ K.beamReadMBps d ≠ K.beamWriteMBps c ∧ K.beamWriteMBps d ≠ K.beamReadMBps c ∧
      K.beamWriteMBps d ≠ K.beamWriteMBps c := by
    unfold K.beamWriteMBps K.beamReadMBps objKey
    omega
  obtain ⟨hrr, hrw, hwr, hww⟩ := hkeys
  refine Prod.ext ?_ (Prod.ext ?_ ?_)
  · exact State.bch_setBch_ne _ _ _ h
  · exact (State.nat_setN_ne _ _ hwr).trans (State.nat_setN_ne _ _ hrr)
  · exact (State.nat_setN_ne _ _ hww).trans (State.nat_setN_ne _ _ hrw)

theorem State.channelWindows_parts (s : State) {c : Nat} (hc : c < 8) :
    ((List.range 8).foldl State.channelWindow s).windowParts c = windowEnded (s.windowParts c) :=
  foldl_once (view := fun s => State.windowParts s c) List.nodup_range (List.mem_range.mpr hc) (fun m => m.channelWindow_self c)
    (fun m _ hx hne => m.channelWindow_other hc (List.mem_range.mp hx) hne) s

theorem State.loadReported_parts (s : State) {c : Nat} (hc : c < 8) : s.loadReported.windowParts c = windowEnded (s.windowParts c) := by
  have hkeys : K.beamBeamLoadPermille ≠ K.beamReadMBps c ∧ K.beamBeamLoadPermille ≠ K.beamWriteMBps c := by
    unfold K.beamWriteMBps K.beamReadMBps K.beamBeamLoadPermille objKey
    omega
  have hload (u : State) (v : Nat) : (u.setN K.beamBeamLoadPermille v).windowParts c = u.windowParts c :=
    Prod.ext rfl (Prod.ext (State.nat_setN_ne _ _ hkeys.1) (State.nat_setN_ne _ _ hkeys.2))
  rw [State.loadReported, hload, State.channelWindows_parts s hc]

theorem State.loadReported_load (s : State) : s.loadReported.nat K.beamBeamLoadPermille ≤ 65535 := by
  rw [State.loadReported, State.nat_setN]
  exact Nat.min_le_left _ _

theorem State.loadReported_channel (s : State) {c : Nat} (hc : c < 8) :
    s.loadReported.bch c = { s.bch c with readBytes := 0, writeBytes := 0 } ∧
      s.loadReported.nat (K.beamReadMBps c) = (s.bch c).readBytes / 1000 ∧ s.loadReported.nat (K.beamWriteMBps c) = (s.bch c).writeBytes / 1000 := by
  have hparts := s.loadReported_parts hc
  simpa only [State.windowParts, windowEnded, Prod.mk.injEq] using hparts

theorem State.windowAt_readings (s : State) (n : Nat) :
    (s.windowAt n).beam.window = n ∧ (s.windowAt n).bch = s.bch ∧ (s.windowAt n).nat = s.nat := ⟨rfl, rfl, rfl⟩

/-- R384: a window of 1 ms is reported and begun again. -/
theorem bandwidthWindow_reports {s : State} (hended : nowNs s / 1000000 ≠ s.beam.window) : Completes .bandwidthWindow s fun t =>
    t.beam.window = nowNs s / 1000000 ∧ (∀ c, c < 8 → t.nat (K.beamReadMBps c) = (s.bch c).readBytes / 1000 ∧
      t.nat (K.beamWriteMBps c) = (s.bch c).writeBytes / 1000 ∧ (t.bch c).readBytes = 0 ∧ (t.bch c).writeBytes = 0) ∧
      t.nat K.beamBeamLoadPermille ≤ 65535 := fun hclk => by
  have hexec : execBandwidthWindow s = .next (s.loadReported.windowAt (nowNs s / 1000000)) := by
    rw [execBandwidthWindow, whenClocked_of_clocked hclk, if_neg hended]
  obtain ⟨hwindow, hbch, hnat⟩ := s.loadReported.windowAt_readings (nowNs s / 1000000)
  refine ⟨_, hexec, ?_⟩
  dsimp only
  rw [hwindow, hbch, hnat]
  refine ⟨rfl, fun c hc => ?_, s.loadReported_load⟩
  obtain ⟨hchannel, hread, hwrite⟩ := s.loadReported_channel hc
  rw [hchannel]
  exact ⟨hread, hwrite, rfl, rfl⟩

/-- Settles O45, by `refreshDue_owes`, `mr4Poll_sets`, `powerDownEntry_enters`, `selfRefreshEntry_enters` and `bandwidthWindow_reports`. -/
theorem beamKeepsItself : Obligations.BeamKeepsItself := by
  unfold Obligations.BeamKeepsItself
  exact ⟨fun s c => refreshDue_owes, fun s codes => mr4Poll_sets, fun s c r => powerDownEntry_enters, fun s => selfRefreshEntry_enters,
    fun s => bandwidthWindow_reports⟩

end Sys2Proof.Machine
end

section
/-!
PROOFS. The Beam's training (spec/13_beam_dram.md; R377 to R382): margin checks, retraining attempts and their failures, the change of the set
point, and the return to a higher one.
-/

namespace Sys2Proof.Machine

/-! ## Beam-failed state (R382) -/

/-- What the Beam's failure sets. -/
def State.failParts (s : State) : Bool × Nat := (s.beam.failed, s.beam.failedSince)

theorem State.failParts_of_besideRows {s t : State} (h : t.besideRows = s.besideRows) : t.failParts = s.failParts :=
  (congrArg (fun u : State => (u.beam.failed, u.beam.failedSince)) h :)

theorem State.eachBch_failParts (s : State) (f : BeamChSt → BeamChSt) : (s.eachBch f).failParts = s.failParts := by
  unfold State.eachBch
  exact foldl_view (view := State.failParts) (f := fun s n => s.setBch n (f (s.bch n))) (fun _ _ => rfl) _ s

theorem State.showBeam_failParts (s : State) : s.showBeam.failParts = s.failParts := rfl

/-- R382: a Beam that fails is in beam-failed state from now on. -/
theorem State.beamFail_fails {s : State} (h : s.beam.failed = false) (channel point : Nat) :
    (s.beamFail channel point).beam.failed = true ∧ (s.beamFail channel point).beam.failedSince = s.clk.ticks := by
  have hparts : (s.beamFail channel point).failParts = (true, s.clk.ticks) := by
    rw [State.beamFail, if_neg (by simp [h])]
    dsimp only
    refine (State.failParts_of_besideRows (State.follow_besideRows _)).trans ?_
    refine (State.failParts_of_besideRows (foldl_besideRows (fun _ _ => State.setLoom_besideRows _ _ _) _ _)).trans ?_
    refine (State.failParts_of_besideRows (foldl_besideRows (fun t r => ?_) _ _)).trans ?_
    · split
      · exact State.endRow_besideRows _ _
      · rfl
    · rw [State.failParts_of_besideRows (State.raise_besideRows _ _), State.showBeam_failParts, State.eachBch_failParts]
      rfl
  exact ⟨congrArg Prod.fst hparts, congrArg Prod.snd hparts⟩

/-! ## Retraining attempts (R377, R378, R388) -/

theorem State.retrainEvent_bch (s : State) (n : Nat) : (s.retrainEvent n).bch = s.bch := State.raise_bch s _

theorem State.retrainEvent_nat (s : State) (n : Nat) : (s.retrainEvent n).nat = s.nat := State.raise_nat s _

theorem State.retrainEvent_beam (s : State) (n : Nat) : (s.retrainEvent n).beam = s.beam := by simp [State.retrainEvent]

theorem State.retrainEvent_objs (s : State) (n : Nat) : (s.retrainEvent n).objs = s.objs := by simp [State.retrainEvent]

theorem State.retrainEvent_isFrozen (s : State) (n : Nat) : (s.retrainEvent n).isFrozen = s.isFrozen := by
  simp only [State.retrainEvent, State.raise_accessors]

/-- R377: no attempt runs on channel n, and nothing stands in the way of one. -/
structure MayRetrain (s : State) (n : Nat) : Prop where
  quiet : (s.bch n).retraining = false
  working : s.beam.failed = false
  settled : s.beam.switching = none
  thawed : s.isFrozen 34 = false

/-- R377, R378: an attempt starts, and is counted. -/
theorem State.startAttempt_starts {s : State} {n : Nat} (h : MayRetrain s n) :
    (s.startAttempt n).bch n = { s.bch n with retraining := true } ∧
      (s.startAttempt n).nat (K.beamRetrainAttempts n) = (s.nat (K.beamRetrainAttempts n) + 1) % 2 ^ 32 := by
  have hgo : s.startAttempt n =
      State.retrainEvent (State.bump (s.setBch n { s.bch n with retraining := true }) (K.beamRetrainAttempts n)) n :=
    if_neg (by simp [h.quiet, h.working, h.settled, h.thawed])
  rw [hgo, State.retrainEvent_bch, State.retrainEvent_nat, State.nat_bump]
  exact ⟨s.bch_setBch n _, rfl⟩

theorem trainedFrom_congr {s t : State} (h : t.beam.trainedMask = s.beam.trainedMask) (p : Nat) : trainedFrom t p = trainedFrom s p := by
  rw [trainedFrom, h, trainedFrom]

section Channel

variable {s : State} {c : BeamChan} (hfailed : s.beam.failed = false) (hswitching : s.beam.switching = none)
include hfailed hswitching

/-- R377: a margin check that finds too few steps starts an attempt. -/
theorem marginCheck_retrains (hfrozen : s.isFrozen 34 = false) {margin : Int} (htrained : s.beam.trained = true)
    (hawake : s.beam.selfRefresh = false) (hdue : (s.bch c.val).checkNow = true) (hresumed : s.beam.resumeAt ≤ s.clk.ticks)
    (hquiet : (s.bch c.val).retraining = false) (hmargin : margin < s.int K.beamMinMarginSteps) :
    Completes (.marginCheck c margin) s fun t => (t.bch c.val).retraining = true ∧ (t.bch c.val).checkNow = false ∧
      t.nat (K.beamRetrainAttempts c.val) = (s.nat (K.beamRetrainAttempts c.val) + 1) % 2 ^ 32 := fun hclk => by
  let x : BeamChSt := { s.bch c.val with marginAt := s.clk.ticks, checkNow := false }
  have hexec : execMarginCheck c margin s = .next ((s.setBch c.val x).startAttempt c.val) := by
    rw [execMarginCheck, whenClocked_of_clocked hclk]
    dsimp only
    rw [if_neg (by simp [htrained, hfailed, hawake, hswitching, hfrozen, hdue, hresumed])]
    exact if_pos hmargin
  have hbch : (s.setBch c.val x).bch c.val = x := s.bch_setBch c.val x
  obtain ⟨hstarted, hcount⟩ := State.startAttempt_starts (s := s.setBch c.val x) (n := c.val)
    ⟨by rw [hbch]; exact hquiet, hfailed, hswitching, hfrozen⟩
  refine ⟨_, hexec, ?_⟩
  dsimp only
  rw [hstarted, hbch, hcount]
  exact ⟨rfl, rfl, rfl⟩

/-- R377: one that finds enough leaves the channel as it is. -/
theorem marginCheck_passes (hfrozen : s.isFrozen 34 = false) {margin : Int} (htrained : s.beam.trained = true)
    (hawake : s.beam.selfRefresh = false) (hdue : (s.bch c.val).checkNow = true) (hresumed : s.beam.resumeAt ≤ s.clk.ticks)
    (hquiet : (s.bch c.val).retraining = false) (hmargin : s.int K.beamMinMarginSteps ≤ margin) :
    Completes (.marginCheck c margin) s fun t => (t.bch c.val).retraining = false ∧ (t.bch c.val).marginAt = s.clk.ticks ∧ t.objs = s.objs :=
  fun hclk => by
  let x : BeamChSt := { s.bch c.val with marginAt := s.clk.ticks, checkNow := false }
  have hexec : execMarginCheck c margin s = .next (s.setBch c.val x) := by
    rw [execMarginCheck, whenClocked_of_clocked hclk]
    dsimp only
    rw [if_neg (by simp [htrained, hfailed, hawake, hswitching, hfrozen, hdue, hresumed])]
    exact if_neg (Int.not_lt.mpr hmargin)
  refine ⟨_, hexec, ?_⟩
  dsimp only
  rw [State.bch_setBch]
  exact ⟨hquiet, rfl, rfl⟩

variable (hrun : (s.bch c.val).retraining = true)
include hrun

theorem exec_retrainAttemptDone (hclk : s.boot.clocksLost = false) (ok : Bool) : exec (.retrainAttemptDone c ok) s =
    .next (if ok then
        ((s.setBch c.val { s.bch c.val with retraining := false, attempts := 0, failed := false }).retrainEvent c.val).beamBusy
      else (s.attemptFailed c.val).beamBusy) := by
  show execRetrainAttemptDone c ok s = _
  rw [execRetrainAttemptDone, whenClocked_of_clocked hclk]
  dsimp only
  rw [if_neg (by simp [hfailed, hswitching]), if_pos hrun]
  cases ok <;> rfl

/-- R378: an attempt that succeeds ends the retraining. -/
theorem retrainAttemptDone_succeeds : Completes (.retrainAttemptDone c true) s fun t =>
    (t.bch c.val).retraining = false ∧ (t.bch c.val).attempts = 0 ∧ t.objs = s.objs := fun hclk => by
  let u : State := s.setBch c.val { s.bch c.val with retraining := false, attempts := 0, failed := false }
  have hbch : (u.retrainEvent c.val).beamBusy.bch c.val = { s.bch c.val with retraining := false, attempts := 0, failed := false } :=
    (congrFun (u.retrainEvent_bch c.val) c.val).trans (s.bch_setBch c.val _)
  refine ⟨_, exec_retrainAttemptDone hfailed hswitching hrun hclk true, ?_⟩
  rw [if_pos rfl]
  exact ⟨congrArg BeamChSt.retraining hbch, congrArg BeamChSt.attempts hbch, u.retrainEvent_objs c.val⟩

/-- R378: the first two that fail are followed by another. -/
theorem retrainAttemptDone_again (hfrozen : s.isFrozen 34 = false) (hfew : (s.bch c.val).attempts < 2) :
    Completes (.retrainAttemptDone c false) s fun t =>
      (t.bch c.val).retraining = true ∧ (t.bch c.val).attempts = (s.bch c.val).attempts + 1 ∧
        t.nat (K.beamRetrainAttempts c.val) = (s.nat (K.beamRetrainAttempts c.val) + 1) % 2 ^ 32 := fun hclk => by
  let u : State := s.setBch c.val { s.bch c.val with retraining := false, attempts := (s.bch c.val).attempts + 1 }
  have hagain : s.attemptFailed c.val = (u.retrainEvent c.val).startAttempt c.val :=
    if_pos (show (s.bch c.val).attempts + 1 < 3 by omega)
  have hbch : (u.retrainEvent c.val).bch c.val = { s.bch c.val with retraining := false, attempts := (s.bch c.val).attempts + 1 } :=
    (congrFun (u.retrainEvent_bch c.val) c.val).trans (s.bch_setBch c.val _)
  have hbeam := u.retrainEvent_beam c.val
  obtain ⟨hstarted, hcount⟩ := State.startAttempt_starts (s := u.retrainEvent c.val) (n := c.val)
    ⟨by rw [hbch], by rw [hbeam]; exact hfailed, by rw [hbeam]; exact hswitching, by rw [State.retrainEvent_isFrozen]; exact hfrozen⟩
  have hnat : u.nat = s.nat := rfl
  rw [State.retrainEvent_nat, hnat] at hcount
  refine ⟨_, exec_retrainAttemptDone hfailed hswitching hrun hclk false, ?_⟩
  rw [if_neg Bool.false_ne_true, hagain]
  exact ⟨congrArg BeamChSt.retraining hstarted, (congrArg BeamChSt.attempts hstarted).trans (congrArg BeamChSt.attempts hbch), hcount⟩

/-- R378: the third failure leaves the set point. -/
theorem exec_retrainAttemptDone_leaves (hmany : 2 ≤ (s.bch c.val).attempts) (hclk : s.boot.clocksLost = false) :
    ∃ u : State, exec (.retrainAttemptDone c false) s = .next (u.leavePoint c.val).beamBusy ∧ u.clk = s.clk ∧
      u.bch c.val = { s.bch c.val with retraining := false, attempts := (s.bch c.val).attempts + 1, failed := true } ∧
      u.beam.failed = false ∧ u.beam.setPoint = s.beam.setPoint ∧ u.beam.trainedMask = s.beam.trainedMask := by
  let u : State := s.setBch c.val { s.bch c.val with retraining := false, attempts := (s.bch c.val).attempts + 1, failed := true }
  have hleave : s.attemptFailed c.val = (u.retrainEvent c.val).leavePoint c.val :=
    if_neg (show ¬(s.bch c.val).attempts + 1 < 3 by omega)
  have hexec := exec_retrainAttemptDone hfailed hswitching hrun hclk false
  have hbeam := u.retrainEvent_beam c.val
  rw [if_neg Bool.false_ne_true, hleave] at hexec
  refine ⟨u.retrainEvent c.val, hexec, ?_, ?_, by rw [hbeam]; exact hfailed, by rw [hbeam]; rfl, by rw [hbeam]; rfl⟩
  · simp [State.retrainEvent, u, State.setBch]
  · exact (congrFun (u.retrainEvent_bch c.val) c.val).trans (s.bch_setBch c.val _)

/-- R378: it moves every channel to the next lower set point that has trained. -/
theorem retrainAttemptDone_lowers {p : Nat} {rest : List Nat} (hmany : 2 ≤ (s.bch c.val).attempts)
    (hlower : trainedFrom s (s.beam.setPoint + 1) = p :: rest) :
    Completes (.retrainAttemptDone c false) s fun t => t.beam.switching = some p ∧ (t.bch c.val).failed = true ∧ t.beam.failed = false :=
  fun hclk => by
  obtain ⟨u, hexec, -, hbch, hworking, hpoint, hmask⟩ := exec_retrainAttemptDone_leaves hfailed hswitching hrun hmany hclk
  have hleave : u.leavePoint c.val = State.showBeam { u with beam := { u.beam with switching := some p, returning := none } } := by
    rw [State.leavePoint, trainedFrom_congr hmask, hpoint, hlower]
  refine ⟨_, hexec, ?_⟩
  rw [hleave]
  exact ⟨rfl, congrArg BeamChSt.failed hbch, hworking⟩

/-- R378, R382: where none has trained, the Beam fails. -/
theorem retrainAttemptDone_fails (hmany : 2 ≤ (s.bch c.val).attempts) (hnone : trainedFrom s (s.beam.setPoint + 1) = []) :
    Completes (.retrainAttemptDone c false) s fun t => t.beam.failed = true ∧ t.beam.failedSince = s.clk.ticks := fun hclk => by
  obtain ⟨u, hexec, hclock, -, hworking, hpoint, hmask⟩ := exec_retrainAttemptDone_leaves hfailed hswitching hrun hmany hclk
  have hleave : u.leavePoint c.val = u.beamFail c.val u.beam.setPoint := by
    rw [State.leavePoint, trainedFrom_congr hmask, hpoint, hnone]
  obtain ⟨hdown, hsince⟩ := State.beamFail_fails hworking c.val u.beam.setPoint
  refine ⟨_, hexec, ?_⟩
  rw [hleave]
  exact ⟨hdown, hsince.trans (by rw [hclock])⟩

end Channel

/-! ## Set points (R379 to R381) -/

/-- R380: a return begins: every channel has an attempt at its target. -/
def State.returnBegun (s : State) (target : Nat) : State :=
  (List.range 8).foldl (fun s n => (s.bump (K.beamRetrainAttempts n)).retrainEvent n)
    { s with beam := { s.beam with returning := some (target, 0, 0) } }

theorem State.returnBegun_beam (s : State) (target : Nat) :
    (s.returnBegun target).beam = { s.beam with returning := some (target, 0, 0) } := by
  have hattempt (u : State) (n : Nat) : ((u.bump (K.beamRetrainAttempts n)).retrainEvent n).beam = u.beam := by
    rw [State.retrainEvent_beam]
    rfl
  unfold State.returnBegun
  rw [foldl_view (view := State.beam) hattempt]

theorem State.returnAsk_begins {s : State} (hfailed : s.beam.failed = false) (hswitching : s.beam.switching = none)
    (htrained : s.beam.trained = true) (hnone : s.beam.returning = none) (hbelow : s.nat K.beamMaxSetPoint < s.beam.setPoint) :
    s.returnAsk = (s.returnBegun (s.nat K.beamMaxSetPoint), stOk) := by
  rw [State.returnAsk, if_neg (by simp [hfailed, htrained]), if_neg (by simp [hswitching, hnone]), if_neg (Nat.not_le.mpr hbelow)]
  rfl

/-- R380: a ReturnToSetPoint write retrains the highest set point that is allowed. -/
theorem returnToSetPoint_begins {s : State} (hfailed : s.beam.failed = false) (hswitching : s.beam.switching = none)
    (htrained : s.beam.trained = true) (hnone : s.beam.returning = none) (hbelow : s.nat K.beamMaxSetPoint < s.beam.setPoint)
    (hheld : Unheld s K.beamReturnToSetPoint) : Completes .returnToSetPoint s fun t =>
      t.beam.returning = some (s.nat K.beamMaxSetPoint, 0, 0) ∧ t.beam.setPoint = s.beam.setPoint := fun hclk => by
  obtain ⟨d, htouch, -⟩ := s.touch_draft .host
  have hcommand : (s.touch .host).command .host K.beamReturnToSetPoint (.int 1) =
      (State.returnBegun { s with draft := d } (s.nat K.beamMaxSetPoint), stOk) := by
    rw [htouch]
    exact State.returnAsk_begins (s := { s with draft := d }) hfailed hswitching htrained hnone hbelow
  have hbeam := State.returnBegun_beam { s with draft := d } (s.nat K.beamMaxSetPoint)
  refine ⟨_, whenClocked_of_clocked hclk _, ?_⟩
  rw [takes_returnToSetPoint.direct (.inl rfl) hheld hcommand (by decide)]
  generalize State.returnBegun { s with draft := d } (s.nat K.beamMaxSetPoint) = u at hbeam
  exact ⟨(congrArg BeamSt.returning hbeam :), (congrArg BeamSt.setPoint hbeam :)⟩

/-- What a set-point change sets, as far as it is followed here. -/
def State.pointParts (s : State) : Nat × Option Nat × Nat := (s.beam.setPoint, s.beam.switching, s.nat K.beamSetPointChanges)

theorem State.raise_pointParts (s : State) (e : Ev) : (s.raise e).pointParts = s.pointParts := by simp [State.pointParts]

theorem State.setN_pointParts (s : State) {k : Nat} (v : Nat) (h : k ≠ K.beamSetPointChanges) : (s.setN k v).pointParts = s.pointParts :=
  Prod.ext rfl (Prod.ext rfl (s.nat_setN_ne v h))

theorem State.eachBch_pointParts (s : State) (f : BeamChSt → BeamChSt) : (s.eachBch f).pointParts = s.pointParts := by
  unfold State.eachBch
  exact foldl_view (view := State.pointParts) (f := fun s n => s.setBch n (f (s.bch n))) (fun _ _ => rfl) _ s

theorem State.showBeam_pointParts (s : State) : s.showBeam.pointParts = s.pointParts := by
  unfold State.showBeam
  dsimp only
  rw [State.setN_pointParts _ _ (by decide), State.setN_pointParts _ _ (by decide), State.setN_pointParts _ _ (by decide)]

theorem ite_pointParts {s u : State} (p : Prop) [Decidable p] (h : u.pointParts = s.pointParts) :
    (if p then s else u).pointParts = s.pointParts := by
  split
  · rfl
  · exact h

/-- R381: the check of the costs that follows changes neither. -/
theorem State.dramCheck_pointParts (s : State) (sheds : Bool) : (s.dramCheck sheds).pointParts = s.pointParts := by
  have hshown (shed held : Nat) : (((s.setN K.beamShedMask shed).setN K.beamNotFittingMask held).raise { src := 521 }).pointParts = s.pointParts := by
    rw [State.raise_pointParts, State.setN_pointParts _ _ (by decide), State.setN_pointParts _ _ (by decide)]
  unfold State.dramCheck
  exact ite_pointParts _ (hshown _ _)

theorem State.follow_pointParts (s : State) : s.follow.pointParts = s.pointParts := by
  unfold State.follow
  dsimp only
  split
  · rfl
  · rw [State.raise_pointParts, State.setN_pointParts _ _ (by decide)]

/-- R379: a set-point change ends at its target. -/
theorem setPointChange_ends {s : State} {p : Nat} (hswitching : s.beam.switching = some p) (hfailed : s.beam.failed = false) :
    Completes (.setPointChange p) s fun t =>
      t.beam.setPoint = p ∧ t.beam.switching = none ∧ t.nat K.beamSetPointChanges = (s.nat K.beamSetPointChanges + 1) % 2 ^ 32 :=
  fun hclk => by
  show ∃ t, execSetPointChange p s = .next t ∧ _
  rw [execSetPointChange, whenClocked_of_clocked hclk, if_neg (by simp [hswitching, hfailed])]
  dsimp only
  generalize hu : State.eachBch { s with beam := { s.beam with setPoint := p, switching := none, returning := none } } _ = u
  have hchannels : u.pointParts = (p, none, s.nat K.beamSetPointChanges) := by
    rw [← hu, State.eachBch_pointParts]
    rfl
  clear hu
  simp only [State.pointParts, Prod.mk.injEq] at hchannels
  obtain ⟨hpoint, hsettled, hcount⟩ := hchannels
  have hcounted (v : Int) : ((u.bump K.beamSetPointChanges).set K.beamLastSetPointChange v).pointParts =
      (p, none, (s.nat K.beamSetPointChanges + 1) % 2 ^ 32) := by
    refine Prod.ext hpoint (Prod.ext hsettled ?_)
    exact (State.nat_set_ne _ _ (by decide)).trans ((State.nat_bump _ _).trans (by rw [hcount]))
  refine ⟨_, rfl, ?_⟩
  generalize hv : (u.bump K.beamSetPointChanges).set K.beamLastSetPointChange _ = v
  have hparts : ((v.showBeam.raise { src := 520 }).dramCheck true).follow.pointParts = (p, none, (s.nat K.beamSetPointChanges + 1) % 2 ^ 32) := by
    rw [State.follow_pointParts, State.dramCheck_pointParts, State.raise_pointParts, State.showBeam_pointParts, ← hv, hcounted]
  simpa only [State.pointParts, Prod.mk.injEq] using hparts

/-- Settles O46: margin checks by `marginCheck_retrains` and `marginCheck_passes`, the end of an attempt by `retrainAttemptDone_succeeds`,
`retrainAttemptDone_again`, `retrainAttemptDone_lowers` and `retrainAttemptDone_fails`, set points by `returnToSetPoint_begins` and
`setPointChange_ends`. -/
theorem beamRetrains : Obligations.BeamRetrains := by
  unfold Obligations.BeamRetrains
  exact fun s c hfailed hswitching hfrozen =>
    ⟨fun margin htrained hawake hdue hresumed hquiet =>
      ⟨marginCheck_retrains hfailed hswitching hfrozen htrained hawake hdue hresumed hquiet,
        marginCheck_passes hfailed hswitching hfrozen htrained hawake hdue hresumed hquiet⟩,
    retrainAttemptDone_succeeds hfailed hswitching,
    fun hrun => retrainAttemptDone_again hfailed hswitching hrun hfrozen,
    fun p rest hrun hmany => retrainAttemptDone_lowers hfailed hswitching hrun hmany,
    fun hrun hmany => retrainAttemptDone_fails hfailed hswitching hrun hmany,
    returnToSetPoint_begins hfailed hswitching,
    fun u p => setPointChange_ends⟩

end Sys2Proof.Machine
end

section
/-!
PROOFS. Requests to a DRAM channel (spec/13_beam_dram.md; R367, R369, R376, R382): the requests that never reach the DRAM, and the entry that a
unit of a write or a read takes in its channel's queue.
-/

namespace Sys2Proof.Machine

/-! ## Requests that do not reach the DRAM (R367, R382) -/

/-- R382: a flight to DRAM that ends without it. -/
theorem Flight.blank_of_open {f : Flight} (hdram : f.txn.target = .dram) (hopen : f.done = false) :
    f.blank.done = true ∧ (f.txn.wdata = none → f.blank.data = List.replicate f.txn.len 0) := by
  have hblank : f.blank = { f with accepted := true, done := true, data := if f.txn.wdata.isNone then List.replicate f.txn.len 0 else [] } :=
    if_pos (by simp [hdram, hopen])
  rw [hblank]
  exact ⟨rfl, fun hread => by simp [hread]⟩

theorem State.logAsk_besideRows (s : State) (r : LogReq) : (s.logAsk r).besideRows = s.besideRows :=
  State.besideRows_of_still (s.logAsk_still r)

theorem State.logAsk_nat (s : State) (r : LogReq) : (s.logAsk r).nat = s.nat := by
  have hstill := s.logAsk_still r
  exact funext (State.nat_congr (congrArg State.objs hstill :) (congrArg State.fuses hstill :))

/-- What stands beside the count of transactions outside the usable capacity, and that count. -/
def State.outParts (s : State) : State × Nat := (s.besideRows, s.nat K.beamOutOfRange)

theorem ite_outParts (p : Prop) [Decidable p] {s u : State} (h : u.outParts = s.outParts) : (if p then s else u).outParts = s.outParts := by
  split
  · rfl
  · exact h

/-- R367: the record of a transaction outside the usable capacity counts it, and touches neither the Fabric nor the memories. -/
theorem State.outOfRangeEntry_leaves (s : State) (master : Nat) :
    (s.outOfRangeEntry master).besideRows = s.besideRows ∧
      (s.outOfRangeEntry master).nat K.beamOutOfRange = (s.nat K.beamOutOfRange + 1) % 2 ^ 32 := by
  have hlogged (u v : State) (r : LogReq) (h : v.outParts = u.outParts) : (v.logAsk r).outParts = u.outParts := by
    rw [← h, State.outParts, State.logAsk_besideRows, State.logAsk_nat, State.outParts]
  have hall : (s.outOfRangeEntry master).outParts = (s.bump K.beamOutOfRange).outParts := by
    unfold State.outOfRangeEntry
    exact ite_outParts _ (hlogged _ _ _ rfl)
  rw [State.outParts, State.outParts, State.nat_bump] at hall
  exact ⟨congrArg Prod.fst hall, congrArg Prod.snd hall⟩

section Request

variable {s : State} {n : Nat} {f : Flight} (hf : AMap.find? s.fab.inflight n = some f) (hacc : f.accepted = false)
  (hdram : f.txn.target = .dram) (hord : orderHolds s n f.txn = false)
include hf hacc hdram hord

/-- R382: in beam-failed state a read gives zeros and a write is discarded. -/
theorem beamRequest_failed (hopen : f.done = false) (hfailed : s.beam.failed = true) : Completes (.beamRequest n) s fun t =>
    SameMemory s t ∧ ∃ g, AMap.find? t.fab.inflight n = some g ∧ g.done = true ∧
      (f.txn.wdata = none → g.data = List.replicate f.txn.len 0) := fun hclk => by
  have hexec : execBeamRequest n s = .next (s.setFlight n f.blank) := by
    rw [execBeamRequest, whenClocked_of_clocked hclk]
    simp [hf, hacc, hdram, hord, hfailed]
  exact ⟨_, hexec, ⟨fun _ => rfl, fun _ => rfl⟩, f.blank, AMap.find?_put_self _ _ _, Flight.blank_of_open hdram hopen⟩

variable (hfail : s.beam.failed = false) (htrain : s.beam.trained = true)
include hfail htrain

/-- R367: outside the usable capacity too, with its count. -/
theorem beamRequest_outside (hopen : f.done = false) (hrange : outOfRange s f.txn.addr = true) : Completes (.beamRequest n) s fun t =>
    SameMemory s t ∧ t.nat K.beamOutOfRange = (s.nat K.beamOutOfRange + 1) % 2 ^ 32 ∧ ∃ g, AMap.find? t.fab.inflight n = some g ∧
      g.done = true ∧ (f.txn.wdata = none → g.data = List.replicate f.txn.len 0) := fun hclk => by
  have hexec : execBeamRequest n s = .next ((s.setFlight n f.blank).outOfRangeEntry f.txn.master).beamBusy := by
    rw [execBeamRequest, whenClocked_of_clocked hclk]
    simp [hf, hacc, hdram, hord, hfail, htrain, hrange]
  obtain ⟨hbeside, hcount⟩ := (s.setFlight n f.blank).outOfRangeEntry_leaves f.txn.master
  have hdramKept : ((s.setFlight n f.blank).outOfRangeEntry f.txn.master).dram = s.dram := (congrArg State.dram hbeside :)
  have hsramKept : ((s.setFlight n f.blank).outOfRangeEntry f.txn.master).sram = s.sram := (congrArg State.sram hbeside :)
  have hfab : ((s.setFlight n f.blank).outOfRangeEntry f.txn.master).fab = (s.setFlight n f.blank).fab := (congrArg State.fab hbeside :)
  have hnat : (s.setFlight n f.blank).nat = s.nat := rfl
  rw [hnat] at hcount
  generalize (s.setFlight n f.blank).outOfRangeEntry f.txn.master = u at hexec hcount hdramKept hsramKept hfab
  refine ⟨_, hexec, ⟨fun a => by rw [← hdramKept]; rfl, fun a => by rw [← hsramKept]; rfl⟩, hcount, f.blank, ?_,
    Flight.blank_of_open hdram hopen⟩
  exact (congrArg (fun x : FabSt => AMap.find? x.inflight n) hfab).trans (AMap.find?_put_self _ _ _)

end Request

/-! ## The waking of the Beam (R376) -/

/-- What the waking of the Beam leaves: a channel's queues, an object that it does not show, and the memories. -/
def State.wakeParts (s : State) (c k : Nat) : List ReadEntry × List WriteEntry × Nat × Memory × Memory :=
  ((s.bch c).reads, (s.bch c).writes, s.nat k, s.dram, s.sram)

theorem State.raise_wakeParts (s : State) (e : Ev) (c k : Nat) : (s.raise e).wakeParts c k = s.wakeParts c k := by simp [State.wakeParts]

theorem State.setBch_wakeParts {s : State} {n : Nat} {x : BeamChSt} (hreads : x.reads = (s.bch n).reads) (hwrites : x.writes = (s.bch n).writes)
    (c k : Nat) : (s.setBch n x).wakeParts c k = s.wakeParts c k := by
  by_cases h : n = c
  · subst h
    simp only [State.wakeParts, State.bch_setBch, hreads, hwrites]
    rfl
  · simp only [State.wakeParts, State.bch_setBch_ne s n x h]
    rfl

theorem State.eachBch_wakeParts (s : State) {f : BeamChSt → BeamChSt} (hreads : ∀ x, (f x).reads = x.reads) (hwrites : ∀ x, (f x).writes = x.writes)
    (c k : Nat) : (s.eachBch f).wakeParts c k = s.wakeParts c k := by
  unfold State.eachBch
  exact foldl_view (view := fun u => State.wakeParts u c k) (f := fun s n => s.setBch n (f (s.bch n)))
    (fun _ _ => State.setBch_wakeParts (hreads _) (hwrites _) c k) _ s

theorem State.showBeam_wakeParts (s : State) (c : Nat) {k : Nat} (hk : keyIdx k ≠ 0x6C02) : s.showBeam.wakeParts c k = s.wakeParts c k := by
  have hset (u : State) {j : Nat} (v : Nat) (hj : keyIdx j = 0x6C02) : (u.setN j v).wakeParts c k = u.wakeParts c k := by
    have hnat : (u.setN j v).nat k = u.nat k := u.nat_setN_of_keyIdx v (by rw [hj]; exact Ne.symm hk)
    simp only [State.wakeParts, hnat]
    rfl
  unfold State.showBeam
  dsimp only
  rw [hset _ _ rfl, hset _ _ rfl, hset _ _ rfl]

/-- R376: the waking of the Beam leaves the queues and the memories. -/
theorem State.exitSelfRefresh_wakeParts (s : State) (c : Nat) {k : Nat} (hk : keyIdx k ≠ 0x6C02) :
    s.exitSelfRefresh.wakeParts c k = s.wakeParts c k := by
  unfold State.exitSelfRefresh
  split
  · rfl
  · dsimp only
    rw [State.raise_wakeParts, State.showBeam_wakeParts _ c hk]
    exact (State.eachBch_wakeParts _ (by exact fun _ => rfl) (by exact fun _ => rfl) c k).trans rfl

theorem State.exitSelfRefresh_awake (s : State) : s.exitSelfRefresh.beam.selfRefresh = false := by
  have heach (u : State) (f : BeamChSt → BeamChSt) : (u.eachBch f).beam.selfRefresh = u.beam.selfRefresh := by
    unfold State.eachBch
    exact foldl_view (view := fun u => u.beam.selfRefresh) (f := fun s n => s.setBch n (f (s.bch n))) (fun _ _ => rfl) _ u
  have hshow (u : State) : u.showBeam.beam = u.beam := rfl
  have hraise (u : State) (e : Ev) : (u.raise e).beam = u.beam := by simp
  unfold State.exitSelfRefresh
  split
  case isTrue h => simpa using h
  case isFalse => rw [hraise, hshow, heach]

/-! ## A request of one unit (R366, R369) -/

/-- R366: a run of bytes within 64 meets one unit. -/
theorem unitsOf_single {addr len : Nat} (hpos : 0 < len) (hfit : addr % 64 + len ≤ 64) : unitsOf addr len = [(addr, len)] := by
  have hfirst : max addr ((addr / 64 + 0) * 64) = addr ∧ min (addr + len) ((addr / 64 + 0 + 1) * 64) - addr = len := by omega
  have hrest (i : Nat) (hi : 1 ≤ i) : min (addr + len) ((addr / 64 + i + 1) * 64) - max addr ((addr / 64 + i) * 64) = 0 := by
    have hnext : (addr / 64 + 1) * 64 ≤ (addr / 64 + i) * 64 := Nat.mul_le_mul_right 64 (by omega)
    omega
  have hrange : List.range 5 = [0, 1, 2, 3, 4] := rfl
  unfold unitsOf
  rw [hrange]
  simp only [List.map_cons, List.map_nil, hfirst.1, hfirst.2, hrest 1 (by decide), hrest 2 (by decide), hrest 3 (by decide), hrest 4 (by decide)]
  rw [List.filter_cons_of_pos (by simpa using Nat.ne_of_gt hpos)]
  simp

/-- Bytes put one after another at places of a unit, from place a + k on. -/
def putBytes (data : Bytes) (a k : Nat) (old : AMap Byte) : AMap Byte :=
  (data.zipIdx k).foldl (fun m e => AMap.put m ((a + e.2) % 64) e.1) old

theorem putBytes_cons (b : Byte) (data : Bytes) (a k : Nat) (old : AMap Byte) :
    putBytes (b :: data) a k old = putBytes data a (k + 1) (AMap.put old ((a + k) % 64) b) := rfl

/-- What stands at another place stays. -/
theorem find?_putBytes_other (data : Bytes) (a k : Nat) (old : AMap Byte) {p : Nat}
    (h : ∀ j, k ≤ j → j < k + data.length → (a + j) % 64 ≠ p) : AMap.find? (putBytes data a k old) p = AMap.find? old p := by
  induction data generalizing k old with
  | nil => rfl
  | cons b data ih =>
    rw [List.length_cons] at h
    rw [putBytes_cons, ih (k + 1) _ fun j hj hlt => h j (by omega) (by omega), AMap.find?_put_ne _ _ (h k (by omega) (by omega))]

/-- The bytes stand at their places. -/
theorem find?_putBytes (data : Bytes) (a k : Nat) (old : AMap Byte) {i : Nat} (hi : i < data.length) (hfit : a % 64 + k + data.length ≤ 64) :
    AMap.find? (putBytes data a k old) ((a + (k + i)) % 64) = data[i]? := by
  induction data generalizing k old i with
  | nil => exact absurd hi (Nat.not_lt_zero _)
  | cons b data ih =>
    rw [List.length_cons] at hi hfit
    rw [putBytes_cons]
    cases i with
    | zero => rw [find?_putBytes_other data a (k + 1) _ fun j hj hlt => by omega, Nat.add_zero, AMap.find?_put_self]; rfl
    | succ i =>
      have hplace : k + (i + 1) = k + 1 + i := by omega
      rw [hplace, ih (k + 1) _ (by omega) (by omega)]
      rfl

/-- R369: a write of one unit merges into the unit's entries that no read has raised, or enters as one of its own. -/
theorem BeamChSt.acceptWrite_eq (x : BeamChSt) (master seq now a : Nat) (data : Bytes) :
    x.acceptWrite master seq now a data =
      if x.writes.any (fun e => e.unit == a / 64 && e.raised.isNone) then
        { x with writes := x.writes.map fun e =>
            if e.unit = a / 64 && e.raised.isNone then { e with data := putBytes data a 0 e.data, seq := seq } else e }
      else { x with writes := x.writes ++ [{ master := master, unit := a / 64, data := putBytes data a 0 [], since := now, seq := seq }] } := rfl

/-- R369: the bytes of a run within a unit stand in an entry that has taken them. -/
theorem WriteEntry.byte?_putBytes {e : WriteEntry} {data : Bytes} {a : Nat} {old : AMap Byte} (hunit : e.unit = a / 64)
    (hdata : e.data = putBytes data a 0 old) (hfit : a % 64 + data.length ≤ 64) {i : Nat} (hi : i < data.length) :
    e.byte? (a + i) = data[i]? := by
  have hplace := find?_putBytes data a 0 old hi (by omega)
  rw [Nat.zero_add] at hplace
  rw [WriteEntry.byte?, hunit, if_pos (by omega), hdata, hplace]

/-- R369: a write of one unit stands in an entry of that unit. -/
theorem BeamChSt.acceptWrite_holds (x : BeamChSt) (master seq now : Nat) {a : Nat} {data : Bytes} (hfit : a % 64 + data.length ≤ 64) :
    ∃ e ∈ (x.acceptWrite master seq now a data).writes, e.unit = a / 64 ∧ e.raised = none ∧
      ∀ i, i < data.length → e.byte? (a + i) = data[i]? := by
  rw [BeamChSt.acceptWrite_eq]
  split
  case isTrue hmerges =>
    obtain ⟨e, he, htaken⟩ := List.any_eq_true.mp hmerges
    obtain ⟨hunit, hraised⟩ := Bool.and_eq_true_iff.mp htaken
    have hunit' : e.unit = a / 64 := eq_of_beq hunit
    refine ⟨{ e with data := putBytes data a 0 e.data, seq := seq }, List.mem_map.mpr ⟨e, he, if_pos (by simp [hunit', hraised])⟩, hunit',
      Option.isNone_iff_eq_none.mp hraised, fun i hi => ?_⟩
    exact WriteEntry.byte?_putBytes (e := { e with data := putBytes data a 0 e.data, seq := seq }) hunit' rfl hfit hi
  case isFalse =>
    exact ⟨_, List.mem_append_right _ List.mem_cons_self, rfl, rfl, fun i hi => WriteEntry.byte?_putBytes rfl rfl hfit hi⟩

theorem BeamChSt.setRank_writes (x : BeamChSt) (r : Nat) (k : RankSt) : (x.setRank r k).writes = x.writes := by
  unfold BeamChSt.setRank
  split <;> rfl

theorem unitQueued_writes (s : State) (c a : Nat) : (unitQueued s c a).writes = (s.bch c).writes := BeamChSt.setRank_writes _ _ _

/-- R369: a read whose bytes the newest entry covers is forwarded from it. -/
theorem BeamChSt.acceptRead_forwarded {x : BeamChSt} {e : ReadEntry} {w : WriteEntry} (cls : Nat)
    (hnewest : newestMeeting x.writes e.addr e.len = some w) (hcovers : w.covers e.addr e.len = true) :
    x.acceptRead e cls =
      ({ x with reads := x.reads ++ [{ e with forwarded := some ((List.range e.len).map fun i => (w.byte? (e.addr + i)).getD 0) }] }, true) := by
  rw [BeamChSt.acceptRead, hnewest]
  exact if_pos hcovers

/-- R369: a unit that has been read into the queue touches neither the Fabric nor the memories. -/
theorem State.readTaken_leaves (s : State) (c : Nat) (r : BeamChSt × Bool) :
    (s.readTaken c r).dram = s.dram ∧ (s.readTaken c r).sram = s.sram := by
  unfold State.readTaken
  split <;> exact ⟨rfl, rfl⟩

theorem State.setFlight_leaves (s : State) (n : Nat) (f : Flight) :
    (s.setFlight n f).nat = s.nat ∧ (s.setFlight n f).bch = s.bch ∧ (s.setFlight n f).dram = s.dram ∧ (s.setFlight n f).sram = s.sram :=
  ⟨rfl, rfl, rfl, rfl⟩

/-- R369: a forwarded read is counted. -/
theorem State.readTaken_nat (s : State) (c : Nat) {r : BeamChSt × Bool} (h : r.2 = true) :
    (s.readTaken c r).nat (K.beamForwardedReads c) = (s.nat (K.beamForwardedReads c) + 1) % 2 ^ 32 := by
  rw [State.readTaken, if_pos h]
  exact State.nat_bump _ _

/-- R369: the entry with which a unit of a read waits in channel c's queue. -/
def readUnit (s : State) (n c : Nat) (t : Txn) (a len : Nat) : ReadEntry :=
  { txn := n, master := t.master, unit := a / 64, addr := a, len := len,
    reserved := t.loomReference && decide (reservedUsed (unitQueued s c a) < 64), since := s.clk.ticks, seq := s.beam.nextSeq }

theorem State.acceptUnit_read (s : State) (n c : Nat) {t : Txn} (a len : Nat) (hread : t.wdata = none) :
    s.acceptUnit n c t a len =
      s.seqTaken.readTaken c ((unitQueued s c a).acceptRead (readUnit s n c t a len) (classOf s t.master t.reference s.clk.ticks)) := by
  simp only [State.acceptUnit, hread, readUnit]

/-! ## A request that its channel takes (R369, R375, R376) -/

section Taken

variable {s : State} {n : Nat} {f : Flight} (hf : AMap.find? s.fab.inflight n = some f) (hacc : f.accepted = false) (hopen : f.done = false)
  (hdram : f.txn.target = .dram) (hord : orderHolds s n f.txn = false) (hfail : s.beam.failed = false) (htrain : s.beam.trained = true)
  (hrange : outOfRange s f.txn.addr = false) (hroom : (s.bch (beamChannel f.txn.addr)).room f.txn = true) (hpos : 0 < f.txn.len)
  (hfit : f.txn.addr % 64 + f.txn.len ≤ 64)
include hf hacc hdram hord hfail htrain hrange hroom hpos hfit

/-- R369: the one unit of the request is taken into its channel's queue. -/
theorem exec_beamRequest_single (hclk : s.boot.clocksLost = false) : exec (.beamRequest n) s =
    .next ((s.exitSelfRefresh.beamBusy.acceptUnit n (beamChannel f.txn.addr) f.txn f.txn.addr f.txn.len).setFlight n
      { f with accepted := true, done := f.txn.wdata.isSome }) := by
  have hparts := s.exitSelfRefresh_wakeParts (beamChannel f.txn.addr) (k := 0) (by decide)
  have hreads : (s.exitSelfRefresh.beamBusy.bch (beamChannel f.txn.addr)).reads = (s.bch (beamChannel f.txn.addr)).reads :=
    congrArg (·.1) hparts
  have hwrites : (s.exitSelfRefresh.beamBusy.bch (beamChannel f.txn.addr)).writes = (s.bch (beamChannel f.txn.addr)).writes :=
    congrArg (·.2.1) hparts
  have hroom' : (s.exitSelfRefresh.beamBusy.bch (beamChannel f.txn.addr)).room f.txn = true := by
    rw [← hroom]
    simp only [BeamChSt.room, hwrites, reservedUsed_congr hreads, unreservedUsed_congr hreads]
  show execBeamRequest n s = _
  rw [execBeamRequest, whenClocked_of_clocked hclk]
  simp [hf, hacc, hdram, hord, hfail, htrain, hrange, hroom', unitsOf_single hpos hfit]

/-- R369: a write of one unit stands in an entry of that unit, and wakes the Beam. -/
theorem beamRequest_writes {d : Bytes} (hdata : f.txn.wdata = some d) (hlen : d.length = f.txn.len) : Completes (.beamRequest n) s fun t =>
    AMap.find? t.fab.inflight n = some { f with accepted := true, done := true } ∧ t.beam.selfRefresh = false ∧ SameMemory s t ∧
      ∃ e ∈ (t.bch (beamChannel f.txn.addr)).writes, e.unit = f.txn.addr / 64 ∧ e.raised = none ∧
        ∀ i, i < f.txn.len → e.byte? (f.txn.addr + i) = d[i]? := fun hclk => by
  have hexec := exec_beamRequest_single hf hacc hdram hord hfail htrain hrange hroom hpos hfit hclk
  have hparts := s.exitSelfRefresh_wakeParts (beamChannel f.txn.addr) (k := 0) (by decide)
  have hawake := s.exitSelfRefresh_awake
  have hdramKept : s.exitSelfRefresh.dram = s.dram := congrArg (·.2.2.2.1) hparts
  have hsramKept : s.exitSelfRefresh.sram = s.sram := congrArg (·.2.2.2.2) hparts
  generalize s.exitSelfRefresh = u at hexec hawake hdramKept hsramKept
  have hwhole : (d.drop (f.txn.addr - f.txn.addr)).take f.txn.len = d := by
    rw [Nat.sub_self, List.drop_zero, ← hlen, List.take_length]
  have htaken : u.beamBusy.acceptUnit n (beamChannel f.txn.addr) f.txn f.txn.addr f.txn.len =
      State.setBch u.beamBusy.seqTaken (beamChannel f.txn.addr)
        ((unitQueued u.beamBusy (beamChannel f.txn.addr) f.txn.addr).acceptWrite f.txn.master u.beam.nextSeq u.clk.ticks f.txn.addr d) := by
    simp only [State.acceptUnit, hdata, hwhole]
    rfl
  obtain ⟨e, he, hunit, hraised, hbytes⟩ := BeamChSt.acceptWrite_holds (unitQueued u.beamBusy (beamChannel f.txn.addr) f.txn.addr) f.txn.master
    u.beam.nextSeq u.clk.ticks (a := f.txn.addr) (data := d) (by omega)
  rw [htaken, hdata] at hexec
  refine ⟨_, hexec, AMap.find?_put_self _ _ _, hawake, ⟨fun a => by rw [← hdramKept]; rfl, fun a => by rw [← hsramKept]; rfl⟩, e, ?_, hunit,
    hraised, fun i hi => hbytes i (by omega)⟩
  have hbch := State.bch_setBch u.beamBusy.seqTaken (beamChannel f.txn.addr)
    ((unitQueued u.beamBusy (beamChannel f.txn.addr) f.txn.addr).acceptWrite f.txn.master u.beam.nextSeq u.clk.ticks f.txn.addr d)
  exact (congrArg BeamChSt.writes hbch) ▸ he

/-- R369: a read of one unit joins the queue with its entry; one that the newest write entry covers is forwarded from it, and counted. -/
theorem beamRequest_reads (hread : f.txn.wdata = none) : Completes (.beamRequest n) s fun t =>
    AMap.find? t.fab.inflight n = some { f with accepted := true, done := false } ∧ SameMemory s t ∧
      (t.bch (beamChannel f.txn.addr)).reads.length = (s.bch (beamChannel f.txn.addr)).reads.length + 1 ∧
      (∀ w, newestMeeting (s.bch (beamChannel f.txn.addr)).writes f.txn.addr f.txn.len = some w → w.covers f.txn.addr f.txn.len = true →
        t.nat (K.beamForwardedReads (beamChannel f.txn.addr)) = (s.nat (K.beamForwardedReads (beamChannel f.txn.addr)) + 1) % 2 ^ 32 ∧
          ∃ e ∈ (t.bch (beamChannel f.txn.addr)).reads, e.txn = n ∧
            e.forwarded = some ((List.range f.txn.len).map fun i => (w.byte? (f.txn.addr + i)).getD 0)) := fun hclk => by
  have hexec := exec_beamRequest_single hf hacc hdram hord hfail htrain hrange hroom hpos hfit hclk
  generalize beamChannel f.txn.addr = c at hexec ⊢
  have hkey : keyIdx (K.beamForwardedReads c) ≠ 0x6C02 := by
    unfold keyIdx K.beamForwardedReads objKey
    omega
  have hparts := s.exitSelfRefresh_wakeParts c hkey
  simp only [State.wakeParts, Prod.mk.injEq] at hparts
  obtain ⟨hreads, hwrites, hnat, hdramKept, hsramKept⟩ := hparts
  generalize s.exitSelfRefresh = u at hexec hreads hwrites hnat hdramKept hsramKept
  rw [State.acceptUnit_read _ _ _ _ _ hread, hread, Option.isSome_none] at hexec
  have hqreads : (unitQueued u.beamBusy c f.txn.addr).reads = (s.bch c).reads := (unitQueued_reads u.beamBusy c f.txn.addr).trans hreads
  have hqwrites : (unitQueued u.beamBusy c f.txn.addr).writes = (s.bch c).writes := (unitQueued_writes u.beamBusy c f.txn.addr).trans hwrites
  have hbusy : u.beamBusy.seqTaken.nat = u.nat ∧ u.beamBusy.seqTaken.dram = u.dram ∧ u.beamBusy.seqTaken.sram = u.sram := ⟨rfl, rfl, rfl⟩
  obtain ⟨hbusyNat, hbusyDram, hbusySram⟩ := hbusy
  generalize he : readUnit u.beamBusy n c f.txn f.txn.addr f.txn.len = e at hexec
  have hentry : e.txn = n ∧ e.addr = f.txn.addr ∧ e.len = f.txn.len := he ▸ ⟨rfl, rfl, rfl⟩
  generalize classOf u.beamBusy f.txn.master f.txn.reference u.beamBusy.clk.ticks = cls at hexec
  generalize unitQueued u.beamBusy c f.txn.addr = x at hexec hqreads hqwrites
  generalize u.beamBusy.seqTaken = v at hexec hbusyNat hbusyDram hbusySram
  obtain ⟨htxn, haddr, hlen⟩ := hentry
  obtain ⟨g, -, hjoined⟩ := x.acceptRead_reads e cls
  obtain ⟨htakenDram, htakenSram⟩ := v.readTaken_leaves c (x.acceptRead e cls)
  have hbch := v.readTaken_bch c (x.acceptRead e cls)
  have hcounted := fun h => v.readTaken_nat c (r := x.acceptRead e cls) h
  generalize v.readTaken c (x.acceptRead e cls) = w at hexec htakenDram htakenSram hbch hcounted
  obtain ⟨hflightNat, hflightBch, hflightMemory⟩ := w.setFlight_leaves n { f with accepted := true, done := false }
  refine ⟨_, hexec, AMap.find?_put_self _ _ _, ⟨fun a => ?_, fun a => ?_⟩, ?_, fun z hnewest hcovers => ?_⟩
  · rw [hflightMemory.1, htakenDram, hbusyDram, hdramKept]
  · rw [hflightMemory.2, htakenSram, hbusySram, hsramKept]
  · rw [hflightBch, hbch, hjoined, hqreads, List.length_append, List.length_singleton]
  · have hforwarded := BeamChSt.acceptRead_forwarded (x := x) (e := e) cls (by rw [hqwrites, haddr, hlen, hnewest]) (by rw [haddr, hlen, hcovers])
    rw [hflightNat, hcounted (congrArg Prod.snd hforwarded), hbusyNat, hnat, hflightBch, hbch, hforwarded]
    refine ⟨rfl, _, List.mem_append_right _ List.mem_cons_self, htxn, ?_⟩
    rw [← haddr, ← hlen]

end Taken

/-- Settles O43: the requests that do not reach the DRAM by `beamRequest_failed` and `beamRequest_outside`, those that its channel takes by
`beamRequest_writes` and `beamRequest_reads`. -/
theorem beamTakesRequests : Obligations.BeamTakesRequests := by
  unfold Obligations.BeamTakesRequests
  exact fun s n f hf hacc hopen hdram hord =>
    ⟨beamRequest_failed hf hacc hdram hord hopen, fun hfail htrain => beamRequest_outside hf hacc hdram hord hfail htrain hopen,
      fun hfail htrain hrange hroom hpos hfit =>
        ⟨fun d => beamRequest_writes hf hacc hdram hord hfail htrain hrange hroom hpos hfit,
          beamRequest_reads hf hacc hdram hord hfail htrain hrange hroom hpos hfit⟩⟩

end Sys2Proof.Machine
end

section
/-!
PROOFS. What start-up keeps (spec/12_lanes.md, spec/10_timekeeping.md, spec/15_startup_config.md; R311 to R313, R346 to R363, R412 to R419): the
lanes, the Timekeeper and the ports' lists move neither the points of start-up, nor the commits that wait, nor the committed configuration.
-/

namespace Sys2Proof.Machine

/-! ## The points of start-up, the commits that wait and the committed configuration -/

/-- The record of start-up but for the image transfers and the encode gate, the commit queue, and the committed configuration. -/
def State.startParts (s : State) : BootSt × List Commit × AMap Val :=
  ({ s.boot with transfer := none, offered := [], gateOpen := false }, s.draft.queue, s.conf)

theorem State.startParts_eq {s t : State} (h : t.startParts = s.startParts) :
    t.boot.earlySet = s.boot.earlySet ∧ t.boot.boltReady = s.boot.boltReady ∧ t.draft.queue = s.draft.queue ∧ t.conf = s.conf :=
  ⟨(congrArg (fun x => x.1.earlySet) h :), (congrArg (fun x => x.1.boltReady) h :), congrArg (fun x => x.2.1) h, congrArg (fun x => x.2.2) h⟩

theorem ite_startParts {p : Prop} {_ : Decidable p} {s t u : State} (ht : t.startParts = s.startParts) (hu : u.startParts = s.startParts) :
    (if p then t else u).startParts = s.startParts := by
  split
  · exact ht
  · exact hu

theorem foldl_startParts {α : Type} {f : State → α → State} (h : ∀ s x, (f s x).startParts = s.startParts) (l : List α) (s : State) :
    (l.foldl f s).startParts = s.startParts := foldl_view h l s

@[simp] theorem State.raise_startParts (s : State) (e : Ev) : (s.raise e).startParts = s.startParts := by simp [State.startParts]

theorem State.raise_if_startParts (p : Prop) [Decidable p] (s : State) (e : Ev) : (if p then s.raise e else s).startParts = s.startParts :=
  ite_startParts (s.raise_startParts e) rfl

@[simp] theorem State.raiseLimited_startParts (s : State) (key : Nat) (e : Ev) : (s.raiseLimited key e).startParts = s.startParts := by
  simp [State.startParts]

@[simp] theorem State.set_startParts (s : State) (k : Nat) (v : Int) : (s.set k v).startParts = s.startParts := rfl
@[simp] theorem State.setN_startParts (s : State) (k v : Nat) : (s.setN k v).startParts = s.startParts := rfl
@[simp] theorem State.bump_startParts (s : State) (k : Nat) : (s.bump k).startParts = s.startParts := rfl
@[simp] theorem State.count_startParts (s : State) (n k : Nat) : (s.count n k).startParts = s.startParts := rfl
@[simp] theorem State.setLane_startParts (s : State) (n : Nat) (x : LaneSt) : (s.setLane n x).startParts = s.startParts := rfl
@[simp] theorem State.emit_startParts (s : State) (o : Sent) : (s.emit o).startParts = s.startParts := rfl

theorem State.follow_startParts (s : State) : s.follow.startParts = s.startParts := by
  unfold State.follow
  exact ite_startParts rfl (by simp)

/-! ## Lanes and the chain's links -/

theorem State.abandonTransfer_startParts (s : State) : s.abandonTransfer.startParts = s.startParts := by
  unfold State.abandonTransfer
  split
  · rfl
  · rw [State.raise_startParts, State.raise_startParts]
    rfl

theorem State.setChainPort_startParts (s : State) (d : Nat) (x : ChainPortSt) : (s.setChainPort d x).startParts = s.startParts := by
  unfold State.setChainPort
  split <;> rfl

theorem State.chainLink_startParts (s : State) (d : Nat) : (s.chainLink d).startParts = s.startParts := by
  have hshown (k v : Nat) : (if s.nat k = v then s else s.setN k v).startParts = s.startParts := ite_startParts rfl rfl
  have habandon (p : Prop) [Decidable p] (u : State) : (if p then u.abandonTransfer else u).startParts = u.startParts :=
    ite_startParts u.abandonTransfer_startParts rfl
  have hoffered (p : Prop) [Decidable p] (u : State) (o : AMap (Nat × Nat × Bool)) :
      (if p then u else { u with boot := { u.boot with offered := o } }).startParts = u.startParts := ite_startParts rfl rfl
  unfold State.chainLink
  dsimp only
  split
  · exact hshown _ _
  · rw [State.raise_startParts, hoffered, habandon, State.setChainPort_startParts, hshown]

theorem State.chainLinks_startParts (s : State) : s.chainLinks.startParts = s.startParts :=
  foldl_startParts State.chainLink_startParts [0, 1] s

theorem State.scanAbort_startParts (s : State) (n : Nat) : (s.scanAbort n).startParts = s.startParts := by
  unfold State.scanAbort
  split
  · rfl
  · exact State.raise_startParts _ _

theorem State.laneShown_startParts (s : State) (n : Nat) (m old : LaneMode) (quiet : Bool) :
    (s.laneShown n m old quiet).startParts = s.startParts := by
  unfold State.laneShown
  exact (ite_startParts (State.raise_startParts _ _) rfl).trans (ite_startParts rfl rfl)

theorem State.laneTo_startParts (s : State) (n : Nat) (m : LaneMode) (quiet : Bool) : (s.laneTo n m quiet).startParts = s.startParts := by
  by_cases h : (s.lane n).mode = m
  · rw [State.laneTo, if_pos h]
  · rw [State.laneTo_of_ne quiet h, State.chainLinks_startParts, State.laneShown_startParts]
    exact ite_startParts (State.scanAbort_startParts s n) rfl

theorem State.startAlign_startParts (s : State) (n : Nat) : (s.startAlign n).startParts = s.startParts :=
  State.laneTo_startParts _ _ _ _

theorem State.alignWeft_startParts (s : State) : s.alignWeft.startParts = s.startParts :=
  foldl_startParts (fun s n => ite_startParts (s.startAlign_startParts n) rfl) _ s

theorem State.enterSoak_startParts (s : State) (n : Nat) (quiet : Bool) : (s.enterSoak n quiet).startParts = s.startParts :=
  State.laneTo_startParts _ _ _ _

theorem State.leaveSoak_startParts (s : State) (n : Nat) : (s.leaveSoak n).startParts = s.startParts :=
  State.laneTo_startParts _ _ _ _

theorem State.laneCommitted_startParts (s0 s : State) (n : Nat) : (State.laneCommitted s0 s n).startParts = s.startParts := by
  have habort (p : Prop) [Decidable p] (u : State) : (if p then u.scanAbort n else u).startParts = u.startParts :=
    ite_startParts (u.scanAbort_startParts n) rfl
  have hto (u : State) (x : LaneSt) (m : LaneMode) : ((u.setLane n x).laneTo n m false).startParts = u.startParts :=
    State.laneTo_startParts _ _ _ _
  have hrequad (p : Prop) [Decidable p] (u : State) (x : LaneSt) :
      (if p then (u.setLane n x).laneTo n .off false else u).startParts = u.startParts :=
    ite_startParts (hto u x _) rfl
  have hstate (p q r w : Prop) [Decidable p] [Decidable q] [Decidable r] [Decidable w] (u : State) (x : LaneSt) :
      (if p then (u.setLane n x).laneTo n .fold false else if q then u.laneTo n .off false else if r then u.enterSoak n false
        else if w then u.leaveSoak n else u).startParts = u.startParts :=
    ite_startParts (hto u x _) (ite_startParts (u.laneTo_startParts _ _ _)
      (ite_startParts (u.enterSoak_startParts _ _) (ite_startParts (u.leaveSoak_startParts _) rfl)))
  unfold State.laneCommitted
  dsimp only
  rw [State.raise_if_startParts, hstate, hrequad, habort]

theorem State.lanesCommitted_startParts (s0 s : State) : (State.lanesCommitted s0 s).startParts = s.startParts := by
  unfold State.lanesCommitted
  rw [State.chainLinks_startParts]
  exact foldl_startParts (State.laneCommitted_startParts s0) _ s

/-! ## The Timekeeper and the encode gate -/

theorem State.openGate_startParts (s : State) : s.openGate.startParts = s.startParts := by
  unfold State.openGate
  exact ite_startParts rfl (State.raise_startParts _ _)

theorem State.stepAudio_startParts (s : State) : s.stepAudio.startParts = s.startParts := by
  have hshow (u : State) (a : Nat) (x : AudioSt) : ((u.setAport a x).showFifo a).startParts = u.startParts := by
    unfold State.showFifo State.show
    exact ite_startParts rfl rfl
  have hslip (p : Prop) [Decidable p] (u : State) (a : Nat) (x : AudioSt) (e : Ev) :
      (((if p then (u.setAport a x).showFifo a else u).bump (K.audStepSlipCount a)).raiseLimited (417 + 4 * a) e).startParts = u.startParts := by
    rw [State.raiseLimited_startParts, State.bump_startParts]
    exact ite_startParts (hshow u a x) rfl
  refine foldl_startParts (fun s a => ?_) _ s
  dsimp only
  split
  · rfl
  · exact hslip _ _ _ _ _

theorem State.step_startParts (s : State) : s.step.startParts = s.startParts := by
  unfold State.step
  dsimp only
  rw [State.raise_startParts, State.set_startParts, State.set_startParts, State.count_startParts, State.bump_startParts,
    State.stepAudio_startParts]
  rfl

theorem State.retarget_startParts (s : State) (first : Bool) : (s.retarget first).startParts = s.startParts := by
  unfold State.retarget
  dsimp only
  split
  · exact ite_startParts (State.raise_startParts _ _) rfl
  · split
    · rw [State.raise_if_startParts, State.step_startParts]
    · exact ite_startParts rfl (State.raise_startParts _ _)

theorem State.switchTo_startParts (s : State) (d : Nat) : (s.switchTo d).startParts = s.startParts := by
  unfold State.switchTo
  split
  · rfl
  · rw [State.retarget_startParts, State.raise_startParts]
    rfl

theorem State.tryGate_startParts (s : State) : s.tryGate.startParts = s.startParts := by
  unfold State.tryGate
  exact ite_startParts s.openGate_startParts rfl

theorem State.chooseDomain_startParts (s : State) : s.chooseDomain.startParts = s.startParts := by
  have hvalid (p : Prop) [Decidable p] (u : State) (l : LogSt) : (if p then { u with log := l } else u).startParts = u.startParts :=
    ite_startParts rfl rfl
  unfold State.chooseDomain
  dsimp only
  rw [State.tryGate_startParts, hvalid, State.switchTo_startParts]

theorem State.domTo_startParts (s : State) (d : Nat) (st : DomState) : (s.domTo d st).startParts = s.startParts := by
  have hset (p : Prop) [Decidable p] (u : State) (k : Nat) (v : Int) : (if p then u.set k v else u).startParts = u.startParts :=
    ite_startParts rfl rfl
  have hdom (u : State) (x : DomainSt) : (u.setDom d x).startParts = u.startParts := by
    unfold State.setDom
    split <;> rfl
  unfold State.domTo
  dsimp only [State.setFreq]
  by_cases h : (s.dom d).state = st
  · rw [if_pos h]
  · rw [if_neg h, State.chooseDomain_startParts, State.raise_if_startParts, State.raise_startParts, hset, hset, State.setN_startParts, hdom]

theorem State.timeCommitted_startParts (s0 s : State) : (State.timeCommitted s0 s).startParts = s.startParts := by
  have htime (p : Prop) [Decidable p] (u : State) (x : TimeSt) : (if p then u else { u with time := x }).startParts = u.startParts :=
    ite_startParts rfl rfl
  unfold State.timeCommitted
  dsimp only
  rw [State.retarget_startParts, State.chooseDomain_startParts, htime, foldl_startParts, foldl_startParts]
  · exact fun u d => ite_startParts (u.domTo_startParts d _) (ite_startParts (u.domTo_startParts d _) rfl)
  · exact fun u n => ite_startParts rfl rfl

/-! ## The ports' lists -/

theorem State.showPort_startParts (s : State) (p : Nat) : (s.showPort p).startParts = s.startParts := by
  unfold State.showPort
  dsimp only
  rw [foldl_startParts, State.setN_startParts]
  exact fun u c => ite_startParts rfl rfl

theorem State.listsAtOnce_startParts (s : State) : s.listsAtOnce.startParts = s.startParts := by
  refine foldl_startParts (fun u p => ?_) _ s
  dsimp only
  rw [State.showPort_startParts]
  rfl

end Sys2Proof.Machine
end

section
/-!
PROOFS. The points of start-up (spec/15_startup_config.md; R412 to R425, R434, R444, R500): what each of them sets, where the points that it
waits for have been passed.
-/

namespace Sys2Proof.Machine

/-! ## What the shared operations keep -/

theorem State.boot_of_besideRows {s t : State} (h : t.besideRows = s.besideRows) : t.boot = s.boot := (congrArg State.boot h :)

theorem State.follow_boot (s : State) : s.follow.boot = s.boot := State.boot_of_besideRows s.follow_besideRows

theorem State.follow_nat (s : State) {k : Nat} (h : K.fastDeviceState ≠ k) : s.follow.nat k = s.nat k := by
  unfold State.follow
  dsimp only
  split
  · rfl
  · rw [State.raise_nat, State.nat_setN_ne _ _ h]

theorem State.raise_if_view {α : Type} {view : State → α} (h : ∀ (s : State) e, view (s.raise e) = view s) (p : Prop) [Decidable p] (s : State)
    (e : Ev) : view (if p then s.raise e else s) = view s := by
  split
  · exact h s e
  · rfl

/-! ## The Spindle and the fuses (R23, R412, R440, R500) -/

theorem spindleLock_runs {s : State} (hspindle : s.boot.spindle = false) (hsafe : s.log.safe = false) (hreset : s.power.inReset = false) :
    CompletesAlways .spindleLock s fun t => t.boot = { s.boot with spindle := true } ∧ t.objs = s.objs ∧ t.conf = s.conf := by
  have hexec : execSpindleLock s =
      .next { s with boot := { s.boot with spindle := true }, clk := { s.clk with primary := 0, redundant := 0, presented := 0 } } :=
    if_neg (by simp [hspindle, hsafe, hreset])
  exact ⟨_, hexec, rfl, rfl, rfl⟩

/-- What the erasure of keys keeps of start-up: its record, the flash's presence, and the supplies. -/
def State.fuseParts (s : State) : BootSt × Bool × PowerSt := (s.boot, s.flash.present, s.power)

theorem State.eraseBadKeys_fuseParts (s : State) (bad : Nat) : (s.eraseBadKeys bad).fuseParts = s.fuseParts := by
  unfold State.eraseBadKeys
  exact foldl_view (view := State.fuseParts) (fun s x => by simp [State.fuseParts]) _ _

theorem fusesRead_reads {s : State} (flashOk : Bool) (badKeys : Nat) (hspindle : s.boot.spindle = true) (hread : s.boot.fusesRead = false) :
    Completes (.fusesRead flashOk badKeys) s fun t => t.boot = { s.boot with fusesRead := true } ∧ t.flash.present = flashOk ∧
      t.power.targetMv = coreTarget s.fuses (s.int K.govJunctionMax) := fun hclk => by
  let u : State := { s with
    boot := { s.boot with fusesRead := true }, flash := { s.flash with present := flashOk }
    power := { s.power with targetMv := coreTarget s.fuses (s.int K.govJunctionMax) } }
  have hexec : execFusesRead flashOk badKeys s = .next (if flashOk = true then u.eraseBadKeys badKeys else u) := by
    rw [execFusesRead, whenClocked_of_clocked hclk, if_neg (by simp [hspindle, hread])]
  have hparts : (if flashOk = true then u.eraseBadKeys badKeys else u).fuseParts = u.fuseParts := by
    split
    · exact u.eraseBadKeys_fuseParts badKeys
    · rfl
  exact ⟨_, hexec, congrArg (·.1) hparts, congrArg (·.2.1) hparts, congrArg (fun x => x.2.2.targetMv) hparts⟩

/-! ## The Pattern and its early set (R421, R424, R425) -/

theorem State.factoryDefaults_boot (s : State) (cause : Nat) :
    (s.factoryDefaults cause).boot = { s.boot with hasPattern := false, defaulted := true } := by
  simp [State.factoryDefaults, State.setN]

theorem State.factoryDefaults_nat (s : State) (cause : Nat) {k : Nat} (h : K.bootDefaultCause ≠ k) :
    (s.factoryDefaults cause).nat k = s.nat k := by
  rw [State.factoryDefaults, State.raise_nat, State.nat_setN_ne _ _ h]
  rfl

theorem State.factoryDefaults_cause (s : State) (cause : Nat) : (s.factoryDefaults cause).nat K.bootDefaultCause = cause := by
  rw [State.factoryDefaults, State.raise_nat, State.nat_setN]

/-- R421: the chosen slot as it is shown. -/
def State.slotChosen (s : State) (slot : Nat) : State :=
  ((s.setN K.bootPatternSlot slot).setN K.bootPatternGeneration (patField (s.flash.cfg slot) 8 4)).setN K.bootPatternSchema
    (patField (s.flash.cfg slot) 4 2)

theorem State.slotChosen_nat (s : State) (slot : Nat) : (s.slotChosen slot).nat K.bootPatternSlot = slot := by
  simp (disch := decide) [State.slotChosen, State.nat_setN_ne]

/-- R421, R425: what follows the choice of a slot. -/
def State.patternJudged (s : State) (slot : Nat) : State :=
  if !patCheck (s.flash.cfg slot) then (s.slotChosen slot).factoryDefaults 2
  else if patField (s.flash.cfg slot) 4 2 = 0 || 5 < patField (s.flash.cfg slot) 4 2 then (s.slotChosen slot).factoryDefaults 3
  else { s.slotChosen slot with boot := { s.boot with hasPattern := true } }

theorem State.patternJudged_leaves (s : State) (slot : Nat) :
    (s.patternJudged slot).boot.patternChosen = s.boot.patternChosen ∧ (s.patternJudged slot).nat K.bootPatternSlot = slot := by
  have hdefaults (cause : Nat) : ((s.slotChosen slot).factoryDefaults cause).boot.patternChosen = s.boot.patternChosen ∧
      ((s.slotChosen slot).factoryDefaults cause).nat K.bootPatternSlot = slot :=
    ⟨by rw [State.factoryDefaults_boot]; rfl, by rw [State.factoryDefaults_nat _ _ (by decide), State.slotChosen_nat]⟩
  unfold State.patternJudged
  split
  · exact hdefaults 2
  · split
    · exact hdefaults 3
    · exact ⟨rfl, s.slotChosen_nat slot⟩

theorem patternChosen_chooses {s : State} (hfuses : s.boot.fusesRead = true) (hopen : s.boot.patternChosen = false) :
    Completes .patternChosen s fun t => t.boot.patternChosen = true ∧
      (chosenSlot s.flash = none → t.boot.hasPattern = false ∧ t.boot.defaulted = true ∧ t.nat K.bootDefaultCause = 1) ∧
      ∀ slot, chosenSlot s.flash = some slot → t.nat K.bootPatternSlot = slot := fun hclk => by
  let u : State := { s with boot := { s.boot with patternChosen := true } }
  have hguard : (!s.boot.fusesRead || s.boot.patternChosen) = false := by simp [hfuses, hopen]
  cases hslot : chosenSlot s.flash with
  | none =>
    have hexec : execPatternChosen s = .next (u.factoryDefaults 1) := by
      rw [execPatternChosen, whenClocked_of_clocked hclk, hguard]
      simp [hslot, u]
    have hboot := u.factoryDefaults_boot 1
    exact ⟨_, hexec, congrArg BootSt.patternChosen hboot,
      fun _ => ⟨congrArg BootSt.hasPattern hboot, congrArg BootSt.defaulted hboot, u.factoryDefaults_cause 1⟩, by simp⟩
  | some slot =>
    have hexec : execPatternChosen s = .next (u.patternJudged slot) := by
      rw [execPatternChosen, whenClocked_of_clocked hclk, hguard]
      simp only [hslot, State.patternJudged, apply_ite Host.Outcome.next]
      rfl
    obtain ⟨hchosen, hshown⟩ := u.patternJudged_leaves slot
    refine ⟨_, hexec, hchosen, by simp, fun slot' h => ?_⟩
    rw [hshown]
    exact Option.some.inj h

theorem earlySetApplied_without {s : State} (hchosen : s.boot.patternChosen = true) (hopen : s.boot.earlySet = false)
    (hpat : s.boot.hasPattern = false) :
    Completes .earlySetApplied s fun t => t.boot = { s.boot with earlySet := true } ∧ t.objs = s.objs := fun hclk => by
  have hexec : execEarlySetApplied s = .next { s with boot := { s.boot with earlySet := true } } := by
    rw [execEarlySetApplied, whenClocked_of_clocked hclk, if_neg (by simp [hchosen, hopen])]
    exact if_pos (by simp [hpat])
  exact ⟨_, hexec, rfl, rfl⟩

theorem State.setAll_conf (s : State) (m : AMap Val) : (s.setAll m).conf = m.foldl (fun c e => AMap.put c e.1 e.2) s.conf := by
  unfold State.setAll
  induction m generalizing s with
  | nil => rfl
  | cons e m ih => exact ih (s.setBoth e.1 e.2)

theorem State.setAll_boot (s : State) (m : AMap Val) : (s.setAll m).boot = s.boot := by
  unfold State.setAll
  exact foldl_view (view := State.boot) (f := fun s e => s.setBoth e.1 e.2) (fun _ _ => rfl) m s

theorem earlySetApplied_applies {s : State} {m : AMap Val} (hchosen : s.boot.patternChosen = true) (hopen : s.boot.earlySet = false)
    (hpat : s.boot.hasPattern = true) (hschema : s.nat K.bootPatternSchema = 5)
    (hearly : earlySet { s with boot := { s.boot with earlySet := true } } (s.flash.cfg (s.nat K.bootPatternSlot)) = some m) :
    Completes .earlySetApplied s fun t => t.boot.earlySet = true ∧ t.conf = m.foldl (fun c e => AMap.put c e.1 e.2) s.conf := fun hclk => by
  let u : State := { s with boot := { s.boot with earlySet := true } }
  have hschema' : u.nat K.bootPatternSchema = 5 := hschema
  have hearly' : earlySet { s with boot := { s.boot with earlySet := true } }
      (s.flash.cfg (State.nat { s with boot := { s.boot with earlySet := true } } K.bootPatternSlot)) = some m := hearly
  have hexec : execEarlySetApplied s = .next (State.lanesCommitted u (State.timeCommitted u (u.setAll m))).listsAtOnce := by
    rw [execEarlySetApplied, whenClocked_of_clocked hclk, if_neg (by simp [hchosen, hopen])]
    show (if (!u.boot.hasPattern || u.nat K.bootPatternSchema != 5) = true then _ else _) = _
    rw [if_neg (by rw [hschema']; simp [u, hpat])]
    simp only [hearly']
    rfl
  have hparts : (State.lanesCommitted u (State.timeCommitted u (u.setAll m))).listsAtOnce.startParts = (u.setAll m).startParts := by
    rw [State.listsAtOnce_startParts, State.lanesCommitted_startParts, State.timeCommitted_startParts]
  obtain ⟨hset, -, -, hconf⟩ := State.startParts_eq hparts
  exact ⟨_, hexec, by rw [hset, State.setAll_boot], hconf.trans (u.setAll_conf m)⟩

/-! ## Firmware and the Fast Responder (R412, R413, R434, R444) -/

/-- What the boot choice sets beside the selector: the record of start-up and the Fabric. -/
def State.choiceParts (s : State) : BootSt × FabSt := (s.boot, s.fab)

theorem activeFirmwareVerified_verifies {s : State} (hearly : s.boot.earlySet = true) (hopen : s.boot.fwVerified = false)
    (hstay : s.boot.stayBooting = false) : Completes .activeFirmwareVerified s fun t =>
      (bootChoice s ≠ none → t.boot = { s.boot with fwVerified := true } ∧ t.fab.selvLocked = true ∧ t.fab.windowsOpen = true) ∧
        (bootChoice s = none → t.boot = { s.boot with stayBooting := true } ∧ t.fab = s.fab) := fun hclk => by
  have hguard : (!s.boot.earlySet || s.boot.fwVerified || s.boot.stayBooting) = false := by simp [hearly, hopen, hstay]
  cases hchoice : bootChoice s with
  | none =>
    have hexec : execActiveFirmwareVerified s = .next { s with boot := { s.boot with stayBooting := true } } := by
      rw [execActiveFirmwareVerified, whenClocked_of_clocked hclk, hguard]
      simp [hchoice]
    exact ⟨_, hexec, by simp, fun _ => ⟨rfl, rfl⟩⟩
  | some choice =>
    obtain ⟨slot, trial, reverted⟩ := choice
    let u : State := { s with
      flash := writeSelector s.flash slot trial, boot := { s.boot with fwVerified := true }
      fab := { s.fab with selvLocked := true, windowsOpen := true } }
    let v : State := u.showSlot slot (if trial = 2 then 5 else 4)
    have hexec : execActiveFirmwareVerified s = .next (if reverted = true then v.raise { src := 585 } else v) := by
      rw [execActiveFirmwareVerified, whenClocked_of_clocked hclk, hguard]
      simp only [hchoice]
      rfl
    have hparts : (if reverted = true then v.raise { src := 585 } else v).choiceParts = u.choiceParts :=
      State.raise_if_view (view := State.choiceParts) (fun s e => by simp [State.choiceParts]) _ v _
    exact ⟨_, hexec, fun _ => ⟨congrArg Prod.fst hparts, (congrArg (fun x => x.2.selvLocked) hparts :),
      (congrArg (fun x => x.2.windowsOpen) hparts :)⟩, by simp⟩

theorem fastResponderStart_starts {s : State} (hfuses : s.boot.fusesRead = true) (hopen : s.boot.fastStarted = false)
    (htime : passed s 0 50000000 = true) :
    Completes .fastResponderStart s fun t => t = State.fastServe { s with boot := { s.boot with fastStarted := true } } := fun hclk => by
  refine ⟨_, ?_, rfl⟩
  show execFastResponderStart s = _
  rw [execFastResponderStart, whenClocked_of_clocked hclk, if_neg (by simp [hfuses, hopen, htime])]

/-! ## DRAM training (R379, R382) -/

/-- What a reset of the Beam's training settles: that it has ended, DDR_RESET_N, and what the Beam is fitted with. -/
def State.fitParts (s : State) : Bool × Bool × Nat × Nat := (s.boot.dramTrained, s.power.ddrReset, s.beam.ranks, s.beam.densityGb)

theorem State.fitParts_of_besideBeam {s t : State} (h : t.besideBeam = s.besideBeam) : t.fitParts = s.fitParts := (congrArg State.fitParts h :)

theorem State.fitParts_eq {s t : State} (h : t.fitParts = s.fitParts) : t.boot.dramTrained = s.boot.dramTrained ∧
    t.power.ddrReset = s.power.ddrReset ∧ t.beam.ranks = s.beam.ranks ∧ t.beam.densityGb = s.beam.densityGb := by
  simpa [State.fitParts] using h

theorem State.startJoint_besideRows (s : State) : s.startJoint.besideRows = s.besideRows := by
  rw [State.startJoint, State.showLooms_besideRows]
  exact foldl_besideRows (fun s l => s.startQual_besideRows l true false) _ s

/-- R379, R382: the Beam after its training: at the highest set point that is allowed and has trained, or failed. -/
def State.beamTrained (s : State) (points : List Nat) : State :=
  match points with
  | p :: _ => State.showBeam { s with beam := { s.beam with trained := true, setPoint := p } }
  | [] => s.beamFail 255 2

theorem State.beamTrained_besideBeam (s : State) (points : List Nat) : (s.beamTrained points).besideBeam = s.besideBeam := by
  cases points with
  | nil => exact s.beamFail_besideBeam 255 2
  | cons p ps => exact State.showBeam_besideBeam _

theorem dramTrained_trains {s : State} {ok : Bool} {ranks densityGb points : Nat} (hfw : s.boot.fwVerified = true)
    (hopen : s.boot.dramTrained = false) (hranks : ranks = 1 ∨ ranks = 2) (hdensity : densityGb = 8 ∨ densityGb = 12 ∨ densityGb = 16) :
    Completes (.dramTrained ok ranks densityGb points) s fun t =>
      t.boot.dramTrained = true ∧ t.power.ddrReset = false ∧ t.beam.ranks = ranks ∧ t.beam.densityGb = densityGb := fun hclk => by
  let u : State := { s with
    boot := { s.boot with dramTrained := true }, power := { s.power with ddrReset := false }
    beam := { s.beam with ranks := ranks, densityGb := densityGb, trainedMask := if ok then points % 8 else 0,
                          mr4At := s.clk.ticks, idleSince := s.clk.ticks, window := nowNs s / 1000000 } }
  let v : State := u.eachBch fun x => { x with refiAt := s.clk.ticks * 25, marginAt := s.clk.ticks }
  let w : State := v.beamTrained (trainedFrom v (v.nat K.beamMaxSetPoint))
  have hguard : ¬ (!s.boot.fwVerified || s.boot.dramTrained || ranks = 0 || 2 < ranks || !([8, 12, 16] : List Nat).contains densityGb) = true := by
    rcases hranks with rfl | rfl <;> rcases hdensity with rfl | rfl | rfl <;> simp [hfw, hopen]
  have hexec : execDramTrained ok ranks densityGb points s = .next w.startJoint.follow := by
    rw [execDramTrained, whenClocked_of_clocked hclk, if_neg hguard]
    rfl
  have hparts : w.startJoint.follow.fitParts = u.fitParts :=
    State.fitParts_of_besideBeam (by
      rw [State.follow_besideBeam, State.besideBeam_of_besideRows w.startJoint_besideRows, State.beamTrained_besideBeam,
        State.eachBch_besideBeam])
  exact ⟨_, hexec, State.fitParts_eq hparts⟩

/-! ## Bolt and the boot commit (R412, R415, R418, R424, R425) -/

theorem State.reserveAreas_draft (s : State) : ∃ d, s.reserveAreas = { s with draft := d } ∧ d.queue = s.draft.queue := by
  unfold State.reserveAreas
  split
  · exact ⟨s.draft, rfl, rfl⟩
  · exact ⟨_, rfl, rfl⟩

/-- R415: Bolt is ready, before the boot commit enters the queue. -/
def State.boltStarts (s : State) : State :=
  let u := (State.restartWaits { s with boot := { s.boot with boltReady := true, configured := !s.boot.hasPattern } }).reserveAreas
  (u.setN K.bootBoltReadyUs (uptimeNs u / 1000 % 2 ^ 32)).setN K.fastBoltVersion (hdr (slotHeader u.flash (activeSlot u)) 12 4)

theorem State.boltStarts_leaves (s : State) : s.boltStarts.boot = { s.boot with boltReady := true, configured := !s.boot.hasPattern } ∧
    s.boltStarts.draft.queue = s.draft.queue := by
  unfold State.boltStarts
  obtain ⟨d, hu, hqueue⟩ :=
    (State.restartWaits { s with boot := { s.boot with boltReady := true, configured := !s.boot.hasPattern } }).reserveAreas_draft
  rw [hu]
  exact ⟨rfl, hqueue⟩

theorem boltReady_readies {s : State} (hqual : s.boot.qualified = true) (hopen : s.boot.boltReady = false) (hsafe : s.log.safe = false) :
    Completes .boltReady s fun t => t.boot.boltReady = true ∧
      (s.boot.hasPattern = true → s.draft.queue = [] → ∃ c, t.draft.queue = [c] ∧ c.kind = .boot) := fun hclk => by
  obtain ⟨hboot, hqueue⟩ := s.boltStarts_leaves
  have hpattern : s.boltStarts.boot.hasPattern = s.boot.hasPattern := by rw [hboot]
  let u : State := if s.boltStarts.boot.hasPattern = true then s.boltStarts.enqueue .selvedge 0xFFFFFFFF .boot [] else s.boltStarts
  have hexec : execBoltReady s = .next u.alignWeft.follow := by
    rw [execBoltReady, whenClocked_of_clocked hclk, if_neg (by simp [hqual, hopen, hsafe])]
    rfl
  obtain ⟨d, c, henqueue, hd, -, hkind, -⟩ := s.boltStarts.enqueue_draft .selvedge 0xFFFFFFFF .boot []
  have hu : u.boot = s.boltStarts.boot ∧ (s.boot.hasPattern = true → u.draft.queue = s.draft.queue ++ [c]) := by
    show State.boot (if _ then _ else _) = _ ∧ (_ → (State.draft (if _ then _ else _)).queue = _)
    rw [hpattern]
    cases s.boot.hasPattern with
    | false => exact ⟨rfl, by simp⟩
    | true => exact ⟨by rw [if_pos rfl, henqueue], fun _ => by rw [if_pos rfl, henqueue, ← hqueue, ← hd]⟩
  have hparts : u.alignWeft.follow.startParts = u.startParts := by rw [State.follow_startParts, State.alignWeft_startParts]
  obtain ⟨-, hready, hwaiting, -⟩ := State.startParts_eq hparts
  refine ⟨_, hexec, ?_, fun hpat hempty => ⟨c, ?_, hkind⟩⟩
  · rw [hready, hu.1, hboot]
  · rw [hwaiting, hu.2 hpat, hempty, List.nil_append]

theorem State.bootOutcome_boot (s : State) (cause : Nat) :
    (s.bootOutcome cause).boot = { s.boot with configured := true, defaulted := cause != 0 } := by
  unfold State.bootOutcome
  dsimp only
  rw [State.follow_boot, (State.raise_fields _ _).2.2.2.2.2.2.1]
  split <;> rfl

theorem State.bootOutcome_cause (s : State) {cause : Nat} (h : cause ≠ 0) : (s.bootOutcome cause).nat K.bootDefaultCause = cause := by
  unfold State.bootOutcome
  dsimp only
  rw [State.follow_nat _ (by decide), State.raise_nat, if_neg h, State.nat_setN]

/-- R424, R425: the outcome of the boot commit. -/
def State.bootCommitted (s : State) (c : Commit) (windows : List (Nat × Window)) (b : Bytes) : State :=
  match patternItems b with
  | .error r => (s.conclude c (.error r) windows).bootOutcome 5
  | .ok (items, dropped) =>
    match bootVerdict s items with
    | .error r => (s.conclude c (.error r) windows).bootOutcome 5
    | .ok d => ((s.conclude c (.ok d) windows).migrated (patField b 4 2) dropped).bootOutcome 0

theorem State.bootCommitted_configured (s : State) (c : Commit) (windows : List (Nat × Window)) (b : Bytes) :
    (s.bootCommitted c windows b).boot.configured = true := by
  have h (u : State) (cause : Nat) : (u.bootOutcome cause).boot.configured = true := congrArg BootSt.configured (u.bootOutcome_boot cause)
  unfold State.bootCommitted
  split
  · exact h _ _
  · split
    · exact h _ _
    · exact h _ _

theorem bootCommit_concludes {s : State} {c : Commit} {rest : List Commit} {windows : List (Nat × Window)} (hqueue : s.draft.queue = c :: rest)
    (hkind : c.kind = .boot) (hbolt : boltDown s = false) : Completes (.bootCommit windows) s fun t => t.boot.configured = true ∧
      ∀ r, patternItems (s.flash.cfg (s.nat K.bootPatternSlot)) = .error r → t.boot.defaulted = true ∧ t.nat K.bootDefaultCause = 5 := fun hclk => by
  have hexec : execBootCommit windows s = .next (s.bootCommitted c windows (s.flash.cfg (s.nat K.bootPatternSlot))) := by
    rw [execBootCommit, whenClocked_of_clocked hclk]
    simp only [hqueue]
    rw [if_neg (by simp [hbolt, hkind])]
    unfold State.bootCommitted
    cases patternItems (s.flash.cfg (s.nat K.bootPatternSlot)) with
    | error r => rfl
    | ok x =>
      obtain ⟨items, dropped⟩ := x
      dsimp only
      cases bootVerdict s items <;> rfl
  refine ⟨_, hexec, s.bootCommitted_configured c windows _, fun r hitems => ?_⟩
  have hrefused : s.bootCommitted c windows (s.flash.cfg (s.nat K.bootPatternSlot)) = (s.conclude c (.error r) windows).bootOutcome 5 := by
    rw [State.bootCommitted, hitems]
  rw [hrefused]
  exact ⟨congrArg BootSt.defaulted (State.bootOutcome_boot _ 5), State.bootOutcome_cause _ (by decide)⟩

/-! ## The inactive slot and the wait for the encode gate (R412, R417, R419, R443) -/

theorem State.heldOffer_none {s : State} (h : s.boot.heldOffers = []) (side : Nat) : s.heldOffer side = s := by
  rw [State.heldOffer, h]
  rfl

/-- R443: what is shown of the inactive slot. -/
def State.slotJudged (s : State) : State :=
  let slot := inactiveSlot s
  if (slotBlocks s.flash slot).isEmpty then s.showSlot slot 0
  else if slotValid s.fuses s.flash slot then (s.showSlot slot 3).raise { src := 580 }
  else (((s.showSlot slot 1).raise { src := 580 }).bump K.selvSignatureFailures).raise { src := 582 }

theorem State.slotJudged_boot (s : State) : s.slotJudged.boot = s.boot := by
  have hraise (u : State) (e : Ev) : (u.raise e).boot = u.boot := by simp
  unfold State.slotJudged
  dsimp only
  split
  · rfl
  · split
    · exact hraise _ _
    · exact (hraise _ _).trans (hraise _ _)

theorem imageVerified_verifies {s : State} (hconf : s.boot.configured = true) (hopen : s.boot.imageVerified = false)
    (hheld : s.boot.heldOffers = []) :
    Completes .imageVerified s fun t => t.boot = { s.boot with imageVerified := true } := fun hclk => by
  let u : State := { s.slotJudged with boot := { s.slotJudged.boot with imageVerified := true } }
  have hexec : execImageVerified s = .next ((u.heldOffer 0).heldOffer 1) := by
    rw [execImageVerified, whenClocked_of_clocked hclk, if_neg (by simp [hconf, hopen])]
    rfl
  have hboot : u.boot = { s.boot with imageVerified := true } := congrArg (fun b : BootSt => { b with imageVerified := true }) s.slotJudged_boot
  have hempty : u.boot.heldOffers = [] := by rw [hboot]; exact hheld
  refine ⟨_, hexec, ?_⟩
  rw [State.heldOffer_none hempty 0, State.heldOffer_none hempty 1]
  exact hboot

theorem encodeStartWaitExpiry_opens {s : State} (hconf : s.boot.configCommitted = true)
    (htime : passed s s.boot.committedAt (s.nat K.bootEncodeStartWaitS * 1000000000) = true) :
    Completes .encodeStartWaitExpiry s fun t => t = s.openGate ∧ t.conf = s.conf := fun hclk => by
  have hexec : execEncodeStartWaitExpiry s = .next s.openGate := by
    rw [execEncodeStartWaitExpiry, whenClocked_of_clocked hclk, if_pos (by simp [hconf, htime])]
  exact ⟨_, hexec, rfl, congrArg (fun x => x.2.2) s.openGate_startParts⟩

/-- Settles O2, point by point: each sets what it is to set, and what the operations it makes use of keep. -/
theorem pointsOfStartUp : Obligations.PointsOfStartUp := by
  unfold Obligations.PointsOfStartUp
  exact ⟨fun _ => spindleLock_runs, fun _ flashOk badKeys => fusesRead_reads flashOk badKeys, fun _ => patternChosen_chooses,
    fun _ => earlySetApplied_without, fun _ _ => earlySetApplied_applies, fun _ => activeFirmwareVerified_verifies,
    fun _ => fastResponderStart_starts, fun _ _ _ _ _ => dramTrained_trains, fun _ => boltReady_readies, fun _ _ _ _ => bootCommit_concludes,
    fun _ => imageVerified_verifies, fun _ => encodeStartWaitExpiry_opens⟩

end Sys2Proof.Machine
end
